-- ==== Sys2Proof/Word.lean ====
section
/-! DEFINITION. The words the model counts with: a byte of memory, and the fixed-number collections of like things. -/

namespace Sys2Proof

/-- One byte as memory holds it. -/
abbrev Byte := BitVec 8

/-- Memory as a list of listed bytes; `Machine/Operands.lean` reads and writes it. -/
abbrev Memory := List Host.Cell

/-- Item `i` of a fixed number of like things; the default item where there is none of that number. -/
def get {α : Type} [Inhabited α] {n : Nat} (v : Vector α n) (i : Nat) : α :=
  if h : i < n then v[i] else default

/-- The collection with item `i` changed by `f`; unchanged where there is no item of that number. -/
def upd {α : Type} {n : Nat} (v : Vector α n) (i : Nat) (f : α → α) : Vector α n :=
  if h : i < n then v.set i (f v[i]) else v

/-- Every item changed by a function of its number. -/
def updAll {α : Type} {n : Nat} (v : Vector α n) (f : Nat → α → α) : Vector α n :=
  v.mapIdx f

end Sys2Proof
end

