-- ==== Sys2Proof/Syntax.lean ====
section
/-! DEFINITION. The commands the block takes: one constructor per row of the opcode table, in its order. Every command
carries first the block time `t`, in nanoseconds, at which it reaches the block (log entry 2); the rows that are device
commands carry the mailbox line and the SQ counter of the consumed entry they execute (log entry 3). -/

namespace Sys2Proof

/-- Who makes a register or memory access: the supervisor, a session core, the legal core pair, the PCIe host through
BAR0 or BAR2, or the boot ROM's loader (R28, R38). -/
inductive Master where
  | sup
  | ses (n : Nat)
  | legal
  | pcie
  | rom
deriving DecidableEq, Repr

/-- The header of a received management frame (R91), with the verdict of AES-256-GCM on its tag. -/
structure MgmtFrame where
  /-- Receiving port code: 3 ETH0, 4 ETH1, 5 Oluzel-relayed. -/
  port : Nat
  /-- Where it came from: the sender's IPv4 address, or over TC3 its node and member. -/
  src : Nat
  /-- Destination IPv4 address, UDP port and VLAN tag of the datagram; of no meaning on port 5. -/
  addr : Nat
  udp : Nat
  vlan : Option Nat
  magic : Nat
  ver : Nat
  pair : Nat
  dir : Nat
  len : Nat
  epoch : Nat
  fseq : Nat
  tagOk : Bool
deriving DecidableEq, Repr

/-- A management frame's fields fit their widths. -/
def MgmtFrame.wf (f : MgmtFrame) : Bool :=
  3 ≤ f.port && f.port ≤ 5 && f.src < 2 ^ 32 && f.addr < 2 ^ 32 && f.udp < 65536 && f.vlan.all (· < 4096) && f.magic < 65536
    && f.ver < 256 && f.pair < 16 && f.dir < 256 && f.len < 65536 && f.epoch < 2 ^ 32 && f.fseq < 2 ^ 48

/-- A memory fault that a pass of the scrubber, or a read, finds (R30, R33): the word's address, whether one bit was wrong
(corrected) or two, and, where the spec lays out no addresses inside the region, the item that holds the word: the number of a
key slot, or of the waiting frame whose buffer it is. -/
structure EccFind where
  addr : Nat
  double : Bool
  item : Nat := 0
deriving DecidableEq, Repr

/-- A configuration chunk or command a duplex partner passes over TC3 (R519). -/
inductive PartnerReq where
  | stage (ofs total : Nat) (last : Bool) (data : List Nat)
  | commit (expect : Nat) (force : Bool)
  | rollback (expect : Nat)
  | discard
deriving DecidableEq, Repr

/-- Every element is a byte. -/
def bytesOk (l : List Nat) : Bool := l.all (fun b => b < 256)

/-- Every element is a 32-bit word. -/
def wordsOk (l : List Nat) : Bool := l.all (fun w => w < 2 ^ 32)

/-- A partner's request fits its fields. -/
def PartnerReq.wf : PartnerReq → Bool
  | .stage o n _ d => o < 2 ^ 32 && n < 2 ^ 32 && bytesOk d && d.length ≤ 65536
  | .commit e _ => e < 2 ^ 32
  | .rollback e => e < 2 ^ 32
  | .discard => true

/-- A contactor: the matrix contactor of group `g` toward output `n`, or the output contactor of `n` (R199, R200). -/
inductive CtrRef where
  | mtx (g n : Nat)
  | out (n : Nat)
deriving DecidableEq, Repr

/-- The contactor exists. -/
def CtrRef.wf : CtrRef → Bool
  | .mtx g n => g < 6 && n < 4
  | .out n => n < 4

/-- The tracking modes a session core or placement asks for (R209). -/
inductive TrkReq where
  | coinOut | coinBus | ratio
deriving DecidableEq, Repr

/-- The bits a channel's modulator has sent, the newest first: enough for the longest main filter's window (R178). -/
def windowOk (w : List Bool) : Bool := w.length ≤ 768

/-- A signed 32-bit value. -/
def i32 (x : Int) : Bool := -2147483648 ≤ x && x < 2147483648

/-- A DEMAND payload (R162) as received by this device, with the node ID of its sender. -/
structure DemandMsg where
  node : Nat
  typ : Nat
  ver : Nat
  leave : Bool
  join : Bool
  ack : Bool
  duplex : Bool
  fromLevel : Nat
  toLevel : Nat
  round : Nat
  /-- Eight class demands, class 0 first. -/
  demand : List Nat
  cmin : Nat
  draw : Int
  floor : Nat
  limit : Nat
  upUs : Nat
  downUs : Nat
  ackRound : Nat
deriving DecidableEq, Repr

/-- A 32-bit field. -/
def w32 (n : Nat) : Bool := n < 2 ^ 32

/-- A DEMAND's fields fit their widths. -/
def DemandMsg.wf (m : DemandMsg) : Bool :=
  m.node < 4096 && m.typ < 256 && m.ver < 256 && m.fromLevel < 16 && m.toLevel < 16 && w32 m.round
    && m.demand.length == 8 && wordsOk m.demand && w32 m.cmin && -2147483648 ≤ m.draw && m.draw < 2147483648
    && w32 m.floor && w32 m.limit && m.upUs < 65536 && m.downUs < 65536 && w32 m.ackRound

/-- A GRANT payload (R163) as received by this device. -/
structure GrantMsg where
  typ : Nat
  ver : Nat
  renewal : Bool
  fallback : Bool
  refused : Bool
  fromLevel : Nat
  toLevel : Nat
  round : Nat
  grant : Nat
  leaseEnd : Nat
  commit : Nat
deriving DecidableEq, Repr

/-- A GRANT's fields fit their widths. -/
def GrantMsg.wf (m : GrantMsg) : Bool :=
  m.typ < 256 && m.ver < 256 && m.fromLevel < 16 && m.toLevel < 16 && w32 m.round && w32 m.grant && w32 m.leaseEnd
    && w32 m.commit

/-- An INTAKE payload (R164) as received by this device, with the node ID of its sender. -/
structure IntakeMsg where
  node : Nat
  typ : Nat
  ver : Nat
  set : Nat
  round : Nat
  pImport : Nat
  eImport : Nat
deriving DecidableEq, Repr

/-- An INTAKE's fields fit their widths. -/
def IntakeMsg.wf (m : IntakeMsg) : Bool :=
  m.node < 4096 && m.typ < 256 && m.ver < 256 && m.set < 2 && w32 m.round && w32 m.pImport && m.eImport < 2 ^ 48

/-- A frame received from a CAN bus, with the device time of its start of frame (R324, R326). -/
structure CanFrame where
  id : Nat
  ide : Bool
  fdf : Bool
  brs : Bool
  esi : Bool
  remote : Bool
  dlc : Nat
  data : List Nat
  sof : Nat
deriving DecidableEq, Repr

/-- Bytes a DLC stands for (ISO 11898-1). -/
def dlcBytes (fdf : Bool) (dlc : Nat) : Nat :=
  if dlc ≤ 8 then dlc
  else if fdf then (match dlc with
    | 9 => 12
    | 10 => 16
    | 11 => 20
    | 12 => 24
    | 13 => 32
    | 14 => 48
    | _ => 64)
  else 8

/-- A frame's fields fit their widths. -/
def CanFrame.wf (f : CanFrame) : Bool :=
  f.id < (if f.ide then 2 ^ 29 else 2 ^ 11) && f.dlc < 16 && f.sof < 2 ^ 64
    && f.data.length == (if f.remote then 0 else dlcBytes f.fdf f.dlc) && f.data.all (fun b => b < 256)

/-- What ends or disturbs a frame on the bus (R330, R332): a lost arbitration of the object sending, a missing
acknowledgement of it, another error of it (its LEC code), or an error on reception (its LEC code, counted 1 or 8). -/
inductive CanErr where
  | arbitration
  | ack
  | sending (lec : Nat)
  | receiving (lec : Nat) (by8 : Bool)
deriving DecidableEq, Repr

/-- An error's code is one of CAN_STAT.LEC's. -/
def CanErr.wf : CanErr → Bool
  | .sending l => l == 1 || l == 2 || l == 4 || l == 5 || l == 6
  | .receiving l _ => l == 1 || l == 2 || l == 4 || l == 5 || l == 6
  | _ => true

/-- A mirror record's entries of the Sluice tables (R464): index, role table or allocation table, 128 bytes. -/
structure SlcEntry where
  index : Nat
  isRole : Bool
  bytes : List Nat
deriving DecidableEq, Repr

/-- An entry fits. -/
def SlcEntry.wf (e : SlcEntry) : Bool :=
  e.index < (if e.isRole then 4096 else 8192) && e.bytes.length == 128 && bytesOk e.bytes

/-- One group of a PWM_STATE record as received (R464). -/
structure PwmGroupRec where
  valley : Nat
  per : Nat
  switching : Nat
  excluded : Nat
  u : Int
  mtxCmd : Nat
deriving DecidableEq, Repr

/-- A group of a PWM_STATE record fits. -/
def PwmGroupRec.wf (r : PwmGroupRec) : Bool :=
  r.valley < 2 ^ 64 && r.per < 65536 && r.switching < 64 && r.excluded < 64 && i32 r.u && r.mtxCmd < 16

/-- A part of the full state transfer (R470): what mirror record it carries. -/
inductive ResyncPart where
  | slc (entries : List SlcEntry)
  | snap (slot nsec release : Nat) (out : Int) (states : List Nat)
  | ckpt (n seq state proto msgNo time : Nat) (iReq : Int) (vTgt vOv flags : Nat) (rest lastRsp : List Nat)
  | pwm (groups : List PwmGroupRec)
  | load (lswCmd pickupDone mxpOn mxpEco : Nat) (duty : List Nat)
  | cable (n : Nat) (temps : List Int) (iCap : Nat) (pend : List Nat)
  | prepay (n : Nat) (account emerg shortfall : Int) (flags : Nat)
deriving DecidableEq, Repr

/-- A transfer part fits. -/
def ResyncPart.wf : ResyncPart → Bool
  | .slc l => l.all SlcEntry.wf
  | .snap s n r o st => s < 64 && n < 9 && r < 2 ^ 64 && i32 o && bytesOk st && st.length == 12 * n
  | .ckpt n seq state proto msgNo time iReq vTgt vOv flags rest lastRsp =>
    n < 4 && seq < 2 ^ 32 && state < 16 && proto < 8 && msgNo < 2 ^ 32 && time < 2 ^ 64 && i32 iReq && vTgt < 2 ^ 32 && vOv < 2 ^ 32
      && flags < 16 && bytesOk rest && bytesOk lastRsp && lastRsp.length ≤ 2048
  | .pwm groups => groups.length == 6 && groups.all PwmGroupRec.wf
  | .load l p o e d => l < 2 ^ 32 && p < 2 ^ 32 && o < 2 ^ 64 && e < 2 ^ 64 && d.length == 4 && d.all (fun x => x ≤ 1000)
  | .cable n t c p => n < 4 && t.length == 6 && t.all i32 && c < 2 ^ 32 && p.length == 4 && p.all (fun x => x < 2 ^ 64)
  | .prepay n _ _ _ f => n < 4 && f < 2 ^ 32

/-- A tone map (R482): the loading of each of the 2,130 carriers, 0 to 10 bits, and the code rate, 0 for 1/2, 1 for 2/3,
2 for 5/6. -/
structure ToneMap where
  loads : List Nat
  rate : Nat
deriving DecidableEq, Repr, Inhabited

/-- A tone map fits. -/
def ToneMap.wf (m : ToneMap) : Bool := m.loads.length == 2130 && m.loads.all (fun b => b ≤ 10) && m.rate < 3

/-- A Fenline MAC frame received (R487), with the verdict of its tag, the FEC blocks by slot with their verdicts, and
what blanking took (R484). -/
structure FenFrame where
  dst : Nat
  bcast : Bool
  src : Nat
  next : Nat
  typ : Nat
  prio : Nat
  hops : Nat
  fcnt : Nat
  tx : Nat
  epoch : Nat
  tagOk : Bool
  body : List Nat
  /-- Slot and verdict of each FEC block, in order. -/
  blocks : List (Nat × Bool)
  blanked : Nat
  erased : Nat
deriving DecidableEq, Repr

/-- A Fenline frame's fields fit. -/
def FenFrame.wf (f : FenFrame) : Bool :=
  f.dst < 4096 && f.src < 4096 && f.next < 4096 && f.typ < 16 && f.prio < 4 && f.hops ≤ 6 && w32 f.fcnt && f.tx < 4096
    && w32 f.epoch && bytesOk f.body && f.blocks.all (fun b => b.1 < 8)

/-- One neighbour as a link-metric report gives it: node and the rate at which the sender receives from it, 0.1 Mbit/s. -/
structure MetricRow where
  node : Nat
  rate : Nat
deriving DecidableEq, Repr

/-- The operations of the crypto engine (R413), as they bear on the type of the key they use. -/
inductive CryptoKind where
  | aes128 | aes256 | hash | sign256 | verify256 | sign384 | verify384 | ecdh256 | ecdh384 | random
deriving DecidableEq, Repr, Inhabited

/-- A TRAIN record as four blocks bring it (R424), with the verdict of its CRC. -/
structure TrainRec where
  deviceId : Nat
  node : Nat
  member : Nat
  pair : Bool
  domain : Nat
  port : Nat
  ack : Bool
  crcOk : Bool
deriving DecidableEq, Repr

/-- A TRAIN record's fields fit. -/
def TrainRec.wf (r : TrainRec) : Bool :=
  r.deviceId < 2 ^ 128 && r.node < 4096 && r.member < 4 && r.domain < 65536 && r.port < 4

/-- A frame received on an Oluzel port (R425), with the verdicts of its checks (R426). -/
structure OzFrame where
  hcrcOk : Bool
  fcsOk : Bool
  aborted : Bool
  tc : Nat
  ver : Nat
  bcast : Bool
  seg : Bool
  ctrl : Bool
  dst : Nat
  dstMember : Nat
  src : Nat
  srcMember : Nat
  hops : Nat
  msg : Nat
  segIdx : Nat
  last : Bool
  payload : List Nat
deriving DecidableEq, Repr

/-- A frame's fields fit. -/
def OzFrame.wf (f : OzFrame) : Bool :=
  f.tc < 5 && f.ver < 4 && f.dst < 4096 && f.dstMember < 4 && f.src < 4096 && f.srcMember < 4 && f.hops < 4096
    && f.msg < 65536 && f.segIdx < 32768 && bytesOk f.payload && f.payload.length ≤ 4096

/-- One port in a TOPO record (R432): the neighbour, its port, the link delay and the TC1 round load in ns; for a Fenline
leaf of a gateway, the round trip to it in µs (R492), else 0. -/
structure TopoPort where
  port : Nat
  nbr : Nat
  nbrPort : Nat
  delay : Nat
  sh : Nat
  trip : Nat := 0
deriving DecidableEq, Repr, Inhabited

/-- A port of a TOPO record fits. -/
def TopoPort.wf (p : TopoPort) : Bool :=
  p.port < 4 && p.nbr < 4096 && p.nbrPort < 4 && p.delay < 2 ^ 32 && p.sh < 2 ^ 32 && p.trip < 2 ^ 32

/-- A PTP message as its profile reads it (R447); times in ns by the device's timestamps. -/
inductive PtpMsg where
  /-- Sync: sequence, one-step, origin time and correction, receive time. -/
  | sync (seq : Nat) (oneStep : Bool) (origin rx : Int)
  | followUp (seq : Nat) (origin : Int)
  /-- Delay_Resp or Pdelay_Resp: sequence, the far end's receive time and its turnaround, own receive time. -/
  | delayResp (seq : Nat) (t2 turn rx : Int)
  /-- Delay_Req or Pdelay_Req from the far end: sequence and receive time. -/
  | delayReq (seq : Nat) (rx : Int)
  /-- Announce: the sender is better than this port by the best master clock algorithm; TAI - UTC. -/
  | announce (better : Bool) (utc : Nat)
  | management
deriving DecidableEq, Repr

/-- A PTP message's fields fit. -/
def PtpMsg.wf : PtpMsg → Bool
  | .sync q _ _ _ => q < 65536
  | .followUp q _ => q < 65536
  | .delayResp q _ _ _ => q < 65536
  | .delayReq q _ => q < 65536
  | .announce _ u => u < 65536
  | .management => true

/-- What one decoded vehicle message asks for (R306, R309, R310). -/
inductive VehReq where
  /-- The handshake of a protocol that has no supportedAppProtocol (types 3 and 4), by its bit in PROTO plus 1. -/
  | handshake (proto : Nat)
  /-- Session parameters: V_EV_MAX mV, I_EV_MAX mA, P_EV_MAX W, I_DIS_MAX mA, SOC %, E_TARGET Wh, EV_MAC, EV_ID. -/
  | params (vMax iMax pMax iDis soc eTarget mac evId : Nat)
  /-- A contract certificate chain, with the verdict of its validation. -/
  | contract (chainOk : Bool)
  /-- TLS handshake or record, with its outcome. -/
  | tls (ok : Bool)
  | cableCheck
  | precharge (vTgt : Nat)
  /-- A charge loop: target current mA, negative to discharge, and target voltage mV. -/
  | charge (iReq : Int) (vTgt : Nat)
  | stop
  | other
deriving DecidableEq, Repr

/-- A vehicle message's fields fit. -/
def VehReq.wf : VehReq → Bool
  | .handshake p => 1 ≤ p && p ≤ 7
  | .params v i p d soc e mac evId => v < 2 ^ 32 && i < 2 ^ 32 && p < 2 ^ 32 && d < 2 ^ 32 && soc < 256 && e < 2 ^ 32
      && mac < 2 ^ 48 && evId < 2 ^ 128
  | .precharge v => v < 2 ^ 32
  | .charge i v => i32 i && v < 2 ^ 32
  | _ => true

/-- The messages of SLAC as its outcome in the modem (R304): a match report with its attenuation, or a request. -/
inductive SlacMsg where
  | start
  | matched (atten : Nat)
  | secondVehicle
deriving DecidableEq, Repr

/-- The commands of the block. -/
inductive Instr where
  /-- RAIL_OUT_OF_RANGE (R538). -/
  | railOutOfRange (t : Nat) (vbat : Bool)
  /-- RAILS_GOOD (R42). -/
  | railsGood (t : Nat)
  /-- M1_RELEASE (R54). -/
  | m1Release (t : Nat) (testEn psOff : Bool) (readA readB : Nat)
  /-- BOOT_COMPLETE (R63). -/
  | bootComplete (t : Nat) (cfgActiveOk cfgPreviousOk : Bool)
  /-- HEARTBEAT_LOSS (R12). -/
  | heartbeatLoss (t : Nat)
  /-- KEEPER_GATE_EN_REQUEST (R12). -/
  | keeperGateEnRequest (t : Nat)
  /-- ROOT_LOSS (R25). -/
  | rootLoss (t : Nat)
  /-- PCIE_REFCLK_LOSS (R27). -/
  | pcieRefclkLoss (t : Nat)
  /-- RESET_PIN (R45). -/
  | resetPin (t : Nat) (low : Bool)
  /-- WATCHDOG_EXPIRY (R45). -/
  | watchdogExpiry (t : Nat)
  /-- LOCKSTEP_MISMATCH (R47). -/
  | lockstepMismatch (t : Nat)
  /-- KEEPER_MXP_REPEAT (R49). -/
  | keeperMxpRepeat (t : Nat)
  /-- CONTACTOR_HOLD_EXPIRY (R49). -/
  | contactorHoldExpiry (t : Nat)
  /-- HTR_LIMIT_EXPIRY (R49). -/
  | htrLimitExpiry (t : Nat)
  /-- POWER_WARNING (R56). -/
  | powerWarning (t : Nat)
  /-- EMERGENCY_SAVE (R357). -/
  | emergencySave (t : Nat)
  /-- POWER_WARNING_CLEARED (R57). -/
  | powerWarningCleared (t : Nat)
  /-- POWER_WARN_CLEAR_TIMER (R57). -/
  | powerWarnClearTimer (t : Nat)
  /-- SCRUB_PASS (R30). -/
  | scrubPass (t : Nat) (finds : List EccFind)
  /-- ERROR_RAISED (R65). -/
  | errorRaised (t : Nat) (subsys code cls arg : Nat)
  /-- HANDLING_WINDOW_CLOSE (R64). -/
  | handlingWindowClose (t : Nat) (id : Nat)
  /-- PCIE_LINK_DOWN (R70). -/
  | pcieLinkDown (t : Nat)
  /-- PCIE_HOT_RESET (R70). -/
  | pcieHotReset (t : Nat)
  /-- QUEUE_CREATE (R72). -/
  | queueCreate (t : Nat) (n : Nat) (word : Nat)
  /-- QUEUE_RUNDOWN (R76). -/
  | queueRundown (t : Nat) (n : Nat)
  /-- QUEUE_RUNDOWN_DONE (R76). -/
  | queueRundownDone (t : Nat) (n : Nat)
  /-- SQ_DOORBELL (R74). -/
  | sqDoorbell (t : Nat) (n : Nat) (tail : Nat)
  /-- CQ_DOORBELL (R75). -/
  | cqDoorbell (t : Nat) (n : Nat) (head : Nat)
  /-- ENTRY_CONSUME (R83). -/
  | entryConsume (t : Nat) (ecc : Nat) (host : List Nat)
  /-- MBX_IRQ_WRITE (R88). -/
  | mbxIrqWrite (t : Nat) (n : Nat) (word : Nat)
  /-- CQ_IRQ_TIMER (R88). -/
  | cqIrqTimer (t : Nat) (n : Nat)
  /-- HOST_SLEEP_SET (R89). -/
  | hostSleepSet (t : Nat) (spi : Bool) (asleep : Bool)
  /-- MGMT_SUBMIT (R93). -/
  | mgmtSubmit (t : Nat) (f : MgmtFrame) (first : Nat) (entries : List (List Nat))
  /-- MGMT_HOST_CREDIT (R93). -/
  | mgmtHostCredit (t : Nat) (f : MgmtFrame) (head : Nat)
  /-- MGMT_DATA (R93). -/
  | mgmtData (t : Nat) (f : MgmtFrame) (ofs : Nat) (data : List Nat)
  /-- MGMT_CREDIT_TIMER (R93). -/
  | mgmtCreditTimer (t : Nat) (n : Nat)
  /-- MGMT_RESEND_TIMER (R93). -/
  | mgmtResendTimer (t : Nat) (n : Nat)
  /-- ARP_REQUEST (R90). -/
  | arpRequest (t : Nat) (mac : Nat) (addr : Nat)
  /-- ICMP_ECHO (R90). -/
  | icmpEcho (t : Nat) (mac : Nat) (addr : Nat) (data : List Nat)
  /-- SPI_WRITE (R95). -/
  | spiWrite (t : Nat) (addr : Nat) (words : List Nat) (crc : Nat)
  /-- SPI_READ (R95). -/
  | spiRead (t : Nat) (addr n : Nat)
  /-- V1_GO (R96). -/
  | v1Go (t : Nat) (spi : Bool)
  /-- V1_DONE_CLEAR (R96). -/
  | v1DoneClear (t : Nat) (spi : Bool)
  /-- V1_DDATA_ACCESS (R95). -/
  | v1DdataAccess (t : Nat) (spi write : Bool) (word : Nat)
  /-- REG_WRITE (R9). -/
  | regWrite (t : Nat) (m : Master) (addr word : Nat)
  /-- OWN_CHALLENGE (R505). -/
  | ownChallenge (t : Nat) (line seq : Nat)
  /-- OWN_CLAIM (R97). -/
  | ownClaim (t : Nat) (line seq : Nat) (sigOk : Bool)
  /-- OWN_HEARTBEAT (R97). -/
  | ownHeartbeat (t : Nat) (line seq : Nat)
  /-- OWN_HB_WRITE (R97). -/
  | ownHbWrite (t : Nat)
  /-- OWN_HANDOVER (R100). -/
  | ownHandover (t : Nat) (line seq : Nat)
  /-- OWN_RELEASE (R505). -/
  | ownRelease (t : Nat) (line seq : Nat)
  /-- OWN_STATUS (R505). -/
  | ownStatus (t : Nat) (line seq : Nat)
  /-- ELECTION_WINDOW_CLOSE (R98). -/
  | electionWindowClose (t : Nat)
  /-- OWN_HB_LATE (R102). -/
  | ownHbLate (t : Nat)
  /-- OWN_HB_LAPSE (R99). -/
  | ownHbLapse (t : Nat)
  /-- ETH_LINK_CHANGE (R102). -/
  | ethLinkChange (t : Nat) (mac : Nat) (up : Bool)
  /-- ETH_FRAME_RX (R102). -/
  | ethFrameRx (t : Nat) (mac : Nat) (fcsOk bufferFree : Bool)
  /-- T1S_LINK_CHANGE (R102). -/
  | t1sLinkChange (t : Nat) (port : Nat) (up : Bool)
  /-- EVENT_SOURCE_FIRE (R105). -/
  | eventSourceFire (t : Nat) (src : Nat) (level : Bool)
  /-- STORM_WINDOW (R117). -/
  | stormWindow (t : Nat)
  /-- EVG_CLAIM (R107). -/
  | evgClaim (t : Nat) (m : Master) (tgt src : Nat)
  /-- EVG_EOI (R108). -/
  | evgEoi (t : Nat) (m : Master) (tgt src : Nat)
  /-- EVG_SETPEND (R111). -/
  | evgSetpend (t : Nat) (m : Master) (k word : Nat)
  /-- EVG_CLRPEND (R111). -/
  | evgClrpend (t : Nat) (m : Master) (k word : Nat)
  /-- EVG_SRC_CFG_WRITE (R113). -/
  | evgSrcCfgWrite (t : Nat) (m : Master) (src word : Nat)
  /-- EVG_STORMED_WRITE (R117). -/
  | evgStormedWrite (t : Nat) (m : Master) (k word : Nat)
  /-- WAKE_LATCH_EDGE (R115). -/
  | wakeLatchEdge (t : Nat) (src : Nat) (stopped masked : Bool)
  /-- DIN_DEBOUNCE_EXPIRY (R118). -/
  | dinDebounceExpiry (t : Nat) (din : Nat) (level : Bool)
  /-- EVG_STATUS (R509). -/
  | evgStatus (t : Nat) (line seq : Nat)
  /-- EVG_SRC_SET (R509). -/
  | evgSrcSet (t : Nat) (line seq : Nat)
  /-- EVG_STORM_RELEASE (R509). -/
  | evgStormRelease (t : Nat) (line seq : Nat)
  /-- EVG_WAIT (R509). -/
  | evgWait (t : Nat) (line seq : Nat)
  /-- EVG_WAIT_END (R501). -/
  | evgWaitEnd (t : Nat) (line seq : Nat) (timeout : Bool)
  /-- TARGET_TICK (R16). -/
  | targetTick (t : Nat)
  /-- SHED_COMMIT (R171). -/
  | shedCommit (t : Nat) (op : Nat)
  /-- SHED_HOLDOFF_EXPIRY (R171). -/
  | shedHoldoffExpiry (t : Nat) (op : Nat)
  /-- GROUP_RELEASE (R172). -/
  | groupRelease (t : Nat) (pg : Nat)
  /-- ROUND_START (R159). -/
  | roundStart (t : Nat) (paux : Nat) (draw : Int) (intake0 intake1 : Nat)
  /-- DEMAND (R154). -/
  | demand (t : Nat) (m : DemandMsg)
  /-- ROLE_WAIT_EXPIRY (R154). -/
  | roleWaitExpiry (t : Nat) (role : Nat)
  /-- ROOT_PASS (R155). -/
  | rootPass (t : Nat) (role : Nat)
  /-- GRANT (R155). -/
  | grant (t : Nat) (m : GrantMsg)
  /-- JOIN_TIMEOUT (R138). -/
  | joinTimeout (t : Nat)
  /-- INTAKE (R164). -/
  | intake (t : Nat) (m : IntakeMsg)
  /-- LEAF_ROUND_START (R489). -/
  | leafRoundStart (t : Nat) (paux : Nat) (draw : Int)
  /-- SLC_STATUS (R506). -/
  | slcStatus (t : Nat) (line seq : Nat)
  /-- SLC_TABLE_READ (R506). -/
  | slcTableRead (t : Nat) (line seq : Nat)
  /-- SLC_MAP_READ (R506). -/
  | slcMapRead (t : Nat) (line seq : Nat)
  /-- SLC_PLACE_READ (R506). -/
  | slcPlaceRead (t : Nat) (line seq : Nat)
  /-- SLC_CLASS_SET (R506). -/
  | slcClassSet (t : Nat) (line seq : Nat)
  /-- GROUP_VALLEY (R181). -/
  | groupValley (t : Nat) (g : Nat) (vg : List Bool)
  /-- RESPREAD_DONE (R187). -/
  | respreadDone (t : Nat) (g : Nat)
  /-- PWM_LOAD_POINT (R184). -/
  | pwmLoadPoint (t : Nat) (leg : Nat) (peak : Bool) (current : List Bool)
  /-- DCLINK_CHECK (R191). -/
  | dclinkCheck (t : Nat) (chans : List (List Bool))
  /-- LEG_OC_LIMIT (R192). -/
  | legOcLimit (t : Nat) (leg : Nat) (fast : List Bool)
  /-- LEG_OC_NEG (R192). -/
  | legOcNeg (t : Nat) (leg : Nat) (fast : List Bool)
  /-- LEG_OC_TRIP (R192). -/
  | legOcTrip (t : Nat) (leg : Nat) (fast : List Bool)
  /-- LEG_OC_LATCH (R192). -/
  | legOcLatch (t : Nat) (leg : Nat)
  /-- GFLT_FAULT (R194). -/
  | gfltFault (t : Nat) (leg : Nat) (low : Bool)
  /-- MATRIX_CLOSE_REQUEST (R199). -/
  | matrixCloseRequest (t : Nat) (g n : Nat)
  /-- CONTACTOR_CLOSE_TIMEOUT (R200). -/
  | contactorCloseTimeout (t : Nat) (c : CtrRef)
  /-- CONTACTOR_OPEN_REQUEST (R203). -/
  | contactorOpenRequest (t : Nat) (c : CtrRef)
  /-- CONTACTOR_ZERO_REACHED (R203). -/
  | contactorZeroReached (t : Nat) (c : CtrRef)
  /-- OPEN_NOT_ZERO (R203). -/
  | openNotZero (t : Nat) (c : CtrRef)
  /-- CONTACTOR_WELD (R203). -/
  | contactorWeld (t : Nat) (c : CtrRef)
  /-- BUS_BLEED_EXPIRY (R212). -/
  | busBleedExpiry (t : Nat) (n : Nat)
  /-- PWR_STATUS (R506). -/
  | pwrStatus (t : Nat) (line seq : Nat)
  /-- PWR_FAULT_CLEAR (R197). -/
  | pwrFaultClear (t : Nat) (line seq : Nat)
  /-- PWR_LEG_EXCLUDE (R506). -/
  | pwrLegExclude (t : Nat) (line seq : Nat)
  /-- PWR_MDAT_READ (R506). -/
  | pwrMdatRead (t : Nat) (line seq : Nat)
  /-- PWR_LOOP_READ (R506). -/
  | pwrLoopRead (t : Nat) (line seq : Nat)
  /-- PWR_LOOP_BUDGET (R506). -/
  | pwrLoopBudget (t : Nat) (line seq : Nat)
  /-- OUTPUT_LOOP_SAMPLE (R207). -/
  | outputLoopSample (t : Nat) (n ts : Nat) (vout : List Bool)
  /-- TRACKING_REQUEST (R209). -/
  | trackingRequest (t : Nat) (g n : Nat) (mode : TrkReq)
  /-- TRACK_DWELL_EXPIRY (R210). -/
  | trackDwellExpiry (t : Nat) (g : Nat)
  /-- TRACK_FAIL (R211). -/
  | trackFail (t : Nat) (g : Nat)
  /-- INSULATION_CHECK_REQUEST (R214). -/
  | insulationCheckRequest (t : Nat) (n g vrref : Nat)
  /-- INSULATION_CHECK_END (R214). -/
  | insulationCheckEnd (t : Nat) (n : Nat)
  /-- WELD_TEST_END (R215). -/
  | weldTestEnd (t : Nat) (n : Nat)
  /-- OUTPUT_VOLTAGE_READ (R218). -/
  | outputVoltageRead (t : Nat) (n : Nat) (vout : List Bool) (vgs : List (List Bool))
  /-- BRAKE_END (R217). -/
  | brakeEnd (t : Nat) (n : Nat)
  /-- BRAKE_LONG (R217). -/
  | brakeLong (t : Nat) (n : Nat)
  /-- CROWBAR_LEG_OFF (R218). -/
  | crowbarLegOff (t : Nat) (leg : Nat)
  /-- FB_LOST (R221). -/
  | fbLost (t : Nat) (ch : Nat)
  /-- MCLK_LOST (R221). -/
  | mclkLost (t : Nat) (k : Nat)
  /-- FB_FROZEN (R222). -/
  | fbFrozen (t : Nat) (ch : Nat)
  /-- FB_CLEAR (R224). -/
  | fbClear (t : Nat) (ch : Nat)
  /-- SLOT_RELEASE (R234). -/
  | slotRelease (t : Nat) (slot : Nat) (ain : List Int) (volts : List (List Bool))
  /-- SLOT_COMPLETE (R235). -/
  | slotComplete (t : Nat) (slot lat : Nat) (eccDbl : Bool)
  /-- SLOT_DEADLINE (R236). -/
  | slotDeadline (t : Nat) (slot : Nat)
  /-- LPE_OVR_CLEAR (R237). -/
  | lpeOvrClear (t : Nat) (slot : Nat)
  /-- LPE_SWAP_REQ (R240). -/
  | lpeSwapReq (t : Nat) (m : Master)
  /-- REEDBED_RAM_WRITE (R239). -/
  | reedbedRamWrite (t : Nat) (addr word : Nat)
  /-- RTD_CONVERSION (R251). -/
  | rtdConversion (t : Nat) (ts : List Int) (bad : List Nat)
  /-- FLOW_LOST (R251). -/
  | flowLost (t : Nat) (k : Nat)
  /-- CBL_FLOW (R261). -/
  | cblFlow (t : Nat) (n : Nat)
  /-- CABLE_MODEL_STEP (R256). -/
  | cableModelStep (t : Nat) (flow : List Nat)
  /-- CABLE_AUTH_COMPLETE (R254). -/
  | cableAuthComplete (t : Nat) (n : Nat) (present sigOk chalOk : Bool) (record ctr : List Nat)
  /-- LIFE_WRITE (R265). -/
  | lifeWrite (t : Nat) (n : Nat) (present : Bool) (acked : List Bool) (ctr : List Nat)
  /-- LIFE_HOURLY (R265). -/
  | lifeHourly (t : Nat) (n : Nat)
  /-- LIFE_PENDING_SAVE (R266). -/
  | lifePendingSave (t : Nat)
  /-- COOL_CAN_RESEND (R263). -/
  | coolCanResend (t : Nat) (k : Nat)
  /-- CBL_STATUS (R507). -/
  | cblStatus (t : Nat) (line seq : Nat)
  /-- CBL_RECORD_READ (R507). -/
  | cblRecordRead (t : Nat) (line seq : Nat)
  /-- CBL_AUTH (R507). -/
  | cblAuth (t : Nat) (line seq : Nat)
  /-- CBL_LIFE_FLUSH (R507). -/
  | cblLifeFlush (t : Nat) (line seq : Nat)
  /-- BANK_UNDERVOLTAGE (R273). -/
  | bankUndervoltage (t : Nat) (bank : Nat)
  /-- BANK_RECOVERY (R273). -/
  | bankRecovery (t : Nat) (bank : Nat)
  /-- LSW_COMMAND (R274). -/
  | lswCommand (t : Nat) (ch owner : Nat) (on : Bool)
  /-- LSW_THERMAL_SHUTDOWN (R276). -/
  | lswThermalShutdown (t : Nat) (ch : Nat)
  /-- LSW_THERMAL_RELEASE (R276). -/
  | lswThermalRelease (t : Nat) (ch : Nat)
  /-- LSW_RETRY (R277). -/
  | lswRetry (t : Nat) (ch : Nat)
  /-- LSW_RETRY_COUNT_RESET (R277). -/
  | lswRetryCountReset (t : Nat) (ch : Nat)
  /-- LSW_OPEN_LOAD (R279). -/
  | lswOpenLoad (t : Nat) (ch : Nat)
  /-- LSW_OPEN_LOAD_CLEAR (R279). -/
  | lswOpenLoadClear (t : Nat) (ch : Nat)
  /-- LSW_TURN_OFF_CLAMP (R280). -/
  | lswTurnOffClamp (t : Nat) (ch energy : Nat)
  /-- PGEN_PERIOD_START (R282). -/
  | pgenPeriodStart (t : Nat) (p : Nat)
  /-- PICKUP_END (R284). -/
  | pickupEnd (t : Nat) (ch : Nat)
  /-- MXP_FRAME (R288). -/
  | mxpFrame (t : Nat) (words : List Nat)
  /-- MXP_PICKUP_END (R289). -/
  | mxpPickupEnd (t : Nat) (ch : Nat)
  /-- LSW_STATUS (R507). -/
  | lswStatus (t : Nat) (line seq : Nat)
  /-- LSW_SET (R507). -/
  | lswSet (t : Nat) (line seq : Nat)
  /-- LSW_CLEAR (R507). -/
  | lswClear (t : Nat) (line seq : Nat)
  /-- MXP_STATUS (R507). -/
  | mxpStatus (t : Nat) (line seq : Nat)
  /-- CP_DUTY_SET (R300). -/
  | cpDutySet (t : Nat) (n duty : Nat)
  /-- CP_SAMPLE (R301). -/
  | cpSample (t : Nat) (n : Nat) (high : Bool) (mv : Int)
  /-- PP_CONVERSION (R303). -/
  | ppConversion (t : Nat) (n mv : Nat)
  /-- PP_BAND_ACCEPT (R303). -/
  | ppBandAccept (t : Nat) (n : Nat)
  /-- SLAC_MESSAGE (R304). -/
  | slacMessage (t : Nat) (n : Nat) (msg : SlacMsg)
  /-- VCL_SLAC_FAIL (R304). -/
  | vclSlacFail (t : Nat) (n : Nat)
  /-- SLAC_RETRY (R304). -/
  | slacRetry (t : Nat) (n : Nat)
  /-- APP_PROTOCOL_REQUEST (R298). -/
  | appProtocolRequest (t : Nat) (n : Nat) (offers : List (Nat × Nat))
  /-- VEHICLE_MESSAGE (R309). -/
  | vehicleMessage (t : Nat) (n : Nat) (req : VehReq) (again : Bool) (stack rsp : List Nat)
  /-- CABLE_CHECK_REQUEST (R307). -/
  | cableCheckRequest (t : Nat) (n : Nat)
  /-- LOCK_FEEDBACK (R312). -/
  | lockFeedback (t : Nat) (n : Nat) (closed : Bool)
  /-- LOCK_TIMEOUT (R307). -/
  | lockTimeout (t : Nat) (n : Nat)
  /-- WAIT_READY_MET (R307). -/
  | waitReadyMet (t : Nat) (n g vrref : Nat)
  /-- VCL_WAIT_TIMEOUT (R307). -/
  | vclWaitTimeout (t : Nat) (n : Nat)
  /-- PRECHARGE_REQUEST (R306). -/
  | prechargeRequest (t : Nat) (n g : Nat)
  /-- CERT_RELAY (R308). -/
  | certRelay (t : Nat) (n : Nat) (body : List Nat)
  /-- VCL_TIMEOUT (R318). -/
  | vclTimeout (t : Nat) (n : Nat)
  /-- LOCK_RELEASE (R312). -/
  | lockRelease (t : Nat) (n : Nat)
  /-- CAP_ZERO_TIMEOUT (R311). -/
  | capZeroTimeout (t : Nat) (n : Nat)
  /-- CKPT_ACK_TIMEOUT (R314). -/
  | ckptAckTimeout (t : Nat) (n : Nat)
  /-- VEH_STATUS (R507). -/
  | vehStatus (t : Nat) (line seq : Nat)
  /-- VEH_SESSION_READ (R507). -/
  | vehSessionRead (t : Nat) (line seq : Nat)
  /-- VEH_AUTHORIZE (R308). -/
  | vehAuthorize (t : Nat) (line seq : Nat)
  /-- VEH_STOP (R507). -/
  | vehStop (t : Nat) (line seq : Nat)
  /-- VEH_EXPORT_SET (R310). -/
  | vehExportSet (t : Nat) (line seq : Nat)
  /-- VEH_CERT_REPLY (R507). -/
  | vehCertReply (t : Nat) (line seq : Nat)
  /-- VEH_PORT_ENABLE (R507). -/
  | vehPortEnable (t : Nat) (line seq : Nat)
  /-- CAN_FRAME_RX (R326). -/
  | canFrameRx (t : Nat) (c : Nat) (f : CanFrame)
  /-- CAN_OBJ_LOCK_READ (R327). -/
  | canObjLockRead (t : Nat) (m : Master) (c obj ofs : Nat)
  /-- CAN_RXINFO_READ (R327). -/
  | canRxinfoRead (t : Nat) (m : Master) (c obj : Nat)
  /-- CAN_LOCK_TO (R327). -/
  | canLockTo (t : Nat) (c obj : Nat)
  /-- CAN_TXREQ (R328). -/
  | canTxreq (t : Nat) (m : Master) (c k word : Nat) (sof : Option Nat)
  /-- CAN_TX_DONE (R328). -/
  | canTxDone (t : Nat) (c obj sof : Nat) (next : Option Nat)
  /-- CAN_BUS_ERROR (R330). -/
  | canBusError (t : Nat) (c : Nat) (e : CanErr) (sof : Option Nat)
  /-- CAN_TXCANCEL (R329). -/
  | canTxcancel (t : Nat) (m : Master) (c k word : Nat) (sof : Option Nat)
  /-- CAN_CTRL_RECOVER (R331). -/
  | canCtrlRecover (t : Nat) (m : Master) (c : Nat)
  /-- CAN_RECOVERY_DONE (R331). -/
  | canRecoveryDone (t : Nat) (c : Nat)
  /-- CAN_PROTOCOL_EXCEPTION (R323). -/
  | canProtocolException (t : Nat) (c : Nat)
  /-- CAN_MODE_SWITCH (R333). -/
  | canModeSwitch (t : Nat) (c : Nat)
  /-- CAN_STATUS (R507). -/
  | canStatus (t : Nat) (line seq : Nat)
  /-- CAN_OBJ_READ (R507). -/
  | canObjRead (t : Nat) (line seq : Nat)
  /-- CAN_OBJ_WRITE (R507). -/
  | canObjWrite (t : Nat) (line seq : Nat)
  /-- CAN_TX_CANCEL (R507). -/
  | canTxCancel (t : Nat) (line seq : Nat)
  /-- CAN_RECOVER (R507). -/
  | canRecover (t : Nat) (line seq : Nat)
  /-- DC_METER_SAMPLE (R341). -/
  | dcMeterSample (t : Nat) (n : Nat) (v vs i1 i16 tdie : Int) (ovV ov1 ov16 : Bool)
  /-- TEST_PULSE_END (R359). -/
  | testPulseEnd (t : Nat) (k : Nat)
  /-- SENSE_INVALID (R343). -/
  | senseInvalid (t : Nat) (n : Nat)
  /-- SENSE_VALID (R343). -/
  | senseValid (t : Nat) (n : Nat)
  /-- AC_CYCLE (R345). -/
  | acCycle (t : Nat) (k period : Nat) (valid : Bool) (v vq cur : List (List Int)) (tdie : Int)
  /-- AC_HALF_CYCLE (R347). -/
  | acHalfCycle (t : Nat) (k : Nat) (u : List Nat)
  /-- HARMONIC_WINDOW (R346). -/
  | harmonicWindow (t : Nat) (k : Nat) (groups : List (List Nat))
  /-- LATCH_TICK (R352). -/
  | latchTick (t : Nat)
  /-- MTR_SNAP_CAPTURE (R354). -/
  | mtrSnapCapture (t : Nat)
  /-- WIDE_WINDOW_END (R354). -/
  | wideWindowEnd (t : Nat)
  /-- METER_SELFTEST (R351). -/
  | meterSelftest (t : Nat) (dc ac : List Bool)
  /-- METER_CROSSCHECK_FAIL (R351). -/
  | meterCrosscheckFail (t : Nat) (n : Nat)
  /-- MTR_OVERRANGE (R361). -/
  | mtrOverrange (t : Nat) (ch : Nat)
  /-- PERIODIC_SAVE (R357). -/
  | periodicSave (t : Nat) (ok : Bool)
  /-- LOSS_BOUND_RECORD (R357). -/
  | lossBoundRecord (t : Nat)
  /-- MTR_STATUS (R508). -/
  | mtrStatus (t : Nat) (line seq : Nat)
  /-- MTR_READ (R508). -/
  | mtrRead (t : Nat) (line seq : Nat)
  /-- MTR_HARM_READ (R508). -/
  | mtrHarmRead (t : Nat) (line seq : Nat)
  /-- MTR_EVENT_READ (R508). -/
  | mtrEventRead (t : Nat) (line seq : Nat)
  /-- MTR_EXTREME_RESET (R508). -/
  | mtrExtremeReset (t : Nat) (line seq : Nat)
  /-- MTR_CAL_WRITE (R350). -/
  | mtrCalWrite (t : Nat) (line seq : Nat)
  /-- MTR_CAL_COMMIT (R350). -/
  | mtrCalCommit (t : Nat) (line seq : Nat)
  /-- MTR_TP_SET (R359). -/
  | mtrTpSet (t : Nat) (line seq : Nat)
  /-- SESSION_OPEN (R379). -/
  | sessionOpen (t : Nat)
  /-- SESSION_CLOSE (R379). -/
  | sessionClose (t : Nat)
  /-- PARAM_LOAD (R389). -/
  | paramLoad (t : Nat)
  /-- CAL_COMMIT (R350). -/
  | calCommit (t : Nat)
  /-- TIME_INFO (R390). -/
  | timeInfo (t : Nat) (ofs : Int) (synced : Bool)
  /-- ROLE_REQUEST (R367). -/
  | roleRequest (t : Nat)
  /-- LEGAL_HEARTBEAT (R370). -/
  | legalHeartbeat (t : Nat)
  /-- LEGAL_HEARTBEAT_STALL (R368). -/
  | legalHeartbeatStall (t : Nat)
  /-- LGL_LOST (R370). -/
  | lglLost (t : Nat)
  /-- LEGAL_RESTART_DONE (R369). -/
  | legalRestartDone (t : Nat)
  /-- LEGAL_STARTUP_DONE (R395). -/
  | legalStartupDone (t : Nat)
  /-- SEAL_CHANGE (R372). -/
  | sealChange (t : Nat) (isOpen : Bool)
  /-- LEGAL_BOUNDARY (R394). -/
  | legalBoundary (t : Nat)
  /-- LOG_RETRY (R376). -/
  | logRetry (t : Nat) (ok : Bool)
  /-- LEGAL_TIME_CHECK (R390). -/
  | legalTimeCheck (t : Nat)
  /-- LEGAL_DISPLAY_FRAME (R399). -/
  | legalDisplayFrame (t : Nat)
  /-- DISPLAY_SCREEN_ADVANCE (R400). -/
  | displayScreenAdvance (t : Nat)
  /-- OPTICAL_SIGN_ON (R401). -/
  | opticalSignOn (t : Nat) (addr : List Nat)
  /-- OPTICAL_ACK (R401). -/
  | opticalAck (t : Nat) (option rate : Nat)
  /-- OPTICAL_TIMEOUT (R401). -/
  | opticalTimeout (t : Nat)
  /-- LGL_STATUS (R508). -/
  | lglStatus (t : Nat) (line seq : Nat)
  /-- LGL_LOG_READ (R508). -/
  | lglLogRead (t : Nat) (line seq : Nat)
  /-- LGL_PARAM_LOAD (R389). -/
  | lglParamLoad (t : Nat) (line seq : Nat) (sigOk : Bool)
  /-- LGL_CREDIT_SET (R396). -/
  | lglCreditSet (t : Nat) (line seq : Nat)
  /-- LGL_WINDOW_SET (R398). -/
  | lglWindowSet (t : Nat) (line seq : Nat)
  /-- KEY_REMASK (R409). -/
  | keyRemask (t : Nat)
  /-- CRYPTO_REQUEST (R413). -/
  | cryptoRequest (t : Nat) (user : Nat) (slot : Option Nat) (op : CryptoKind)
  /-- CRYPTO_DONE (R413). -/
  | cryptoDone (t : Nat)
  /-- KEY_TRNG_FAIL (R414). -/
  | keyTrngFail (t : Nat)
  /-- SVC_RIGHTS_EXPIRY (R410). -/
  | svcRightsExpiry (t : Nat) (port : Nat)
  /-- KEY_STATUS (R508). -/
  | keyStatus (t : Nat) (line seq : Nat)
  /-- KEY_PUB_READ (R508). -/
  | keyPubRead (t : Nat) (line seq : Nat)
  /-- KEY_SVC_AUTH (R410). -/
  | keySvcAuth (t : Nat) (line seq : Nat) (sigOk : Bool)
  /-- KEY_WRITE (R411). -/
  | keyWrite (t : Nat) (line seq : Nat) (keyOk : Bool)
  /-- KEY_DESTROY (R508). -/
  | keyDestroy (t : Nat) (line seq : Nat)
  /-- KEY_LC_SET (R418). -/
  | keyLcSet (t : Nat) (line seq : Nat) (sigOk : Bool)
  /-- KEY_ATTEST (R415). -/
  | keyAttest (t : Nat) (line seq : Nat)
  /-- TRAIN_SEND (R424). -/
  | trainSend (t : Nat) (p : Nat)
  /-- TRAIN_RECORD_RX (R424). -/
  | trainRecordRx (t : Nat) (p : Nat) (r : TrainRec) (delay : Nat)
  /-- OZL_LINK_DOWN (R424). -/
  | ozlLinkDown (t : Nat) (p : Nat)
  /-- OZL_FRAME_RX (R426). -/
  | ozlFrameRx (t : Nat) (p : Nat) (f : OzFrame)
  /-- CREDIT_BLOCK_RX (R428). -/
  | creditBlockRx (t : Nat) (p : Nat) (counts : List Nat) (crcOk : Bool)
  /-- CREDIT_BLOCK_SEND (R428). -/
  | creditBlockSend (t : Nat) (p : Nat)
  /-- NAK (R430). -/
  | nak (t : Nat) (src cls msg : Nat)
  /-- TOPO_FLOOD (R432). -/
  | topoFlood (t : Nat)
  /-- TOPO (R433). -/
  | topo (t : Nat) (node member : Nat) (ports : List TopoPort)
  /-- TOPO_ENTRY_EXPIRY (R432). -/
  | topoEntryExpiry (t : Nat) (node member : Nat)
  /-- RING_BREAK (R435). -/
  | ringBreak (t : Nat) (a b : Nat)
  /-- GATEWAY_DATAGRAM (R436). -/
  | gatewayDatagram (t : Nat) (mac addr magic target : Nat) (frame : List Nat)
  /-- TSU_COMPARE_ARM (R440). -/
  | tsuCompareArm (t : Nat) (m : Master) (k target : Nat)
  /-- TSU_COMPARE_FIRE (R440). -/
  | tsuCompareFire (t : Nat) (k : Nat)
  /-- TSU_CAPTURE_EDGE (R440). -/
  | tsuCaptureEdge (t : Nat) (k : Nat) (rising : Bool) (time : Nat)
  /-- TSU_CAPHI_READ (R440). -/
  | tsuCaphiRead (t : Nat) (m : Master) (k : Nat)
  /-- DOMAIN_SAMPLE (R442). -/
  | domainSample (t : Nat) (d : Nat) (source : Int) (utc interval : Nat)
  /-- DOMAIN_HOLDOVER (R442). -/
  | domainHoldover (t : Nat) (d : Nat)
  /-- DOMAIN_FREE (R442). -/
  | domainFree (t : Nat) (d : Nat)
  /-- FOLLOW_SWITCH (R443). -/
  | followSwitch (t : Nat)
  /-- PEER_DELAY_REQUEST (R444). -/
  | peerDelayRequest (t : Nat) (p t1 : Nat)
  /-- PDREQ (R444). -/
  | pdreq (t : Nat) (p seq t2 t3 : Nat)
  /-- PDRESP (R444). -/
  | pdresp (t : Nat) (p seq : Nat) (t2 turn t4 : Int)
  /-- SYNC_SEND (R445). -/
  | syncSend (t : Nat) (tnum : Nat)
  /-- SYNC (R445). -/
  | sync (t : Nat) (p tnum seq rootState utc : Nat) (origin corr ratio rx : Int) (residence : List Nat) (src hops msg : Nat)
  /-- AON_CLOCK_REFRESH (R438). -/
  | aonClockRefresh (t : Nat)
  /-- PTP_MESSAGE_RX (R447). -/
  | ptpMessageRx (t : Nat) (mac number : Nat) (msg : PtpMsg)
  /-- PTP_SYNC_SEND (R447). -/
  | ptpSyncSend (t : Nat) (mac : Nat)
  /-- TIM_STATUS (R509). -/
  | timStatus (t : Nat) (line seq : Nat)
  /-- TIM_FOLLOW_SET (R443). -/
  | timFollowSet (t : Nat) (line seq : Nat)
  /-- TIM_COMPARE_SET (R509). -/
  | timCompareSet (t : Nat) (line seq : Nat)
  /-- TIM_CAPTURE_READ (R509). -/
  | timCaptureRead (t : Nat) (line seq : Nat)
  /-- OZL_STATUS (R509). -/
  | ozlStatus (t : Nat) (line seq : Nat)
  /-- OZL_TOPO_READ (R509). -/
  | ozlTopoRead (t : Nat) (line seq : Nat)
  /-- OZL_PATH_READ (R509). -/
  | ozlPathRead (t : Nat) (line seq : Nat)
  /-- OZL_PORT_RETRAIN (R509). -/
  | ozlPortRetrain (t : Nat) (line seq : Nat)
  /-- DUPLEX_ROLE_DECIDE (R453). -/
  | duplexRoleDecide (t : Nat)
  /-- CLAIM_FRAME_RX (R461). -/
  | claimFrameRx (t : Nat) (hb byte : Nat) (crcOk : Bool)
  /-- CLAIM_STREAM_DEAD (R467). -/
  | claimStreamDead (t : Nat)
  /-- DPX_KICK (R459). -/
  | dpxKick (t : Nat)
  /-- CLAIM_WD_EXPIRY (R459). -/
  | claimWdExpiry (t : Nat)
  /-- DPX_SEL_LOST (R461). -/
  | dpxSelLost (t : Nat)
  /-- DPX_TAKEOVER_FAIL (R468). -/
  | dpxTakeoverFail (t : Nat)
  /-- ROLE_SEND (R464). -/
  | roleSend (t : Nat)
  /-- ROLE (R452). -/
  | role (t : Nat) (role mode st claim lastClaim cfgVersion deviceId : Nat)
  /-- DPX_PARTNER_SILENT (R465). -/
  | dpxPartnerSilent (t : Nat)
  /-- DPX_MIRROR_LOST (R465). -/
  | dpxMirrorLost (t : Nat)
  /-- CHECKPOINT (R315). -/
  | checkpoint (t : Nat) (n : Nat) (seq state proto msgNo time : Nat) (iReq : Int) (vTgt vOv flags : Nat) (rest lastRsp : List Nat)
  /-- CKPT_ACK (R314). -/
  | ckptAck (t : Nat) (n seq : Nat)
  /-- VEHICLE_FRAME_BUFFER (R315). -/
  | vehicleFrameBuffer (t : Nat) (n : Nat) (req : VehReq) (len : Nat) (stack rsp : List Nat)
  /-- SLC_MIRROR (R464). -/
  | slcMirror (t : Nat) (round : Nat) (node : List Nat) (entries : List SlcEntry)
  /-- LPE_SNAP (R241). -/
  | lpeSnap (t : Nat) (slot nsec release : Nat) (out : Int) (states : List Nat)
  /-- PWM_STATE_SEND (R464). -/
  | pwmStateSend (t : Nat)
  /-- PWM_STATE (R456). -/
  | pwmState (t : Nat) (groups : List PwmGroupRec)
  /-- LOAD_STATE (R464). -/
  | loadState (t : Nat) (lswCmd pickupDone mxpOn mxpEco : Nat) (duty : List Nat)
  /-- CBL_STATE (R464). -/
  | cblState (t : Nat) (n : Nat) (temps : List Int) (iCap : Nat) (pend : List Nat)
  /-- PREPAY (R464). -/
  | prepay (t : Nat) (n : Nat) (account emerg shortfall : Int) (flags : Nat)
  /-- LEAVE (R454). -/
  | leave (t : Nat) (mode : Nat)
  /-- SWAP_REQ (R472). -/
  | swapReq (t : Nat) (claim : Nat)
  /-- SWAP_CONFIRM (R472). -/
  | swapConfirm (t : Nat)
  /-- SWAP_DUE (R473). -/
  | swapDue (t : Nat)
  /-- RESYNC (R470). -/
  | resync (t : Nat) (part : ResyncPart) (pct : Nat)
  /-- RESYNC_DONE (R470). -/
  | resyncDone (t : Nat)
  /-- DPX_STATUS (R508). -/
  | dpxStatus (t : Nat) (line seq : Nat)
  /-- DPX_SWAP (R472). -/
  | dpxSwap (t : Nat) (line seq : Nat)
  /-- DPX_RESYNC (R470). -/
  | dpxResync (t : Nat) (line seq : Nat)
  /-- FEN_ZERO_CROSSING (R481). -/
  | fenZeroCrossing (t : Nat) (valid : Bool) (period : Nat)
  /-- FEN_ZC_LOST (R481). -/
  | fenZcLost (t : Nat)
  /-- BEACON_SEND (R481). -/
  | beaconSend (t : Nat)
  /-- BEACON_RX (R489). -/
  | beaconRx (t : Nat) (netId gatewayTime zcAgo : Nat)
  /-- BEACON_LOST (R493). -/
  | beaconLost (t : Nat)
  /-- FEN_FRAME_RX (R485). -/
  | fenFrameRx (t : Nat) (f : FenFrame)
  /-- SOUNDING_RX (R482). -/
  | soundingRx (t : Nat) (tx slot : Nat) (map : ToneMap)
  /-- TONE_MAP_RX (R482). -/
  | toneMapRx (t : Nat) (tx slot : Nat) (map : ToneMap)
  /-- TONE_MAP_EXPIRY (R482). -/
  | toneMapExpiry (t : Nat) (node slot : Nat)
  /-- SACK_RX (R485). -/
  | sackRx (t : Nat) (failed : List Nat)
  /-- FEN_BACKOFF_EXPIRY (R486). -/
  | fenBackoffExpiry (t : Nat) (collision : Bool)
  /-- LINK_METRIC_SEND (R490). -/
  | linkMetricSend (t : Nat)
  /-- LINK_METRIC_RX (R491). -/
  | linkMetricRx (t : Nat) (tx own hops : Nat) (routed : Bool) (bler : Nat) (rows : List MetricRow)
  /-- NEIGHBOUR_EXPIRY (R490). -/
  | neighbourExpiry (t : Nat) (node : Nat)
  /-- ROUTE_CHANGE (R491). -/
  | routeChange (t : Nat)
  /-- FEN_STATUS (R509). -/
  | fenStatus (t : Nat) (line seq : Nat)
  /-- FEN_NEIGH_READ (R509). -/
  | fenNeighRead (t : Nat) (line seq : Nat)
  /-- FEN_TONEMAP_READ (R509). -/
  | fenTonemapRead (t : Nat) (line seq : Nat)
  /-- FEN_RESOUND (R509). -/
  | fenResound (t : Nat) (line seq : Nat)
  /-- SYS_IDENTIFY (R502). -/
  | sysIdentify (t : Nat) (line seq : Nat)
  /-- SYS_MODE_SET (R502). -/
  | sysModeSet (t : Nat) (line seq : Nat)
  /-- SYS_RESET (R502). -/
  | sysReset (t : Nat) (line seq : Nat)
  /-- SYS_ERRQ_READ (R67). -/
  | sysErrqRead (t : Nat) (line seq : Nat)
  /-- SYS_FW_STAGE (R503). -/
  | sysFwStage (t : Nat) (line seq : Nat) (ok : Bool)
  /-- FW_VERIFY_DONE (R503). -/
  | fwVerifyDone (t : Nat) (fault : Nat) (version legalSha : Nat)
  /-- SYS_FW_PREFER (R503). -/
  | sysFwPrefer (t : Nat) (line seq : Nat)
  /-- SYS_COUNTERS (R502). -/
  | sysCounters (t : Nat) (line seq : Nat)
  /-- ROM_STATUS (R504). -/
  | romStatus (t : Nat) (line seq : Nat)
  /-- ROM_LOAD (R504). -/
  | romLoad (t : Nat) (line seq : Nat) (ok : Bool)
  /-- ROM_BOOT (R504). -/
  | romBoot (t : Nat) (line seq : Nat) (fault : Nat) (version legalSha : Nat)
  /-- CFG_STAGE (R515). -/
  | cfgStage (t : Nat) (line seq : Nat) (partnerStatus : Nat) (ok : Bool)
  /-- CFG_VALIDATION_DONE (R515). -/
  | cfgValidationDone (t : Nat) (sigOk : Bool)
  /-- CFG_COMMIT (R518). -/
  | cfgCommit (t : Nat) (line seq : Nat) (partnerStatus : Nat)
  /-- CFG_ROLLBACK (R518). -/
  | cfgRollback (t : Nat) (line seq : Nat) (partnerStatus : Nat)
  /-- CFG_STATUS (R517). -/
  | cfgStatus (t : Nat) (line seq : Nat)
  /-- CFG_READ (R517). -/
  | cfgRead (t : Nat) (line seq : Nat)
  /-- CFG_DISCARD (R515). -/
  | cfgDiscard (t : Nat) (line seq : Nat) (partnerStatus : Nat)
  /-- CFG_PARTNER_REQUEST (R519). -/
  | cfgPartnerRequest (t : Nat) (req : PartnerReq) (sigOk : Bool)
  /-- DIAG_REG_READ (R509). -/
  | diagRegRead (t : Nat) (line seq : Nat)
  /-- DIAG_REG_WRITE (R521). -/
  | diagRegWrite (t : Nat) (line seq : Nat)
  /-- DIAG_FREEZE (R526). -/
  | diagFreeze (t : Nat) (line seq : Nat)
  /-- FREEZE_REQUEST (R526). -/
  | freezeRequest (t : Nat) (low : Bool)
  /-- DBG_RESUME (R533). -/
  | dbgResume (t : Nat)
  /-- DBG_RESET (R529). -/
  | dbgReset (t : Nat)
  /-- DBG_ADDR (R529). -/
  | dbgAddr (t : Nat) (addr : Nat)
  /-- DBG_READ (R530). -/
  | dbgRead (t : Nat) (eccDbl : Bool)
  /-- TAP_INSTRUCTION_LOAD (R531). -/
  | tapInstructionLoad (t : Nat) (code : Nat) (cells tdi : List Bool)
  /-- TAP_RESET (R529). -/
  | tapReset (t : Nat)
  /-- HEARTBEAT_CHECK_RESUME (R533). -/
  | heartbeatCheckResume (t : Nat)
  /-- VBAT_LOST (R60). -/
  | vbatLost (t : Nat) (mainRails : Bool)
  /-- CLAIM_LAPSE (R97). -/
  | claimLapse (t : Nat) (port : Nat)
  /-- XSP0_WRITE_DONE (R34). -/
  | xsp0WriteDone (t : Nat) (ok : Bool)
  /-- TRNG_STARTUP_TEST (R414). -/
  | trngStartupTest (t : Nat)
  /-- DPX_SEL_N_CHANGE (R461). -/
  | dpxSelNChange (t : Nat) (high : Bool)
  /-- DPX_SWAP_FAIL (R472). -/
  | dpxSwapFail (t : Nat)
  /-- FEN_SACK_TIMEOUT (R485). -/
  | fenSackTimeout (t : Nat)
  /-- CERT_REPLY_TIMEOUT (R308). -/
  | certReplyTimeout (t : Nat) (n : Nat)
  /-- LSW_CURRENT_LIMIT (R276). -/
  | lswCurrentLimit (t : Nat) (ch : Nat) (limiting : Bool) (ma : Nat)
  /-- CAN_BUS_INTEGRATION (R323). -/
  | canBusIntegration (t : Nat) (c : Nat)
  /-- TEST_PULSE_GAP_END (R359). -/
  | testPulseGapEnd (t : Nat) (k : Nat)
  /-- PTP_DELAY_REQ_SEND (R447). -/
  | ptpDelayReqSend (t : Nat) (mac t3 : Nat)
  /-- REG_READ (R7). -/
  | regRead (t : Nat) (m : Master) (addr : Nat)
deriving DecidableEq, Repr

end Sys2Proof
end

