-- ==== Sys2Proof/Machine/State.lean ====
section
/-! DEFINITION. The state of the block as plain data: every register, buffer, counter, mode and pin the spec gives it,
the memories, the messages it has sent, and the queue of waiting commands. A field's comment gives its name, its width,
the rule and file of spec/ that names it, and its value at reset; DC marks a value the spec does not give (log entry 6).
Registers whose fields only configuration and software write (CFG and RW, 00) stand in `State.mem` at their register
addresses, as do the memories of R29 (log entry 4). -/

namespace Sys2Proof.Machine

/-! ### Modes, errors and resets (02) -/

/-- The twelve modes of R40. -/
inductive Mode where
  | m0 | m1 | m2 | m3 | m4 | m5 | m6 | m7 | m8 | m9 | m10 | m11
deriving DecidableEq, Repr, Inhabited

/-- The number SYS_MODE.MODE shows for a mode (R40). -/
def Mode.num : Mode → Nat
  | .m0 => 0 | .m1 => 1 | .m2 => 2 | .m3 => 3 | .m4 => 4 | .m5 => 5
  | .m6 => 6 | .m7 => 7 | .m8 => 8 | .m9 => 9 | .m10 => 10 | .m11 => 11

/-- The six limitations of SYS_MODE bits 8 to 13, and two that no bit shows (log entry 9): `stage`, a leg, group,
position or output of the stage excluded, and `handling`, a class 2 error within its handling window. -/
inductive Lim where
  | thermal | feedback | link | lease | loop | supply | stage | handling
deriving DecidableEq, Repr, Inhabited

/-- The reset kinds of R45. -/
inductive RstKind where
  | powerOn | pin | clockLoss | heartbeat | escalation | watchdog | software | debug | lockstep
deriving DecidableEq, Repr, Inhabited

/-- One 16-byte record of the error queue (02, Error queue). -/
structure ErrRec where
  seq : Nat := 0
  time : Nat := 0
  code : Nat := 0
  subsys : Nat := 0
  cls : Nat := 0
  escalated : Bool := false
  preempted : Bool := false
  superseded : Bool := false
deriving DecidableEq, Repr, Inhabited

/-- An error from its detection to the close of its handling window (R64, R65). `eff` is the class it is handled as,
`arg` the item (a leg, a port, a slot) it names. -/
structure ErrTask where
  id : Nat := 0
  subsys : Nat := 0
  code : Nat := 0
  cls : Nat := 0
  eff : Nat := 0
  arg : Nat := 0
  time : Nat := 0
  seq : Option Nat := none
  escalated : Bool := false
deriving DecidableEq, Repr, Inhabited

/-- What holds SAFE_ERROR for one error handled as class 3 (R44): its window, its record and its condition. -/
structure SafeItem where
  id : Nat := 0
  subsys : Nat := 0
  code : Nat := 0
  arg : Nat := 0
  seq : Option Nat := none
  windowClosed : Bool := false
  isRead : Bool := false
  cleared : Bool := false
deriving DecidableEq, Repr, Inhabited

/-- SYS_RST_CAUSE (R48), in the always-on domain. -/
structure RstCause where
  kind : RstKind := .powerOn
  cold : Bool := true
  outputsOn : Bool := false
  powerLossRestart : Bool := false
  holdActive : Bool := false
deriving DecidableEq, Repr, Inhabited

/-- SYS_M8_CAUSE (R44). -/
structure M8Cause where
  command : Bool := false
  safeError : Bool := false
  powerWarn : Bool := false
  legalLost : Bool := false
  errqOvf : Bool := false
deriving DecidableEq, Repr, Inhabited

/-- State of one firmware slot (02, Secure boot). -/
inductive FwState where
  | invalid | fallback | preferred
deriving DecidableEq, Repr, Inhabited

/-- One firmware slot of xSPI0: header state, version, and what valid() of R59 finds in it: `fault` is 0 where
header, version, hashes and signatures all pass, else the FAIL_REASON code. -/
structure FwSlot where
  st : FwState := .invalid
  version : Nat := 0
  fault : Nat := 1
  legalSha : Nat := 0
deriving DecidableEq, Repr, Inhabited

/-- SYS_BOOT and the boot ROM's counters in the always-on domain (R59, R60). -/
structure Boot where
  slot : Nat := 0
  fallback : Bool := false
  attempts : Nat := 0
  fbAttempts : Nat := 0
  fail : Bool := false
  failReason : Nat := 0
  /-- SHA-384 of the six images as loaded, supervisor first, a free value drawn at the boot; 2,304 bits; R415 16; reset DC 0 -/
  imgHash : Nat := 0
deriving DecidableEq, Repr, Inhabited

/-- Identity and fuses (R4, 16). -/
structure Ident where
  /-- DEVICE_ID; 128 bits; R502 20; reset DC 0 -/
  deviceId : Nat := 0
  /-- GRADE, L grade; 1 bit; R4 00; reset DC 0 -/
  gradeL : Bool := false
  /-- fuse FW_MINVER; 32 bits; R59 02; reset DC 0 -/
  fwMinVer : Nat := 0
deriving DecidableEq, Repr, Inhabited

/-- The SYS block (02) and the mode machine. -/
structure Sys where
  /-- SYS_MODE.MODE; 4 bits; R40 02; reset M1 (0x1) -/
  mode : Mode := .m1
  /-- SYS_MODE.PREV_MODE; 4 bits; R42 02; reset M0 (0x0) -/
  prevMode : Mode := .m0
  /-- SYS_MODE.LIM_*, the limitations standing; 6 bits; R42 02; reset none (0) -/
  lims : List Lim := []
  /-- SYS_MODE.POWER_WARN; 1 bit; R56 02; reset 0 -/
  powerWarn : Bool := false
  /-- SYS_M8_CAUSE; 5 bits; R44 02; reset 0 -/
  m8 : M8Cause := {}
  /-- Errors handled as class 3 that hold SAFE_ERROR; list; R44 02; reset empty -/
  safe : List SafeItem := []
  /-- SYS_RST_CAUSE, always-on domain; 13 bits; R48 02; reset POR_COLD (the power-on reset this state follows) -/
  rst : RstCause := {}
  /-- SYS_BOOT with boot_attempts and fb_attempts; 12 bits; R59 02; reset FAIL 0, counters 0 (R60), SLOT DC 0 -/
  boot : Boot := {}
  /-- Error queue, oldest first; 32 records of 16 bytes; R67 02; reset empty after POR_COLD -/
  errq : List ErrRec := []
  /-- SYS_ERRQ_STAT.OVF; 1 bit; R67 02; reset 0 after POR_COLD -/
  ovf : Bool := false
  /-- SYS_ERRQ_STAT.OVF_CNT; 8 bits; R67 02; reset 0 after POR_COLD -/
  ovfCnt : Nat := 0
  /-- SEQ of the next record; 32 bits; R559 02; reset 1 after POR_COLD -/
  nextSeq : Nat := 1
  /-- Number given to the next error detected (the model's own name for it); R65 02; reset 0 -/
  nextErr : Nat := 0
  /-- The error being handled (SYS_ERRQ_STAT.ACTIVE_CLASS, ACTIVE_SUBSYS); R65 02; reset none (0) -/
  handling : Option ErrTask := none
  /-- Pre-empted errors, latest first; list; R65 02; reset empty -/
  preempted : List ErrTask := []
  /-- Errors waiting for their handling, in order of arrival; list; R65 02; reset empty -/
  waiting : List ErrTask := []
  /-- Device time of the last recorded MEM_ECC_CORR; 64 bits; R33 01; reset none -/
  lastEccRec : Option Nat := none
  /-- Device time of the last recorded MEM_FIREWALL; 64 bits; R33 01; reset none -/
  lastFwRec : Option Nat := none
  /-- SYS access counter, host writes to read-only items; 32 bits; R38 01; reset DC 0 -/
  accessCnt : Nat := 0
  /-- SYS firewall counter; 32 bits; R31 01; reset DC 0 -/
  firewallCnt : Nat := 0
  /-- SYS ECC counter; 32 bits; R30 01; reset DC 0 -/
  eccCnt : Nat := 0
  /-- Condition of M1's release: RESET_N or another standing reset source; 1 bit; R48 02; reset 0 -/
  pinLow : Bool := false
  /-- Retention SRAM lost (VBAT and the main rails absent together) since the last power-on reset; 1 bit; R48 02; reset 0 -/
  retLost : Bool := false
  /-- Main rails within range; 1 bit; R54 02; reset 1 (the power-on reset came with the rails) -/
  railsGood : Bool := true
  /-- REFCLK in tolerance and PLL_MAIN locked; 1 bit; R25 01; reset 1 -/
  rootGood : Bool := true
  /-- TEST_EN as sampled at the last reset; strap; R524 21; reset DC 0 -/
  testEn : Bool := false
  /-- PS_OFF as sampled at the last reset; strap; R524 21; reset DC 0 -/
  psOff : Bool := false
  /-- Firmware slots A and B of xSPI0; 2 slots; R59 02; reset DC invalid -/
  fwA : FwSlot := {}
  /-- Firmware slot B; see fwA; R59 02; reset DC invalid -/
  fwB : FwSlot := {}
  /-- Bytes of the firmware set staged so far; 32 bits; R503 20; reset 0 -/
  fwStaged : Nat := 0
  /-- The firmware verification under way: its slot; R503 20; reset none -/
  fwVerify : Option Nat := none
  /-- Boot times: device time M3 was entered (R58), for the wide-read window; 64 bits; R58 02; reset 0 -/
  m3Time : Nat := 0
  /-- Device identity and fuses; R502 20; reset as its fields -/
  ident : Ident := {}
deriving DecidableEq, Repr, Inhabited

/-- The keeper (01, 02): it runs from VS_A to VS_D and outlives every reset of the control die. -/
structure Keeper where
  /-- GATE_EN as driven by the keeper; 1 bit; R12 01; reset 0 -/
  gateEn : Bool := false
  /-- GATE_EN held low after a heartbeat loss until M1 has passed; 1 bit; R13 01; reset 0 -/
  hbLatch : Bool := false
  /-- Heartbeat check running (suspended by a freeze); 1 bit; R526 21; reset 1 -/
  hbCheck : Bool := true
  /-- Contactor hold running; 1 bit; R49 02; reset 0 -/
  hold : Bool := false
  /-- Close requests for contactor-class channels ignored until M4; 1 bit; R51 02; reset 0 -/
  closeBlocked : Bool := false
  /-- Hold-through-reset channels held from the keeper (HTR_LIMIT running); 1 bit; R49 02; reset 0 -/
  htrHold : Bool := false
  /-- Channel numbers of contactor-class channels frozen on by the hold; list; R49 02; reset empty -/
  heldCtr : List Nat := []
  /-- Channel numbers of hold-through-reset channels still on; list; R49 02; reset empty -/
  heldHtr : List Nat := []
  /-- CONTACTOR_HOLD, ms; 0 to 200; R49 02; reset 60 -/
  contactorHold : Nat := 60
  /-- HTR_LIMIT, ms; 0 to 10,000; R49 02; reset 10,000 -/
  htrLimit : Nat := 10000
  /-- MXP chain held idle by the keeper; 1 bit; R49 02; reset 0 -/
  mxpIdle : Bool := false
  /-- Last MXP output frame as the keeper repeats it, ON bits; 64 bits; R49 02; reset 0 -/
  mxpOn : Vector Bool 64 := Vector.replicate 64 false
  /-- PFW_N low after its filter; 1 bit; R56 02; reset 0 -/
  pfwLow : Bool := false
  /-- Freeze request standing at the keeper; 1 bit; R526 21; reset 0 -/
  freezeReq : Bool := false
deriving DecidableEq, Repr, Inhabited

/-! ### Mailboxes (03) -/

/-- A command the device has consumed and not completed (R83, R87). `line` is the pair 0 to 15, 16 the PCIe v1
instance, 17 the SPI v1 instance; `entry` the 64 bytes read at consumption. -/
structure Cmd where
  line : Nat := 0
  port : Nat := 0
  seq : Nat := 0
  entry : List Nat := []
  ownerOnly : Bool := false
  accepted : Bool := false
  /-- An owner-only command that its port had consumed before its office fell vacant (R99). -/
  kept : Bool := false
  /-- REJECTED_FORMAT found at consumption (check 1 of R84), with its DETAIL; 0 none. -/
  fail : Nat := 0
  failDetail : Nat := 0
  slots : Nat := 1
  /-- The inbound payload as copied (R82). -/
  data : List Nat := []
deriving DecidableEq, Repr, Inhabited

/-- A command recorded in retention for its DISCARDED_RESET completion (R87). -/
structure PriorRec where
  line : Nat := 0
  port : Nat := 0
  seq : Nat := 0
  tag : Nat := 0
  opcode : Nat := 0
deriving DecidableEq, Repr, Inhabited

/-- A completion entry (R78). -/
structure Compl where
  opcode : Nat := 0
  status : Nat := 0
  final : Bool := true
  refWritten : Bool := false
  priorEpoch : Bool := false
  tag : Nat := 0
  sqSeq : Nat := 0
  cqSeq : Nat := 0
  detail : Nat := 0
  time : Nat := 0
  result : List Nat := []
  respCrc : Nat := 0
  respLen : Nat := 0
  /-- The model's own: where in the staging area the response stands, for the DATA frames of R93. -/
  respAt : Nat := 0
deriving DecidableEq, Repr, Inhabited

/-- One queue pair (R71 to R76) with its registers. -/
structure Pair where
  /-- MBX_Qn_CFG.DEPTH; 13 bits; R72 03; reset 0 (CFG or 0) -/
  depth : Nat := 0
  /-- MBX_Qn_CFG.PORT; 3 bits; R72 03; reset 0 (CFG or 0) -/
  port : Nat := 0
  /-- MBX_Qn_CFG.QUANTA; 5 bits; R72 03; reset 0 (CFG or 0) -/
  quanta : Nat := 0
  /-- MBX_Qn_CFG.ENABLE; 1 bit; R76 03; reset 0 (CFG or 0) -/
  enable : Bool := false
  /-- MBX_Qn_STAT.ACTIVE; 1 bit; R72 03; reset 0 -/
  active : Bool := false
  /-- MBX_Qn_STAT.CFG_ERR; 1 bit; R72 03; reset 0 -/
  cfgErr : Bool := false
  /-- MBX_Qn_STAT.ERR_CODE; 4 bits; R72 03; reset 0 -/
  errCode : Nat := 0
  /-- MBX_Qn_STAT.FIRST_QUANTUM; 4 bits; R72 03; reset 0 -/
  firstQuantum : Nat := 0
  /-- MBX_Qn_STAT.QUANTA_HELD; 5 bits; R72 03; reset 0 -/
  quantaHeld : Nat := 0
  /-- Pair bound by the configuration to an enabled port; 1 bit; R72 03; reset 0 -/
  bound : Bool := false
  /-- Run-down in progress; 1 bit; R76 03; reset 0 -/
  runDown : Bool := false
  /-- MBX_Qn_SQ_DB.TAIL; 16 bits; R74 03; reset 0 -/
  sqTail : Nat := 0
  /-- MBX_Qn_SQ_HEAD.HEAD; 16 bits; R74 03; reset 0 -/
  sqHead : Nat := 0
  /-- MBX_Qn_CQ_TAIL.TAIL; 16 bits; R75 03; reset 0 -/
  cqTail : Nat := 0
  /-- MBX_Qn_CQ_DB.HEAD; 16 bits; R75 03; reset 0 -/
  cqHead : Nat := 0
  /-- CQ slots reserved for consumed commands; count; R75 03; reset 0 -/
  reserved : Nat := 0
  /-- MBX_Qn_IRQ.COUNT; 8 bits; R88 03; reset 1 -/
  irqCount : Nat := 1
  /-- MBX_Qn_IRQ.TIMER_US; 12 bits; R88 03; reset 1 -/
  irqTimer : Nat := 1
  /-- MBX_Qn_IRQ.VECTOR; 5 bits; R88 03; reset 0 -/
  irqVector : Nat := 0
  /-- MBX_Qn_IRQ.TARGET; 1 bit; R88 03; reset 0 -/
  irqTarget : Bool := false
  /-- MBX_Qn_IRQ.ENABLE; 1 bit; R88 03; reset 0 -/
  irqEnable : Bool := false
  /-- CQ counters of the unsignalled completions, oldest first; list; R88 03; reset empty -/
  unsig : List Nat := []
  /-- Responses of the completions the CQ head has not passed: CQ counter, staging offset, length; list; R93 03; reset empty -/
  dataAt : List (Nat × Nat × Nat) := []
  /-- Moderation timer running; 1 bit; R88 03; reset 0 -/
  timerOn : Bool := false
  /-- Completions that wait for a free CQ slot; list; R86 03; reset empty -/
  owed : List Compl := []
deriving DecidableEq, Repr, Inhabited

/-- One v1 instance (R96). -/
structure V1 where
  /-- MBX_V1_CMD; 64 bytes; R96 03; reset 0 (empty list: all bytes 0) -/
  cmd : List Nat := []
  /-- MBX_V1_RSP; 64 bytes; R96 03; reset 0 (empty list: all bytes 0) -/
  rsp : List Nat := []
  /-- MBX_V1_CTRL.GO; 1 bit; R96 03; reset 0 -/
  go : Bool := false
  /-- MBX_V1_CTRL.DONE; 1 bit; R96 03; reset 0 -/
  done : Bool := false
  /-- MBX_V1_CTRL.FINAL_PENDING; 1 bit; R96 03; reset 0 -/
  finalPending : Bool := false
  /-- MBX_V1_CTRL.SLEEP, the port's host-sleep flag; 1 bit; R89 03; reset 0 -/
  sleep : Bool := false
  /-- MBX_V1_DADDR; 16 bits; R95 03; reset 0 -/
  daddr : Nat := 0
  /-- MBX_V1_DDATA buffer, 64 KB, as (byte offset, byte) rising, 0 where unlisted; R96 03; reset DC all 0 -/
  buf : List Host.Cell := []
  /-- SQ counter of this instance's next entry; 16 bits; R96 03; reset 0 -/
  sqCnt : Nat := 0
  /-- CQ counter of this instance's next completion; 16 bits; R96 03; reset 0 -/
  cqCnt : Nat := 0
  /-- A completion waiting for DONE to be cleared; R96 03; reset none -/
  held : List Compl := []
deriving DecidableEq, Repr, Inhabited

/-- The MBX block and the management ports. -/
structure Mbx where
  /-- Queue pairs 0 to 15; 16 pairs; R71 03; reset as Pair's fields -/
  pairs : Vector Pair 16 := Vector.replicate 16 {}
  /-- v1 instance of the PCIe port; R96 03; reset as V1's fields -/
  v1p : V1 := {}
  /-- v1 instance of the SPI port; R96 03; reset as V1's fields -/
  v1s : V1 := {}
  /-- MBX_STAGE_FREE.FREE; 16 bits; R72 03; reset 0xFFFF -/
  stageFree : Vector Bool 16 := Vector.replicate 16 true
  /-- MBX_ERR.SQ_OVERRUN; 1 bit; R74 03; reset 0 -/
  sqOverrun : Bool := false
  /-- MBX_ERR.CQ_HEAD_BAD; 1 bit; R75 03; reset 0 -/
  cqHeadBad : Bool := false
  /-- MBX_ERR.DB_FOREIGN; 1 bit; R76 03; reset 0 -/
  dbForeign : Bool := false
  /-- MBX_ERR.CFG_BAD; 1 bit; R76 03; reset 0 -/
  cfgBad : Bool := false
  /-- MBX_ERR.FRAME_AUTH; 1 bit; R92 03; reset 0 -/
  frameAuth : Bool := false
  /-- MBX_ERR.PAIR; 4 bits; R93 03; reset 0 -/
  errPair : Nat := 0
  /-- MBX_IGN_CNT.ILLEGAL; 16 bits; R85 03; reset 0 -/
  ignIllegal : Nat := 0
  /-- MBX_IGN_CNT.NOT_OWNER; 16 bits; R85 03; reset 0 -/
  ignNotOwner : Nat := 0
  /-- MBX_IGN_CNT1.MODE; 16 bits; R85 03; reset 0 -/
  ignMode : Nat := 0
  /-- MBX_DROP_CNT.DROPPED; 16 bits; R92 03; reset 0 -/
  dropCnt : Nat := 0
  /-- Consumed and uncompleted commands in order of consumption (MBX_Qn_INFLIGHT counts them); at most 256; R83 03; reset empty -/
  cmds : List Cmd := []
  /-- Line served last by the round robin; 0 to 17; R83 03; reset DC 17 (the first turn is pair 0's) -/
  lastLine : Nat := 17
  /-- Commands of before the last reset still to be answered (retention half); list; R87 03; reset empty after POR_COLD -/
  prior : List PriorRec := []
  /-- Boot epoch of management frames, a free value drawn at each boot; 32 bits; R91 03; reset DC 0 -/
  epoch : Nat := 0
  /-- Last FSEQ accepted from ports 3, 4 and 5; 48 bits each; R92 03; reset 0 -/
  fseqIn : Vector Nat 3 := Vector.replicate 3 0
  /-- Last FSEQ sent on ports 3, 4 and 5; 48 bits each; R91 03; reset 0 -/
  fseqOut : Vector Nat 3 := Vector.replicate 3 0
  /-- Sender of the last frame accepted on ports 3, 4 and 5: an IPv4 address, or the node and member of port 5; 32 bits each; R94
  03; reset 0 -/
  peer : Vector Nat 3 := Vector.replicate 3 0
  /-- SPI status bit 0: last write failed its CRC; 1 bit; R95 03; reset 0 -/
  spiCrcBad : Bool := false
deriving DecidableEq, Repr, Inhabited

/-! ### Ownership and the Ethernet ports (03) -/

/-- The standing claim of one port (R97, R98). -/
structure Claim where
  standing : Bool := false
  /-- Ranks under the service credential or in BLANK, below every configured priority (R97). -/
  special : Bool := false
  lastHb : Nat := 0
  late : Bool := false
deriving DecidableEq, Repr, Inhabited

/-- A nonce issued by OWN_CHALLENGE (R97). -/
structure Nonce where
  port : Nat := 0
  value : Nat := 0
  issued : Nat := 0
deriving DecidableEq, Repr, Inhabited

/-- The OWN block. -/
structure Own where
  /-- OWN_STATE.OWNER; 3 bits; R98 03; reset 0 -/
  owner : Nat := 0
  /-- OWN_STATE.ELECTION; 1 bit; R98 03; reset 0 -/
  election : Bool := false
  /-- OWN_STATE.EPOCH; 8 bits; R98 03; reset 0 -/
  epoch : Nat := 0
  /-- Claims of ports 1 to 5 (OWN_STATE.CLAIMS); 5 claims; R97 03; reset none standing -/
  claims : Vector Claim 5 := Vector.replicate 5 {}
  /-- Nonces issued and not yet used; list; R97 03; reset empty -/
  nonces : List Nonce := []
  /-- A lapse waiting for the owner's executing command to complete; 1 bit; R99 03; reset 0 -/
  lapsePending : Bool := false
  /-- PCIe link up; 1 bit; R70 03; reset DC 0 -/
  pcieUp : Bool := false
  /-- Ethernet MAC link up, ETH0 and ETH1; 2 bits; R102 03; reset DC 0 -/
  ethUp : Vector Bool 2 := Vector.replicate 2 false
  /-- Frames each MAC dropped; 2 counters; R102 03; reset DC 0 -/
  ethDrop : Vector Nat 2 := Vector.replicate 2 0
  /-- 10BASE-T1S PHY up, port 0 to 3; 4 bits; R102 03; reset DC 0 -/
  t1sUp : Vector Bool 4 := Vector.replicate 4 false
deriving DecidableEq, Repr, Inhabited

/-! ### Event gatherer (04) -/

/-- One event source (R105). PRIO, TARGET, ENABLE, DELIV, VEC, WAKE, STORM_EXP and HOST_OK stand in EVG_SRCn_CFG. -/
structure EvSrc where
  /-- EVG_PEND_k bit; 1 bit; R105 04; reset 0 -/
  pending : Bool := false
  /-- EVG_ACTIVE_k bit; 1 bit; R107 04; reset 0 -/
  active : Bool := false
  /-- EVG_STORMED_k bit; 1 bit; R117 04; reset 0 -/
  stormed : Bool := false
  /-- Level source's input asserted; 1 bit; R105 04; reset 0 -/
  input : Bool := false
  /-- Events counted in this storm window; count; R117 04; reset 0 -/
  count : Nat := 0
  /-- EVG_WAKE_LATCH or EVG_WAKE_LATCH1 bit, always-on domain; 1 bit; R115 04; reset DC 0 -/
  latch : Bool := false
  /-- Number of the CLK_PER cycle in which it last fired, the model's own record of R112, none before it fires; R112 04; reset none -/
  fireAt : Option Nat := none
  /-- PENDING as it stood before that cycle's fires, the model's own record of R112; 1 bit; R112 04; reset 0 -/
  was : Bool := false
deriving DecidableEq, Repr, Inhabited

/-- One target (R103, R107). The stack holds, latest first, the source claimed and the running priority it pushed
(none: IDLE). -/
structure EvTarget where
  /-- Stack of claims; at most 16; R107 04; reset empty (DEPTH 0, TOP_SRC 0) -/
  stack : List (Nat × Option Nat) := []
  /-- Running priority, none for IDLE; 5 bits; R107 04; reset IDLE -/
  run : Option Nat := none
  /-- EVG_Tt_STAT.CLAIM_RES; 2 bits; R107 04; reset 0 -/
  claimRes : Nat := 0
  /-- EVG_Tt_STAT.EOI_BAD; 1 bit; R108 04; reset 0 -/
  eoiBad : Bool := false
deriving DecidableEq, Repr, Inhabited

/-- A DIN input (R118): its filtered level after INVERT (EVG_DINn_CFG.STATE). -/
structure Din where
  /-- Filtered level before INVERT; 1 bit; R118 04; reset 0 -/
  level : Bool := false
deriving DecidableEq, Repr, Inhabited

/-- An EVG_WAIT under way (R509). -/
structure EvWait where
  line : Nat := 0
  seq : Nat := 0
  port : Nat := 0
  first : Nat := 0
  count : Nat := 0
deriving DecidableEq, Repr, Inhabited

/-- The EVG block. -/
structure Evg where
  /-- Event sources 0 to 511; 512 sources; R104 04; reset as EvSrc's fields -/
  src : Vector EvSrc 512 := Vector.replicate 512 {}
  /-- Targets 0 to 7; 8 targets; R103 04; reset as EvTarget's fields -/
  tgt : Vector EvTarget 8 := Vector.replicate 8 {}
  /-- DIN inputs; 32 inputs; R118 04; reset as Din's fields -/
  din : Vector Din 32 := Vector.replicate 32 {}
  /-- EVG_STAT.STORM_SRC; 9 bits; R117 04; reset 0 -/
  stormSrc : Nat := 0
  /-- EVG_STAT.CFG_ACTIVE; 1 bit; R113 04; reset 0 -/
  cfgActive : Bool := false
  /-- EVG_STAT.CLAIM_BAD; 1 bit; R107 04; reset 0 -/
  claimBad : Bool := false
  /-- EVG_STAT.EOI_BAD; 1 bit; R108 04; reset 0 -/
  eoiBad : Bool := false
  /-- EVG_STAT.HOST_DENIED; 1 bit; R113 04; reset 0 -/
  hostDenied : Bool := false
  /-- MSI-X per-vector mask, as the PCI Express specification resets it; 32 vectors; R106 04; reset PRESUMED 1 (log entry 58) -/
  vecMask : Vector Bool 32 := Vector.replicate 32 true
  /-- A vector's message is due and masked: the pending-bit array; 32 vectors; R106 04; reset 0 -/
  pba : Vector Bool 32 := Vector.replicate 32 false
  /-- EVG_WAIT commands under way; at most 4 a port; R509 20; reset empty -/
  waits : List EvWait := []
deriving DecidableEq, Repr, Inhabited

/-! ### Configuration storage (20) and debug (21) -/

/-- The slot map of xSPI0 (R510): areas 0 to 2, none for 0xFF. -/
structure SlotMap where
  /-- GEN; 32 bits; R510 20; reset DC 0 -/
  gen : Nat := 0
  /-- Area of ACTIVE; 8 bits; R510 20; reset DC none -/
  active : Option Nat := none
  /-- Area of PREVIOUS; 8 bits; R510 20; reset DC none -/
  previous : Option Nat := none
  /-- Area of STAGED; 8 bits; R510 20; reset DC none -/
  staged : Option Nat := none
  /-- HIGHEST; 32 bits; R510 20; reset DC 0 -/
  highest : Nat := 0
  /-- STAGED_STATE; 8 bits; R510 20; reset DC 0 -/
  stagedState : Nat := 0
  /-- FORCED, areas committed with FORCE; 3 bits; R510 20; reset DC none -/
  forced : List Nat := []
deriving DecidableEq, Repr, Inhabited

/-- What a write of xSPI0 under way will do when its read-back ends (R34, R511, R503, R411). -/
inductive XspWrite where
  | slotMap (m : SlotMap) (line seq : Nat) (rollback : Bool)
  | keyImage (line seq : Nat)
  | fwHeader (slot : Nat) (st : FwState) (line seq : Nat)
deriving DecidableEq, Repr, Inhabited

/-- A CFG_COMMIT or CFG_ROLLBACK past its ACCEPTED completion (R518). -/
structure CommitJob where
  line : Nat := 0
  seq : Nat := 0
  /-- Section IDs that differ and are still to take effect. -/
  sections : List Nat := []
  resetDue : Bool := false
  /-- The commit point has passed. -/
  committed : Bool := false
  partnerRes : Nat := 0
  /-- The inactive coefficient bank is written and its switch requested (R520). -/
  coef : Bool := false
deriving DecidableEq, Repr, Inhabited

/-- Configuration storage and the firmware parameters loaded (20). -/
structure Cfg where
  /-- The slot map in force; 64 bytes; R510 20; reset as SlotMap's fields -/
  map : SlotMap := {}
  /-- A valid ACTIVE configuration is loaded; 1 bit; R516 20; reset 0 -/
  loaded : Bool := false
  /-- Version of the configuration loaded; 32 bits; R512 20; reset 0 -/
  version : Nat := 0
  /-- Firmware parameters loaded, as (identifier, value) with identifiers rising and no value 0; R513 20; reset empty -/
  params : List (Nat × Nat) := []
  /-- Bytes of the image staged so far; 32 bits; R515 20; reset 0 -/
  stagedBytes : Nat := 0
  /-- TOTAL of the image being staged; 32 bits; R515 20; reset 0 -/
  stagedTotal : Nat := 0
  /-- Validation under way, for the command (line, seq); R515 20; reset none -/
  validating : Option (Nat × Nat) := none
  /-- A commit or rollback under way; R518 20; reset none -/
  job : Option CommitJob := none
  /-- A write of xSPI0 under way; R34 01; reset none -/
  write : Option XspWrite := none
  /-- AUTO_READY waiting for the M8 causes to clear (R44) or for the join; 1 bit; R42 02; reset 0 -/
  autoReady : Bool := false
  /-- The running SYS_MODE_SET(M4) or SYS_MODE_SET(M3) (line, seq, target); R501 20; reset none -/
  modeJob : Option (Nat × Nat × Nat) := none
deriving DecidableEq, Repr, Inhabited

/-- The DBG block and the TAP (21). -/
structure Dbg where
  /-- DBG_STAT.FROM_MODE; 4 bits; R526 21; reset DC M0 -/
  fromMode : Mode := .m0
  /-- DBG_STAT.CAUSE; 2 bits; R526 21; reset DC 0 -/
  cause : Nat := 0
  /-- DBG_STAT.RESUMABLE; 1 bit; R532 21; reset 0 -/
  resumable : Bool := false
  /-- DBG_STAT.REFUSED; 1 bit; R529 21; reset 0 -/
  refused : Bool := false
  /-- DBG_FRZ_TIME; 64 bits; R526 21; reset DC 0 -/
  frzTime : Nat := 0
  /-- DBG_RES_TIME; 64 bits; R533 21; reset 0 -/
  resTime : Nat := 0
  /-- DBG_CNT.FREEZES; 16 bits; R526 21; reset DC 0 -/
  freezes : Nat := 0
  /-- DBG_CNT.RESUMES; 16 bits; R533 21; reset DC 0 -/
  resumes : Nat := 0
  /-- TAP instruction register; 8 bits; R529 21; reset IDCODE 0x01 -/
  ir : Nat := 1
  /-- DBG_ADDR read address; 32 bits; R530 21; reset DC 0 -/
  addr : Nat := 0
  /-- DBG_READ's captured word with BLOCKED and ECC_DBL; 34 bits; R530 21; reset DC 0 -/
  word : Nat := 0
  /-- DBG_READ.BLOCKED; 1 bit; R530 21; reset DC 0 -/
  blocked : Bool := false
  /-- DBG_READ.ECC_DBL; 1 bit; R530 21; reset DC 0 -/
  eccDbl : Bool := false
  /-- Boundary register, cell 0 first; 384 bits; R554 22; reset DC all 0 (empty list) -/
  bnd : List Bool := []
  /-- Update latches of the boundary register; 384 bits; R554 22; reset DC all 0 (empty list) -/
  bndOut : List Bool := []
  /-- FREEZE_N low after its filter; 1 bit; R526 21; reset DC 0 -/
  freezeNLow : Bool := false
  /-- A freeze waiting for the power warning's steps 1 to 5; cause; R43 02; reset none -/
  waitingFreeze : Option Nat := none
  /-- The DIAG_FREEZE command (line, seq) that awaits its FINAL; R501 20; reset none -/
  job : Option (Nat × Nat) := none
  /-- Time frozen before the last freeze (`State.gap` at its start), ns; R533 21; the model's own; reset DC 0 -/
  stoppedAt : Nat := 0
  /-- Captured upper word of a 64-bit register (address, value); R7 00; reset none -/
  capHi : List (Nat × Nat) := []
deriving DecidableEq, Repr, Inhabited

/-- The supervisor's retention half as this model names its contents (R56, R67, R87, R52). The record of the
uncompleted commands is `Mbx.prior` and, while they run, `Mbx.cmds`. -/
structure Retention where
  /-- Copy of the error queue; 32 records; R67 02; reset empty after POR_COLD -/
  errq : List ErrRec := []
  /-- Copy of OVF; 1 bit; R67 02; reset 0 after POR_COLD -/
  ovf : Bool := false
  /-- Copy of OVF_CNT; 8 bits; R67 02; reset 0 after POR_COLD -/
  ovfCnt : Nat := 0
  /-- Next SEQ; 32 bits; R559 02; reset 1 after POR_COLD -/
  nextSeq : Nat := 1
  /-- Mode saved at a power warning; 4 bits; R56 02; reset DC M0 -/
  mode : Mode := .m0
  /-- Session states saved at a power warning, one a port; R56 02; reset DC 0 -/
  sessions : List Nat := []
  /-- Commanded states of the HTR channels (channel numbers on); R52 02; reset empty (off) after POR_COLD -/
  htrOn : List Nat := []
deriving DecidableEq, Repr, Inhabited

/-! ### Messages sent -/

/-- What the block sends to the world outside it: messages, frames and signals. -/
inductive OutKind where
  /-- An MSI-X message on a vector (R106). -/
  | msix
  /-- A response written to host memory over PCIe: address, bytes (R82). -/
  | dmaWrite
  /-- A management frame that has reached port 5 over TC3 (R94). -/
  | mgmtRelayed
  /-- A CREDIT frame (R91). -/
  | mgmtCredit
  /-- A DATA frame (R91). -/
  | mgmtData
  /-- A COMPLETE frame (R91). -/
  | mgmtComplete
  /-- A command to a cable's identity chip: its code, its parameters and their CRC-8 (R252). -/
  | cableChip
  /-- An MXP frame: the stations' command words, the furthest first (R288). -/
  | mxpWords
  /-- An ARP reply (R90). -/
  | arpReply
  /-- An ICMP echo reply (R90). -/
  | icmpReply
  /-- A word a register, memory or mailbox read returns. -/
  | readData
  /-- A core's clock restarts (R116). -/
  | clockRestart
  /-- A DEMAND payload (R162). -/
  | demand
  /-- A GRANT payload (R163). -/
  | grant
  /-- An INTAKE payload (R164). -/
  | intake
  /-- An Oluzel frame passed on or resent, on a port (R426). -/
  | ozFrame
  /-- A message an Oluzel frame completes, to the block it is for (R427). -/
  | ozDeliver
  /-- A TRAIN block (R424). -/
  | ozTrain
  /-- A CREDIT block (R428). -/
  | ozCredit
  /-- A NAK (R430). -/
  | ozNak
  /-- A TOPO record (R432). -/
  | ozTopo
  /-- A RING_BREAK notice (R435). -/
  | ozRingBreak
  /-- A datagram of the mailbox relay (R436). -/
  | gatewayDatagram
  /-- A management frame passed to its target as a TC3 payload (R436). -/
  | relayFrame
  /-- A SYNC (R445). -/
  | sync
  /-- A PDREQ (R444). -/
  | pdReq
  /-- A PDRESP (R444). -/
  | pdResp
  /-- A PTP message of a MAC (R447). -/
  | ptp
  /-- A pulse on TSU_IOk (R440). -/
  | tsuPulse
  /-- A frame on a CAN bus in internal loopback or its resend request (R328). -/
  | canFrame
  /-- The claim stream on DPX_CLAIM_OUT starts or stops (R459). -/
  | claimFrame
  /-- A mirror record over OZ3, by its TYPE (R464). -/
  | mirror
  /-- A Fenline frame (R485). -/
  | fenFrame
  /-- A selective acknowledgement (R485). -/
  | fenSack
  /-- A sounding frame or the request for one (R482, R483). -/
  | fenSounding
  /-- A tone map sent to its transmitter (R482). -/
  | toneMap
  /-- A link-metric report (R490). -/
  | linkMetric
  /-- A Fenline beacon (R481). -/
  | beacon
  /-- A response to the vehicle, or what the port's modem sends it (R309, R314). -/
  | vehicle
  /-- The vehicle is told of the stop and its reason (R311). -/
  | stopNotice
  /-- A PLCA beacon of a port's 10BASE-T1S PHY (R305). -/
  | plcaBeacon
  /-- A certificate request relayed to the host (R308). -/
  | certRelay
  /-- A test pulse output rises or falls (R359). -/
  | testPulse
  /-- A frame of the legal display port (R399). -/
  | display
  /-- Bytes of the optical port (R401). -/
  | optical
  /-- A configuration chunk, command or answer passed to the duplex partner over TC3 (R519). -/
  | partner
  /-- A word shifted out of the TAP (R529). -/
  | tap
  /-- An output frame of the MXP chain as the keeper sends it, the channels on (R49). -/
  | mxpFrame
deriving DecidableEq, Repr, Inhabited

/-- One message sent: its kind, its channel (a node, a port, a vector, a bus) and its fields. -/
structure Out where
  kind : OutKind
  chan : Nat
  data : List Int
deriving DecidableEq, Repr, Inhabited

/-! ### Sluice (05, 06). The tables themselves stand in the Sluice table RAM, `State.mem` from 0x5000_0000. -/

/-- One intake set the demand guard counts (R140, R143). -/
structure IntakeSet where
  /-- Node ID of the metering device; 12 bits; R140 05; reset CFG -/
  node : Nat := 0
  /-- Set number, 0 AC0 or 1 AC1; R140 05; reset CFG -/
  set : Nat := 0
  /-- DG_SET_MAX of the set, W; 32 bits; R140 05; reset CFG -/
  maxW : Nat := 0
  /-- Last reported P_IMPORT, W; 32 bits; R143 05; reset DC 0 -/
  lastP : Nat := 0
  /-- Last reported E_IMPORT, mWh; 48 bits; R164 06; reset none -/
  lastE : Option Nat := none
  /-- Rounds in a row without a report; count; R143 05; reset DC 0 -/
  miss : Nat := 0
  /-- A report of the round under way has arrived; 1 bit; R143 05; reset DC 0 -/
  fresh : Bool := false
deriving DecidableEq, Repr, Inhabited

/-- One output as the request-to-duty chain and placement see it (R16, R168 to R171). -/
structure SlcOp where
  /-- I_req of the output, mA; 32 bits; R16 01; reset DC 0 -/
  ireq : Nat := 0
  /-- I_cap of the output, mA; 32 bits; R16 01; reset DC 0 -/
  icap : Nat := 0
  /-- P_alw, the output's allowance of the present split, W; 32 bits; R16 01; reset DC 0 -/
  palw : Nat := 0
  /-- Maximum power reported to the vehicle at the last split, W; 32 bits; R309 12; reset 0 -/
  pmax : Nat := 0
  /-- Float drawn by the output in this round, W; 32 bits; R16 01; reset 0 -/
  floatDrawn : Nat := 0
  /-- SLC_OPn_ITGT, mA; 32 bits; R16 06; reset 0 -/
  itgt : Nat := 0
  /-- SLC_OPn_PLACE.BAND; 2 bits; R167 06; reset 0 -/
  band : Nat := 0
  /-- SLC_OPn_PLACE.SHED_PENDING with the shed's start (ns), target at its start (mA) and leg counts by group; R171 06; reset none (0) -/
  shed : Option (Nat × Nat × List Nat) := none
  /-- SLC_OPn_PLACE.HOLDOFF; 1 bit; R171 06; reset 0 -/
  holdoff : Bool := false
  /-- SLC_OPn_PLACE.SHORT; 1 bit; R170 06; reset 0 -/
  short : Bool := false
  /-- SLC_OPn_LOSS.LOSS, 0.25 W units; 24 bits; R167 06; reset 0 -/
  loss : Nat := 0
  /-- Class set by SLC_CLASS_SET; 3 bits; R506 20; reset none (VEH_CLASS applies) -/
  cls : Option Nat := none
  /-- Class set by SLC_CLASS_SET and due at the next round; 3 bits; R175 06; reset none -/
  clsNext : Option Nat := none
  /-- The output's session runs on emergency credit (class 1); 1 bit; R123 05; reset 0 -/
  emergency : Bool := false
deriving DecidableEq, Repr, Inhabited

/-- One power group as placement sees it (SLC_PGn_STAT, SLC_PGn_SHARE). -/
structure SlcPg where
  /-- SLC_PGn_STAT.LEGS_TARGET; 3 bits; R170 06; reset 0 -/
  legsTarget : Nat := 0
  /-- SLC_PGn_STAT.OUTPUT, none for 7 (free); 3 bits; R168 06; reset 7 -/
  output : Option Nat := none
  /-- SLC_PGn_STAT.LEG_MASK, whose count is LEGS_ACTIVE; 6 bits; R170 06; reset 0 -/
  mask : Vector Bool 6 := Vector.replicate 6 false
  /-- SLC_PGn_SHARE, mA; 32 bits; R169 06; reset 0 -/
  share : Nat := 0
  /-- Output a free group is being paralleled onto; R170 06; reset none -/
  joinTo : Option Nat := none
deriving DecidableEq, Repr, Inhabited

/-- The Sluice engine's own state, beside its table RAM. -/
structure Slc where
  /-- SLC_ROUND; 32 bits; R150 06; reset 0 -/
  round : Nat := 0
  /-- SLC_STAT.JOINED, also SYS_MODE.JOINED; 1 bit; R138 05; reset 0 -/
  joined : Bool := false
  /-- A join under way (R138); 1 bit; R138 05; reset 0 -/
  joining : Bool := false
  /-- SLC_STAT.LEASE_VALID; 1 bit; R133 05; reset 0 -/
  leaseValid : Bool := false
  /-- SLC_STAT.RAMPING; 1 bit; R133 05; reset 0 -/
  ramping : Bool := false
  /-- Credit the ramp runs from (G or G_d), W; 32 bits; R133 05; reset DC 0 -/
  rampBase : Nat := 0
  /-- Block time the ramp runs from, ns; R133 05; reset DC 0 -/
  rampFrom : Nat := 0
  /-- P_aux of the round, W; 32 bits; R16 01; reset DC 0 -/
  paux : Nat := 0
  /-- SLC_DEMAND, total demand last sent, W; 32 bits; R123 06; reset 0 -/
  demandSent : Nat := 0
  /-- SLC_FLOAT, W; 32 bits; R132 06; reset 0 -/
  float : Nat := 0
  /-- SLC_DG_LIMIT.A_ROOT, W; 32 bits; R141 06; reset 0 -/
  aRoot : Nat := 0
  /-- SLC_DG_EUSED, mWh; 48 bits; R141 06; reset 0 -/
  eUsed : Nat := 0
  /-- Start of the guard's interval as device time, ns, none while no guard runs; R141 05; reset none -/
  dgStart : Option Nat := none
  /-- T_DI in minutes and DG_ALIGN in ms of the interval that runs; R514 20; reset 15 and 0 (the defaults of R140) -/
  dgIv : Nat × Nat := (15, 0)
  /-- SLC_DG_U, W (signed: R141 does not bound it below); 32 bits; R141 06; reset 0 -/
  dgU : Int := 0
  /-- P_intake - P_draw of the last DG_U_ROUNDS rounds, latest first; list; R141 05; reset empty -/
  dgHist : List Int := []
  /-- DG_FLOOR_HIT standing; 1 bit; R142 05; reset 0 -/
  dgHit : Bool := false
  /-- The guard's intake sets; at most 16; R140 05; reset CFG -/
  sets : List IntakeSet := []
  /-- SLC_DROP.DROPPED; 16 bits; R165 06; reset 0 -/
  drop : Nat := 0
  /-- SLC_SHED_CNT.COMMITS; 16 bits; R171 06; reset 0 -/
  commits : Nat := 0
  /-- SLC_SHED_CNT.ABORTS; 16 bits; R171 06; reset 0 -/
  aborts : Nat := 0
  /-- Efficiency map bank in use; 1 bit; R166 06; reset DC 0 -/
  bank : Nat := 0
  /-- Roles (by index) that have formed their demand of this round; list; R154 06; reset empty -/
  formed : List Nat := []
  /-- Entries of children that reported again, with what stood reserved for them until the next round start; list; R136 05; reset empty -/
  rejoin : List (Nat × Nat) := []
  /-- Roles with the part of HOLD_SUM that R136 keeps until the next round start; list; R136 05; reset empty -/
  lowerAt : List (Nat × Nat) := []
  /-- Entries of Fenline leaves whose last demand came after the role had formed; list; R144 05; reset empty -/
  lateLeaf : List Nat := []
  /-- Entries of Fenline leaves whose round trip exceeds their bound; list; R145 05; reset empty -/
  slow : List Nat := []
  /-- Entries of the Sluice RAM with an uncorrected error, to be reloaded at the next round start; list; R33 01; reset empty -/
  reload : List Nat := []
  /-- Round of the last grant in a Fenline leaf, to be acknowledged; 32 bits; R144 05; reset 0 -/
  leafGrantRound : Nat := 0
  /-- The sum of the last demand's classes sent as a leaf awaits an acknowledgement; 1 bit; R144 05; reset 0 -/
  leafAck : Bool := false
  /-- Root: every child has reported since the configuration load, so RTT has been compared; 1 bit; R161 06; reset 0 -/
  rttChecked : Bool := false
  /-- Outputs 0 to 3; 4 outputs; R16 06; reset as SlcOp's fields -/
  op : Vector SlcOp 4 := Vector.replicate 4 {}
  /-- Power groups 0 to 5; 6 groups; R168 06; reset as SlcPg's fields -/
  pg : Vector SlcPg 6 := Vector.replicate 6 {}
deriving DecidableEq, Repr, Inhabited

/-! ### Power stage, transitions and protection (07, 08) -/

/-- PWM_LEGn_STAT.STATE. -/
inductive LegState where
  | off | switching | waiting | limited | ocLatched | gateFault | hsOnly | crowbar
deriving DecidableEq, Repr, Inhabited

/-- One phase leg (R176, R183, R192). -/
structure Leg where
  /-- PWM_LEGn_STAT.STATE; 3 bits; R192 07; reset 0 off -/
  st : LegState := .off
  /-- PWM_LEGn_STAT.OC_RUN; 4 bits; R192 07; reset 0 -/
  ocRun : Nat := 0
  /-- PWM_LEGn_STAT.OC_SEEN; 1 bit; R198 07; reset 0 -/
  ocSeen : Bool := false
  /-- PWM_LEGn_STAT.PHASE, 1/32-count units; 20 bits; R186 07; reset 0 -/
  phase : Nat := 0
  /-- PWM_LEGn_CMP, 1/32-count units; 19 bits; R184 07; reset 0 -/
  cmp : Nat := 0
  /-- PWM_LEGn_TRIM.TRIM_REQ, 2^-16 units, signed; 16 bits; R189 07; reset 0 -/
  trimReq : Int := 0
  /-- PWM_LEGn_TRIM.TRIM_APPLIED, 2^-16 units, signed; 16 bits; R184 07; reset 0 -/
  trimApplied : Int := 0
  /-- Excluded by PWR_LEG_EXCLUDE; 1 bit; R506 20; reset 0 -/
  exclCmd : Bool := false
  /-- Excluded by a lost or frozen current channel; 1 bit; R223 08; reset 0 -/
  exclFb : Bool := false
  /-- GFLTn_N low after its filter; 1 bit; R194 07; reset DC 0 -/
  gflt : Bool := false
  /-- The leg stops at its next valley; 1 bit; R203 07; reset 0 -/
  stopDue : Bool := false
  /-- Valley current sample, mA; 32 bits; R180 07; reset 0 -/
  current : Int := 0
  /-- Transition period due or running: length in 1/32-count units, none outside one; 20 bits; R187 07; reset none -/
  stretch : Option Nat := none
  /-- In its transition period: the first of its new-phase periods; 1 bit; R187 07; reset 0 -/
  moving : Bool := false
  /-- Periods for which the sharing loop's output is still held at 0; 3 bits; R190 07; reset 0 -/
  trimHold : Nat := 0
  /-- Block time from which an added leg switches, set at the group valley that takes it; R187 07; reset none -/
  startAt : Option Nat := none
  /-- Limited in the period under way or the one before, for the count of R192; 1 bit; R192 07; reset 0 -/
  limitedNow : Bool := false
  /-- The side that the limit of the period turned off: 1 the high side (OC_LIM), 0 the low side (OC_NEG); 1 bit; R192 07; reset 0 -/
  limHigh : Bool := false
  /-- Block time of the period's limit, or of the start of the leg's crowbar, ns; R192 07; reset DC 0 -/
  limAt : Nat := 0
  /-- Block time of the leg's own last carrier valley, ns; R183 07; reset none -/
  valleyAt : Option Nat := none
  /-- TRIM_REQ before its last write; 16 bits; R185 07; reset 0 -/
  trimPrev : Int := 0
  /-- Block time of the last write of TRIM_REQ, ns; R185 07; reset DC 0 -/
  trimAt : Nat := 0
deriving DecidableEq, Repr, Inhabited

/-- Tracking modes (R209). -/
inductive TrkMode where
  | none | coinOut | coinBus | ratio
deriving DecidableEq, Repr, Inhabited

/-- One power group (R181, R196, R209). -/
structure PwmPg where
  /-- PWM_PGn_STAT.TRIPPED; 1 bit; R196 07; reset 0 -/
  tripped : Bool := false
  /-- PWM_PGn_STAT.TRIP_CAUSE; 3 bits; R196 07; reset 0 -/
  cause : Nat := 0
  /-- PWM_PGn_STAT.RESPREAD; 1 bit; R187 07; reset 0 -/
  respread : Bool := false
  /-- The set of switching legs has changed and waits for a group valley; 1 bit; R188 07; reset 0 -/
  setChanged : Bool := false
  /-- Group valleys left to the next loop trigger; 3 bits; R189 07; reset 0 -/
  trigLeft : Nat := 0
  /-- PWM_PGn_U, mV, signed; 32 bits; R189 07; reset 0 -/
  u : Int := 0
  /-- PWM_PGn_U before its last write; 32 bits; R185 07; reset 0 -/
  uPrev : Int := 0
  /-- Block time of the last write of PWM_PGn_U, ns; R185 07; reset DC 0 -/
  uAt : Nat := 0
  /-- Block time of the group carrier's last valley, from which the carrier counter is read, ns; R182 07; reset none -/
  valleyAt : Option Nat := none
  /-- GATE_EN has been low since the last group valley: the pins stay low until the next; 1 bit; R198 07; reset 1 -/
  pinsHeld : Bool := true
  /-- PWM_PGn_DUTY.D_G, 2^-16 units; 17 bits; R184 07; reset 0 -/
  dG : Nat := 0
  /-- PWM_PGn_DUTY.FF_SAT; 1 bit; R191 07; reset 0 -/
  ffSat : Bool := false
  /-- PWM_PGn_MTX.CMD; 4 bits; R199 07; reset 0 -/
  mtxCmd : Vector Bool 4 := Vector.replicate 4 false
  /-- PWM_PGn_MTX.FB; 4 bits; R200 07; reset 0 -/
  mtxFb : Vector Bool 4 := Vector.replicate 4 false
  /-- PWM_PGn_MTX.BLOCKED; 4 bits; R200 07; reset 0 -/
  mtxBlocked : Vector Bool 4 := Vector.replicate 4 false
  /-- Positions blocked after CONTACTOR_WELD; 4 bits; R203 07; reset 0 -/
  mtxWeld : Vector Bool 4 := Vector.replicate 4 false
  /-- Group voltage, mV; 32 bits; R180 07; reset 0 -/
  vg : Int := 0
  /-- I_g, mA; 32 bits; R181 07; reset 0 -/
  ig : Int := 0
  /-- PWM_PGn_TRK.MODE; 2 bits; R209 08; reset 0 -/
  trk : TrkMode := .none
  /-- PWM_PGn_TRK.OUT; 2 bits; R209 08; reset 0 -/
  trkOut : Nat := 0
  /-- PWM_PGn_TRK.IN_TOL; 1 bit; R210 08; reset 0 -/
  inTol : Bool := false
  /-- PWM_PGn_TRK.CLOSE_CMD; 1 bit; R210 08; reset 0 -/
  closeCmd : Bool := false
  /-- PWM_PGn_TRK.DONE; 1 bit; R210 08; reset 0 -/
  trkDone : Bool := false
  /-- PWM_PGn_TRK.FAIL; 1 bit; R211 08; reset 0 -/
  trkFail : Bool := false
  /-- PWM_PGn_TRK.DIFF, V, signed; 16 bits; R210 08; reset 0 -/
  diff : Int := 0
  /-- The group's own voltage reference while tracking, mV; 32 bits; R209 08; reset 0 -/
  trkRef : Int := 0
  /-- The share of a joining group rises toward its placement share; 1 bit; R213 08; reset 0 -/
  rampShare : Bool := false
  /-- Excluded by a weld, an output's lost feedback or a crowbar, with the output concerned; list; R203 07; reset empty -/
  exclOut : List Nat := []
  /-- Opening of the group's matrix contactor under R203 runs, toward this output; R203 07; reset none -/
  opening : Option Nat := none
deriving DecidableEq, Repr, Inhabited

/-- Steps of the insulation check of an output (R214). -/
inductive InsStep where
  | idle | closing | tracking | holding | discharging | opening
deriving DecidableEq, Repr, Inhabited

/-- One output (R200, R207, R214 to R219). -/
structure PwmOut where
  /-- The output is energised (tracked in, its contactor closed); 1 bit; R42 02; reset 0 -/
  energised : Bool := false
  /-- PWM_OPn_CTR.CMD; 1 bit; R200 07; reset 0 -/
  ctrCmd : Bool := false
  /-- PWM_OPn_CTR.FB; 1 bit; R200 07; reset 0 -/
  ctrFb : Bool := false
  /-- PWM_OPn_CTR.ZERO; 1 bit; R203 07; reset 0 -/
  zero : Bool := false
  /-- PWM_OPn_CTR.WELD; 1 bit; R203 07; reset 0 -/
  weld : Bool := false
  /-- Output contactor excluded after CONTACTOR_FAIL; 1 bit; R200 07; reset 0 -/
  blocked : Bool := false
  /-- V_out, mV, signed; 32 bits; R178 07; reset 0 -/
  vout : Int := 0
  /-- Output current, the sum of I_g over the groups carrying it, mA; 32 bits; R181 07; reset 0 -/
  iout : Int := 0
  /-- I_ref, mA (PWM_OPn_IREF shows 0.1 A units); 32 bits; R207 08; reset 0 -/
  iref : Int := 0
  /-- V_lim in use, mV (PWM_OPn_VLIM shows V); 32 bits; R207 08; reset 0 -/
  vlim : Nat := 0
  /-- Target of V_lim set by the session core, mV; 32 bits; R207 08; reset 0 -/
  vTarget : Nat := 0
  /-- V_OV, mV (shown in V); 11 bits; R218 08; reset 0 -/
  vov : Nat := 0
  /-- V_RREF, V; 11 bits; R209 08; reset 0 -/
  vrref : Nat := 0
  /-- PWM_OPn_PROT.SLEWING; 1 bit; R207 08; reset 0 -/
  slewing : Bool := false
  /-- PWM_OPn_PROT.BRAKING; 1 bit; R216 08; reset 0 -/
  braking : Bool := false
  /-- PWM_OPn_PROT.CROWBAR; 1 bit; R219 08; reset 0 -/
  crowbar : Bool := false
  /-- PWM_OPn_PROT.FB_LOST; 1 bit; R223 08; reset 0 -/
  fbLost : Bool := false
  /-- PWM_OPn_PROT.WELD_V; 1 bit; R215 08; reset 0 -/
  weldV : Bool := false
  /-- PWM_OPn_PROT.WELD_SKIP; 1 bit; R215 08; reset 0 -/
  weldSkip : Bool := false
  /-- PWM_OPn_PROT.BRAKES; 8 bits; R216 08; reset 0 -/
  brakes : Nat := 0
  /-- Reads of V_out of the last 10 µs, latest first, mV; list; R216 08; reset empty -/
  vHist : List Int := []
  /-- Consecutive 1 µs reads above V_OV, on the output or a connected group; 2 bits; R218 08; reset 0 -/
  ovRun : Nat := 0
  /-- Consecutive valleys above I_ref + BRK_DI; 2 bits; R216 08; reset 0 -/
  diRun : Nat := 0
  /-- The bus has bled: contactor open, no group connected, T_BLEED passed; 1 bit; R212 08; reset DC 0 -/
  bled : Bool := false
  /-- Step of the insulation check; R214 08; reset idle -/
  ins : InsStep := .idle
  /-- Group the insulation check or weld test runs on; R214 08; reset 0 -/
  insGroup : Nat := 0
  /-- Weld test running; 1 bit; R215 08; reset 0 -/
  weldTest : Bool := false
  /-- Opening of the output contactor under R203 runs; 1 bit; R203 07; reset 0 -/
  opening : Bool := false
  /-- Groups that were connected when the crowbar started; list; R219 08; reset empty -/
  cbGroups : List Nat := []
deriving DecidableEq, Repr, Inhabited

/-- One DC-link channel's limit check (R191). Times are on the block's own clock, ns. -/
structure DcLink where
  /-- DC-link voltage, mV; 32 bits; R180 07; reset 0 -/
  v : Int := 0
  /-- The value before the last read; 32 bits; R185 07; reset 0 -/
  vPrev : Int := 0
  /-- Block time of the last read, ns; R185 07; reset DC 0 -/
  vAt : Nat := 0
  /-- Below V_MIN since; R191 07; reset none -/
  uvSince : Option Nat := none
  /-- Above V_MAX since; R191 07; reset none -/
  ovSince : Option Nat := none
  /-- Within limits since; R197 07; reset none -/
  okSince : Option Nat := none
deriving DecidableEq, Repr, Inhabited

/-- One feedback channel MDAT0 to MDAT47 (R176, R221, R222). -/
structure Mdat where
  /-- PWM_MDATn_VAL, signed; 32 bits; R178 07; reset 0 -/
  val : Int := 0
  /-- PWM_FB_LOST bit; 1 bit; R221 08; reset 0 -/
  lost : Bool := false
  /-- PWM_FB_FROZEN bit; 1 bit; R222 08; reset 0 -/
  frozen : Bool := false
  /-- The condition has cleared under R224 and waits for PWR_FAULT_CLEAR; 1 bit; R224 08; reset 0 -/
  good : Bool := false
deriving DecidableEq, Repr, Inhabited

/-- The PWM block. -/
structure Pwm where
  /-- PWM_CTRL.MCLK_RUN; 1 bit; R177 07; reset 0 -/
  mclkRun : Bool := false
  /-- PWM_CTRL.GATE_REQ; 1 bit; R12 07; reset 0 -/
  gateReq : Bool := false
  /-- Phase legs PL0 to PL35; 36 legs; R176 07; reset as Leg's fields -/
  leg : Vector Leg 36 := Vector.replicate 36 {}
  /-- Groups PG0 to PG5; 6 groups; R176 07; reset as PwmPg's fields -/
  pg : Vector PwmPg 6 := Vector.replicate 6 {}
  /-- Outputs OP0 to OP3; 4 outputs; R200 07; reset as PwmOut's fields -/
  out : Vector PwmOut 4 := Vector.replicate 4 {}
  /-- DC links 0 and 1; 2 links; R191 07; reset as DcLink's fields -/
  dcl : Vector DcLink 2 := Vector.replicate 2 {}
  /-- Feedback channels; 48 channels; R176 07; reset as Mdat's fields -/
  mdat : Vector Mdat 48 := Vector.replicate 48 {}
  /-- PWM_FB_LOST1.MCLK; 6 bits; R221 08; reset 0 -/
  mclkLost : Vector Bool 6 := Vector.replicate 6 false
  /-- Time of capture of the last PWR_MDAT_READ set, ns; 64 bits; R506 20; reset 0 -/
  mdatTime : Nat := 0
deriving DecidableEq, Repr, Inhabited

/-! ### Reedbed (09). Slot table, coefficients, section states and snapshots stand in Reedbed RAM, `State.mem` from
0x5800_0000. -/

/-- What a released slot has captured (R231, R234): its release time, its input, the bounds its sources
give, the preset value of each section, and what is to be done
before the normal computation. -/
structure Capture where
  release : Nat := 0
  loB : Option Int := none
  hiB : Option Int := none
  x : Int := 0
  ex : Int := 0
  presets : List Int := []
  restart : Bool := false
  switch : Bool := false
  idle : Bool := false
deriving DecidableEq, Repr, Inhabited

/-- One loop slot beside its table entry. -/
structure Slot where
  /-- The instance released and not yet completed or abandoned, with its capture; R234 09; reset none -/
  cap : Option Capture := none
  /-- A restart under R238 is due at the next release; 1 bit; R238 09; reset 0 -/
  restartDue : Bool := false
  /-- A snapshot is to be loaded at the first release (takeover); 1 bit; R242 09; reset 0 -/
  warmDue : Bool := false
  /-- The slot has completed its first instance since a takeover; 1 bit; R242 09; reset 0 -/
  warmDone : Bool := true
  /-- The slot has switched to the other bank while SWAP_PENDING; 1 bit; R240 09; reset 0 -/
  switched : Bool := false
  /-- LPE_SLOTn_STAT.STATE idle (2); 1 bit; R238 09; reset 0 -/
  idle : Bool := false
  /-- LPE_SLOTn_STAT.CLAMP_HI; 1 bit; R231 09; reset 0 -/
  clampHi : Bool := false
  /-- LPE_SLOTn_STAT.CLAMP_LO; 1 bit; R231 09; reset 0 -/
  clampLo : Bool := false
  /-- LPE_SLOTn_STAT.BANK; 1 bit; R240 09; reset 0 -/
  bank : Nat := 0
  /-- LPE_SLOTn_STAT.LAT, cycles; 16 bits; R235 09; reset 0 -/
  lat : Nat := 0
  /-- LPE_SLOTn_OUT, destination units, signed; 32 bits; R231 09; reset 0 -/
  out : Int := 0
  /-- LPE_OVR bit; 1 bit; R236 09; reset 0 -/
  ovr : Bool := false
  /-- Instances in a row completed by their deadlines since the trip; count; R237 09; reset 0 -/
  good : Nat := 0
  /-- The output is held at SAFE; 1 bit; R236 09; reset 0 -/
  safe : Bool := false
  /-- Completions since the last snapshot; 8 bits; R241 09; reset 0 -/
  mirCnt : Nat := 0
  /-- Block time of the last snapshot; R241 09; reset DC 0 -/
  mirAt : Nat := 0
  /-- Release of the last snapshot sent; R464 18; reset DC 0 -/
  mirRel : Nat := 0
  /-- Group slot: its group's trigger has fired and the slot is not yet released; 1 bit; R189 07; reset 0 -/
  trigDue : Bool := false
  /-- Sharing slot: its leg has stopped, and the sharing state is cleared before it is used again; 1 bit; R190 07; reset 0 -/
  clearDue : Bool := false
deriving DecidableEq, Repr, Inhabited

/-- The LPE block. -/
structure Lpe where
  /-- LPE_CTRL.BANK; 1 bit; R240 09; reset 0 -/
  bank : Nat := 0
  /-- LPE_CTRL.SWAP_PENDING; 1 bit; R240 09; reset 0 -/
  swapPending : Bool := false
  /-- LPE_CTRL.STANDBY; 1 bit; R241 09; reset 0 -/
  standby : Bool := false
  /-- LPE_CTRL.FORCED; 1 bit; R235 09; reset 0 -/
  forced : Bool := false
  /-- LPE_STAT.SAT_CNT; 16 bits; R229 09; reset 0 -/
  satCnt : Nat := 0
  /-- LPE_STAT.WR_BLOCK; 16 bits; R239 09; reset 0 -/
  wrBlock : Nat := 0
  /-- LPE_LANEn_LOAD.OVR_CNT; 16 bits, 4 lanes; R236 09; reset 0 -/
  ovrCnt : Vector Nat 4 := Vector.replicate 4 0
  /-- Loop slots LS0 to LS63; 64 slots; R227 09; reset as Slot's fields -/
  slot : Vector Slot 64 := Vector.replicate 64 {}
  /-- V_ref,n, mV, the output loops' results; 32 bits, 4 outputs; R189 07; reset DC 0 -/
  vref : Vector Int 4 := Vector.replicate 4 0
  /-- ΔV_g, mV, the share loops' results; 32 bits, 6 groups; R189 07; reset DC 0 -/
  dv : Vector Int 6 := Vector.replicate 6 0
  /-- V_ref,g, mV, V_ref,n within V_lim,n plus ΔV_g; 32 bits, 6 groups; R189 07; reset DC 0 -/
  vrefg : Vector Int 6 := Vector.replicate 6 0
deriving DecidableEq, Repr, Inhabited

/-! ### Cables, cooling and life (10) -/

/-- One output's cable: its thermal model, cap and life account. -/
structure CblOp where
  /-- Authentication running; 1 bit; R254 10; reset 0 -/
  authRun : Bool := false
  /-- The CBL_AUTH command (line, seq) that awaits its end; R507 20; reset none -/
  authJob : Option (Nat × Nat) := none
  /-- CBL_OPn_STAT.AUTH; 1 bit; R254 10; reset 0 -/
  auth : Bool := false
  /-- CBL_OPn_STAT.LEVEL; 2 bits; R267 10; reset 0 -/
  level : Nat := 0
  /-- CBL_OPn_STAT.CHIP; 1 bit; R255 10; reset 0 -/
  chip : Bool := false
  /-- CBL_SENSOR standing (CBL_OPn_STAT.SENSOR); 1 bit; R259 10; reset 0 -/
  sensor : Bool := false
  /-- CBL_HOT standing; 1 bit; R258 10; reset 0 -/
  hot : Bool := false
  /-- CBL_OVERTEMP standing; 1 bit; R260 10; reset 0 -/
  overtemp : Bool := false
  /-- CBL_FLOW standing; 1 bit; R261 10; reset 0 -/
  flowLow : Bool := false
  /-- Millisecond of block time of the last overtemperature trip; R268 10; reset none -/
  tripMs : Option Nat := none
  /-- Cable identity record as read; 320 bytes; R253 10; reset DC empty -/
  record : List Nat := []
  /-- Counter block as last read; 24 bytes; R252 10; reset DC empty -/
  ctr : List Nat := []
  /-- Node temperatures T0 to T5, °C, exact; 6 values; R256 10; reset DC 0 -/
  temp : Vector Rat 6 := Vector.replicate 6 0
  /-- Predicted peaks of T0, T3 and T5 at the present current, °C; 3 values; R262 10; reset DC 0 -/
  peak : Vector Rat 3 := Vector.replicate 3 0
  /-- I_s, mA (CBL_OPn_CAP.I_S shows 0.1 A); 16 bits; R258 10; reset 0 -/
  iS : Nat := 0
  /-- I_cap,n, mA (CBL_OPn_CAP.I_CAP shows 0.1 A); 16 bits; R259 10; reset 0 -/
  iCap : Nat := 0
  /-- Resistance R_c of the cable at the last model step, µΩ; 32 bits; R342 14; reset DC 0 -/
  rC : Nat := 0
  /-- P0 + P3 of the last model step, mW; R262 10; reset DC 0 -/
  heat : Rat := 0
  /-- Pending increments MATING, AH, DAMAGE, COOLANT, in counter units, exact; 4 values; R264 10; reset 0 -/
  pend : Vector Rat 4 := Vector.replicate 4 0
  /-- SERIAL the pending increments belong to; 16 bytes; R266 10; reset DC empty -/
  serial : List Nat := []
  /-- Counter value expected to be replaced and delta of an ADD_CTR begun; 4 counters; R266 10; reset none -/
  expect : Vector (Option (Nat × Nat)) 4 := Vector.replicate 4 none
  /-- Retention half: pending increments; R266 10; reset 0 after POR_COLD -/
  keptPend : Vector Rat 4 := Vector.replicate 4 0
  /-- Retention half: their SERIAL; R266 10; reset empty after POR_COLD -/
  keptSerial : List Nat := []
  /-- Retention half: `expect`; R266 10; reset none after POR_COLD -/
  keptExpect : Vector (Option (Nat × Nat)) 4 := Vector.replicate 4 none
  /-- A life write is due; 1 bit; R265 10; reset 0 -/
  lifeDue : Bool := false
  /-- The CBL_LIFE_FLUSH command (line, seq) that awaits its FINAL; R501 20; reset none -/
  flushJob : Option (Nat × Nat) := none
deriving DecidableEq, Repr, Inhabited

/-- The CBL block. -/
structure Cbl where
  /-- Outputs 0 to 3; 4 outputs; R251 10; reset as CblOp's fields -/
  op : Vector CblOp 4 := Vector.replicate 4 {}
  /-- TS0 to TS23 as last converted, m°C; 24 values; R251 10; reset DC 0 -/
  ts : Vector Int 24 := Vector.replicate 24 0
  /-- TS inputs that count as failed; 24 bits; R251 10; reset 0 -/
  tsBad : Vector Bool 24 := Vector.replicate 24 false
  /-- FLW0 to FLW7 as last sampled, mL/min; 8 values; R251 10; reset DC 0 -/
  flow : Vector Nat 8 := Vector.replicate 8 0
  /-- FLW inputs that count as failed; 8 bits; R251 10; reset 0 -/
  flowBad : Vector Bool 8 := Vector.replicate 8 false
  /-- CBL_COOLk_CMD.CMD; 16 bits, 16 commands; R263 10; reset 0 -/
  cool : Vector Nat 16 := Vector.replicate 16 0
deriving DecidableEq, Repr, Inhabited

/-! ### Load switches and the MXP chain (11) -/

/-- One load-switch channel (LSW_CHn_STAT, LSW_CHn_MEAS). -/
structure LswCh where
  /-- LSW_CHn_STAT.CMD; 1 bit; R274 11; reset 0 -/
  cmd : Bool := false
  /-- LSW_CHn_STAT.ON; 1 bit; R273 11; reset 0 -/
  on : Bool := false
  /-- LSW_CHn_STAT.PICKUP; 1 bit; R284 11; reset 0 -/
  pickup : Bool := false
  /-- LSW_CHn_STAT.LIMITING; 1 bit; R276 11; reset 0 -/
  limiting : Bool := false
  /-- LSW_CHn_STAT.THERMAL; 1 bit; R276 11; reset 0 -/
  thermal : Bool := false
  /-- LSW_CHn_STAT.OPEN_LOAD; 1 bit; R279 11; reset 0 -/
  openLoad : Bool := false
  /-- LSW_CHn_STAT.CLAMP_LOCK; 1 bit; R280 11; reset 0 -/
  clampLock : Bool := false
  /-- LSW_CHn_STAT.RETRY_SPENT; 1 bit; R277 11; reset 0 -/
  retrySpent : Bool := false
  /-- LSW_CHn_STAT.RETRIES; 4 bits; R277 11; reset 0 -/
  retries : Nat := 0
  /-- A restart is pending, for a shutdown at this block time; R277 11; reset none -/
  retryFrom : Option Nat := none
  /-- LSW_CHn_MEAS.CURRENT, mA; 14 bits; R276 11; reset 0 -/
  current : Nat := 0
  /-- The clamp account at `clampAt`, pJ (LSW_CHn_MEAS.CLAMP_ACC counts it in 0.1 mJ); R280 11; reset 0 -/
  clampAcc : Nat := 0
  /-- Block time of `clampAcc`; R280 11; reset DC 0 -/
  clampAt : Nat := 0
deriving DecidableEq, Repr, Inhabited

/-- The LSW and MXP block. -/
structure Lsw where
  /-- LSW_BANK.GOOD; 4 bits; R273 11; reset 0 -/
  good : Vector Bool 4 := Vector.replicate 4 false
  /-- A bank has fallen below 16 V and has not yet recovered; 4 bits; R273 11; reset 0 -/
  uv : Vector Bool 4 := Vector.replicate 4 false
  /-- Channels LSW0 to LSW31; 32 channels; R272 11; reset as LswCh's fields -/
  ch : Vector LswCh 32 := Vector.replicate 32 {}
  /-- LSW_PGENp_DUTY in use, 2^-16 units; 16 bits, 8 generators; R282 11; reset CFG (0 before the first configuration) -/
  duty : Vector Nat 8 := Vector.replicate 8 0
  /-- Duty that applies from the generator's next period start; 16 bits, 8 generators; R282 11; reset DC 0 -/
  dutyNext : Vector Nat 8 := Vector.replicate 8 0
  /-- Block time of the generator's last period start, ns; 8 generators; R283 11; reset none -/
  pgenAt : Vector (Option Nat) 8 := Vector.replicate 8 none
  /-- Duty of the generator's period before the present one, whose on-phases may wrap into it; 16 bits, 8 generators; R283 11; reset 0 -/
  dutyLast : Vector Nat 8 := Vector.replicate 8 0
  /-- MXP_CTRL.RUN; 1 bit; R288 11; reset 0 -/
  run : Bool := false
  /-- MXP_CTRL.FRAMES; 16 bits; R288 11; reset 0 -/
  frames : Nat := 0
  /-- MXP_CMDk, ON bits commanded, MXP channels 0 to 63; 64 bits; R288 11; reset 0 -/
  mOn : Vector Bool 64 := Vector.replicate 64 false
  /-- ECO bits of the command words; 64 bits; R289 11; reset 0 -/
  mEco : Vector Bool 64 := Vector.replicate 64 false
  /-- MXP_COILk; 64 bits; R290 11; reset 0 -/
  mCoil : Vector Bool 64 := Vector.replicate 64 false
  /-- MXP_AUXk; 64 bits; R290 11; reset 0 -/
  mAux : Vector Bool 64 := Vector.replicate 64 false
  /-- Good frames in a row without coil current on a channel commanded on; count, 64 channels; R290 11; reset 0 -/
  coilMiss : Vector Nat 64 := Vector.replicate 64 0
  /-- MXP_ERR.CRC_ST; 8 bits; R290 11; reset 0 -/
  crcSt : Vector Bool 8 := Vector.replicate 8 false
  /-- MXP_ERR.BAD_RUN; 2 bits; R290 11; reset 0 -/
  badRun : Nat := 0
  /-- MXP_ERR.CRC_CNT; 16 bits; R290 11; reset 0 -/
  crcCnt : Nat := 0
  /-- CRC failures per station (MXP_STATUS); 16 bits, 8 stations; R507 20; reset DC 0 -/
  stCnt : Vector Nat 8 := Vector.replicate 8 0
deriving DecidableEq, Repr, Inhabited

/-! ### Vehicle ports (12) -/

/-- What a checkpoint record carries of a session (R316), as this model names it: the fields the session core reads back
at a takeover, and the remaining bytes (keys, network state, protocol stack) unread. -/
structure Ckpt where
  seq : Nat := 0
  state : Nat := 0
  proto : Nat := 0
  msgNo : Nat := 0
  time : Nat := 0
  iReq : Int := 0
  vTgt : Nat := 0
  vOv : Nat := 0
  flags : Nat := 0
  rest : List Nat := []
  lastRsp : List Nat := []
deriving DecidableEq, Repr, Inhabited

/-- A vehicle frame as the standby buffers it (R315): what it asks for, its length in bytes, and the response the protocol
stack composes for it. -/
structure VehFrame where
  req : VehReq
  len : Nat
  stack : List Nat
  rsp : List Nat
deriving DecidableEq, Repr

/-- One vehicle port (R296). -/
structure Port where
  /-- VCL_Pn_CP.DUTY_SET; 10 bits; R300 12; reset 0 -/
  duty : Nat := 0
  /-- Duty before the last change, which runs to the end of its period; 10 bits; R300 12; reset 0 -/
  dutyWas : Nat := 0
  /-- Block time of the last change of the duty; R300 12; reset 0 -/
  dutyAt : Nat := 0
  /-- The protocol stack as a checkpoint carries it: SESSION_ID, then bytes 52 to 195 (addresses, TCP, TLS) and 220 to 1,259
  (CAN_STATE, STACK), zeros beyond its end; 1,192 bytes; R316 12; reset empty -/
  stack : List Nat := []
  /-- VCL_Pn_CP.STATE, 0 A to 4 E, 5 F, 6 Invalid; 3 bits; R301 12; reset 0 -/
  pilot : Nat := 0
  /-- Pilot state of the last samples and how many agreed; R301 12; reset none -/
  pilotRun : Nat × Nat := (0, 0)
  /-- VCL_Pn_CP.DIODE_FAULT; 1 bit; R301 12; reset 0 -/
  diode : Bool := false
  /-- Low plateaus above -10.5 V in a row; 2 bits; R301 12; reset 0 -/
  lowRun : Nat := 0
  /-- VCL_Pn_CPV.V_HIGH, mV, signed; 16 bits; R301 12; reset 0 -/
  vHigh : Int := 0
  /-- VCL_Pn_CPV.V_LOW, mV, signed; 16 bits; R301 12; reset 0 -/
  vLow : Int := 0
  /-- VCL_Pn_PP.V_PP, mV; 13 bits; R303 12; reset 0 -/
  vPp : Nat := 0
  /-- Band of the last conversion, not yet accepted; 2 bits; R303 12; reset DC 0 -/
  bandNew : Nat := 0
  /-- Block time since which the band has been unchanged; R303 12; reset DC 0 -/
  bandSince : Nat := 0
  /-- VCL_Pn_PP.BAND; 2 bits; R303 12; reset 0 -/
  band : Nat := 0
  /-- VCL_Pn_PP.MEANING; 2 bits; R303 12; reset 0 (NONE) -/
  meaning : Nat := 0
  /-- VCL_Pn_LINK.SLAC; 2 bits; R304 12; reset 0 -/
  slac : Nat := 0
  /-- VCL_Pn_LINK.ATTEN, dB; 6 bits; R304 12; reset 0 -/
  atten : Nat := 0
  /-- SLAC attempts of this plug-in; 2 bits; R304 12; reset 0 -/
  slacTries : Nat := 0
  /-- Green PHY network membership key in the modem; 128 bits; R304 12; reset DC 0 -/
  nmk : Nat := 0
  /-- Green PHY network identifier in the modem; 56 bits; R304 12; reset DC 0 -/
  nid : Nat := 0
  /-- VCL_Pn_LINK.TLS; 1 bit; R299 12; reset 0 -/
  tls : Bool := false
  /-- VCL_Pn_LINK.BUSOFF; 1 bit; R313 12; reset 0 -/
  busoff : Bool := false
  /-- VCL_Pn_SESS.STATE; 4 bits; R306 12; reset 0 -/
  sess : Nat := 0
  /-- VCL_Pn_SESS.PROTO; 4 bits; R298 12; reset 0 -/
  proto : Nat := 0
  /-- VCL_Pn_SESS.STOP_REASON; 8 bits; R311 12; reset 0 -/
  reason : Nat := 0
  /-- The stop was caused by an error of the port, so the session ends in FAULT; 1 bit; R306 12; reset 0 -/
  portErr : Bool := false
  /-- VCL_Pn_SESS.AUTHORISED; 1 bit; R308 12; reset 0 -/
  authorised : Bool := false
  /-- VCL_Pn_SESS.DISCHARGING; 1 bit; R310 12; reset 0 -/
  discharging : Bool := false
  /-- VCL_Pn_SESS.LOCKED; 1 bit; R312 12; reset 0 -/
  locked : Bool := false
  /-- VCL_Pn_SESS.CKPT_DESYNC; 1 bit; R314 12; reset 0 -/
  desync : Bool := false
  /-- VCL_Pn_REQ.I_REQ, mA, signed; 32 bits; R309 12; reset 0 -/
  iReq : Int := 0
  /-- VCL_Pn_VREQ.V_TGT, mV (shown in 0.1 V); 16 bits; R309 12; reset 0 -/
  vTgt : Nat := 0
  /-- VCL_Pn_VREQ.V_EV_MAX, mV (shown in 0.1 V); 16 bits; R309 12; reset 0 -/
  vEvMax : Nat := 0
  /-- I_EV_MAX, mA; 32 bits; R507 20; reset DC 0 -/
  iEvMax : Nat := 0
  /-- P_EV_MAX, W; 32 bits; R507 20; reset DC 0 -/
  pEvMax : Nat := 0
  /-- I_DIS_MAX, mA; 32 bits; R507 20; reset DC 0 -/
  iDisMax : Nat := 0
  /-- SOC, %; 8 bits; R507 20; reset 0xFF (not reported) -/
  soc : Nat := 255
  /-- E_TARGET, Wh; 32 bits; R507 20; reset 0 -/
  eTarget : Nat := 0
  /-- EV_MAC; 48 bits; R507 20; reset DC 0 -/
  evMac : Nat := 0
  /-- Identification type of VEH_AUTHORIZE; 8 bits; R507 20; reset DC 0 -/
  idType : Nat := 0
  /-- Identification of VEH_AUTHORIZE; at most 64 bytes; R507 20; reset DC empty -/
  ident : List Nat := []
  /-- EV_ID; 128 bits; R507 20; reset DC 0 -/
  evId : Nat := 0
  /-- VCL_Pn_PEXP.P_EXP, W; 32 bits; R310 12; reset 0 -/
  pExp : Nat := 0
  /-- VCL_Pn_CKPT.SEQ; 32 bits; R314 12; reset 0 -/
  ckptSeq : Nat := 0
  /-- VCL_Pn_CNT.MSGS; 16 bits; R314 12; reset 0 -/
  msgs : Nat := 0
  /-- MSG_NO, vehicle messages processed in the session; 32 bits; R316 12; reset 0 -/
  msgNo : Nat := 0
  /-- The insulation check of this session has been ended by its session core; 1 bit; R306 12; reset DC 0 -/
  checked : Bool := false
  /-- VCL_Pn_CNT.SESSIONS; 16 bits; R306 12; reset 0 -/
  sessions : Nat := 0
  /-- Taken out of service by VEH_PORT_ENABLE; 1 bit; R320 12; reset DC 0 -/
  disabled : Bool := false
  /-- VCL_CTRL.RX_ONLY; 1 bit; R305 12; reset 0 -/
  rxOnly : Bool := false
  /-- PLCA beacons sent by this port; 1 bit; R305 12; reset 0 -/
  plca : Bool := false
  /-- Number of the pending certificate relay, 0 none; 32 bits; R308 20; reset 0 -/
  relay : Nat := 0
  /-- Number of relays so far; 32 bits; R507 20; reset DC 0 -/
  relayNo : Nat := 0
  /-- Body of the pending certificate relay; at most 8,192 bytes; R507 20; reset empty -/
  relayBody : List Nat := []
  /-- The port's last error record; 16 bytes; R507 20; reset none (zeros) -/
  lastErr : Option ErrRec := none
  /-- A composed response waits for its checkpoint's acknowledgement; R314 12; reset none -/
  heldRsp : Option (List Nat) := none
  /-- LAST_RSP; at most 2,048 bytes; R315 12; reset empty -/
  lastRsp : List Nat := []
  /-- Standby: the port's latest checkpoint; R315 12; reset none -/
  ckpt : Option Ckpt := none
  /-- Standby: buffered vehicle frames, oldest first; at most 64 or 64 KB; R315 12; reset empty -/
  frames : List VehFrame := []
  /-- Standby: the buffer has overflowed; 1 bit; R315 12; reset 0 -/
  frameOvf : Bool := false
  /-- Capped at 0 since; block time; R311 12; reset none -/
  capZero : Option Nat := none
deriving DecidableEq, Repr, Inhabited

/-- The VCL block. -/
structure Vcl where
  /-- Ports VP0 to VP3; 4 ports; R296 12; reset as Port's fields -/
  port : Vector Port 4 := Vector.replicate 4 {}
deriving DecidableEq, Repr, Inhabited

/-! ### CAN controllers (13). Message objects stand in the controllers' windows of `State.mem`; so do MODE and the CFG
fields of CAN_CTRL, CAN_NBT and CAN_DBT. -/

/-- One CAN controller (R321 to R335). -/
structure CanCtl where
  /-- Confinement: 0 error-active, 1 error-passive, 2 bus-off (CAN_STAT.STATE shows 3 in modes 0 and 2); 2 bits; R330 13; reset 0 -/
  conf : Nat := 0
  /-- CAN_STAT.LONE; 1 bit; R332 13; reset 0 -/
  lone : Bool := false
  /-- The object whose frame is being sent (CAN_STAT.TXING, STAT.TXING); R328 13; reset none -/
  txing : Option Nat := none
  /-- CAN_STAT.CFG_BUSY; 1 bit; R328 13; reset 0 -/
  cfgBusy : Bool := false
  /-- CAN_STAT.LEC; 3 bits; R336 13; reset 0 -/
  lec : Nat := 0
  /-- Holding buffer (CAN_STAT.HOLD), oldest first; at most 4; R326 13; reset empty -/
  hold : List CanFrame := []
  /-- CAN_ECNT.TEC; 9 bits; R330 13; reset 0 -/
  tec : Nat := 0
  /-- CAN_ECNT.REC; 8 bits; R330 13; reset 0 -/
  recv : Nat := 0
  /-- Recovery counting (CAN_CTRL.RECOVER); 1 bit; R331 13; reset 0 -/
  recovering : Bool := false
  /-- CAN_CNT.ACK_RUN; 8 bits; R332 13; reset 0 -/
  ackRun : Nat := 0
  /-- CAN_CNT.BUSOFF_CNT; 16 bits; R331 13; reset 0 -/
  busoffCnt : Nat := 0
  /-- CAN_DROP.RX_DROP; 16 bits; R326 13; reset 0 -/
  rxDrop : Nat := 0
  /-- CAN_DROP.LOST; 16 bits; R326 13; reset 0 -/
  lostCnt : Nat := 0
  /-- Frame count of RXINFO; 16 bits; R325 13; reset DC 0 -/
  frames : Nat := 0
  /-- Out of the bus after a protocol exception; 1 bit; R323 13; reset 0 -/
  excepted : Bool := false
  /-- Objects whose cancel waits on TXING (CAN_TXCANCELk); list; R329 13; reset empty -/
  cancels : List Nat := []
  /-- The CLK_PER cycle of the last write of CAN_TXCANCELk, and the objects it named; R334 13; reset none -/
  cxl : Nat × List Nat := (0, [])
  /-- The CAN_TX_CANCEL command (object, line, seq) that waits for a frame's end; R507 20; reset none -/
  job : Option (Nat × Nat × Nat) := none
  /-- The mode changes to 1 at the next bus idle (takeover); 1 bit; R333 13; reset 0 -/
  modeDue : Bool := false
deriving DecidableEq, Repr, Inhabited

/-- The CAN blocks. -/
structure Can where
  /-- Controllers CAN0 to CAN5; 6 controllers; R321 13; reset as CanCtl's fields -/
  ctl : Vector CanCtl 6 := Vector.replicate 6 {}
deriving DecidableEq, Repr, Inhabited

/-! ### Metering (14) -/

/-- The five calibration parameters of one channel or path (R349). -/
structure CalPar where
  gain : Nat := 1073741824
  ofs : Int := 0
  tc1 : Int := 0
  tc2 : Int := 0
  phase : Int := 0
deriving DecidableEq, Repr, Inhabited

/-- One DC channel (R338 to R343). -/
structure MtrDc where
  /-- Weight w in steps of 1/FADE_N (MTR_DCn_STAT.W shows round(w*255)); R339 14; reset 0 -/
  w : Nat := 0
  /-- MTR_DCn_STAT.OVR16; 1 bit; R338 14; reset 0 -/
  ovr16 : Bool := false
  /-- MTR_DCn_STAT.OVR1; 1 bit; R338 14; reset 0 -/
  ovr1 : Bool := false
  /-- Overloaded (x1 path or voltage) since, block time; R361 14; reset none -/
  ovrSince : Option Nat := none
  /-- MTR_DCn_STAT.FAULT; 1 bit; R351 14; reset 0 -/
  fault : Bool := false
  /-- MTR_DCn_STAT.INLET; 2 bits; R342 14; reset 0 -/
  inlet : Nat := 0
  /-- MTR_DCn_STAT.SENSE_BAD; 1 bit; R343 14; reset 0 -/
  senseBad : Bool := false
  /-- The sense differs beyond 2 % of V since, and lies within since, block time; R343 14; reset none -/
  senseOut : Option Nat := none
  senseIn : Option Nat := none
  /-- MTR_DCn_STAT.CREEP; 1 bit; R341 14; reset 0 -/
  creep : Bool := false
  /-- |I| below I_START since, block time; R341 14; reset none -/
  lowSince : Option Nat := none
  /-- The two current paths differ beyond R351 since, block time; R351 14; reset none -/
  crossSince : Option Nat := none
  /-- Largest |P| since the last 1 ms record, W; R357 14; reset 0 -/
  pk : Nat := 0
  /-- Sums over the running latch interval: samples, V mV, I mA, P µW, P_in µW; exact; R352 14; reset 0 -/
  sumN : Nat := 0
  sumV : Rat := 0
  sumI : Rat := 0
  sumP : Rat := 0
  sumPin : Rat := 0
  /-- MTR_DCn_VI.V, mV (shown in 0.1 V); 16 bits; R352 14; reset 0 -/
  v : Int := 0
  /-- MTR_DCn_VI.I, mA (shown in 0.1 A); 16 bits; R352 14; reset 0 -/
  i : Int := 0
  /-- MTR_DCn_P, W; 32 bits; R352 14; reset 0 -/
  p : Int := 0
  /-- MTR_DCn_PIN, W; 32 bits; R342 14; reset 0 -/
  pIn : Int := 0
  /-- Least voltage since MTR_EXTREME_RESET, 0.1 V; 16 bits; R352 14; reset 0xFFFF -/
  vMin : Nat := 0xFFFF
  /-- Greatest voltage since MTR_EXTREME_RESET, 0.1 V; 16 bits; R352 14; reset 0 -/
  vMax : Nat := 0
  /-- MTR_DCn_VEXT.V_MIN as latched, 0.1 V; 16 bits; R9, R352 14; reset 0xFFFF -/
  extMin : Nat := 0xFFFF
  /-- MTR_DCn_VEXT.V_MAX as latched, 0.1 V; 16 bits; R9, R352 14; reset 0 -/
  extMax : Nat := 0
deriving DecidableEq, Repr, Inhabited

/-- One open sag, interruption or swell (R347, R348). -/
structure AcEvent where
  typ : Nat := 0
  phases : Nat := 0
  freqLost : Bool := false
  start : Nat := 0
  extreme : Nat := 0
  lastAt : Nat := 0
  duration : Nat := 0
  cut : Bool := false
  seq : Nat := 0
deriving DecidableEq, Repr, Inhabited

/-- One AC intake set (R344 to R347). -/
structure MtrAc where
  /-- MTR_ACs_FREQ.F, mHz; 17 bits; R344 14; reset 0 -/
  freq : Nat := 0
  /-- Periods of the last cycles, ns, latest first; at most 12; R344 14; reset empty -/
  periods : List Nat := []
  /-- MTR_ACs_FREQ.FREQ_OK; 1 bit; R344 14; reset 0 -/
  freqOk : Bool := false
  /-- Latched U_RMS of the phases, mV; 3 of 32 bits; R345 14; reset 0 -/
  u : Vector Nat 3 := Vector.replicate 3 0
  /-- Latched I_RMS of the phases and neutral, mA; 4 of 32 bits; R345 14; reset 0 -/
  i : Vector Nat 4 := Vector.replicate 4 0
  /-- MTR_ACs_P, W; 32 bits; R345 14; reset 0 -/
  p : Int := 0
  /-- MTR_ACs_Q, var; 32 bits; R345 14; reset 0 -/
  q : Int := 0
  /-- MTR_ACs_S, VA; 32 bits; R345 14; reset 0 -/
  sVa : Nat := 0
  /-- MTR_ACs_PF.PF, 2^-15 units, signed; 16 bits; R345 14; reset 0 -/
  pf : Int := 0
  /-- MTR_ACs_PF.QUAD; 2 bits; R345 14; reset 0 -/
  quad : Nat := 0
  /-- Values of the cycles of the running latch interval, latest last: (P µW, Q µvar, S µVA, squares of U rms in mV and of I rms in mA); R352 14; reset empty -/
  cyc : List (Rat × Rat × Rat × List Rat × List Rat) := []
  /-- MTR_ACs_THD.THD_U, 0.01 %; 16 bits; R346 14; reset 0 -/
  thdU : Nat := 0
  /-- MTR_ACs_THD.THD_I, 0.01 %; 16 bits; R346 14; reset 0 -/
  thdI : Nat := 0
  /-- Last harmonic window: end time, F mHz, then per channel U1-U3, I1-I4 the groups G_1 to G_63 and THD; R346 14; reset 0 (empty) -/
  harmEnd : Nat := 0
  harmF : Nat := 0
  harm : List (List Nat × Nat) := []
  /-- MTR_ACs_STAT.OPEN bit 0 with the event; R347 14; reset none -/
  sag : Option AcEvent := none
  /-- MTR_ACs_STAT.OPEN bit 1 with the event; R347 14; reset none -/
  swell : Option AcEvent := none
  /-- MTR_ACs_STAT.PHASES; 3 bits; R347 14; reset 0 -/
  phases : Nat := 0
  /-- Event queue, oldest first; at most 16; R347 14; reset empty -/
  evq : List AcEvent := []
  /-- MTR_ACs_STAT.EVQ_OVF; 1 bit; R347 14; reset 0 -/
  evqOvf : Bool := false
  /-- Next record number of the set, retention half; 32 bits; R348 14; reset 0 after POR_COLD -/
  nextSeq : Nat := 0
  /-- CUT records kept in the retention half until the entry to M3; R348 14; reset empty -/
  kept : List AcEvent := []
  /-- MTR_ACs_STAT.FAULT; 1 bit; R351 14; reset 0 -/
  fault : Bool := false
deriving DecidableEq, Repr, Inhabited

/-- One test pulse output (R359). -/
structure TestPulse where
  /-- Accumulator and constant that `due` was last counted with; R359 14; reset DC (0, 0) -/
  key : Nat × Nat := (0, 0)
  /-- Due count floor(wide*CONST/10^9) last seen; R359 14; reset DC 0 -/
  due : Nat := 0
  /-- Level of TPk; 1 bit; R359 14; reset DC 0 -/
  high : Bool := false
  /-- In the low gap after a pulse; 1 bit; R359 14; reset DC 0 -/
  gap : Bool := false
  /-- Backlog: the lengths of the pulses that wait, µs, oldest first; at most 65,535; R359 14; reset DC empty -/
  backlog : List Nat := []
  /-- Due time of the previous pulse, block time; R359 14; reset none -/
  prevDue : Option Nat := none
  /-- Length of the pulse running, µs; R359 14; reset DC 0 -/
  width : Nat := 0
  /-- MTR_TPk_CFG.TP_OVF; 1 bit; R359 14; reset 0 -/
  ovf : Bool := false
  /-- SRC and CONST set by MTR_TP_SET; R359 14; reset none -/
  srcSet : Option (Nat × Nat) := none
deriving DecidableEq, Repr, Inhabited

/-- The MTR block. -/
structure Mtr where
  /-- Wide accumulators, fine unit; 40 of 96 bits; R353 14; reset 0 (R356) -/
  wide : Vector Nat 40 := Vector.replicate 40 0
  /-- Remainders below one fine unit, exact; 40; R341 14; reset 0 -/
  rem : Vector Rat 40 := Vector.replicate 40 0
  /-- MTR_ACCa latched accumulators; 40 of 48 bits; R353 14; reset 0 -/
  latched : Vector Nat 40 := Vector.replicate 40 0
  /-- MTR_WIDEa as of the last capture; 40 of 96 bits; R354 14; reset 0 -/
  snap : Vector Nat 40 := Vector.replicate 40 0
  /-- MTR_SNAP.DONE; 1 bit; R354 14; reset 0 -/
  snapDone : Bool := false

  /-- MTR_LATCH_SEQ; 32 bits; R352 14; reset 0 -/
  latchSeq : Nat := 0
  /-- Cycles of the sync set since the last tick; 8 bits; R352 14; reset 0 -/
  cycN : Nat := 0
  /-- Block time of the last tick; R352 14; reset none -/
  tickAt : Option Nat := none
  /-- MTR_LATCH_TIME; 64 bits; R352 14; reset 0 -/
  latchTime : Nat := 0
  /-- MTR_STAT.WIDE_WINDOW by the 60 s window (the modes add to it); 1 bit; R354 14; reset 0 -/
  window60 : Bool := false
  /-- MTR_STAT.SYNC_OK; 1 bit; R352 14; reset 0 -/
  syncOk : Bool := false
  /-- Good cycles in a row of the sync set while ticks run on the timer; 4 bits; R352 14; reset 0 -/
  goodCyc : Nat := 0
  /-- MTR_STAT.RESTORED; 1 bit; R356 14; reset 0 -/
  restored : Bool := false
  /-- MTR_STAT.FALLBACK; 1 bit; R356 14; reset 0 -/
  fallback : Bool := false
  /-- MTR_STAT.BOUND_NA; 1 bit; R358 14; reset 0 -/
  boundNa : Bool := false
  /-- MTR_STAT.SELFTEST_OK; 1 bit; R351 14; reset 0 -/
  selftestOk : Bool := false
  /-- MTR_STAT.WIDE_DENY; 16 bits; R354 14; reset 0 -/
  wideDeny : Nat := 0
  /-- Device time of the last completed save (MTR_SAVE.AGE); 64 bits; R357 14; reset DC 0 -/
  saveAt : Nat := 0
  /-- DC channels 0 to 3; 4 channels; R338 14; reset as MtrDc's fields -/
  dc : Vector MtrDc 4 := Vector.replicate 4 {}
  /-- AC sets 0 and 1; 2 sets; R344 14; reset as MtrAc's fields -/
  ac : Vector MtrAc 2 := Vector.replicate 2 {}
  /-- Test pulse outputs TP0 to TP5; 6 outputs; R359 14; reset as TestPulse's fields -/
  tp : Vector TestPulse 6 := Vector.replicate 6 {}
  /-- Calibration set in force: DC channel n path sub (V, VSNS, I x1, I x16) at 4n + sub, AC set s channel c at 16 + 7s + c; 30 sets; R350 14; reset DC unity (the S-grade set of R349) -/
  cal : Vector CalPar 30 := Vector.replicate 30 {}
  /-- Pending calibration set; R350 14; reset none -/
  calNew : Option (Vector CalPar 30) := none
  /-- Calibration set recorded by the legal pair and due at the next latch tick, with its CAL_SEQ and the command; R350 14; reset none -/
  calDue : Option (Vector CalPar 30 × Nat × Nat × Nat) := none
deriving DecidableEq, Repr, Inhabited

/-! ### Legal partition and billing (15). The Peat log stands in `State.mem` from 0x9000_0000. -/

/-- A request in the ring of the MTR block (R367). -/
inductive LglReq where
  | sessionOpen (port proto : Nat)
  | sessionClose (port reason : Nat)
  | paramLoad (data : List Nat) (line seq : Nat)
  | calCommit (line seq : Nat)
  | role (standby : Bool)
deriving DecidableEq, Repr, Inhabited

/-- An open session of the legal pair, what its record will say (R378). -/
structure LSess where
  no : Nat := 0
  startL : Nat := 0
  startRead : List Nat := []
  tariffE : List Nat := []
  sflags : Nat := 0
  basis : Nat := 0
  inletMode : Nat := 0
  idType : Nat := 0
  ident : List Nat := []
  evId : Nat := 0
  cable : List Nat := []
  vMin : Nat := 0xFFFFFFFF
  vMax : Nat := 0
  accStart : Int := 0
  proto : Nat := 0
deriving DecidableEq, Repr, Inhabited

/-- Prepayment of a port, kept by the supervisor (R396, R397). Energies in mWh. -/
structure Prepay where
  account : Int := 0
  emergWh : Nat := 0
  emergSoc : Nat := 0
  emerg : Nat := 0
  shortfall : Nat := 0
  lastE : Nat := 0
deriving DecidableEq, Repr, Inhabited

/-- A protected window (R398). -/
structure Window where
  day : Nat := 0
  start : Nat := 0
  dur : Nat := 0
deriving DecidableEq, Repr, Inhabited

/-- Causes of a boundary (R393). -/
structure BCauses where
  intervalEnd : Bool := false
  clockStep : Option Nat := none
  calendar : Bool := false
  tariff : Bool := false
  calInForce : Bool := false
  powerFail : Bool := false
deriving DecidableEq, Repr, Inhabited

/-- The optical port (R401). -/
inductive Optical where
  | waiting | identified
deriving DecidableEq, Repr, Inhabited

/-- The legal core pair, its retention half, and the supervisor's prepayment. -/
structure Lgl where
  /-- SYS_MODE.LEGAL_READY as published; 1 bit; R368 15; reset 0 -/
  ready : Bool := false
  /-- Start-up done; 1 bit; R368 15; reset 0 -/
  startup : Bool := false
  /-- A restart of the pair is running; 1 bit; R369 15; reset 0 -/
  restarting : Bool := false
  /-- Cause of the restart running: 1 lockstep, 2 double-bit; R382 15; reset DC 0 -/
  restartCause : Nat := 0
  /-- Heartbeat has stood still for 20 ms; 1 bit; R368 15; reset 0 -/
  stalled : Bool := false
  /-- The partition is declared lost; 1 bit; R370 15; reset 0 -/
  lost : Bool := false
  /-- Block time of the last heartbeat; R370 15; reset DC 0 -/
  hbAt : Nat := 0
  /-- Block time since which the heartbeat has run without a stop; R44 02; reset DC 0 -/
  hbSince : Nat := 0
  /-- Block time of the last lockstep mismatch; R47 02; reset none -/
  mismatchAt : Option Nat := none
  /-- SEAL_N reads open; 1 bit; R371 15; reset DC 0 (closed) -/
  sealOpen : Bool := false
  /-- Check value; 64 bits; R365 15; reset DC 0 -/
  check : Nat := 0
  /-- Check value of the newest ring record; 64 bits; R366 15; reset DC 0 -/
  lastCheck : Nat := 0
  /-- Requests in the ring of 16 slots, oldest first, and after them those that wait for a slot; R367 15; reset empty -/
  ring : List LglReq := []
  /-- The last request taken off the ring as the legal export area reports it, and whether it was taken or refused; R367 15; reset none -/
  report : Option (LglReq × Bool) := none
  /-- Duplex role told by ROLE: standby; 1 bit; R367 15; reset 0 -/
  standby : Bool := false
  /-- Legal time L at `lAt`, ns since 1970; R390 15; reset DC 0 -/
  lBase : Nat := 0
  /-- Device time of `lBase`; R390 15; reset DC 0 -/
  lAt : Nat := 0
  /-- Slew running, +1 fast, -1 slow, 0 none; R390 15; reset 0 -/
  slew : Int := 0
  /-- Slews since start-up; 32 bits; R390 15; reset 0 -/
  slews : Nat := 0
  /-- Net slew of the running interval, ns; R381 15; reset 0 -/
  slewNet : Int := 0
  /-- UTC offset of the last TIME_INFO, ns; R390 15; reset DC 0 -/
  utcOfs : Int := 0
  /-- TIME_INFO reports synchronisation; 1 bit; R390 15; reset 0 -/
  synced : Bool := false
  /-- LSEQ of the newest ring record; 64 bits; R377 15; reset 0 (no record) -/
  lseq : Nat := 0
  /-- Offset of the next ring record; R376 15; reset 0x20000 -/
  tail : Nat := 0x20000
  /-- Offset of the last ring byte, set by the xSPI1 device fitted; 32 bits; R375 15; reset DC 0x3FFFFF (4 MB) -/
  ringEnd : Nat := 0x3FFFFF
  /-- SHA-256 of the newest ring record; 256 bits; R377 15; reset 0 -/
  prev : List Nat := []
  /-- HGEN of the newest header copy; 32 bits; R375 15; reset 0 -/
  hgen : Nat := 0
  /-- The last write failed: LGL_LOG_ERR stands; 1 bit; R376 15; reset 0 -/
  logErr : Bool := false
  /-- LOG_FULL; 1 bit; R376 15; reset 0 -/
  logFull : Bool := false
  /-- Records that could not be written, in LSEQ order; list; R376 15; reset empty -/
  kept : List (List Nat) := []
  /-- LSEQ and LTIME (ms) and offset of the ring records held, oldest first; R376 15; reset empty -/
  index : List (Nat × Nat × Nat × Nat) := []
  /-- ISEQ of the open interval; 64 bits; R381 15; reset DC 0 -/
  iseq : Nat := 0
  /-- START_LTIME of the open interval, ms; R381 15; reset DC 0 -/
  iStart : Nat := 0
  /-- IFLAGS of the open interval; 16 bits; R381 15; reset 0 -/
  iFlags : Nat := 0
  /-- Wide accumulators at the interval's start; 40; R381 15; reset 0 -/
  iWide : Vector Nat 40 := Vector.replicate 40 0
  /-- Highest latched mean import power of each AC set in the interval, W; R381 15; reset 0 -/
  iPeak : Vector Nat 2 := Vector.replicate 2 0
  /-- Tariff in force, 0 to 7; R385 15; reset 0 -/
  tariff : Nat := 0
  /-- Tariff registers, output 0 T1 first, µWh; 32 of 64 bits; R385 15; reset DC 0 -/
  treg : Vector Nat 32 := Vector.replicate 32 0
  /-- Billing-basis readings at the last addition to the tariff registers; 40; R385 15; reset 0 -/
  tWide : Vector Nat 40 := Vector.replicate 40 0
  /-- Open sessions by port; 4; R379 15; reset none -/
  sess : Vector (Option LSess) 4 := Vector.replicate 4 none
  /-- SESS_NO last used by port; 4 of 32 bits; R378 15; reset DC 0 -/
  sessNo : Vector Nat 4 := Vector.replicate 4 0
  /-- Last session by port: number, energy µWh, end legal time ms; R400 15; reset none -/
  lastSess : Vector (Option (Nat × Nat × Nat)) 4 := Vector.replicate 4 none
  /-- Sessions to close at the restart of the pair, with their reason; R380 15; reset empty -/
  closeAtRestart : Option Nat := none
  /-- GEN of the legal parameter set in force; 32 bits; R374 15; reset 0 (none) -/
  gen : Nat := 0
  /-- Copy of the legal parameter set in force: 0 A, 1 B; R374 15; reset none -/
  copy : Option Nat := none
  /-- CAL_SEQ in force; 32 bits; R350 14; reset DC 0 -/
  calSeq : Nat := 0
  /-- A step of L to UTC is due at the next boundary; 1 bit; R390 15; reset 0 -/
  stepDue : Bool := false
  /-- Periodic saves: slot written last, 0 A, 1 B; R374 15; reset DC 1 -/
  saveSlot : Nat := 1
  /-- Device time of the newest periodic save and of the emergency save; R356 14; reset none -/
  perAt : Option Nat := none
  emgAt : Option Nat := none
  /-- An emergency save follows the power warning; 1 bit; R56 02; reset 0 -/
  emgDue : Bool := false
  /-- The POWER_WARNING event is due after that save; 1 bit; R394 15; reset 0 -/
  pfEvent : Bool := false
  /-- Retention half: largest |P| since the last save, W, and the time of that write; 4 channels; R357 14; reset 0 -/
  hiP : Vector Nat 4 := Vector.replicate 4 0
  hiAt : Nat := 0
  /-- Retention half: device time of the last filtered PFW_N fall; R357 14; reset none -/
  pfwAt : Option Nat := none
  /-- Errors the pair has published and the supervisor has still to raise: code and item; R404 15; reset empty -/
  errs : List (Nat × Nat × Nat) := []
  /-- Screen shown; R400 15; reset DC 1 -/
  screen : Nat := 1
  /-- Optical port; R401 15; reset waiting -/
  optical : Optical := .waiting
  /-- Device time of the last freeze's stop, until its FREEZE_GAP is written; R535 21; reset none -/
  gapFrom : Option Nat := none
  /-- Prepayment by port, none for postpaid; R396 15; reset none -/
  prepay : Vector (Option Prepay) 4 := Vector.replicate 4 none
  /-- Protected windows; at most 8; R398 15; reset empty -/
  windows : List Window := []
deriving DecidableEq, Repr, Inhabited

/-! ### Keys and life cycle (16) -/

/-- One key slot: the key is held as K xor M beside its mask M (R409). -/
structure KeySlot where
  /-- KEY_FILL bit; 1 bit; R406 16; reset 0 -/
  filled : Bool := false
  /-- TYPE, 1 AES-128 to 6 P-384 public; 8 bits; R508 20; reset 0 -/
  typ : Nat := 0
  /-- USERS, bit 0 supervisor, 1 to 4 SES0 to SES3, 5 legal; 6 bits; R407 16; reset 0 -/
  users : Nat := 0
  /-- K xor M; up to 384 bits; R409 16; reset 0 -/
  masked : Nat := 0
  /-- M; up to 384 bits; R409 16; reset 0 -/
  mask : Nat := 0
  /-- Public half X then Y; 64 or 96 bytes; R406 16; reset empty -/
  pub : List Nat := []
deriving DecidableEq, Repr, Inhabited

/-- A crypto operation waiting or running (R413). -/
structure CryptoOp where
  user : Nat := 0
  slot : Option Nat := none
deriving DecidableEq, Repr, Inhabited

/-- The KEY block. -/
structure Key where
  /-- Fuse PROVISIONED; 1 bit; R416 16; reset DC 0 -/
  fProv : Bool := false
  /-- Fuse FIELD; 1 bit; R416 16; reset DC 0 -/
  fField : Bool := false
  /-- Fuse RETURN; 1 bit; R416 16; reset DC 0 -/
  fReturn : Bool := false
  /-- Fuse END; 1 bit; R416 16; reset DC 0 -/
  fEnd : Bool := false
  /-- SVC_CNT fuses burned; 0 to 32; R416 16; reset DC 0 -/
  svcCnt : Nat := 0
  /-- KEY_STAT.TRNG_OK; 1 bit; R414 16; reset 0 -/
  trngOk : Bool := false
  /-- KEY_STAT.IMAGE_OK; 1 bit; R408 16; reset 0 -/
  imageOk : Bool := false
  /-- KEY_STAT.SVC_PORTS; 5 bits, ports 1 to 5; R410 16; reset 0 -/
  rights : Vector Bool 5 := Vector.replicate 5 false
  /-- KEY_STAT.IMG_GEN; 8 bits of the key image generation; R408 16; reset 0 -/
  imgGen : Nat := 0
  /-- KEY_STAT.REMASK; 16 bits; R409 16; reset 0 -/
  remask : Nat := 0
  /-- Slots 0 to 63; 64 slots; R406 16; reset as KeySlot's fields -/
  slots : Vector KeySlot 64 := Vector.replicate 64 {}
  /-- VENDOR keys in one-time fuses, slots 4 to 7; 4 keys; R406, R408 16; reset DC a P-384 public key of zeros in each -/
  vendor : Vector KeySlot 4 := Vector.replicate 4 { filled := true, typ := 6, users := 1 }
  /-- Key image in xSPI0, slot by slot; 64 slots; R408 16; reset DC empty -/
  image : Vector KeySlot 64 := Vector.replicate 64 {}
  /-- Destruction counts under which DEVICE, LEGAL, OPERATOR and SESSION were wrapped; 4 counts; R408 16; reset DC 0 -/
  wrapped : Vector Nat 4 := Vector.replicate 4 0
  /-- A slot as a KEY_WRITE will set it once its image is committed (slot number, content); R411 16; reset none -/
  newSlot : Option (Nat × KeySlot) := none
  /-- Operations waiting, in order of service; R413 16; reset empty -/
  queue : List CryptoOp := []
  /-- The operation running; R413 16; reset none -/
  running : Option CryptoOp := none
  /-- A re-mask of the slot in use waits for its operation; 1 bit; R409 16; reset 0 -/
  remaskDue : Bool := false
  /-- A KEY_LC_SET waits for running key operations: its target and command (line, seq); R418 16; reset none -/
  lcJob : Option (Nat × Nat × Nat) := none
deriving DecidableEq, Repr, Inhabited

/-! ### Oluzel link and time (17) -/

/-- A frame queued at an egress port: its class, its payload bytes, and the message it carries. -/
structure WaitFrame where
  cls : Nat := 0
  len : Nat := 0
  msg : Out := { kind := .ozFrame, chan := 0, data := [] }
  /-- The ingress port whose receive buffer the frame still holds; R428 17 -/
  inp : Option Nat := none
deriving DecidableEq, Repr, Inhabited

/-- One Oluzel port. -/
structure OzPort where
  /-- OZL_PORTn_STAT.UP; 1 bit; R424 17; reset 0 -/
  up : Bool := false
  /-- OZL_PORTn_STAT.LONG_LINK; 1 bit; R423 17; reset 0 -/
  longLink : Bool := false
  /-- OZL_PORTn_STAT.REFUSE; 3 bits; R424 17; reset 0 -/
  refuse : Nat := 0
  /-- OZL_PORTn_STAT.PEER; 12 bits; R424 17; reset 0 -/
  peer : Nat := 0
  /-- Member of the neighbour; 2 bits; R424 17; reset 0 -/
  peerMember : Nat := 0
  /-- OZL_PORTn_STAT.PEER_PORT; 2 bits; R424 17; reset 0 -/
  peerPort : Nat := 0
  /-- DEVICE_ID of the neighbour; 128 bits; R424 17; reset DC 0 -/
  peerDev : Nat := 0
  /-- The partner's TRAIN record has been received intact (ACK sent); 1 bit; R424 17; reset 0 -/
  ackTx : Bool := false
  /-- Index of the next TRAIN block; 2 bits; R424 17; reset 0 -/
  trainIdx : Nat := 0
  /-- OZL_PORTn_DELAY.D, 2^-8 ns; 32 bits; R444 17; reset 0 -/
  delay : Nat := 0
  /-- SEQ and t1 of the PDREQ outstanding; R444 17; reset none -/
  pdReq : Option (Nat × Nat) := none
  /-- t2 and t4 of the last exchange, for the rate ratio; R444 17; reset none -/
  pdLast : Option (Int × Int) := none
  /-- Neighbour rate ratio; exact; R444 17; reset DC 1 -/
  ratio : Rat := 1

  /-- OZL_PORTn_CNT.FCS; 16 bits; R426 17; reset 0 -/
  fcs : Nat := 0
  /-- OZL_PORTn_CNT.HCRC; 16 bits; R426 17; reset 0 -/
  hcrc : Nat := 0
  /-- FCS errors of the second under way and its number; R450 17; reset DC 0 -/
  fcsSec : Nat × Nat := (0, 0)
  /-- TC1 wire time of the round under way, 0.1 ns, with its round; R437 17; reset DC 0 -/
  tc1Now : Nat × Nat := (0, 0)
  /-- TC1 wire times of the last 16 completed rounds, ns, latest first; R437 17; reset empty -/
  tc1Hist : List Nat := []
  /-- Credits held from the next hop, TC0 to TC4; 5 counts; R428 17; reset 0 -/
  credit : Vector Nat 5 := Vector.replicate 5 0
  /-- The neighbour's counts of buffers freed as last received; 5 of 8 bits; R428 17; reset 0 -/
  freedRx : Vector Nat 5 := Vector.replicate 5 0
  /-- Own counts of buffers freed since link up; 5 of 8 bits; R428 17; reset 0 -/
  freed : Vector Nat 5 := Vector.replicate 5 0
  /-- Frames that wait for a credit, oldest first; R428 17; reset empty -/
  wait : List WaitFrame := []
  /-- Bytes TC3 and TC4 have had of the round robin while both wait; R429 17; reset DC 0 -/
  share : Nat × Nat := (0, 0)
deriving DecidableEq, Repr, Inhabited

/-- One entry of the topology database. -/
structure TopoEnt where
  node : Nat := 0
  member : Nat := 0
  ports : List TopoPort := []
  seen : Nat := 0
deriving DecidableEq, Repr, Inhabited

/-- A route: PATH to the node and PATH from it in µs, hops, egress port, 4 for Fenline (R434, R437, R488). -/
structure PathEnt where
  node : Nat := 0
  us : Nat := 0
  back : Nat := 0
  hops : Nat := 0
  egress : Nat := 0
deriving DecidableEq, Repr, Inhabited

/-- A link of the graph by its key (R433): lower node, higher node, port at the lower node. -/
structure LinkKey where
  lo : Nat := 0
  hi : Nat := 0
  port : Nat := 0
deriving DecidableEq, Repr, Inhabited

/-- A message being reassembled (R427). -/
structure Partial where
  src : Nat := 0
  cls : Nat := 0
  msg : Nat := 0
  idx : Nat := 0
  bytes : List Nat := []
deriving DecidableEq, Repr, Inhabited

/-- The messages of TC3 or TC4 kept for one destination (R430): number of the next, and the last 64. -/
structure SentLog where
  dst : Nat := 0
  cls : Nat := 0
  next : Nat := 0
  held : List (Nat × WaitFrame) := []
deriving DecidableEq, Repr, Inhabited

/-- The next message expected from one source in TC3 or TC4 (R430). -/
structure ExpectMsg where
  src : Nat := 0
  cls : Nat := 0
  next : Nat := 0
  /-- The message that showed the gap for which a NAK was sent; R430 17 -/
  gap : Option Nat := none
deriving DecidableEq, Repr, Inhabited

/-- The OZL block. -/
structure Ozl where
  /-- Ports OZ0 to OZ3; 4 ports; R423 17; reset as OzPort's fields -/
  port : Vector OzPort 4 := Vector.replicate 4 {}
  /-- Topology database, one entry a node and member, rising; R432 17; reset empty -/
  topo : List TopoEnt := []
  /-- Blocked links of the graph; list of keys; R433 17; reset empty -/
  blocked : List LinkKey := []
  /-- The ring's blocked link (OZL_TOPO.BLK_NODE, BLK_PORT); R435 17; reset none (0) -/
  ringBlk : Option LinkKey := none
  /-- Nodes of the ring (OZL_TOPO.RING shows membership); list; R433 17; reset empty -/
  ring : List Nat := []
  /-- Failed link of the ring that is bridged (OZL_TOPO.HEALED); R435 17; reset none -/
  broken : Option LinkKey := none
  /-- The bridged link has left the database; 1 bit; R435 17; reset 0 -/
  brokenGone : Bool := false
  /-- Routes to the other nodes, with PATH; list; R434, R437 17; reset empty -/
  paths : List PathEnt := []
  /-- OZL_NO_PARENT standing; 1 bit; R449 17; reset 0 -/
  noParent : Bool := false
  /-- Reassemblies under way; list; R427 17; reset empty -/
  partials : List Partial := []
  /-- Messages kept for resending; list; R430 17; reset empty -/
  sent : List SentLog := []
  /-- Messages expected; list; R430 17; reset empty -/
  expect : List ExpectMsg := []
  /-- Next MSG of TC0, TC1 and TC2; 3 of 16 bits; R425 17; reset DC 0 -/
  msgNo : Vector Nat 3 := Vector.replicate 3 0
  /-- Gateway: the address that last sent to a target; list of (target, address); R436 17; reset empty -/
  gateway : List (Nat × Nat) := []
deriving DecidableEq, Repr, Inhabited

/-- A time domain (R442). -/
structure Dom where
  /-- TSU_DOMd_STAT.STATE, 0 FREE to 3 HOLDOVER; 2 bits; R442 17; reset 0 -/
  st : Nat := 0
  /-- Domain time at `at0`, 2^-32 ns; 96 bits; R442 17; reset DC 0 -/
  time : Nat := 0
  /-- Block time of `time`, ns; R442 17; reset DC 0 -/
  at0 : Nat := 0
  /-- F_d (TSU_DOMd_FREQ shows 2^-40 units), exact; R442 17; reset 0 -/
  f : Rat := 0
  /-- Integrator I, exact; R442 17; reset 0 -/
  integ : Rat := 0
  /-- Samples in a row at the clamp; count (AT_CLAMP where above 0); R442 17; reset 0 -/
  clampRun : Nat := 0
  /-- Samples in a row with |o| within LOCK_NS; count; R442 17; reset 0 -/
  lockRun : Nat := 0
  /-- Samples in a row with |o| above 4 LOCK_NS; count; R442 17; reset 0 -/
  outRun : Nat := 0
  /-- TSU_DOMd_OFS.O, ns, signed; 32 bits; R442 17; reset 0 -/
  ofs : Int := 0
  /-- TSU_DOMd_STAT.UTC_OFS, s; 16 bits; R445 17; reset 0 -/
  utc : Nat := 0
  /-- Block time since which the domain is LOCKED; R443 17; reset none -/
  lockedAt : Option Nat := none
  /-- Block time and interval of the last sample, ns; R442 17; reset DC 0 -/
  sampled : Nat × Nat := (0, 0)
  /-- Block time of the entry to HOLDOVER; R442 17; reset DC 0 -/
  heldAt : Nat := 0
deriving DecidableEq, Repr, Inhabited

/-- A compare/capture unit (R440). -/
structure CcUnit where
  /-- Compare armed; 1 bit; R440 17; reset 0 -/
  armed : Bool := false
  /-- TSU_CCk_TIME.T as target; 32 bits; R440 17; reset 0 -/
  target : Nat := 0
  /-- The capture held unread; 64 bits; R440 17; reset none -/
  cap : Option Nat := none
  /-- Last captured value, as TSU_CCk_TIME and CAPHI go on to show it; 64 bits; R440 17; reset 0 -/
  last : Nat := 0
  /-- TSU_CCk_CFG.LATE; 1 bit; R440 17; reset 0 -/
  late : Bool := false
  /-- TSU_CCk_CFG.OVR; 1 bit; R440 17; reset 0 -/
  ovr : Bool := false
deriving DecidableEq, Repr, Inhabited

/-- The PTP port of one MAC (R447). Times are ns. -/
structure Ptp where
  /-- The port is master by the best master clock algorithm; 1 bit; R447 17; reset 0 -/
  master : Bool := false
  /-- t1 and t2 of the Sync under way, with its sequence number; R447 17; reset none -/
  sync : Option (Nat × Int × Int) := none
  /-- Send time of the delay request outstanding, with its sequence number; R447 17; reset none -/
  req : Option (Nat × Int) := none
  /-- t2 - t1 of the last Sync; R447 17; reset none -/
  msDelay : Option Int := none
  /-- Mean path delay; R447 17; reset DC 0 -/
  delay : Int := 0
  /-- Sequence number of the next message sent; 16 bits; R447 17; reset DC 0 -/
  seq : Nat := 0
deriving DecidableEq, Repr, Inhabited

/-- The TSU block. -/
structure Tsu where
  /-- Device time at `baseAt`, 2^-32 ns; 96 bits; R438 17; survives resets; reset DC 0 -/
  base : Nat := 0
  /-- Block time of `base`, ns; R438 17; reset DC 0 -/
  baseAt : Nat := 0
  /-- F_dev, exact; R443 17; reset DC 0 -/
  f : Rat := 0
  /-- Always-on clock: device time at its last refresh, ns, a whole number of ticks; R438 17; reset DC 0 -/
  aon : Nat := 0
  /-- Block time of the last refresh of the always-on clock; R438 17; reset DC 0 -/
  aonAt : Nat := 0
  /-- TSU_STAT.FOLLOWED, 0 DOM_A, 1 DOM_B; 1 bit; R443 17; reset 0 (CFG) -/
  followed : Nat := 0
  /-- FOLLOW_AUTO in force (CFG, then TIM_FOLLOW_SET); 1 bit; R443 17; reset 0 (CFG) -/
  auto : Bool := false
  /-- TSU_STAT.STEP_OK; 1 bit; R438 17; reset 1 -/
  stepOk : Bool := true
  /-- DOM_A and DOM_B; 2 domains; R442 17; reset as Dom's fields -/
  dom : Vector Dom 2 := Vector.replicate 2 {}
  /-- Block time since which the preferred domain has not been LOCKED; R443 17; reset DC 0 -/
  lostAt : Nat := 0
  /-- Compare/capture units 0 to 15; 16 units; R440 17; reset as CcUnit's fields -/
  cc : Vector CcUnit 16 := Vector.replicate 16 {}
  /-- SEQ of the next SYNC, PDREQ and RING_BREAK; 3 of 32 bits; R445 17; reset DC 0 -/
  seq : Vector Nat 3 := Vector.replicate 3 0
  /-- PTP ports of MAC 0 and 1; 2 ports; R447 17; reset as Ptp's fields -/
  ptp : Vector Ptp 2 := Vector.replicate 2 {}
deriving DecidableEq, Repr, Inhabited

/-! ### Duplex pair (18) -/

/-- One group of a PWM_STATE record (R464). -/
structure MirPg where
  valley : Nat := 0
  per : Nat := 0
  switching : Nat := 0
  excluded : Nat := 0
  u : Int := 0
  mtxCmd : Nat := 0
deriving DecidableEq, Repr, Inhabited

/-- A LOAD_STATE record (R464): load-switch commands, pickups done, MXP commands and ECO bits, pilot duties. -/
structure MirLoad where
  lswCmd : Nat := 0
  pickupDone : Nat := 0
  mxpOn : Nat := 0
  mxpEco : Nat := 0
  duty : List Nat := []
deriving DecidableEq, Repr, Inhabited

/-- A ROLE record (R464). -/
structure RoleRec where
  role : Nat := 0
  mode : Nat := 0
  st : Nat := 0
  claim : Nat := 0
  lastClaim : Nat := 0
  cfgVersion : Nat := 0
  deviceId : Nat := 0
deriving DecidableEq, Repr, Inhabited

/-- The DPX block. -/
structure Dpx where
  /-- DPX_STAT.ROLE, 0 not paired, 1 active, 2 standby, 3 deciding; 2 bits; R453 18; reset 0 -/
  role : Nat := 0
  /-- DPX_STAT.STATE of a standby; 2 bits; R465 18; reset 0 -/
  st : Nat := 0
  /-- DPX_STAT.CLAIMING; 1 bit; R459 18; reset 0 -/
  claiming : Bool := false
  /-- DPX_STAT.PARTNER_VALID; 1 bit; R462 18; reset 0 -/
  pValid : Bool := false
  /-- DPX_STAT.SEL_OK; 1 bit; R461 18; reset 0 -/
  selOk : Bool := false
  /-- DPX_SEL_N has read high since the member took the role; 1 bit; R461 18; reset 0 -/
  selSeen : Bool := false
  /-- Block time since which DPX_SEL_N has been low; R461 18; reset none -/
  selLowAt : Option Nat := none
  /-- ROLE records are arriving (DPX_STAT.MIRROR_UP with OZ3 up); 1 bit; R465 18; reset 0 -/
  roleUp : Bool := false
  /-- DPX_STAT.LEAVE; 1 bit; R454 18; reset 0 -/
  left : Bool := false
  /-- DPX_CLAIM.CLAIM; 32 bits; R460 18; reset 0 -/
  claim : Nat := 0
  /-- DPX_PCLAIM.CLAIM; 32 bits; R460 18; reset 0 -/
  pClaim : Nat := 0
  /-- DPX_LAST_CLAIM.LAST, always-on domain; 32 bits; R460 18; reset DC 0 -/
  lastClaim : Nat := 0
  /-- Claim decoder: HB of the last good frame; 2 bits; R462 18; reset DC 0 -/
  hb : Nat := 0
  /-- Claim decoder: good frames in sequence; count; R462 18; reset 0 -/
  run : Nat := 0
  /-- Claim decoder: bytes of the claim number; 4 bytes; R462 18; reset DC 0 -/
  bytes : Vector Nat 4 := Vector.replicate 4 0
  /-- Claim decoder: bytes received since the run began; 4 bits; R462 18; reset 0 -/
  have4 : Vector Bool 4 := Vector.replicate 4 false
  /-- Claim decoder: the claim number is known; 1 bit; R462 18; reset 0 -/
  known : Bool := false
  /-- DPX_CNT.TAKEOVERS; 16 bits; R469 18; reset 0 -/
  takeovers : Nat := 0
  /-- DPX_CNT.SWAPS; 16 bits; R472 18; reset 0 -/
  swaps : Nat := 0
  /-- Block time of the last ROLE record (DPX_MIR.AGE_US); R465 18; reset DC 0 -/
  roleAt : Nat := 0
  /-- DPX_MIR.RESYNC_PCT; 7 bits; R470 18; reset 0 -/
  resyncPct : Nat := 0
  /-- DPX_TO_TIME; 64 bits; R469 18; reset 0 -/
  toTime : Nat := 0
  /-- Device time of the last completed swap (DPX_SWAP_AGE); 64 bits; R473 18; reset DC 0 -/
  swapAt : Nat := 0
  /-- Block time of the last DPX_KICK; R459 18; reset DC 0 -/
  kickAt : Nat := 0
  /-- Partner's device ID, from the ACTIVE configuration; 128 bits; R452 18; reset DC 0 -/
  partnerId : Nat := 0
  /-- The partner's last ROLE record; 32 bytes; R464 18; reset none (zeros) -/
  partner : Option RoleRec := none
  /-- DPX_CFG_MISMATCH raised for the partner's present version; 1 bit; R452 18; reset 0 -/
  mismatch : Bool := false
  /-- A planned swap under way, on the old active (command line, seq) or on the standby (none); R472 18; reset none -/
  swap : Option (Option (Nat × Nat)) := none
  /-- The DPX_RESYNC command (line, seq) that awaits its FINAL; R501 20; reset none -/
  resyncJob : Option (Nat × Nat) := none
  /-- Block time at which the member began to decide its role; R453 18; reset DC 0 -/
  decideAt : Nat := 0
  /-- Block time at which the member's stream began; R459 18; reset DC 0 -/
  claimAt : Nat := 0
  /-- Block time of the last good claim frame of the partner; R462 18; reset DC 0 -/
  frameAt : Nat := 0
  /-- Block time of the DPX_SWAP under way; R472 18; reset DC 0 -/
  swapFrom : Nat := 0
  /-- Block time of the takeover whose selection is still to be seen; R468 18; reset none -/
  takenAt : Option Nat := none
  /-- Mirrored PWM_STATE, one a group; R464 18; reset empty -/
  pwmSt : List MirPg := []
  /-- Mirrored LOAD_STATE; R464 18; reset none -/
  load : Option MirLoad := none
deriving DecidableEq, Repr, Inhabited

/-! ### Fenline (19) -/

/-- One neighbour of the link-metric table, with the tone maps in use with it (R482, R490). -/
structure Neigh where
  /-- Node ID; 12 bits; R490 19 -/
  node : Nat := 0
  /-- Mean PHY rate up, 0.1 Mbit/s; 16 bits; R490 19 -/
  up : Nat := 0
  /-- Mean PHY rate down, 0.1 Mbit/s; 16 bits; R490 19 -/
  down : Nat := 0
  /-- Block error rate, 0.01 %; 16 bits; R490 19 -/
  bler : Nat := 0
  /-- The neighbour's own cost to the gateway, exact, and hops; R491 19 -/
  cost : Rat := 0
  hops : Nat := 0
  /-- The neighbour has a route (the gateway has cost 0); R491 19 -/
  routed : Bool := false
  /-- Block time of the last refresh; R490 19 -/
  seen : Nat := 0
  /-- Tone maps for sending to it, by slot; 8 maps; R482 19 -/
  tx : Vector (Option ToneMap) 8 := Vector.replicate 8 none
  /-- Tone maps built for receiving from it, by slot; 8 maps; R482 19 -/
  rx : Vector (Option ToneMap) 8 := Vector.replicate 8 none
  /-- FEC block errors of the last 32 blocks received from it, by slot, latest first; R483 19 -/
  errs : Vector (List Bool) 8 := Vector.replicate 8 []
  /-- Sounding requested from it, by slot (FEN_SLOTk_STAT.RESOUND); 8 bits; R483 19 -/
  resound : Vector Bool 8 := Vector.replicate 8 false
  /-- Sending at 2 bits less, by slot, until a new map comes; 8 bits; R483 19 -/
  low : Vector Bool 8 := Vector.replicate 8 false
  /-- Frames to it dropped in a row; count; R491 19 -/
  drops : Nat := 0
  /-- Block time each slot's map for sending was last used; 8 times, ns; R482 19 -/
  used : Vector Nat 8 := Vector.replicate 8 0
deriving DecidableEq, Repr, Inhabited

/-- A Fenline frame to be sent or being sent (R485, R487). -/
structure FenTx where
  dst : Nat := 0
  src : Nat := 0
  next : Nat := 0
  typ : Nat := 0
  prio : Nat := 0
  hops : Nat := 0
  bcast : Bool := false
  body : List Nat := []
  /-- What the body carries where it is a message of this device or a frame of the Oluzel link. -/
  msg : Option Out := none
  /-- Blocks still to be sent; none before the first send. -/
  blocks : Option (List Nat) := none
  fails : Nat := 0
deriving DecidableEq, Repr, Inhabited

/-- The FEN block. -/
structure Fen where
  /-- FEN_STAT.SYNCED; 1 bit; R481 19; reset 0 -/
  synced : Bool := false
  /-- FEN_STAT.ZC_TIMER; 1 bit; R481 19; reset 0 -/
  zcTimer : Bool := false
  /-- Good half-cycles in a row while on the timer; 4 bits; R481 19; reset 0 -/
  zcGood : Nat := 0
  /-- Block time of the last zero crossing; R481 19; reset DC 0 -/
  zcAt : Nat := 0
  /-- Half-cycle length in use, ns; R481 19; reset DC 0 -/
  half : Nat := 0
  /-- Gateway's device time less own device time at the last beacon, ns; R489 19; reset DC 0 -/
  diff : Int := 0
  /-- Eight beacons are missing; 1 bit; R493 19; reset 0 -/
  beaconLost : Bool := false
  /-- Block time of the last beacon; R493 19; reset DC 0 -/
  beaconAt : Nat := 0
  /-- Link-metric table; at most 64; R490 19; reset empty -/
  neigh : List Neigh := []
  /-- FEN_NEIGH_FULL raised since the table was last not full; 1 bit; R490 19; reset 0 -/
  fullSaid : Bool := false
  /-- FEN_ROUTE.NEXT, none without a route; 12 bits; R491 19; reset none (0) -/
  next : Option Nat := none
  /-- FEN_ROUTE.HOPS; 3 bits; R491 19; reset 0 -/
  hops : Nat := 0
  /-- Own cost to the gateway, exact; R491 19; reset DC 0 -/
  cost : Rat := 0
  /-- FEN_ROUTE.CHANGES; 16 bits; R491 19; reset 0 -/
  changes : Nat := 0
  /-- A next hop at least 20 % cheaper, and since when; R491 19; reset none -/
  better : Option (Nat × Nat) := none
  /-- FEN_NO_ROUTE standing; 1 bit; R494 19; reset 0 -/
  noRoute : Bool := false
  /-- Last EPOCH and FCNT accepted, by transmitter: (node, epoch, count); R487 19; reset empty -/
  acc : List (Nat × Nat × Nat) := []
  /-- Repeater: the neighbour that last forwarded traffic from a node; list of (node, neighbour); R491 19; reset empty -/
  back : List (Nat × Nat) := []
  /-- FEN_RTT.RTT, µs; 32 bits; R492 19; reset 0 -/
  tripUs : Nat := 0
  /-- Round trips of the leaves as a gateway reports them, (node, µs); R492 19; reset empty -/
  trips : List (Nat × Nat) := []
  /-- FEN_BLANK.SAMPLES, in samples (shown in thousands); 16 bits shown; R484 19; reset 0 -/
  blank : Nat := 0
  /-- FEN_BLANK.ERASED; 16 bits; R484 19; reset 0 -/
  erased : Nat := 0
  /-- FEN_CNT.DROPPED; 16 bits; R485 19; reset 0 -/
  dropped : Nat := 0
  /-- FEN_CNT.AUTH; 16 bits; R487 19; reset 0 -/
  auth : Nat := 0
  /-- Second of block time and tag failures counted in it; R494 19; reset DC 0 -/
  authSec : Nat × Nat := (0, 0)
  /-- Own boot epoch; 32 bits; R487 19; reset DC 0 (drawn at boot) -/
  epoch : Nat := 0
  /-- Own frame counter: FCNT of the next frame; 32 bits; R487 19; reset 1 -/
  fcnt : Nat := 1
  /-- Frames waiting to be sent; list; R486 19; reset empty -/
  queue : List FenTx := []
  /-- The frame sent that awaits its selective acknowledgement; R485 19; reset none -/
  flight : Option FenTx := none
  /-- Backoff window, slots; 16 to 128; R486 19; reset 16 -/
  window : Nat := 16
deriving DecidableEq, Repr, Inhabited


/-! ### The machine -/

/-- The state of the block. -/
structure State where
  /-- Time on the block's own clock, ns: the time of the latest command less the time frozen (log entry 2); the model's own; reset DC 0 -/
  now : Nat := 0
  /-- Time spent in M11 so far, ns, which the block's own clock has not counted (R528, log entry 2); the model's own; reset DC 0 -/
  gap : Nat := 0
  /-- Number of free values drawn, the argument of `Config.trng`, `freeValue` and `freeInt`; the model's own field; reset DC 0 -/
  freeCtr : Nat := 0
  /-- Messages, frames and signals sent so far, oldest first; list; R91 03, R162 06, R430 17; reset empty -/
  out : List Out := []
  /-- Commands waiting, first in, first out; the model's own queue; reset empty -/
  pending : List Instr := []
  /-- Memories (R29) and the CFG and RW fields of registers (R36) by address; bytes; R29 01; reset nothing listed, every byte 0 (log entry 5) -/
  mem : Memory := []
  /-- SYS block, modes, resets, errors; 02; reset as its fields -/
  sys : Sys := {}
  /-- Keeper; 01, 02; reset as its fields -/
  keeper : Keeper := {}
  /-- Mailboxes and management ports; 03; reset as its fields -/
  mbx : Mbx := {}
  /-- Ownership and Ethernet links; 03; reset as its fields -/
  own : Own := {}
  /-- Event gatherer; 04; reset as its fields -/
  evg : Evg := {}
  /-- Configuration storage; 20; reset as its fields -/
  cfg : Cfg := {}
  /-- Debug; 21; reset as its fields -/
  dbg : Dbg := {}
  /-- Supervisor's retention half; 02; reset as its fields -/
  ret : Retention := {}
  /-- Sluice; 05, 06; reset as its fields -/
  slc : Slc := {}
  /-- Power stage; 07, 08; reset as its fields -/
  pwm : Pwm := {}
  /-- Reedbed loop engine; 09; reset as its fields -/
  lpe : Lpe := {}
  /-- Cables, cooling and life; 10; reset as its fields -/
  cbl : Cbl := {}
  /-- Load switches and MXP chain; 11; reset as its fields -/
  lsw : Lsw := {}
  /-- Vehicle ports; 12; reset as its fields -/
  vcl : Vcl := {}
  /-- CAN controllers; 13; reset as its fields -/
  can : Can := {}
  /-- Metering; 14; reset as its fields -/
  mtr : Mtr := {}
  /-- Legal core pair; 15; reset as its fields -/
  lgl : Lgl := {}
  /-- Keys and life cycle; 16; reset as its fields -/
  key : Key := {}
  /-- Oluzel links; 17; reset as its fields -/
  ozl : Ozl := {}
  /-- Time; 17; reset as its fields -/
  tsu : Tsu := {}
  /-- Duplex pair; 18; reset as its fields -/
  dpx : Dpx := {}
  /-- Fenline; 19; reset as its fields -/
  fen : Fen := {}
deriving DecidableEq, Repr, Inhabited

/-- The machine right after a reset: the power-on reset has put every register at its reset value, the rails are good,
and the device waits in M1 (R41, R48). -/
def State.reset : State := {}

/-- No command of this model faults: what the spec calls an error is an effect on the state, so this type has no
constructor that a meaning raises. It is a closed inductive all the same; `none` is safe, nothing answers it. -/
inductive Fault where
  /-- Raised by nothing (safe). -/
  | none
deriving DecidableEq, Repr

/-- The reasons for which a command is not run. -/
inductive Refusal where
  /-- A command whose meaning is not written, by its mnemonic; raised only by an arm of `exec` (safe). -/
  | notModelled (mnemonic : String)
deriving DecidableEq, Repr

end Sys2Proof.Machine
end

