-- ==== Sys2Proof/Decode.lean ====
section
/-! DEFINITION. The commands of this block are not words of a program: no row of the opcode table gives bits, so no word
spells a command. -/

namespace Sys2Proof

/-- The command a word of the opcode table's bits spells: none, as no row gives bits. -/
def decodeTableWord (_nbits _w : Nat) : Option Instr := none

end Sys2Proof
end

