-- ==== Sys2Proof/Config.lean ====
section
/-! DEFINITION. What the spec leaves open: the free values. None of them has a body, so nothing can be proved of
their values; a statement about one holds for every value. Each is applied to a counter of State (`freeCtr`) that
every draw advances, so that two draws need not agree. -/

namespace Sys2Proof.Config

/-- The `n`-th draw from the TRNG: nonces, boot epochs, masks, session keys (R91, R97, R304, R414). -/
opaque trng : Nat → Nat

/-- The `n`-th value the spec leaves undefined or unstated. -/
opaque freeValue : Nat → Nat

/-- The feedback value held where the exact one is outside a signed 32-bit value (R178; log entry 62). -/
opaque outOfRange : Int → Int

/-- The `n`-th signed value the spec leaves undefined or unstated. -/
opaque freeInt : Nat → Int

end Sys2Proof.Config
end

