-- ==== Sys2Proof/Machine/Operands.lean ====
section
/-! DEFINITION. Where operands are read from and results written to: bytes, words and bit fields of the one memory,
little-endian (R6), the fields of registers and of the configuration, and the fields of a command entry (R77). -/

namespace Sys2Proof.Machine

/-! ### Bytes, words and bit fields -/

/-- What a byte that memory does not list reads as (log entry 5). -/
def unlistedByte : Nat := 0

/-- The byte at address `a`. -/
def memGet : Memory → Nat → Nat
  | [], _ => unlistedByte
  | (b, v) :: r, a => if b = a then v.toNat else memGet r a

/-- Memory with the byte at `a` written: addresses rise and no listed byte equals what an unlisted one reads as. -/
def memSet : Memory → Nat → Nat → Memory
  | [], a, v => if v % 256 = unlistedByte then [] else [(a, BitVec.ofNat 8 v)]
  | (b, w) :: r, a, v =>
    if a < b then (if v % 256 = unlistedByte then (b, w) :: r else (a, BitVec.ofNat 8 v) :: (b, w) :: r)
    else if a = b then (if v % 256 = unlistedByte then r else (a, BitVec.ofNat 8 v) :: r)
    else (b, w) :: memSet r a v

/-- `n` bytes from `a`, the lowest address least significant (R6). -/
def memRead (m : Memory) (a : Nat) : Nat → Nat
  | 0 => 0
  | n + 1 => memGet m a + 256 * memRead m (a + 1) n

/-- `n` bytes of `v` written from `a`, least significant first (R6). -/
def memWrite (m : Memory) (a : Nat) : Nat → Nat → Memory
  | 0, _ => m
  | n + 1, v => memWrite (memSet m a (v % 256)) (a + 1) n (v / 256)

/-- A list of bytes written from `a`. -/
def memWriteBytes (m : Memory) (a : Nat) : List Nat → Memory
  | [] => m
  | b :: bs => memWriteBytes (memSet m a b) (a + 1) bs

/-- The `n` bytes from `a` as a list. -/
def memBytes (m : Memory) (a : Nat) : Nat → List Nat
  | 0 => []
  | n + 1 => memGet m a :: memBytes m (a + 1) n

/-- The canonical form of memory: addresses strictly rising, no entry equal to what an unlisted address reads as. -/
def Memory.wf : Memory → Bool
  | [] => true
  | [(_, v)] => v.toNat != unlistedByte
  | (a, v) :: (b, w) :: r => v.toNat != unlistedByte && decide (a < b) && Memory.wf ((b, w) :: r)

/-- Bits `lo` to `lo + w - 1` of a word. -/
def bits (x lo w : Nat) : Nat := x / 2 ^ lo % 2 ^ w

/-- One bit of a word. -/
def bit (x i : Nat) : Bool := x / 2 ^ i % 2 == 1

/-- A word with bits `lo` to `lo + w - 1` replaced by `v`. -/
def setBits (x lo w v : Nat) : Nat :=
  x % 2 ^ lo + (v % 2 ^ w) * 2 ^ lo + x / 2 ^ (lo + w) * 2 ^ (lo + w)

/-- A Bool as one bit. -/
def b2n (b : Bool) : Nat := if b then 1 else 0

/-- A word put together from fields (first bit, value). -/
def packBits : List (Nat × Nat) → Nat
  | [] => 0
  | (lo, v) :: r => v * 2 ^ lo + packBits r

/-- Read an unsigned field of `w` bits as two's complement (R497). -/
def signed (w x : Nat) : Int := if x % 2 ^ w < 2 ^ (w - 1) then (x % 2 ^ w : Nat) else (x % 2 ^ w : Nat) - 2 ^ w

/-- An integer as `w` bits of two's complement. -/
def unsigned (w : Nat) (x : Int) : Nat := (x % 2 ^ w).toNat

/-- `n` little-endian bytes of a value (R6). -/
def leBytes : Nat → Nat → List Nat
  | 0, _ => []
  | n + 1, v => v % 256 :: leBytes n (v / 256)

/-- The value of little-endian bytes (R6). -/
def leValue : List Nat → Nat
  | [] => 0
  | b :: bs => b + 256 * leValue bs

/-- A bit mask of a list of Bools, the first in bit 0. -/
def maskOf : List Bool → Nat
  | [] => 0
  | b :: bs => b2n b + 2 * maskOf bs

/-- One byte of the IEEE 802.3 CRC-32, reflected (R77). -/
def crc32Byte (c : Nat) : Nat → Nat
  | 0 => c
  | k + 1 => crc32Byte (if c % 2 = 1 then (c / 2) ^^^ 0xEDB88320 else c / 2) k

/-- CRC-32 (IEEE 802.3 polynomial) of a list of bytes (R77). -/
def crc32 (bs : List Nat) : Nat := (bs.foldl (fun c b => crc32Byte (c ^^^ (b % 256)) 8) 0xFFFFFFFF) ^^^ 0xFFFFFFFF

/-- CRC-8, polynomial 0x07, initial value 0x00 (R95). -/
def crc8 (bs : List Nat) : Nat :=
  bs.foldl (fun c b => (List.range 8).foldl (fun x _ => if x ≥ 128 then (2 * x % 256) ^^^ 7 else 2 * x % 256) (c ^^^ (b % 256))) 0

/-- Time of the power die and the keeper, ns: it does not stand still in M11, as that of the control die does (R533). -/
def realNow (s : State) : Nat := s.now + s.gap

/-! ### Registers and configuration -/

/-- The 32-bit word memory holds at an address. -/
def rdw (s : State) (a : Nat) : Nat := memRead s.mem a 4

/-- A field of the word memory holds at an address. -/
def rdf (s : State) (a lo w : Nat) : Nat := bits (rdw s a) lo w

/-- One bit of the word memory holds at an address. -/
def rdb (s : State) (a i : Nat) : Bool := bit (rdw s a) i

/-- The state with the 32-bit word at an address written. -/
def wrw (s : State) (a v : Nat) : State := { s with mem := memWrite s.mem a 4 v }

/-- The state with one field of the word at an address written. -/
def wrf (s : State) (a lo w v : Nat) : State := wrw s a (setBits (rdw s a) lo w v)

/-- A field of a table entry in RAM: its byte offset in the entry and its width in bytes. -/
structure Fld where
  ofs : Nat
  width : Nat
deriving DecidableEq, Repr

/-- A field of the table entry at `base`. -/
def ramGet (s : State) (base : Nat) (f : Fld) : Nat := memRead s.mem (base + f.ofs) f.width

/-- The entry at `base` with a field written. -/
def ramPut (s : State) (base : Nat) (f : Fld) (v : Nat) : State :=
  { s with mem := memWrite s.mem (base + f.ofs) f.width v }

/-- A firmware parameter of the loaded configuration, or the default its chapter gives (R513, R514). -/
def param (s : State) (id dflt : Nat) : Nat :=
  match s.cfg.params.find? (fun p => p.1 == id) with
  | some p => p.2
  | none => dflt

/-- The duty of a port's pilot is set; the period that runs keeps the old one (R300). -/
def Port.withDuty (now d : Nat) (p : Port) : Port := { p with duty := d, dutyWas := p.duty, dutyAt := now }

/-- The minimum of a list, or a bound. -/
def minList (b : Nat) (l : List Nat) : Nat := l.foldl min b

/-! ### Command entries (R77) -/

/-- `w` bytes at entry offset `o` of a command entry. -/
def entryField (e : List Nat) (o w : Nat) : Nat := leValue ((e.drop o).take w)

/-- A parameter of a consumed command. -/
def Cmd.param (c : Cmd) (o w : Nat) : Nat := entryField c.entry o w

/-- OPCODE of a consumed command. -/
def Cmd.opcode (c : Cmd) : Nat := c.param 0 2

/-- REF_KIND of a consumed command. -/
def Cmd.refKind (c : Cmd) : Nat := c.param 2 1 % 4

/-- TAG of a consumed command. -/
def Cmd.tag (c : Cmd) : Nat := c.param 4 4

/-- Low word of REF_ADDR: a byte offset of the staging area or of the v1 buffer. -/
def Cmd.refOffset (c : Cmd) : Nat := c.param 52 4

/-- High word of REF_ADDR: the CRC-32 of a kind 2 reference. -/
def Cmd.refCrc (c : Cmd) : Nat := c.param 56 4

/-- REF_LEN of a consumed command. -/
def Cmd.refLen (c : Cmd) : Nat := c.param 60 4

end Sys2Proof.Machine
end

