-- ==== Sys2Proof/Machine/Flags.lean ====
section
/-! DEFINITION. The tables that flags and checks are computed from: the status codes (R85), what the command
reference gives for each opcode (R501 to R509, R517 and the groups' own tables), the classes and limitations of the
errors, and the event source numbers (R104). -/

namespace Sys2Proof.Machine

/-! ### Status codes (R85) -/

/-- DONE. -/
abbrev stDone : Nat := 0x00
/-- ACCEPTED. -/
abbrev stAccepted : Nat := 0x01
/-- IGNORED_ILLEGAL. -/
abbrev stIllegal : Nat := 0x10
/-- IGNORED_NOT_OWNER. -/
abbrev stNotOwner : Nat := 0x11
/-- IGNORED_MODE. -/
abbrev stMode : Nat := 0x12
/-- DISCARDED_FAULT. -/
abbrev stFault : Nat := 0x20
/-- DISCARDED_TAKEOVER. -/
abbrev stTakeover : Nat := 0x21
/-- DISCARDED_RESET. -/
abbrev stReset : Nat := 0x22
/-- REJECTED_FORMAT. -/
abbrev stFormat : Nat := 0x30
/-- REJECTED_RANGE. -/
abbrev stRange : Nat := 0x31
/-- REJECTED_AUTH. -/
abbrev stAuth : Nat := 0x32
/-- NO_CREDIT. -/
abbrev stNoCredit : Nat := 0x40
/-- LEGAL_LOCKED. -/
abbrev stLocked : Nat := 0x50

/-! ### The command table -/

/-- What the command reference gives for an opcode: the modes it is allowed in, the owner rule, and the largest
reference it takes (R81). -/
structure CmdInfo where
  modes : List Nat
  owner : Bool
  maxRef : Nat
deriving DecidableEq, Repr

/-- Modes M`a` to M`b`. -/
def modeRange (a b : Nat) : List Nat := (List.range (b + 1)).filter (fun m => a ≤ m)

/-- The commands of group SYS, ROM, OWN and CFG (R502, R504, R505, R517). -/
def cmdInfoSys : Nat → Option CmdInfo
  | 0x0101 => some ⟨modeRange 2 10, false, 0⟩
  | 0x0102 => some ⟨modeRange 3 10, true, 0⟩
  | 0x0103 => some ⟨modeRange 3 10, true, 0⟩
  | 0x0104 => some ⟨modeRange 3 10, true, 512⟩
  | 0x0105 => some ⟨[3, 4, 8, 9], true, 65536⟩
  | 0x0106 => some ⟨[3, 4, 8, 9], true, 0⟩
  | 0x0107 => some ⟨modeRange 3 10, false, 65536⟩
  | 0x01F0 => some ⟨[2], false, 0⟩
  | 0x01F1 => some ⟨[2], false, 65536⟩
  | 0x01F2 => some ⟨[2], false, 0⟩
  | 0x0201 => some ⟨modeRange 3 10, false, 0⟩
  | 0x0202 => some ⟨modeRange 3 10, false, 64⟩
  | 0x0203 => some ⟨modeRange 3 10, false, 0⟩
  | 0x0204 => some ⟨modeRange 3 10, true, 0⟩
  | 0x0205 => some ⟨modeRange 3 10, false, 0⟩
  | 0x0206 => some ⟨modeRange 3 10, false, 0⟩
  | 0x0301 => some ⟨modeRange 3 10, true, 65536⟩
  | 0x0302 => some ⟨modeRange 3 10, true, 0⟩
  | 0x0303 => some ⟨modeRange 3 10, true, 0⟩
  | 0x0304 => some ⟨modeRange 3 10, false, 0⟩
  | 0x0305 => some ⟨modeRange 3 10, false, 65536⟩
  | 0x0306 => some ⟨modeRange 3 10, true, 0⟩
  | _ => none

/-- The commands of groups SLC, PWR, CBL and LSW (R175, R206, R250, R271, R295). -/
def cmdInfoPower : Nat → Option CmdInfo
  | 0x0401 => some ⟨modeRange 3 10, false, 0⟩
  | 0x0402 => some ⟨modeRange 3 10, false, 65536⟩
  | 0x0403 => some ⟨modeRange 3 10, false, 2048⟩
  | 0x0404 => some ⟨modeRange 4 7, false, 65536⟩
  | 0x0405 => some ⟨modeRange 4 6, true, 0⟩
  | 0x0501 => some ⟨modeRange 3 10, false, 65536⟩
  | 0x0502 => some ⟨modeRange 4 8, true, 0⟩
  | 0x0503 => some ⟨[4, 5, 6, 8], true, 0⟩
  | 0x0504 => some ⟨modeRange 3 10, false, 200⟩
  | 0x0505 => some ⟨modeRange 3 10, false, 65536⟩
  | 0x0506 => some ⟨modeRange 3 10, false, 528⟩
  | 0x0601 => some ⟨modeRange 3 10, false, 65536⟩
  | 0x0602 => some ⟨modeRange 4 10, false, 376⟩
  | 0x0603 => some ⟨[4, 8], true, 0⟩
  | 0x0604 => some ⟨modeRange 4 8, true, 0⟩
  | 0x0701 => some ⟨modeRange 3 10, false, 65536⟩
  | 0x0702 => some ⟨modeRange 3 10, true, 0⟩
  | 0x0703 => some ⟨modeRange 3 10, true, 0⟩
  | 0x0704 => some ⟨modeRange 3 10, false, 65536⟩
  | _ => none

/-- The commands of groups VEH, CAN, MTR and LGL (R320, R337, R363, R405). -/
def cmdInfoVehicle : Nat → Option CmdInfo
  | 0x0801 => some ⟨modeRange 3 10, false, 65536⟩
  | 0x0802 => some ⟨modeRange 4 10, false, 65536⟩
  | 0x0803 => some ⟨modeRange 4 6, true, 64⟩
  | 0x0804 => some ⟨modeRange 4 6, true, 0⟩
  | 0x0805 => some ⟨modeRange 4 6, true, 0⟩
  | 0x0806 => some ⟨modeRange 4 6, true, 16384⟩
  | 0x0807 => some ⟨[4, 5, 6, 8], true, 0⟩
  | 0x0901 => some ⟨modeRange 3 10, false, 65536⟩
  | 0x0902 => some ⟨modeRange 3 10, false, 12288⟩
  | 0x0903 => some ⟨modeRange 3 10, true, 96⟩
  | 0x0904 => some ⟨modeRange 3 10, true, 0⟩
  | 0x0905 => some ⟨modeRange 3 10, true, 0⟩
  | 0x0A01 => some ⟨modeRange 3 10, false, 65536⟩
  | 0x0A02 => some ⟨modeRange 3 10, false, 65536⟩
  | 0x0A03 => some ⟨modeRange 3 10, false, 1808⟩
  | 0x0A04 => some ⟨modeRange 3 10, true, 384⟩
  | 0x0A05 => some ⟨modeRange 3 10, true, 0⟩
  | 0x0A06 => some ⟨[9], true, 0⟩
  | 0x0A07 => some ⟨[9], true, 0⟩
  | 0x0A08 => some ⟨[9, 10], true, 0⟩
  | 0x0B01 => some ⟨modeRange 3 10, false, 65536⟩
  | 0x0B02 => some ⟨modeRange 3 10, false, 65536⟩
  | 0x0B03 => some ⟨modeRange 3 9, true, 3456⟩
  | 0x0B04 => some ⟨modeRange 4 6, true, 0⟩
  | 0x0B05 => some ⟨modeRange 3 8, true, 0⟩
  | _ => none

/-- The commands of groups KEY, DPX, TIM, OZL, FEN, DIAG and EVG (R422, R477, R451, R496, R509). -/
def cmdInfoLink : Nat → Option CmdInfo
  | 0x0C01 => some ⟨modeRange 2 10, false, 65536⟩
  | 0x0C02 => some ⟨modeRange 3 10, false, 96⟩
  | 0x0C03 => some ⟨[3, 9], true, 96⟩
  | 0x0C04 => some ⟨[3, 9], true, 65536⟩
  | 0x0C05 => some ⟨[3], true, 0⟩
  | 0x0C06 => some ⟨[3], true, 96⟩
  | 0x0C07 => some ⟨modeRange 3 10, false, 512⟩
  | 0x0D01 => some ⟨modeRange 3 10, false, 65536⟩
  | 0x0D02 => some ⟨[4], true, 0⟩
  | 0x0D03 => some ⟨[4, 5, 6, 8], true, 0⟩
  | 0x0E01 => some ⟨modeRange 2 10, false, 65536⟩
  | 0x0E02 => some ⟨modeRange 3 10, true, 0⟩
  | 0x0E03 => some ⟨modeRange 3 10, true, 0⟩
  | 0x0E04 => some ⟨modeRange 3 10, false, 0⟩
  | 0x0F01 => some ⟨modeRange 2 10, false, 65536⟩
  | 0x0F02 => some ⟨modeRange 3 10, false, 65520⟩
  | 0x0F03 => some ⟨modeRange 3 10, false, 0⟩
  | 0x0F04 => some ⟨[3, 4, 8, 10], true, 0⟩
  | 0x1001 => some ⟨modeRange 3 10, false, 65536⟩
  | 0x1002 => some ⟨modeRange 3 10, false, 1024⟩
  | 0x1003 => some ⟨modeRange 3 10, false, 8544⟩
  | 0x1004 => some ⟨modeRange 3 10, true, 0⟩
  | 0x1101 => some ⟨modeRange 3 10, false, 65536⟩
  | 0x1102 => some ⟨[10], true, 0⟩
  | 0x1103 => some ⟨[10], true, 0⟩
  | 0x1201 => some ⟨modeRange 3 10, false, 65536⟩
  | 0x1202 => some ⟨modeRange 3 10, true, 0⟩
  | 0x1203 => some ⟨modeRange 3 10, true, 0⟩
  | 0x1204 => some ⟨modeRange 3 10, false, 0⟩
  | _ => none

/-- The command reference: none for an unknown opcode. -/
def cmdInfo (op : Nat) : Option CmdInfo :=
  (cmdInfoSys op).orElse fun _ => (cmdInfoPower op).orElse fun _ => (cmdInfoVehicle op).orElse fun _ => cmdInfoLink op

/-- The commands of R501, which can complete with ACCEPTED and have two CQ slots reserved (R75). -/
def canAccept (op : Nat) : Bool :=
  [0x0102, 0x0103, 0x0105, 0x0301, 0x0302, 0x0303, 0x0604, 0x0A07, 0x0B03, 0x0C06, 0x0D02, 0x0D03, 0x1204,
    0x1103].contains op

/-! ### Event sources (R104) -/

/-- The sources their chapters give as level sources: none but the DIN inputs, which configuration sets (R102, R174,
R205, R249, R270, R294, R319, R333, R362, R421, R450, R476, R495, R523, R34: all edge sources). -/
def levelSources : List Nat := []

/-- Source numbers no chapter names (R104). -/
def reservedSources : List Nat :=
  modeRange 7 15 ++ [22, 23] ++ modeRange 51 63 ++ modeRange 80 95 ++ modeRange 154 159 ++ modeRange 167 191
    ++ modeRange 274 287 ++ [382, 383] ++ modeRange 399 415 ++ modeRange 438 447 ++ [462, 463] ++ modeRange 468 471

/-! ### Errors -/

/-- An error's row: SUBSYS, CODE and CLASS. -/
structure ErrSpec where
  subsys : Nat
  code : Nat
  cls : Nat
deriving DecidableEq, Repr

/-- The peripheral blocks' base addresses (R36). -/
abbrev baseSYS : Nat := 0x40000000
abbrev baseEVG : Nat := 0x40010000
abbrev baseMBX : Nat := 0x40020000
abbrev baseOWN : Nat := 0x40030000
abbrev baseSLC : Nat := 0x40040000
abbrev basePWM : Nat := 0x40050000
abbrev baseLPE : Nat := 0x40060000
abbrev baseCBL : Nat := 0x40070000
abbrev baseLSW : Nat := 0x40080000
abbrev baseVCL : Nat := 0x40090000
abbrev baseCAN : Nat := 0x400A0000
abbrev baseMTR : Nat := 0x40100000
abbrev baseOZL : Nat := 0x40110000
abbrev baseTSU : Nat := 0x40120000
abbrev baseFEN : Nat := 0x40130000
abbrev baseDPX : Nat := 0x40140000
abbrev baseKEY : Nat := 0x40150000
abbrev baseXSP : Nat := 0x40160000
abbrev baseDBG : Nat := 0x40170000

/-- Errors of SUBSYS 0, 14 and 15 (R522, R558, R34, R33). -/
def errCfgFallback : ErrSpec := ⟨0, 1, 1⟩
def errCfgNone : ErrSpec := ⟨0, 2, 1⟩
def errCfgPartner : ErrSpec := ⟨0, 3, 1⟩
def errTriggerDropped : ErrSpec := ⟨0, 4, 1⟩
def errXsp0Read : ErrSpec := ⟨14, 1, 1⟩
def errXsp0Write : ErrSpec := ⟨14, 2, 1⟩
def errXsp1 : ErrSpec := ⟨14, 3, 1⟩
def errEccCorr : ErrSpec := ⟨15, 1, 1⟩
def errFirewall : ErrSpec := ⟨15, 2, 1⟩
def errDouble : ErrSpec := ⟨15, 3, 4⟩
def errDoubleQ : ErrSpec := ⟨15, 4, 2⟩
def errDoubleFrame : ErrSpec := ⟨15, 5, 1⟩
def errDoubleExport : ErrSpec := ⟨15, 6, 1⟩
def errSlcRam : ErrSpec := ⟨1, 0xF0, 2⟩
def errLpeRam : ErrSpec := ⟨3, 4, 2⟩

/-- The RAM_ERR of a block memory, under the SUBSYS of the block that owns it (R33). -/
def errBlockRam (subsys : Nat) : ErrSpec := ⟨subsys, 0xF0, 2⟩

end Sys2Proof.Machine
end

