-- ==== Sys2Proof/Machine/Params.lean ====
section
/-! DEFINITION. The identifiers of the firmware parameters the model reads: the CRC-32 of each parameter's name (R513,
log entry 8). -/

namespace Sys2Proof.Machine

/-- AUTO_READY. -/
abbrev pAUTO_READY : Nat := 0x2D23F25D

/-- CBL_ISSUER_0. -/
abbrev pCBL_ISSUER_0 : Nat := 0x1D6F5920

/-- CBL_ISSUER_1. -/
abbrev pCBL_ISSUER_1 : Nat := 0x6A6869B6

/-- CBL_ISSUER_2. -/
abbrev pCBL_ISSUER_2 : Nat := 0xF361380C

/-- CBL_ISSUER_3. -/
abbrev pCBL_ISSUER_3 : Nat := 0x8466089A

/-- CBL_ISSUER_4. -/
abbrev pCBL_ISSUER_4 : Nat := 0x1A029D39

/-- CBL_ISSUER_5. -/
abbrev pCBL_ISSUER_5 : Nat := 0x6D05ADAF

/-- CBL_ISSUER_6. -/
abbrev pCBL_ISSUER_6 : Nat := 0xF40CFC15

/-- CBL_ISSUER_7. -/
abbrev pCBL_ISSUER_7 : Nat := 0x830BCC83

/-- CLAIM_KEY_ETH0. -/
abbrev pCLAIM_KEY_ETH0 : Nat := 0x2138037D

/-- CLAIM_KEY_ETH1. -/
abbrev pCLAIM_KEY_ETH1 : Nat := 0x563F33EB

/-- CLAIM_KEY_OZL. -/
abbrev pCLAIM_KEY_OZL : Nat := 0x17E4D463

/-- CLAIM_KEY_PCIE. -/
abbrev pCLAIM_KEY_PCIE : Nat := 0x66E2A5D7

/-- CLAIM_KEY_SPI. -/
abbrev pCLAIM_KEY_SPI : Nat := 0x885D9272

/-- CONTACTOR_HOLD. -/
abbrev pCONTACTOR_HOLD : Nat := 0x61FD4082

/-- CTR_DIN_0. -/
abbrev pCTR_DIN_0 : Nat := 0xB379AC2F

/-- CTR_DIN_1. -/
abbrev pCTR_DIN_1 : Nat := 0xC47E9CB9

/-- CTR_DIN_2. -/
abbrev pCTR_DIN_2 : Nat := 0x5D77CD03

/-- CTR_DIN_3. -/
abbrev pCTR_DIN_3 : Nat := 0x2A70FD95

/-- DG_ALIGN. -/
abbrev pDG_ALIGN : Nat := 0x51C777CD

/-- DG_ENABLE. -/
abbrev pDG_ENABLE : Nat := 0x2128BA18

/-- DG_MARGIN. -/
abbrev pDG_MARGIN : Nat := 0xE1E9B8F3

/-- DG_REPORT. -/
abbrev pDG_REPORT : Nat := 0x16A705AE

/-- DG_ROOT_NODE. -/
abbrev pDG_ROOT_NODE : Nat := 0x5E74EF7E

/-- DG_SETS. -/
abbrev pDG_SETS : Nat := 0x066A9BA3

/-- DG_SET_MAX. -/
abbrev pDG_SET_MAX : Nat := 0xA5EBE713

/-- DG_U_ROUNDS. -/
abbrev pDG_U_ROUNDS : Nat := 0x6F859E72

/-- DPX_ID_A. -/
abbrev pDPX_ID_A : Nat := 0x1CC92A7F

/-- DPX_ID_B. -/
abbrev pDPX_ID_B : Nat := 0x85C07BC5

/-- FEN_MASK_0. -/
abbrev pFEN_MASK_0 : Nat := 0x6579CB49

/-- FEN_MASK_1. -/
abbrev pFEN_MASK_1 : Nat := 0x127EFBDF

/-- FEN_MASK_10. -/
abbrev pFEN_MASK_10 : Nat := 0xE2A56E9F

/-- FEN_MASK_11. -/
abbrev pFEN_MASK_11 : Nat := 0x95A25E09

/-- FEN_MASK_12. -/
abbrev pFEN_MASK_12 : Nat := 0x0CAB0FB3

/-- FEN_MASK_13. -/
abbrev pFEN_MASK_13 : Nat := 0x7BAC3F25

/-- FEN_MASK_14. -/
abbrev pFEN_MASK_14 : Nat := 0xE5C8AA86

/-- FEN_MASK_15. -/
abbrev pFEN_MASK_15 : Nat := 0x92CF9A10

/-- FEN_MASK_2. -/
abbrev pFEN_MASK_2 : Nat := 0x8B77AA65

/-- FEN_MASK_3. -/
abbrev pFEN_MASK_3 : Nat := 0xFC709AF3

/-- FEN_MASK_4. -/
abbrev pFEN_MASK_4 : Nat := 0x62140F50

/-- FEN_MASK_5. -/
abbrev pFEN_MASK_5 : Nat := 0x15133FC6

/-- FEN_MASK_6. -/
abbrev pFEN_MASK_6 : Nat := 0x8C1A6E7C

/-- FEN_MASK_7. -/
abbrev pFEN_MASK_7 : Nat := 0xFB1D5EEA

/-- FEN_MASK_8. -/
abbrev pFEN_MASK_8 : Nat := 0x6BA2437B

/-- FEN_MASK_9. -/
abbrev pFEN_MASK_9 : Nat := 0x1CA573ED

/-- FEN_RND_MULT. -/
abbrev pFEN_RND_MULT : Nat := 0x3072CBC6

/-- FRAME_KEY_ETH0. -/
abbrev pFRAME_KEY_ETH0 : Nat := 0x4874F40C

/-- FRAME_KEY_ETH1. -/
abbrev pFRAME_KEY_ETH1 : Nat := 0x3F73C49A

/-- FRAME_KEY_OZL. -/
abbrev pFRAME_KEY_OZL : Nat := 0x5DD15BF0

/-- FS1_0. -/
abbrev pFS1_0 : Nat := 0xF67A0428

/-- FS1_1. -/
abbrev pFS1_1 : Nat := 0x817D34BE

/-- FS1_2. -/
abbrev pFS1_2 : Nat := 0x18746504

/-- FS1_3. -/
abbrev pFS1_3 : Nat := 0x6F735592

/-- FSV_0. -/
abbrev pFSV_0 : Nat := 0xBBE2D98D

/-- FSV_1. -/
abbrev pFSV_1 : Nat := 0xCCE5E91B

/-- FSV_2. -/
abbrev pFSV_2 : Nat := 0x55ECB8A1

/-- FSV_3. -/
abbrev pFSV_3 : Nat := 0x22EB8837

/-- HTR_LIMIT. -/
abbrev pHTR_LIMIT : Nat := 0x555DD7FC

/-- I_RATED_0. -/
abbrev pI_RATED_0 : Nat := 0x6540F4E0

/-- I_RATED_1. -/
abbrev pI_RATED_1 : Nat := 0x1247C476

/-- I_RATED_2. -/
abbrev pI_RATED_2 : Nat := 0x8B4E95CC

/-- I_RATED_3. -/
abbrev pI_RATED_3 : Nat := 0xFC49A55A

/-- LEGAL_ENABLE. -/
abbrev pLEGAL_ENABLE : Nat := 0x451962C5

/-- LOCK_T. -/
abbrev pLOCK_T : Nat := 0xB7B0E5A8

/-- MASTER_OK_0. -/
abbrev pMASTER_OK_0 : Nat := 0xD4E4F950

/-- MASTER_OK_1. -/
abbrev pMASTER_OK_1 : Nat := 0xA3E3C9C6

/-- MTX_MXP_BASE. -/
abbrev pMTX_MXP_BASE : Nat := 0xD95C7A04

/-- OV_MARGIN. -/
abbrev pOV_MARGIN : Nat := 0xD3AD179B

/-- OZL_ASYM_0. -/
abbrev pOZL_ASYM_0 : Nat := 0xAEE2F211

/-- OZL_ASYM_1. -/
abbrev pOZL_ASYM_1 : Nat := 0xD9E5C287

/-- OZL_ASYM_2. -/
abbrev pOZL_ASYM_2 : Nat := 0x40EC933D

/-- OZL_ASYM_3. -/
abbrev pOZL_ASYM_3 : Nat := 0x37EBA3AB

/-- OZL_GATEWAY. -/
abbrev pOZL_GATEWAY : Nat := 0x8276A726

/-- OZL_PORTS. -/
abbrev pOZL_PORTS : Nat := 0xE55E7739

/-- PORT_ENABLE. -/
abbrev pPORT_ENABLE : Nat := 0x96479360

/-- PP_BAND_0. -/
abbrev pPP_BAND_0 : Nat := 0x24419EFB

/-- PP_BAND_1. -/
abbrev pPP_BAND_1 : Nat := 0x5346AE6D

/-- PP_BAND_2. -/
abbrev pPP_BAND_2 : Nat := 0xCA4FFFD7

/-- PP_BAND_3. -/
abbrev pPP_BAND_3 : Nat := 0xBD48CF41

/-- PP_T1. -/
abbrev pPP_T1 : Nat := 0xDDD5C693

/-- PP_T2. -/
abbrev pPP_T2 : Nat := 0x44DC9729

/-- PP_T3. -/
abbrev pPP_T3 : Nat := 0x33DBA7BF

/-- PTP_DOMAIN_0. -/
abbrev pPTP_DOMAIN_0 : Nat := 0xD5155DAC

/-- PTP_DOMAIN_1. -/
abbrev pPTP_DOMAIN_1 : Nat := 0xA2126D3A

/-- PTP_PROFILE_0. -/
abbrev pPTP_PROFILE_0 : Nat := 0xEEBBAAEC

/-- PTP_PROFILE_1. -/
abbrev pPTP_PROFILE_1 : Nat := 0x99BC9A7A

/-- PTP_SYNC_INT_0. -/
abbrev pPTP_SYNC_INT_0 : Nat := 0x8E27B141

/-- PTP_SYNC_INT_1. -/
abbrev pPTP_SYNC_INT_1 : Nat := 0xF92081D7

/-- P_C. -/
abbrev pP_C : Nat := 0x410BA613

/-- SYNC_INT. -/
abbrev pSYNC_INT : Nat := 0xCC1E9070

/-- TIME_ROOT_0. -/
abbrev pTIME_ROOT_0 : Nat := 0x72AF5BF3

/-- TIME_ROOT_1. -/
abbrev pTIME_ROOT_1 : Nat := 0x05A86B65

/-- TRIM_MAX. -/
abbrev pTRIM_MAX : Nat := 0xEFCEBB72

/-- T_BLEED. -/
abbrev pT_BLEED : Nat := 0xCE3135B6

/-- T_DI. -/
abbrev pT_DI : Nat := 0x99DE5D51

/-- T_RND. -/
abbrev pT_RND : Nat := 0xE8AC9C3E

/-- VP0_IP6. -/
abbrev pVP0_IP6 : Nat := 0xE9E2D2F4

/-- VP0_MAC. -/
abbrev pVP0_MAC : Nat := 0x9D5DDC8B

/-- VP1_IP6. -/
abbrev pVP1_IP6 : Nat := 0xD482FB44

/-- VP1_MAC. -/
abbrev pVP1_MAC : Nat := 0xA03DF53B

/-- VP2_IP6. -/
abbrev pVP2_IP6 : Nat := 0x93228194

/-- VP2_MAC. -/
abbrev pVP2_MAC : Nat := 0xE79D8FEB

/-- VP3_IP6. -/
abbrev pVP3_IP6 : Nat := 0xAE42A824

/-- VP3_MAC. -/
abbrev pVP3_MAC : Nat := 0xDAFDA65B

/-- WAIT_MAX. -/
abbrev pWAIT_MAX : Nat := 0x5A87CF31

end Sys2Proof.Machine
end

