-- ==== Sys2Proof/Machine/Event.lean ====
section
/-! DEFINITION. The first of the operations that the command families share: time, free values, messages sent, the event
gatherer's rules and the ownership of the device. -/

namespace Sys2Proof.Machine

/-! ### Time, free values, messages -/

/-- The state at time `t`: time never runs back, and the block's own clock stands still in M11, so that every timer resumes
where it stopped (R528, log entry 2). -/
def State.at (s : State) (t : Nat) : State :=
  if s.sys.mode == .m11 then { s with gap := max s.gap (t - s.now) } else { s with now := max s.now (t - s.gap) }

/-- A time in units of 2^-32 ns after `dt` ns of the block's own clock at rate 1 + `f` (R438). -/
def advance (base dt : Nat) (f : Rat) : Nat :=
  if f = 0 then base + dt * 2 ^ 32 else ((base : Int) + ((dt * 2 ^ 32 : Nat) * (1 + f) : Rat).floor).toNat

/-- Device time (R438): 64 bits of nanoseconds, of a count with a 32-bit fraction that advances at rate 1 + F_dev. -/
def devTime (s : State) : Nat := advance s.tsu.base (s.now - s.tsu.baseAt) s.tsu.f / 2 ^ 32 % 2 ^ 64

/-- A draw from the TRNG, and the state after it. -/
def drawTrng (s : State) : Nat × State := (Config.trng s.freeCtr, { s with freeCtr := s.freeCtr + 1 })

/-- A free value, and the state after it. -/
def drawFree (s : State) : Nat × State := (Config.freeValue s.freeCtr, { s with freeCtr := s.freeCtr + 1 })

/-- A signed free value, and the state after it. -/
def drawFreeInt (s : State) : Int × State := (Config.freeInt s.freeCtr, { s with freeCtr := s.freeCtr + 1 })

/-- The state with one message sent. -/
def emit (s : State) (kind : OutKind) (chan : Nat) (data : List Int) : State :=
  { s with out := s.out ++ [{ kind := kind, chan := chan, data := data }] }

/-! ### Life cycle (R416) -/

/-- The life-cycle state by the fuses (R415, R416): 0 BLANK, 1 PROVISIONED, 2 FIELD, 3 SERVICE, 4 RETURN, 5 END. -/
def lifeCycle (s : State) : Nat :=
  if s.key.fEnd then 5
  else if s.key.fReturn then 4
  else if s.key.fField then (if s.key.svcCnt % 2 = 1 then 3 else 2)
  else if s.key.fProv then 1
  else 0

/-! ### Event gatherer (R103 to R118) -/

/-- Address of EVG_SRCn_CFG. -/
def srcCfgAddr (n : Nat) : Nat := baseEVG + 0x400 + 4 * n

/-- Address of EVG_DINn_CFG. -/
def dinCfgAddr (n : Nat) : Nat := baseEVG + 0xC00 + 4 * n

/-- A completion queue's source: 32 to 47 (R113). -/
def isCqSrc (n : Nat) : Bool := 32 ≤ n && n < 48

/-- PRIO of a source. -/
def srcPrio (s : State) (n : Nat) : Nat := rdf s (srcCfgAddr n) 0 4

/-- TARGET of a source; sources 32 to 47 take it from MBX_Qn_IRQ (R113). -/
def srcTarget (s : State) (n : Nat) : Nat :=
  if isCqSrc n then
    let p := get s.mbx.pairs (n - 32)
    if p.irqTarget then (if p.irqVector % 4 < 2 then 0 else 1) else (if p.irqVector < 16 then 0 else 1)
  else rdf s (srcCfgAddr n) 4 3

/-- ENABLE of a source (R113). -/
def srcEnable (s : State) (n : Nat) : Bool :=
  if isCqSrc n then (get s.mbx.pairs (n - 32)).irqEnable else rdb s (srcCfgAddr n) 7

/-- DELIV of a source: true for a HOST_INT line. -/
def srcLine (s : State) (n : Nat) : Bool :=
  if isCqSrc n then (get s.mbx.pairs (n - 32)).irqTarget else rdb s (srcCfgAddr n) 9

/-- The MSI-X vector, or the HOST_INT line, of a source on a host target. -/
def srcVector (s : State) (n : Nat) : Nat :=
  if isCqSrc n then
    (let p := get s.mbx.pairs (n - 32)
     if p.irqTarget then p.irqVector % 4 else p.irqVector)
  else if srcLine s n then 2 * srcTarget s n + rdf s (srcCfgAddr n) 10 1
  else 16 * srcTarget s n + rdf s (srcCfgAddr n) 10 4

/-- STORM_EXP of a source; sources 24, 25 and 32 to 47 are exempt (R117). -/
def srcStormExp (s : State) (n : Nat) : Nat :=
  if n == 24 || n == 25 || isCqSrc n then 0 else rdf s (srcCfgAddr n) 15 4

/-- The sources that are level sources: the DIN inputs set to LEVEL, and those their block's chapter gives as level
(KIND, R104). -/
def srcLevel (s : State) (n : Nat) : Bool :=
  if 480 ≤ n then rdb s (dinCfgAddr (n - 480)) 10 else levelSources.contains n

/-- A priority is above a running priority (none is IDLE, below 0). -/
def abovePrio (p : Nat) : Option Nat → Bool
  | none => true
  | some r => decide (r < p)

/-- Source `n` is eligible at target `t` (R106). -/
def eligible (s : State) (t n : Nat) : Bool :=
  let x := get s.evg.src n
  x.pending && !x.stormed && srcEnable s n && srcTarget s n == t && abovePrio (srcPrio s n) (get s.evg.tgt t).run

/-- The eligible sources of a target, in ascending order. -/
def eligibleList (s : State) (t : Nat) : List Nat := (List.range 512).filter (eligible s t)

/-- Level of HOST_INT line `l` (R106). -/
def hostInt (s : State) (l : Nat) : Bool :=
  (eligibleList s (l / 2)).any (fun n => srcLine s n && srcVector s n == l)

/-- Some eligible source of a host target is on MSI-X vector `v`. -/
def vectorHigh (s : State) (v : Nat) : Bool :=
  (eligibleList s (v / 16)).any (fun n => !srcLine s n && srcVector s n == v)

/-- A vector's message: sent, or, while the vector is masked, noted in the pending-bit array (R106). -/
def sendVector (v : Nat) (s : State) : State :=
  if get s.evg.vecMask v then { s with evg.pba := upd s.evg.pba v fun _ => true } else emit s .msix v []

/-- The vectors that pass from empty to non-empty send their message (R106). -/
def notifyVectors (before s : State) : State :=
  (List.range 32).foldl (fun a v => if vectorHigh s v && !vectorHigh before v then sendVector v a else a) s

/-- The message of source `n`'s vector, where `n` makes the set of eligible sources on it non-empty (R106). -/
def notifySource (before s : State) (n : Nat) : State :=
  let t := srcTarget s n
  if t < 2 && !srcLine s n && eligible s t n && !vectorHigh before (srcVector s n) then sendVector (srcVector s n) s else s

/-- Targets 2 and 3 are the supervisor's, 4 to 7 a session core's each (R103). -/
def sameCore (t u : Nat) : Bool := t == u || (2 ≤ t && t < 4 && 2 ≤ u && u < 4)

/-- With WAKE_COMPAT set a core is held awake by every pending enabled source routed to it (R116). -/
def coreHeld (s : State) (t : Nat) : Bool :=
  rdb s baseEVG 0 && (List.range 512).any fun n => (get s.evg.src n).pending && srcEnable s n && sameCore t (srcTarget s n)

/-- A core that a pending source now holds awake restarts its clock (R116). -/
def wakeCore (before : State) (n : Nat) (s : State) : State :=
  let t := srcTarget s n
  if rdb s baseEVG 0 && 2 ≤ t && (get s.evg.src n).pending && srcEnable s n && !coreHeld before t then emit s .clockRestart t []
  else s

/-- A source changed. -/
def setSrc (s : State) (n : Nat) (f : EvSrc → EvSrc) : State := { s with evg.src := upd s.evg.src n f }

/-- A source has fired in the CLK_PER cycle `now`, of 5 ns (R27): what PENDING held before the cycle is kept for R112. -/
def markFired (now : Nat) (x : EvSrc) : EvSrc :=
  { x with fireAt := some now, was := if x.fireAt == some now then x.was else x.pending }

/-- PENDING set on a source, without the storm limiter. -/
def pendRaw (s : State) (n : Nat) : State :=
  wakeCore s n (notifySource s (setSrc s n fun x => { markFired (s.now / 5) x with pending := true }) n)

/-- A source fires (R105, R117): PENDING unless it is stormed, counted by the storm limiter; past the threshold the
source storms, and EVG_STORM fires. -/
def fireEvent (n : Nat) (s : State) : State :=
  let x := get s.evg.src n
  if x.stormed then s
  else
    let e := srcStormExp s n
    if e != 0 && decide (2 ^ e < x.count + 1) then
      pendRaw { setSrc s n (fun y => { markFired (s.now / 5) y with stormed := true, pending := false, count := y.count + 1 }) with
        evg.stormSrc := n } 24
    else pendRaw (setSrc s n fun y => { y with count := y.count + 1 }) n

/-- An error bit of EVG_STAT is set, which fires EVG_ERR (04, EVG_STAT). -/
def evgError (s : State) : State := pendRaw s 25

/-- A level source's input takes a level: asserted, it is PENDING unless the source is ACTIVE (R105). DESIGN CHOICE (log
entry 59): where the input falls before the claim, PENDING stays set; the rule says what sets it and not that it drops. -/
def setLevel (n : Nat) (v : Bool) (s : State) : State :=
  let x := get s.evg.src n
  let s1 := setSrc s n fun y => { y with input := v }
  if v && !x.active && !x.input then fireEvent n s1 else s1

/-- EVG_DINn_CFG.STATE: the filtered level after INVERT (R118). -/
def dinState (s : State) (n : Nat) : Bool := xor (get s.evg.din n).level (rdb s (dinCfgAddr n) 11)

/-- A DIN source's input: the filtered level in level mode, none in edge mode (R118). -/
def dinLevel (n : Nat) (s : State) : State :=
  setLevel (480 + n) (rdb s (dinCfgAddr n) 10 && dinState s n) s

/-- After a load of the configuration: the DIN inputs in level mode drive their sources, the host vectors whose set has become
non-empty send their message, and the cores that WAKE_COMPAT holds restart (R106, R114, R116, R118). DEDUCED: a load makes
no edge on a DIN in edge mode. -/
def sourcesLoaded (before s : State) : State :=
  let s1 := (List.range 32).foldl (fun a n => dinLevel n a) s
  let s2 := notifyVectors before s1
  [2, 4, 5, 6, 7].foldl (fun a t => if coreHeld s1 t && !coreHeld before t then emit a .clockRestart t [] else a) s2

/-- A host target is cleared (R114). -/
def clearTarget (t : Nat) (s : State) : State :=
  let act := (get s.evg.tgt t).stack.map Prod.fst
  let s1 := { s with evg.tgt := upd s.evg.tgt t fun x => { x with stack := [], run := none } }
  let s2 := act.foldl (fun a n =>
    let b := setSrc a n fun y => { y with active := false }
    if srcLevel a n && (get a.evg.src n).input then setSrc b n (fun y => { y with pending := true }) else b) s1
  notifyVectors s s2

/-- Both host targets are cleared (R114). -/
def clearHostTargets (s : State) : State := clearTarget 1 (clearTarget 0 s)

/-! ### Ownership (R97 to R100) -/

/-- A port is enabled by the ACTIVE configuration (R68): bit port - 1 of PORT_ENABLE, all enabled where it is not given or no
configuration is loaded. DESIGN CHOICE (log entry 8): the spec prints neither the name nor the default. -/
def portEnabled (s : State) (port : Nat) : Bool := !s.cfg.loaded || bit (param s pPORT_ENABLE 31) (port - 1)

/-- Configured priority of a port (OWN_PRIO). -/
def ownPrio (s : State) (port : Nat) : Nat := rdf s (baseOWN + 4) (3 * (port - 1)) 3

/-- The claim of a port. -/
def claimOf (s : State) (port : Nat) : Claim := get s.own.claims (port - 1)

/-- A claim that can make its port owner (R98): nonzero priority, or one under the service credential or in BLANK. -/
def electable (s : State) (port : Nat) : Bool :=
  let c := claimOf s port
  c.standing && (0 < ownPrio s port || c.special)

/-- A claim changed. -/
def setClaim (s : State) (port : Nat) (f : Claim → Claim) : State :=
  { s with own.claims := upd s.own.claims (port - 1) f }

/-- The rank of a port by its priority: configured priorities first, then PCIe above SPI (R97). -/
def baseRank (s : State) (port : Nat) : Nat :=
  if 0 < ownPrio s port then 10 + ownPrio s port else 6 - port

/-- The election rank (R97, R98): in BLANK, PCIe does not rank below an SPI claim that stands for election. -/
def electRank (s : State) (port : Nat) : Nat :=
  if port == 1 && lifeCycle s == 0 && electable s 2 then max (baseRank s 1) (baseRank s 2) else baseRank s port

/-- An election window opens where ownership is vacant, none is open and an electable claim stands (R98). -/
def openElection (s : State) : State :=
  if s.own.owner == 0 && !s.own.election && [1, 2, 3, 4, 5].any (electable s) then
    fireEvent 18 { s with own.election := true }
  else s

/-- An owner-only command that the owner `port` had consumed stays its own when its office falls vacant (R99). -/
def Cmd.keep (port : Nat) (c : Cmd) : Cmd := { c with kept := c.kept || (c.ownerOnly && c.port == port) }

/-- Ownership becomes vacant and OWN_VACATED is raised; owner-only commands that the former owner had consumed stay its own
(R99). -/
def vacateOwner (s : State) : State :=
  openElection (fireEvent 16 { s with
    own.owner := 0, own.lapsePending := false, mbx.cmds := s.mbx.cmds.map (Cmd.keep s.own.owner) })

/-- The owner's claim lapses, and its office falls vacant (R97, R99). -/
def lapseOwner (s : State) : State := vacateOwner (setClaim s s.own.owner fun _ => {})

/-- Service rights end (R410): KEY_SVC fires where any port held them. -/
def dropRights (s : State) : State :=
  if s.key.rights.toList.any id then fireEvent 461 { s with key.rights := Vector.replicate 5 false } else s

/-- OWN_STATE.EPOCH changes: OWN_CHANGED fires, the host targets are cleared and service rights end (R102, R114, R410). -/
def bumpEpoch (s : State) : State :=
  dropRights (clearHostTargets (fireEvent 17 { s with own.epoch := (s.own.epoch + 1) % 256 }))

/-- The wide registers are readable (R354): M2, M3 and M10, and the minute after a power-loss restart. -/
def wideWindow (s : State) : Bool :=
  s.sys.mode == .m2 || s.sys.mode == .m3 || s.sys.mode == .m10 || s.mtr.window60

/-- MTR_STAT.WIDE_WINDOW changed since a state: its event fires (R362). -/
def wideEvent (before s : State) : State := if wideWindow before != wideWindow s then fireEvent 369 s else s

end Sys2Proof.Machine
end

