-- ==== Sys2Proof/Machine/Link.lean ====
section
/-! DEFINITION. Sending over Oluzel (17): the route of a frame, its credit, and the wire time of TC1 frames. -/

namespace Sys2Proof.Machine

/-- The node is a Fenline leaf (R144, SLC_STAT.FEN_LEAF): FEN_RND_MULT of its node record is not 0. -/
def leafNode (s : State) : Bool := ramGet s 0x50100000 ⟨2, 1⟩ != 0

/-- This device's node ID (OZL_CTRL.NODE). -/
def ownNode (s : State) : Nat := rdf s baseOZL 0 12

/-- This device's member code (OZL_CTRL.MEMBER): 0 not a pair, 2 A, 3 B. -/
def ownMember (s : State) : Nat := rdf s baseOZL 12 2

/-- This device is a member of a duplex pair. -/
def pairMember (s : State) : Bool := ownMember s != 0

/-- Port `p`. -/
def ozp (s : State) (p : Nat) : OzPort := get s.ozl.port p

/-- Port `p` changed. -/
def setOz (p : Nat) (f : OzPort → OzPort) (s : State) : State := { s with ozl.port := upd s.ozl.port p f }

/-- The route to a node (R434). -/
def routeTo (s : State) (node : Nat) : Option PathEnt := s.ozl.paths.find? fun e => e.node == node

/-- Wire time of a frame with `len` payload bytes, in 0.1 ns: 6.6 ns a block (R425). -/
def wireTime (len : Nat) : Nat := ((20 + len + 7) / 8 + 1) * 66

/-- CRC-16 of R424 over one more byte. -/
def crc16Byte (c b : Nat) : Nat :=
  (List.range 8).foldl (fun x _ => if x ≥ 32768 then (2 * x % 65536) ^^^ 0x1021 else 2 * x) (c ^^^ (b % 256 * 256))

/-- CRC-16 of R424: polynomial 0x1021, initial value 0xFFFF. -/
def crc16 (bs : List Nat) : Nat := bs.foldl crc16Byte 0xFFFF

/-- CRC-32C over one more byte. -/
def crc32cByte (c : Nat) : Nat → Nat
  | 0 => c
  | k + 1 => crc32cByte (if c % 2 == 1 then (c / 2) ^^^ 0x82F63B78 else c / 2) k

/-- CRC-32C of R425. -/
def crc32c (bs : List Nat) : Nat := (bs.foldl (fun c b => crc32cByte (c ^^^ (b % 256)) 8) 0xFFFFFFFF) ^^^ 0xFFFFFFFF

/-- The header of a frame (R425): TC with VER 1, FLAGS, DST, SRC, LEN, HOPS, MSG, SEGIDX with LAST, and HCRC. -/
def ozHeader (cls flags dst src len hops msg seg : Nat) : List Nat :=
  let b := [cls + 8, flags] ++ leBytes 2 dst ++ leBytes 2 src ++ leBytes 2 len ++ leBytes 2 hops ++ leBytes 2 msg ++ leBytes 2 seg
  b ++ leBytes 2 (crc16 b)

/-- Header, payload and FCS (R425). -/
def ozBytes (header payload : List Nat) : List Nat := header ++ payload ++ leBytes 4 (crc32c (header ++ payload))

/-- SRC of this device's frames: node ID and sending member (R425). -/
def ownSrc (s : State) : Nat := ownNode s + 4096 * ownMember s

/-- Greatest LEN of a class (R427). -/
def classMax (c : Nat) : Nat := [64, 64, 256, 2048, 4096].getD c 0

/-- Bytes cut into parts of at most `m`. -/
def cutAt (m : Nat) : Nat → List Nat → List (List Nat)
  | 0, l => [l]
  | k + 1, l => if l.length ≤ m then [l] else l.take m :: cutAt m k (l.drop m)

/-- The frames of a message, each with its payload length: segments of the class maximum under one MSG, the last one marked LAST;
SEG where there is more than one (R425, R427). -/
def ozFrames (cls flags dst src msg : Nat) (payload : List Nat) : List (Nat × List Nat) :=
  let parts := cutAt (classMax cls) payload.length payload
  parts.zipIdx.map fun x =>
    (x.1.length, ozBytes (ozHeader cls (flags + if parts.length ≤ 1 then 0 else 2) dst src x.1.length 0 msg
      (x.2 + if x.2 + 1 = parts.length then 32768 else 0)) x.1)

/-- The 48 bytes of a TC0 payload (R445). -/
def tc0Payload (typ tnum root seq origin frac utc : Nat) (corr ratio : Int) : List Nat :=
  [typ, tnum, root, 0] ++ leBytes 4 seq ++ leBytes 8 origin ++ leBytes 2 frac ++ leBytes 2 utc ++ leBytes 8 (unsigned 64 corr)
    ++ leBytes 4 (unsigned 32 ratio) ++ List.replicate 16 0

/-- The rounds completed since the count of a port was begun are closed (R437): the last 16 completed rounds are kept; a round
without a TC1 frame counts 0. -/
def rollTc1 (round : Nat) (o : OzPort) : OzPort :=
  if round ≤ o.tc1Now.1 then o
  else { o with tc1Now := (round, 0),
                tc1Hist := (List.replicate (min 16 (round - o.tc1Now.1 - 1)) 0 ++ (o.tc1Now.2 + 9) / 10 :: o.tc1Hist).take 16 }

/-- Wire time of a TC1 frame of `len` payload bytes on a port, in 0.1 ns (R437): where the 64 credits of a round trip, twice the
link delay and 1 µs, allow less than line rate, the time a credit takes (R428). -/
def tc1Time (o : OzPort) (len : Nat) : Nat := max (wireTime len) ((2 * o.delay * 10 / 256 + 10000) / 64)

/-- The bytes TC3 and TC4 have had of the weighted round robin while both wait (R429). -/
def shareAfter (o : OzPort) (cls len : Nat) : Nat × Nat :=
  let other := if cls == 3 then 4 else 3
  if cls < 3 then o.share
  else if !(o.wait.any fun x => x.cls == other) then (0, 0)
  else if cls == 3 then (o.share.1 + 20 + len, o.share.2)
  else (o.share.1, o.share.2 + 20 + len)

/-- A CREDIT block of a port (R428): buffers freed since link up, TC0 to TC4, and their CRC-8. -/
def sendCreditBlock (p : Nat) (s : State) : State :=
  let l := (ozp s p).freed.toList
  emit s .ozCredit p ((l ++ [crc8 l]).map Int.ofNat)

/-- A receive buffer of a port is freed (R428). -/
def freeBuffer (p cls : Nat) (s : State) : State :=
  sendCreditBlock p (setOz p (fun o => { o with freed := upd o.freed cls fun n => (n + 1) % 256 }) s)

/-- A frame goes out of a port: its credit is used, a TC1 frame's wire time counted, and the buffer it came in by freed
(R428, R437). -/
def sendFrom (p : Nat) (w : WaitFrame) (s : State) : State :=
  let s1 := setOz p (fun o =>
    let o1 := { o with credit := upd o.credit w.cls fun c => c - 1, share := shareAfter o w.cls w.len }
    if w.cls == 1 then
      (let o2 := rollTc1 s.slc.round o1
       { o2 with tc1Now := (o2.tc1Now.1, o2.tc1Now.2 + tc1Time o w.len) })
    else o1) s
  let s2 := { s1 with out := s1.out ++ [w.msg] }
  match w.inp with
  | some q => freeBuffer q w.cls s2
  | none => s2

/-- A frame for a port: sent while a credit of its class is held, else it waits behind those of its class (R428). -/
def queueFrame (p : Nat) (w : WaitFrame) (s : State) : State :=
  if 0 < get (ozp s p).credit w.cls && !((ozp s p).wait.any fun x => x.cls == w.cls) then sendFrom p w s
  else setOz p (fun o => { o with wait := o.wait ++ [w] }) s

/-- Frames for a port, one behind the other. -/
def queueAll (p : Nat) (ws : List WaitFrame) (s : State) : State := ws.foldl (fun a w => queueFrame p w a) s

/-- A frame of `len` payload bytes for each port of a list, each with a credit of its class (R428). The receive buffer it came
in by, where there is one, is freed once the last of them has gone out, or at once where there is none. -/
def queueCast (cls len : Nat) (msg : Nat → Out) (inp : Option Nat) (ports : List Nat) (s : State) : State :=
  let s1 := ports.dropLast.foldl (fun a q => queueFrame q { cls := cls, len := len, msg := msg q, inp := none } a) s
  match ports.getLast? with
  | some q => queueFrame q { cls := cls, len := len, msg := msg q, inp := inp } s1
  | none => match inp with
    | some p => freeBuffer p cls s1
    | none => s1

/-- The frames that wait for a port that goes down are lost: the buffers they hold at other ports are freed, and its own
buffers end with its link, whatever still holds them (R424, R428). -/
def dropWaiting (p : Nat) (s : State) : State :=
  let others := (List.range 4).filter (· != p)
  let s1 := others.foldl (fun a q => setOz q (fun o =>
    { o with wait := o.wait.map fun w => if w.inp == some p then { w with inp := none } else w }) a) s
  (ozp s p).wait.foldl (fun a w => match w.inp with
    | some q => if q != p && (ozp a q).up then freeBuffer q w.cls a else a
    | none => a) s1

/-- What is kept of the messages of a class to a destination (R430). -/
def sentLog (s : State) (cls dst : Nat) : SentLog := (s.ozl.sent.find? fun x => x.dst == dst && x.cls == cls).getD { dst := dst, cls := cls }

/-- The number of the next message (R425): by source, destination and class in TC3 and TC4, by source and class otherwise. -/
def nextMsg (s : State) (cls dst : Nat) : Nat := if cls < 3 then get s.ozl.msgNo cls else (sentLog s cls dst).next

/-- A message takes its number; of TC3 and TC4 the frames of the last 64 are kept (R430). -/
def numberMsg (cls dst : Nat) (ws : List WaitFrame) (s : State) : State :=
  if cls < 3 then { s with ozl.msgNo := upd s.ozl.msgNo cls fun n => (n + 1) % 65536 }
  else
    let l := sentLog s cls dst
    let recent := l.held.filter fun h => decide ((l.next + 65536 - h.1) % 65536 < 64)
    { s with ozl.sent := { l with next := (l.next + 1) % 65536, held := recent ++ ws.map fun w => (l.next, w) }
                :: s.ozl.sent.filter fun x => !(x.dst == dst && x.cls == cls) }

/-- A TC0 frame of this device by some ports, as header, payload and FCS (R425, R445); a notice for the whole domain is a
broadcast, one for a neighbour names it. -/
def sendTc0 (kind : OutKind) (bcast : Bool) (payload : List Nat) (inp : Option Nat) (ports : List Nat) (s : State) : State :=
  let hdr := fun q => ozHeader 0 (b2n bcast) (if bcast then 0 else (ozp s q).peer + 4096 * (ozp s q).peerMember) (ownSrc s) payload.length 0
    (nextMsg s 0 0) 0x8000
  queueCast 0 payload.length (fun q => { kind := kind, chan := q, data := (ozBytes (hdr q) payload).map Int.ofNat }) inp ports
    { s with ozl.msgNo := upd s.ozl.msgNo 0 fun n => (n + 1) % 65536 }

/-- The neighbour a Fenline frame for node `dst` goes to (R491): the one that last forwarded traffic from it, else, in a leaf, the
next hop toward the gateway. -/
def fenNext (s : State) (dst : Nat) : Option Nat :=
  match s.fen.back.find? fun b => b.1 == dst with
  | some b => some b.2
  | none => if rdf s baseFEN 0 2 == 2 then s.fen.next else none

/-- Priority of an Oluzel class over Fenline (R486). -/
def fenPrio (cls : Nat) : Nat := if cls == 1 then 3 else if cls == 3 then 1 else 0

/-- A frame joins those that wait for the medium. -/
def fenQueue (f : FenTx) (s : State) : State := { s with fen.queue := s.fen.queue ++ [f] }

/-- A message of class TC1, TC3 or TC4 leaves over Fenline; TC0 and TC2 are discarded, and so is one without a route
(R488). -/
def fenSend (cls src dst : Nat) (bcast : Bool) (m : Out) (s : State) : State :=
  if cls == 0 || cls == 2 then s
  else match (if bcast then some 0 else fenNext s dst) with
    | some nx => fenQueue { dst := dst, src := src, next := nx, typ := 1, prio := fenPrio cls, bcast := bcast, body := m.data.map Int.toNat } s
    | none => s

/-- Frames of this device for a node leave over Fenline. -/
def fenAll (cls dst : Nat) (ws : List WaitFrame) (s : State) : State :=
  ws.foldl (fun a w => fenSend cls (ownNode s) dst false w.msg a) s

/-- A destination, a node ID with its member select, is this device's partner (R431). -/
def isMate (dst : Nat) (s : State) : Bool :=
  dst % 4096 == ownNode s && ownMember s != 0 && dst / 4096 % 4 != 0 && dst / 4096 % 4 != ownMember s

/-- The partner of a pair as a destination: the pair's node ID and the other member (R424, R431). -/
def mateDst (s : State) : Nat := ownNode s + 4096 * (5 - ownMember s)

/-- A message of this device to `dst`, a node ID with its member select: its own messages are handed on at once; those to its
partner go by OZ3 while it is up; in a Fenline leaf all others leave over Fenline. It goes as the frames of R427, numbered by
class, but for a NAK, which is none of the numbered messages; without a route none leaves, and what is held of TC3 and TC4 goes
when the destination asks for it (R425, R430, R431, R488). -/
def tcSend (cls : Nat) (kind : OutKind) (dst chan : Nat) (payload : List Nat) (s : State) : State :=
  let node := dst % 4096
  let nak := kind == .ozNak
  let m : Out := { kind := kind, chan := chan, data := payload.map Int.ofNat }
  let ws := (ozFrames cls (if nak then 4 else 0) (dst % 16384) (ownSrc s) (if nak then 0 else nextMsg s cls dst) payload).map fun f =>
    ({ cls := cls, len := f.1, msg := { m with data := f.2.map Int.ofNat }, inp := none } : WaitFrame)
  let s1 := if nak then s else numberMsg cls dst ws s
  if isMate dst s then (if (ozp s 3).up then queueAll 3 ws s1 else s)
  else if node == ownNode s then emit s kind chan m.data
  else if leafNode s then fenAll cls node ws s1
  else
    match routeTo s node with
    | none => s1
    | some e => if e.egress < 4 then queueAll e.egress ws s1 else fenAll cls node ws s1

/-- A mirror record leaves for the partner over OZ3: its TYPE and what follows, in TC2 (R427, R464). -/
def mirrorSend (typ : Nat) (body : List Nat) (s : State) : State := tcSend 2 .mirror (mateDst s) typ (typ :: body) s

/-- The class a port serves next (R429): TC0, TC1 and TC2 in strict order; TC3 and TC4 share what remains, 3:1 by bytes. -/
def nextClass (o : OzPort) : Option Nat :=
  let ready := fun c => decide (0 < get o.credit c) && o.wait.any (fun x => x.cls == c)
  match (List.range 3).find? ready with
  | some c => some c
  | none =>
    if ready 3 && ready 4 then some (if o.share.1 ≤ 3 * o.share.2 then 3 else 4)
    else if ready 3 then some 3
    else if ready 4 then some 4
    else none

/-- Frames that waited go out while credits are held (R428, R429). -/
def flushPort (p : Nat) : Nat → State → State
  | 0, s => s
  | k + 1, s =>
    match nextClass (ozp s p) with
    | none => s
    | some c =>
      match (ozp s p).wait.find? (fun x => x.cls == c) with
      | none => s
      | some w => flushPort p k (sendFrom p w (setOz p (fun q => { q with wait := q.wait.erase w }) s))

/-- S_h of a port (R437): the largest count of its last 16 completed rounds, ns. -/
def roundLoad (s : State) (p : Nat) : Nat := (rollTc1 s.slc.round (ozp s p)).tc1Hist.foldl max 0

end Sys2Proof.Machine
end

