-- ==== Sys2Proof/Machine/Ops.lean ====
section
/-! DEFINITION. The operations every command family shares (those of Event.lean besides): the mailbox's rules for taking,
starting, completing and discarding commands, and the management frames that carry its completions. -/

namespace Sys2Proof.Machine

/-! ### Mailboxes (R71 to R96) -/

/-- The master port of a line: a pair's PORT, 1 for the PCIe v1 instance, 2 for the SPI one. -/
def linePort (s : State) (line : Nat) : Nat :=
  if line < 16 then (get s.mbx.pairs line).port else line - 15

/-- Credits of a submission queue (R74). -/
def sqCredits (p : Pair) : Nat := p.depth - (p.sqTail + 65536 - p.sqHead) % 65536

/-- Completions written and not yet passed by the CQ head. -/
def cqUsed (p : Pair) : Nat := (p.cqTail + 65536 - p.cqHead) % 65536

/-- CQ slots neither used nor reserved (R75). -/
def cqFree (p : Pair) : Nat := p.depth - cqUsed p - p.reserved

/-- A completion entry as its 64 bytes (R78). -/
def complBytes (c : Compl) : List Nat :=
  leBytes 2 c.opcode ++ [c.status, b2n c.final + 2 * b2n c.refWritten + 4 * b2n c.priorEpoch] ++ leBytes 4 c.tag
    ++ leBytes 2 c.sqSeq ++ leBytes 2 c.cqSeq ++ leBytes 2 c.detail ++ [0, 0] ++ leBytes 8 c.time
    ++ (c.result ++ List.replicate (32 - c.result.length) 0).take 32 ++ leBytes 4 c.respCrc ++ leBytes 4 c.respLen

/-- Address of a submission entry (R71). -/
def sqSlotAddr (n depth ctr : Nat) : Nat := 0x20000000 + n * 0x40000 + (ctr % depth) * 64

/-- Address of a completion entry (R71). -/
def cqSlotAddr (n depth ctr : Nat) : Nat := 0x20400000 + n * 0x40000 + (ctr % depth) * 64

/-- Completion queue `n` signals its vector: all completions written become signalled (R88). -/
def cqSignal (n : Nat) (s : State) : State :=
  fireEvent (32 + n) { s with mbx.pairs := upd s.mbx.pairs n fun p => { p with unsig := [], timerOn := false } }

/-- Moderation after a change: COUNT unsignalled completions signal at once; otherwise the timer runs while any
stands (R88). -/
def cqModerate (n : Nat) (s : State) : State :=
  let p := get s.mbx.pairs n
  if p.irqEnable && p.irqCount ≤ p.unsig.length && p.unsig != [] then cqSignal n s
  else { s with mbx.pairs := upd s.mbx.pairs n fun q => { q with timerOn := q.irqEnable && q.unsig != [] } }

/-- KIND of a management frame the device sends (R91). -/
def frameKind : OutKind → Nat
  | .mgmtComplete => 2
  | .mgmtCredit => 3
  | _ => 4

/-- A management frame the device sends (R91): MAGIC, VER, KIND, PAIR, DIR, LEN, EPOCH, FSEQ, which counts on by port, the body
before its encryption, and GCM_TAG, a free value (log entry 63). Port 5's goes as TC3 payload to the node that the last frame
accepted on that port came from (R94). -/
def sendFrame (port pair : Nat) (kind : OutKind) (body : List Nat) (s : State) : State :=
  let q := get s.mbx.fseqOut (port - 3) + 1
  let r := drawFree { s with mbx.fseqOut := upd s.mbx.fseqOut (port - 3) fun _ => q }
  let data := leBytes 2 0x4B76 ++ [1, frameKind kind, pair, 1] ++ leBytes 2 body.length ++ leBytes 4 s.mbx.epoch ++ leBytes 6 q ++ [0, 0]
    ++ body ++ leBytes 16 r.1
  if port == 5 then tcSend 3 kind (get s.mbx.peer 2) port data r.2 else emit r.2 kind port (data.map Int.ofNat)

/-- DATA frames of a pair: the staging offset and up to 1,024 bytes each (R91, R93). -/
def sendData (port n ofs len : Nat) (s : State) : State :=
  (List.range ((len + 1023) / 1024)).foldl (fun a k =>
    let m := min 1024 (len - 1024 * k)
    sendFrame port n .mgmtData (leBytes 4 (ofs + 1024 * k) ++ memBytes a.mem (0x20800000 + ofs + 1024 * k) m) a) s

/-- A completion of a management pair goes out: its response DATA, then its COMPLETE, with the CQ counter and the entry as it
stands in its slot (R91, R93). -/
def sendComplete (n ctr : Nat) (s : State) : State :=
  let p := get s.mbx.pairs n
  let e := memBytes s.mem (cqSlotAddr n p.depth ctr) 64
  let s1 := match p.dataAt.find? fun x => x.1 == ctr with
    | some x => sendData p.port n x.2.1 x.2.2 s
    | none => s
  sendFrame p.port n .mgmtComplete (leBytes 2 ctr ++ [0, 0] ++ e) s1

/-- A queue after a completion in its next slot (R75); the place of its response in staging is kept for its DATA frames (R93). -/
def Pair.completed (c : Compl) (q : Pair) : Pair :=
  { q with cqTail := (q.cqTail + 1) % 65536, unsig := q.unsig ++ [q.cqTail],
           dataAt := if c.respLen == 0 then q.dataAt else q.dataAt ++ [(q.cqTail, c.respAt, c.respLen)] }

/-- A completion stands in CQ `n`'s next slot (R75, R78). -/
def cqPut (n : Nat) (c : Compl) (s : State) : State :=
  let p := get s.mbx.pairs n
  { s with mem := memWriteBytes s.mem (cqSlotAddr n p.depth p.cqTail) (complBytes { c with cqSeq := p.cqTail, time := devTime s }),
           mbx.pairs := upd s.mbx.pairs n (Pair.completed c) }

/-- A completion is written into CQ `n`'s next slot, and goes out at once where the pair is a management port's (R93). -/
def cqWrite (n : Nat) (c : Compl) (s : State) : State :=
  let p := get s.mbx.pairs n
  let s1 := cqModerate n (cqPut n c s)
  if 3 ≤ p.port then sendComplete n p.cqTail s1 else s1

/-- A v1 instance changed: 16 the PCIe instance, 17 the SPI one. -/
def setV1 (s : State) (line : Nat) (f : V1 → V1) : State :=
  if line == 16 then { s with mbx.v1p := f s.mbx.v1p } else { s with mbx.v1s := f s.mbx.v1s }

/-- A v1 instance. -/
def getV1 (s : State) (line : Nat) : V1 := if line == 16 then s.mbx.v1p else s.mbx.v1s

/-- A completion is written to MBX_V1_RSP and DONE is set; the port's v1 event is raised (R96). -/
def v1Write (line : Nat) (c : Compl) (s : State) : State :=
  let v := getV1 s line
  let c := { c with cqSeq := v.cqCnt, time := devTime s }
  fireEvent (if line == 16 then 48 else 49) (setV1 s line fun w =>
    { w with rsp := complBytes c, done := true, cqCnt := (w.cqCnt + 1) % 65536 })

/-- A completion goes to its line: into a free CQ slot, or waits for one; to MBX_V1_RSP, or, for a first completion
while an earlier response is unacknowledged, waits for DONE to be cleared. -/
def deliver (line : Nat) (c : Compl) (s : State) : State :=
  if line < 16 then
    (let p := get s.mbx.pairs line
     if p.owed == [] && 0 < cqFree p then cqWrite line c s
     else { s with mbx.pairs := upd s.mbx.pairs line fun q => { q with owed := q.owed ++ [c] } })
  else
    (let v := getV1 s line
     if v.done && !v.finalPending then setV1 s line (fun w => { w with held := w.held ++ [c] })
     else v1Write line c s)

/-- Completions that waited for CQ space are written while there is any (R75). -/
def flushOwed (n : Nat) : Nat → State → State
  | 0, s => s
  | k + 1, s =>
    let p := get s.mbx.pairs n
    match p.owed with
    | [] => s
    | c :: r =>
      if 0 < cqFree p then
        flushOwed n k (cqWrite n c { s with mbx.pairs := upd s.mbx.pairs n fun q => { q with owed := r } })
      else s

/-- The ignored commands are counted modulo 2^16 (MBX_IGN_CNT, MBX_IGN_CNT1). -/
def countIgnored (st : Nat) (s : State) : State :=
  if st == stIllegal then { s with mbx.ignIllegal := (s.mbx.ignIllegal + 1) % 65536 }
  else if st == stNotOwner then { s with mbx.ignNotOwner := (s.mbx.ignNotOwner + 1) % 65536 }
  else if st == stMode then { s with mbx.ignMode := (s.mbx.ignMode + 1) % 65536 }
  else s

/-- What a completion says of its command. -/
structure Answer where
  status : Nat := 0
  detail : Nat := 0
  /-- RESULT bytes from offset 24. -/
  result : List Nat := []
  /-- The full response of a command whose reference is marked out (R498); none otherwise. -/
  resp : Option (List Nat) := none
deriving DecidableEq, Repr

/-- The command on `line` with SQ counter `seq`, where it is consumed and uncompleted. -/
def findCmd (s : State) (line seq : Nat) : Option Cmd :=
  s.mbx.cmds.find? (fun c => c.line == line && c.seq == seq)

/-- The command leaves the list of uncompleted ones, and its CQ slots go back. -/
def dropCmd (s : State) (line seq slots : Nat) : State :=
  { s with
    mbx.cmds := s.mbx.cmds.filter (fun c => !(c.line == line && c.seq == seq)),
    mbx.pairs := upd s.mbx.pairs line fun p => { p with reserved := p.reserved - slots } }

/-- The response bytes that fit are written to the reference (R498): the pair's staging quanta, the v1 buffer, or
host memory over PCIe. -/
def writeResp (c : Cmd) (bytes : List Nat) (s : State) : State :=
  if bytes == [] then s
  else if c.refKind == 3 then emit s .dmaWrite c.line (((c.param 52 8 : Nat) : Int) :: bytes.map Int.ofNat)
  else if c.line < 16 then { s with mem := memWriteBytes s.mem (0x20800000 + c.refOffset) bytes }
  else setV1 s c.line fun v => { v with buf := memWriteBytes v.buf c.refOffset bytes }

/-- The part of a full response that is written: nothing without a reference, else what fits REF_LEN (R498). -/
def respPart (c : Cmd) : Option (List Nat) → List Nat
  | none => []
  | some bs => if c.refKind == 0 then [] else bs.take c.refLen

/-- The completion entry that answers a command (R78, R498). -/
def answerCompl (c : Cmd) (a : Answer) (final : Bool) : Compl :=
  let part := respPart c a.resp
  let res := match a.resp with
    | none => a.result
    | some bs => leBytes 4 bs.length ++ a.result
  { opcode := c.opcode, status := a.status, final := final, refWritten := part != [], tag := c.tag, sqSeq := c.seq,
    detail := a.detail, result := res, respCrc := if part == [] then 0 else crc32 part, respLen := part.length,
    respAt := c.refOffset }

/-- The answer to a command: its response is written, its slots are returned, it leaves the uncompleted list and its completion is
delivered (R78, R83, R85). -/
def answerCmd (c : Cmd) (a : Answer) (s : State) : State :=
  let s1 := writeResp c (respPart c a.resp) (countIgnored a.status s)
  let s2 := deliver c.line (answerCompl c a true) (dropCmd s1 c.line c.seq (if c.accepted then 1 else c.slots))
  if 16 ≤ c.line then setV1 s2 c.line (fun v => { v with finalPending := false }) else s2

/-- The final completion of a command; a lapse of the owner's heartbeat that fell while its owner-only command was executing
takes effect now (R99). -/
def finishOne (c : Cmd) (a : Answer) (s : State) : State :=
  let s1 := answerCmd c a s
  if c.ownerOnly && s1.own.lapsePending then lapseOwner s1 else s1

/-- The first command of a line that has had no completion yet. -/
def firstOpen (s : State) (line : Nat) : Option Cmd :=
  s.mbx.cmds.find? (fun c => c.line == line && !c.accepted)

/-- An owner-only command consumed earlier is still executing (R83: one at a time, in the order consumed). -/
def ownerBusy (s : State) (c : Cmd) : Bool :=
  match s.mbx.cmds.find? (fun x => x.ownerOnly && x.fail == 0) with
  | some x => !(x.line == c.line && x.seq == c.seq)
  | none => false

/-- Check 2 of R84: the caller's port is the owner, or it had the command consumed before its office fell vacant (R99). -/
def ownerOk (s : State) (c : Cmd) : Bool := s.own.owner == c.port || c.kept

/-- A command that starts fails check 1 or 2 of R84, with this answer. -/
def startFails (s : State) (c : Cmd) : Option Answer :=
  if c.fail != 0 then some { status := c.fail, detail := c.failDetail }
  else if c.ownerOnly && !ownerBusy s c && !ownerOk s c then some { status := stNotOwner }
  else none

/-- Commands of a line that fail check 1 or 2 of R84 complete as soon as the line's earlier first completions are written
(R83). -/
def flushFailed (line : Nat) : Nat → State → State
  | 0, s => s
  | k + 1, s =>
    match firstOpen s line with
    | some c => match startFails s c with
      | some a => flushFailed line k (finishOne c a s)
      | none => s
    | none => s

/-- The same of every line, in the order of consumption: an owner-only command that ends lets the next one start (R83). -/
def flushAll (s : State) : State :=
  (s.mbx.cmds.map (·.line)).foldl (fun a l => flushFailed l a.mbx.cmds.length a) s

/-- The final completion of a command, and the completions it lets through. -/
def finish (c : Cmd) (a : Answer) (s : State) : State := flushAll (finishOne c a s)

/-- The ACCEPTED completion of a command (R501): it stays uncompleted, with one CQ slot left for its FINAL. -/
def accept (c : Cmd) (result : List Nat) (s : State) : State :=
  let a : Answer := { status := stAccepted, result := result }
  let s1 := { s with
    mbx.cmds := s.mbx.cmds.map (fun x => if x.line == c.line && x.seq == c.seq then { x with accepted := true } else x),
    mbx.pairs := upd s.mbx.pairs c.line fun p => { p with reserved := p.reserved - 1 } }
  let s2 := deliver c.line (answerCompl c a false) s1
  let s3 := if 16 ≤ c.line then setV1 s2 c.line (fun v => { v with finalPending := true }) else s2
  flushFailed c.line s3.mbx.cmds.length s3

/-- The FINAL completion of the ACCEPTED command on `line` with SQ counter `seq`, where it is still uncompleted. -/
def finishAccepted (line seq : Nat) (a : Answer) (s : State) : State :=
  match findCmd s line seq with
  | some c => if c.accepted then finish c a s else s
  | none => s

/-- The command on `line` with SQ counter `seq`, where it has this opcode and may start now (R83). -/
def startCmd (s : State) (line seq op : Nat) : Option Cmd :=
  match firstOpen s line with
  | some c => if c.seq == seq && c.opcode == op && c.fail == 0 && !(c.ownerOnly && ownerBusy s c) then some c else none
  | none => none

/-- In M2 with SYS_BOOT.FAIL set the device takes the ROM recovery commands alone (R62, R96). -/
def recoveryBars (s : State) (op : Nat) : Bool := s.sys.mode == .m2 && s.sys.boot.fail && !(0x01F0 ≤ op && op ≤ 0x01F2)

/-- The greatest REF_LEN of a command (R81): what the command reference gives, or 65,536 where it gives none. -/
def CmdInfo.refMax (i : CmdInfo) : Nat := if i.maxRef = 0 then 65536 else i.maxRef

/-- A command starts (R84): the owner, the mode, then state and rights (`illegal`), then the largest reference (R81), then
the command's own checks and effect (`body`). Where no such command can start, nothing happens. -/
def runCmd (line seq op : Nat) (illegal : Cmd → State → Bool) (body : Cmd → State → State) (s : State) : State :=
  match startCmd s line seq op, cmdInfo op with
  | some c, some i =>
    if i.owner && !ownerOk s c then finish c { status := stNotOwner } s
    else if !(i.modes.contains s.sys.mode.num) then finish c { status := stMode, detail := s.sys.mode.num } s
    else if recoveryBars s op || illegal c s then finish c { status := stIllegal } s
    else if i.refMax < c.refLen then finish c { status := stRange, detail := 60 } s
    else body c s
  | _, _ => s

/-- No state or right forbids the command. -/
def neverIllegal (_ : Cmd) (_ : State) : Bool := false

/-- A command out of range: the faulty field's entry offset is DETAIL (R78). -/
def rejectRange (c : Cmd) (ofs : Nat) (s : State) : State := finish c { status := stRange, detail := ofs } s

/-- A command whose payload or reference does not fit its format (R84). -/
def rejectFormat (c : Cmd) (ofs : Nat) (s : State) : State := finish c { status := stFormat, detail := ofs } s

/-- A command whose signature or credential fails (R84): the faulty field's entry offset is DETAIL (R78). A fault inside a
payload is given at the field that names it, REF_ADDR at 52 (DEDUCED, log entry 64). -/
def rejectAuth (c : Cmd) (ofs : Nat) (s : State) : State := finish c { status := stAuth, detail := ofs } s

/-- A command turned away by its state (R84). -/
def rejectIllegal (c : Cmd) (s : State) : State := finish c { status := stIllegal } s

/-- A command done with results and no response. -/
def done (c : Cmd) (result : List Nat) (s : State) : State := finish c { result := result } s

/-- A command done whose reference is marked out (R498). -/
def doneOut (c : Cmd) (result resp : List Nat) (s : State) : State :=
  finish c { result := result, resp := some resp } s

/-- Check 1 of R84 at consumption: 0 where it passes, else the status and DETAIL. `port` is the caller's. DEDUCED (log entry 64):
the checks of R80 are made in the order in which it lists them, the staging range before the kind. -/
def entryCheck (s : State) (line port : Nat) (e data : List Nat) (poisoned : Bool) : Nat × Nat :=
  let c : Cmd := { line := line, entry := e }
  match cmdInfo c.opcode with
  | none => (stFormat, 0)
  | some _ =>
    let refUsed := c.refLen != 0 && c.refKind != 0
    let p := get s.mbx.pairs line
    if poisoned then (stFormat, 0xFFFF)
    else if refUsed && 16 ≤ line && c.refKind != 2 then (stFormat, 2)
    else if refUsed && c.refKind != 3 && (if line < 16 then
        decide (c.refOffset < p.firstQuantum * 0x10000 ∨ (p.firstQuantum + p.quantaHeld) * 0x10000 < c.refOffset + c.refLen)
        else decide (0x10000 < c.refOffset + c.refLen)) then (stFormat, 52)
    else if refUsed && (c.refKind == 1 || c.refKind == 3) && port != 1 then (stFormat, 2)
    else if refUsed && c.refKind == 2 && decide (crc32 data ≠ c.refCrc) then (stFormat, 0xFFFF)
    else (0, 0)

/-- The bytes a reference names, as read at consumption; a kind 3 payload comes over PCIe. -/
def refData (s : State) (line : Nat) (e host : List Nat) : List Nat :=
  let c : Cmd := { line := line, entry := e }
  if c.refLen == 0 || c.refKind == 0 then []
  else if c.refKind == 3 then host.take c.refLen
  else if line < 16 then memBytes s.mem (0x20800000 + c.refOffset) c.refLen
  else memBytes (getV1 s line).buf c.refOffset c.refLen

/-- The entry a line would give next. -/
def nextEntry (s : State) (line : Nat) : List Nat :=
  if line < 16 then
    (let p := get s.mbx.pairs line
     memBytes s.mem (sqSlotAddr line p.depth p.sqHead) 64)
  else
    (let v := getV1 s line
     (v.cmd ++ List.replicate 64 0).take 64)

/-- A line can be served (R75, R83): an active pair with an entry outstanding and the CQ slots the entry needs, or a
v1 instance with GO set. -/
def lineReady (s : State) (line : Nat) : Bool :=
  if line < 16 then
    (let p := get s.mbx.pairs line
     p.active && !p.runDown && p.sqTail != p.sqHead
       && decide ((if canAccept (entryField (nextEntry s line) 0 2) then 2 else 1) ≤ cqFree p) && p.owed == [])
  else (getV1 s line).go

/-- The lines in the order of the round robin, beginning after the last one served (R83). -/
def robin (last : Nat) : List Nat := (List.range 18).map (fun k => (last + 1 + k) % 18)

/-- The entry of a line is taken: its head advances and it joins the uncompleted commands (R83, R84). -/
def takeEntry (line : Nat) (host : List Nat) (poisoned : Bool) (s : State) : State :=
  let e := nextEntry s line
  let data := refData s line e host
  let port := linePort s line
  let chk := entryCheck s line port e data poisoned
  let op := entryField e 0 2
  let n := if canAccept op then 2 else 1
  let seq := if line < 16 then (get s.mbx.pairs line).sqHead else (getV1 s line).sqCnt
  let c : Cmd := { line := line, port := port, seq := seq, entry := e, ownerOnly := ((cmdInfo op).map CmdInfo.owner).getD false,
                   fail := chk.1, failDetail := chk.2, slots := n, data := data }
  let s1 := { s with mbx.cmds := s.mbx.cmds ++ [c], mbx.lastLine := line }
  let s2 := if line < 16 then
      { s1 with mbx.pairs := upd s1.mbx.pairs line fun p =>
          { p with sqHead := (p.sqHead + 1) % 65536, reserved := p.reserved + n } }
    else setV1 s1 line fun v => { v with go := false, sqCnt := (v.sqCnt + 1) % 65536 }
  flushFailed line s2.mbx.cmds.length s2

/-- Mailboxes serve commands in this mode: M3 to M10, and v1 only in M2 (R40, R62), of an enabled port (R68). -/
def lineServed (s : State) (line : Nat) : Bool :=
  let m := s.sys.mode.num
  ((3 ≤ m && m ≤ 10) || (m == 2 && 16 ≤ line && (!s.sys.boot.fail || line == 17))) && portEnabled s (linePort s line)

/-! ### Discard points (R86) -/

/-- An uncompleted command is completed as discarded. -/
def discardCmd (st detail : Nat) (s : State) (c : Cmd) : State := finishOne c { status := st, detail := detail } s

/-- The entries a doorbell covers and the device has not consumed are completed as discarded, credits first. -/
def discardQueued (st detail : Nat) (n : Nat) : Nat → State → State
  | 0, s => s
  | k + 1, s =>
    let p := get s.mbx.pairs n
    if p.sqTail == p.sqHead then s
    else
      let c : Cmd := { line := n, port := p.port, seq := p.sqHead, entry := nextEntry s n }
      discardQueued st detail n k
        (deliver n (answerCompl c { status := st, detail := detail } true)
          { s with mbx.pairs := upd s.mbx.pairs n fun q => { q with sqHead := (q.sqHead + 1) % 65536 } })

/-- A v1 entry whose GO is set and that the device has not taken is completed as discarded. -/
def discardGo (st detail : Nat) (line : Nat) (s : State) : State :=
  let v := getV1 s line
  if v.go then
    let c : Cmd := { line := line, port := linePort s line, seq := v.sqCnt, entry := nextEntry s line }
    deliver line (answerCompl c { status := st, detail := detail } true)
      (setV1 s line fun w => { w with go := false, sqCnt := (w.sqCnt + 1) % 65536 })
  else s

/-- A discard point for the lines that `sel` names (R86): every command consumed and not completed, then every entry
covered by an earlier doorbell, in SQ order per pair. -/
def discardLines (st detail : Nat) (sel : Nat → Bool) (s : State) : State :=
  let s1 := (s.mbx.cmds.filter (fun c => sel c.line)).foldl (discardCmd st detail) s
  let s2 := (List.range 16).foldl (fun a n =>
    let p := get a.mbx.pairs n
    if sel n && p.active && !p.runDown then discardQueued st detail n p.depth a else a) s1
  [16, 17].foldl (fun a l => if sel l then discardGo st detail l a else a) s2

/-- A discard point for every port. -/
def discardAll (st detail : Nat) (s : State) : State := discardLines st detail (fun _ => true) s

/-- An interface error of MBX_ERR is latched with its pair, and MBX_ERR fires (source 50). -/
def mbxErr (pair : Nat) (f : Mbx → Mbx) (s : State) : State :=
  let m := f s.mbx
  fireEvent 50 { s with mbx := { m with errPair := pair % 16 } }

end Sys2Proof.Machine
end

