-- ==== Sys2Proof/Machine/Legal.lean ====
section
/-! DEFINITION. What the legal core pair writes (15): legal time, the tariff in force, the records of the Peat log and
their hash chain, boundaries, and the closing of sessions. -/

namespace Sys2Proof.Machine

/-! ### SHA-256 (R377) -/

/-- The round constants of SHA-256. -/
def shaK : List Nat := [
  0x428A2F98, 0x71374491, 0xB5C0FBCF, 0xE9B5DBA5, 0x3956C25B, 0x59F111F1, 0x923F82A4, 0xAB1C5ED5,
  0xD807AA98, 0x12835B01, 0x243185BE, 0x550C7DC3, 0x72BE5D74, 0x80DEB1FE, 0x9BDC06A7, 0xC19BF174,
  0xE49B69C1, 0xEFBE4786, 0x0FC19DC6, 0x240CA1CC, 0x2DE92C6F, 0x4A7484AA, 0x5CB0A9DC, 0x76F988DA,
  0x983E5152, 0xA831C66D, 0xB00327C8, 0xBF597FC7, 0xC6E00BF3, 0xD5A79147, 0x06CA6351, 0x14292967,
  0x27B70A85, 0x2E1B2138, 0x4D2C6DFC, 0x53380D13, 0x650A7354, 0x766A0ABB, 0x81C2C92E, 0x92722C85,
  0xA2BFE8A1, 0xA81A664B, 0xC24B8B70, 0xC76C51A3, 0xD192E819, 0xD6990624, 0xF40E3585, 0x106AA070,
  0x19A4C116, 0x1E376C08, 0x2748774C, 0x34B0BCB5, 0x391C0CB3, 0x4ED8AA4A, 0x5B9CCA4F, 0x682E6FF3,
  0x748F82EE, 0x78A5636F, 0x84C87814, 0x8CC70208, 0x90BEFFFA, 0xA4506CEB, 0xBEF9A3F7, 0xC67178F2]

/-- The initial hash value of SHA-256. -/
def shaH : List Nat := [
  0x6A09E667, 0xBB67AE85, 0x3C6EF372, 0xA54FF53A, 0x510E527F, 0x9B05688C, 0x1F83D9AB, 0x5BE0CD19]

/-- Rotate a 32-bit word right. -/
def rotr (n x : Nat) : Nat := x / 2 ^ n + x % 2 ^ n * 2 ^ (32 - n)

/-- The bytes padded to whole blocks of 64. -/
def shaPad (bs : List Nat) : List Nat :=
  bs ++ [128] ++ List.replicate ((119 - bs.length % 64) % 64) 0 ++ (leBytes 8 (8 * bs.length)).reverse

/-- The message schedule: `n` more words after those given, the newest first. -/
def shaSched : Nat → List Nat → List Nat
  | 0, w => w
  | n + 1, w =>
    let x := w.getD 1 0
    let y := w.getD 14 0
    let s1 := rotr 17 x ^^^ rotr 19 x ^^^ (x / 1024)
    let s0 := rotr 7 y ^^^ rotr 18 y ^^^ (y / 8)
    shaSched n (((s1 + w.getD 6 0 + s0 + w.getD 15 0) % 2 ^ 32) :: w)

/-- One round over the eight working words. -/
def shaRound (v : List Nat) (kw : Nat × Nat) : List Nat :=
  match v with
  | [a, b, c, d, e, f, g, h] =>
    let s1 := rotr 6 e ^^^ rotr 11 e ^^^ rotr 25 e
    let ch := (e &&& f) ^^^ ((0xFFFFFFFF - e) &&& g)
    let t1 := h + s1 + ch + kw.1 + kw.2
    let s0 := rotr 2 a ^^^ rotr 13 a ^^^ rotr 22 a
    let mj := (a &&& b) ^^^ (a &&& c) ^^^ (b &&& c)
    [(t1 + s0 + mj) % 2 ^ 32, a, b, c, (d + t1) % 2 ^ 32, e, f, g]
  | _ => v

/-- The sixteen big-endian words of a block. -/
def shaWords (blk : List Nat) : List Nat := (List.range 16).map fun k => leValue ((blk.drop (4 * k)).take 4).reverse

/-- One block taken into the hash value. -/
def shaBlock (h blk : List Nat) : List Nat :=
  let w := (shaSched 48 (shaWords blk).reverse).reverse
  List.zipWith (fun x y => (x + y) % 2 ^ 32) h ((shaK.zip w).foldl shaRound h)

/-- SHA-256 of a list of bytes. -/
def sha256 (bs : List Nat) : List Nat :=
  let p := shaPad bs
  let h := (List.range (p.length / 64)).foldl (fun a k => shaBlock a ((p.drop (64 * k)).take 64)) shaH
  (h.map fun w => (leBytes 4 w).reverse).flatten

/-! ### Legal time and tariffs (R385 to R391) -/

/-- Legal time in ns (R390): it follows device time, 1 % fast or slow during a slew. -/
def legalNs (s : State) : Nat :=
  let d := (devTime s + 2 ^ 64 - s.lgl.lAt) % 2 ^ 64
  (((s.lgl.lBase + d : Nat) : Int) + s.lgl.slew * ((d / 100 : Nat) : Int)).toNat

/-- Legal time in ms. -/
def legalMs (s : State) : Nat := legalNs s / 1000000

/-- A field of the legal parameter set in force (R374, R386); 0 where there is none. -/
def legalPar (s : State) (ofs w : Nat) : Nat :=
  match s.lgl.copy with
  | some c => memRead s.mem (0x90001000 + 0x8000 * c + ofs) w
  | none => 0

/-- Year, month and day of a day number since 1970-01-01. -/
def civilDate (day : Nat) : Nat × Nat × Nat :=
  let z := day + 719468
  let era := z / 146097
  let doe := z % 146097
  let yoe := (doe - doe / 1460 + doe / 36524 - doe / 146096) / 365
  let doy := doe - (365 * yoe + yoe / 4 - yoe / 100)
  let mp := (5 * doy + 2) / 153
  let m := if mp < 10 then mp + 3 else mp - 9
  (yoe + era * 400 + (if m ≤ 2 then 1 else 0), m, doy - (153 * mp + 2) / 5 + 1)

/-- Tariff time in minutes since 1970 (R388). -/
def tariffMinutes (s : State) (ms : Nat) : Nat := (((ms / 60000 : Nat) : Int) + signed 16 (legalPar s 12 2)).toNat

/-- The profile of a tariff-time day (R388): the first special day that matches, else the season's weekday profile. -/
def dayProfile (s : State) (day : Nat) : Nat :=
  let cal := 56
  let d := civilDate day
  let f := fun o w => legalPar s (cal + o) w
  let special := (List.range 64).find? fun e =>
    let o := 1088 + 8 * e
    f (o + 2) 1 != 0 && (f o 2 == 0 || f o 2 == d.1) && f (o + 2) 1 == d.2.1 && f (o + 3) 1 == d.2.2
  match special with
  | some e => f (1088 + 8 * e + 4) 1
  | none =>
    let used := (List.range 4).filter fun k => f (1040 + 12 * k) 1 != 0
    let begun := used.filter fun k =>
      let o := 1040 + 12 * k
      decide (f o 1 * 32 + f (o + 1) 1 ≤ d.2.1 * 32 + d.2.2)
    let k := (begun.getLast?.or used.getLast?).getD 0
    f (1040 + 12 * k + 2 + (day + 3) % 7) 1

/-- The tariff in force at a legal time (R388, R391). -/
def tariffAt (s : State) (ms : Nat) : Nat :=
  if !s.lgl.synced then legalPar s 17 1 % 8
  else
    let m := tariffMinutes s ms
    let p := dayProfile s (m / 1440)
    let pts := (List.range 16).filter fun j =>
      let t := legalPar s (56 + 16 + 64 * p + 4 * j) 2
      t != 0xFFFF && decide (t ≤ m % 1440)
    match pts.getLast? with
    | some j => legalPar s (56 + 16 + 64 * p + 4 * j + 2) 1 % 8
    | none => 0

/-- Wide accumulator `a`. -/
def wideAcc (s : State) (a : Nat) : Nat := get s.mtr.wide a

/-- Output `n` is billed at the inlet (BILL_BASIS). -/
def inletBasis (s : State) (n : Nat) : Bool := bit (legalPar s 16 1) n

/-- The delta of output `n`'s billing-basis import accumulator since the last addition, and whether the output stood in
for the inlet (R385). -/
def tariffDelta (s : State) (n : Nat) : Nat × Bool :=
  let fallback := inletBasis s n && (get s.mtr.dc n).inlet == 0
  let a := if inletBasis s n && !fallback then 6 * n + 4 else 6 * n
  (wideAcc s a - get s.lgl.tWide a, fallback)

/-- One output's delta goes to the register of the tariff in force, and to the open session's share (R385). -/
def addTariff1 (s : State) (n : Nat) : State :=
  let d := tariffDelta s n
  { s with
    lgl.treg := upd s.lgl.treg (8 * n + s.lgl.tariff) fun x => x + d.1,
    lgl.sess := upd s.lgl.sess n fun o => o.map fun x =>
      { x with tariffE := x.tariffE.modify s.lgl.tariff (· + d.1),
               sflags := if d.2 then setBits x.sflags 7 1 1 else x.sflags } }

/-- The deltas since the last addition go to the tariff in force (R385). -/
def addTariff (s : State) : State :=
  let s1 := (List.range 4).foldl addTariff1 s
  { s1 with lgl.tWide := s1.mtr.wide }

/-! ### Ring records (R374 to R384) -/

/-- An error of SUBSYS 8 is published by the pair; the supervisor raises it (R404). -/
def publish (code cls arg : Nat) (s : State) : State := { s with lgl.errs := s.lgl.errs ++ [(code, cls, arg)] }

/-- FLAGS of a record header (R377). -/
def recFlags (recovered group : Bool) (s : State) : Nat :=
  packBits [(0, b2n recovered), (1, b2n group), (2, b2n s.lgl.sealOpen), (3, b2n (!s.lgl.synced)), (4, b2n s.lgl.standby)]

/-- The 64-byte header (R377). -/
def recHeader (typ len flags lseq ltime : Nat) (s : State) : List Nat :=
  leBytes 2 0x7EA7 ++ [typ, 1] ++ leBytes 2 len ++ leBytes 2 flags ++ leBytes 8 lseq ++ leBytes 8 ltime
    ++ leBytes 8 (devTime s) ++ (s.lgl.prev ++ List.replicate 32 0).take 32

/-- A record with its CRC-32 at the end (R377). -/
def withCrc (bs : List Nat) : List Nat := bs ++ leBytes 4 (crc32 bs)

/-- The log header, written to the copies alternately (R375). -/
def writeLogHeader (s : State) : State :=
  let g := s.lgl.hgen + 1
  let (ofs, lseq) := match s.lgl.index.getLast? with
    | some r => (r.2.2.1, r.1)
    | none => (0x20000, 0)
  let bs := withCrc ([0x50, 0x45, 0x41, 0x54] ++ leBytes 2 1 ++ [0, 0] ++ leBytes 16 s.sys.ident.deviceId
    ++ leBytes 4 s.lgl.ringEnd ++ leBytes 4 ofs ++ leBytes 8 lseq ++ leBytes 4 g ++ List.replicate 16 0)
  { s with mem := memWriteBytes s.mem (0x90000000 + 0x800 * (g % 2)) bs, lgl.hgen := g }

/-- Bytes of the ring that records younger than RETAIN_DAYS hold (R376). -/
def youngBytes (s : State) : Nat :=
  let keep := legalPar s 20 2 * 86400000
  (s.lgl.index.filter (fun r => decide (legalMs s < r.2.1 + keep))).foldl (fun a r => a + r.2.2.2) 0

/-- Size of the ring. -/
def ringSize (s : State) : Nat := s.lgl.ringEnd + 1 - 0x20000

/-- LOG_FULL follows the overwritable ring (R376). -/
def checkLogFull (s : State) : State :=
  let short := decide (ringSize s - youngBytes s < 0x100000)
  if short && !s.lgl.logFull then publish 0x12 1 0 { s with lgl.logFull := true }
  else { s with lgl.logFull := short }

/-- Where the next record of a length goes: at the tail, or, where it does not fit before RING_END, at the start (R376). -/
def placeOfs (s : State) (len : Nat) : Nat := if s.lgl.ringEnd + 1 < s.lgl.tail + len then 0x20000 else s.lgl.tail

/-- A record of `len` bytes at `ofs` would lie over a record held. -/
def overwrites (ofs len : Nat) (r : Nat × Nat × Nat × Nat) : Bool :=
  decide (r.2.2.1 < ofs + len) && decide (ofs < r.2.2.1 + r.2.2.2)

/-- The ring has no room for a record: it would go over one younger than RETAIN_DAYS (R376). -/
def noRoom (s : State) (len : Nat) : Bool :=
  decide (ringSize s < len) || s.lgl.index.any fun r =>
    overwrites (placeOfs s len) len r && decide (legalMs s < r.2.1 + legalPar s 20 2 * 86400000)

/-- A record's bytes are placed in the ring, over the oldest records (R376). -/
def placeRecord (lseq ltime : Nat) (bs : List Nat) (s : State) : State :=
  let ofs := placeOfs s bs.length
  let kept := s.lgl.index.filter fun r => !overwrites ofs bs.length r
  let s1 := { s with mem := memWriteBytes s.mem (0x90000000 + ofs) bs, lgl.tail := ofs + bs.length,
                     lgl.index := kept ++ [(lseq, ltime, ofs, bs.length)] }
  let s2 := if lseq % 64 = 0 then writeLogHeader s1 else s1
  checkLogFull s2

/-- LGL_LOG_ERR stands from here on (R376). -/
def logFails (s : State) : State :=
  if s.lgl.logErr then s else publish 0x13 3 0 { s with lgl.logErr := true }

/-- One ring record is appended (R376, R377): its LSEQ and hash chain are fixed at once; one that cannot be written is
kept. -/
def ringPut (typ flags ltime : Nat) (body : List Nat) (s : State) : State :=
  let lseq := s.lgl.lseq + 1
  let bs := withCrc (recHeader typ (64 + body.length + 4) flags lseq ltime s ++ body)
  let s1 := { s with lgl.lseq := lseq, lgl.prev := sha256 bs, lgl.lastCheck := s.lgl.check }
  if s1.lgl.logErr then { s1 with lgl.kept := s1.lgl.kept ++ [bs] }
  else if noRoom s1 bs.length then logFails { s1 with lgl.kept := s1.lgl.kept ++ [bs] }
  else placeRecord lseq ltime bs s1

/-- A ring record is appended, and after the one that leaves less than 1 MB of overwritable ring, the LOG_FULL event (R376,
R382). -/
def ringAppend (typ flags ltime : Nat) (body : List Nat) (s : State) : State :=
  let s1 := ringPut typ flags ltime body s
  if !s.lgl.logFull && s1.lgl.logFull then
    ringPut 3 (recFlags false false s1) (legalMs s1) (leBytes 2 0xE ++ List.replicate 26 0) s1
  else s1

/-- Kept records are written first, in LSEQ order, at a write that passes its read-back (R376): as many as the ring has room
for; LGL_LOG_ERR ends with the last. -/
def writeKept (s : State) : State :=
  let r := s.lgl.kept.foldl (fun (a : State × List (List Nat)) bs =>
    if a.2.isEmpty && !noRoom a.1 bs.length then
      (placeRecord (leValue ((bs.drop 8).take 8)) (leValue ((bs.drop 16).take 8)) bs a.1, [])
    else (a.1, a.2 ++ [bs])) (s, [])
  { r.1 with lgl.kept := r.2, lgl.logErr := !r.2.isEmpty }

/-- A list cut or filled with zeros to a length. -/
def fit (n : Nat) (l : List Nat) : List Nat := (l ++ List.replicate n 0).take n

/-- An event record (R382). -/
def lglEvent (code : Nat) (data : List Nat) (s : State) : State :=
  ringAppend 3 (recFlags false false s) (legalMs s) (leBytes 2 code ++ [0, 0] ++ fit 24 data) s

/-- A wide accumulator's difference since the interval's start. -/
def iDelta (s : State) (a : Nat) : Nat := wideAcc s a - get s.lgl.iWide a

/-- An interval record closes the open interval (R381); `flags` are added to its IFLAGS. It belongs to the group of its
boundary (GROUP), but for one cut at a restart, which no boundary record follows (R395). -/
def closeInterval (flags : Nat) (recovered : Bool) (endL : Nat) (s : State) : State :=
  let dc := (List.range 4).map fun n => leBytes 8 (iDelta s (6 * n)) ++ leBytes 8 (iDelta s (6 * n + 1)) ++ leBytes 8 (iDelta s (6 * n + 4))
  let ac := (List.range 2).map fun k => leBytes 8 (iDelta s (24 + 8 * k)) ++ leBytes 8 (iDelta s (25 + 8 * k))
    ++ leBytes 4 (get s.lgl.iPeak k) ++ leBytes 4 0
  ringAppend 2 (recFlags recovered (flags != 4) s) endL (leBytes 8 s.lgl.iseq ++ leBytes 8 s.lgl.iStart ++ leBytes 8 endL
    ++ leBytes 2 (s.lgl.iFlags ||| flags) ++ [s.lgl.tariff, 0] ++ dc.flatten ++ ac.flatten
    ++ leBytes 4 (unsigned 32 (s.lgl.slewNet / 1000000)) ++ List.replicate 12 0) s

/-- The next interval opens at a legal time (R392, R394). -/
def openInterval (flags ltime : Nat) (s : State) : State :=
  { s with lgl.iseq := s.lgl.iseq + 1, lgl.iStart := ltime, lgl.iFlags := flags, lgl.iWide := s.mtr.wide,
           lgl.iPeak := Vector.replicate 2 0, lgl.slewNet := 0 }

/-- L is carried forward to now, with what a slew has added (R381, R390). -/
def rebase (s : State) : State :=
  let d := (devTime s + 2 ^ 64 - s.lgl.lAt) % 2 ^ 64
  { s with lgl.lBase := legalNs s, lgl.lAt := devTime s, lgl.slewNet := s.lgl.slewNet + s.lgl.slew * ((d / 100 : Nat) : Int) }

/-- UTC as the pair takes it (R390), ns. -/
def utcNs (s : State) : Int := (devTime s : Int) - s.lgl.utcOfs

/-- CAUSES of a boundary record (R393). -/
def BCauses.word (c : BCauses) : Nat :=
  packBits [(0, b2n c.intervalEnd), (1, b2n c.clockStep.isSome), (2, b2n c.calendar), (3, b2n c.tariff),
    (4, b2n c.calInForce), (5, b2n c.powerFail)]

/-- The passive calendar becomes the active one in the set in force (R389), and CALENDAR_ACTIVATED is written. -/
def activateCalendar (s : State) : State :=
  match s.lgl.copy with
  | none => s
  | some c =>
    let base := 0x90001000 + 0x8000 * c
    let pas := memBytes s.mem (base + 1752) 1696
    let ver := pas.drop 8 |>.take 4
    let act := List.replicate 8 0 ++ (pas.drop 8).take 1592 ++ List.replicate 96 0
    let m := memWriteBytes (memWriteBytes s.mem (base + 56) act) (base + 1752) (List.replicate 8 0)
    lglEvent 8 ver { s with mem := memWrite m (base + 3452) 4 (crc32 (memBytes m base 3452)) }

/-- The calibration set recorded by the pair comes into force (R350, R382): every channel changes at this sample, and
MTR_CAL_COMMIT completes. The bytes the set's SHA-256 covers are not stated, so the event's digest is a free value. -/
def calInForce (s : State) : State :=
  match s.mtr.calDue with
  | none => s
  | some (v, q, line, seq) =>
    let d := drawFree { s with mtr.cal := v, mtr.calDue := none, lgl.calSeq := q }
    finishAccepted line seq { result := leBytes 4 q } (fireEvent 378 (lglEvent 6 (leBytes 4 q ++ leBytes 16 d.1) d.2))

/-- A boundary in the fixed order of R394, from its capture to its record, whose CRC commits the group; `ltime` is its
instant of L, ms. -/
def doBoundary (c : BCauses) (recovered : Bool) (ltime : Nat) (s0 : State) : State :=
  let s := rebase s0
  let s1 := addTariff s
  let close := c.intervalEnd || c.clockStep.isSome
  let closed := s1.lgl.iseq
  let s2 := if close then closeInterval (if c.clockStep.isSome then 2 else 0) recovered ltime s1 else s1
  let s3 := match c.clockStep with
    | some l =>
      let a := { s2 with lgl.lBase := l, lgl.lAt := devTime s2, lgl.slew := 0, lgl.stepDue := false,
                         lgl.sess := s2.lgl.sess.map (fun o => o.map fun x => { x with sflags := setBits x.sflags 6 1 1 }) }
      publish 0x11 1 0 (lglEvent 3 (leBytes 8 ltime ++ leBytes 8 (legalMs a)) a)
    | none => s2
  let lnew := if c.clockStep.isSome then legalMs s3 else ltime
  let s4 := if c.calendar then activateCalendar s3 else s3
  let told := s4.lgl.tariff
  let tnew := tariffAt s4 lnew
  let s5 := { s4 with lgl.tariff := tnew }
  let s6 := if c.calInForce then calInForce s5 else s5
  let s7 := if close then openInterval (if c.clockStep.isSome then 1 else 0) lnew s6 else s6
  let c' := { c with tariff := c.tariff || told != tnew }
  let wide := ((List.range 40).map fun a => leBytes 8 (wideAcc s7 a)).flatten
  let regs := ((List.range 32).map fun r => leBytes 8 (get s7.lgl.treg r)).flatten
  ringAppend 4 (recFlags recovered false s7) ltime (leBytes 2 c'.word ++ [told, tnew]
    ++ leBytes 8 (if close then closed else 0) ++ leBytes 8 (if close then s7.lgl.iseq else 0) ++ leBytes 8 lnew
    ++ leBytes 4 0 ++ wide ++ regs ++ List.replicate 12 0) s7

/-- LEGAL_DI in ms: 15 min where no set is in force (R386). -/
def legalDi (s : State) : Nat := (if legalPar s 15 1 = 0 then 15 else legalPar s 15 1) * 60000

/-- The next interval end after a legal time (R392). -/
def nextEnd (s : State) (l : Nat) : Nat := (l / legalDi s + 1) * legalDi s

/-- The causes that are due now (R394): an interval end, a step, the passive calendar's instant, a change of the tariff. -/
def dueCauses (s : State) : BCauses :=
  let act := legalPar s 1752 8
  { intervalEnd := decide (nextEnd s s.lgl.iStart ≤ legalMs s),
    clockStep := if s.lgl.stepDue then some (utcNs s).toNat else none,
    calendar := act != 0 && decide (act ≤ legalMs s),
    tariff := tariffAt s (legalMs s) != s.lgl.tariff }

/-- Something of a boundary is due. -/
def BCauses.any (c : BCauses) : Bool := c.intervalEnd || c.clockStep.isSome || c.calendar || c.tariff || c.calInForce

/-- Where a boundary is due it is processed at its instant (R394): the interval end where that is due, the calendar's
instant, else now. -/
def runBoundary (powerFail recovered : Bool) (s : State) : State :=
  let c := dueCauses s
  if c.any then
    doBoundary { c with powerFail := powerFail } recovered
      (if c.intervalEnd then nextEnd s s.lgl.iStart else if c.calendar then legalPar s 1752 8 else legalMs s) s
  else s

/-! ### Sessions (R378 to R380) -/

/-- The six readings of an output. -/
def readings (s : State) (n : Nat) : List Nat := (List.range 6).map fun k => wideAcc s (6 * n + k)

/-- Bytes 64 to 923 of an open session's record as they stand. -/
def sessBody (n stop endL loss : Nat) (endRead : List Nat) (x : LSess) (s : State) : List Nat :=
  let pre := (get s.lgl.prepay n).getD {}
  [n, stop] ++ leBytes 2 x.sflags ++ leBytes 4 x.no ++ leBytes 8 x.startL ++ leBytes 8 endL
    ++ ((List.range 6).map fun k => leBytes 8 (x.startRead.getD k 0) ++ leBytes 8 (endRead.getD k 0)).flatten
    ++ ((List.range 8).map fun k => leBytes 8 (x.tariffE.getD k 0)).flatten
    ++ [x.basis, x.inletMode, x.idType, x.ident.length] ++ fit 64 x.ident ++ leBytes 16 x.evId ++ fit 16 x.cable
    ++ leBytes 4 (get s.cbl.op n).rC ++ leBytes 4 x.vMin ++ leBytes 4 x.vMax ++ leBytes 8 loss
    ++ leBytes 8 (unsigned 64 x.accStart) ++ leBytes 8 pre.emerg ++ leBytes 8 pre.shortfall ++ [x.proto, 0, 0, 0]
    ++ leBytes 4 s.lgl.calSeq ++ leBytes 4 (legalPar s 8 4) ++ leBytes 8 s.lgl.check ++ leBytes 16 s.sys.ident.deviceId
    ++ leBytes 16 s.dpx.partnerId ++ List.replicate 480 0

/-- The pair opens a session (R379): the start readings are taken at one sample instant. -/
def openLegal (n proto : Nat) (s : State) : State :=
  let no := get s.lgl.sessNo n + 1
  let p := get s.vcl.port n
  let pre := get s.lgl.prepay n
  let x : LSess :=
    { no := no, startL := legalMs s, startRead := readings s n, tariffE := List.replicate 8 0, proto := proto,
      basis := b2n (inletBasis s n), inletMode := (get s.mtr.dc n).inlet, idType := p.idType, ident := p.ident,
      evId := p.evId, cable := ((get s.cbl.op n).record.drop 8).take 16, sflags := if pre.isSome then 4 else 0,
      accStart := (pre.map (·.account)).getD 0 }
  { s with lgl.sessNo := upd s.lgl.sessNo n fun _ => no, lgl.sess := upd s.lgl.sess n fun _ => some x }

/-- The pair closes an open session (R379, R380): end readings, signature and record. `extra` is added to SFLAGS and
`loss` is LOSS_BOUND. The signature is a free value: R378 gives its key and what it covers, not its bits. -/
def closeLegal (n stop extra loss : Nat) (s : State) : State :=
  match get s.lgl.sess n with
  | none => s
  | some x0 =>
    let pre := (get s.lgl.prepay n).getD {}
    let exported := x0.startRead.getD 1 0 != wideAcc s (6 * n + 1)
    let active := !s.lgl.standby
    let fl := x0.sflags ||| extra ||| packBits [(3, b2n (pre.emerg != 0)), (4, b2n (pre.shortfall != 0)), (5, b2n exported),
      (8, b2n active)]
    let x := { x0 with sflags := fl }
    let s0 := addTariff s
    let x := { x with tariffE := ((get s0.lgl.sess n).map (·.tariffE)).getD x.tariffE }
    let (sig, s1) := drawFree s0
    let endL := legalMs s1
    let e := x.tariffE.sum
    ringAppend 1 (recFlags false false s1) endL (sessBody n stop endL loss (readings s1 n) x s1 ++ leBytes 96 sig)
      { s1 with lgl.sess := upd s1.lgl.sess n fun _ => none,
                lgl.prepay := upd s1.lgl.prepay n fun _ => none,
                lgl.lastSess := upd s1.lgl.lastSess n fun _ => some (x.no, e, endL) }

/-- Every open session is closed with a reason, and requests to close not yet taken are overridden (R380). -/
def closeAllLegal (stop extra : Nat) (s : State) : State :=
  (List.range 4).foldl (fun a n => closeLegal n stop extra 0 a)
    { s with lgl.ring := s.lgl.ring.filter (fun r => match r with
      | .sessionClose _ _ => false
      | _ => true) }

/-! ### Saves (R357, R383) -/

/-- A save record: KIND 1 periodic, 2 emergency (R383). -/
def saveRecord (kind : Nat) (s : State) : List Nat :=
  let wide := ((List.range 40).map fun a => leBytes 12 (wideAcc s a)).flatten
  let regs := ((List.range 32).map fun r => leBytes 8 (get s.lgl.treg r)).flatten
  let ist := leBytes 8 s.lgl.iseq ++ leBytes 8 s.lgl.iStart ++ [s.lgl.tariff] ++ leBytes 2 s.lgl.iFlags ++ List.replicate 13 0
  let opens := ((List.range 4).map fun n => match get s.lgl.sess n with
    | some x => fit 860 (sessBody n 0 0 0 (readings s n) x s)
    | none => List.replicate 860 0).flatten
  withCrc (recHeader 5 4288 (recFlags false false s) s.lgl.lseq (legalMs s) s ++ [kind, 0, 0, 0] ++ leBytes 4 s.mtr.latchSeq
    ++ wide ++ regs ++ ist ++ opens ++ leBytes 4 0)

/-- The emergency save is written to its slot (R357). -/
def emergencySave (s : State) : State :=
  writeLogHeader { s with mem := memWriteBytes s.mem 0x90015000 (saveRecord 2 s), lgl.emgAt := some (devTime s),
                          mtr.saveAt := devTime s, lgl.emgDue := false }

/-- A periodic save is written to the slots alternately (R374). -/
def periodicSave (s : State) : State :=
  let k := 1 - s.lgl.saveSlot
  writeLogHeader { s with mem := memWriteBytes s.mem (0x90011000 + 0x2000 * k) (saveRecord 1 s), lgl.saveSlot := k,
                          lgl.perAt := some (devTime s), mtr.saveAt := devTime s, lgl.hiP := Vector.replicate 4 0 }

/-- A request joins the ring, or waits for a slot of it (R367). -/
def lglRequest (r : LglReq) (s : State) : State := { s with lgl.ring := s.lgl.ring ++ [r] }

/-! ### Legal-ready (R368) -/

/-- The rows of R368 that fail, row r in bit r - 1. -/
def notReadyRows (s : State) : Nat :=
  let dcBad := (List.range 4).any fun n => rdb s baseMTR (12 + n) && (get s.mtr.dc n).fault
  let acBad := (List.range 2).any fun k => rdb s baseMTR (16 + k) && (get s.mtr.ac k).fault
  packBits [(0, b2n (!s.lgl.startup)), (1, b2n s.lgl.copy.isNone), (2, b2n (dcBad || acBad)), (3, b2n s.lgl.sealOpen),
    (4, b2n (!(get s.key.slots 8).filled)), (5, b2n (s.lgl.logErr || s.lgl.logFull)), (6, b2n s.lgl.restarting),
    (7, b2n s.lgl.stalled)]

/-- A copy of the legal parameter set is valid: MAGIC, VER and CRC (R374, R386). -/
def paramCopyOk (s : State) (c : Nat) : Bool :=
  let base := 0x90001000 + 0x8000 * c
  memRead s.mem base 2 == 0x7EA8 && memRead s.mem (base + 2) 1 == 1
    && memRead s.mem (base + 3452) 4 == crc32 (memBytes s.mem base 3452)

/-- Legal-ready is published or withdrawn as R368 says. -/
def legalUpdate (s : State) : State :=
  let ok := notReadyRows s == 0
  if s.lgl.ready && !ok then publish 0x16 1 0 { s with lgl.ready := false }
  else { s with lgl.ready := ok }

end Sys2Proof.Machine
end

