-- ==== Sys2Proof/Machine/Switch.lean ====
section
/-! DEFINITION. Driving loads (11): when a load-switch channel is on, the coils of the MXP chain, and the contactors that
both drive (R199, R272 to R289), with what the keeper holds (R49, R51). -/

namespace Sys2Proof.Machine

/-! ### Load-switch channels -/

/-- Address of LSW_CHn_CFG. -/
def lswCfgAddr (n : Nat) : Nat := baseLSW + 0x100 + 16 * n

/-- MODE of a channel: 0 UNUSED, 1 SWITCH, 2 PULSE, 3 CTR. -/
def lswMode (s : State) (n : Nat) : Nat := rdf s (lswCfgAddr n) 0 2

/-- OWNER of a channel. -/
def lswOwner (s : State) (n : Nat) : Nat := rdf s (lswCfgAddr n) 2 3

/-- PGEN of a channel. -/
def lswPgen (s : State) (n : Nat) : Nat := rdf s (lswCfgAddr n) 5 3

/-- HTR of a channel: hold through reset. -/
def lswHtr (s : State) (n : Nat) : Bool := rdb s (lswCfgAddr n) 8

/-- The channel is a contactor-class channel (R284). -/
def lswCtr (s : State) (n : Nat) : Bool := lswMode s n == 3

/-- The bank of a channel (R272). -/
def lswBank (n : Nat) : Nat := if n < 24 then n / 6 else (n - 24) / 2

/-- Channel `n`. -/
def lch (s : State) (n : Nat) : LswCh := get s.lsw.ch n

/-- Channel `n` changed. -/
def setCh (n : Nat) (f : LswCh → LswCh) (s : State) : State := { s with lsw.ch := upd s.lsw.ch n f }

/-- The channel may be on (R273, R277, R280, R285): its bank is good, nothing latches or locks it, this device is not a
standby, and the keeper does not hold it off: after a hold (R51), with PS_OFF (R524), under EXTEST (R531). -/
def mayTurnOn (s : State) (n : Nat) : Bool :=
  let c := lch s n
  lswMode s n != 0 && get s.lsw.good (lswBank n) && !get s.lsw.uv (lswBank n) && !c.thermal && !c.clampLock
    && !c.retrySpent && c.retryFrom.isNone && s.sys.mode != .m7
    && !(lswCtr s n && (s.keeper.closeBlocked || s.keeper.hold || s.sys.psOff)) && s.dbg.ir != 3

/-- The output turns on: a CTR channel starts its pickup (R284). -/
def turnOn (n : Nat) (s : State) : State := setCh n (fun c => { c with on := true, pickup := lswCtr s n }) s

/-- The output turns off. -/
def turnOff (n : Nat) (s : State) : State := setCh n (fun c => { c with on := false, pickup := false, limiting := false }) s

/-- The commanded states of the HTR channels are kept in the retention half (R52). -/
def keepHtr (n : Nat) (v : Bool) (s : State) : State :=
  if lswHtr s n then
    (let l := s.ret.htrOn.filter (· != n)
     { s with ret.htrOn := if v then l ++ [n] else l })
  else s

/-- A LOAD_STATE record (R464): the channels commanded on, the pickups done, the MXP channels on and economised, and the
pilot duties. -/
def loadStateRec (s : State) : List Nat :=
  [0, 0, 0] ++ leBytes 4 (maskOf (s.lsw.ch.toList.map (·.cmd)))
    ++ leBytes 4 (maskOf ((List.range 32).map fun n => lswCtr s n && (lch s n).on && !(lch s n).pickup))
    ++ leBytes 8 (maskOf s.lsw.mOn.toList) ++ leBytes 8 (maskOf s.lsw.mEco.toList)
    ++ (s.vcl.port.toList.map fun p => leBytes 2 p.duty).flatten

/-- The active of a pair sends LOAD_STATE at each change (R464). -/
def mirrorLoad (before s : State) : State :=
  if s.dpx.role == 1 && loadStateRec before != loadStateRec s then mirrorSend 0x33 (loadStateRec s) s else s

/-- A channel's owner commands it on or off (R274, R277, R280): off cancels a pending restart and keeps the count; a
locked channel ignores a turn-on command, and so does a contactor channel that the keeper has frozen (R51) or that PS_OFF
holds off (R524). -/
def lswDrive (n : Nat) (v : Bool) (s : State) : State :=
  mirrorLoad s <|
  if v then
    (if (lch s n).clampLock || lswCtr s n && (s.keeper.closeBlocked || s.sys.psOff) then s
     else
      let s1 := setCh n (fun c => { c with cmd := true }) (keepHtr n true s)
      if mayTurnOn s1 n && !(lch s1 n).on then turnOn n s1 else s1)
  else
    let s1 := setCh n (fun c => { c with cmd := false, retryFrom := none }) (keepHtr n false s)
    if s.keeper.hold && s.keeper.heldCtr.contains n then s1 else turnOff n s1

/-! ### The MXP chain -/

/-- The MXP channel that drives matrix position (g, n) (log entry 30). -/
def mxpOf (s : State) (g n : Nat) : Nat := param s pMTX_MXP_BASE 0 + 4 * g + n

/-- An MXP channel is commanded: a rise starts at full coil current (R289). -/
def mxpDrive (k : Nat) (v : Bool) (s : State) : State :=
  if v && (s.keeper.closeBlocked || s.sys.psOff) then s
  else
    let rise := v && !get s.lsw.mOn k
    mirrorLoad s
      { s with
          lsw.mOn := upd s.lsw.mOn k fun _ => v,
          lsw.mEco := upd s.lsw.mEco k fun e => e && v && !rise,
          lsw.coilMiss := upd s.lsw.coilMiss k fun _ => 0 }

/-! ### Contactors (R199, R200) -/

/-- Address of PWM_PGn_CFG; DT, LIM, U, DUTY, STAT and MTX follow at 4 bytes each. -/
def pgAddr (g : Nat) : Nat := basePWM + 0x400 + 0x40 * g

/-- Address of PWM_OPn_CTR. -/
def opCtrAddr (n : Nat) : Nat := basePWM + 0xD00 + 4 * n

/-- The matrix position is fitted (PWM_PGn_MTX.PRESENT). -/
def mtxPresent (s : State) (g n : Nat) : Bool := rdb s (pgAddr g + 0x18) (8 + n)

/-- The output contactor's readback is wired (PWM_OPn_CTR.FB_PRESENT). -/
def ctrHasFb (s : State) (n : Nat) : Bool := rdb s (opCtrAddr n) 2

/-- Group `g`. -/
def pgr (s : State) (g : Nat) : PwmPg := get s.pwm.pg g

/-- Output `n`. -/
def pout (s : State) (n : Nat) : PwmOut := get s.pwm.out n

/-- Group `g` changed. -/
def setPg (g : Nat) (f : PwmPg → PwmPg) (s : State) : State := { s with pwm.pg := upd s.pwm.pg g f }

/-- Output `n` changed. -/
def setOut (n : Nat) (f : PwmOut → PwmOut) (s : State) : State := { s with pwm.out := upd s.pwm.out n f }

/-- A matrix contactor is commanded over its MXP channel. -/
def mtxDrive (g n : Nat) (v : Bool) (s : State) : State :=
  mxpDrive (mxpOf s g n) v (setPg g (fun p => { p with mtxCmd := upd p.mtxCmd n fun _ => v }) s)

/-- An output contactor is commanded over its two load-switch channels, one per pole. -/
def ctrDrive (n : Nat) (v : Bool) (s : State) : State :=
  lswDrive (rdf s (opCtrAddr n) 16 5) v (lswDrive (rdf s (opCtrAddr n) 8 5) v (setOut n (fun o => { o with ctrCmd := v }) s))

/-- The groups whose matrix contactor toward `n` reads closed: those that carry the output. -/
def carrying (s : State) (n : Nat) : List Nat := (List.range 6).filter (fun g => get (pgr s g).mtxFb n)

/-- The output whose position of group `g` reads closed or is commanded closed. -/
def connectedTo (s : State) (g : Nat) : Option Nat :=
  (List.range 4).find? (fun n => get (pgr s g).mtxFb n || get (pgr s g).mtxCmd n)

end Sys2Proof.Machine
end

