-- ==== Sys2Proof/Machine/Target.lean ====
section
/-! DEFINITION. The request-to-duty chain (R16, R17): the node record, the effective grant, its split into P_aux, float
and allowances, and each output's current target. Every block that changes I_req, I_cap or the grant calls it. -/

namespace Sys2Proof.Machine

/-! ### The node record (R153) -/

def nPARENT : Fld := ⟨0, 2⟩
def nFENMULT : Fld := ⟨2, 1⟩
def nFLOATPCT : Fld := ⟨3, 1⟩
def nLIMIT : Fld := ⟨4, 4⟩
def nFLOOR : Fld := ⟨8, 4⟩
def nRAMP : Fld := ⟨12, 2⟩
def nVEHCLASS : Fld := ⟨16, 4⟩
def nGRANT : Fld := ⟨20, 4⟩
def nINC : Fld := ⟨24, 4⟩
def nLEASEEND : Fld := ⟨28, 4⟩
def nEFFECTIVE : Fld := ⟨32, 4⟩
def nLAPSEROUND : Fld := ⟨36, 4⟩

/-- A field of the node record. -/
def nd (s : State) (f : Fld) : Nat := ramGet s 0x50100000 f

/-- The node record with a field written. -/
def ndPut (f : Fld) (v : Nat) (s : State) : State := ramPut s 0x50100000 f v

/-- The effective grant (R119, R133): FLOOR before the first grant; the grant in force; or the ramp after a lapse,
RAMP_DOWN being in kW/ms, which is W/µs. -/
def effectiveGrant (s : State) : Nat :=
  if s.slc.ramping then max (nd s nFLOOR) (s.slc.rampBase - nd s nRAMP * ((s.now - s.slc.rampFrom) / 1000))
  else if s.slc.joined then nd s nGRANT
  else nd s nFLOOR

/-- The node record's 256 bytes as it is read: EFFECTIVE is the effective grant at the moment (R119, R153). -/
def nodeBytes (s : State) : List Nat :=
  memBytes s.mem 0x50100000 32 ++ leBytes 4 (effectiveGrant s) ++ memBytes s.mem 0x50100024 220

/-- The node is the standby of a pair: only the active device sends or answers Sluice traffic (R20). -/
def standbyNode (s : State) : Bool := s.dpx.role == 2 || s.sys.mode == .m7

/-! ### The outputs' demand (R123) -/

/-- I_rated of an output, mA (01, the chain's table). -/
def iRated (s : State) (n : Nat) : Nat :=
  min 3000000 (param s (match n with
    | 0 => pI_RATED_0
    | 1 => pI_RATED_1
    | 2 => pI_RATED_2
    | _ => pI_RATED_3) 0)

/-- Output `n` of the chain. -/
def sop (s : State) (n : Nat) : SlcOp := get s.slc.op n

/-- An output's voltage for R16, mV: at least 150 V. -/
def chainVolt (s : State) (n : Nat) : Nat := max (get s.pwm.out n).vout.toNat 150000

/-- The output is energised. -/
def energised (s : State) (n : Nat) : Bool := (get s.pwm.out n).energised

/-- Power of a current at a voltage, W, from mA and mV. -/
def powerW (ma mv : Nat) : Nat := ma * mv / 1000000

/-- An energised output's demand (R123): V_out × min(I_req, I_cap, I_rated), W. -/
def outDemand (s : State) (n : Nat) : Nat :=
  if energised s n then powerW (min (sop s n).ireq (min (sop s n).icap (iRated s n))) (get s.pwm.out n).vout.toNat else 0

/-- The class of an output's demand (R123): 1 on emergency credit, else the class set by command, else VEH_CLASS. -/
def outClass (s : State) (n : Nat) : Nat :=
  if (sop s n).emergency then 1
  else ((sop s n).cls).getD (ramGet s 0x50100000 ⟨nVEHCLASS.ofs + n, 1⟩)

/-- Float drawn by all outputs, W. -/
def floatDrawnAll (s : State) : Nat := (s.slc.op.toList.map (·.floatDrawn)).foldl (· + ·) 0

/-! ### Targets (R16) and what a change of target does at once (R169, R171) -/

/-- The shares of an output's groups are scaled in proportion to its target (R169). -/
def scaleShares (n old new : Nat) (s : State) : State :=
  if old = 0 then s
  else { s with slc.pg := updAll s.slc.pg fun _ g => if g.output == some n then { g with share := g.share * new / old } else g }

/-- A pending shed is aborted (R171): discarded, SHED_ABORT raised, the hold-off started. -/
def abortShed (n : Nat) (s : State) : State :=
  fireEvent 77 { s with slc.op := upd s.slc.op n fun o => { o with shed := none, holdoff := true },
                        slc.aborts := (s.slc.aborts + 1) % 65536 }

/-- Address of an efficiency map bank (R166). -/
def mapBase (bank : Nat) : Nat := 0x50101000 + 0x800 * bank

/-- SHED_BAND of the bank in use, % (R166). -/
def shedBand (s : State) : Nat := ramGet s (mapBase s.slc.bank) ⟨7, 1⟩

/-- A pending shed is checked against SHED_BAND at every recomputation of the target (R171). -/
def checkShed (n : Nat) (s : State) : State :=
  match (sop s n).shed with
  | none => s
  | some (_, at0, _) =>
    let i := (sop s n).itgt
    let d := if i < at0 then at0 - i else i - at0
    if at0 * shedBand s < d * 100 then abortShed n s else s

/-- The float an output draws beyond its allowance: what it asks for, up to what remains of the float (R16). -/
def drawFloat (n : Nat) (s : State) : State :=
  let o := sop s n
  let ask := outDemand s n - o.palw
  let rest := s.slc.float - floatDrawnAll s
  { s with slc.op := upd s.slc.op n fun o => { o with floatDrawn := max o.floatDrawn (min ask (o.floatDrawn + rest)) } }

/-- An output's power limit as a current, mA (R16). -/
def iPwr (s : State) (n : Nat) : Nat := ((sop s n).palw + (sop s n).floatDrawn) * 1000000 / chainVolt s n

/-- I_tgt of an energised output (R16). -/
def targetOf (s : State) (n : Nat) : Nat :=
  min (min (sop s n).ireq (sop s n).icap) (min (iRated s n) (iPwr s n))

/-- One output's target is recomputed (R16); its shares scale and a pending shed is checked. -/
def recompute (n : Nat) (s : State) : State :=
  if !energised s n then { s with slc.op := upd s.slc.op n fun o => { o with itgt := 0 } }
  else
    let s1 := drawFloat n s
    let old := (sop s1 n).itgt
    let new := targetOf s1 n
    let s2 := { s1 with slc.op := upd s1.slc.op n fun o => { o with itgt := new } }
    checkShed n (scaleShares n old new s2)

/-- Every output's target is recomputed, in output order. -/
def recomputeAll (s : State) : State := (List.range 4).foldl (fun a n => recompute n a) s

/-- The grant is split (R16, R132): P_aux first, the float held back, the rest to the outputs in proportion to their
demands; the float drawn is returned, and the maximum power reported to a vehicle is renewed (R309); then the targets. -/
def splitGrant (s : State) : State :=
  let eff := effectiveGrant s
  let s0 := ndPut nEFFECTIVE eff s
  let afterAux := eff - s0.slc.paux
  let float := min afterAux (eff * nd s0 nFLOATPCT / 100)
  let free := afterAux - float
  let total := ((List.range 4).map (outDemand s0)).foldl (· + ·) 0
  let op := updAll s0.slc.op fun n o =>
    let p := if total = 0 then 0 else free * outDemand s0 n / total
    { o with palw := p, pmax := p + float, floatDrawn := 0 }
  recomputeAll { s0 with slc.op := op, slc.float := float }

/-- While the effective grant falls after a lapse, the allowances follow it at each sample and tick (R17, R119, R133). -/
def resplit (s : State) : State := if s.slc.ramping then splitGrant s else s

/-- The vehicle's request changes: the targets follow within 20 µs (R16). -/
def postRequest (n ma : Nat) (s : State) : State :=
  recompute n { s with slc.op := upd s.slc.op n fun o => { o with ireq := ma } }

/-- The cable's cap changes: the targets follow within 20 µs (R16). -/
def postCap (n ma : Nat) (s : State) : State :=
  recompute n { s with slc.op := upd s.slc.op n fun o => { o with icap := ma } }

end Sys2Proof.Machine
end

