-- ==== Sys2Proof/Machine/Stop.lean ====
section
/-! DEFINITION. Stopping what drives energy: legs and GATE_EN, the opening of contactors (R203), the end of sessions
(R306, R311), and the keeper's part and the domains of a reset (R45, R49 to R52, R275). -/

namespace Sys2Proof.Machine

/-! ### Legs -/

/-- A latched leg is off until PWR_FAULT_CLEAR (R193, R194). -/
def LegState.latched : LegState → Bool
  | .ocLatched | .gateFault => true
  | _ => false

/-- The leg's output stage is driven, or will be from its start point on. -/
def LegState.running : LegState → Bool
  | .switching | .waiting | .limited | .hsOnly | .crowbar => true
  | _ => false

/-- Leg `k` changed. -/
def setLeg (k : Nat) (f : Leg → Leg) (s : State) : State := { s with pwm.leg := upd s.pwm.leg k f }

/-- Leg `k`. -/
def legOf (s : State) (k : Nat) : Leg := get s.pwm.leg k

/-- A leg off at once, its sharing trims cleared (R190); a latch stays. -/
def Leg.offNow (l : Leg) : Leg :=
  { l with st := if l.st.latched then l.st else .off, stopDue := false, startAt := none, stretch := none,
           moving := false, limitedNow := false, trimReq := 0, trimPrev := 0, trimApplied := 0, cmp := 0 }

/-- CTRL of loop slot `i` (R245). -/
def slotCtrl (s : State) (i : Nat) : Nat := memRead s.mem (0x58000000 + 64 * i) 4

/-- The leg whose TRIM_REQ loop slot `i` writes: the slot is its sharing loop (R189, R233). -/
def sharingLeg (s : State) (i : Nat) : Option Nat :=
  let d := memRead s.mem (0x58000000 + 64 * i + 32) 2
  if bit (slotCtrl s i) 0 && d / 256 == 2 then some (d % 256) else none

/-- The sharing loops of the legs that `f` names are to be cleared: the legs have stopped (R190). -/
def clearSharing (f : Nat → Bool) (s : State) : State :=
  { s with lpe.slot := updAll s.lpe.slot fun i x => { x with clearDue := x.clearDue || (sharingLeg s i).any f } }

/-- Every leg of group `g` off at once. -/
def groupLegsOff (g : Nat) (s : State) : State :=
  clearSharing (fun k => k / 6 == g)
    { s with pwm.leg := updAll s.pwm.leg fun k l => if k / 6 == g then l.offNow else l }

/-- Every running leg of group `g` turns off at its next valley (R203 step 2). -/
def groupLegsStop (g : Nat) (s : State) : State :=
  { s with pwm.leg := updAll s.pwm.leg fun k l => if k / 6 == g && l.st.running then { l with stopDue := true } else l }

/-- A group carries nothing and no leg of it is placed. -/
def emptyGroup (g : Nat) (s : State) : State :=
  { s with slc.pg := upd s.slc.pg g fun p => { p with legsTarget := 0, mask := Vector.replicate 6 false, share := 0 } }

/-- A tracking of the group ends without a failure. -/
def endTrk (p : PwmPg) : PwmPg :=
  if p.trk != .none then { p with trk := .none, inTol := false, closeCmd := false } else p

/-- A tracking of group `g` ends without a failure; a close that is pending is commanded open (R225). -/
def cancelTracking (g : Nat) (s : State) : State :=
  let p := pgr s g
  let s1 := setPg g endTrk { s with slc.pg := upd s.slc.pg g fun q => { q with joinTo := none } }
  if p.trk != .none && p.closeCmd then
    match p.trk with
    | .coinOut => ctrDrive p.trkOut false s1
    | .coinBus => mtxDrive g p.trkOut false s1
    | _ => s1
  else s1

/-- GATE_EN falls: the pins are low at once, and the legs' states run on (R198, R201). -/
def gateLow (s : State) : State :=
  { s with keeper.gateEn := false, pwm.gateReq := false, pwm.pg := updAll s.pwm.pg fun _ p => { p with pinsHeld := true } }

/-- GATE_EN falls on leaving the run modes: nothing is placed, so that each group's legs leave at its next valley, and
tracking ends (R12, R40, R198, R225). -/
def dropGate (s : State) : State :=
  if s.keeper.gateEn || s.pwm.gateReq then
    let s1 := (List.range 6).foldl (fun a g => cancelTracking g a) (gateLow s)
    { s1 with
      pwm.pg := updAll s1.pwm.pg fun _ p => { p with setChanged := true },
      slc.pg := updAll s1.slc.pg fun _ p => { p with legsTarget := 0, mask := Vector.replicate 6 false, share := 0 } }
  else s

/-- The member's claim stream stops (R459). -/
def stopClaim (s : State) : State :=
  if s.dpx.claiming then emit { s with dpx.claiming := false, dpx.claim := 0 } .claimFrame 0 [0] else s

/-! ### Contactors -/

/-- No output is energised. -/
def noneEnergised (s : State) : Bool := (List.range 4).all fun n => !energised s n

/-- Connector type of a port (VCL_Pn_CFG.CONN). -/
def connType (s : State) (n : Nat) : Nat := rdf s (baseVCL + 0x100 + 0x40 * n) 0 3

/-- The port's pilot is at steady +12 V where nothing else is set: types 1 and 2, in service (R300, R306). -/
def idleDuty (s : State) (n : Nat) : Nat :=
  if (connType s n == 1 || connType s n == 2) && !(get s.vcl.port n).disabled then 1000 else 0

/-- A session state in which nothing of a session goes on. -/
def sessOver (st : Nat) : Bool := st == 0 || st == 11 || st == 15

/-! ### The life counters of a cable (R264 to R266) -/

/-- The value of counter `k` in a counter block. -/
def ctrVal (ctr : List Nat) (k : Nat) : Nat := entryField ctr (4 * k) 4

/-- Whole increments that are pending. -/
def wholePend (o : CblOp) (k : Nat) : Nat := (get o.pend k).floor.toNat

/-- The pending increments are copied to the retention half (R266). -/
def CblOp.keep (o : CblOp) : CblOp := { o with keptPend := o.pend, keptSerial := o.serial, keptExpect := o.expect }

/-- The same of every output: every 1 s, and at a power warning (R266). -/
def keepPending (s : State) : State := { s with cbl.op := updAll s.cbl.op fun _ o => o.keep }

/-- A command goes to the identity chip of cable `n`: its code and parameters, and their CRC-8 (R252). -/
def chipSend (n : Nat) (bytes : List Nat) (s : State) : State :=
  emit s .cableChip n ((bytes ++ [crc8 bytes]).map fun b => (b : Int))

/-- The life counters are to be written (R265): ADD_CTR for each whole increment of an authenticated cable, once the value it is
expected to replace stands in the retention half (R266). The standby of a pair drives no chip (R267). -/
def lifeBegin (n : Nat) (s : State) : State :=
  let o := get s.cbl.op n
  if s.dpx.role == 2 then s
  else if !o.auth then { s with cbl.op := upd s.cbl.op n fun x => { x with lifeDue := true } }
  else
    let o1 := { o with lifeDue := true,
                       expect := updAll o.expect fun k e => if wholePend o k = 0 then e else some (ctrVal o.ctr k, wholePend o k) }
    ((List.range 4).filter fun k => 0 < wholePend o k).foldl (fun a k => chipSend n ([4, k] ++ leBytes 4 (wholePend o k)) a)
      { s with cbl.op := upd s.cbl.op n fun _ => o1.keep }

/-- A port's session enters a state (R306): SESS_STATE fires; a session that has reached CABLE_CHECK is passed to the
legal pair for closing when it enters WELD_CHECK, UNLOCK or FAULT (R379); the cable's life counters are written after its
end (R265); IDLE has the pilot at +12 V and no session. -/
def sessEnter (n st : Nat) (s : State) : State :=
  let p := get s.vcl.port n
  let s1 := fireEvent (288 + 8 * n + 3) { s with vcl.port := upd s.vcl.port n fun q =>
    if st == 0 then
      { q.withDuty s.now (idleDuty s n) with
        sess := 0, slac := 0, slacTries := 0, tls := false, proto := 0, authorised := false,
                 discharging := false, iReq := 0, desync := false }
    else { q with sess := st } }
  let s2 := if sessOver st && !sessOver p.sess then lifeBegin n s1 else s1
  if 5 ≤ p.sess && p.sess ≤ 8 && (st == 9 || st == 10 || st == 15) then lglRequest (.sessionClose n p.reason) s2 else s2

/-- A session's last state: IDLE where proximity reads NONE, FAULT where an error of the port stopped it, else ENDED
(R303, R306). -/
def sessLast (p : Port) : Nat := if p.meaning == 0 then 0 else if p.portErr then 15 else 11

/-- An unlocked session, or one whose lock is released, ends (R306, R312). -/
def sessUnlockOrEnd (n : Nat) (s : State) : State :=
  let p := get s.vcl.port n
  if p.locked then sessEnter n 10 s else sessEnter n (sessLast p) s

/-- The output's contactor is open: the output is no longer energised, its target is 0, and a stopping session goes on
to the weld check (R306). -/
def ctrOpened (n : Nat) (s : State) : State :=
  let s1 := setOut n (fun o => { o with energised := false, opening := false, ctrFb := false, iref := 0, slewing := false }) s
  let s2 := recompute n s1
  if (get s2.vcl.port n).sess == 8 then sessEnter n 9 s2 else s2

/-- An output contactor is commanded open; one without a readback counts as open from then on, and its weld test is due
after T_OPEN (R202, R214 step 6, log entry 31). -/
def openOut (n : Nat) (s : State) : State :=
  let s1 := ctrDrive n false (setOut n (fun o => { o with opening := false }) s)
  if ctrHasFb s n then s1
  else
    let s2 := ctrOpened n s1
    setOut n (fun o => { o with ins := .opening }) (if (pout s n).ctrFb then fireEvent (146 + n) s2 else s2)

/-- Groups behind a contactor (R203). -/
def behind (s : State) : CtrRef → List Nat
  | .mtx g _ => [g]
  | .out n => carrying s n

/-- Tracking toward output `n`, and an insulation check or weld test of it, end: the legs that ran for it stop at their next
valley. -/
def endTracking (n : Nat) (s : State) : State :=
  let gs := (List.range 6).filter fun g => ((pgr s g).trk != .none && (pgr s g).trkOut == n)
    || ((pout s n).weldTest && (pout s n).insGroup == g)
  gs.foldl (fun a g => groupLegsStop g (cancelTracking g a)) (setOut n (fun o => { o with ins := .idle, weldTest := false }) s)

/-- A contactor begins to open under R203: the current targets of the groups behind it ramp to 0, and their legs stop once
the ramp has ended (`OUTPUT_LOOP_SAMPLE`). An output contactor that is not commanded closed counts as open. -/
def startOpening (c : CtrRef) (s : State) : State :=
  match c with
  | .mtx g n => setPg g (fun p => { p with opening := some n, rampShare := false }) s
  | .out n =>
    let s1 := endTracking n s
    if (pout s n).ctrCmd then setOut n (fun o => { o with opening := true }) s1 else ctrOpened n s1

/-! ### Sessions -/

/-- The port's link to the vehicle stands: the match of the modem, the 10BASE-T1S link, or the CAN bus (R296). -/
def linkStands (s : State) (n : Nat) : Bool :=
  let p := get s.vcl.port n
  match connType s n with
  | 1 => p.slac == 2
  | 2 => get s.own.t1sUp n
  | 3 | 4 => !p.busoff
  | _ => false

/-- The vehicle is told of the stop where the link still stands (R311). -/
def tellStop (n : Nat) (s : State) : State :=
  if linkStands s n then emit s .stopNotice n [((get s.vcl.port n).reason : Int)] else s

/-- The stop of a port's session (R306, R311): the first reason recorded stands, and the vehicle is told; a session not yet
energised goes to UNLOCK or ENDED, any other to STOPPING, and its output opens under R203. -/
def stopSession (n reason : Nat) (portErr : Bool) (s : State) : State :=
  let p := get s.vcl.port n
  if 2 ≤ p.sess && p.sess ≤ 8 then
    let s1 := if p.reason == 0 then
        fireEvent (288 + 8 * n + 5) { s with vcl.port := upd s.vcl.port n fun q =>
          { q with reason := reason, portErr := portErr } } |> tellStop n
      else s
    if p.sess == 8 then s1
    else
      let s2 := { s1 with vcl.port := upd s1.vcl.port n fun q =>
        { q with iReq := 0, discharging := false, capZero := none, relay := 0, relayBody := [] } }
      if p.sess ≤ 4 then sessUnlockOrEnd n (postRequest n 0 s2)
      else startOpening (.out n) (sessEnter n 8 (postRequest n 0 s2))
  else s

/-- Every running session stops with one reason. -/
def stopAllSessions (reason : Nat) (s : State) : State :=
  (List.range 4).foldl (fun a n => stopSession n reason false a) s

/-- The states of the sessions (R56 step 5). -/
def sessionStates (s : State) : List Nat := s.vcl.port.toList.map (·.sess)

/-- Entry to M8 (R40, R203): every leg is off, sessions stop with reason 9, output contactors open, and so does a
contactor whose opening runs. -/
def enterSafeHold (s : State) : State :=
  let s1 := dropGate (stopAllSessions 9 s)
  let s2 := (List.range 4).foldl (fun a n => if (pout a n).ctrCmd || (pout a n).ctrFb then openOut n a else a) s1
  (List.range 6).foldl (fun a g => match (pgr a g).opening with
    | some n => mtxDrive g n false (setPg g (fun p => { p with opening := none }) a)
    | none => a) s2

/-! ### Resets -/

/-- The channel is the keeper's on a reset: contactor class, or hold-through-reset (R275). -/
def keeperOwns (s : State) (n : Nat) : Bool := lswMode s n != 0 && (lswCtr s n || lswHtr s n)

/-- The keeper's sequence at a reset (R49, R51, R275): GATE_EN low; the contactor-class channels frozen on at the
economised current and the last MXP frame repeated for the hold, which a running one outlasts; the hold-through-reset
channels held on. -/
def keeperReset (s : State) : State :=
  let on := fun (f : Nat → Bool) => (List.range 32).filter fun n => (lch s n).on && f n
  let htr := if s.keeper.htrHold then s.keeper.heldHtr else on (fun n => lswHtr s n && !lswCtr s n)
  let s1 := gateLow s
  if s.keeper.hold then { s1 with keeper := { s1.keeper with closeBlocked := true, htrHold := true, heldHtr := htr } }
  else if s.keeper.gateEn then
    { s1 with keeper := { s1.keeper with
        hold := true, closeBlocked := true, htrHold := true, mxpIdle := false, mxpOn := s.lsw.mOn,
        heldCtr := on (lswCtr s), heldHtr := htr } }
  else
    { s1 with keeper := { s1.keeper with
        closeBlocked := true, heldCtr := [], htrHold := true, mxpOn := Vector.replicate 64 false, heldHtr := htr } }

/-- Addresses whose contents outlive a reset of the control die: retention SRAM, the two storage windows, while the power die
has a supply the configuration of its channels and generators, which run on (R49, R282), and, where the legal pair and the
mixed-signal die keep running, their registers, export area and SRAM (R28, R29, R45). -/
def survives (keepLegal supplied : Bool) (a : Nat) : Bool :=
  (0x0F000000 ≤ a && a < 0x0F040000) || 0x80000000 ≤ a || (supplied && baseLSW ≤ a && a < baseLSW + 0x10000)
    || (keepLegal && ((0x40100000 ≤ a && a < 0x40110000) || (0x20900000 ≤ a && a < 0x20910000)
        || (0x60000000 ≤ a && a < 0x60400000)))

/-- A cable's state after a reset: the retention half gives its pending increments back (R266). -/
def resetCable (o : CblOp) : CblOp :=
  { pend := o.keptPend, serial := o.keptSerial, expect := o.keptExpect, keptPend := o.keptPend,
    keptSerial := o.keptSerial, keptExpect := o.keptExpect }

/-- An event open at a power warning or reset (R347, R348): written with CUT set, up to its last refresh. -/
def AcEvent.cutOff (e : AcEvent) (seq : Nat) : AcEvent :=
  { e with cut := true, duration := (e.lastAt - e.start) / 1000, seq := seq }

/-- The events open in a set go to the retention half (R348). -/
def MtrAc.cutEvents (a : MtrAc) : MtrAc :=
  let l := a.sag.toList ++ a.swell.toList
  { a with sag := none, swell := none, nextSeq := a.nextSeq + l.length,
             kept := a.kept ++ (l.zipIdx.map fun x => x.1.cutOff (a.nextSeq + x.2)) }

/-- The metering's retention half outlives a reset of its own registers (R348). -/
def resetMtr (m : Mtr) : Mtr :=
  { cal := m.cal, ac := updAll (Vector.replicate 2 {}) fun k _ =>
      let a := (get m.ac k).cutEvents
      { nextSeq := a.nextSeq, kept := a.kept } }

/-- The legal pair after a reset that reaches it: its retention half and what the Peat log holds stay; sessions are closed
at the restart (R376, R380). -/
def resetLgl (code : Nat) (l : Lgl) : Lgl :=
  { sealOpen := l.sealOpen, check := l.check, lastCheck := l.lastCheck, lBase := l.lBase, lAt := l.lAt, slews := l.slews,
    utcOfs := l.utcOfs, lseq := l.lseq, tail := l.tail, ringEnd := l.ringEnd, prev := l.prev, hgen := l.hgen,
    kept := l.kept, index := l.index, iseq := l.iseq, iStart := l.iStart, iFlags := l.iFlags, iWide := l.iWide,
    tariff := l.tariff, treg := l.treg, tWide := l.tWide, sess := l.sess, sessNo := l.sessNo, lastSess := l.lastSess,
    gen := l.gen, copy := l.copy, calSeq := l.calSeq, saveSlot := l.saveSlot, perAt := l.perAt, emgAt := l.emgAt,
    hiP := l.hiP, hiAt := l.hiAt, pfwAt := l.pfwAt, standby := l.standby,
    closeAtRestart := some code }

/-- The blocks after a reset of the control die (R45): those of the domains it resets are at their reset values. -/
def resetBlocks (keepLegal powerOn : Bool) (s : State) : State :=
  let held := fun n => s.keeper.heldCtr.contains n || s.keeper.heldHtr.contains n
  let s1 := stopClaim (if keepLegal then closeAllLegal 32 0 s else s)
  { s1 with
    mem := s1.mem.filter fun c => survives keepLegal (s.lsw.good.toList.any id) c.1,
    slc := {}, pwm := {}, lpe := {}, vcl := {}, can := {}, ozl := {}, fen := {},
    dpx := { lastClaim := s1.dpx.lastClaim },
    cbl := { op := updAll s1.cbl.op fun _ o => resetCable o },
    lsw := { good := s1.lsw.good, uv := s1.lsw.uv, duty := s1.lsw.duty, dutyNext := s1.lsw.dutyNext,
             dutyLast := s1.lsw.dutyLast, pgenAt := s1.lsw.pgenAt,
             ch := updAll (Vector.replicate 32 {}) fun n c => { c with on := held n, cmd := held n } },
    mtr := if keepLegal then s1.mtr else resetMtr s1.mtr,
    lgl := if keepLegal then { s1.lgl with prepay := Vector.replicate 4 none, windows := [], ring := [] }
           else resetLgl (if powerOn then 34 else 32) s1.lgl,
    key := { fProv := s1.key.fProv, fField := s1.key.fField, fReturn := s1.key.fReturn, fEnd := s1.key.fEnd,
             svcCnt := s1.key.svcCnt, vendor := s1.key.vendor, image := s1.key.image, wrapped := s1.key.wrapped, imgGen := s1.key.imgGen },
    tsu := { base := s1.tsu.base, baseAt := s1.tsu.baseAt, f := s1.tsu.f, aon := s1.tsu.aon, aonAt := s1.tsu.aonAt } }

end Sys2Proof.Machine
end

