-- ==== Sys2Proof/Machine/Modes.lean ====
section
/-! DEFINITION. The mode machine (R40 to R44), limitations, the resets (R45 to R52), and the handling of errors
(R64 to R67). Any meaning that detects an error raises it here. -/

namespace Sys2Proof.Machine

/-! ### Mode changes -/

/-- What leaving the run modes ends: sessions stop with reason 9 (R311). The modes a takeover, a relinquish or a freeze
leads to are not among them. -/
def leavesRun (old new : Mode) : Bool :=
  (old == .m4 || old == .m5 || old == .m6) && (new == .m3 || new == .m8 || new == .m9 || new == .m10)

/-- Entry to M4 (R51, R254, R438): the keeper takes close requests again, every cable is authenticated, and device time
no longer steps. -/
def enterM4 (s : State) : State :=
  { s with keeper.closeBlocked := false, keeper.mxpIdle := false, tsu.stepOk := false,
           cbl.op := updAll s.cbl.op fun _ o => { o with authRun := true } }

/-- Entry to M3 (R175, R310): P_exp returns to 0 W and the classes to VEH_CLASS. -/
def enterM3 (s : State) : State :=
  { s with vcl.port := updAll s.vcl.port fun _ p => { p with pExp := 0 },
           slc.op := updAll s.slc.op fun _ o => { o with cls := none, clsNext := none } }

/-- Leaving M9 discards a pending calibration set, and leaving M9 or M10 ends MTR_TP_SET's overrides (R350, R359). -/
def leaveTest (old : Mode) (s : State) : State :=
  if old == .m9 || old == .m10 then
    { s with mtr.calNew := if old == .m9 then none else s.mtr.calNew,
             mtr.tp := updAll s.mtr.tp fun _ p => { p with srcSet := none } }
  else s

/-- What a mode change does at once. -/
def modeHooks (old new : Mode) (s : State) : State :=
  let s1 := leaveTest old (if leavesRun old new then stopAllSessions 9 s else s)
  let s2 := if new == .m4 then enterM4 s1 else if new == .m3 then enterM3 s1 else s1
  let s3 := if new == .m3 || new == .m9 then s2 else dropRights s2
  if new == .m5 || new == .m6 then s3 else dropGate s3

/-- The device enters a mode: PREV_MODE, MODE_CHANGE, and a running SYS_MODE_SET that this ends or abandons (R42, R501,
R523). Every mode but M5 and M6 has GATE_EN low (R40). -/
def setMode (m : Mode) (s : State) : State :=
  let s3 := modeHooks s.sys.mode m (wideEvent s (fireEvent 0 { s with
    sys.prevMode := s.sys.mode, sys.mode := m, cfg.autoReady := s.cfg.autoReady && m == .m3 }))
  match s3.cfg.modeJob with
  | some (line, seq, target) =>
    if m.num == target then
      finishAccepted line seq { result := [0] } { s3 with cfg.modeJob := none }
    else finishAccepted line seq { status := stMode, detail := m.num } { s3 with cfg.modeJob := none }
  | none => s3

/-- A limitation begins to stand; M5 goes to M6 (R42). -/
def raiseLim (l : Lim) (s : State) : State :=
  let s1 := if s.sys.lims.contains l then s else { s with sys.lims := s.sys.lims ++ [l] }
  if s1.sys.mode == .m5 then setMode .m6 s1 else s1

/-- The legal partition is legal-ready, where the configuration enables it (R41, log entry 8). -/
def legalOk (s : State) : Bool := param s pLEGAL_ENABLE 0 == 0 || s.lgl.ready

/-- With no limitation left M6 goes to M5 (R42), which is entered only with legal-ready (R41): without it M6 stays until
`settleLgl` finds it. -/
def leaveM6 (s : State) : State :=
  if s.sys.mode == .m6 && s.sys.lims.isEmpty && legalOk s then setMode .m5 s else s

/-- A limitation ends; with the last one M6 goes to M5 (R42). -/
def clearLim (l : Lim) (s : State) : State := leaveM6 { s with sys.lims := s.sys.lims.filter (· != l) }

/-- A limitation stands or not as `v` says. -/
def setLim (l : Lim) (v : Bool) (s : State) : State := if v then raiseLim l s else clearLim l s

/-- Some cause of R44 other than COMMAND stands. -/
def m8Holds (s : State) : Bool :=
  s.sys.m8.safeError || s.sys.m8.powerWarn || s.sys.m8.legalLost || s.sys.m8.errqOvf

/-- The causes of R44. -/
inductive Cause where
  | command | safeError | powerWarn | legalLost | errqOvf
deriving DecidableEq, Repr

/-- SYS_M8_CAUSE with one bit set or cleared. -/
def M8Cause.put (c : M8Cause) (k : Cause) (v : Bool) : M8Cause :=
  match k with
  | .command => { c with command := v }
  | .safeError => { c with safeError := v }
  | .powerWarn => { c with powerWarn := v }
  | .legalLost => { c with legalLost := v }
  | .errqOvf => { c with errqOvf := v }

/-- The modes from which a cause of R44 takes the device to M8 (R42). -/
def canEnterM8 : Mode → Bool
  | .m4 | .m5 | .m6 | .m7 | .m9 => true
  | _ => false

/-- A cause of R44 arises: its bit is set, and the device enters M8 where the transition table has a path. -/
def setCause (k : Cause) (s : State) : State :=
  let s1 := { s with sys.m8 := s.sys.m8.put k true }
  if canEnterM8 s1.sys.mode then enterSafeHold (setMode .m8 s1) else s1

/-- A cause of R44 clears. -/
def clearCause (k : Cause) (s : State) : State := { s with sys.m8 := s.sys.m8.put k false }

/-! ### Error records (R67, R559) -/

/-- The SEQ after `q` (R559). -/
def seqAfter (q : Nat) : Nat :=
  let n := (q + 1) % 2 ^ 32
  if n % 65536 = 0 then n + 1 else n

/-- The record of an error. -/
def recordOf (k : ErrTask) (seq : Nat) (superseded : Bool) : ErrRec :=
  { seq := seq, time := k.time, code := k.code, subsys := k.subsys, cls := k.cls, escalated := k.escalated,
    superseded := superseded }

/-- An error's record is written, or, where the queue is full, counted (R67). -/
def writeRecord (k : ErrTask) (superseded : Bool) (s : State) : State :=
  if s.sys.errq.length < 32 then
    fireEvent 1 { s with sys.errq := s.sys.errq ++ [recordOf k s.sys.nextSeq superseded],
                         sys.nextSeq := seqAfter s.sys.nextSeq }
  else { s with sys.ovf := true, sys.ovfCnt := min 255 (s.sys.ovfCnt + 1) }

/-- A record still in the queue changed. -/
def markRecord (seq : Option Nat) (f : ErrRec → ErrRec) (s : State) : State :=
  match seq with
  | none => s
  | some q => { s with sys.errq := s.sys.errq.map (fun r => if r.seq == q then f r else r) }

/-- The supervisor's retention copy is written (R56, R67). -/
def saveRetention (s : State) : State :=
  { s with ret := { s.ret with errq := s.sys.errq, ovf := s.sys.ovf, ovfCnt := s.sys.ovfCnt, nextSeq := s.sys.nextSeq,
                               mode := s.sys.mode, sessions := sessionStates s } }

/-! ### Resets (R45 to R52) -/

/-- A power warning stands, on the control die or at the keeper (R56, R58). -/
def warned (s : State) : Bool := s.sys.powerWarn || s.keeper.pfwLow

/-- SYS_RST_CAUSE after a reset: overwritten, but a reset that arrives in M1 keeps OUTPUTS_ON, POWER_LOSS_RESTART and
HOLD_ACTIVE where the earlier one set them (R48). -/
def nextRst (s : State) (k : RstKind) (cold : Bool) : RstCause :=
  let old := s.sys.rst
  let inM1 := s.sys.mode == .m1
  { kind := k, cold := cold,
    outputsOn := s.keeper.gateEn || (inM1 && old.outputsOn),
    powerLossRestart := warned s || ((inM1 || s.sys.mode == .m0) && old.powerLossRestart),
    holdActive := inM1 && old.holdActive }

/-- The loss of retention SRAM at the last power-on still counts: its restore has not run (R48, R356). -/
def coldNow (s : State) : Bool := s.sys.rst.cold && !s.mtr.restored

/-- The commands to answer with DISCARDED_RESET after a reset (R87): those uncompleted now. -/
def priorOf (s : State) : List PriorRec :=
  s.mbx.cmds.map fun c => { line := c.line, port := c.port, seq := c.seq, tag := c.tag, opcode := c.opcode }

/-- Errors whose handling had not begun are written with SUPERSEDED before a reset (R559). -/
def flushWaiting (s : State) : State :=
  s.sys.waiting.foldl (fun a k => writeRecord k true a) { s with sys.waiting := [] }

/-- What survives of the event gatherer at a reset of the control die: the wake latches (R114, R115). -/
def resetEvg (e : Evg) : Evg :=
  { src := updAll e.src fun _ x => { latch := x.latch } }

/-- A reset of the control die (R45): the keeper's sequence where GATE_EN was high, the copies to retention, every
domain the kind resets, and M1. Kinds that keep the legal pair and MTR are escalation, watchdog and software. -/
def resetControl (k : RstKind) (cold : Bool) (s : State) : State :=
  let keepLegal := k == .escalation || k == .watchdog || k == .software
  let s0 := if s.sys.mode == .m0 then s else saveRetention (flushWaiting s)
  let rst := nextRst s0 k cold
  let down := s0.sys.mode == .m1 || s0.sys.mode == .m0
  let prior := if s0.sys.mode == .m0 then s0.mbx.prior else priorOf s0
  let s1 := keeperReset s0
  let s2 := resetBlocks keepLegal (k == .powerOn) s1
  { s2 with
    sys := { mode := .m1, prevMode := if down then s0.sys.prevMode else s0.sys.mode, rst := rst,
             boot := { s0.sys.boot with fail := false, failReason := 0 },
             errq := s0.ret.errq, ovf := s0.ret.ovf, ovfCnt := s0.ret.ovfCnt, nextSeq := s0.ret.nextSeq,
             nextErr := s0.sys.nextErr, accessCnt := 0, pinLow := s0.sys.pinLow, railsGood := s0.sys.railsGood,
             rootGood := s0.sys.rootGood, testEn := s0.sys.testEn, psOff := s0.sys.psOff, fwA := s0.sys.fwA,
             fwB := s0.sys.fwB, ident := s0.sys.ident },
    mbx := { prior := prior },
    own := { pcieUp := s0.own.pcieUp, ethUp := s0.own.ethUp, t1sUp := s0.own.t1sUp },
    evg := resetEvg s0.evg,
    cfg := { map := s0.cfg.map },
    dbg := { s0.dbg with resumable := false, resTime := 0, waitingFreeze := none, job := none, capHi := [] },
    keeper := { s2.keeper with hbLatch := s2.keeper.hbLatch || k == .heartbeat, hbCheck := true, freezeReq := false } }

/-! ### Errors (R64 to R66) -/

/-- SAFE_ERROR is re-evaluated (R44): an error stops holding it once its window has closed, its record has been read
and its condition no longer stands. -/
def evalSafe (s : State) : State :=
  let l := s.sys.safe.filter (fun x => !(x.windowClosed && x.isRead && x.cleared))
  let s1 := { s with sys.safe := l }
  if l.isEmpty then clearCause .safeError s1 else s1

/-- The condition an error named no longer stands (R44). -/
def errCleared (subsys code arg : Nat) (s : State) : State :=
  evalSafe { s with sys.safe := s.sys.safe.map fun x =>
    if x.subsys == subsys && x.code == code && x.arg == arg then { x with cleared := true } else x }

/-- The new action covers the error being handled: M8 or an escalation reset covers a limitation (R65 rule 3). -/
def covers (s : State) (eff : Nat) : Bool :=
  eff == 4 || (eff == 3 && (canEnterM8 s.sys.mode || s.sys.mode == .m8))

/-- A class 2 error holds a limitation while its handling window is open (R64, log entry 9). -/
def updHandling (s : State) : State :=
  setLim .handling ((s.sys.handling.toList ++ s.sys.preempted).any fun k => k.eff == 2) s

/-- The error being handled is pre-empted (R65 rule 3). -/
def preempt (eff : Nat) (s : State) : State :=
  match s.sys.handling with
  | none => s
  | some h =>
    if covers s eff then
      markRecord h.seq (fun r => { r with superseded := true }) { s with sys.handling := none }
    else
      markRecord h.seq (fun r => { r with preempted := true })
        { s with sys.handling := none, sys.preempted := h :: s.sys.preempted }

/-- The error's condition has ended with the device's own act, and only a latch stands for it, which holds no cause (R44): a leg
that was latched is off, and a contactor that did not close is commanded open. -/
def latchOnly (subsys code : Nat) : Bool := subsys == 2 && (code == 1 || code == 7)

/-- The handling of an error begins: its record (R559), its discard point (R66), then the action of its class (R64). DEDUCED
(log entry 57): SYS_M8_CAUSE is a register of the control die, so a class 4 error that finds the queue full leaves ERRQ_OVF
clear after its reset, as any reset does, while OVF stands restored (R67). -/
def beginTask (k : ErrTask) (s : State) : State :=
  let fits := decide (s.sys.errq.length < 32)
  let seq := if fits then some s.sys.nextSeq else none
  let k := { k with seq := seq }
  let s1 := writeRecord k false s
  let s2 := if 2 ≤ k.eff then
      updHandling (discardAll stFault ((seq.getD 0) % 65536) { s1 with sys.handling := some k }) else s1
  let s3 :=
    if k.eff == 3 then
      setCause .safeError { s2 with sys.safe := s2.sys.safe ++
        [{ id := k.id, subsys := k.subsys, code := k.code, arg := k.arg, seq := seq, isRead := seq == none,
           cleared := latchOnly k.subsys k.code }] }
    else if k.eff == 4 then resetControl .escalation (coldNow s2) s2
    else s2
  if fits || k.eff == 4 then s3 else setCause .errqOvf s3

/-- A detected error is sorted (R65): rule 1 and 3 pre-empt, rule 2 escalates, rule 4 queues. -/
def raiseError (e : ErrSpec) (arg : Nat) (s : State) : State :=
  let base : ErrTask := { id := s.sys.nextErr, subsys := e.subsys, code := e.code, cls := e.cls, eff := e.cls,
                          arg := arg, time := devTime s }
  let s := { s with sys.nextErr := s.sys.nextErr + 1 }
  match s.sys.handling with
  | none => beginTask base s
  | some h =>
    if e.cls == 4 then beginTask base (preempt 4 s)
    else
      let k := if 2 ≤ e.cls && e.subsys == h.subsys then { base with eff := 3, escalated := true } else base
      if h.eff < k.eff then beginTask k (preempt k.eff s)
      else { s with sys.waiting := s.sys.waiting ++ [k] }

/-- Waiting errors are begun in order of arrival until one holds a handling window open (R65 rule 4). -/
def beginWaiting : Nat → State → State
  | 0, s => s
  | n + 1, s =>
    match s.sys.handling, s.sys.waiting with
    | none, k :: r => beginWaiting n (beginTask k { s with sys.waiting := r })
    | _, _ => s

/-- The handling window of error `id` closes (R64): where it is the one being handled, the latest pre-empted error
resumes, or else the waiting ones are begun; SAFE_ERROR is re-evaluated. -/
def closeWindow (id : Nat) (s : State) : State :=
  let s1 := { s with sys.safe := s.sys.safe.map (fun (x : SafeItem) => if x.id == id then { x with windowClosed := true } else x),
                     sys.preempted := s.sys.preempted.filter (fun k => k.id != id) }
  let s2 :=
    match s1.sys.handling with
    | some h =>
      if h.id == id then
        match s1.sys.preempted with
        | k :: r => { s1 with sys.handling := some k, sys.preempted := r }
        | [] => beginWaiting s1.sys.waiting.length { s1 with sys.handling := none }
      else s1
    | none => s1
  evalSafe (updHandling s2)

/-- A read of xSPI0 failed its device status, or a slot or an image failed its hash: XSP0_READ_ERR (R34). -/
def xsp0ReadErr (s : State) : State := raiseError errXsp0Read 0 (fireEvent 464 s)

/-- A program or erase of xSPI0 failed its read-back three times: XSP0_WRITE_FAIL (R34). -/
def xsp0WriteFail (s : State) : State := raiseError errXsp0Write 0 (fireEvent 465 s)

/-- xSPI1 is not answering, or a read-back failed: XSP1_ERR (R34). -/
def xsp1Err (s : State) : State := raiseError errXsp1 0 (fireEvent 467 s)

/-- What a check of a firmware slot finds is a failed hash or an xSPI0 that does not answer (FAIL_REASON 3 and 5, R34). -/
def slotReadErr (fault : Nat) (s : State) : State := if fault == 3 || fault == 5 then xsp0ReadErr s else s

/-- A trigger that the mode does not allow is dropped and recorded (R43, R558). -/
def dropTrigger (s : State) : State := raiseError errTriggerDropped 0 s

end Sys2Proof.Machine
end

