-- ==== Sys2Proof/Machine/Fire.lean ====
section
/-! DEFINITION. Blocked accesses and memory errors: the firewall (R31, R33), the access counter (R38), and what an ECC
error of a region raises (R30, R33). -/

namespace Sys2Proof.Machine

/-- A minute of block time, ns. -/
abbrev minuteNs : Nat := 60000000000

/-- A notice that is recorded at most once in a second (R33): `last` is the time of the one before. -/
def atMostEach (ns : Nat) (last : Option Nat) (s : State) : Bool :=
  match last with
  | none => true
  | some t => t + ns ≤ s.now

/-- A blocked access is counted and SYS source 3 fires (R31). DESIGN CHOICE (log entry 55): the counter wraps modulo 2^32; the
spec gives it no top. -/
def firewallCount (s : State) : State := fireEvent 3 { s with sys.firewallCnt := (s.sys.firewallCnt + 1) % 2 ^ 32 }

/-- The firewall blocks an access (R31, R33): it is counted, and MEM_FIREWALL is recorded at most once a second. -/
def firewallBlock (s : State) : State :=
  let s1 := firewallCount s
  if atMostEach 1000000000 s.sys.lastFwRec s then
    raiseError errFirewall 0 { s1 with sys.lastFwRec := some s.now }
  else s1

/-- A host write to something read-only is counted (R38). DESIGN CHOICE (log entry 55): the counter wraps modulo 2^32; the spec
gives it no top. -/
def countAccess (s : State) : State := { s with sys.accessCnt := (s.sys.accessCnt + 1) % 2 ^ 32 }

end Sys2Proof.Machine
end

