-- ==== Sys2Proof/Machine/Can.lean ====
section
/-! DEFINITION. The CAN controllers (13): message objects, filters and locks, sending and cancelling, error confinement,
and their commands. -/

namespace Sys2Proof.Machine

/-! ### Errors of SUBSYS 7 (R336) -/

def errCanPassive : ErrSpec := ⟨7, 1, 1⟩
def errCanBusoff : ErrSpec := ⟨7, 2, 1⟩
def errCanLone : ErrSpec := ⟨7, 3, 1⟩
def errCanRxDrop : ErrSpec := ⟨7, 4, 1⟩
def errCanLockTo : ErrSpec := ⟨7, 5, 1⟩
/-- VCL_CAN_BUSOFF (R318). -/
def errVclBusoff : ErrSpec := ⟨6, 7, 1⟩

/-! ### Objects and controllers -/

/-- Base address of controller `c`. -/
def canBase (c : Nat) : Nat := baseCAN + c * 0x10000

/-- Address of object `m`. -/
def objAddr (c m : Nat) : Nat := canBase c + 0x1000 + m * 0x60

/-- Controller `c`. -/
def canc (s : State) (c : Nat) : CanCtl := get s.can.ctl c

/-- Controller `c` changed. -/
def setCan (c : Nat) (f : CanCtl → CanCtl) (s : State) : State := { s with can.ctl := upd s.can.ctl c f }

/-- MODE of controller `c`. -/
def canMode (s : State) (c : Nat) : Nat := rdf s (canBase c) 0 2

/-- FD_EN. -/
def canFd (s : State) (c : Nat) : Bool := rdb s (canBase c) 4

/-- A bit of an object's CTRL. -/
def objCtl (s : State) (c m i : Nat) : Bool := rdb s (objAddr c m) i

/-- A bit of an object's STAT: 0 PENDING or NEW, 1 TXING, 2 SENT, 3 CANCELLED, 4 LOST, 5 LOCKED. -/
def objBit (s : State) (c m i : Nat) : Bool := rdb s (objAddr c m + 12) i

/-- A bit of an object's STAT written. -/
def objPut (c m i : Nat) (v : Bool) (s : State) : State := wrf s (objAddr c m + 12) i 1 (b2n v)

/-- The object is set to send and enabled. -/
def isSend (s : State) (c m : Nat) : Bool := objCtl s c m 0 && objCtl s c m 1

/-- The object is set to receive and enabled. -/
def isRecv (s : State) (c m : Nat) : Bool := objCtl s c m 0 && !objCtl s c m 1

/-- The event source of controller `c` (R333). -/
def canEvent (c e : Nat) (s : State) : State := fireEvent (320 + 8 * c + e) s

/-- The master that owns a controller (R321). -/
def canOwner (c : Nat) : Master := if c < 4 then .ses c else .sup

/-! ### Receiving (R323, R324, R326, R327) -/

/-- A received identifier as an object holds it (R325). -/
def rxIdent (f : CanFrame) : Nat := if f.ide then f.id else f.id * 2 ^ 18

/-- The filter of a receive object matches (R326). -/
def filterHit (s : State) (c m : Nat) (f : CanFrame) : Bool :=
  let id := rdf s (objAddr c m + 4) 0 29
  let mask := rdw s (objAddr c m + 8)
  isRecv s c m && ((rxIdent f ^^^ id) &&& bits mask 0 29) == 0 && (!bit mask 29 || f.ide == objCtl s c m 2)

/-- The receive objects a frame matches, lowest first. -/
def hits (s : State) (c : Nat) (f : CanFrame) : List Nat := (List.range 128).filter fun m => filterHit s c m f

/-- RXINFO of a frame. -/
def rxInfo (f : CanFrame) (count : Nat) : Nat :=
  packBits [(0, f.dlc), (4, b2n f.ide), (5, b2n f.fdf), (6, b2n f.brs), (7, b2n f.esi), (16, count % 65536)]

/-- A frame is stored in an object (R326): over an unread frame, LOST is set and counted. -/
def storeFrame (c m : Nat) (f : CanFrame) (s : State) : State :=
  let a := objAddr c m
  let was := objBit s c m 0
  let s1 := wrw s (a + 12) (packBits [(0, 1), (4, b2n was), (5, b2n (objBit s c m 5))])
  let data := (f.data ++ List.replicate 64 0).take 64
  let mem := memWriteBytes (memWrite s1.mem (a + 16) 8 f.sof) (a + 24) data
  let s2 := { s1 with mem := memWrite (memWrite mem (a + 88) 4 (rxIdent f)) (a + 92) 4 (rxInfo f (canc s c).frames) }
  if was then canEvent c 5 (setCan c (fun x => { x with lostCnt := (x.lostCnt + 1) % 65536 }) s2)
  else canEvent c 0 s2

/-- The CLK_PER cycle of a block time (R27, log entry 60). -/
def perCycle (t : Nat) : Nat := t / 5

/-- A read that locks the object waits in the queue for the same cycle: its lock counts first (R334). -/
def lockDue (s : State) (c m : Nat) : Bool :=
  s.pending.any fun
    | .canObjLockRead t by' c' obj _ => perCycle t == perCycle s.now && by' == canOwner c && c' == c && obj == m
    | _ => false

/-- The read that releases the object's lock waits in the queue for the same cycle (R334). -/
def rxinfoDue (s : State) (c m : Nat) : Bool :=
  s.pending.any fun
    | .canRxinfoRead t by' c' obj => perCycle t == perCycle s.now && by' == canOwner c && c' == c && obj == m
    | _ => false

/-- The first object a frame matches that is neither locked nor locked in the same cycle (R326, R334). -/
def freeHit (s : State) (c : Nat) (f : CanFrame) : Option Nat :=
  (hits s c f).find? fun m => !objBit s c m 5 && !lockDue s c m

/-- A frame is placed (R326): stored, held while every matching object is locked, dropped where the buffer is full. -/
def placeFrame (c : Nat) (f : CanFrame) (s : State) : State :=
  match freeHit s c f with
  | some m => storeFrame c m f s
  | none =>
    if (hits s c f).isEmpty then s
    else if (canc s c).hold.length < 4 then setCan c (fun x => { x with hold := x.hold ++ [f] }) s
    else raiseError errCanRxDrop c (canEvent c 5 (setCan c (fun x => { x with rxDrop := (x.rxDrop + 1) % 65536 }) s))

/-- Held frames are stored in order of arrival where a lock has been released (R326). -/
def drainHold (c : Nat) (s : State) : State :=
  let fs := (canc s c).hold
  fs.foldl (fun a f => match freeHit a c f with
    | some m => storeFrame c m f a
    | none => setCan c (fun x => { x with hold := x.hold ++ [f] }) a) (setCan c (fun x => { x with hold := [] }) s)

/-! ### Confinement (R330 to R332) -/

/-- A cancel completes on an object that was pending (R329). -/
def cancelNow (c m : Nat) (s : State) : State :=
  canEvent c 6 (objPut c m 3 true (objPut c m 0 false (setCan c (fun x => { x with cancels := x.cancels.filter (· != m) }) s)))

/-- The CAN_TX_CANCEL command that waits for this object completes with its outcome (R507). -/
def answerCancel (c m outcome : Nat) (s : State) : State :=
  match (canc s c).job with
  | some (o, line, seq) =>
    if o == m then
      match findCmd s line seq with
      | some k => finish k { result := [outcome] } (setCan c (fun x => { x with job := none }) s)
      | none => setCan c (fun x => { x with job := none }) s
    else s
  | none => s

/-- The frame being sent ends without success: it competes again, or, where its cancel waits, leaves (R328, R329). -/
def endAttempt (c : Nat) (cancel : Bool) (s : State) : State :=
  match (canc s c).txing with
  | none => s
  | some m =>
    let s1 := objPut c m 1 false (setCan c (fun x => { x with txing := none }) s)
    if cancel || (canc s c).cancels.contains m then answerCancel c m 0 (cancelNow c m s1) else s1

/-- The objects of a controller that are pending. -/
def pendings (s : State) (c : Nat) : List Nat := (List.range 128).filter fun m => isSend s c m && objBit s c m 0

/-- Every pending object of a vehicle port is cancelled (R331). -/
def cancelAll (c : Nat) (s : State) : State := (pendings s c).foldl (fun a m => cancelNow c m a) s

/-- Bus-off is entered (R331): on a vehicle port in a session, the session stops with reason 8. -/
def enterBusoff (c : Nat) (s : State) : State :=
  let s1 := canEvent c 3 (endAttempt c false (setCan c (fun x =>
    { x with busoffCnt := (x.busoffCnt + 1) % 65536, recovering := rdb s (canBase c) 2 }) s))
  let s2 := raiseError errCanBusoff c s1
  if c < 4 then
    (let s3 := { s2 with vcl.port := upd s2.vcl.port c fun p => { p with busoff := true } }
     let st := (get s3.vcl.port c).sess
     if 2 ≤ st && st ≤ 8 then cancelAll c (stopSession c 8 true (raiseError errVclBusoff c s3)) else s3)
  else s2

/-- The confinement state the counters give (R330). -/
def confOf (tec recv : Nat) : Nat := if 255 < tec then 2 else if 128 ≤ tec || 128 ≤ recv then 1 else 0

/-- The counters have changed: a change of state fires its event and errors (R330). -/
def confine (c : Nat) (s : State) : State :=
  let x := canc s c
  let n := confOf x.tec x.recv
  if n == x.conf then s
  else
    let s1 := canEvent c 2 (setCan c (fun y => { y with conf := n }) s)
    if n == 2 then enterBusoff c s1
    else if n == 1 then raiseError errCanPassive c s1
    else s1

/-- The controller takes part in bus traffic: normal or loopback mode, not bus-off, not out of the bus. -/
def onBus (s : State) (c : Nat) : Bool :=
  (canMode s c == 1 || canMode s c == 3) && (canc s c).conf != 2 && !(canc s c).excepted

/-- LONE and the run of acknowledgement errors end at a success (R332). -/
def endLone (c : Nat) (s : State) : State := setCan c (fun x => { x with lone := false, ackRun := 0 }) s

/-- A good reception lowers REC (ISO 11898-1 12.1.4.3): above 127 it goes to a value from 119 to 127, which the standard
leaves open. -/
def goodRx (c : Nat) (s : State) : State :=
  let r := (canc s c).recv
  if r = 0 then endLone c s
  else if r ≤ 127 then confine c (endLone c (setCan c (fun x => { x with recv := r - 1 }) s))
  else
    let f := drawFree s
    confine c (endLone c (setCan c (fun x => { x with recv := 119 + f.1 % 9 }) f.2))

/-- A reception error (R330); the counters of a monitoring controller stay at 0 (R333). -/
def rxError (c lec : Nat) (by8 : Bool) (s : State) : State :=
  let s1 := setCan c (fun x => { x with lec := lec }) s
  if onBus s c then confine c (setCan c (fun x => { x with recv := min 255 (x.recv + (if by8 then 8 else 1)) }) s1) else s1

/-- CAN_FRAME_RX (R323, R324, R326): a frame received from the bus. -/
def execCanFrameRx (t c : Nat) (f : CanFrame) (s : State) : Host.Outcome State Fault Refusal :=
  let s := s.at t
  let mode := canMode s c
  .next (if (mode == 1 || mode == 2) && (canc s c).conf != 2 && !(canc s c).excepted then
    if f.fdf && !canFd s c then rxError c 2 false s
    else
      let s1 := setCan c (fun x => { x with frames := (x.frames + 1) % 65536 }) s
      let s2 := if mode == 1 then goodRx c s1 else s1
      if f.remote then s2 else placeFrame c f s2
  else s)

/-- A read of STAT, DATA or RXID (R327): the owner's read of a receive object locks it. -/
def lockRead (m : Master) (c obj ofs : Nat) (s : State) : State :=
  let s1 := emit s .readData (objAddr c obj + ofs) [(rdw s (objAddr c obj + ofs) : Nat)]
  if m == canOwner c && isRecv s c obj then objPut c obj 5 true s1 else s1

/-- CAN_OBJ_LOCK_READ (R327). -/
def execCanObjLockRead (t : Nat) (m : Master) (c obj ofs : Nat) (s : State) : Host.Outcome State Fault Refusal :=
  .next (lockRead m c obj ofs (s.at t))

/-- A read of RXINFO (R327): the owner's read releases the lock and clears NEW; held frames follow. -/
def rxinfoRead (m : Master) (c obj : Nat) (s : State) : State :=
  let s1 := emit s .readData (objAddr c obj + 92) [(rdw s (objAddr c obj + 92) : Nat)]
  if m == canOwner c && isRecv s c obj then drainHold c (objPut c obj 5 false (objPut c obj 0 false s1)) else s1

/-- CAN_RXINFO_READ (R327). -/
def execCanRxinfoRead (t : Nat) (m : Master) (c obj : Nat) (s : State) : Host.Outcome State Fault Refusal :=
  .next (rxinfoRead m c obj (s.at t))

/-- CAN_LOCK_TO (R327, R334): the controller releases a lock held for 1 ms; a read of RXINFO in the same cycle is the one
release. -/
def execCanLockTo (t c obj : Nat) (s : State) : Host.Outcome State Fault Refusal :=
  let s := s.at t
  .next (if isRecv s c obj && objBit s c obj 5 && !rxinfoDue s c obj then
    raiseError errCanLockTo c (canEvent c 7 (drainHold c (objPut c obj 5 false s)))
  else s)

/-! ### Sending (R328, R329, R332) -/

/-- Arbitration key of an object: base identifier, then a base frame before an extended one, then the extension. -/
def arbKey (s : State) (c m : Nat) : Nat :=
  let id := rdf s (objAddr c m + 4) 0 29
  let ide := objCtl s c m 2
  (id / 2 ^ 18) * 2 ^ 19 + b2n ide * 2 ^ 18 + (if ide then id % 2 ^ 18 else 0)

/-- The object that enters arbitration (R328). -/
def arbWinner (s : State) (c : Nat) : Option Nat :=
  ((pendings s c).filter fun m => !objCtl s c m 3 || canFd s c).foldl (fun b m =>
    match b with
    | none => some m
    | some x => if arbKey s c m < arbKey s c x then some m else some x) none

/-- The winner's frame starts on the bus: TXING is set (R328). -/
def beginSof (c : Nat) (sof : Option Nat) (s : State) : State :=
  match sof with
  | none => s
  | some m =>
    if onBus s c && (canc s c).txing.isNone && arbWinner s c == some m then
      objPut c m 1 true (setCan c (fun x => { x with txing := some m }) s)
    else s

/-- A send is requested (R328): none on a disabled, receiving or pending object, and none while monitoring (R333). -/
def requestSend (c m : Nat) (s : State) : State :=
  if isSend s c m && !objBit s c m 0 && canMode s c != 2 then
    objPut c m 3 false (objPut c m 2 false (objPut c m 0 true s))
  else s

/-- The objects a word of CAN_TXREQk or CAN_TXCANCELk names. -/
def wordObjs (k word : Nat) : List Nat := ((List.range 32).filter fun b => bit word b).map (32 * k + ·)


/-- A cancel of one object (R329): at once, or at the end of its frame. -/
def cancelObj (c m : Nat) (s : State) : State :=
  if !(isSend s c m && objBit s c m 0) then s
  else if (canc s c).txing == some m then
    setCan c (fun x => { x with cancels := if x.cancels.contains m then x.cancels else x.cancels ++ [m] }) s
  else answerCancel c m 0 (cancelNow c m s)

/-- CAN_TXCANCELk is written (R321, R329); what it names is kept for the rest of the cycle (R334). -/
def txcancelWrite (m : Master) (c k word : Nat) (s : State) : State :=
  let objs := wordObjs k word
  if m == canOwner c then
    objs.foldl (fun a o => cancelObj c o a) (setCan c (fun x =>
      { x with cxl := (perCycle s.now, if x.cxl.1 == perCycle s.now then x.cxl.2 ++ objs else objs) }) s)
  else firewallBlock s

/-- A request of a send, and the cancel of the object that came in the same cycle (R334). -/
def requestOrCancel (c m : Nat) (s : State) : State :=
  let s1 := requestSend c m s
  if (canc s c).cxl.1 == perCycle s.now && (canc s c).cxl.2.contains m then cancelObj c m s1 else s1

/-- CAN_TXREQk is written (R321, R328). -/
def txreqWrite (m : Master) (c k word : Nat) (s : State) : State :=
  if m == canOwner c then (wordObjs k word).foldl (fun a o => requestOrCancel c o a) s else firewallBlock s

/-- CAN_TXREQ (R321, R328): a write of CAN_TXREQk; `sof` names the object whose frame starts on the bus now, if any. -/
def execCanTxreq (t : Nat) (m : Master) (c k word : Nat) (sof : Option Nat) (s : State) : Host.Outcome State Fault Refusal :=
  .next (beginSof c sof (txreqWrite m c k word (s.at t)))

/-- CAN_TXCANCEL (R321, R329, R334): a write of CAN_TXCANCELk; a start of frame in the same cycle counts first. -/
def execCanTxcancel (t : Nat) (m : Master) (c k word : Nat) (sof : Option Nat) (s : State) :
    Host.Outcome State Fault Refusal :=
  .next (txcancelWrite m c k word (beginSof c sof (s.at t)))

/-- The frame a send object holds, as the controller's own receive objects see it in loopback. -/
def ownFrame (s : State) (c m sof : Nat) : CanFrame :=
  let ctl := rdw s (objAddr c m)
  let id := rdf s (objAddr c m + 4) 0 29
  let fdf := bit ctl 3
  { id := if bit ctl 2 then id else id / 2 ^ 18, ide := bit ctl 2, fdf := fdf, brs := fdf && bit ctl 4, esi := false,
      remote := false, dlc := bits ctl 5 4, data := memBytes s.mem (objAddr c m + 24) (dlcBytes fdf (bits ctl 5 4)), sof := sof }

/-- CAN_TX_DONE (R324, R328, R332): the frame being sent has succeeded; `sof` is the device time of its start and `next` the
object whose frame follows at once. -/
def execCanTxDone (t c obj sof : Nat) (next : Option Nat) (s : State) : Host.Outcome State Fault Refusal :=
  let s := s.at t
  .next (if (canc s c).txing == some obj then
    let s1 := objPut c obj 2 true (objPut c obj 1 false (objPut c obj 0 false s))
    let s2 := { s1 with mem := memWrite s1.mem (objAddr c obj + 16) 8 sof }
    let s3 := setCan c (fun x => { x with txing := none, tec := x.tec - 1, cancels := x.cancels.filter (· != obj) }) s2
    let s4 := answerCancel c obj 1 (canEvent c 1 (confine c (endLone c s3)))
    let s5 := if canMode s c == 3 then
      placeFrame c (ownFrame s c obj sof) (setCan c (fun x => { x with frames := (x.frames + 1) % 65536 }) s4) else s4
    beginSof c next s5
  else s)

/-- An acknowledgement error of the object being sent (R332). -/
def ackError (c : Nat) (s : State) : State :=
  let x := canc s c
  let run := min 255 (x.ackRun + 1)
  let s1 := setCan c (fun y => { y with lec := 3, ackRun := run, tec := if y.conf == 0 then y.tec + 8 else y.tec }) s
  let s2 := if run == 64 && !x.lone then
      raiseError errCanLone c (canEvent c 4 (setCan c (fun y => { y with lone := true }) s1)) else s1
  confine c (endAttempt c ((canc s2 c).lone && rdb s (canBase c) 3) s2)

/-- CAN_BUS_ERROR (R328, R330, R332): a lost arbitration, an error of the frame being sent, or an error on reception. -/
def execCanBusError (t c : Nat) (e : CanErr) (sof : Option Nat) (s : State) : Host.Outcome State Fault Refusal :=
  let s := s.at t
  let sending := (canc s c).txing.isSome && onBus s c
  .next (beginSof c sof (match e with
  | .arbitration => if sending then endAttempt c false s else s
  | .ack => if sending then ackError c s else s
  | .sending lec =>
    if sending then confine c (endAttempt c false (setCan c (fun x =>
      { x with lec := lec, tec := x.tec + 8, ackRun := 0 }) s)) else s
  | .receiving lec by8 => if canMode s c == 0 then s else rxError c lec by8 s))

/-! ### Recovery, exceptions, modes (R323, R331, R333) -/

/-- Recovery counting starts (R331, R334). -/
def startRecovery (c : Nat) (s : State) : State :=
  if (canc s c).conf == 2 then setCan c (fun x => { x with recovering := true }) s else s

/-- CAN_CTRL_RECOVER (R321, R331). -/
def execCanCtrlRecover (t : Nat) (m : Master) (c : Nat) (s : State) : Host.Outcome State Fault Refusal :=
  let s := s.at t
  .next (if m == canOwner c then startRecovery c s else firewallBlock s)

/-- CAN_RECOVERY_DONE (R331): 128 occurrences of 11 recessive bits have been counted. -/
def execCanRecoveryDone (t c : Nat) (s : State) : Host.Outcome State Fault Refusal :=
  let s := s.at t
  .next (if (canc s c).conf == 2 && (canc s c).recovering then
    let s1 := canEvent c 2 (setCan c (fun x => { x with tec := 0, recv := 0, conf := 0, recovering := false }) s)
    { s1 with vcl.port := upd s1.vcl.port c fun p => { p with busoff := false } }
  else s)

/-- CAN_PROTOCOL_EXCEPTION (R323): a recessive res bit in an FD frame. -/
def execCanProtocolException (t c : Nat) (s : State) : Host.Outcome State Fault Refusal :=
  let s := s.at t
  .next (if canMode s c != 0 && canFd s c then canEvent c 7 (setCan c (fun x => { x with excepted := true }) s) else s)

/-- CAN_BUS_INTEGRATION (R323): the controller takes part in frames again. -/
def execCanBusIntegration (t c : Nat) (s : State) : Host.Outcome State Fault Refusal :=
  let s := s.at t
  .next (setCan c (fun x => { x with excepted := false }) s)

/-- The send objects start empty (R333): their state and data are cleared. -/
def emptySends (c : Nat) (s : State) : State :=
  (List.range 128).foldl (fun a m =>
    if objCtl a c m 1 then
      { a with mem := memWriteBytes (memWrite a.mem (objAddr c m + 12) 12 0) (objAddr c m + 24) (List.replicate 64 0) }
    else a) s

/-- A controller of a standby only monitors its bus: its counters are 0 and nothing is being sent (R333). -/
def CanCtl.monitor (x : CanCtl) : CanCtl :=
  { x with conf := 0, tec := 0, recv := 0, txing := none, cancels := [], recovering := false, modeDue := false }

/-- Every controller of the standby runs in mode 2 (R333). -/
def canStandby (s : State) : State :=
  (List.range 6).foldl (fun a c => wrf a (canBase c) 0 2 2) { s with can.ctl := updAll s.can.ctl fun _ x => x.monitor }

/-- After a takeover, each controller changes to mode 1 at the next bus idle (R333). -/
def canTakeover (s : State) : State := { s with can.ctl := updAll s.can.ctl fun _ x => { x with modeDue := true } }

/-- CAN_MODE_SWITCH (R333): the first bus idle after a takeover. -/
def execCanModeSwitch (t c : Nat) (s : State) : Host.Outcome State Fault Refusal :=
  let s := s.at t
  .next (if (canc s c).modeDue then
    emptySends c (wrf (setCan c CanCtl.monitor s) (canBase c) 0 2 1)
  else s)

/-! ### Registers and commands (R337, R507) -/

/-- CAN_STAT. -/
def canStatWord (s : State) (c : Nat) : Nat :=
  let x := canc s c
  packBits [(0, if canMode s c == 0 || canMode s c == 2 then 3 else x.conf), (2, b2n x.lone), (3, b2n x.txing.isSome),
    (4, b2n x.cfgBusy), (8, x.lec), (11, x.hold.length)]

/-- CAN_ECNT; the count toward recovery depends on the bus, and reads a free value while it runs (log entry 39). -/
def canEcntWord (s : State) (c : Nat) : Nat :=
  packBits [(0, (canc s c).tec % 512), (16, (canc s c).recv), (24, if (canc s c).recovering then Config.freeValue s.freeCtr % 129 else 0)]

/-- CAN_CNT. -/
def canCntWord (s : State) (c : Nat) : Nat := packBits [(0, (canc s c).ackRun), (16, (canc s c).busoffCnt)]

/-- CAN_DROP. -/
def canDropWord (s : State) (c : Nat) : Nat := packBits [(0, (canc s c).rxDrop), (16, (canc s c).lostCnt)]

/-- CAN_STATUS (R337, R507). -/
def execCanStatus (t line seq : Nat) (s : State) : Host.Outcome State Fault Refusal :=
  .next (runCmd line seq 0x0901 neverIllegal (fun k s =>
    doneOut k [] ((((List.range 6).map fun c => [canStatWord s c, canEcntWord s c, canCntWord s c, canDropWord s c]).flatten.map
      (leBytes 4)).flatten) s) (s.at t))

/-- CAN_OBJ_READ (R337, R507): no lock is taken. -/
def execCanObjRead (t line seq : Nat) (s : State) : Host.Outcome State Fault Refusal :=
  .next (runCmd line seq 0x0902 neverIllegal (fun k s =>
    let c := k.param 8 1
    let first := k.param 9 1
    let n := k.param 10 1
    if 6 ≤ c then rejectRange k 8 s
    else if 128 ≤ first then rejectRange k 9 s
    else if n = 0 || 128 < first + n then rejectRange k 10 s
    else doneOut k [] (memBytes s.mem (objAddr c first) (96 * n)) s) (s.at t))

/-- A write of an object's CTRL, ID, MASK and DATA by an image; on a pending object it has no effect and sets CFG_BUSY
(R328). -/
def writeObject (c m : Nat) (image : List Nat) (s : State) : State :=
  let a := objAddr c m
  if isSend s c m && objBit s c m 0 then setCan c (fun x => { x with cfgBusy := true }) s
  else
    let ctl := leValue (image.take 4) % 1024
    let id := leValue ((image.drop 4).take 4) % 2 ^ 29
    let mask := leValue ((image.drop 8).take 4) % 2 ^ 30
    { s with mem := memWriteBytes (memWrite (memWrite (memWrite s.mem a 4 ctl) (a + 4) 4 id) (a + 8) 4 mask) (a + 24)
               (((image.drop 24).take 64)) }

/-- The commands' targets (R337): a vehicle port's controller, or an object without HOST_OK, is not for them. -/
def canForeign (needObj : Bool) (k : Cmd) (s : State) : Bool :=
  let c := k.param 8 1
  let m := k.param 9 1
  c < 4 || (needObj && c < 6 && m < 128 && !objCtl s c m 9)

/-- CAN_OBJ_WRITE (R337, R507). -/
def execCanObjWrite (t line seq : Nat) (s : State) : Host.Outcome State Fault Refusal :=
  .next (runCmd line seq 0x0903 (canForeign true) (fun k s =>
    let c := k.param 8 1
    let m := k.param 9 1
    if 6 ≤ c then rejectRange k 8 s
    else if 128 ≤ m then rejectRange k 9 s
    else if 2 ≤ k.param 10 1 then rejectRange k 10 s
    else if k.data.length != 96 then rejectFormat k 60 s
    else
      let s1 := writeObject c m k.data s
      done k [] (if k.param 10 1 == 1 then requestSend c m s1 else s1)) (s.at t))

/-- CAN_TX_CANCEL (R329, R337, R507): it waits for the end of a frame being sent. -/
def execCanTxCancel (t line seq : Nat) (s : State) : Host.Outcome State Fault Refusal :=
  .next (runCmd line seq 0x0904 (canForeign true) (fun k s =>
    let c := k.param 8 1
    let m := k.param 9 1
    if 6 ≤ c then rejectRange k 8 s
    else if 128 ≤ m then rejectRange k 9 s
    else if !isSend s c m then rejectIllegal k s
    else if (canc s c).txing == some m then
      setCan c (fun x => { x with job := some (m, line, seq) }) (cancelObj c m s)
    else done k [b2n (!objBit s c m 0 && objBit s c m 2)] (cancelObj c m s)) (s.at t))

/-- CAN_RECOVER (R331, R337, R507). -/
def execCanRecover (t line seq : Nat) (s : State) : Host.Outcome State Fault Refusal :=
  .next (runCmd line seq 0x0905 (canForeign false) (fun k s =>
    if 6 ≤ k.param 8 1 then rejectRange k 8 s
    else done k [] (startRecovery (k.param 8 1) s)) (s.at t))

end Sys2Proof.Machine
end

