-- ==== Sys2Proof/Machine/CfgTable.lean ====
section
/-! DEFINITION. The register fields whose Reset column reads CFG (R513): where each lies, its section (R514), its range
and its default (R514, R515), and the item whose use the range check is tied to. Taken from the field tables of the
chapters; log entry 10 says how ranges and defaults were read. -/

namespace Sys2Proof.Machine

/-- One CFG field: TGT of its block, section, byte offset of the first item's register, stride and number of items, first
bit and width, least and greatest value, default, and the kind of item (`itemUsed`). -/
structure CfgField where
  tgt : Nat
  sec : Nat
  ofs : Nat
  stride : Nat
  num : Nat
  lo : Nat
  width : Nat
  least : Nat
  most : Nat
  dflt : Nat
  item : Nat
deriving DecidableEq, Repr

/-- Part 0 of the fields. -/
def cfgFields0 : List CfgField := [
  ⟨0x03, 0x02, 0x0004, 0x0, 1, 0, 3, 0, 5, 0, 0⟩,
  ⟨0x03, 0x02, 0x0004, 0x0, 1, 3, 3, 0, 5, 0, 0⟩,
  ⟨0x03, 0x02, 0x0004, 0x0, 1, 6, 3, 0, 5, 0, 0⟩,
  ⟨0x03, 0x02, 0x0004, 0x0, 1, 9, 3, 0, 5, 0, 0⟩,
  ⟨0x03, 0x02, 0x0004, 0x0, 1, 12, 3, 0, 5, 0, 0⟩,
  ⟨0x03, 0x02, 0x000C, 0x0, 1, 0, 16, 100, 60000, 2000, 0⟩,
  ⟨0x01, 0x03, 0x0000, 0x0, 1, 0, 1, 0, 1, 0, 0⟩,
  ⟨0x01, 0x03, 0x0000, 0x0, 1, 8, 10, 1, 1000, 0, 20⟩,
  ⟨0x01, 0x03, 0x0400, 0x4, 512, 0, 4, 0, 15, 0, 0⟩,
  ⟨0x01, 0x03, 0x0400, 0x4, 512, 4, 3, 0, 7, 0, 0⟩,
  ⟨0x01, 0x03, 0x0400, 0x4, 512, 7, 1, 0, 1, 0, 0⟩,
  ⟨0x01, 0x03, 0x0400, 0x4, 512, 9, 1, 0, 1, 0, 0⟩,
  ⟨0x01, 0x03, 0x0400, 0x4, 512, 10, 4, 0, 15, 0, 0⟩,
  ⟨0x01, 0x03, 0x0400, 0x4, 512, 14, 1, 0, 1, 0, 0⟩,
  ⟨0x01, 0x03, 0x0400, 0x4, 512, 15, 4, 0, 15, 0, 0⟩,
  ⟨0x01, 0x03, 0x0400, 0x4, 512, 19, 1, 0, 1, 0, 0⟩,
  ⟨0x01, 0x03, 0x0C00, 0x4, 32, 0, 8, 0, 200, 0, 0⟩,
  ⟨0x01, 0x03, 0x0C00, 0x4, 32, 8, 2, 0, 3, 0, 0⟩,
  ⟨0x01, 0x03, 0x0C00, 0x4, 32, 10, 1, 0, 1, 0, 0⟩,
  ⟨0x01, 0x03, 0x0C00, 0x4, 32, 11, 1, 0, 1, 0, 0⟩,
  ⟨0x05, 0x20, 0x0100, 0x10, 48, 0, 1, 0, 1, 0, 1⟩,
  ⟨0x05, 0x20, 0x0100, 0x10, 48, 2, 3, 0, 4, 0, 1⟩,
  ⟨0x05, 0x20, 0x0100, 0x10, 48, 5, 4, 0, 15, 0, 1⟩,
  ⟨0x05, 0x20, 0x0100, 0x10, 48, 9, 5, 0, 19, 0, 1⟩,
  ⟨0x05, 0x20, 0x0104, 0x10, 48, 0, 32, 0, 4294967295, 0, 1⟩,
  ⟨0x05, 0x20, 0x0108, 0x10, 48, 0, 24, 0, 16777215, 0, 1⟩,
  ⟨0x05, 0x20, 0x0400, 0x40, 6, 0, 15, 1250, 12500, 0, 2⟩,
  ⟨0x05, 0x20, 0x0400, 0x40, 6, 15, 1, 0, 1, 0, 2⟩,
  ⟨0x05, 0x20, 0x0400, 0x40, 6, 16, 1, 0, 1, 0, 2⟩,
  ⟨0x05, 0x20, 0x0400, 0x40, 6, 17, 3, 0, 7, 0, 2⟩]

/-- Part 1 of the fields. -/
def cfgFields1 : List CfgField := [
  ⟨0x05, 0x20, 0x0400, 0x40, 6, 20, 1, 0, 1, 0, 2⟩,
  ⟨0x05, 0x20, 0x0400, 0x40, 6, 31, 1, 0, 1, 0, 2⟩,
  ⟨0x05, 0x20, 0x0404, 0x40, 6, 0, 15, 256, 25600, 0, 2⟩,
  ⟨0x05, 0x20, 0x0404, 0x40, 6, 16, 15, 256, 25600, 0, 2⟩,
  ⟨0x05, 0x20, 0x0408, 0x40, 6, 0, 16, 32768, 64880, 0, 2⟩,
  ⟨0x05, 0x20, 0x0408, 0x40, 6, 16, 9, 0, 400, 0, 2⟩,
  ⟨0x05, 0x20, 0x0418, 0x40, 6, 8, 4, 0, 15, 0, 2⟩,
  ⟨0x05, 0x20, 0x0800, 0x20, 36, 0, 1, 0, 1, 0, 3⟩,
  ⟨0x05, 0x20, 0x0800, 0x20, 36, 1, 1, 0, 1, 0, 3⟩,
  ⟨0x05, 0x20, 0x0800, 0x20, 36, 2, 4, 1, 15, 0, 3⟩,
  ⟨0x05, 0x20, 0x0804, 0x20, 36, 0, 16, 0, 65535, 0, 3⟩,
  ⟨0x05, 0x20, 0x0804, 0x20, 36, 16, 16, 0, 65535, 0, 3⟩,
  ⟨0x05, 0x20, 0x0808, 0x20, 36, 0, 16, 0, 65535, 0, 3⟩,
  ⟨0x05, 0x20, 0x0D00, 0x4, 4, 2, 1, 0, 1, 0, 4⟩,
  ⟨0x05, 0x20, 0x0D00, 0x4, 4, 8, 5, 0, 31, 0, 4⟩,
  ⟨0x05, 0x20, 0x0D00, 0x4, 4, 16, 5, 0, 31, 0, 4⟩,
  ⟨0x05, 0x20, 0x0D40, 0x0, 1, 0, 6, 1, 50, 0, 5⟩,
  ⟨0x05, 0x20, 0x0D40, 0x0, 1, 8, 8, 5, 200, 0, 5⟩,
  ⟨0x05, 0x20, 0x0D40, 0x0, 1, 16, 8, 5, 200, 0, 5⟩,
  ⟨0x05, 0x20, 0x0D40, 0x0, 1, 24, 8, 1, 100, 0, 5⟩,
  ⟨0x05, 0x20, 0x0E00, 0x4, 2, 0, 16, 0, 1500, 0, 19⟩,
  ⟨0x05, 0x20, 0x0E00, 0x4, 2, 16, 16, 100, 1550, 0, 19⟩,
  ⟨0x05, 0x21, 0x0F00, 0x20, 4, 0, 10, 1, 1000, 0, 4⟩,
  ⟨0x05, 0x21, 0x0F00, 0x20, 4, 10, 10, 1, 1000, 0, 4⟩,
  ⟨0x05, 0x21, 0x0F00, 0x20, 4, 20, 9, 1, 500, 0, 4⟩,
  ⟨0x05, 0x21, 0x0F0C, 0x20, 4, 0, 11, 150, 1250, 0, 4⟩,
  ⟨0x05, 0x21, 0x0F0C, 0x20, 4, 16, 11, 160, 1400, 0, 4⟩,
  ⟨0x05, 0x21, 0x0F10, 0x20, 4, 0, 7, 5, 100, 0, 4⟩,
  ⟨0x05, 0x21, 0x0F10, 0x20, 4, 8, 9, 10, 500, 0, 4⟩,
  ⟨0x05, 0x21, 0x0F10, 0x20, 4, 17, 7, 1, 100, 0, 4⟩]

/-- Part 2 of the fields. -/
def cfgFields2 : List CfgField := [
  ⟨0x05, 0x21, 0x0F10, 0x20, 4, 24, 8, 1, 255, 0, 4⟩,
  ⟨0x05, 0x21, 0x0F14, 0x20, 4, 0, 6, 1, 50, 0, 4⟩,
  ⟨0x05, 0x21, 0x0F14, 0x20, 4, 8, 6, 1, 50, 0, 4⟩,
  ⟨0x05, 0x21, 0x0F14, 0x20, 4, 16, 8, 1, 255, 0, 4⟩,
  ⟨0x05, 0x21, 0x0F14, 0x20, 4, 24, 6, 6, 50, 0, 4⟩,
  ⟨0x05, 0x21, 0x0F18, 0x20, 4, 16, 12, 1024, 2253, 0, 4⟩,
  ⟨0x05, 0x21, 0x1100, 0x0, 1, 0, 4, 0, 15, 0, 0⟩,
  ⟨0x07, 0x40, 0x0000, 0x0, 1, 0, 7, 10, 120, 60, 0⟩,
  ⟨0x07, 0x40, 0x0000, 0x0, 1, 7, 4, 0, 10, 3, 0⟩,
  ⟨0x07, 0x40, 0x0000, 0x0, 1, 11, 9, 1, 500, 50, 0⟩,
  ⟨0x07, 0x40, 0x0000, 0x0, 1, 20, 5, 0, 20, 5, 0⟩,
  ⟨0x07, 0x40, 0x0000, 0x0, 1, 25, 7, 0, 64, 26, 0⟩,
  ⟨0x07, 0x40, 0x0004, 0x0, 1, 0, 7, 10, 100, 50, 0⟩,
  ⟨0x07, 0x40, 0x0004, 0x0, 1, 7, 7, 0, 100, 25, 0⟩,
  ⟨0x07, 0x40, 0x0004, 0x0, 1, 14, 8, 0, 100, 50, 0⟩,
  ⟨0x07, 0x40, 0x0004, 0x0, 1, 22, 10, 0, 1023, 0, 0⟩,
  ⟨0x07, 0x41, 0x0100, 0x20, 4, 0, 5, 0, 23, 0, 4⟩,
  ⟨0x07, 0x41, 0x0100, 0x20, 4, 5, 5, 0, 23, 0, 4⟩,
  ⟨0x07, 0x41, 0x0100, 0x20, 4, 10, 3, 0, 7, 0, 4⟩,
  ⟨0x07, 0x41, 0x0100, 0x20, 4, 13, 2, 0, 2, 0, 4⟩,
  ⟨0x07, 0x41, 0x0100, 0x20, 4, 15, 4, 0, 15, 0, 4⟩,
  ⟨0x07, 0x41, 0x0400, 0x8, 16, 0, 2, 0, 3, 0, 16⟩,
  ⟨0x07, 0x41, 0x0400, 0x8, 16, 2, 1, 0, 1, 0, 16⟩,
  ⟨0x07, 0x41, 0x0400, 0x8, 16, 3, 7, 0, 127, 0, 16⟩,
  ⟨0x07, 0x41, 0x0400, 0x8, 16, 10, 8, 0, 255, 0, 16⟩,
  ⟨0x07, 0x41, 0x0400, 0x8, 16, 18, 8, 0, 255, 0, 16⟩,
  ⟨0x08, 0x50, 0x0100, 0x10, 32, 0, 2, 0, 3, 0, 6⟩,
  ⟨0x08, 0x50, 0x0100, 0x10, 32, 2, 3, 0, 6, 0, 6⟩,
  ⟨0x08, 0x50, 0x0100, 0x10, 32, 5, 3, 0, 7, 0, 6⟩,
  ⟨0x08, 0x50, 0x0100, 0x10, 32, 8, 1, 0, 1, 0, 6⟩]

/-- Part 3 of the fields. -/
def cfgFields3 : List CfgField := [
  ⟨0x08, 0x50, 0x0100, 0x10, 32, 9, 1, 0, 1, 0, 6⟩,
  ⟨0x08, 0x50, 0x0100, 0x10, 32, 10, 1, 0, 1, 0, 6⟩,
  ⟨0x08, 0x50, 0x0100, 0x10, 32, 11, 4, 0, 15, 0, 6⟩,
  ⟨0x08, 0x50, 0x0100, 0x10, 32, 15, 8, 1, 255, 0, 6⟩,
  ⟨0x08, 0x50, 0x0100, 0x10, 32, 23, 8, 0, 255, 0, 6⟩,
  ⟨0x08, 0x50, 0x0104, 0x10, 32, 0, 11, 1, 2000, 0, 6⟩,
  ⟨0x08, 0x50, 0x0104, 0x10, 32, 11, 10, 0, 1000, 0, 6⟩,
  ⟨0x08, 0x50, 0x0104, 0x10, 32, 21, 9, 10, 500, 0, 6⟩,
  ⟨0x08, 0x50, 0x0400, 0x8, 8, 0, 17, 400, 80000, 0, 7⟩,
  ⟨0x08, 0x50, 0x0400, 0x8, 8, 17, 2, 0, 2, 0, 7⟩,
  ⟨0x08, 0x50, 0x0404, 0x8, 8, 0, 16, 0, 65535, 0, 7⟩,
  ⟨0x08, 0x50, 0x0800, 0x0, 1, 0, 4, 0, 8, 0, 8⟩,
  ⟨0x08, 0x50, 0x0800, 0x0, 1, 5, 9, 10, 500, 100, 8⟩,
  ⟨0x09, 0x60, 0x0100, 0x40, 4, 0, 3, 0, 4, 0, 9⟩,
  ⟨0x09, 0x60, 0x0100, 0x40, 4, 3, 7, 0, 127, 0, 9⟩,
  ⟨0x09, 0x60, 0x0100, 0x40, 4, 10, 5, 0, 31, 0, 9⟩,
  ⟨0x09, 0x60, 0x0100, 0x40, 4, 15, 5, 0, 31, 0, 9⟩,
  ⟨0x09, 0x60, 0x0100, 0x40, 4, 20, 1, 0, 1, 0, 9⟩,
  ⟨0x09, 0x60, 0x0100, 0x40, 4, 21, 1, 0, 1, 0, 9⟩,
  ⟨0x09, 0x60, 0x0100, 0x40, 4, 22, 6, 10, 60, 0, 9⟩,
  ⟨0x09, 0x60, 0x0110, 0x40, 4, 9, 1, 0, 1, 0, 9⟩,
  ⟨0x10, 0x80, 0x0000, 0x0, 1, 0, 8, 1, 255, 10, 0⟩,
  ⟨0x10, 0x80, 0x0000, 0x0, 1, 8, 1, 0, 1, 0, 0⟩,
  ⟨0x10, 0x80, 0x0000, 0x0, 1, 9, 2, 0, 2, 0, 0⟩,
  ⟨0x10, 0x80, 0x0000, 0x0, 1, 11, 1, 0, 1, 0, 0⟩,
  ⟨0x10, 0x80, 0x0000, 0x0, 1, 12, 4, 0, 15, 0, 0⟩,
  ⟨0x10, 0x80, 0x0000, 0x0, 1, 16, 2, 0, 3, 0, 0⟩,
  ⟨0x10, 0x80, 0x0018, 0x0, 1, 0, 10, 1, 600, 10, 0⟩,
  ⟨0x10, 0x80, 0x0100, 0x20, 4, 0, 16, 0, 65535, 0, 11⟩,
  ⟨0x10, 0x80, 0x0100, 0x20, 4, 16, 16, 0, 65535, 0, 11⟩]

/-- Part 4 of the fields. -/
def cfgFields4 : List CfgField := [
  ⟨0x10, 0x80, 0x0104, 0x20, 4, 0, 8, 1, 255, 50, 11⟩,
  ⟨0x10, 0x80, 0x0104, 0x20, 4, 8, 8, 0, 255, 10, 11⟩,
  ⟨0x10, 0x80, 0x0104, 0x20, 4, 16, 1, 0, 1, 0, 11⟩,
  ⟨0x10, 0x81, 0x0200, 0x40, 2, 0, 16, 0, 65535, 0, 12⟩,
  ⟨0x10, 0x81, 0x0200, 0x40, 2, 16, 7, 50, 95, 90, 12⟩,
  ⟨0x10, 0x81, 0x0200, 0x40, 2, 23, 4, 1, 10, 5, 12⟩,
  ⟨0x10, 0x81, 0x0200, 0x40, 2, 27, 4, 1, 10, 2, 12⟩,
  ⟨0x10, 0x81, 0x0204, 0x40, 2, 0, 8, 105, 150, 110, 12⟩,
  ⟨0x10, 0x81, 0x0400, 0x4, 6, 0, 17, 1, 100000, 0, 13⟩,
  ⟨0x10, 0x81, 0x0400, 0x4, 6, 17, 3, 0, 7, 0, 13⟩,
  ⟨0x10, 0x81, 0x0400, 0x4, 6, 20, 1, 0, 1, 0, 13⟩,
  ⟨0x11, 0x90, 0x0000, 0x0, 1, 0, 12, 0, 4095, 0, 0⟩,
  ⟨0x11, 0x90, 0x0000, 0x0, 1, 12, 2, 0, 3, 0, 0⟩,
  ⟨0x11, 0x90, 0x0000, 0x0, 1, 16, 16, 0, 65535, 0, 0⟩,
  ⟨0x12, 0x91, 0x0000, 0x0, 1, 0, 1, 0, 1, 0, 0⟩,
  ⟨0x12, 0x91, 0x0000, 0x0, 1, 1, 1, 0, 1, 0, 0⟩,
  ⟨0x12, 0x91, 0x0000, 0x0, 1, 2, 10, 10, 1000, 100, 0⟩,
  ⟨0x12, 0x91, 0x0000, 0x0, 1, 12, 8, 1, 255, 10, 0⟩,
  ⟨0x12, 0x91, 0x0100, 0x20, 2, 0, 3, 0, 4, 0, 17⟩,
  ⟨0x12, 0x91, 0x0100, 0x20, 2, 3, 5, 0, 31, 0, 17⟩,
  ⟨0x12, 0x91, 0x0100, 0x20, 2, 8, 5, 0, 31, 0, 17⟩,
  ⟨0x12, 0x91, 0x0100, 0x20, 2, 13, 10, 1, 1023, 0, 17⟩,
  ⟨0x12, 0x91, 0x0100, 0x20, 2, 23, 8, 1, 255, 0, 17⟩,
  ⟨0x12, 0x91, 0x0104, 0x20, 2, 0, 32, 1000, 1000000000, 0, 17⟩,
  ⟨0x12, 0x91, 0x0400, 0x10, 16, 0, 1, 0, 1, 0, 18⟩,
  ⟨0x12, 0x91, 0x0400, 0x10, 16, 1, 3, 0, 5, 0, 18⟩,
  ⟨0x12, 0x91, 0x0400, 0x10, 16, 4, 1, 0, 1, 0, 18⟩,
  ⟨0x12, 0x91, 0x0400, 0x10, 16, 5, 1, 0, 1, 0, 18⟩,
  ⟨0x12, 0x91, 0x0400, 0x10, 16, 6, 6, 0, 33, 0, 18⟩,
  ⟨0x12, 0x91, 0x0400, 0x10, 16, 12, 2, 0, 3, 0, 18⟩]

/-- Part 5 of the fields. -/
def cfgFields5 : List CfgField := [
  ⟨0x12, 0x91, 0x0400, 0x10, 16, 16, 16, 0, 65535, 0, 18⟩,
  ⟨0x12, 0x91, 0x040C, 0x10, 16, 0, 31, 1000, 2000000000, 0, 18⟩,
  ⟨0x14, 0xB0, 0x0000, 0x0, 1, 0, 2, 0, 3, 0, 15⟩,
  ⟨0x14, 0xB0, 0x0000, 0x0, 1, 2, 10, 2, 1000, 100, 15⟩,
  ⟨0x14, 0xB0, 0x0000, 0x0, 1, 12, 12, 0, 4095, 0, 15⟩,
  ⟨0x13, 0xA0, 0x0000, 0x0, 1, 0, 2, 0, 2, 0, 14⟩,
  ⟨0x13, 0xA0, 0x0000, 0x0, 1, 2, 2, 0, 2, 0, 14⟩,
  ⟨0x13, 0xA0, 0x0000, 0x0, 1, 4, 4, 3, 15, 0, 14⟩,
  ⟨0x13, 0xA0, 0x0000, 0x0, 1, 8, 4, 0, 15, 0, 14⟩,
  ⟨0x13, 0xA0, 0x0000, 0x0, 1, 12, 5, 1, 30, 10, 14⟩,
  ⟨0x13, 0xA0, 0x0000, 0x0, 1, 17, 4, 0, 15, 3, 14⟩,
  ⟨0x13, 0xA0, 0x0000, 0x0, 1, 21, 7, 5, 100, 0, 14⟩,
  ⟨0x13, 0xA0, 0x0000, 0x0, 1, 28, 4, 0, 15, 0, 14⟩,
  ⟨0x13, 0xA0, 0x0004, 0x0, 1, 16, 16, 0, 65535, 0, 0⟩,
  ⟨0x02, 0x02, 0x0100, 0x40, 16, 0, 13, 0, 8191, 0, 0⟩,
  ⟨0x02, 0x02, 0x0100, 0x40, 16, 16, 3, 0, 7, 0, 0⟩,
  ⟨0x02, 0x02, 0x0100, 0x40, 16, 19, 5, 0, 31, 0, 0⟩,
  ⟨0x02, 0x02, 0x0100, 0x40, 16, 31, 1, 0, 1, 0, 0⟩]

/-- The CFG fields of all blocks. -/
def cfgFields : List CfgField :=
  cfgFields0 ++ cfgFields1 ++ cfgFields2 ++ cfgFields3 ++ cfgFields4 ++ cfgFields5

end Sys2Proof.Machine
end

