-- ==== Sys2Proof/Machine/Mbx.lean ====
section
/-! DEFINITION. The host interface: queue pairs, doorbells, consumption, moderation, management frames, SPI and the v1
mailbox (03). -/

namespace Sys2Proof.Machine

/-- The PCIe lines: pairs bound to port 1, and the PCIe v1 instance. -/
def pcieLine (s : State) (line : Nat) : Bool :=
  if line < 16 then (get s.mbx.pairs line).active && (get s.mbx.pairs line).port == 1 else line == 16

/-- A PCIe owner loses its office with the link (R99). -/
def vacatePcie (s : State) : State := if s.own.owner == 1 then vacateOwner s else s

/-- The PCIe link goes down (R70, R99, R114). -/
def pcieDown (s : State) : State :=
  let s1 := discardLines stFault 0 (pcieLine s) { s with own.pcieUp := false }
  vacatePcie (clearHostTargets s1)

/-- PCIE_LINK_DOWN (R70): PCIe commands are discarded, host targets cleared, a PCIe owner vacated; pairs and energy
stay. -/
def execPcieLinkDown (t : Nat) (s : State) : Host.Outcome State Fault Refusal := .next (pcieDown (s.at t))

/-- PCIE_HOT_RESET (R70, R114): commands are discarded and the host targets cleared; no device reset. -/
def execPcieHotReset (t : Nat) (s : State) : Host.Outcome State Fault Refusal :=
  let s := s.at t
  .next (clearHostTargets (discardLines stFault 0 (pcieLine s) s))

/-- PCIE_REFCLK_LOSS (R27): the link goes down with the clock. -/
def execPcieRefclkLoss (t : Nat) (s : State) : Host.Outcome State Fault Refusal := .next (pcieDown (s.at t))

/-! ### Queue pairs (R72, R76) -/

/-- A depth a pair may have (R72). -/
def depthOk (d : Nat) : Bool := 4 ≤ d && d ≤ 4096 && (List.range 13).any (fun k => 2 ^ k == d)

/-- The first run of `n` free staging quanta (R72). -/
def findQuanta (s : State) (n : Nat) : Option Nat :=
  (List.range 16).find? (fun k => decide (k + n ≤ 16) && (List.range n).all (fun i => get s.mbx.stageFree (k + i)))

/-- Staging quanta `first` to `first + n - 1` marked free or taken. -/
def markQuanta (first n : Nat) (v : Bool) (s : State) : State :=
  { s with mbx.stageFree := updAll s.mbx.stageFree fun i b => if first ≤ i ∧ i < first + n then v else b }

/-- A pair comes into being with all counters at 0, its credits full (R23, R72). -/
def makePair (n port depth quanta first : Nat) (bound : Bool) (s : State) : State :=
  markQuanta first quanta false { s with mbx.pairs := upd s.mbx.pairs n fun p =>
    { depth := depth, port := port, quanta := quanta, enable := true, active := true, firstQuantum := first,
      quantaHeld := quanta, bound := bound, irqCount := p.irqCount, irqTimer := p.irqTimer,
      irqVector := p.irqVector, irqTarget := p.irqTarget, irqEnable := p.irqEnable } }

/-- The recorded commands of before the reset are answered in a pair created with their number and port (R87). -/
def replayPrior (n : Nat) (s : State) : State :=
  let port := (get s.mbx.pairs n).port
  let mine := s.mbx.prior.filter (fun r => r.line == n && r.port == port)
  let s1 := { s with mbx.prior := s.mbx.prior.filter (fun r => !(r.line == n && r.port == port)) }
  mine.foldl (fun a r => deliver n { opcode := r.opcode, status := stReset, priorEpoch := true, tag := r.tag, sqSeq := r.seq } a) s1

/-- A creation fails with its ERR_CODE, and nothing is created (R72). -/
def createErr (n code : Nat) (s : State) : State :=
  { s with mbx.pairs := upd s.mbx.pairs n fun p => { p with cfgErr := true, errCode := code, active := false } }

/-- The configuration binds pair number `n` to a management port that it enables (R72). -/
def cfgBinds (s : State) (n : Nat) : Bool :=
  let w := rdw s (baseMBX + 0x100 + 0x40 * n)
  s.cfg.loaded && bit w 31 && ([3, 4, 5] : List Nat).contains (bits w 16 3) && portEnabled s (bits w 16 3)

/-- The ERR_CODE of a PCIe creation, the first check that fails in the order of R72; 0 where all pass. -/
def createCheck (n depth port quanta : Nat) (s : State) : Nat :=
  if !depthOk depth then 1
  else if port ≠ 1 then 2
  else if cfgBinds s n then 4
  else if quanta < 1 || 16 < quanta || (findQuanta s quanta).isNone then 3
  else 0

/-- A PCIe write to MBX_Qn_CFG (R72, R76): it creates, stores, runs down, or is ignored with CFG_BAD. -/
def queueCfgWrite (n word : Nat) (s : State) : State :=
  let p := get s.mbx.pairs n
  let enable := bit word 31
  if p.bound || p.runDown || (p.active && enable) then mbxErr n (fun m => { m with cfgBad := true }) s
  else if p.active then { s with mbx.pairs := upd s.mbx.pairs n fun q => { q with runDown := true, enable := false } }
  else
    let d := bits word 0 13
    let port := bits word 16 3
    let q := bits word 19 5
    let s1 := { s with mbx.pairs := upd s.mbx.pairs n fun x => { x with depth := d, port := port, quanta := q, enable := enable } }
    if !enable then s1
    else
      let code := createCheck n d port q s
      if code ≠ 0 then createErr n code s1
      else replayPrior n (makePair n 1 d q ((findQuanta s q).getD 0) false s1)

/-- QUEUE_CREATE (R72): a write of MBX_Qn_CFG from the PCIe port. -/
def execQueueCreate (t n word : Nat) (s : State) : Host.Outcome State Fault Refusal :=
  .next (queueCfgWrite n word (s.at t))

/-- QUEUE_RUNDOWN (R76): ENABLE written 0 to an active PCIe pair; a pair the configuration binds is not touched. -/
def execQueueRundown (t n : Nat) (s : State) : Host.Outcome State Fault Refusal :=
  .next (queueCfgWrite n 0 (s.at t))

/-- A pair's run-down is complete (R76): ACTIVE clears and its quanta are freed; prior records not yet written stay
recorded (R87). -/
def rundownDone (n : Nat) (s : State) : State :=
  let p := get s.mbx.pairs n
  let back := (p.owed.filter (fun c => c.priorEpoch)).map fun c =>
    ({ line := n, port := p.port, seq := c.sqSeq, tag := c.tag, opcode := c.opcode } : PriorRec)
  markQuanta p.firstQuantum p.quantaHeld true
    { s with mbx.prior := s.mbx.prior ++ back,
             mbx.pairs := upd s.mbx.pairs n fun q =>
               { q with active := false, runDown := false, quantaHeld := 0, owed := [], unsig := [], dataAt := [], timerOn := false } }

/-- QUEUE_RUNDOWN_DONE (R76): taken once every consumed command of the running-down pair has completed. -/
def execQueueRundownDone (t n : Nat) (s : State) : Host.Outcome State Fault Refusal :=
  let s := s.at t
  if (get s.mbx.pairs n).runDown && s.mbx.cmds.all (fun c => c.line != n) then .next (rundownDone n s) else .next s

/-! ### Doorbells (R74, R75) -/

/-- A doorbell of port `port`: a foreign or inactive pair, or more entries than credits, leaves the tail as it was. -/
def sqDoorbell (n port tail : Nat) (s : State) : State :=
  let p := get s.mbx.pairs n
  if !p.active || p.port ≠ port then mbxErr n (fun m => { m with dbForeign := true }) s
  else if p.depth < (tail + 65536 - p.sqHead) % 65536 then mbxErr n (fun m => { m with sqOverrun := true }) s
  else { s with mbx.pairs := upd s.mbx.pairs n fun q => { q with sqTail := tail % 65536 } }

/-- SQ_DOORBELL (R74, R76): the PCIe host writes the SQ tail. -/
def execSqDoorbell (t n tail : Nat) (s : State) : Host.Outcome State Fault Refusal :=
  .next (sqDoorbell n 1 tail (s.at t))

/-- A CQ head write: one that passes the CQ tail is ignored; otherwise the slots it passes are free again, passed
completions stop counting for moderation, and completions that waited are written (R75, R88). -/
def cqDoorbell (n port head : Nat) (s : State) : State :=
  let p := get s.mbx.pairs n
  if !p.active || p.port ≠ port then mbxErr n (fun m => { m with dbForeign := true }) s
  else if cqUsed p < (head + 65536 - p.cqHead) % 65536 then mbxErr n (fun m => { m with cqHeadBad := true }) s
  else
    let adv := (head + 65536 - p.cqHead) % 65536
    let s1 := { s with mbx.pairs := upd s.mbx.pairs n fun q =>
      { q with cqHead := head % 65536, unsig := q.unsig.filter (fun c => adv ≤ (c + 65536 - p.cqHead) % 65536),
               dataAt := q.dataAt.filter fun x => adv ≤ (x.1 + 65536 - p.cqHead) % 65536 } }
    let s2 := { s1 with mbx.pairs := upd s1.mbx.pairs n fun q => { q with timerOn := q.timerOn && q.unsig != [] } }
    flushOwed n p.owed.length s2

/-- CQ_DOORBELL (R75): the PCIe host returns completion slots. -/
def execCqDoorbell (t n head : Nat) (s : State) : Host.Outcome State Fault Refusal :=
  .next (cqDoorbell n 1 head (s.at t))

/-! ### Consumption (R83) -/

/-- The next line the round robin serves, where one is ready and fewer than 256 commands are uncompleted (R83). -/
def nextLine (s : State) : Option Nat :=
  if s.mbx.cmds.length < 256 then (robin s.mbx.lastLine).find? (fun l => lineServed s l && lineReady s l) else none

/-- A single-bit error found by a read is counted, raises SYS source 4, and is recorded at most once in 60 s (R33). -/
def eccCorrected (s : State) : State :=
  let s1 := fireEvent 4 { s with sys.eccCnt := (s.sys.eccCnt + 1) % 2 ^ 32 }
  match s.sys.lastEccRec with
  | none => raiseError errEccCorr 0 { s1 with sys.lastEccRec := some s.now }
  | some u => if u + 60000000000 ≤ s.now then raiseError errEccCorr 0 { s1 with sys.lastEccRec := some s.now } else s1

/-- ENTRY_CONSUME (R75, R83, R84): the device takes the next entry in round robin. `ecc` says what the read found: 0
nothing, 1 a corrected bit, 2 a double-bit error, which poisons the entry (R33). -/
def execEntryConsume (t ecc : Nat) (host : List Nat) (s : State) : Host.Outcome State Fault Refusal :=
  let s := s.at t
  match nextLine s with
  | none => .next s
  | some l =>
    let s1 := takeEntry l host (ecc == 2) s
    if ecc == 2 then .next (raiseError errDoubleQ l s1)
    else if ecc == 1 then .next (eccCorrected s1)
    else .next s1

/-! ### Moderation and wake (R88, R89) -/

/-- MBX_Qn_IRQ is written (R88): moderation is set; a value outside its range changes nothing and sets CFG_BAD. -/
def irqWrite (n word : Nat) (s : State) : State :=
  let c := bits word 0 8
  let u := bits word 8 12
  if c < 1 || u < 1 || 4000 < u then mbxErr n (fun m => { m with cfgBad := true }) s
  else
    let s1 := { s with mbx.pairs := upd s.mbx.pairs n fun p =>
      { p with irqCount := c, irqTimer := u, irqVector := bits word 20 5, irqTarget := bit word 25, irqEnable := bit word 31 } }
    notifyVectors s (cqModerate n s1)

/-- MBX_IRQ_WRITE (R88). -/
def execMbxIrqWrite (t n word : Nat) (s : State) : Host.Outcome State Fault Refusal := .next (irqWrite n word (s.at t))

/-- CQ_IRQ_TIMER (R88): TIMER µs have passed since the oldest unsignalled completion. -/
def execCqIrqTimer (t n : Nat) (s : State) : Host.Outcome State Fault Refusal :=
  let s := s.at t
  if (get s.mbx.pairs n).timerOn then .next (cqSignal n s) else .next s

/-- A completion is pending for a port (R89). -/
def complPending (s : State) (port : Nat) : Bool :=
  (List.range 16).any (fun n => (get s.mbx.pairs n).active && (get s.mbx.pairs n).port == port
    && cqUsed (get s.mbx.pairs n) != 0)
  || (port == 1 && s.mbx.v1p.done) || (port == 2 && s.mbx.v1s.done)

/-- Level of HOST_WAKE (R89): a port's host-sleep flag is set and a completion for it is pending. -/
def hostWake (s : State) : Bool :=
  (s.mbx.v1p.sleep && complPending s 1) || (s.mbx.v1s.sleep && complPending s 2)

/-- HOST_SLEEP_SET (R89): MBX_HSLEEP.PCIE, or SLEEP of the SPI instance, is written. -/
def execHostSleepSet (t : Nat) (spi asleep : Bool) (s : State) : Host.Outcome State Fault Refusal :=
  .next (setV1 (s.at t) (if spi then 17 else 16) fun v => { v with sleep := asleep })

/-! ### Management frames (R90 to R94) -/

/-- The frame key slot that the configuration binds to a management port; 0 for none (R68, log entry 8). -/
def frameKeySlot (s : State) (port : Nat) : Nat :=
  match port with
  | 3 => param s pFRAME_KEY_ETH0 0
  | 4 => param s pFRAME_KEY_ETH1 0
  | _ => param s pFRAME_KEY_OZL 0

/-- The port's frame key slot is filled: without its key no tag can pass (R68, R91). -/
def frameKeyFilled (s : State) (port : Nat) : Bool :=
  let k := frameKeySlot s port
  k != 0 && (get s.key.slots k).filled

/-- A word of a MAC's block. DESIGN CHOICE (log entry 8): the spec names no register for the MAC's addressing; the model takes
word 0 for the IPv4 address, word 1 for the UDP port (0: the default) and word 2 for the VLAN (bit 31: named; [11:0] its ID). -/
def macWord (s : State) (mac k : Nat) : Nat := rdw s (0x40180000 + mac * 0x10000 + 4 * k)

/-- The device's configured IPv4 address on a MAC (R90, log entry 8). -/
def macAddr (s : State) (mac : Nat) : Nat := macWord s mac 0

/-- The device's configured UDP port on a MAC, 48,760 by default (R90). -/
def macUdp (s : State) (mac : Nat) : Nat := if bits (macWord s mac 1) 0 16 = 0 then 48760 else bits (macWord s mac 1) 0 16

/-- A VLAN tag is accepted only where the configuration names its VLAN (R90). -/
def vlanOk (s : State) (mac : Nat) : Option Nat → Bool
  | none => true
  | some v => bit (macWord s mac 2) 31 && bits (macWord s mac 2) 0 12 == v

/-- The frame is a management frame of R91 for this device, with `len` body bytes: on a MAC, UDP to its configured address and
port (R90). Any other changes nothing, and R92 counts it in no case (DEDUCED, log entry 63). -/
def frameTaken (f : MgmtFrame) (len : Nat) (s : State) : Bool :=
  f.magic == 0x4B76 && f.ver == 1 && f.dir == 0 && f.len == len && 4 ≤ len && len ≤ 1028
    && (f.port == 5 || (f.addr == macAddr s (f.port - 3) && f.udp == macUdp s (f.port - 3) && vlanOk s (f.port - 3) f.vlan))

/-- A frame fails R92: tag, epoch or stale FSEQ. -/
def frameBad (f : MgmtFrame) (s : State) : Bool :=
  !(f.tagOk && frameKeyFilled s f.port) || f.epoch != s.mbx.epoch || f.fseq ≤ get s.mbx.fseqIn (f.port - 3)

/-- A dropped frame is counted and sets FRAME_AUTH (R92). -/
def dropFrame (f : MgmtFrame) (s : State) : State :=
  mbxErr f.pair (fun m => { m with frameAuth := true, dropCnt := (m.dropCnt + 1) % 65536 }) s

/-- An accepted frame's FSEQ becomes the last one of its port (R92), and its sender the one that is answered. -/
def acceptFrame (f : MgmtFrame) (s : State) : State :=
  { s with
    mbx.fseqIn := upd s.mbx.fseqIn (f.port - 3) fun _ => f.fseq, mbx.peer := upd s.mbx.peer (f.port - 3) fun _ => f.src }

/-- What a received management frame with `len` body bytes does: one that is not for the device nothing, a bad one counts (R92),
and a good one acts by `body`. -/
def onFrame (f : MgmtFrame) (len : Nat) (body : State → State) (s : State) : State :=
  if !frameTaken f len s then s
  else if frameBad f s then dropFrame f s
  else body (acceptFrame f s)

/-- The frame names a pair that is not active or not its port's own (R76, R93). -/
def foreignPair (f : MgmtFrame) (s : State) : Bool :=
  !(get s.mbx.pairs f.pair).active || (get s.mbx.pairs f.pair).port != f.port

/-- BODY of a CREDIT frame of the device (R91): SQ head, next SQ counter expected, CQ tail. -/
def creditBody (p : Pair) : List Nat := leBytes 2 p.sqHead ++ leBytes 2 p.sqTail ++ leBytes 2 p.cqTail ++ [0, 0]

/-- A CREDIT frame of a pair (R91). -/
def sendCredit (n : Nat) (s : State) : State :=
  let p := get s.mbx.pairs n
  sendFrame p.port n .mgmtCredit (creditBody p) s

/-- The entries of an accepted SUBMIT are written to their slots: duplicates are skipped, entries beyond the credits
dropped (R93). Answers the tail reached. -/
def submitEntries (n : Nat) : List (List Nat) → Nat → State → State
  | [], _, s => s
  | e :: es, ctr, s =>
    let p := get s.mbx.pairs n
    if ctr % 65536 = p.sqTail ∧ 0 < sqCredits p then
      submitEntries n es (ctr + 1)
        { s with mem := memWriteBytes s.mem (sqSlotAddr n p.depth ctr) e,
                 mbx.pairs := upd s.mbx.pairs n fun q => { q with sqTail := (q.sqTail + 1) % 65536 } }
    else submitEntries n es (ctr + 1) s

/-- MGMT_SUBMIT (R92, R93). -/
def execMgmtSubmit (t : Nat) (f : MgmtFrame) (first : Nat) (entries : List (List Nat)) (s : State) :
    Host.Outcome State Fault Refusal :=
  .next (onFrame f (4 + 64 * entries.length) (fun s =>
    if foreignPair f s then mbxErr f.pair (fun m => { m with dbForeign := true }) s
    else if 32768 ≤ ((get s.mbx.pairs f.pair).sqTail + 65536 - first) % 65536 then s
    else sendCredit f.pair (submitEntries f.pair entries first s)) (s.at t))

/-- MGMT_HOST_CREDIT (R92, R93): acts as the CQ head doorbell. -/
def execMgmtHostCredit (t : Nat) (f : MgmtFrame) (head : Nat) (s : State) : Host.Outcome State Fault Refusal :=
  .next (onFrame f 4 (cqDoorbell f.pair f.port head) (s.at t))

/-- MGMT_DATA (R92, R93): data bytes into the pair's staging quanta; a pair that is not active or not the port's own
is foreign, and bytes outside its quanta are not written. -/
def execMgmtData (t : Nat) (f : MgmtFrame) (ofs : Nat) (data : List Nat) (s : State) : Host.Outcome State Fault Refusal :=
  .next (onFrame f (4 + data.length) (fun s =>
    let p := get s.mbx.pairs f.pair
    if foreignPair f s then mbxErr f.pair (fun m => { m with dbForeign := true }) s
    else if p.firstQuantum * 0x10000 ≤ ofs ∧ ofs + data.length ≤ (p.firstQuantum + p.quantaHeld) * 0x10000 then
      { s with mem := memWriteBytes s.mem (0x20800000 + ofs) data }
    else s) (s.at t))

/-- MGMT_CREDIT_TIMER (R93): 100 ms passed while a management pair is active. -/
def execMgmtCreditTimer (t n : Nat) (s : State) : Host.Outcome State Fault Refusal :=
  let s := s.at t
  let p := get s.mbx.pairs n
  if p.active && 3 ≤ p.port then .next (sendCredit n s) else .next s

/-- MGMT_RESEND_TIMER (R93): every completion between the host's CQ head and the CQ tail is sent again, with its response
DATA. -/
def execMgmtResendTimer (t n : Nat) (s : State) : Host.Outcome State Fault Refusal :=
  let s := s.at t
  let p := get s.mbx.pairs n
  if p.active && 3 ≤ p.port then
    .next ((List.range (cqUsed p)).foldl (fun a k => sendComplete n ((p.cqHead + k) % 65536) a) s)
  else .next s

/-- ARP_REQUEST (R90): answered for the configured address. -/
def execArpRequest (t mac addr : Nat) (s : State) : Host.Outcome State Fault Refusal :=
  let s := s.at t
  if addr == macAddr s mac then .next (emit s .arpReply mac [addr]) else .next s

/-- ICMP_ECHO (R90): an echo request to the configured address is answered with its data. -/
def execIcmpEcho (t mac addr : Nat) (data : List Nat) (s : State) : Host.Outcome State Fault Refusal :=
  let s := s.at t
  if addr == macAddr s mac then .next (emit s .icmpReply mac (data.map Int.ofNat)) else .next s

/-! ### The v1 mailbox and the SPI port (R95, R96) -/

/-- The recorded commands of a v1 instance are answered first (R87). -/
def replayPriorV1 (line : Nat) (s : State) : State :=
  let mine := s.mbx.prior.filter (fun r => r.line == line)
  let s1 := { s with mbx.prior := s.mbx.prior.filter (fun r => r.line != line) }
  mine.foldl (fun a r => deliver line { opcode := r.opcode, status := stReset, priorEpoch := true, tag := r.tag, sqSeq := r.seq } a) s1

/-- GO is written (R96): while GO, DONE or FINAL_PENDING is set it is ignored with SQ_OVERRUN (MBX_ERR.PAIR is then 0, DESIGN
CHOICE, log entry 64: a v1 instance is no pair); otherwise the entry in MBX_V1_CMD is taken at once where R83 allows it, outside
the round robin of the pairs. -/
def v1Go (line : Nat) (s : State) : State :=
  let v := getV1 s line
  if v.go || v.done || v.finalPending then mbxErr 0 (fun m => { m with sqOverrun := true }) s
  else
    let s1 := replayPriorV1 line (setV1 s line fun w => { w with go := true })
    if s1.mbx.cmds.length < 256 && lineServed s1 line then { takeEntry line [] false s1 with mbx.lastLine := s.mbx.lastLine } else s1

/-- V1_GO (R96). -/
def execV1Go (t : Nat) (spi : Bool) (s : State) : Host.Outcome State Fault Refusal :=
  .next (v1Go (if spi then 17 else 16) (s.at t))

/-- DONE is written 1: the response is acknowledged, and one that waited for it is written (R96). -/
def v1DoneClear (line : Nat) (s : State) : State :=
  let s1 := setV1 s line fun w => { w with done := false }
  match (getV1 s line).held with
  | [] => s1
  | c :: r => v1Write line c (setV1 s1 line fun w => { w with held := r })

/-- V1_DONE_CLEAR (R96). -/
def execV1DoneClear (t : Nat) (spi : Bool) (s : State) : Host.Outcome State Fault Refusal :=
  .next (v1DoneClear (if spi then 17 else 16) (s.at t))

/-- MBX_V1_DADDR advances by 4 with every access to MBX_V1_DDATA (R95). -/
def v1Advance (line : Nat) (s : State) : State := setV1 s line fun w => { w with daddr := (w.daddr + 4) % 65536 }

/-- The buffer word at MBX_V1_DADDR. -/
def v1Word (line : Nat) (s : State) : Nat := memRead (getV1 s line).buf (getV1 s line).daddr 4

/-- MBX_V1_DDATA written. -/
def v1DataWrite (line word : Nat) (s : State) : State :=
  v1Advance line (setV1 s line fun w => { w with buf := memWrite w.buf w.daddr 4 word })

/-- V1_DDATA_ACCESS (R95): the buffer word at MBX_V1_DADDR is written or read. -/
def execV1DdataAccess (t : Nat) (spi write : Bool) (word : Nat) (s : State) : Host.Outcome State Fault Refusal :=
  let line := if spi then 17 else 16
  let s := s.at t
  if write then .next (v1DataWrite line word s)
  else .next (v1Advance line (emit s .readData line [(v1Word line s : Int)]))

/-- One word written to a v1 instance at MBX offset `ofs` (0x2000 upward). DESIGN CHOICE (log entry 64): a write of MBX_V1_CTRL
with DONE and GO both 1 clears DONE first, and then takes GO. -/
def v1RegWrite (line ofs word : Nat) (s : State) : State :=
  if ofs < 0x2040 then
    setV1 s line fun w =>
      let e := (w.cmd ++ List.replicate 64 0).take 64
      { w with cmd := e.take (ofs - 0x2000) ++ leBytes 4 word ++ e.drop (ofs - 0x2000 + 4) }
  else if ofs = 0x2080 then
    let s1 := setV1 s line fun w => { w with sleep := bit word 16 }
    let s2 := if bit word 8 then v1DoneClear line s1 else s1
    if bit word 0 then v1Go line s2 else s2
  else if ofs = 0x2084 then setV1 s line fun w => { w with daddr := word % 65536 - word % 4 }
  else if ofs = 0x2088 then v1DataWrite line word s
  else s

/-- One word read from a v1 instance at MBX offset `ofs`. -/
def v1RegRead (line ofs : Nat) (s : State) : Nat :=
  let v := getV1 s line
  if ofs < 0x2000 then 0
  else if ofs < 0x2040 then entryField v.cmd (ofs - 0x2000) 4
  else if ofs < 0x2080 then entryField v.rsp (ofs - 0x2040) 4
  else if ofs = 0x2080 then packBits [(0, b2n v.go), (8, b2n v.done), (9, b2n v.finalPending), (16, b2n v.sleep)]
  else if ofs = 0x2084 then v.daddr
  else if ofs = 0x2088 then v1Word line s
  else 0

/-- What the SPI port reaches and cannot write: the SYS identity registers and the v1 response (R38, R95). -/
def spiReadOnly (a : Nat) : Bool := a < 0x10 || a == 0x1C || (0x6040 ≤ a && a < 0x6080)

/-- The words of an SPI write land one after another; the address stays at MBX_V1_DDATA (R95), and a word for something
read-only is counted (R38). -/
def spiWords : List Nat → Nat → State → State
  | [], _, s => s
  | w :: ws, a, s =>
    let s1 := if spiReadOnly a then countAccess s
      else if 0x6000 ≤ a ∧ a < 0x608C then v1RegWrite 17 (a - 0x4000) w s else s
    spiWords ws (if a = 0x6088 then a else a + 4) s1

/-- SPI_WRITE (R95): applied only after its CRC-8 has checked. -/
def execSpiWrite (t addr : Nat) (words : List Nat) (crc : Nat) (s : State) : Host.Outcome State Fault Refusal :=
  let s := s.at t
  let bytes := [0x02, addr / 256 % 256, addr % 256, words.length] ++ (words.map (leBytes 4)).flatten
  if crc8 bytes = crc then .next (spiWords words addr { s with mbx.spiCrcBad := false })
  else .next { s with mbx.spiCrcBad := true }

end Sys2Proof.Machine
end

