-- ==== Sys2Proof/Machine/CfgLoad.lean ====
section
/-! DEFINITION. Configuration images (R510 to R516): reading their sections and records, loading them, the checks of
validation, and the entry to M3. -/

namespace Sys2Proof.Machine

/-! ### Sections and records (R512, R513) -/

/-- Address of configuration area Pa in the xSPI0 window (R510). -/
def areaAddr (a : Nat) : Nat := 0x84400000 + 0x400000 * a

/-- A section of the image at `base`. -/
structure Sect where
  id : Nat
  fmt : Nat
  ofs : Nat
  len : Nat
  crc : Nat
deriving DecidableEq, Repr

/-- A record of a section: its target, byte offset and length, the address of its data, and its offset in the section. -/
structure CfgRec where
  sec : Nat
  tgt : Nat
  ofs : Nat
  len : Nat
  addr : Nat
  at0 : Nat
deriving DecidableEq, Repr

/-- The section table of the image at `base` (R512). -/
def sections (m : Memory) (base : Nat) : List Sect :=
  (List.range (memRead m (base + 20) 2)).map fun k =>
    let e := base + 64 + 16 * k
    { id := memRead m e 2, fmt := memRead m (e + 2) 2, ofs := memRead m (e + 4) 4, len := memRead m (e + 8) 4,
        crc := memRead m (e + 12) 4 }

/-- The records from `addr` on, `left` bytes of the section remaining (R513). -/
def recordsFrom (m : Memory) (sec at0 addr : Nat) : Nat → Nat → List CfgRec
  | 0, _ => []
  | k + 1, left =>
    if left < 8 then []
    else
      let len := memRead m (addr + 2) 2
      { sec := sec, tgt := memRead m addr 2, len := len, ofs := memRead m (addr + 4) 4, addr := addr + 8, at0 := at0 }
        :: recordsFrom m sec (at0 + 8 + len) (addr + 8 + len) k (left - 8 - len)

/-- The records of one section. -/
def sectRecords (m : Memory) (base : Nat) (x : Sect) : List CfgRec := recordsFrom m x.id 0 (base + x.ofs) (x.len / 12) x.len

/-- Every record of an image. -/
def imageRecords (m : Memory) (base : Nat) : List CfgRec := ((sections m base).map (sectRecords m base)).flatten

/-- The records fill their section: each has its data whole, of 4 to 65,532 bytes in words (R513). -/
def sectWhole (m : Memory) (base : Nat) (x : Sect) : Bool :=
  let rs := sectRecords m base x
  (rs.all fun r => 4 ≤ r.len && r.len % 4 == 0) && (rs.map fun r => 8 + r.len).foldl (· + ·) 0 == x.len

/-! ### What a section may carry (R514) -/

/-- The known sections: 0 for power-neutral no, 1 for yes. -/
def sectionTable : List (Nat × Nat) :=
  [(0x01, 0), (0x02, 0), (0x03, 0), (0x10, 0), (0x11, 1), (0x12, 1), (0x13, 1), (0x20, 0), (0x21, 0), (0x30, 0), (0x31, 1),
   (0x40, 1), (0x41, 0), (0x50, 0), (0x60, 0), (0x70, 0), (0x80, 0), (0x81, 1), (0x90, 0), (0x91, 1), (0xA0, 0), (0xB0, 0),
   (0xC0, 0)]

/-- The section is power-neutral. -/
def isNeutral (id : Nat) : Bool := sectionTable.contains (id, 1)

/-- The sections every image has. -/
def requiredSections : List Nat := [0x01, 0x02, 0x10, 0x11]

/-- The peripheral blocks, by TGT, of a section. -/
def sectBlocks : Nat → List Nat
  | 0x01 => [0x00, 0x16]
  | 0x02 => [0x02, 0x03, 0x18, 0x19]
  | 0x03 => [0x01]
  | 0x20 => [0x05]
  | 0x21 => [0x05]
  | 0x40 => [0x07]
  | 0x41 => [0x07]
  | 0x50 => [0x08]
  | 0x60 => [0x09]
  | 0x70 => [0x0E, 0x0F]
  | 0x80 => [0x10]
  | 0x81 => [0x10]
  | 0x90 => [0x11]
  | 0x91 => [0x12]
  | 0xA0 => [0x13]
  | 0xB0 => [0x14]
  | _ => []

/-- The sections that may carry firmware parameters. -/
def sectParams (id : Nat) : Bool := [0x01, 0x02, 0x10, 0x12, 0x21, 0x60, 0x90, 0xB0, 0xC0].contains id

/-- The field lies in the register word at byte offset `ofs` of block `tgt`. -/
def CfgField.inWord (f : CfgField) (tgt ofs : Nat) : Bool :=
  f.tgt == tgt && f.ofs ≤ ofs &&
    (if f.stride == 0 then ofs == f.ofs else (ofs - f.ofs) % f.stride == 0 && decide ((ofs - f.ofs) / f.stride < f.num))

/-- EVG_SRCn_CFG of a reserved source, which has no configuration and reads 0 (R104). -/
def reservedCfg (tgt ofs : Nat) : Bool :=
  tgt == 1 && 0x400 ≤ ofs && ofs < 0xC00 && reservedSources.contains ((ofs - 0x400) / 4)

/-- The bits of a register word that a section loads. -/
def wordMask (sec tgt ofs : Nat) : Nat :=
  if tgt == 0x0E || tgt == 0x0F then
    (if sec != 0x70 then 0
     else if ofs == 0 then 0x3F
     else if ofs == 4 then 0x3FFFFFFF
     else if ofs == 8 then 0x1FFFFFF
     else if 0x1000 ≤ ofs && ofs < 0x4000 then 0xFFFFFFFF
     else 0)
  else if tgt == 0x18 || tgt == 0x19 then (if sec == 2 then 0xFFFFFFFF else 0)
  else if reservedCfg tgt ofs then 0
  else
    (cfgFields.filter fun f => f.sec == sec && f.inWord tgt ofs).foldl (fun m f => m ||| (2 ^ f.width - 1) * 2 ^ f.lo) 0

/-- The bits of a byte of the Sluice table RAM or Reedbed RAM that a section loads (R514). -/
def ramMask (sec tgt ofs : Nat) : Nat :=
  if tgt == 0x100 then
    (let e := ofs % 128
     if ofs < 0x80000 then
       (if sec == 0x10 then (if e < 4 then 255 else if e == 4 then 0x10 else 0)
        else if sec == 0x11 then (if (8 ≤ e && e < 21) || e == 22 || e == 23 then 255 else 0)
        else 0)
     else if ofs < 0x100000 then
       (if sec == 0x10 then (if e < 8 then 255 else 0) else if sec == 0x11 then (if 8 ≤ e && e < 21 then 255 else 0) else 0)
     else if ofs < 0x100014 then
       (if sec == 0x10 then (if ofs < 0x100003 then 255 else 0) else if sec == 0x11 then (if 0x100003 ≤ ofs then 255 else 0) else 0)
     else if 0x101000 ≤ ofs && ofs < 0x102000 then (if sec == 0x13 then 255 else 0)
     else 0)
  else if tgt == 0x101 then
    (if ofs < 0x1000 then (if sec == 0x30 && ofs % 64 < 52 && ofs % 64 != 15 then 255 else 0)
     else if ofs < 0x9000 then (if sec == 0x31 then 255 else 0)
     else 0)
  else 0

/-- Firmware parameters with their section, least and greatest value. -/
def paramRanges : List (Nat × Nat × Nat × Nat) :=
  [(0x10, pT_RND, 2, 100), (0x10, pFEN_RND_MULT, 2, 16), (0x12, pDG_ENABLE, 0, 1), (0x12, pT_DI, 1, 60), (0x12, pDG_MARGIN, 0, 10),
   (0x12, pDG_U_ROUNDS, 1, 100), (0x12, pP_C, 1, 4294967295), (0x01, pAUTO_READY, 0, 1), (0x01, pCONTACTOR_HOLD, 0, 200),
   (0x01, pHTR_LIMIT, 0, 10000), (0x02, pPORT_ENABLE, 0, 31), (0x21, pT_BLEED, 10, 60000), (0x60, pWAIT_MAX, 10, 600),
   (0x60, pLOCK_T, 50, 2000), (0x60, pOV_MARGIN, 5, 50), (0x90, pPTP_PROFILE_0, 0, 2), (0x90, pPTP_PROFILE_1, 0, 2),
   (0x90, pSYNC_INT, 15625, 1000000)]

/-- The section whose own a parameter is (R514): those with a range, and those that name key slots, the time root, the pair. -/
def paramHome : List (Nat × Nat) :=
  (paramRanges.map fun p => (p.1, p.2.1))
    ++ [(0x02, pOZL_GATEWAY), (0x12, pDG_ALIGN), (0x12, pDG_SETS), (0x12, pDG_SET_MAX), (0x12, pDG_REPORT),
        (0x12, pDG_ROOT_NODE), (0x60, pPP_T1), (0x60, pPP_T2), (0x60, pPP_T3), (0x60, pPP_BAND_0), (0x60, pPP_BAND_1),
        (0x60, pPP_BAND_2), (0x60, pPP_BAND_3), (0x90, pTIME_ROOT_0), (0x90, pTIME_ROOT_1), (0x90, pOZL_ASYM_0), (0x90, pOZL_ASYM_1),
        (0x90, pOZL_ASYM_2), (0x90, pOZL_ASYM_3), (0x90, pMASTER_OK_0), (0x90, pMASTER_OK_1), (0x90, pPTP_DOMAIN_0),
        (0x90, pPTP_DOMAIN_1), (0xB0, pDPX_ID_A), (0xB0, pDPX_ID_B), (0xC0, pCBL_ISSUER_0), (0xC0, pCBL_ISSUER_1),
        (0xC0, pCBL_ISSUER_2), (0xC0, pCBL_ISSUER_3), (0xC0, pCBL_ISSUER_4), (0xC0, pCBL_ISSUER_5), (0xC0, pCBL_ISSUER_6),
        (0xC0, pCBL_ISSUER_7)]

/-- A parameter record is in a section that may carry parameters, a parameter with a section of its own in that one (R514);
T_BLEED has 4 bytes (R212). -/
def paramAllowed (r : CfgRec) : Bool :=
  sectParams r.sec && (r.ofs != pT_BLEED || r.len == 4)
    && (match paramHome.find? fun p => p.2 == r.ofs with
      | some p => p.1 == r.sec
      | none => true)

/-- A record's target is allowed for its section: its block, RAM or parameters, and no word of another section's. -/
def recAllowed (r : CfgRec) : Bool :=
  if r.tgt == 0x200 then paramAllowed r
  else if r.tgt == 0x100 then r.sec == 0x10 || r.sec == 0x11 || r.sec == 0x13
  else if r.tgt == 0x101 then r.sec == 0x30 || r.sec == 0x31
  else (sectBlocks r.sec).contains r.tgt && (List.range (r.len / 4)).all fun k =>
    wordMask r.sec r.tgt (r.ofs + 4 * k) != 0 || reservedCfg r.tgt (r.ofs + 4 * k)
      || !(cfgFields.any fun f => f.inWord r.tgt (r.ofs + 4 * k))

/-! ### Loading (R513, R514) -/

/-- Base address of a target. -/
def tgtBase (tgt : Nat) : Nat :=
  if tgt == 0x100 then 0x50000000 else if tgt == 0x101 then 0x58000000 else 0x40000000 + tgt * 0x10000

/-- One register word of a record, its CFG fields alone. -/
def loadWord (sec tgt ofs v : Nat) (m : Memory) : Memory :=
  let mask := wordMask sec tgt ofs
  let a := tgtBase tgt + ofs
  let old := memRead m a 4
  memWrite m a 4 ((old - (old &&& mask)) ||| (v &&& mask))

/-- One byte of a RAM record; maps go to efficiency map bank `mb`, coefficients to coefficient bank `cb`. -/
def loadByte (sec tgt ofs v mb cb : Nat) (m : Memory) : Memory :=
  let o :=
    if tgt == 0x100 && 0x101000 ≤ ofs && ofs < 0x102000 then 0x101000 + 0x800 * mb + (ofs - 0x101000) % 0x800
    else if tgt == 0x101 && 0x1000 ≤ ofs && ofs < 0x9000 then 0x1000 + 0x4000 * cb + (ofs - 0x1000) % 0x4000
    else ofs
  let mask := ramMask sec tgt ofs
  let a := tgtBase tgt + o
  let old := memGet m a
  if mask == 0 then m else memSet m a ((old - (old &&& mask)) ||| (v &&& mask))

/-- A parameter takes its place in the list, identifiers rising and no value 0. -/
def putParam (id v : Nat) (l : List (Nat × Nat)) : List (Nat × Nat) :=
  let below := l.filter fun p => p.1 < id
  let above := l.filter fun p => id < p.1
  below ++ (if v = 0 then [] else [(id, v)]) ++ above

/-- One record loaded. -/
def loadRec (src : Memory) (mb cb : Nat) (s : State) (r : CfgRec) : State :=
  if r.tgt == 0x200 then { s with cfg.params := putParam r.ofs (memRead src r.addr r.len) s.cfg.params }
  else if r.tgt == 0x100 || r.tgt == 0x101 then
    { s with mem := (List.range r.len).foldl
               (fun m k => loadByte r.sec r.tgt (r.ofs + k) (memGet src (r.addr + k)) mb cb m) s.mem }
  else
    { s with mem := (List.range (r.len / 4)).foldl
               (fun m k => loadWord r.sec r.tgt (r.ofs + 4 * k) (memRead src (r.addr + 4 * k) 4) m) s.mem }

/-- A byte belongs to a CFG register of a block, a loaded table, or a configured controller's window. -/
def cfgByteMask (a : Nat) : Nat :=
  if 0x40000000 ≤ a && a < 0x401B0000 then
    (let tgt := (a - 0x40000000) / 0x10000
     let ofs := a % 0x10000
     if tgt == 0x0E || tgt == 0x0F || tgt == 0x18 || tgt == 0x19 then 255
     else (cfgFields.filter fun f => f.inWord tgt (ofs - ofs % 4)).foldl
       (fun m f => m ||| ((2 ^ f.width - 1) * 2 ^ f.lo / 256 ^ (ofs % 4) % 256)) 0)
  else if 0x50000000 ≤ a && a < 0x50200000 then 255
  else if 0x58000000 ≤ a && a < 0x58009000 then 255
  else 0

/-- Memory without what an earlier configuration loaded. -/
def clearCfg (m : Memory) : Memory :=
  m.filterMap fun c =>
    let v := c.2.toNat - (c.2.toNat &&& cfgByteMask c.1)
    if v = unlistedByte then none else some (c.1, BitVec.ofNat 8 v)

/-- The chapters' defaults that are not 0 (R514). -/
def loadDefaults (s : State) : State :=
  (cfgFields.filter fun f => f.dflt != 0).foldl (fun a f =>
    (List.range f.num).foldl (fun b k => wrf b (tgtBase f.tgt + f.ofs + f.stride * k) f.lo f.width f.dflt) a) s

/-- Some record of the list gives the byte: it covers it, and its section loads it. -/
def covered (rs : List CfgRec) (tgt ofs : Nat) : Bool :=
  rs.any fun r => r.tgt == tgt && r.ofs ≤ ofs && ofs < r.ofs + r.len && ramMask r.sec tgt ofs != 0

/-- A RAM field not given takes its default. -/
def dfltField (rs : List CfgRec) (ofs width v : Nat) (s : State) : State :=
  if covered rs 0x100 ofs then s else { s with mem := memWrite s.mem (0x50000000 + ofs) width v }

/-- The valid entries of one of the two tables, by the offset of the entry. -/
def validEntries (s : State) (base : Nat) : List Nat :=
  ((List.range 4096).map fun k => base + 128 * k).filter fun o => memGet s.mem (0x50000000 + o + 1) / 128 == 1

/-- A field of the efficiency map not given takes its default in bank `mb` (R166); a record may name either bank's place. -/
def dfltMap (rs : List CfgRec) (mb ofs width v : Nat) (s : State) : State :=
  if covered rs 0x100 (0x101000 + ofs) || covered rs 0x100 (0x101800 + ofs) then s
  else { s with mem := memWrite s.mem (0x50101000 + 0x800 * mb + ofs) width v }

/-- HOLD_RUN of a child whose SUBTREE_FALL is `fall` ms (R120). -/
def holdRun (s : State) (fall : Nat) : Nat :=
  let trnd := max 1 (param s pT_RND 10)
  1 + (fall + trnd - 1) / trnd

/-- The defaults of the Sluice sections `ids` (R120, R166), maps in bank `mb`, and the HOLD_RUN of each child. -/
def sluiceDefaults (rs : List CfgRec) (ids : List Nat) (mb : Nat) (s : State) : State :=
  let entry := fun (a : State) (o : Nat) =>
    dfltField rs (o + 16) 4 (memRead a.mem (0x50000000 + o + 12) 4) (dfltField rs (o + 20) 1 1 a)
  let values := fun (a : State) =>
    let s1 := (validEntries a 0 ++ validEntries a 0x80000).foldl entry a
    let s2 := (validEntries s1 0).foldl (fun a o =>
      { a with mem := memWrite a.mem (0x50000000 + o + 6) 2 (holdRun a (memRead a.mem (0x50000000 + o + 22) 2)) }) s1
    dfltField rs 0x100003 1 5 (dfltField rs 0x10000C 2 50 (dfltField rs 0x100010 4 0x04040404 s2))
  let maps := fun (a : State) =>
    dfltMap rs mb 6 1 3 (dfltMap rs mb 7 1 5 (dfltMap rs mb 8 1 90 (dfltMap rs mb 10 2 20 (dfltMap rs mb 12 2 10 a))))
  let s1 := if ids.contains 0x11 then values s else s
  if ids.contains 0x13 then maps s1 else s1

/-! ### The loop slots' computed fields (R234, R235) -/

/-- Address of slot k's table entry. -/
def slotAddr (k : Nat) : Nat := 0x58000000 + 64 * k

/-- A field of slot k's entry. -/
def slf (s : State) (k ofs w : Nat) : Nat := memRead s.mem (slotAddr k + ofs) w

/-- Slot k is enabled. -/
def slotOn (s : State) (k : Nat) : Bool := bit (slf s k 0 4) 0

/-- C = 16 + 6 NSEC cycles (R235). -/
def slotCost (s : State) (k : Nat) : Nat := 16 + 6 * slf s k 14 1

/-- Clock cycles of CLK_CTL in a carrier period of group g (R182). -/
def carrierCycles (s : State) (g : Nat) : Nat := 2 * rdf s (pgAddr g) 0 15

/-- Trigger period of a group slot (R189). -/
def trigCycles (s : State) (g : Nat) : Nat := carrierCycles s g * (rdf s (pgAddr g) 17 3 + 1)

/-- Delay of a group slot's release after the valley: half the window of the slowest main filter it reads, at least the
group-voltage channel's (R180, R234), in cycles of 2.5 ns. -/
def releaseDelay (s : State) (g : Nat) : Nat := 3 * 16 * 2 ^ rdf s (basePWM + 0x100 + 16 * (36 + g)) 2 3 * 20 / 2

/-- D of a group slot: to the sampling instant, 100 cycles before its load point, that follows the release; a
destination outside the PWM block has until the next release (R185, R234, log entry 33). -/
def groupDeadline (s : State) (k g : Nat) : Nat :=
  let half := if rdb s (pgAddr g) 16 then carrierCycles s g / 2 else carrierCycles s g
  let dst := slf s k 32 2
  if (0x100 ≤ dst && dst < 0x320) then
    (let h := max 1 half
     let d := releaseDelay s g + 100
     h * (d / h + 1) - d)
  else trigCycles s g

/-- PERIOD, DEADLINE and COST of every enabled slot as the engine computes them at load. -/
def slotComputed (s : State) : State :=
  ((List.range 64).filter (slotOn s)).foldl (fun a k =>
    let c := slf a k 0 4
    let g := bits c 7 3
    let m1 := memWrite a.mem (slotAddr k + 52) 2 (slotCost a k)
    let m2 := if bit c 6 then memWrite (memWrite m1 (slotAddr k + 4) 4 (trigCycles a g)) (slotAddr k + 8) 4 (groupDeadline a k g)
      else m1
    { a with mem := m2 }) s

/-- D of a slot, cycles: PERIOD where DEADLINE is 0. -/
def slotDeadline (s : State) (k : Nat) : Nat := if slf s k 8 4 = 0 then slf s k 4 4 else slf s k 8 4

/-- The enabled slots of a lane. -/
def laneSlots (s : State) (lane : Nat) : List Nat :=
  (List.range 64).filter fun k => slotOn s k && bits (slf s k 0 4) 4 2 == lane

/-- Left side of the R235 test on a lane, exact. -/
def laneDensity (s : State) (lane : Nat) : Rat :=
  let l := laneSlots s lane
  let d := l.map (slotDeadline s)
  match d with
  | [] => 0
  | x :: r => (l.map fun k => (slotCost s k : Rat) / (slotDeadline s k : Rat)).foldl (· + ·) 0 + 8 / ((r.foldl min x : Nat) : Rat)

/-- The budget proof (R235). -/
def budgetOk (s : State) : Bool :=
  (List.range 4).all fun l => decide (laneDensity s l ≤ 9 / 10) &&
    (laneSlots s l).all fun k => decide (slotCost s k + 8 ≤ slotDeadline s k)

/-! ### Trial load -/

/-- The state with the image at `base` loaded, and nothing else changed. -/
def loadImage (base : Nat) (s : State) : State :=
  let rs := imageRecords s.mem base
  let s0 := loadDefaults { s with mem := clearCfg s.mem, cfg.params := [] }
  slotComputed (sluiceDefaults rs [0x11, 0x13] 0 (rs.foldl (loadRec s.mem 0 0) s0))

/-! ### Range checks (R514, R515) -/

/-- The item a field belongs to is in use. -/
def itemUsed (s : State) (item k : Nat) : Bool :=
  match item with
  | 1 => rdb s (basePWM + 0x100 + 16 * k) 0
  | 2 => rdb s (pgAddr k) 31
  | 3 => rdb s (basePWM + 0x800 + 32 * k) 0
  | 4 => rdf s (baseVCL + 0x100 + 0x40 * k) 0 3 != 0
  | 5 => (List.range 6).any fun g => rdb s (pgAddr g) 31
  | 6 => lswMode s k != 0
  | 7 => (List.range 32).any fun n => 2 ≤ lswMode s n && lswPgen s n == k
  | 8 => rdf s (baseLSW + 0x800) 0 4 != 0
  | 9 => rdf s (baseVCL + 0x100 + 0x40 * k) 0 3 != 0
  | 11 => rdb s baseMTR (12 + k)
  | 12 => rdb s baseMTR (16 + k)
  | 13 => rdb s (baseMTR + 0x400 + 4 * k) 20
  | 14 => rdf s baseFEN 0 2 != 0
  | 15 => rdf s baseDPX 0 2 != 0
  | 16 => rdf s (baseCBL + 0x400 + 8 * k) 0 2 != 0
  | 17 => rdf s (baseTSU + 0x100 + 0x20 * k) 0 3 != 0
  | 18 => rdb s (baseTSU + 0x400 + 16 * k) 4
  | 19 => (List.range 6).any fun g => rdb s (pgAddr g) 31 && rdf s (pgAddr g) 15 1 == k
  | 20 => (List.range 512).any fun n => srcStormExp s n != 0
  | _ => true

/-- The first CFG field out of its range: section, TGT and offset. -/
def rangeFault (s : State) : Option (Nat × Nat × Nat) :=
  cfgFields.findSome? fun f =>
    ((List.range f.num).find? fun k =>
      let v := rdf s (tgtBase f.tgt + f.ofs + f.stride * k) f.lo f.width
      itemUsed s f.item k && (decide (v < f.least) || decide (f.most < v))).map fun k => (f.sec, f.tgt, f.ofs + f.stride * k)


/-- The first parameter given out of its range. -/
def paramFault (s : State) : Option (Nat × Nat × Nat) :=
  (paramRanges.find? fun p => match s.cfg.params.find? (fun q => q.1 == p.2.1) with
    | some q => decide (q.2 < p.2.2.1) || decide (p.2.2.2 < q.2)
    | none => false).map fun p => (p.1, 0x200, p.2.1)

/-! ### The checks of the chapters (R515) -/

/-- A field of the entry at offset `o` of the Sluice table RAM. -/
def rf (s : State) (o ofs w : Nat) : Nat := memRead s.mem (0x50000000 + o + ofs) w

/-- Level of a role entry. -/
def roleLvl (s : State) (o : Nat) : Nat := rf s o 0 2 % 8 + 1

/-- The child entries a role entry lists. -/
def roleKids (s : State) (o : Nat) : List Nat := (List.range (rf s o 6 2)).map fun k => 128 * (rf s o 4 2 + k)

/-- A key names this device's role at `o`: its node ID and level. -/
def namesRole (s : State) (key o : Nat) : Bool := key % 4096 == rdf s baseOZL 0 12 && key / 4096 % 8 + 1 == roleLvl s o

/-- The role of this device that a parent field names must be the nearest hosted role above and list the child (R19). -/
def parentOk (s : State) (roles : List Nat) (parent lvl : Nat) : Bool :=
  match roles.find? (namesRole s parent) with
  | none => true
  | some p =>
    (roles.all fun r => roleLvl s r ≤ lvl || roleLvl s p ≤ roleLvl s r)
      && (roleKids s p).any fun c => rf s c 0 2 % 4096 == rdf s baseOZL 0 12 && rf s c 0 2 / 4096 % 8 + 1 == lvl

/-- The seven rejections of R19; true where none holds. -/
def treeOk (s : State) : Bool :=
  let roles := validEntries s 0x80000
  let isRoot := fun o => bit (rf s o 0 2) 3
  let np := rf s 0x100000 0 2
  decide ((roles.filter isRoot).length ≤ 1)
    && (roles.all fun o => !isRoot o || (6 ≤ roleLvl s o && rf s o 2 2 == 0))
    && (roles.all fun o => isRoot o || (rf s o 2 2 != 0 && roleLvl s o < rf s o 2 2 / 4096 % 8 + 1))
    && decide (3 < np / 4096 % 8 + 1)
    && (roles.all fun o => (roleKids s o).all fun c => rf s c 0 2 / 4096 % 8 + 1 < roleLvl s o)
    && decide (((roles.map fun o => (roleKids s o).map fun c => rf s c 0 2 % 32768).flatten).Nodup)
    && parentOk s roles np 3
    && (roles.all fun o => isRoot o || parentOk s roles (rf s o 2 2) (roleLvl s o))

/-- Sum over a list of Nat. -/
def addAll (l : List Nat) : Nat := l.foldl (· + ·) 0

/-- The reservations of R121; true where each holds. -/
def reservesOk (s : State) : Bool :=
  (validEntries s 0x80000).all fun o =>
    let kids := roleKids s o
    let resv := addAll (kids.map fun c => if bit (rf s c 4 1) 4 then rf s c 8 4 else rf s c 12 4)
    decide (resv ≤ if bit (rf s o 0 2) 3 then rf s o 8 4 else rf s o 12 4)
      && decide (addAll (kids.map fun c => rf s c 16 4) ≤ rf s o 8 4)

/-- The ranges of R120 over the node, the roles and their children. -/
def sluiceRanges (s : State) : Bool :=
  let node := fun (ofs w : Nat) => rf s 0x100000 ofs w
  let one := fun o => 1 ≤ rf s o 8 4 && rf s o 12 4 ≤ rf s o 8 4 && rf s o 12 4 ≤ rf s o 16 4 && rf s o 16 4 ≤ rf s o 8 4
    && 1 ≤ rf s o 20 1
  1 ≤ node 4 4 && node 4 4 ≤ 3750000 && node 8 4 ≤ node 4 4 && 1 ≤ node 12 2 && node 12 2 ≤ 1000 && node 3 1 ≤ 20
    && (node 2 1 == 0 || (2 ≤ node 2 1 && node 2 1 ≤ 16))
    && ((List.range 4).all fun n => 2 ≤ node (16 + n) 1 && node (16 + n) 1 ≤ 7)
    && ((validEntries s 0x80000).all fun o => one o && 1 ≤ rf s o 6 2 && rf s o 6 2 ≤ 4096)
    && ((validEntries s 0).all fun c => one c && rf s c 22 2 ≤ 3750 && (rf s c 0 2 / 4096 % 8 + 1 != 3 || rf s c 8 4 ≤ 3750000))
    && 60000 % param s pT_RND 10 == 0

/-- Every child of a hosted role is given its SUBTREE_FALL, which has no default (R120). -/
def fallsGiven (rs : List CfgRec) (s : State) : Bool := (validEntries s 0).all fun o => covered rs 0x100 (o + 22)

/-- The guard's intake sets from the parameters (R140): DG_SETS holds 2 bytes a set, node ID, set in bit 12, valid in bit
15; AC0 of this device where none is given; DG_SET_MAX holds 4 bytes a set. DESIGN CHOICE (log entry 8): the spec prints
neither the names nor the layout of the two parameters. -/
def intakeSets (s : State) : List IntakeSet :=
  let v := param s pDG_SETS 0
  let mx := param s pDG_SET_MAX 0
  if v = 0 then [{ node := rdf s baseOZL 0 12, set := 0, maxW := bits mx 0 32 }]
  else ((List.range 16).filter fun k => bit v (16 * k + 15)).map fun k =>
    { node := bits v (16 * k) 12, set := bits v (16 * k + 12) 1, maxW := bits mx (32 * k) 32 }

/-- The guard's sets are 1 to 16 on at most 8 devices, and each has its DG_SET_MAX, within the LIMIT of a root hosted here
(R140). -/
def setsOk (s : State) : Bool :=
  let l := intakeSets s
  let limit := (((validEntries s 0x80000).find? fun o => bit (rf s o 0 2) 3).map fun o => rf s o 8 4).getD 0xFFFFFFFF
  decide ((l.map (·.node)).dedup.length ≤ 8) && l.all fun x => decide (1 ≤ x.maxW) && decide (x.maxW ≤ limit)

/-- The demand guard's parameters (R140). -/
def guardOk (s : State) : Bool :=
  let di := param s pT_DI 15
  60 % di == 0 && param s pDG_ALIGN 0 % param s pT_RND 10 == 0 && param s pDG_ALIGN 0 + param s pT_RND 10 ≤ di * 60000
    && (param s pDG_ENABLE 0 == 0 || (1 ≤ param s pP_C 0 && setsOk s))

/-- The nonzero ownership priorities are unique (R68). -/
def prioOk (s : State) : Bool :=
  decide ((([1, 2, 3, 4, 5] : List Nat).map (ownPrio s)).filter (· != 0)).Nodup
    && ([1, 2, 3, 4, 5] : List Nat).all fun p => decide (ownPrio s p ≤ 5)

/-- The efficiency map's ranges and order (R166), where its section is given. -/
def mapOk (s : State) : Bool :=
  let f := fun (ofs w : Nat) => memRead s.mem (mapBase 0 + ofs) w
  let groups := (List.range 6).filter fun g => rdb s (pgAddr g) 31
  f 0 2 < f 2 2 && f 2 2 < f 4 2 && 150 ≤ f 0 2 && f 4 2 ≤ 1250 && f 6 1 ≤ 20 && 1 ≤ f 7 1 && f 7 1 ≤ 20 && 50 ≤ f 8 1
    && f 8 1 ≤ 100 && f 10 2 ≤ 1000 && 1 ≤ f 12 2 && f 12 2 ≤ 600
    && groups.all fun g =>
      let o := 256 * (g + 1)
      10 ≤ f o 2 && f o 2 ≤ 1500 && f (o + 4) 2 == 0 && f (o + 34) 2 == f o 2
        && (List.range 15).all fun i => f (o + 4 + 2 * i) 2 < f (o + 6 + 2 * i) 2

/-- Windows of R179: a leg-current or group-voltage channel's against its group's carrier period. -/
def windowsOk (s : State) : Bool :=
  (List.range 6).all fun g => !rdb s (pgAddr g) 31 ||
    ((36 + g) :: (List.range 6).map fun j => 6 * g + j).all fun c =>
      let a := basePWM + 0x100 + 16 * c
      !rdb s a 0 || decide (3 * 16 * 2 ^ rdf s a 2 3 * 20 ≤ carrierCycles s g)

/-- The order rules inside registers of the stage (OC_TRIP, V_MAX, OV_MAX) and the presence of T_BLEED (R212). -/
def stageOk (s : State) : Bool :=
  ((List.range 36).all fun j => !itemUsed s 3 j || rdf s (basePWM + 0x804 + 32 * j) 0 16 ≤ rdf s (basePWM + 0x804 + 32 * j) 16 16)
    && ((List.range 2).all fun k => !itemUsed s 19 k || rdf s (basePWM + 0xE00 + 4 * k) 0 16 < rdf s (basePWM + 0xE00 + 4 * k) 16 16)
    && ((List.range 36).all fun j => !itemUsed s 1 j
        || (4 ≤ rdf s (basePWM + 0x100 + 16 * j) 5 4 && rdf s (basePWM + 0x100 + 16 * j) 5 4 ≤ 8))

/-- OV_MAX above V_OUT_MAX, and T_BLEED given where a matrix position is fitted (R212, PWM_OPn_VCFG). -/
def transOk (s : State) : Bool :=
  ((List.range 4).all fun n => !itemUsed s 4 n || rdf s (basePWM + 0xF0C + 32 * n) 0 11 < rdf s (basePWM + 0xF0C + 32 * n) 16 11)
    && (param s pT_BLEED 0 != 0 || (List.range 6).all fun g => rdf s (pgAddr g + 0x18) 8 4 == 0)

/-- A source code of R233 that is not reserved. -/
def srcCodeOk (c : Nat) : Bool :=
  c == 0 || (0x100 ≤ c && c < 0x130) || (0x200 ≤ c && c < 0x206) || (0x300 ≤ c && c < 0x324) || (0x400 ≤ c && c < 0x404)
    || (0x410 ≤ c && c < 0x414) || (0x420 ≤ c && c < 0x424) || (0x430 ≤ c && c < 0x436) || (0x500 ≤ c && c < 0x540)
    || (0x600 ≤ c && c < 0x618) || (0x700 ≤ c && c < 0x800) || (0x800 ≤ c && c < 0x808) || (0x900 ≤ c && c < 0x908)

/-- A destination code of R233 that is not reserved. -/
def dstCodeOk (c : Nat) : Bool :=
  c == 0 || (0x100 ≤ c && c < 0x106) || (0x200 ≤ c && c < 0x224) || (0x300 ≤ c && c < 0x304) || (0x310 ≤ c && c < 0x316)
    || (0x400 ≤ c && c < 0x408) || (0x500 ≤ c && c < 0x600)

/-- The slot table's rules (R227, R233, R234, R245); true where each holds. -/
def slotsOk (s : State) : Bool :=
  let on := (List.range 64).filter (slotOn s)
  let runs := (on.map fun k => (List.range (slf s k 14 1)).map fun i => slf s k 12 2 + i).flatten
  decide runs.Nodup && (runs.all fun x => x < 512) && on.all fun k =>
    let c := slf s k 0 4
    1 ≤ slf s k 14 1 && slf s k 14 1 ≤ 32
      && ((List.range 4).all fun i => srcCodeOk (slf s k (16 + 4 * i) 2)) && dstCodeOk (slf s k 32 2)
      && srcCodeOk (slf s k 44 2) && srcCodeOk (slf s k 46 2)
      && (if bit c 6 then bits c 7 3 < 6 else 2000 ≤ slf s k 4 4 && slf s k 4 4 ≤ 400000000 && slf s k 8 4 ≤ slf s k 4 4)
      && (!bit c 1 || 1 ≤ bits c 15 8)

/-- The coefficient rules of R230 on one entry of a bank. -/
def coefOk (s : State) (bank sec : Nat) : Bool :=
  let a := 0x58001000 + 0x4000 * bank + 32 * sec
  let q := fun k => signed 24 (memRead s.mem (a + 4 * k) 4)
  let one : Int := 4194304
  let c := memRead s.mem (a + 28) 4
  let lo := signed 32 (memRead s.mem (a + 20) 4)
  let hi := signed 32 (memRead s.mem (a + 24) 4)
  decide (lo ≤ hi) && bits c 7 2 ≤ 2 &&
    (if bit c 0 then decide (q 3 = -one) && decide (q 4 = 0)
     else decide ((q 4).natAbs < 4194304) && decide (((q 3).natAbs : Int) < one + q 4) && decide (4 ≤ (one + q 3 + q 4).natAbs))

/-- The sections in use pass R230 in a bank. -/
def coefsOk (s : State) (bank : Nat) : Bool :=
  ((List.range 64).filter (slotOn s)).all fun k => (List.range (slf s k 14 1)).all fun i => coefOk s bank (slf s k 12 2 + i)

/-- Cooling routes: a load switch turns off below its on threshold, and the index exists (CBL_COOLk_CFG). -/
def coolOk (s : State) : Bool :=
  (List.range 16).all fun k =>
    let a := baseCBL + 0x400 + 8 * k
    match rdf s a 0 2 with
    | 1 => rdf s a 3 7 < 8
    | 2 => rdf s a 3 7 < 32 && rdf s a 18 8 < rdf s a 10 8
    | _ => true

/-- A vehicle port's protocols suit its connector (R2, R297), its lock channel has the port as owner (R274), and PLCA is for a
duplex pair alone (R5, R305). -/
def portsOk (s : State) : Bool :=
  (List.range 4).all fun n =>
    let a := baseVCL + 0x100 + 0x40 * n
    let pr := rdf s a 3 7
    let allowed := match rdf s a 0 3 with
      | 1 => 0x0F
      | 2 => 0x0C
      | 3 => 0x30
      | 4 => 0x40
      | _ => 0
    rdf s a 0 3 == 0 || (rdf s a 0 3 ≤ 4 && pr != 0 && pr &&& allowed == pr && lswOwner s (rdf s a 10 5) == 3 + n
      && param s pPP_T1 0 < param s pPP_T2 0 && param s pPP_T2 0 < param s pPP_T3 0
      && (!rdb s (a + 0x10) 9 || param s pDPX_ID_A 0 != 0 || param s pDPX_ID_B 0 != 0))

/-- The channels of the output contactors in use are contactor class with the output contactor as owner (R274). -/
def ctrOk (s : State) : Bool :=
  (List.range 4).all fun n => !itemUsed s 4 n || [8, 16].all fun lo =>
    let c := rdf s (opCtrAddr n) lo 5
    lswOwner s c == 2 && lswCtr s c

/-- Bit timing of CAN4 and CAN5 where they run (R322). -/
def canOk (s : State) : Bool :=
  [0x400E0000, 0x400F0000].all fun b =>
    let brp := rdf s (b + 4) 0 8 + 1
    let t1 := rdf s (b + 4) 8 8 + 1
    let t2 := rdf s (b + 4) 16 7 + 1
    let sj := rdf s (b + 4) 23 7 + 1
    let tq := brp * (1 + t1 + t2)
    let d1 := rdf s (b + 8) 5 5 + 1
    let d2 := rdf s (b + 8) 10 4 + 1
    let dj := rdf s (b + 8) 14 4 + 1
    let dq := (rdf s (b + 8) 0 5 + 1) * (1 + d1 + d2)
    let half := fun a c => decide (1 + a + c ≤ 2 * (1 + a)) && decide (10 * (1 + a) ≤ 9 * (1 + a + c))
    rdf s b 0 2 == 0 || (200 ≤ tq && tq ≤ 1600 && 2 ≤ t1 && 2 ≤ t2 && half t1 t2 && sj ≤ t1 && sj ≤ t2
      && (!rdb s b 4 || (25 ≤ dq && half d1 d2 && dj ≤ d1 && dj ≤ d2)) && rdf s b 0 2 != 3)

/-- Crossover thresholds of the DC channels in use (R340): FS16 is a sixteenth of FS1, given per channel. -/
def crossOk (s : State) : Bool :=
  (List.range 4).all fun n => !itemUsed s 11 n ||
    (let x := baseMTR + 0x100 + 0x20 * n
     let fs := param s (match n with
       | 0 => pFS1_0
       | 1 => pFS1_1
       | 2 => pFS1_2
       | _ => pFS1_3) 0
     let up := rdf s x 0 16
     let dn := rdf s x 16 16
     decide (160 * up ≤ 9 * fs) && decide (dn < up) && decide (fs ≤ 160 * dn))

/-- The Fenline rules (R21, R478). -/
def fenOk (s : State) : Bool :=
  match rdf s baseFEN 0 2 with
  | 1 => param s pOZL_PORTS 15 != 0
  | 2 => param s pOZL_PORTS 15 == 0 && rf s 0x100000 2 1 != 0 && (validEntries s 0x80000).isEmpty
  | _ => true

/-- The chapters' checks in order: status, section, TGT and offset of what is at fault, and whether it holds. -/
def chapterChecks (rs : List CfgRec) (s : State) (has : Nat → Bool) : List (Nat × Nat × Nat × Nat × Bool) :=
  [(stRange, 0x02, 0x03, 4, prioOk s), (stRange, 0x11, 0x100, 22, fallsGiven rs s), (stFormat, 0x10, 0x100, 0x80000, treeOk s), (stRange, 0x10, 0x100, 0x80006, addAll ((validEntries s 0x80000).map fun o => rf s o 6 2) ≤ 4096),
   (stRange, 0x11, 0x100, 0x80008, sluiceRanges s), (stRange, 0x11, 0x100, 0x8000C, reservesOk s), (stRange, 0x12, 0x200, pDG_ENABLE, guardOk s),
   (stRange, 0x13, 0x100, 0x101000, !has 0x13 || mapOk s), (stRange, 0x20, 0x05, 0x100, windowsOk s), (stRange, 0x20, 0x05, 0x804, stageOk s),
   (stRange, 0x21, 0x200, pT_BLEED, transOk s), (stRange, 0x30, 0x101, 0, slotsOk s), (stRange, 0x31, 0x101, 0x1000, coefsOk s 0),
   (stRange, 0x41, 0x07, 0x400, coolOk s), (stRange, 0x50, 0x08, 0x100, ctrOk s), (stRange, 0x60, 0x09, 0x100, portsOk s),
   (stRange, 0x70, 0x0E, 4, canOk s), (stRange, 0x80, 0x10, 0x100, crossOk s), (stRange, 0xA0, 0x13, 0, fenOk s)]

/-! ### Validation (R515) -/

/-- The outcome of a validation: 0, or the status, the section and the record offset concerned; and whether the budget
proof failed. -/
structure Verdict where
  status : Nat := 0
  sec : Nat := 0
  ofs : Nat := 0
  overBudget : Bool := false
deriving DecidableEq, Repr

/-- The offset, in its section, of the record that covers a place; 0 where none does. -/
def recordAt (rs : List CfgRec) (sec tgt ofs : Nat) : Nat :=
  ((rs.find? fun r => r.sec == sec && r.tgt == tgt && r.ofs ≤ ofs && (ofs < r.ofs + r.len || tgt == 0x200 && r.ofs == ofs)).map
    (·.at0)).getD 0

/-- MAGIC, FMT, HDR_LEN, HCRC, LENGTH, section table and section CRCs (R512, R515). -/
def formatOk (m : Memory) (base total : Nat) : Bool :=
  memBytes m base 4 == [0x4E, 0x54, 0x43, 0x46] && memRead m (base + 4) 2 == 1 && memRead m (base + 6) 2 == 64
    && memRead m (base + 60) 4 == crc32 (memBytes m base 60) && memRead m (base + 12) 4 == total
    && 1 ≤ memRead m (base + 20) 2 && memRead m (base + 20) 2 ≤ 64 && memRead m (base + 8) 4 != 0
    && (sections m base).all fun x => x.fmt == 1 && x.ofs % 16 == 0 && x.ofs + x.len + 96 ≤ total
      && crc32 (memBytes m (base + x.ofs) x.len) == x.crc && sectWhole m base x

/-- The signature rule (R512): unsigned only in BLANK with slot 2 empty, else the verdict of ECDSA under slot 2. -/
def imageSigned (s : State) (base total : Nat) (sigOk : Bool) : Bool :=
  let signer := memGet s.mem (base + 48)
  if (get s.key.slots 2).filled then signer == 0 && sigOk
  else signer == 0xFF && lifeCycle s == 0 && (memBytes s.mem (base + total - 96) 96).all (· == 0)

/-- The device ID rule (R512, R515). -/
def deviceOk (s : State) (base : Nat) (trial : State) : Bool :=
  let id := memRead s.mem (base + 24) 16
  let own := s.sys.ident.deviceId
  let a := param trial pDPX_ID_A 0
  let b := param trial pDPX_ID_B 0
  let dup := bit (memRead s.mem (base + 22) 2) 0
  if dup then (a == own || b == own) && (id == 0 || id == own || id == a || id == b) else id == 0 || id == own

/-- Version of the firmware booted. -/
def bootedVersion (s : State) : Nat := if s.sys.boot.slot = 0 then s.sys.fwA.version else s.sys.fwB.version

/-- The validation of the image at `base` (R515), its checks in order. -/
def validate (base total : Nat) (sigOk atStage : Bool) (s : State) : Verdict :=
  if !formatOk s.mem base total then { status := stFormat }
  else if !imageSigned s base total sigOk then { status := stAuth }
  else
    let rs := imageRecords s.mem base
    let ids := (sections s.mem base).map (·.id)
    let trial := loadImage base s
    if !deviceOk s base trial || bootedVersion s < memRead s.mem (base + 16) 4 then { status := stRange }
    else if atStage && memRead s.mem (base + 8) 4 ≤ s.cfg.map.highest then { status := stRange }
    else if !(ids.all fun i => sectionTable.any fun x => x.1 == i) || !decide ids.Nodup
        || !(requiredSections.all fun i => ids.contains i) then { status := stFormat }
    else
      match rs.find? (fun r => !recAllowed r) with
      | some r => { status := stFormat, sec := r.sec, ofs := r.at0 }
      | none =>
        match (rangeFault trial).or (paramFault trial) with
        | some (sec, tgt, ofs) => { status := stRange, sec := sec, ofs := recordAt rs sec tgt ofs }
        | none =>
          match (chapterChecks rs trial fun i => ids.contains i).find? (fun c => !c.2.2.2.2) with
          | some (st, sec, tgt, ofs, _) => { status := st, sec := sec, ofs := recordAt rs sec tgt ofs }
          | none => { overBudget := !budgetOk trial }

/-- LENGTH of the image in an area. -/
def areaLength (s : State) (a : Nat) : Nat := memRead s.mem (areaAddr a + 12) 4

/-- VERSION of the image in an area; 0 where there is none. -/
def areaVersion (s : State) : Option Nat → Nat
  | none => 0
  | some a => memRead s.mem (areaAddr a + 8) 4

/-- An area's image passes the check at the entry to M3 (R516): as R515 without the version check, and without the budget
proof where the area carries FORCED. -/
def loadable (sigOk : Bool) (s : State) (a : Nat) : Bool :=
  let v := validate (areaAddr a) (areaLength s a) sigOk false s
  v.status == 0 && (!v.overBudget || s.cfg.map.forced.contains a)

/-! ### The slot map (R510, R511) -/

/-- The 64 bytes of a slot map. -/
def slotMapBytes (m : SlotMap) : List Nat :=
  let area := fun (a : Option Nat) => a.getD 0xFF
  let body := [0x43, 0x46, 0x47, 0x4D] ++ leBytes 4 m.gen ++ [area m.active, area m.previous, area m.staged, 0]
    ++ leBytes 4 m.highest ++ [m.stagedState, (m.forced.map fun a => 2 ^ a).foldl (· ||| ·) 0] ++ List.replicate 42 0
  body ++ leBytes 4 (crc32 body)

/-- A slot map, with the next GEN, written to the older copy and in force (R510); XSP0_COMMIT fires (R34). -/
def putMap (m : SlotMap) (s : State) : State :=
  let m := { m with gen := m.gen + 1 }
  fireEvent 466 { s with cfg.map := m, mem := memWriteBytes s.mem (0x84000000 + 0x8000 * (m.gen % 2)) (slotMapBytes m) }

/-! ### Entry to M3 (R516) -/

/-- The queue pairs that the configuration binds to the management ports it enables come into being (R72), each with its prior
commands answered (R87). The PCIe port creates its own. -/
def bindPairs (s : State) : State :=
  (List.range 16).foldl (fun a n =>
    let w := rdw a (baseMBX + 0x100 + 0x40 * n)
    let q := bits w 19 5
    if !cfgBinds a n || (get a.mbx.pairs n).active then a
    else
      match findQuanta a q with
      | none => createErr n 3 a
      | some f =>
        if !depthOk (bits w 0 13) then createErr n 1 a
        else replayPrior n (makePair n (bits w 16 3) (bits w 0 13) q f true a)) s

/-- The supervisor reclaims the hold-through-reset channels (R52): one still held stays on where its owner last commanded
it on. -/
def reclaimHtr (s : State) : State :=
  if !s.keeper.htrHold then s
  else
    let want := fun n => lswHtr s n && s.keeper.heldHtr.contains n && s.ret.htrOn.contains n
    { s with
        keeper.htrHold := false, keeper.heldHtr := [],
        lsw.ch := updAll s.lsw.ch fun n c =>
        if s.keeper.heldHtr.contains n then { c with on := want n, cmd := want n } else c }

/-- The time unit as a loaded configuration sets it (R442, R443): the preferred domain is followed, and a domain without a source is
FREE. -/
def loadedTime (s : State) (x : Tsu) : Tsu :=
  { x with
    followed := rdf s baseTSU 0 1, auto := rdb s baseTSU 1,
    dom := updAll x.dom fun d y => if rdf s (baseTSU + 0x100 + 0x20 * d) 0 3 == 0 then { y with st := 0, lockedAt := none } else y }

/-- What the fields of a loaded configuration set in the blocks. -/
def applyLoaded (s : State) : State :=
  let own := s.sys.ident.deviceId
  let idA := param s pDPX_ID_A 0
  let idB := param s pDPX_ID_B 0
  let member := if idA == 0 && idB == 0 then rdf s baseDPX 0 2 else if idA == own then 2 else if idB == own then 3 else 0
  let s0 := wrf (wrf s baseDPX 0 2 member) baseOZL 12 2 member
  { s0 with
      keeper.contactorHold := param s pCONTACTOR_HOLD 60, keeper.htrLimit := param s pHTR_LIMIT 10000,
      slc := { s0.slc with sets := intakeSets s, bank := 0, rttChecked := false, dgStart := none },
      lpe := { s0.lpe with bank := 0, swapPending := false },
      dpx.partnerId := if member == 2 then idB else if member == 3 then idA else 0,
      lsw.duty := updAll s0.lsw.duty fun p d => if (get s.lsw.pgenAt p).isSome then d else rdf s (baseLSW + 0x404 + 8 * p) 0 16,
      lsw.dutyNext := updAll s0.lsw.dutyNext fun p _ => rdf s (baseLSW + 0x404 + 8 * p) 0 16,
      tsu := loadedTime s s0.tsu,
      vcl.port := updAll s0.vcl.port fun n p =>
        { (if p.sess == 0 then p.withDuty s.now (idleDuty s n) else p) with plca := rdb s (baseVCL + 0x110 + 0x40 * n) 9 } }

/-- The image in an area failed its header check or a CRC as it was read (R34, R516). -/
def imageReadErr (a : Nat) (s : State) : State :=
  if formatOk s.mem (areaAddr a) (areaLength s a) then s else xsp0ReadErr s

/-- ACTIVE is loaded on an entry to M3, else PREVIOUS becomes ACTIVE, else there is none (R516). `okA` and `okP` are the
verdicts of the two signatures. -/
def loadConfig (okA okP : Bool) (s : State) : State :=
  let m := s.cfg.map
  let use := fun (a : Nat) (x : State) =>
    let y := loadImage (areaAddr a) x
    let forced := x.cfg.map.forced.contains a && !budgetOk y
    reclaimHtr (bindPairs (applyLoaded { y with cfg.loaded := true, cfg.version := areaVersion x (some a), lpe.forced := forced }))
  let none' := fun (x : State) => raiseError errCfgNone 0
    (loadDefaults { x with mem := clearCfg x.mem, cfg := { x.cfg with loaded := false, version := 0, params := [] } })
  match m.active, m.previous with
  | some a, p =>
    if loadable okA s a then use a s
    else
      let s1 := imageReadErr a s
      match p with
      | some b =>
        if loadable okP s b then
          use b (raiseError errCfgFallback 0 (putMap { m with active := some b, previous := none,
                                                                forced := m.forced.filter (· != a) } s1))
        else none' (imageReadErr b s1)
      | none => none' s1
  | none, some b =>
    if loadable okP s b then use b (raiseError errCfgFallback 0 (putMap { m with active := some b, previous := none } s))
    else none' (imageReadErr b s)
  | none, none => none' s

/-- A member of a pair decides its role anew at each entry to M3 with a valid configuration (R453); the stream of an
earlier role stops. -/
def startDeciding (s : State) : State :=
  let s1 := stopClaim s
  { s1 with dpx.role := if s1.cfg.loaded && rdf s1 baseDPX 0 2 != 0 then 3 else 0, dpx.st := 0, dpx.selSeen := false,
              dpx.takenAt := none, dpx.swap := none, dpx.decideAt := s1.now }

/-! ### Power-neutral effects (R514) -/

/-- The records of sections `ids` of the ACTIVE image take effect; maps go to bank `mb`, coefficients to bank `cb`. -/
def applySections (ids : List Nat) (mb cb : Nat) (s : State) : State :=
  match s.cfg.map.active with
  | none => s
  | some a =>
    let base := areaAddr a
    let rs := (imageRecords s.mem base).filter fun r => ids.contains r.sec
    slotComputed (sluiceDefaults (imageRecords s.mem base) ids mb (rs.foldl (loadRec s.mem mb cb) s))

/-- The guard's sets after a commit: those that stay keep what their reports gave (R141, R514). -/
def mergeSets (old new : List IntakeSet) : List IntakeSet :=
  new.map fun x => match old.find? fun y => y.node == x.node && y.set == x.set with
    | some y => { y with maxW := x.maxW }
    | none => x

/-- Address of MTR_TPk_CFG for every k. -/
def tpCfgAddrs : List Nat := (List.range 6).map fun k => baseMTR + 0x400 + 4 * k

/-- Addresses of the AC sets' event registers. -/
def acCfgAddrs : List Nat := [baseMTR + 0x200, baseMTR + 0x204, baseMTR + 0x240, baseMTR + 0x244]

/-- The words of a state at some addresses are put back into another. -/
def keepWords (addrs : List Nat) (old new : State) : State := addrs.foldl (fun a x => wrw a x (rdw old x)) new

/-- Sections take effect, METER_EVENTS in two parts (R514): 0x81 the AC sets' events, 0x181 the test pulses. -/
def applyDue (ids : List Nat) (s : State) : State :=
  let s1 := applySections (ids.filter (· != 0x81)) (1 - s.slc.bank) (1 - s.lpe.bank) s
  let s2 := if ids.contains 0x81 then keepWords tpCfgAddrs s1 (applySections [0x81] 0 0 s1) else s1
  let s3 := if ids.contains 0x181 then keepWords acCfgAddrs s2 (applySections [0x81] 0 0 s2) else s2
  let s4 := if ids.contains 0x12 then { s3 with slc.sets := mergeSets s3.slc.sets (intakeSets s3) } else s3
  if ids.contains 0x13 then { s4 with slc.bank := 1 - s4.slc.bank } else s4

/-- The command of a commit is still uncompleted; a partner's commit has none here. -/
def jobAlive (j : CommitJob) (s : State) : Bool := 18 ≤ j.line || (findCmd s j.line j.seq).isSome

/-- A commit whose last section has taken effect completes (R518). -/
def endNeutral (s : State) : State :=
  match s.cfg.job with
  | none => s
  | some j =>
    if j.committed && !j.resetDue && j.sections.isEmpty then
      finishAccepted j.line j.seq { result := leBytes 4 s.cfg.version ++ [0, j.partnerRes] } { s with cfg.job := none }
    else s

/-- Sections of a running commit that are due now take effect (R514, R518); after a discard of the commit those not yet
in effect wait for the next entry to M3 (R520). -/
def takeNeutral (ids : List Nat) (s : State) : State :=
  match s.cfg.job with
  | none => s
  | some j =>
    let now := j.sections.filter fun i => ids.contains i
    if !j.committed || j.resetDue || now.isEmpty then s
    else if !jobAlive j s then { s with cfg.job := none }
    else endNeutral { applyDue now s with cfg.job := some { j with sections := j.sections.filter fun i => !ids.contains i } }

/-- Every enabled slot has switched: BANK toggles (R240). -/
def switchOver (s : State) : State :=
  if s.lpe.swapPending && ((List.range 64).filter (slotOn s)).all fun k => (get s.lpe.slot k).switched then
    fireEvent 163 { s with lpe.bank := 1 - s.lpe.bank, lpe.swapPending := false,
                             lpe.slot := updAll s.lpe.slot fun _ x => { x with switched := false } }
  else s

/-- A commit's switch of the coefficient bank is over (R518, R520). -/
def coefDone (s : State) : State :=
  match s.cfg.job with
  | some j => if j.coef && !s.lpe.swapPending then
      endNeutral { s with cfg.job := some { j with coef := false, sections := j.sections.filter (· != 0x31) } } else s
  | none => s

/-- A commit's LOOP_COEF is written to the inactive bank and its switch requested, once no switch runs (R514, R520). -/
def startCoef (s : State) : State :=
  match s.cfg.job with
  | none => s
  | some j =>
    if !j.committed || j.resetDue || !j.sections.contains 0x31 || j.coef || s.lpe.swapPending then s
    else if !jobAlive j s then { s with cfg.job := none }
    else
      let s1 := applySections [0x31] 0 (1 - s.lpe.bank) s
      coefDone (switchOver { s1 with
        lpe.swapPending := true, lpe.slot := updAll s1.lpe.slot fun _ x => { x with switched := false },
        cfg.job := some { j with coef := true } })

/-- A switch that has ended, what a commit waited for, and the commit that waited for it. -/
def finishSwap (s : State) : State := startCoef (coefDone (switchOver s))

/-- A commit's sections that nothing waits for take effect at once: METER_EVENTS where no AC set or no test pulse output
is in use (log entry 9). -/
def takeIdle (s : State) : State :=
  let ac := rdb s baseMTR 16 || rdb s baseMTR 17
  let tp := tpCfgAddrs.any fun a => rdb s a 20
  takeNeutral ((if ac then [] else [0x81]) ++ (if tp then [] else [0x181])) (startCoef s)

/-- After a load of ACTIVE nothing of a commit is left to take effect (R520). -/
def settleJob (s : State) : State :=
  match s.cfg.job with
  | some j => if j.committed && !j.resetDue then endNeutral { s with cfg.job := some { j with sections := [], coef := false } } else s
  | none => s

/-- LEGAL_LOST clears where the ACTIVE configuration disables the legal partition (R44). -/
def legalOff (s : State) : State :=
  if param s pLEGAL_ENABLE 0 == 0 && (s.lgl.lost || s.sys.m8.legalLost) then
    errCleared 8 0x18 0 (clearCause .legalLost { s with lgl.lost := false })
  else s

/-- ACTIVE changed its version, or fell back to PREVIOUS (R523). -/
def cfgEvents (before s : State) : State :=
  let s1 := if before.cfg.version != s.cfg.version then fireEvent 5 s else s
  if s.cfg.loaded && before.cfg.map.active != s.cfg.map.active then fireEvent 6 s1 else s1

/-- What an entry to M3 does with the configuration (R516): `okA` and `okP` are the verdicts of the signatures. -/
def enterConfig (okA okP : Bool) (s : State) : State :=
  startDeciding (legalOff (settleJob (sourcesLoaded s (cfgEvents s (loadConfig okA okP s)))))

/-- The device enters M3 from a running mode and loads ACTIVE again (R516); its signature was verified at boot. -/
def toM3 (s : State) : State := enterConfig true true (setMode .m3 s)

/-- The state fields of a Sluice entry restart as after a join (R33): all 0, but a child's JOINED, its HOLD_RUN, and its FLOOR as
CMIN. -/
def restartEntry (s : State) (ofs : Nat) (m : Memory) : Memory :=
  let base := 0x50000000 + ofs
  let m1 := (List.range 128).foldl (fun x k =>
    memSet x (base + k) (memGet x (base + k) &&& (ramMask 0x10 0x100 (ofs + k) ||| ramMask 0x11 0x100 (ofs + k)))) m
  if ofs < 0x80000 then
    memWrite (memWrite (memSet m1 (base + 4) (memGet m1 (base + 4) ||| (memGet s.mem (base + 4) &&& 1))) (base + 6) 2
      (holdRun s (memRead m1 (base + 22) 2))) (base + 56) 4 (memRead m1 (base + 12) 4)
  else if ofs < 0x100100 then m1
  else m

/-- Sluice RAM entries with an uncorrected error are loaded again from ACTIVE at the round start (R33); the node itself joins
anew where the record is its own. -/
def reloadSluice (s : State) : State :=
  if s.slc.reload.isEmpty then s
  else
    match s.cfg.map.active with
    | none => { s with slc.reload := [] }
    | some a =>
      let base := areaAddr a
      let rs := (imageRecords s.mem base).filter fun r => r.tgt == 0x100
      let hit := fun ofs => s.slc.reload.contains (0x50000000 + ofs - ofs % 128)
      let m1 := rs.foldl (fun m r => (List.range r.len).foldl (fun x k =>
        if hit (r.ofs + k) then loadByte r.sec r.tgt (r.ofs + k) (memGet s.mem (r.addr + k)) s.slc.bank 0 x else x) m) s.mem
      let own := s.slc.reload.any fun x => 0x50100000 ≤ x && x < 0x50100100
      { s with slc.reload := [], mem := s.slc.reload.foldl (fun m x => restartEntry s (x - 0x50000000) m) m1,
                 slc.joined := s.slc.joined && !own, slc.joining := s.slc.joining || (own && s.slc.joined) }

end Sys2Proof.Machine
end

