-- ==== Sys2Proof/Machine/Pwm.lean ====
section
/-! DEFINITION. The power stage's periods (07): carriers, load points, interleave and re-spreading, overcurrent and gate
faults, DC-link limits and group trips. -/

namespace Sys2Proof.Machine

/-! ### Errors of SUBSYS 2 (R204, R226) -/

def errLegOc : ErrSpec := ⟨2, 1, 2⟩
def errLegGate : ErrSpec := ⟨2, 2, 2⟩
def errDclUv : ErrSpec := ⟨2, 3, 2⟩
def errDclOv : ErrSpec := ⟨2, 4, 2⟩
def errFfSat : ErrSpec := ⟨2, 5, 1⟩
def errInterlock : ErrSpec := ⟨2, 6, 1⟩
def errCtrFail : ErrSpec := ⟨2, 7, 2⟩
def errCtrWeld : ErrSpec := ⟨2, 8, 3⟩
def errNotZero : ErrSpec := ⟨2, 9, 3⟩
def errTrackFail : ErrSpec := ⟨2, 0x10, 1⟩
def errOutputOv : ErrSpec := ⟨2, 0x11, 2⟩
def errBrakeLong : ErrSpec := ⟨2, 0x12, 1⟩
def errFbLost : ErrSpec := ⟨2, 0x13, 2⟩
def errFbFrozen : ErrSpec := ⟨2, 0x14, 2⟩
def errMclkLost : ErrSpec := ⟨2, 0x15, 2⟩
def errWeldV : ErrSpec := ⟨2, 0x16, 3⟩

/-! ### GATE_EN and the run modes -/


/-- Tracking, an insulation check or a weld test asks for GATE_EN: M4 is left for M5 or M6 (R41, R42, R209). -/
def requestGate (s : State) : State :=
  if s.sys.mode == .m4 && legalOk s then
    setMode (if s.sys.lims.isEmpty then .m5 else .m6) { s with pwm.gateReq := true }
  else s

/-- GATE_EN can be asked for: M4, where M5 may be entered, and M5 and M6 (R12, R41). -/
def gateModes (s : State) : Bool := (s.sys.mode == .m4 && legalOk s) || s.sys.mode == .m5 || s.sys.mode == .m6

/-- Nothing of the stage runs: no output is energised or tracked, checked or tested. -/
def stageIdle (s : State) : Bool :=
  noneEnergised s && s.pwm.pg.toList.all (fun p => p.trk == .none || p.trkDone)
    && s.pwm.out.toList.all (fun o => o.ins == .idle && !o.weldTest && !o.opening)

/-- With the last output de-energised and its contactor open, the run modes are left for M4 (R42, log entry 32). -/
def runEnd (s : State) : State :=
  if (s.sys.mode == .m5 || s.sys.mode == .m6) && stageIdle s && s.pwm.out.toList.all (fun o => !o.ctrCmd && !o.ctrFb) then
    setMode .m4 s
  else s

/-- The run ends where it is over and no leg is left running. -/
def settle (s : State) : State := if s.pwm.leg.toList.all (fun l => !l.st.running) then runEnd s else s

/-! ### Arithmetic -/

/-- Nearest integer, ties away from zero (R184). -/
def roundAway (x : Rat) : Int := if 0 ≤ x then (x + 1 / 2).floor else -((-x + 1 / 2).floor)

/-- A quotient rounded to the nearest integer, ties away from zero (R184; R178 names no rule for ties, log entry 62). -/
def roundDiv (n : Int) (d : Nat) : Int := if 0 ≤ n then (2 * n + d) / (2 * d) else -((-2 * n + d) / (2 * d))

/-- A value held between two bounds. -/
def clampInt (x lo hi : Int) : Int := max lo (min x hi)

/-! ### The bitstream filters (R178, R180) -/

/-- The sums of every `n` neighbours of a list. -/
def boxSums (n : Nat) : List Nat → List Nat
  | [] => []
  | x :: xs => if xs.length + 1 < n then [] else ((x :: xs).take n).foldl (· + ·) 0 :: boxSums n xs

/-- The output of a sinc-`k` filter of ratio `osr` over a bitstream, the newest bit first: `k` running sums over `osr` bits.
Bits before the first count as 0. -/
def sincRaw (k osr : Nat) (bits : List Bool) : Nat :=
  let m := k * (osr - 1) + 1
  ((boxSums osr)^[k] (((bits.map b2n) ++ List.replicate m 0).take m)).headD 0

/-- Address of PWM_MDATn_CFG; FS and OFS follow at 4 bytes each. -/
def mdatAddr (c : Nat) : Nat := basePWM + 0x100 + 16 * c

/-- The engineering value of a filter output out of `full` (R178): (x - OFS) × FS with x = 2 × raw / full - 1, rounded. Where
it is outside a signed 32-bit value the spec states none: a free value. -/
def engineering (s : State) (c raw full : Nat) : Int :=
  let ofs := signed 24 (rdw s (mdatAddr c + 8))
  let e := roundDiv (((2 * raw : Int) - full) * 2 ^ 23 * rdw s (mdatAddr c + 4) - ofs * full * rdw s (mdatAddr c + 4)) (full * 2 ^ 23)
  if i32 e then e else signed 32 (unsigned 32 (Config.outOfRange e))

/-- The main-filter value of a channel: sinc3 of ratio OSR_MAIN (R178). -/
def mainValue (s : State) (c : Nat) (bits : List Bool) : Int :=
  let osr := 16 * 2 ^ rdf s (mdatAddr c) 2 3
  engineering s c (sincRaw 3 osr bits) (osr ^ 3)

/-- The fast-filter value of a leg's current: sinc2 of ratio OSR_OC (R178). -/
def fastValue (s : State) (k : Nat) (bits : List Bool) : Int :=
  let osr := rdf s (mdatAddr k) 5 4
  engineering s k (sincRaw 2 osr bits) (osr ^ 2)

/-- The main filter of a channel is read: PWM_MDATn_VAL follows (R178, R180). -/
def readMain (c : Nat) (bits : List Bool) (s : State) : State :=
  { s with pwm.mdat := upd s.pwm.mdat c fun m => { m with val := mainValue s c bits } }

/-- The value of a channel as last read. -/
def mval (s : State) (c : Nat) : Int := (get s.pwm.mdat c).val

/-! ### Legs and groups -/

/-- Address of PWM_LEGn_CFG; OC, OCN, TRIM, CMP and STAT follow at 4 bytes each. -/
def legAddr (k : Nat) : Nat := basePWM + 0x800 + 0x20 * k

/-- The leg is fitted. -/
def legPresent (s : State) (k : Nat) : Bool := rdb s (legAddr k) 0

/-- The group is fitted and in use. -/
def pgOn (s : State) (g : Nat) : Bool := rdb s (pgAddr g) 31

/-- PER of a group, counts. -/
def pgPer (s : State) (g : Nat) : Nat := rdf s (pgAddr g) 0 15

/-- The leg is latched or excluded (PWM_PGn_STAT.EXCLUDED). -/
def legExcluded (s : State) (k : Nat) : Bool := (legOf s k).st.latched || (legOf s k).exclCmd || (legOf s k).exclFb

/-- The group is excluded from placement: tripped (R196), or by a weld, a crowbar or an output's lost feedback. -/
def groupExcluded (s : State) (g : Nat) : Bool := (pgr s g).tripped || (pgr s g).exclOut != []

/-- The leg can be placed (R168). -/
def legAvail (s : State) (k : Nat) : Bool :=
  pgOn s (k / 6) && legPresent s k && !legExcluded s k && !groupExcluded s (k / 6)

/-- The legs of group `g`. -/
def legsOf (g : Nat) : List Nat := (List.range 6).map (6 * g + ·)

/-- The leg is driven now. -/
def LegState.driven : LegState → Bool
  | .switching | .limited | .hsOnly | .crowbar => true
  | _ => false

/-- Current channel of a leg counts for I_g (R181). -/
def sumCurrents (s : State) (g : Nat) : Int :=
  (((legsOf g).filter fun k => (legOf s k).st.driven).map fun k => (legOf s k).current).foldl (· + ·) 0

/-- The output current sums are formed anew (R181). -/
def sumOutputs (s : State) : State :=
  { s with pwm.out := updAll s.pwm.out fun n o =>
      { o with iout := ((carrying s n).map fun g => (pgr s g).ig).foldl (· + ·) 0 } }

/-- The limitations the stage holds (R42): a lost or frozen channel of a leg, group, output or link; a group tripped by its
loops, or a slot's overrun standing (R236); and any other leg, group, position or output excluded (log entry 9). -/
def updStage (s : State) : State :=
  let fb := s.pwm.mdat.toList.any fun m => m.lost || m.frozen
  let loop := (s.pwm.pg.toList.any fun p => p.tripped && p.cause == 5) || s.lpe.slot.toList.any fun x => x.ovr
  let other := (s.pwm.leg.toList.any fun l => l.st.latched)
    || (s.pwm.pg.toList.any fun p => (p.tripped && p.cause != 5) || p.exclOut != [] || p.mtxBlocked.toList.any id)
    || (s.pwm.out.toList.any fun o => o.blocked || o.crowbar || o.weld || o.weldV)
  setLim .stage other (setLim .loop loop (setLim .feedback fb s))

/-- The set of switching legs of group `g` is to be taken anew at a group valley (R188). -/
def markSet (g : Nat) (s : State) : State := setPg g (fun p => { p with setChanged := true }) s

/-- Leg `k` leaves placement's mask. -/
def unplaceLeg (k : Nat) (s : State) : State :=
  { s with slc.pg := upd s.slc.pg (k / 6) fun p => { p with mask := upd p.mask (k % 6) fun _ => false } }

/-- Leg `k` turns off at once, and its sharing state is cleared (R187, R190). -/
def legOff (k : Nat) (s : State) : State :=
  markSet (k / 6) (unplaceLeg k (clearSharing (· == k) (setLeg k Leg.offNow s)))

/-- The carrier period of a group in units of 1/32 count. -/
def periodUnits (s : State) (g : Nat) : Nat := 2 * pgPer s g * 32

/-! ### The carriers (R182, R183) -/

/-- The group carrier's counter, counts: up from 0 to PER and back from its last valley on (R182). -/
def carrierCount (s : State) (g : Nat) : Option Nat :=
  (pgr s g).valleyAt.map fun v =>
    let u := (s.now - v) * 2 / 5 % (2 * pgPer s g)
    if u ≤ pgPer s g then u else 2 * pgPer s g - u

/-- The group carrier is at a valley: a whole number of periods of 2 × PER counts since the last (R182). A carrier that has
not been seen at a valley yet takes its first. -/
def atValley (s : State) (g : Nat) : Bool :=
  (pgr s g).valleyAt.all fun v => decide (v < s.now) && (s.now - v) % (5 * pgPer s g) == 0

/-- Units of 1/32 count, 78.125 ps, in a time in ns. -/
def nsUnits (ns : Nat) : Nat := ns * 64 / 5

/-- The leg's carrier is at its valley, or its peak, to within a nanosecond of the block's time (R183, R186). The first
valley of an added leg and those of a transition period come at their own times (R187). -/
def atLoadPoint (s : State) (k : Nat) (peak : Bool) : Bool :=
  let l := legOf s k
  let period := periodUnits s (k / 6)
  l.stretch.isSome || l.st == .waiting || (pgr s (k / 6)).valleyAt.all fun v =>
    let p := (nsUnits (s.now - v) + 2 * period - l.phase - (if peak then period / 2 else 0)) % period
    decide (p ≤ 13) || decide (period ≤ p + 13)

/-- The leg's place in its own carrier period and the period's length, 1/32 counts: a transition period is stretched
(R187). -/
def legCarrier (s : State) (k : Nat) : Nat × Nat :=
  let l := legOf s k
  let period := if l.moving then l.stretch.getD (periodUnits s (k / 6)) else periodUnits s (k / 6)
  ((l.valleyAt.map fun v => nsUnits (s.now - v) % period).getD 0, period)

/-- The high side in mode SYNC (R183): commanded on while the carrier is below CMP, centred on the valley, and on DT_HS_ON
after the low side has turned off. -/
def highOn (s : State) (k : Nat) : Bool :=
  let c := (legOf s k).cmp
  let (p, period) := legCarrier s k
  let q := (p + c) % period
  if period ≤ 2 * c then true
  else decide (q < 2 * c) && decide (rdf s (pgAddr (k / 6) + 4) 0 15 ≤ q)

/-- The low side in mode SYNC (R183): commanded on while the carrier is at or above CMP, and on DT_LS_ON after the high side
has turned off. -/
def lowOn (s : State) (k : Nat) : Bool :=
  let c := (legOf s k).cmp
  let (p, period) := legCarrier s k
  if c = 0 then true
  else decide (c + rdf s (pgAddr (k / 6) + 4) 16 15 ≤ p) && decide (p + c < period)

/-- The leg's low side has waited DT_LS_ON since the limit or the crowbar turned the high side off. -/
def lowAfter (s : State) (k : Nat) : Bool :=
  decide (rdf s (pgAddr (k / 6) + 4) 16 15 ≤ nsUnits (s.now - (legOf s k).limAt))

/-- The sides of leg `k` by its state (R183, R192, R216, R218): PWMHn and PWMLn before GATE_EN. A limit of OC_LIM keeps the
high side off for the period; one of OC_NEG the low side, the high side until its next on-command. -/
def legSides (s : State) (k : Nat) : Bool × Bool :=
  match (legOf s k).st with
  | .switching => (highOn s k, lowOn s k)
  | .limited =>
    if (legOf s k).limHigh then (false, lowAfter s k)
    else (highOn s k && decide ((legCarrier s k).2 / 2 ≤ (legCarrier s k).1), false)
  | .hsOnly => (highOn s k && (legOf s k).cmp != 0, false)
  | .crowbar => (false, lowAfter s k)
  | _ => (false, false)

/-- The pins PWMHn and PWMLn (R176, R183, R198, R201): low in M7 and while GATE_EN is low, and after it rises until the first
group valley. Never both high. -/
def gatePins (s : State) (k : Nat) : Bool × Bool :=
  if s.keeper.gateEn && s.sys.mode != .m7 && !(pgr s (k / 6)).pinsHeld then legSides s k else (false, false)

/-- The phase of rank `r` of `n` legs (R186). -/
def phaseOf (s : State) (g r n : Nat) : Nat := if n ≤ 1 then 0 else (roundAway (((r * periodUnits s g : Nat) : Rat) / n)).toNat

/-- A move between phases, wrapped into half a period each way (R187). -/
def wrapMove (period : Nat) (old new : Nat) : Int :=
  let d : Int := (new : Int) - old
  let p : Int := period
  if p = 0 then 0 else if 2 * d ≤ -p then d + p else if p < 2 * d then d - p else d

/-- A leg runs or is taken to run after the valley. -/
def staysOn (s : State) (k : Nat) : Bool :=
  let l := legOf s k
  l.st.running && !l.stopDue && get (get s.slc.pg (k / 6)).mask (k % 6) && legAvail s k

/-- A leg is added at the valley (R170, R187). -/
def isAdded (s : State) (k : Nat) : Bool :=
  (legOf s k).st == .off && get (get s.slc.pg (k / 6)).mask (k % 6) && legAvail s k

/-- The set of switching legs as it stands at a group valley is taken, and those that stay move to their phases
(R187). -/
def reSpread (g : Nat) (s : State) : State :=
  let set := (legsOf g).filter fun k => staysOn s k || isAdded s k
  let n := set.length
  let period := periodUnits s g
  let change := fun (a : State) (k : Nat) =>
    let r := (set.takeWhile (· != k)).length
    let ph := phaseOf s g r n
    if staysOn s k then
      setLeg k (fun l =>
        if l.st == .waiting then { l with phase := ph }
        else
          let d := wrapMove period l.phase ph
          { l with phase := ph, moving := false, stretch := if d = 0 then none else some ((period : Int) + d).toNat }) a
    else if isAdded s k then
      setLeg k (fun l => { l with st := .waiting, phase := ph, startAt := some (s.now + 5 * pgPer s g), ocRun := 0,
                                  ocSeen := false, limitedNow := false, trimReq := 0, trimApplied := 0 }) a
    else if (legOf s k).st.running && (legOf s k).st != .crowbar && !(legOf s k).stopDue then
      unplaceLeg k (clearSharing (· == k) (setLeg k Leg.offNow a))
    else a
  let s1 := (legsOf g).foldl change s
  let cont := (legsOf g).any fun k => staysOn s k && (legOf s k).st != .waiting
  setPg g (fun p => { p with setChanged := false, respread := cont && set != [] }) s1

/-! ### Tracking references (R209, R210, R215) -/

/-- A PWM_OPn register of the transitions: SLEW, IREF, VLIM, VCFG, BRK, TRK, RATIO and PROT at 4 bytes each. -/
def opAddr (n : Nat) : Nat := basePWM + 0xF00 + 0x20 * n

/-- The reference a group tracks, mV (R209, R215); none where it tracks nothing. -/
def trkTarget (s : State) (g : Nat) : Option Int :=
  let p := pgr s g
  let n := p.trkOut
  if (List.range 4).any fun m => (pout s m).weldTest && (pout s m).insGroup == g then
    some (rdf s (opAddr ((List.range 4).find? (fun m => (pout s m).weldTest && (pout s m).insGroup == g) |>.getD 0) + 0x14) 24 6 * 10000)
  else match p.trk with
    | .none => if (List.range 4).any fun m => (pout s m).ins == .discharging && (pout s m).insGroup == g then some 0 else none
    | .coinOut => some (pout s n).vout
    | .coinBus => match (carrying s n).find? (· != g) with
      | some h => some (pgr s h).vg
      | none => some 0
    | .ratio => some ((rdf s (opAddr n + 0x18) 16 12 * (pout s n).vrref * 1000 / 2048 : Nat) : Int)

/-- A reference moves toward a target by at most a step (R208). -/
def moveToward (x target step : Int) : Int := if x < target then min target (x + step) else max target (x - step)

/-- At a group valley the tracking reference moves at V_SLEW, and coincidence is judged (R209, R210): a difference above
twice the tolerance before the readback shows the contactor closed opens it again. -/
def trackValley (g : Nat) (s : State) : State :=
  match trkTarget s g with
  | none => s
  | some tgt =>
    let p := pgr s g
    let n := p.trkOut
    let step : Int := ((rdf s (opAddr n) 20 9 * pgPer s g / 200 : Nat) : Int)
    let d := p.vg - tgt
    let tol : Int := ((rdf s (opAddr n + 0x14) 0 6 * 1000 : Nat) : Int)
    let s1 := setPg g (fun q => { q with trkRef := moveToward q.trkRef tgt step, diff := d.tdiv 1000,
                                         inTol := q.trk != .none && decide (d.natAbs ≤ tol) }) s
    if p.closeCmd && !p.trkDone && decide (2 * tol < d.natAbs) then
      let s2 := setPg g (fun q => { q with closeCmd := false }) s1
      match p.trk with
      | .coinOut => ctrDrive n false s2
      | .coinBus => mtxDrive g n false s2
      | _ => s2
    else s1

/-! ### Braking (R216) -/

/-- Every leg of the groups that carry output `n` that runs or is to start enters HS_ONLY with CMP forced to 0: both switches
are off. -/
def brakeLegs (n : Nat) (s : State) : State :=
  { s with pwm.leg := updAll s.pwm.leg fun k l =>
      if (carrying s n).contains (k / 6) && l.st.running && l.st != .crowbar then
        { l with st := .hsOnly, cmp := 0, limitedNow := false } else l }

/-- Braking of output `n` starts (R216); on trigger (a) its current reference is set to 0. -/
def startBrake (n : Nat) (byVoltage : Bool) (s : State) : State :=
  if (pout s n).braking || (pout s n).crowbar then s
  else
    fireEvent 152 (setOut n (fun o =>
      { o with braking := true, brakes := (o.brakes + 1) % 256, diRun := 0,
               iref := if byVoltage then 0 else o.iref }) (brakeLegs n s))

/-- Trigger (b) at a valley of group `g`, where it is the lowest-numbered that carries an output. -/
def brakeCheck (g : Nat) (s : State) : State :=
  (List.range 4).foldl (fun a n =>
    if (carrying a n).head? == some g then
      let o := pout a n
      let beyond := decide (o.iref + ((rdf a (opAddr n + 0x10) 24 8 * 10000 : Nat) : Int) < o.iout)
      let run := if beyond then o.diRun + 1 else 0
      let b := setOut n (fun q => { q with diRun := min run 2 }) a
      if 2 ≤ run then startBrake n false b else b
    else a) s

/-! ### The group valley -/

/-- After a discharge the legs of an insulation check's group stop, and the output contactor opens (R214 step 5); after a
weld test the legs stop (R215). -/
def checkDischarged (g : Nat) (s : State) : State :=
  (List.range 4).foldl (fun a n =>
    let o := pout a n
    if o.ins == .discharging && o.insGroup == g && decide ((pgr a g).vg < 60000) && (!o.ctrCmd || decide (o.vout < 60000)) then
      let b := groupLegsStop g (setPg g (fun p => { p with trk := .none, trkDone := false, inTol := false, closeCmd := false }) a)
      if o.ctrCmd then setOut n (fun q => { q with ins := .opening, opening := true }) b
      else setOut n (fun q => { q with ins := .idle }) b
    else a) s

/-- Loop slot `i` is a group slot of group `g` (R245). -/
def triggeredBy (s : State) (g i : Nat) : Bool :=
  bit (slotCtrl s i) 0 && bit (slotCtrl s i) 6 && bits (slotCtrl s i) 7 3 == g

/-- The group's loop trigger fires every TRIG_DIV valleys, and starts the group's slots (R189, R234). -/
def countTrigger (g : Nat) (s : State) : State :=
  let fires := (pgr s g).trigLeft == 0
  let s1 := setPg g (fun p => { p with trigLeft := if fires then rdf s (pgAddr g) 17 3 else p.trigLeft - 1 }) s
  if fires then { s1 with lpe.slot := updAll s1.lpe.slot fun i x => { x with trigDue := x.trigDue || triggeredBy s g i } } else s1

/-- The group's valley is taken (R180 to R182, R198): the carrier's place, V_g, mV, the sum of the leg currents last sampled at
their own valleys, and the pins, which follow the legs again where GATE_EN is high. -/
def takeValley (g : Nat) (vg : List Bool) (s0 : State) : State :=
  let s1 := readMain (36 + g) vg s0
  setPg g (fun p => { p with vg := mval s1 (36 + g), ig := sumCurrents s1 g, valleyAt := some s0.now,
                             pinsHeld := !s0.keeper.gateEn }) s1

/-- What a group valley does (R181, R187 to R189). -/
def groupValley (g : Nat) (vg : List Bool) (s : State) : State :=
  let s4 := countTrigger g (checkDischarged g (trackValley g (brakeCheck g (sumOutputs (takeValley g vg s)))))
  settle (if (pgr s4 g).setChanged && !(pgr s4 g).respread then reSpread g s4 else s4)

/-- GROUP_VALLEY (R180 to R182, R187 to R189): the group's carrier reads 0; the main filter of the group voltage is read. At
any other place of the carrier there is no valley. -/
def execGroupValley (t g : Nat) (vg : List Bool) (s : State) : Host.Outcome State Fault Refusal :=
  let s := s.at t
  .next (if atValley s g then groupValley g vg s else s)

/-- RESPREAD_DONE (R187): the last continuing leg has finished its transition period. -/
def execRespreadDone (t g : Nat) (s : State) : Host.Outcome State Fault Refusal :=
  let s := s.at t
  .next (if (pgr s g).respread then
    fireEvent 145 (setPg g (fun p => { p with respread := false })
      { s with pwm.leg := updAll s.pwm.leg fun k l => if k / 6 == g then { l with stretch := none, moving := false } else l })
  else s)

/-! ### The load point (R184, R185) -/

/-- TRIM_MAX, 2^-16 units: at most 1,310 (R184, log entry 8). -/
def trimMax (s : State) : Int := (min 1310 (param s pTRIM_MAX 1310) : Nat)

/-- A value written at `at0` as it is sampled 100 ns before a load point at `now`: a write at the sampling instant or after it
counts at the next load point (R185, R198). -/
def sampled (now at0 : Nat) (value prev : Int) : Int := if at0 + 100 < now then value else prev

/-- The trim that a leg asks for, as sampled (R185, R190). -/
def trimAsked (s : State) (j : Nat) : Int :=
  let l := legOf s j
  sampled s.now l.trimAt l.trimReq l.trimPrev

/-- T_j: the trim of leg `k` less the mean over the group's switching legs, clamped (R184). -/
def trimOf (s : State) (k : Nat) : Int :=
  let ls := (legsOf (k / 6)).filter fun j => (legOf s j).st.driven
  let sum : Int := (ls.map (trimAsked s)).foldl (· + ·) 0
  let m := trimMax s
  if ls.isEmpty then 0
  else clampInt (roundAway ((trimAsked s k : Rat) - (sum : Rat) / (ls.length : Rat))) (-m) m

/-- D_g before its clamp, in 2^-16 units. -/
def feedForward (u v : Int) : Int := roundAway ((u : Rat) * 65536 / (v : Rat))

/-- The dead-time compensation of a leg's CMP (R184). -/
def deadTimeTerm (s : State) (k : Nat) : Int :=
  let i := (legOf s k).current
  let w := rdw s (pgAddr (k / 6) + 4)
  if !rdb s (pgAddr (k / 6)) 20 then 0
  else if 2000 < i then roundAway ((bits w 0 15 : Nat) / 2)
  else if i < -2000 then -(roundAway ((bits w 16 15 : Nat) / 2))
  else 0

/-- The compare value for a duty (R184): rounded, compensated, dropped where the pulse is too short, and scaled in a
transition period (R187). -/
def compareOf (s : State) (k : Nat) (duty : Int) : Nat :=
  let g := k / 6
  let c := roundAway ((duty : Rat) * (pgPer s g : Nat) * 32 / 65536) + deadTimeTerm s k
  let c1 : Nat := if 2 * c < ((rdf s (pgAddr g + 8) 16 9 * 32 : Nat) : Int) then 0 else c.toNat
  match (legOf s k).stretch with
  | some len => if (legOf s k).moving then (roundAway (((c1 * len : Nat) : Rat) / (periodUnits s g : Nat))).toNat else c1
  | none => c1

/-- D_g of group `g` is computed: clamped to 0 and DMAX; a run at DMAX is raised once (R184, R191). With no DC-link voltage
above 0 the quotient is not defined: a free value within the clamp. -/
def computeDg (g : Nat) (s : State) : State :=
  let p := pgr s g
  let d := get s.pwm.dcl (b2n (rdb s (pgAddr g) 15))
  let v := sampled s.now d.vAt d.v d.vPrev
  let dmax := rdf s (pgAddr g + 8) 0 16
  let r := if 0 < v then (feedForward (sampled s.now p.uAt p.u p.uPrev) v, s) else
    (let f := drawFree s
     (((f.1 % (dmax + 1) : Nat) : Int), f.2))
  let sat := decide ((dmax : Int) < r.1)
  let s1 := setPg g (fun q => { q with dG := (clampInt r.1 0 dmax).toNat, ffSat := sat }) r.2
  if sat && !p.ffSat then raiseError errFfSat g (fireEvent 138 s1) else s1

/-- Output braking of the group that leg `k` belongs to (R216). -/
def brakesOn (s : State) (k : Nat) : Bool :=
  (List.range 4).any fun n => (pout s n).braking && (carrying s n).contains (k / 6)

/-- A leg's count of limited periods at its valley: a period without a crossing resets it (R192). A limit in the cycle of
the valley itself acts on the period that begins (R198). -/
def Leg.endPeriod (now : Nat) (l : Leg) : Leg :=
  if l.limitedNow && l.limAt == now then { l with ocRun := 1 }
  else { l with ocRun := if l.limitedNow then l.ocRun else 0, limitedNow := false,
                st := if l.st == .limited then .switching else l.st }

/-- A leg's next period: it starts, after waiting or braking, where its time has come (R187, R190, R216, R217). -/
def Leg.startPeriod (now : Nat) (brakes : Bool) (l : Leg) : Leg :=
  match l.st with
  | .hsOnly => if brakes then l else { l with st := .switching, startAt := none, trimHold := if l.startAt.isSome then 4 else l.trimHold }
  | .waiting =>
    if !l.startAt.all (· ≤ now) then l
    else if brakes then { l with st := .hsOnly, cmp := 0 }
    else { l with st := .switching, startAt := none, trimHold := 4, moving := false, stretch := none }
  | _ => l

/-- The period of a leg ends at its valley: its count of limited periods, its trim hold, its transition period, and its
state in the period that begins (R187, R190, R192, R217). -/
def legValley (k : Nat) (s : State) : State :=
  setLeg k (fun l =>
    let l1 := Leg.endPeriod s.now { l with trimHold := l.trimHold - 1, valleyAt := some s.now }
    let l2 := if l1.moving then { l1 with moving := false, stretch := none }
      else { l1 with moving := l1.stretch.isSome }
    Leg.startPeriod s.now (brakesOn s k) l2) s

/-- A leg's valley (R180, R203, R206): its current is read; a leg due to stop turns off, any other begins its next period. -/
def takeLegValley (k : Nat) (current : List Bool) (s : State) : State :=
  let s1 := readMain k current s
  let s2 := setLeg k (fun l => { l with current := mval s1 k }) s1
  if (legOf s2 k).stopDue && (legOf s2 k).st.running && (legOf s2 k).st != .crowbar then settle (legOff k s2) else legValley k s2

/-- A leg's compare value is computed and loaded (R184). -/
def loadLeg (k : Nat) (s : State) : State :=
  let s2 := computeDg (k / 6) s
  let tj := trimOf s2 k
  let dj := clampInt (((pgr s2 (k / 6)).dG : Int) + tj) 0 (rdf s2 (pgAddr (k / 6) + 8) 0 16 : Nat)
  setLeg k (fun l => { l with trimApplied := tj, cmp := compareOf s2 k dj }) s2

/-- PWM_LOAD_POINT (R180, R184, R185): a load point of leg `leg`, its valley or, with UPD set, its peak. At any other place of
the leg's carrier there is no load point. -/
def execPwmLoadPoint (t leg : Nat) (peak : Bool) (current : List Bool) (s : State) : Host.Outcome State Fault Refusal :=
  let s := s.at t
  if !atLoadPoint s leg peak then .next s
  else
    let s1 := if peak then s else takeLegValley leg current s
    let st := (legOf s1 leg).st
    .next (if (st == .switching || st == .limited) && (!peak || rdb s (pgAddr (leg / 6)) 16) then loadLeg leg s1 else s1)

/-! ### Group trips (R196) -/

/-- The group trips: its legs off at once, TRIPPED with its cause, its trip source fired, out of placement, and its matrix
contactor opening at current zero. The caller raises the error of the cause. -/
def tripGroup (g cause : Nat) (s : State) : State :=
  if (pgr s g).tripped then s
  else
    let s1 := cancelTracking g (emptyGroup g (groupLegsOff g s))
    let s2 := fireEvent (132 + g) (setPg g (fun p =>
      { p with tripped := true, cause := cause, setChanged := true, rampShare := false, respread := false }) s1)
    updStage (match connectedTo s2 g with
      | some n => startOpening (.mtx g n) s2
      | none => s2)

/-- The groups in use that name a DC link. -/
def linkGroups (s : State) (k : Nat) : List Nat := (List.range 6).filter fun g => pgOn s g && b2n (rdb s (pgAddr g) 15) == k

/-- One DC link's limit for one side: since when it is beyond. -/
def beyondSince (now : Nat) (out : Bool) (since : Option Nat) : Option Nat :=
  if out then some (since.getD now) else none

/-- A DC link beyond a limit for 2 µs trips every group that names it, with one error (R191). -/
def linkTrip (k cause ev : Nat) (e : ErrSpec) (since : Option Nat) (s : State) : State :=
  match since with
  | none => s
  | some t0 =>
    let gs := (linkGroups s k).filter fun g => !(pgr s g).tripped
    if t0 + 2000 ≤ s.now && !gs.isEmpty then
      raiseError e k (fireEvent ev (gs.foldl (fun a g => tripGroup g cause a) s))
    else s

/-- One DC link is checked against its limits (R191). -/
def linkCheck (k : Nat) (v : Int) (s : State) : State :=
  let lo : Int := ((rdf s (basePWM + 0xE00 + 4 * k) 0 16 * 1000 : Nat) : Int)
  let hi : Int := ((rdf s (basePWM + 0xE00 + 4 * k) 16 16 * 1000 : Nat) : Int)
  let uv := decide (v < lo)
  let ov := decide (hi < v)
  let s1 := { s with
    pwm.dcl := upd s.pwm.dcl k fun d =>
      { v := v, vPrev := d.v, vAt := s.now, uvSince := beyondSince s.now uv d.uvSince, ovSince := beyondSince s.now ov d.ovSince,
        okSince := beyondSince s.now (!uv && !ov) d.okSince } }
  let d := get s1.pwm.dcl k
  let s2 := if uv then s1 else errCleared 2 3 k s1
  let s3 := if ov then s2 else errCleared 2 4 k s2
  linkTrip k 4 140 errDclOv d.ovSince (linkTrip k 3 139 errDclUv d.uvSince s3)

/-- The main filters of all 48 channels are read (R180): PWM_MDATn_VAL. -/
def readAllMain (chans : List (List Bool)) (s : State) : State :=
  { s with pwm.mdat := updAll s.pwm.mdat fun c m => { m with val := mainValue s c (chans.getD c []) } }

/-- DCLINK_CHECK (R180, R191): every microsecond the main filters are read, and both DC-link channels are checked. -/
def execDclinkCheck (t : Nat) (chans : List (List Bool)) (s : State) : Host.Outcome State Fault Refusal :=
  let s := readAllMain chans (s.at t)
  .next (linkCheck 1 (mval s 47) (linkCheck 0 (mval s 46) s))

/-! ### Overcurrent and gate faults (R192 to R194) -/

/-- The period of a leg counts as limited, once; `high` says which side is off for the rest of it. -/
def limitPeriod (k : Nat) (high : Bool) (s : State) : State :=
  let l := legOf s k
  if l.st.driven && !l.limitedNow then
    setLeg k (fun x => { x with limitedNow := true, limHigh := high, limAt := s.now, ocRun := min 15 (x.ocRun + 1),
                                st := if x.st == .switching then .limited else x.st }) s
  else s

/-- OC_LIM and OC_TRIP of a leg, mA. -/
def ocLim (s : State) (k : Nat) : Int := ((rdf s (legAddr k + 4) 0 16 * 100 : Nat) : Int)
def ocTrip (s : State) (k : Nat) : Int := ((rdf s (legAddr k + 4) 16 16 * 100 : Nat) : Int)

/-- OC_NEG of a leg, mA. -/
def ocNeg (s : State) (k : Nat) : Int := ((rdf s (legAddr k + 8) 0 16 * 100 : Nat) : Int)

/-- LEG_OC_LIMIT (R192): I > OC_LIM; the high side is off for the rest of the period, which counts as limited. -/
def execLegOcLimit (t leg : Nat) (fast : List Bool) (s : State) : Host.Outcome State Fault Refusal :=
  let s := s.at t
  .next (if ocLim s leg < fastValue s leg fast then limitPeriod leg true s else s)

/-- A crowbarred leg's low side turns off; the leg is then off, and an output whose last such leg it was has ended its
crowbar's steps 3 and 4 (R218). -/
def crowbarLegEnd (k : Nat) (s : State) : State := if (legOf s k).st == .crowbar then legOff k s else s

/-- LEG_OC_NEG (R192): I < -OC_NEG; the low side is off for the rest of the period, which counts as limited. A crowbarred
leg's low side turns off for good (R218). -/
def execLegOcNeg (t leg : Nat) (fast : List Bool) (s : State) : Host.Outcome State Fault Refusal :=
  let s := s.at t
  .next (if -ocNeg s leg ≤ fastValue s leg fast then s
  else if (legOf s leg).st == .crowbar then crowbarLegEnd leg s
  else limitPeriod leg false s)

/-- A leg latches: both sides off, excluded, its LEG_FAULT source and the error raised. -/
def latchLeg (k : Nat) (st : LegState) (seen : Bool) (e : ErrSpec) (s : State) : State :=
  let s1 := setLeg k (fun l => { l with st := st, ocSeen := seen || l.ocSeen }) (legOff k s)
  raiseError e k (updStage (fireEvent (96 + k) s1))

/-- The overcurrent latch of a leg (R192). -/
def latchOc (k : Nat) (trip : Bool) (s : State) : State :=
  if !legPresent s k then s
  else match (legOf s k).st with
    | .ocLatched => s
    | .gateFault => setLeg k (fun l => { l with ocSeen := trip || l.ocSeen }) s
    | _ => latchLeg k .ocLatched trip errLegOc (setLeg k (fun l => { l with ocSeen := false }) s)

/-- A gate fault of the leg waits in the queue for the same cycle: it is the one error of the two (R198). -/
def gateFaultDue (s : State) (k : Nat) : Bool :=
  s.pending.any fun
    | .gfltFault t leg low => t == s.now && leg == k && low
    | _ => false

/-- LEG_OC_TRIP (R192, R198): I > OC_TRIP. On a leg whose gate fault has latched it, or latches it in the same cycle, it is
recorded only. -/
def execLegOcTrip (t leg : Nat) (fast : List Bool) (s : State) : Host.Outcome State Fault Refusal :=
  let s := s.at t
  .next (if fastValue s leg fast ≤ ocTrip s leg then s
  else if gateFaultDue s leg then setLeg leg (fun l => { l with ocSeen := true }) (legOff leg s)
  else latchOc leg true s)

/-- LEG_OC_LATCH (R192): OC_CNT consecutive periods of the leg were limited. -/
def execLegOcLatch (t leg : Nat) (s : State) : Host.Outcome State Fault Refusal :=
  let s := s.at t
  let n := rdf s (legAddr leg) 2 4
  .next (if 0 < n && n ≤ (legOf s leg).ocRun then latchOc leg false s else s)

/-- A low gate fault input latches its leg, and with GF_GROUP trips the whole group (R194). -/
def latchGate (k : Nat) (s : State) : State :=
  if !legPresent s k || (legOf s k).st == .gateFault then s
  else
    let s0 := if rdb s (legAddr k) 1 then tripGroup (k / 6) 1 s else s
    latchLeg k .gateFault false errLegGate s0

/-- GFLT_FAULT (R194): GFLTn_N after its filter. -/
def execGfltFault (t leg : Nat) (low : Bool) (s : State) : Host.Outcome State Fault Refusal :=
  let s1 := setLeg leg (fun l => { l with gflt := low }) (s.at t)
  .next (if low then latchGate leg s1 else errCleared 2 2 leg s1)

/-- Gate fault inputs that are low when GATE_EN rises latch their legs (R194). -/
def gateRise (s : State) : State := (List.range 36).foldl (fun a k => if (legOf a k).gflt then latchGate k a else a) s

end Sys2Proof.Machine
end

