-- ==== Sys2Proof/Machine/Cbl.lean ====
section
/-! DEFINITION. Cables, cooling and life (10): the identity chip's record, the thermal network, prediction and cap, the
cooling routes, and the life account. Temperatures, currents and powers of the network are exact (log entry 40). -/

namespace Sys2Proof.Machine

/-! ### Errors of SUBSYS 4 (R269) -/

def errCblAuthFail : ErrSpec := ⟨4, 1, 1⟩
def errCblRecord : ErrSpec := ⟨4, 2, 1⟩
def errCblChip : ErrSpec := ⟨4, 3, 1⟩
def errCblWrite : ErrSpec := ⟨4, 4, 1⟩
def errCblSensor : ErrSpec := ⟨4, 5, 2⟩
def errCblOvertemp : ErrSpec := ⟨4, 6, 2⟩
def errCblHot : ErrSpec := ⟨4, 7, 2⟩
def errCblEol : ErrSpec := ⟨4, 8, 1⟩
def errCblLockout : ErrSpec := ⟨4, 9, 1⟩
def errCblLifeLost : ErrSpec := ⟨4, 0xA, 1⟩
def errCblFlow : ErrSpec := ⟨4, 0xB, 2⟩

/-! ### State and configuration -/

/-- Output `n`'s cable. -/
def cbl (s : State) (n : Nat) : CblOp := get s.cbl.op n

/-- Output `n`'s cable changed. -/
def setCbl (n : Nat) (f : CblOp → CblOp) (s : State) : State := { s with cbl.op := upd s.cbl.op n f }

/-- The event source of output `n`'s cable (R270). -/
def cblEvent (n e : Nat) (s : State) : State := fireEvent (192 + 8 * n + e) s

/-- Address of CBL_OPn_CFG. -/
def cblAddr (n : Nat) : Nat := baseCBL + 0x100 + 0x20 * n

/-- A field of the cable identity record (R253). -/
def CblOp.fld (o : CblOp) (ofs w : Nat) : Nat := entryField o.record ofs w

/-- A temperature of the record, °C. -/
def CblOp.degC (o : CblOp) (ofs : Nat) : Rat := (signed 16 (o.fld ofs 2) : Rat) / 10

/-- TS input number of the coolant supply, and of ambient. -/
def tsIn (s : State) (n : Nat) : Nat := rdf s (cblAddr n) 0 5
def tsAmb (s : State) (n : Nat) : Nat := rdf s (cblAddr n) 5 5

/-- Flow input of an output. -/
def flowOf (s : State) (n : Nat) : Nat := rdf s (cblAddr n) 10 3

/-- The pump command an output's flow follows. -/
def pumpCmd (s : State) (n : Nat) : Nat := get s.cbl.cool (rdf s (cblAddr n) 15 4)

/-- A TS reading, °C. -/
def tsC (s : State) (k : Nat) : Rat := ((get s.cbl.ts k : Int) : Rat) / 1000

/-- The inputs of an output (R251): its six TS inputs, and whether any of them or its flow input has failed. -/
def inputsFailed (s : State) (n : Nat) : Bool :=
  ([4 * n, 4 * n + 1, 4 * n + 2, 4 * n + 3, tsIn s n, tsAmb s n].any fun k => get s.cbl.tsBad k)
    || get s.cbl.flowBad (flowOf s n)

/-- READY (R255): authenticated, not locked out, and no failed sensor that is a boundary of the model. -/
def cblReady (s : State) (n : Nat) : Bool :=
  (cbl s n).auth && (cbl s n).level < 2 && !get s.cbl.tsBad (tsIn s n) && !get s.cbl.tsBad (tsAmb s n)

/-- LIM_THERMAL follows the standing cable errors (R269). -/
def updThermal (s : State) : State :=
  setLim .thermal (s.cbl.op.toList.any fun o => o.hot || o.overtemp || o.sensor || o.flowLow) s

/-! ### The network (R256, R257) -/

/-- What the network is driven by: current in A, flow in mL/min, and the boundary temperatures. -/
structure Drive where
  i : Rat
  q : Rat
  tin : Rat
  tamb : Rat
deriving DecidableEq, Repr

/-- A heat capacity, mJ/K. -/
def CblOp.cap (o : CblOp) (i : Nat) : Rat := (o.fld (56 + 4 * i) 4 : Nat)

/-- A conductance, mW/K: G02, G03, G12, G13, G34, G45, G2A, G5A. -/
def CblOp.cond (o : CblOp) (k : Nat) : Rat := (o.fld (80 + 4 * k) 4 : Nat)

/-- G01 at a flow, held at the end points (R256). -/
def CblOp.g01 (o : CblOp) (q : Rat) : Rat :=
  let qp := fun k => ((o.fld (112 + 2 * k) 2 : Nat) : Rat)
  let gp := fun k => ((o.fld (120 + 4 * k) 4 : Nat) : Rat)
  if q ≤ qp 0 then gp 0
  else if qp 3 ≤ q then gp 3
  else
    let k := ((List.range 3).filter fun j => decide (qp j ≤ q)).length - 1
    if qp (k + 1) = qp k then gp k else gp k + (gp (k + 1) - gp k) * (q - qp k) / (qp (k + 1) - qp k)

/-- The edges between nodes at a flow. -/
def CblOp.edges (o : CblOp) (q : Rat) : List (Nat × Nat × Rat) :=
  [(0, 1, o.g01 q), (0, 2, o.cond 0), (0, 3, o.cond 1), (1, 2, o.cond 2), (1, 3, o.cond 3), (3, 4, o.cond 4), (4, 5, o.cond 5)]

/-- Conductance between two nodes. -/
def CblOp.gBetween (o : CblOp) (q : Rat) (i j : Nat) : Rat :=
  ((o.edges q).filter fun e => (e.1 == i && e.2.1 == j) || (e.1 == j && e.2.1 == i)).foldl (fun a e => a + e.2.2) 0

/-- Conductance of a node to ambient. -/
def CblOp.gAmb (o : CblOp) (i : Nat) : Rat := if i = 2 then o.cond 6 else if i = 5 then o.cond 7 else 0

/-- Advection of node N1, mW/K. -/
def CblOp.adv (o : CblOp) (q : Rat) : Rat := 2 * ((o.fld 136 2 : Nat) : Rat) * (q / 60)

/-- P0 = `p0 a` + `p0b` T0: the part that does not depend on T0, and the slope, mW (R256). -/
def CblOp.p0a (o : CblOp) (i : Rat) : Rat :=
  i * i * ((o.fld 48 4 : Nat) : Rat) / 1000 * (1 - 20 * ((o.fld 46 2 : Nat) : Rat) / 1000000)
def CblOp.p0b (o : CblOp) (i : Rat) : Rat := i * i * ((o.fld 48 4 : Nat) : Rat) / 1000 * ((o.fld 46 2 : Nat) : Rat) / 1000000

/-- P3, mW. -/
def CblOp.p3 (o : CblOp) (i : Rat) : Rat := i * i * ((o.fld 52 4 : Nat) : Rat) / 1000

/-- A node's temperature in a list of six. -/
def tAt (t : List Rat) (i : Nat) : Rat := t.getD i 0

/-- Heat into node `i`, mW. -/
def CblOp.heatInto (o : CblOp) (d : Drive) (t : List Rat) (i : Nat) : Rat :=
  let own := if i = 0 then o.p0a d.i + o.p0b d.i * tAt t 0 else if i = 3 then o.p3 d.i else 0
  let edge := ((List.range 6).map fun j => o.gBetween d.q i j * (tAt t j - tAt t i)).foldl (· + ·) 0
  let adv := if i = 1 then o.adv d.q * (d.tin - tAt t 1) else 0
  own + edge + o.gAmb i * (d.tamb - tAt t i) + adv

/-- One forward-Euler sub-step of 10 ms (R256). -/
def CblOp.euler (o : CblOp) (d : Drive) (t : List Rat) : List Rat :=
  (List.range 6).map fun i => tAt t i + o.heatInto d t i / (100 * o.cap i)

/-- A model step: ten sub-steps. -/
def CblOp.advanceModel (o : CblOp) (d : Drive) (t : List Rat) : List Rat := (List.range 10).foldl (fun a _ => o.euler d a) t

/-- One column of the elimination of a linear system. -/
def pivotRow (rows : List (List Rat)) (i : Nat) : List (List Rat) :=
  let p := rows.getD i []
  let pv := p.getD i 1
  let pr := p.map (· / pv)
  rows.mapIdx fun j r => if j = i then pr else List.zipWith (fun a b => a - r.getD i 0 * b) r pr

/-- The solution of six equations in six unknowns, rows of coefficients with the right side last. -/
def solve6 (rows : List (List Rat)) : List Rat := ((List.range 6).foldl pivotRow rows).map fun r => r.getD 6 0

/-- One backward-Euler step of `h` seconds (R258): the temperatures for which the change over the step follows from their
own heat flows. -/
def CblOp.backward (o : CblOp) (d : Drive) (h : Rat) (t : List Rat) : List Rat :=
  let row := fun i =>
    let diag := o.cap i / h + ((List.range 6).map fun j => o.gBetween d.q i j).foldl (· + ·) 0 + o.gAmb i
      + (if i = 1 then o.adv d.q else 0) - (if i = 0 then o.p0b d.i else 0)
    let rhs := o.cap i / h * tAt t i + o.gAmb i * d.tamb + (if i = 0 then o.p0a d.i else 0) + (if i = 3 then o.p3 d.i else 0)
      + (if i = 1 then o.adv d.q * d.tin else 0)
    ((List.range 6).map fun j => if j = i then diag else -(o.gBetween d.q i j)) ++ [rhs]
  solve6 ((List.range 6).map row)

/-! ### Prediction (R258) -/

/-- Limits of T0, T3 and T5 less MARGIN, °C. -/
def limitsOf (s : State) (o : CblOp) : List Rat :=
  let m : Rat := (rdf s baseCBL 7 4 : Nat)
  [o.degC 138 - m, o.degC 140 - m, o.degC 142 - m]

/-- The three watched nodes within their limits. -/
def within (lim t : List Rat) : Bool :=
  decide (tAt t 0 ≤ lim.getD 0 0) && decide (tAt t 3 ≤ lim.getD 1 0) && decide (tAt t 5 ≤ lim.getD 2 0)

/-- ok(I): every one of `k` steps keeps within the limits. -/
def predictOk (o : CblOp) (d : Drive) (h : Rat) (lim : List Rat) : Nat → List Rat → Bool
  | 0, _ => true
  | k + 1, t =>
    let u := o.backward d h t
    within lim u && predictOk o d h lim k u

/-- The peaks of T0, T3 and T5 over `k` steps. -/
def predictPeak (o : CblOp) (d : Drive) (h : Rat) : Nat → List Rat → List Rat → List Rat
  | 0, _, p => p
  | k + 1, t, p =>
    let u := o.backward d h t
    predictPeak o d h k u [max (p.getD 0 0) (tAt u 0), max (p.getD 1 0) (tAt u 3), max (p.getD 2 0) (tAt u 5)]

/-- The search between two currents. -/
def searchCap (ok : Rat → Bool) : Nat → Rat → Rat → Rat
  | 0, lo, _ => lo
  | k + 1, lo, hi =>
    let m := (lo + hi) / 2
    if ok m then searchCap ok k m hi else searchCap ok k lo m

/-- I_life, A (R267). -/
def iLife (s : State) (o : CblOp) : Rat :=
  let r : Rat := (o.fld 40 2 : Nat)
  match o.level with
  | 0 => r
  | 1 => r * (rdf s (baseCBL + 4) 0 7 : Nat) / 100
  | _ => 0

/-- A current in A as whole mA, rounded down. -/
def toMa (a : Rat) : Nat := (a * 1000).floor.toNat

/-- H / 60, s. -/
def stepH (s : State) : Rat := ((rdf s baseCBL 0 7 : Nat) : Rat) / 60

/-- I_s, and whether no current passes (R258). -/
def searchCurrent (s : State) (o : CblOp) (d : Drive) : Nat × Bool :=
  let t := o.temp.toList
  let ok := fun i => predictOk o { d with i := i } (stepH s) (limitsOf s o) 60 t
  let top := min ((o.fld 40 2 : Nat) : Rat) (iLife s o)
  (if !ok 0 then 0 else toMa (if ok top then top else searchCap ok 10 0 top), !ok 0)

/-! ### The cap (R259, R260) -/

/-- I_sens, mA. -/
def iSens (s : State) (n : Nat) : Nat :=
  let r := (cbl s n).fld 40 2 * 1000
  if inputsFailed s n then r * rdf s (baseCBL + 4) 7 7 / 100 else r

/-- The cap takes a value: CAP_CHANGE, R16, and the time since which it stands at 0 (R311). -/
def setCap (n ma : Nat) (s : State) : State :=
  if (cbl s n).iCap = ma then s
  else
    let s1 := cblEvent n 0 (setCbl n (fun o => { o with iCap := ma }) s)
    postCap n ma { s1 with vcl.port := upd s1.vcl.port n fun p =>
                             { p with capZero := if ma = 0 then (p.capZero.or (some s.now)) else none } }

/-- CBL_SENSOR follows the inputs of the output (R251, R259). -/
def checkSensors (n : Nat) (s : State) : State :=
  let bad := inputsFailed s n
  if bad && !(cbl s n).sensor then
    raiseError errCblSensor n (updThermal (cblEvent n 4 (setCbl n (fun o => { o with sensor := true }) s)))
  else if !bad && (cbl s n).sensor then errCleared 4 5 n (updThermal (setCbl n (fun o => { o with sensor := false }) s))
  else s

/-- CBL_HOT follows the search. -/
def checkHot (n : Nat) (hot : Bool) (s : State) : State :=
  if hot && !(cbl s n).hot then
    raiseError errCblHot n (updThermal (cblEvent n 5 (setCbl n (fun o => { o with hot := true }) s)))
  else if !hot && (cbl s n).hot then errCleared 4 7 n (updThermal (setCbl n (fun o => { o with hot := false }) s))
  else s

/-- A measured temperature is above its limit plus TRIP_DELTA (R260). -/
def measuredHot (s : State) (n : Nat) : Bool :=
  let o := cbl s n
  let d : Rat := (rdf s baseCBL 20 5 : Nat)
  let above := fun k ofs => !get s.cbl.tsBad k && decide (o.degC ofs + d < tsC s k)
  above (4 * n) 140 || above (4 * n + 1) 140 || above (4 * n + 2) 142

/-- The trip of R260 at a conversion, and its end. -/
def checkTrip (n : Nat) (s : State) : State :=
  if !(cbl s n).auth then s
  else if measuredHot s n then
    let s1 := setCap n 0 (setCbl n (fun o => { o with tripMs := some (s.now / 1000000) }) s)
    if (cbl s n).overtemp then s1
    else raiseError errCblOvertemp n (updThermal (cblEvent n 5 (setCbl n (fun o => { o with overtemp := true }) s1)))
  else if (cbl s n).overtemp then
    errCleared 4 6 n (updThermal (setCbl n (fun o => { o with overtemp := false }) s))
  else s

/-- RTD_CONVERSION (R251, R259, R260): the 24 readings in m°C and those that read open or short. The standby of a pair does not
convert (R457). -/
def execRtdConversion (t : Nat) (ts : List Int) (bad : List Nat) (s : State) : Host.Outcome State Fault Refusal :=
  let s0 := s.at t
  if s0.dpx.role == 2 then .next s0 else
  let v := fun k => ts.getD k 0
  let fail := fun k => bad.contains k || decide (v k < -50000) || decide (250000 < v k)
  let s1 := { s0 with cbl.ts := updAll s0.cbl.ts fun k _ => v k, cbl.tsBad := updAll s0.cbl.tsBad fun k _ => fail k }
  .next ((List.range 4).foldl (fun a n => checkTrip n (checkSensors n a)) s1)

/-- A pump command of an output that uses flow input `k` is above 0 (R251). -/
def flowAsked (s : State) (k : Nat) : Bool := (List.range 4).any fun n => flowOf s n == k && 0 < pumpCmd s n

/-- FLOW_LOST (R251): a flow input has shown no pulse for 2 s while a pump command of an output that uses it is above 0. -/
def execFlowLost (t k : Nat) (s : State) : Host.Outcome State Fault Refusal :=
  let s := s.at t
  .next (if flowAsked s k then
    (List.range 4).foldl (fun a n => checkSensors n a) { s with cbl.flowBad := upd s.cbl.flowBad k fun _ => true }
  else s)

/-- FLOW_MIN, mL/min. -/
def flowMin (s : State) : Nat := rdf s (baseCBL + 4) 22 10 * 10

/-- CBL_FLOW (R261): the flow has been below FLOW_MIN for 2 s while the pump command is above 0. -/
def execCblFlow (t n : Nat) (s : State) : Host.Outcome State Fault Refusal :=
  let s := s.at t
  .next (if get s.cbl.flow (flowOf s n) < flowMin s && 0 < pumpCmd s n && !(cbl s n).flowLow then
    raiseError errCblFlow n (updThermal (setCbl n (fun o => { o with flowLow := true }) s))
  else s)

/-! ### Life (R264 to R267) -/

/-- A sum of the exponential series: `n` further terms after `term`. -/
def expSeries (x : Rat) : Nat → Nat → Rat → Rat
  | 0, _, term => term
  | n + 1, k, term => term + expSeries x n (k + 1) (term * x / (k + 1 : Nat))

/-- exp(x) to 2^-32, from the series of x / 256 squared eight times (log entry 40). -/
def expRat (x : Rat) : Rat :=
  let y := expSeries (x / 256) 24 0 1
  let z := (List.range 8).foldl (fun a _ => ((a * a) * 2 ^ 64).floor / (2 ^ 64 : Rat)) y
  (roundAway (z * 2 ^ 32) : Rat) / 2 ^ 32

/-- The ageing factor of R264 at a temperature in °C. -/
def ageFactor (ea : Nat) (t : Rat) : Rat :=
  let k : Rat := t + 27315 / 100
  if k ≤ 0 then 0 else expRat ((ea : Rat) / 1000 / (8617 / 100000000) * (100 / 36315 - 1 / k))

/-- The pending increments of a model step: AH in 0.1 Ah, DAMAGE and COOLANT in 0.01 h (R264). -/
def ageStep (s : State) (n : Nat) (o : CblOp) : CblOp :=
  let ma : Rat := ((pout s n).iout.natAbs : Nat)
  let node := if o.fld 163 1 = 3 then 3 else 0
  let dmg := ageFactor (o.fld 160 2) (get o.temp node) / 360
  let cool : Rat := if flowMin s ≤ get s.cbl.flow (flowOf s n) then 1 / 360 else 0
  { o with pend := updAll o.pend fun k p => if k = 1 then p + ma / 3600000 else if k = 2 then p + dmg else if k = 3 then p + cool else p }


/-- A limit of the record in counter units: MATING, AH, DAMAGE, COOLANT. -/
def ctrMax (o : CblOp) (k : Nat) : Nat :=
  o.fld (144 + 4 * k) 4 * (match k with
    | 0 => 1
    | 1 => 10
    | _ => 100)

/-- The level the counters and the chip's EOL byte give (R267). -/
def lifeLevel (o : CblOp) : Nat :=
  let any := fun pct => (List.range 4).any fun k => decide (ctrMax o k * pct ≤ ctrVal o.ctr k * 100)
  let byCtr := if any (100 + o.fld 162 1) then 2 else if any 100 then 1 else 0
  max byCtr (min 2 (entryField o.ctr 16 1))

/-- The level is judged after a counter read; it never falls, and the chip's EOL byte counts as a level already reached, which
is neither written nor raised again (R267). -/
def judgeLife (n : Nat) (s : State) : State :=
  let reached := max (cbl s n).level (min 2 (entryField (cbl s n).ctr 16 1))
  let new := max reached (lifeLevel (cbl s n))
  let s1 := setCbl n (fun o => { o with level := new }) s
  if new = reached then s1
  else raiseError (if new = 1 then errCblEol else errCblLockout) n (cblEvent n 6 (chipSend n [5, new] s1))

/-- Some increment is pending. -/
def anyPend (o : CblOp) : Bool := o.pend.toList.any fun p => p != 0

/-- A flush that waits for this write completes (R268). -/
def lifeFinish (n : Nat) (a : State) : State :=
  match (cbl a n).flushJob with
  | some (line, seq) => finishAccepted line seq {} (setCbl n (fun q => { q with flushJob := none }) a)
  | none => a

/-- The chip answers a write of the life counters (R264, R265): READ_CTR reads them back; what it confirms leaves the pending
increments, what it does not is expected at the next read, and the write is an event or an error. -/
def lifeStore (n : Nat) (acked : List Bool) (ctr : List Nat) (s : State) : State :=
  let o := cbl s n
  let ok := fun k => acked.getD k false && ctrVal ctr k == min (2 ^ 32 - 1) (ctrVal o.ctr k + wholePend o k)
  let fail := (List.range 4).any fun k => 0 < wholePend o k && !ok k
  let s1 := setCbl n (fun q =>
    { q with chip := true, lifeDue := false, ctr := ctr,
               pend := updAll q.pend fun k p => if ok k then p - ((wholePend o k : Nat) : Rat) else p,
               expect := updAll q.expect fun k e =>
               if wholePend o k = 0 then e else if ok k then none else some (ctrVal o.ctr k, wholePend o k) }) (chipSend n [2] s)
  judgeLife n (if fail then raiseError errCblWrite n s1 else cblEvent n 3 s1)

/-- LIFE_WRITE (R265, R266): the whole increments are written; `acked` says which ADD_CTR the chip took, `ctr` is the block
read back. A write that has failed three times leaves its increments pending. Where the chip does not answer, the cable is
authenticated again after the recovery of its line (R254, R255). -/
def execLifeWrite (t n : Nat) (present : Bool) (acked : List Bool) (ctr : List Nat) (s : State) :
    Host.Outcome State Fault Refusal :=
  let s := s.at t
  .next (if !(cbl s n).auth || !((cbl s n).lifeDue || (cbl s n).flushJob.isSome) then s
    else if !present then
      lifeFinish n (raiseError errCblChip n (cblEvent n 7 (setCbl n (fun q =>
        { q with chip := false, lifeDue := false, authRun := true }) s)))
    else lifeFinish n (lifeStore n acked ctr s))

/-- LIFE_HOURLY (R265): 60 min of device time while the cable is authenticated. -/
def execLifeHourly (t n : Nat) (s : State) : Host.Outcome State Fault Refusal :=
  let s := s.at t
  .next (if (cbl s n).auth then lifeBegin n s else s)

/-- LIFE_PENDING_SAVE (R266): every 1 s. -/
def execLifePendingSave (t : Nat) (s : State) : Host.Outcome State Fault Refusal := .next (keepPending (s.at t))

/-! ### The model step -/

/-- The temperatures after a step with a gain toward the measurements (R257). -/
def observe (s : State) (n : Nat) (tin : Rat) (t : List Rat) : List Rat :=
  let k : Rat := ((rdf s baseCBL 25 7 : Nat) : Rat) / 128
  let good := fun j => !get s.cbl.tsBad j
  let toward := fun (ok : Bool) (m x : Rat) => if ok then x + k * (m - x) else x
  let contacts := [4 * n, 4 * n + 1].filter good
  let c := (contacts.map (tsC s)).foldl max (tsC s (contacts.headD 0))
  [tAt t 0, toward (good (4 * n + 3)) ((tsC s (4 * n + 3) + tin) / 2) (tAt t 1), tAt t 2,
    toward (contacts != []) c (tAt t 3), tAt t 4, toward (good (4 * n + 2)) (tsC s (4 * n + 2)) (tAt t 5)]

/-- T_in, °C: T_IN_FAIL in place of a failed input (R260). -/
def supplyTemp (s : State) (n : Nat) : Rat :=
  if get s.cbl.tsBad (tsIn s n) then (rdf s (baseCBL + 4) 14 8 : Nat) else tsC s (tsIn s n)

/-- Ambient, °C: a free value where its input has failed, as the spec gives the model none. -/
def ambientTemp (s : State) (n : Nat) : Rat × State :=
  if get s.cbl.tsBad (tsAmb s n) then
    (let f := drawFreeInt s
     ((f.1 : Rat) / 1000, f.2))
  else (tsC s (tsAmb s n), s)

/-- The flow the search uses: the lower of the measured one and that at the present pump command, which the spec does not
state as a function and is a free value (R258). -/
def searchFlow (s : State) (n : Nat) : Nat × State :=
  let f := drawFree s
  (min (get s.cbl.flow (flowOf s n)) f.1, f.2)

/-- The cap after a search (R259, R268). -/
def riseCap (n iS : Nat) (s : State) : State :=
  let new := min iS (iSens s n)
  let old := (cbl s n).iCap
  if new < old then setCap n new s
  else if (cbl s n).tripMs == some (s.now / 1000000) then s
  else setCap n (min new (old + rdf s baseCBL 11 9 * 100)) s

/-- The search with its results stored: I_s, CBL_HOT, and the peaks at the present current. -/
def searchStep (n : Nat) (tin : Rat) (s : State) : State :=
  let a := ambientTemp s n
  let q := searchFlow a.2 n
  let o := cbl q.2 n
  let i : Rat := ((pout s n).iout : Rat) / 1000
  let d : Drive := { i := i, q := (q.1 : Nat), tin := tin, tamb := a.1 }
  let r := searchCurrent q.2 o d
  let t := o.temp.toList
  let pk := predictPeak o d (stepH s) 60 t [tAt t 0, tAt t 3, tAt t 5]
  checkHot n r.2 (setCbl n (fun x => { x with iS := r.1, peak := updAll x.peak fun k _ => pk.getD k 0 }) q.2)

/-- A CBL_STATE record (R464). -/
def cableRec (s : State) (n : Nat) : List Nat :=
  let o := cbl s n
  [n, 0, 0] ++ (o.temp.toList.map fun (x : Rat) => leBytes 4 (unsigned 32 (roundAway (x * 1000)))).flatten ++ leBytes 4 o.iCap
    ++ (o.pend.toList.map fun (x : Rat) => leBytes 8 (x * 2 ^ 32).floor.toNat).flatten

/-- A cable's mirrored state leaves for the standby (R464). -/
def mirrorCable (n : Nat) (s : State) : State :=
  if s.dpx.role == 1 then mirrorSend 0x34 (cableRec s n) s else s

/-- R_c of the cable's record at the conductor's mean temperature, µΩ (R342). -/
def CblOp.resistance (o : CblOp) (t : List Rat) : Nat :=
  (roundAway (((o.fld 48 4 : Nat) : Rat) * (1 + ((o.fld 46 2 : Nat) : Rat) / 1000000 * ((tAt t 0 + tAt t 1) / 2 - 20))
    + ((o.fld 52 4 : Nat) : Rat))).toNat

/-- One output's model step (R256 to R259, R264). -/
def modelStep (n : Nat) (s : State) : State :=
  if !(cbl s n).auth then s
  else
    let tin := supplyTemp s n
    let a := ambientTemp s n
    let o := cbl a.2 n
    let i : Rat := ((pout s n).iout : Rat) / 1000
    let d : Drive := { i := i, q := ((get s.cbl.flow (flowOf s n) : Nat) : Rat), tin := tin, tamb := a.1 }
    let t1 := observe a.2 n tin (o.advanceModel d o.temp.toList)
    let s1 := setCbl n (fun x =>
      { x with temp := updAll x.temp fun k _ => tAt t1 k, heat := o.p0a i + o.p0b i * tAt t1 0 + o.p3 i,
                 rC := o.resistance t1 }) a.2
    let s2 := searchStep n tin s1
    let s3 := riseCap n (cbl s2 n).iS s2
    let s4 := setCbl n (ageStep s3 n) s3
    let s5 := if (cbl s4 n).level = 2 then stopSession n 5 false s4 else s4
    mirrorCable n s5

/-- A low flow that has come back, or whose pump command has gone to 0, ends its error (R261). -/
def flowBack (n : Nat) (b : State) : State :=
  if (cbl b n).flowLow && (flowMin b ≤ get b.cbl.flow (flowOf b n) || pumpCmd b n = 0) then
    errCleared 4 0xB n (updThermal (setCbl n (fun o => { o with flowLow := false }) b))
  else b

/-- CABLE_MODEL_STEP (R251, R256 to R259, R264): every 100 ms, with the flows in mL/min; a flow that is seen again, or that no
pump command asks for, no longer counts as failed, and CBL_FLOW ends. The standby of a pair takes the model's states from its
mirror (R457). -/
def execCableModelStep (t : Nat) (flow : List Nat) (s : State) : Host.Outcome State Fault Refusal :=
  let s0 := takeNeutral [0x40] (s.at t)
  let s1 := { s0 with cbl.flow := updAll s0.cbl.flow fun k _ => flow.getD k 0,
                        cbl.flowBad := updAll s0.cbl.flowBad fun k b => b && flow.getD k 0 == 0 && flowAsked s0 k }
  let s2 := (List.range 4).foldl (fun a n => flowBack n (checkSensors n a)) s1
  .next (if s2.dpx.role == 2 then s2 else (List.range 4).foldl (fun a n => modelStep n a) s2)

/-! ### Authentication (R252 to R255, R266) -/

/-- The record's own checks (R253, R254 step 1), the stability of the network among them (R256). -/
def recordOk (o : CblOp) : Bool :=
  let q := fun k => o.fld (112 + 2 * k) 2
  let q3 : Rat := (q 3 : Nat)
  let stable := (List.range 6).all fun i =>
    decide (((List.range 6).map fun j => o.gBetween q3 i j).foldl (· + ·) 0 + o.gAmb i + (if i = 1 then o.adv q3 else 0) ≤ o.cap i * 50)
  o.fld 0 2 == 0xCB1E && o.fld 2 1 == 1 && o.fld 3 1 < 8 && o.fld 4 2 == 320 && 50 ≤ o.fld 40 2 && o.fld 40 2 ≤ 3000
    && q 0 < q 1 && q 1 < q 2 && q 2 < q 3 && 300 ≤ o.fld 160 2 && o.fld 160 2 ≤ 2000 && o.fld 162 1 ≤ 50
    && (o.fld 163 1 == 0 || o.fld 163 1 == 3) && stable

/-- The key slot that ISSUER selects. -/
def issuerSlot (s : State) (k : Nat) : Nat :=
  param s (match k with
    | 0 => pCBL_ISSUER_0
    | 1 => pCBL_ISSUER_1
    | 2 => pCBL_ISSUER_2
    | 3 => pCBL_ISSUER_3
    | 4 => pCBL_ISSUER_4
    | 5 => pCBL_ISSUER_5
    | 6 => pCBL_ISSUER_6
    | _ => pCBL_ISSUER_7) 0

/-- The authentication ends: CBL_AUTH, where it asked for it, completes with its outcome (R507). -/
def endAuth (n outcome : Nat) (s : State) : State :=
  let job := (cbl s n).authJob
  let s1 := setCbl n (fun o => { o with authRun := false, authJob := none, auth := outcome == 0 }) s
  match job with
  | some (line, seq) => match findCmd s1 line seq with
    | some c => done c [outcome] s1
    | none => s1
  | none => s1

/-- Nodes at initialisation (R257). -/
def initTemps (s : State) (n : Nat) : List Rat :=
  let r := tsC s (4 * n + 3)
  let c := max (tsC s (4 * n)) (tsC s (4 * n + 1))
  let h := tsC s (4 * n + 2)
  [r, r, r, c, (c + h) / 2, h]

/-- Pending increments at an authentication (R266): those of another cable are dropped; a counter that already shows the
expected value plus the delta has taken its increment. -/
def takePending (n : Nat) (s : State) : State :=
  let o := cbl s n
  let serial := (o.record.drop 8).take 16
  if o.serial != [] && o.serial != serial then
    let s1 := setCbl n (fun x => { x with pend := Vector.replicate 4 0, expect := Vector.replicate 4 none, serial := serial }) s
    if anyPend o then raiseError errCblLifeLost n s1 else s1
  else
    setCbl n (fun x =>
      { x with serial := serial, expect := Vector.replicate 4 none,
                 pend := updAll x.pend fun k p => match get x.expect k with
                 | some (v, d) => if ctrVal x.ctr k = min (2 ^ 32 - 1) (v + d) then p - (d : Rat) else p
                 | none => p }) s

/-- A cable is authenticated: the model starts, the first search runs, the cap starts at its result, and a session waiting
for it associates (R254, R255, R257, R259, R306). -/
def authDone (n : Nat) (s : State) : State :=
  let s1 := takePending n s
  let t := initTemps s1 n
  let s2 := setCbl n (fun o => { o with auth := true, temp := updAll o.temp (fun k _ => tAt t k) }) s1
  let s3 := judgeLife n (if anyPend (cbl s2 n) then lifeBegin n s2 else s2)
  let s4 := searchStep n (supplyTemp s3 n) (checkSensors n s3)
  let s5 := setCap n (min (cbl s4 n).iS (iSens s4 n)) s4
  let s6 := cblEvent n 1 (endAuth n 0 s5)
  if (get s6.vcl.port n).sess == 1 then sessEnter n 2 s6 else s6

/-- READ_REC of the 320 bytes of the record, 64 at a time (R252, R254 step 1). -/
def readRecord (n : Nat) (s : State) : State :=
  (List.range 5).foldl (fun a k => chipSend n ([1] ++ leBytes 2 (64 * k) ++ [64]) a) s

/-- READ_CTR, and CHALLENGE with a fresh 32-byte nonce (R252, R254 steps 3 and 4). -/
def challengeChip (n : Nat) (s : State) : State :=
  let nonce := drawTrng (chipSend n [2] s)
  chipSend n ([3] ++ leBytes 32 nonce.1) nonce.2

/-- CABLE_AUTH_COMPLETE (R254): what the chip answered, and the verdicts on the record's signature and the challenge. -/
def execCableAuthComplete (t n : Nat) (present sigOk chalOk : Bool) (record ctr : List Nat) (s : State) :
    Host.Outcome State Fault Refusal :=
  let s := s.at t
  let o : CblOp := { cbl s n with record := record, ctr := ctr, chip := true }
  let level := if (cbl s n).serial == (record.drop 8).take 16 then (cbl s n).level else 0
  .next (if !(cbl s n).authRun then s
    else if !present then
      endAuth n 3 (raiseError errCblChip n (cblEvent n 7 (setCbl n (fun x => { x with chip := false }) s)))
    else if !recordOk o || !sigOk || !(get s.key.slots (issuerSlot s (o.fld 3 1))).filled then
      endAuth n 1 (raiseError errCblRecord n (cblEvent n 2 (setCbl n (fun x => { x with chip := true }) (readRecord n s))))
    else
      let s1 := challengeChip n (readRecord n s)
      if !chalOk then
        endAuth n 2 (raiseError errCblAuthFail n (cblEvent n 2 (setCbl n (fun x => { x with chip := true }) s1)))
      else authDone n (setCbl n (fun x => { x with record := record, ctr := ctr, chip := true, level := level, auth := true }) s1))

/-! ### Cooling (R262, R263) -/

/-- The cable model sources (R262), whole units. -/
def cableSource (s : State) (n q : Nat) : Int :=
  let o := cbl s n
  let m := fun (x : Rat) => roundAway (x * 1000)
  let lim := limitsOf s o
  match q with
  | 0 => m (get o.temp 0)
  | 1 => m (get o.temp 1)
  | 2 => m (get o.temp 3)
  | 3 => m (get o.temp 5)
  | 4 => m (get o.peak 0)
  | 5 => m (get o.peak 1)
  | 6 => m (get o.peak 2)
  | 7 => m (min (lim.getD 0 0 - get o.peak 0) (min (lim.getD 1 0 - get o.peak 1) (lim.getD 2 0 - get o.peak 2)))
  | 8 => roundAway o.heat
  | 9 => (o.iCap : Nat)
  | _ => 0

/-- The first two data bytes of a route's message object take the command, and it is sent. -/
def coolSend (c m v : Nat) (s : State) : State :=
  if objBit s c m 0 then s
  else requestSend c m { s with mem := memWrite s.mem (objAddr c m + 24) 2 v }

/-- A cooling command takes a value, and its route follows (R263). -/
def coolCommand (k v : Nat) (s : State) : State :=
  let w := rdw s (baseCBL + 0x400 + 8 * k)
  let idx := bits w 3 7
  let changed := get s.cbl.cool k != v
  let s1 := { s with cbl.cool := upd s.cbl.cool k fun _ => v }
  match bits w 0 2 with
  | 1 => { s1 with lsw.dutyNext := upd s1.lsw.dutyNext idx fun _ => v }
  | 2 => if bits w 10 8 * 256 ≤ v then lswDrive idx true s1 else if v < bits w 18 8 * 256 then lswDrive idx false s1 else s1
  | 3 => if changed then coolSend (4 + b2n (bit w 2)) idx v s1 else s1
  | _ => s1

/-- COOL_CAN_RESEND (R263): a routed message object is sent at least every 100 ms. -/
def execCoolCanResend (t k : Nat) (s : State) : Host.Outcome State Fault Refusal :=
  let s := s.at t
  let w := rdw s (baseCBL + 0x400 + 8 * k)
  .next (if bits w 0 2 == 3 then coolSend (4 + b2n (bit w 2)) (bits w 3 7) (get s.cbl.cool k) s else s)

/-! ### Registers and commands (R271, R507) -/

/-- CBL_OPn_STAT. -/
def cblStatWord (s : State) (n : Nat) : Nat :=
  let o := cbl s n
  packBits [(0, b2n (cblReady s n)), (1, b2n o.auth), (2, o.level), (4, b2n o.sensor), (5, b2n (o.hot || o.overtemp)),
    (6, b2n o.chip), (7, b2n (anyPend o))]

/-- CBL_OPn_CAP: 0.1 A units. -/
def cblCapWord (s : State) (n : Nat) : Nat := packBits [(0, (cbl s n).iCap / 100 % 65536), (16, (cbl s n).iS / 100 % 65536)]

/-- A temperature as 16 bits of 0.1 °C. -/
def tenths (x : Rat) : Nat := unsigned 16 (roundAway (x * 10))

/-- CBL_OPn_TEMP. -/
def cblTempWord (s : State) (n : Nat) : Nat := packBits [(0, tenths (get (cbl s n).temp 0)), (16, tenths (get (cbl s n).temp 3))]

/-- CBL_OPn_PRED. -/
def cblPredWord (s : State) (n : Nat) : Nat :=
  packBits [(0, tenths (get (cbl s n).temp 5)), (16, tenths ((cableSource s n 7 : Rat) / 1000))]

/-- CBL_STATUS (R271, R507). -/
def execCblStatus (t line seq : Nat) (s : State) : Host.Outcome State Fault Refusal :=
  .next (runCmd line seq 0x0601 neverIllegal (fun c s =>
    doneOut c [] ((((List.range 4).map fun n => [cblStatWord s n, cblCapWord s n, cblTempWord s n, cblPredWord s n]).flatten.map
      (leBytes 4)).flatten) s) (s.at t))

/-- CBL_RECORD_READ (R271, R507). -/
def execCblRecordRead (t line seq : Nat) (s : State) : Host.Outcome State Fault Refusal :=
  .next (runCmd line seq 0x0602 neverIllegal (fun c s =>
    let n := c.param 8 1
    if 4 ≤ n then rejectRange c 8 s
    else
      let o := cbl s n
      doneOut c [] ((o.record ++ List.replicate 320 0).take 320 ++ (o.ctr ++ List.replicate 24 0).take 24
        ++ (o.pend.toList.map fun x => leBytes 8 (x * 2 ^ 32).floor.toNat).flatten) s) (s.at t))

/-- CBL_AUTH (R254, R271, R507): it completes when the sequence has ended. -/
def execCblAuth (t line seq : Nat) (s : State) : Host.Outcome State Fault Refusal :=
  .next (runCmd line seq 0x0603 neverIllegal (fun c s =>
    let n := c.param 8 1
    if 4 ≤ n then rejectRange c 8 s
    else setCbl n (fun o => { o with authRun := true, authJob := some (line, seq) }) s) (s.at t))

/-- CBL_LIFE_FLUSH writes only to an authenticated chip (R265). -/
def flushIllegal (c : Cmd) (s : State) : Bool := c.param 8 1 < 4 && !(cbl s (c.param 8 1)).auth

/-- CBL_LIFE_FLUSH (R265, R271, R501): ACCEPTED, and FINAL when the chip has been written and read back. -/
def execCblLifeFlush (t line seq : Nat) (s : State) : Host.Outcome State Fault Refusal :=
  .next (runCmd line seq 0x0604 flushIllegal (fun c s =>
    let n := c.param 8 1
    if 4 ≤ n then rejectRange c 8 s
    else accept c [] (lifeBegin n (setCbl n (fun o => { o with flushJob := some (line, seq) }) s))) (s.at t))

end Sys2Proof.Machine
end

