-- ==== Sys2Proof/Machine/Evg.lean ====
section
/-! DEFINITION. The event gatherer's registers and commands (04, R509). -/

namespace Sys2Proof.Machine

/-- A source number no block's chapter names: it never fires (R104). -/
def reservedSrc (n : Nat) : Bool := reservedSources.contains n

/-- EVENT_SOURCE_FIRE (R105, R117): an edge source fires, or a level source's input takes `level`; an input that falls
fires nothing. -/
def execEventSourceFire (t src : Nat) (level : Bool) (s : State) : Host.Outcome State Fault Refusal :=
  let s := s.at t
  if reservedSrc src then .next s
  else if srcLevel s src then .next (setLevel src level s)
  else .next (fireEvent src s)

/-- STORM_WINDOW (R117): the per-source counts restart. -/
def execStormWindow (t : Nat) (s : State) : Host.Outcome State Fault Refusal :=
  let s := s.at t
  .next { s with evg.src := updAll s.evg.src fun _ x => { x with count := 0 } }

/-- The master may write the claim registers of a target (R103, R113). -/
def claimAllowed (m : Master) (t : Nat) : Bool :=
  match m with
  | .pcie => t < 2
  | .sup => t == 2 || t == 3
  | .ses n => t == 4 + n
  | _ => false

/-- A target changed. -/
def setTgt (s : State) (t : Nat) (f : EvTarget → EvTarget) : State := { s with evg.tgt := upd s.evg.tgt t f }

/-- The source fired in this CLK_PER cycle (R112): the cycle that holds a block time is its multiple of 5 ns (DESIGN CHOICE, log
entry 60). -/
def firedNow (s : State) (n : Nat) : Bool := (get s.evg.src n).fireAt == some (s.now / 5)

/-- PENDING as a claim of this cycle finds it: a fire or a storm of the same cycle counts as arriving after it (R112). -/
def pendingAtClaim (s : State) (n : Nat) : Bool :=
  let x := get s.evg.src n
  if firedNow s n then x.was else x.pending

/-- The claim is accepted: the source is eligible at the target as the cycle found it (R106, R107, R112). -/
def claimable (s : State) (t n : Nat) : Bool :=
  pendingAtClaim s n && (firedNow s n || !(get s.evg.src n).stormed) && srcEnable s n && srcTarget s n == t
    && abovePrio (srcPrio s n) (get s.evg.tgt t).run

/-- A claim is accepted, all in one step (R107); a fire of the same cycle stays PENDING (R112). -/
def acceptClaim (t n : Nat) (s : State) : State :=
  let p := srcPrio s n
  let again := firedNow s n
  setTgt (setSrc s n fun x => { x with pending := again && x.pending, was := false, active := true }) t fun x =>
    { x with stack := (n, x.run) :: x.stack, run := some p, claimRes := 0 }

/-- A claim is refused: nothing changes but CLAIM_RES and CLAIM_BAD (R107). -/
def refuseClaim (t res : Nat) (s : State) : State :=
  evgError { setTgt s t (fun x => { x with claimRes := res }) with evg.claimBad := true }

/-- A master writes EVG_Tt_CLAIM (R107, R113): a host write beyond the host targets has no effect but HOST_DENIED. -/
def claimWrite (m : Master) (tgt src : Nat) (s : State) : State :=
  if m == .pcie && 2 ≤ tgt then evgError { s with evg.hostDenied := true }
  else if !claimAllowed m tgt then refuseClaim tgt 3 s
  else if claimable s tgt src then acceptClaim tgt src s
  else refuseClaim tgt (if pendingAtClaim s src then 2 else 1) s

/-- EVG_CLAIM (R107, R113). -/
def execEvgClaim (t : Nat) (m : Master) (tgt src : Nat) (s : State) : Host.Outcome State Fault Refusal :=
  .next (claimWrite m tgt src (s.at t))

/-- An end of interrupt is accepted (R108, R110): the source is no longer ACTIVE, the stack pops, the host vectors that this
makes non-empty send their message, and a level source whose input is asserted is PENDING again, which the storm limiter
counts. -/
def acceptEoi (t n : Nat) (prev : Option Nat) (rest : List (Nat × Option Nat)) (s : State) : State :=
  let s1 := setTgt (setSrc s n fun x => { x with active := false }) t fun x =>
    { x with stack := rest, run := prev, eoiBad := false }
  let s2 := if t < 2 then notifyVectors s s1 else s1
  if srcLevel s n && (get s.evg.src n).input then fireEvent n s2 else s2

/-- An EOI that is not for the most recent accepted claim changes nothing but EOI_BAD (R108). -/
def refuseEoi (t : Nat) (s : State) : State :=
  evgError { setTgt s t (fun x => { x with eoiBad := true }) with evg.eoiBad := true }

/-- A master writes EVG_Tt_EOI (R108, R113). -/
def eoiWrite (m : Master) (tgt src : Nat) (s : State) : State :=
  if m == .pcie && 2 ≤ tgt then evgError { s with evg.hostDenied := true }
  else
    match (get s.evg.tgt tgt).stack with
    | (n, prev) :: rest =>
      if n == src && claimAllowed m tgt then acceptEoi tgt src prev rest s else refuseEoi tgt s
    | [] => refuseEoi tgt s

/-- EVG_EOI (R108, R113). -/
def execEvgEoi (t : Nat) (m : Master) (tgt src : Nat) (s : State) : Host.Outcome State Fault Refusal :=
  .next (eoiWrite m tgt src (s.at t))

/-- The host may configure, release, set or clear the source: HOST_OK, and only as owner (R113). -/
def hostMay (s : State) (n : Nat) : Bool := rdb s (srcCfgAddr n) 19 && s.own.owner == 1

/-- The bits of a word on which the master may act, as source numbers; a host's other bits set HOST_DENIED (R113). -/
def allowedBits (m : Master) (k word : Nat) (s : State) : List Nat × State :=
  let all := ((List.range 32).filter (fun b => bit word b)).map (fun b => 32 * k + b)
  match m with
  | .pcie =>
    let ok := all.filter (hostMay s)
    (ok, if ok.length = all.length then s else evgError { s with evg.hostDenied := true })
  | .legal => ([], s)
  | _ => (all, s)

/-- EVG_SETPEND_k is written (R111, R117): each bit fires its source once; a level source becomes PENDING whatever its
input. -/
def setpendWrite (m : Master) (k word : Nat) (s : State) : State :=
  let r := allowedBits m k word s
  (r.1.filter (fun n => !reservedSrc n)).foldl (fun a n => fireEvent n a) r.2

/-- EVG_SETPEND (R111). -/
def execEvgSetpend (t : Nat) (m : Master) (k word : Nat) (s : State) : Host.Outcome State Fault Refusal :=
  .next (setpendWrite m k word (s.at t))

/-- PENDING of a source is cleared; a level source whose input is asserted sets it again in the next cycle (R111); a fire of
the same cycle wins (R112). -/
def clearPending (n : Nat) (s : State) : State :=
  let x := get s.evg.src n
  if firedNow s n then s
  else
    let s1 := setSrc s n fun y => { y with pending := false }
    if srcLevel s n && x.input && !x.active && !x.stormed then pendRaw s1 n else s1

/-- EVG_CLRPEND_k is written (R111). -/
def clrpendWrite (m : Master) (k word : Nat) (s : State) : State :=
  let r := allowedBits m k word s
  r.1.foldl (fun a n => clearPending n a) r.2

/-- EVG_CLRPEND (R111). -/
def execEvgClrpend (t : Nat) (m : Master) (k word : Nat) (s : State) : Host.Outcome State Fault Refusal :=
  .next (clrpendWrite m k word (s.at t))

/-- A value for EVG_SRCn_CFG keeps KIND, HOST_OK and reserved bits; of sources 32 to 47 only PRIO is writable; WAKE is
0 where the source has no latch (R113, EVG_SRCn_CFG). -/
def srcCfgValue (old n word : Nat) : Nat :=
  if isCqSrc n then setBits old 0 4 (bits word 0 4)
  else
    let w := setBits (setBits old 0 8 (bits word 0 8)) 9 5 (bits word 9 5)
    let hasLatch := n < 16 || (26 ≤ n && n ≤ 31) || 480 ≤ n
    setBits (setBits w 14 1 (if hasLatch then bits word 14 1 else 0)) 15 4 (bits word 15 4)

/-- A configuration write of a source: ignored with CFG_ACTIVE while it is ACTIVE; otherwise at once, and PENDING moves
with it to the new target (R113). -/
def srcCfgWrite (n word : Nat) (s : State) : State :=
  if (get s.evg.src n).active then evgError { s with evg.cfgActive := true }
  else wakeCore s n (notifySource s (wrw s (srcCfgAddr n) (srcCfgValue (rdw s (srcCfgAddr n)) n word)) n)

/-- A master writes EVG_SRCn_CFG (R113); a reserved source has none, and HOST_OK clear (R104). -/
def masterCfgWrite (m : Master) (src word : Nat) (s : State) : State :=
  if reservedSrc src then (if m == .pcie then evgError { s with evg.hostDenied := true } else s)
  else
    match m with
    | .pcie => if hostMay s src then srcCfgWrite src word s else evgError { s with evg.hostDenied := true }
    | .legal => s
    | _ => srcCfgWrite src word s

/-- EVG_SRC_CFG_WRITE (R113). -/
def execEvgSrcCfgWrite (t : Nat) (m : Master) (src word : Nat) (s : State) : Host.Outcome State Fault Refusal :=
  .next (masterCfgWrite m src word (s.at t))

/-- A stormed source is released and its count restarts; a level source whose input is asserted is PENDING at once,
and counted (R117). -/
def releaseStorm (n : Nat) (s : State) : State :=
  let x := get s.evg.src n
  if !x.stormed then s
  else
    let s1 := setSrc s n fun y => { y with stormed := false, count := 0 }
    if srcLevel s n && x.input && !x.active then fireEvent n s1 else s1

/-- EVG_STORMED_k is written (R113, R117). -/
def stormedWrite (m : Master) (k word : Nat) (s : State) : State :=
  let r := allowedBits m k word s
  r.1.foldl (fun a n => releaseStorm n a) r.2

/-- EVG_STORMED_WRITE (R113, R117). -/
def execEvgStormedWrite (t : Nat) (m : Master) (k word : Nat) (s : State) : Host.Outcome State Fault Refusal :=
  .next (stormedWrite m k word (s.at t))

/-- A source with a wake latch (R115). -/
def hasLatch (n : Nat) : Bool := n < 16 || (26 ≤ n && n ≤ 31) || (480 ≤ n && n ≤ 511)

/-- WAKE_LATCH_EDGE (R115, R116): the latch of a source whose WAKE is set catches an edge. In M0 and M11 it stays for
the next entry to M3. With the target's clock stopped the source fires, and the clock restarts where the source would be
eligible and the core's mask is clear, or where WAKE_COMPAT is set and the source is enabled (`wakeCore`). A core that
WAKE_COMPAT holds awake has no stopped clock (R116). -/
def execWakeLatchEdge (t src : Nat) (stopped masked : Bool) (s : State) : Host.Outcome State Fault Refusal :=
  let s := s.at t
  if !(hasLatch src && rdb s (srcCfgAddr src) 14) then .next s
  else if s.sys.mode == .m0 || s.sys.mode == .m11 then .next (setSrc s src fun x => { x with latch := true })
  else
    let tgt := srcTarget s src
    if stopped && !coreHeld s tgt then
      (let s1 := fireEvent src (setSrc s src fun x => { x with latch := true })
       .next (if eligible s1 tgt src && !masked && !rdb s1 baseEVG 0 then emit s1 .clockRestart tgt [] else s1))
    else .next s

/-- The filtered level after INVERT of a DIN in edge mode goes from `old` to its present one: the edges EDGE selects fire the
source (R118). -/
def dinEdge (n : Nat) (old : Bool) (s : State) : State :=
  let new := dinState s n
  let e := rdf s (dinCfgAddr n) 8 2
  if old != new && ((new && (e == 1 || e == 3)) || (!new && 2 ≤ e)) then fireEvent (480 + n) s else s

/-- A DIN input drives its source after a change, `old` being its level after INVERT before it: as its level, or by the edges
EDGE selects (R118). -/
def dinDrive (n : Nat) (old : Bool) (s : State) : State :=
  let s1 := dinLevel n s
  if rdb s1 (dinCfgAddr n) 10 then s1 else dinEdge n old s1

/-- A DIN input's filtered level changes (R118). -/
def dinChange (n : Nat) (level : Bool) (s : State) : State :=
  dinDrive n (dinState s n) { s with evg.din := upd s.evg.din n fun _ => { level := level } }

/-! ### Commands (R509) -/

/-- The 32 bits of one status register over sources 32k to 32k + 31. -/
def srcMask (s : State) (k : Nat) (f : EvSrc → Bool) : Nat :=
  maskOf ((List.range 32).map fun b => f (get s.evg.src (32 * k + b)))

/-- EVG_STAT as a word. -/
def evgStatWord (s : State) : Nat :=
  packBits [(0, s.evg.stormSrc), (16, b2n s.evg.cfgActive), (17, b2n s.evg.claimBad), (18, b2n s.evg.eoiBad),
    (19, b2n s.evg.hostDenied)]

/-- EVG_Tt_STAT as a word. -/
def tgtStatWord (s : State) (t : Nat) : Nat :=
  let x := get s.evg.tgt t
  packBits [(0, x.stack.length), (5, x.run.getD 0), (9, b2n x.run.isNone), (10, x.claimRes), (12, b2n x.eoiBad),
    (13, b2n (!(eligibleList s t).isEmpty)), (14, (x.stack.head?.map Prod.fst).getD 0)]

/-- EVG_STATUS (R499, R509). -/
def execEvgStatus (t line seq : Nat) (s : State) : Host.Outcome State Fault Refusal :=
  .next (runCmd line seq 0x1201 neverIllegal (fun c s =>
    let ks := List.range 16
    let words := [evgStatWord s] ++ ks.map (srcMask s · (·.pending)) ++ ks.map (srcMask s · (·.active))
      ++ ks.map (srcMask s · (·.stormed)) ++ [tgtStatWord s 0, tgtStatWord s 1]
    doneOut c [] (words.map (leBytes 4)).flatten s) (s.at t))

/-- A source the owner may not touch by command: without HOST_OK, or ACTIVE (R509). -/
def srcSetIllegal (c : Cmd) (s : State) : Bool :=
  let n := c.param 8 2
  n < 512 && (!rdb s (srcCfgAddr n) 19 || (get s.evg.src n).active)

/-- EVG_SRC_SET (R509): PRIO, ENABLE, TARGET, DELIV and VEC of a HOST_OK source. -/
def execEvgSrcSet (t line seq : Nat) (s : State) : Host.Outcome State Fault Refusal :=
  .next (runCmd line seq 0x1202 srcSetIllegal (fun c s =>
    let n := c.param 8 2
    if 512 ≤ n then rejectRange c 8 s
    else if 16 ≤ c.param 10 1 then rejectRange c 10 s
    else if 2 ≤ c.param 11 1 then rejectRange c 11 s
    else if 2 ≤ c.param 12 1 then rejectRange c 12 s
    else if 2 ≤ c.param 13 1 then rejectRange c 13 s
    else if 16 ≤ c.param 14 1 then rejectRange c 14 s
    else
      let old := rdw s (srcCfgAddr n)
      let word := packBits [(0, c.param 10 1), (4, c.param 12 1), (7, c.param 11 1), (9, c.param 13 1), (10, c.param 14 1),
        (14, bits old 14 5)]
      done c [] (srcCfgWrite n word s)) (s.at t))

/-- EVG_STORM_RELEASE (R509). -/
def execEvgStormRelease (t line seq : Nat) (s : State) : Host.Outcome State Fault Refusal :=
  .next (runCmd line seq 0x1203 srcSetIllegal (fun c s =>
    let n := c.param 8 2
    if 512 ≤ n then rejectRange c 8 s else done c [] (releaseStorm n s)) (s.at t))

/-- PENDING of sources `first` to `first + n - 1` as a mask (EVG_WAIT's PEND). -/
def pendMask (s : State) (first n : Nat) : Nat :=
  maskOf ((List.range n).map fun b => (get s.evg.src (first + b)).pending)

/-- EVG_WAIT (R509): waits for one of a range of sources, at most 4 per port; it neither claims nor clears. -/
def execEvgWait (t line seq : Nat) (s : State) : Host.Outcome State Fault Refusal :=
  .next (runCmd line seq 0x1204 (fun c s => 4 ≤ (s.evg.waits.filter (fun w => w.port == c.port && (findCmd s w.line w.seq).isSome)).length) (fun c s =>
    let first := c.param 8 2
    let n := c.param 10 1
    let ms := c.param 12 4
    if 512 ≤ first then rejectRange c 8 s
    else if n < 1 || 64 < n || 512 < first + n then rejectRange c 10 s
    else if ms < 1 || 3600000 < ms then rejectRange c 12 s
    else
      accept c [] { s with evg.waits := s.evg.waits ++
        [{ line := c.line, seq := c.seq, port := c.port, first := first, count := n }] }) (s.at t))

/-- EVG_WAIT_END (R501, R509): a source of the range is pending, or the timeout has passed: the FINAL completion. -/
def execEvgWaitEnd (t line seq : Nat) (timeout : Bool) (s : State) : Host.Outcome State Fault Refusal :=
  let s := s.at t
  match s.evg.waits.find? (fun w => w.line == line && w.seq == seq) with
  | none => .next s
  | some w =>
    let pend := pendMask s w.first w.count
    if pend != 0 || timeout then
      .next (finishAccepted line seq { result := leBytes 8 pend }
        { s with evg.waits := s.evg.waits.filter (fun x => !(x.line == line && x.seq == seq)) })
    else .next s

end Sys2Proof.Machine
end

