-- ==== Sys2Proof/Machine/Contactor.lean ====
section
/-! DEFINITION. Matrix and output contactors (R199 to R203, R212), and what their readbacks mean to tracking, the
insulation check, the weld test and the modes. -/

namespace Sys2Proof.Machine

/-- The item of a contactor in the errors of SUBSYS 2: 8g + n for a matrix position, 64 + n for an output contactor. -/
def ctrItem : CtrRef → Nat
  | .mtx g n => 8 * g + n
  | .out n => 64 + n

/-- The contactor reads open: neither OPEN_NOT_ZERO nor CONTACTOR_WELD names a condition that stands (R44, R203). -/
def ctrSeenOpen (c : CtrRef) (s : State) : State := errCleared 2 8 (ctrItem c) (errCleared 2 9 (ctrItem c) s)

/-! ### Which legs run for a group outside placement -/

/-- The `k` lowest-numbered available legs of the group are to switch, from a group valley on (log entry 36). -/
def startLegs (g k : Nat) (s : State) : State :=
  let m := ((List.range 6).filter fun j => legAvail s (6 * g + j)).take k
  markSet g { s with slc.pg := upd s.slc.pg g fun p =>
    { p with mask := updAll p.mask fun j _ => m.contains j, legsTarget := m.length } }

/-- Every available leg of the group is to switch, from a group valley on (log entry 34). -/
def startGroup (g : Nat) (s : State) : State := startLegs g 6 s

/-! ### Readbacks -/

/-- The tracking of group `g` has ended at coincidence (R210). -/
def trackDone (g : Nat) (s : State) : State :=
  fireEvent 150 (setPg g (fun p => { p with trk := .none, trkDone := true, closeCmd := false }) s)

/-- TRACK_DONE in COIN_OUT: the output is energised, its current loop takes over at 0, its group is its present candidate,
and the session charges (R213, R306). -/
def outTaken (g n : Nat) (s : State) : State :=
  let s1 := setOut n (fun o => { o with energised := true, iref := 0, slewing := true }) (trackDone g s)
  let s2 := recompute n { s1 with slc.pg := upd s1.slc.pg g fun p => { p with output := some n } }
  if (get s2.vcl.port n).sess == 6 then sessEnter n 7 s2 else s2

/-- The output contactor's readback closes. -/
def ctrClosed (n : Nat) (s : State) : State :=
  let s1 := fireEvent (146 + n) (setOut n (fun o => { o with ctrFb := true, bled := false, zero := false }) s)
  let s2 := match (List.range 6).find? fun g => (pgr s1 g).trk == .coinOut && (pgr s1 g).trkOut == n && (pgr s1 g).closeCmd with
    | some g => outTaken g n s1
    | none => s1
  let o := pout s2 n
  if o.ins == .closing then
    startGroup o.insGroup (setPg o.insGroup (fun p =>
      { p with trk := .ratio, trkOut := n, inTol := false, closeCmd := false, trkDone := false, trkFail := false,
               trkRef := p.vg }) (requestGate (setOut n (fun q => { q with ins := .tracking }) s2)))
  else s2

/-- The output contactor's readback opens: the output is off, a weld no longer stands in the readback, and the last output
ends the run (R42). -/
def ctrOpen (n : Nat) (s : State) : State :=
  let s1 := ctrSeenOpen (.out n) (fireEvent (146 + n) (ctrOpened n s))
  let s2 := if (pout s1 n).ins == .opening && ctrHasFb s n then setOut n (fun o => { o with ins := .idle }) s1 else s1
  runEnd s2

/-- The readback of output contactor `n` (R199, R202). -/
def ctrReadback (n : Nat) (closed : Bool) (s : State) : State :=
  if (pout s n).ctrFb == closed then s else if closed then ctrClosed n s else ctrOpen n s

/-- The aux contact of matrix position (g, n) as a good MXP frame reports it (R199, R290). -/
def mtxReadback (g n : Nat) (closed : Bool) (s : State) : State :=
  if get (pgr s g).mtxFb n == closed then s
  else if closed then
    let s1 := setOut n (fun o => { o with bled := false }) (setPg g (fun p => { p with mtxFb := upd p.mtxFb n fun _ => true }) s)
    let s2 := sumOutputs { s1 with slc.pg := upd s1.slc.pg g fun p => { p with output := some n, joinTo := none } }
    let p := pgr s2 g
    if p.trk == .coinBus && p.trkOut == n && p.closeCmd then
      trackDone g (setPg g (fun q => { q with rampShare := true })
        { s2 with slc.pg := upd s2.slc.pg g fun q => { q with share := 0 } })
    else s2
  else
    let s1 := ctrSeenOpen (.mtx g n)
      (setPg g (fun p => { p with mtxFb := upd p.mtxFb n fun _ => false, opening := none, rampShare := false }) s)
    sumOutputs { s1 with slc.pg := upd s1.slc.pg g fun p => { p with output := none } }

/-- What a filtered DIN level means to the stage: the readback of an output contactor whose DIN the configuration
names. -/
def dinReadback (din : Nat) (level : Bool) (s : State) : State :=
  (List.range 4).foldl (fun a n =>
    if ctrHasFb a n && param a (match n with
        | 0 => pCTR_DIN_0
        | 1 => pCTR_DIN_1
        | 2 => pCTR_DIN_2
        | _ => pCTR_DIN_3) 0 == din then ctrReadback n level a else a) s

/-- DIN_DEBOUNCE_EXPIRY (R118): the input has held its new level for DEBOUNCE × 50 µs; the level after INVERT is the
readback of the contactor whose DIN it is. -/
def execDinDebounceExpiry (t din : Nat) (level : Bool) (s : State) : Host.Outcome State Fault Refusal :=
  let s1 := dinChange din level (s.at t)
  .next (dinReadback din (dinState s1 din) s1)

/-! ### Closing (R199, R200, R212) -/

/-- The bus between the matrix contactors and the output contactor of `n`, mV (R212); none where it is not known. -/
def busVolt (s : State) (n : Nat) : Option Int :=
  match carrying s n with
  | h :: _ => some (pgr s h).vg
  | [] =>
    if (pout s n).ctrFb then some (pout s n).vout
    else if (pout s n).bled then some 0
    else none

/-- No leg of the group is driven. -/
def groupLegsOffNow (s : State) (g : Nat) : Bool := (legsOf g).all fun k => !(legOf s k).st.running

/-- Another position of the group is commanded closed or does not read open (R199). -/
def otherPosition (s : State) (g n : Nat) : Bool :=
  (List.range 4).any fun m => m != n && (get (pgr s g).mtxCmd m || get (pgr s g).mtxFb m)

/-- A matrix position may be used: fitted, not blocked, its group and output not excluded (R168, R200, R219, R223). -/
def posUsable (s : State) (g n : Nat) : Bool :=
  mtxPresent s g n && pgOn s g && !get (pgr s g).mtxBlocked n && !groupExcluded s g
    && !(pout s n).crowbar && !(pout s n).fbLost

/-- A matrix close is refused with MTX_INTERLOCK (R199). -/
def interlock (g n : Nat) (s : State) : State := raiseError errInterlock (8 * g + n) (fireEvent 141 s)

/-- A matrix position closes on two dead sides (R200). -/
def deadClose (s : State) (g n : Nat) : Bool :=
  decide ((pgr s g).vg < 60000) && groupLegsOffNow s g && (busVolt s n).any fun v => decide (v < 60000)

/-- MATRIX_CLOSE_REQUEST (R199, R200): refused with MTX_INTERLOCK, or commanded where both sides are dead. A closure on
coincidence comes from tracking (R210). -/
def execMatrixCloseRequest (t g n : Nat) (s : State) : Host.Outcome State Fault Refusal :=
  let s := s.at t
  .next (if otherPosition s g n then interlock g n s
    else if posUsable s g n && !get (pgr s g).mtxCmd n && deadClose s g n then mtxDrive g n true s
    else s)

/-- CONTACTOR_FAIL (R200): the contactor is commanded open again and its position excluded. -/
def ctrFail (c : CtrRef) (s : State) : State :=
  match c with
  | .mtx g n =>
    let s1 := if (pgr s g).trk == .coinBus && (pgr s g).trkOut == n then groupLegsStop g (cancelTracking g s) else s
    raiseError errCtrFail (ctrItem c) (updStage (fireEvent 142 (mtxDrive g n false
      (setPg g (fun p => { p with mtxBlocked := upd p.mtxBlocked n (fun _ => true), closeCmd := false }) s1))))
  | .out n =>
    raiseError errCtrFail (ctrItem c) (updStage (fireEvent 142 (ctrDrive n false
      (endTracking n (setOut n (fun o => { o with blocked := true }) s)))))

/-- CONTACTOR_CLOSE_TIMEOUT (R200): T_CLOSE after the command. A contactor without a readback counts as closed from now on
(R202, log entry 31). -/
def execContactorCloseTimeout (t : Nat) (c : CtrRef) (s : State) : Host.Outcome State Fault Refusal :=
  let s := s.at t
  .next (match c with
  | .mtx g n => if get (pgr s g).mtxCmd n && !get (pgr s g).mtxFb n then ctrFail c s else s
  | .out n =>
    if (pout s n).ctrCmd && !(pout s n).ctrFb then (if ctrHasFb s n then ctrFail c s else ctrClosed n s) else s)

/-! ### Opening (R203) -/

/-- The contactor is commanded closed. -/
def ctrCommanded (s : State) : CtrRef → Bool
  | .mtx g n => get (pgr s g).mtxCmd n
  | .out n => (pout s n).ctrCmd

/-- The opening of the contactor waits for zero current: under R203, or at the end of a crowbar (R218 step 6). -/
def openingWaits (s : State) : CtrRef → Bool
  | .mtx g n => (pgr s g).opening == some n
  | .out n => (pout s n).opening || ((pout s n).crowbar && (pout s n).ctrCmd)

/-- I_ZERO, mA. -/
def iZero (s : State) : Int := ((rdf s (basePWM + 0xD40) 0 6 * 1000 : Nat) : Int)

/-- The sum of I_g of the groups behind a contactor. -/
def sumBehind (s : State) (c : CtrRef) : Int := ((behind s c).map fun g => (pgr s g).ig).foldl (· + ·) 0

/-- The contactor is commanded open at zero current (R203 step 4); at the end of a crowbar the matrix positions of its
groups open with it (R218 step 6). -/
def openAtZero (c : CtrRef) (s : State) : State :=
  match c with
  | .mtx g n => mtxDrive g n false (setPg g (fun p => { p with opening := none }) s)
  | .out n =>
    let gs := if (pout s n).crowbar then (pout s n).cbGroups else []
    let s1 := gs.foldl (fun a g => if get (pgr a g).mtxCmd n then mtxDrive g n false a else a)
      (setOut n (fun o => { o with zero := true }) s)
    let s2 := openOut n s1
    if ctrHasFb s n then s2 else runEnd s2

/-- CONTACTOR_OPEN_REQUEST (R203): an ordinary opening begins. -/
def execContactorOpenRequest (t : Nat) (c : CtrRef) (s : State) : Host.Outcome State Fault Refusal :=
  let s := s.at t
  .next (if ctrCommanded s c then startOpening c s else s)

/-- CONTACTOR_ZERO_REACHED (R203 steps 3 and 4): the sum of I_g has stayed below I_ZERO for 100 µs. -/
def execContactorZeroReached (t : Nat) (c : CtrRef) (s : State) : Host.Outcome State Fault Refusal :=
  let s := s.at t
  .next (if openingWaits s c && decide (sumBehind s c < iZero s) then openAtZero c (errCleared 2 9 (ctrItem c) s) else s)

/-- An output contactor without a readback: it counts as open from its open command (R202). -/
def ctrBlind (s : State) : CtrRef → Bool
  | .mtx _ _ => false
  | .out n => !ctrHasFb s n

/-- OPEN_NOT_ZERO (R203): zero current is not reached within ZERO_TIMEOUT; M8 opens the contactor. -/
def execOpenNotZero (t : Nat) (c : CtrRef) (s : State) : Host.Outcome State Fault Refusal :=
  let s := s.at t
  .next (if openingWaits s c then
    let s1 := raiseError errNotZero (ctrItem c) (fireEvent 144 s)
    if ctrBlind s c && !ctrCommanded s1 c then errCleared 2 9 (ctrItem c) s1 else s1
  else s)

/-- Every group that can reach an output is held excluded (R203, R215). -/
def excludeReach (n : Nat) (s : State) : State :=
  { s with pwm.pg := updAll s.pwm.pg fun g p =>
      if mtxPresent s g n && !p.exclOut.contains n then { p with exclOut := p.exclOut ++ [n] } else p }

/-- CONTACTOR_WELD is raised (R203). -/
def weldFound (c : CtrRef) (s : State) : State :=
  match c with
  | .mtx g n => raiseError errCtrWeld (ctrItem c) (updStage (excludeReach n (fireEvent 143
      (setPg g (fun p => { p with mtxBlocked := upd p.mtxBlocked n (fun _ => true),
                                  mtxWeld := upd p.mtxWeld n (fun _ => true), opening := none }) s))))
  | .out n => raiseError errCtrWeld (ctrItem c) (updStage (excludeReach n (fireEvent 143
      (setOut n (fun o => { o with weld := true, opening := false }) s))))

/-- The weld test (R215) begins, or is skipped: its group is still connected, V_out reads below 60 V, and the legs can run. -/
def startWeldTest (n : Nat) (s : State) : State :=
  let s0 := setOut n (fun o => { o with ins := .idle }) s
  match carrying s0 n with
  | [] => runEnd s0
  | g :: _ =>
    if 60000 ≤ (pout s0 n).vout || !gateModes s0 then setOut n (fun o => { o with weldSkip := true }) s0
    else
      startGroup g (setPg g (fun p => { p with trkRef := p.vg, trkOut := n })
        (requestGate (setOut n (fun o => { o with weldTest := true, weldSkip := false, insGroup := g }) s0)))

/-- CONTACTOR_WELD (R203, R214 step 6): T_OPEN after the open command. The readback still shows the contactor closed: a
weld. A contactor without a readback is tested by voltage. -/
def execContactorWeld (t : Nat) (c : CtrRef) (s : State) : Host.Outcome State Fault Refusal :=
  let s := s.at t
  .next (match c with
  | .mtx g n => if !get (pgr s g).mtxCmd n && get (pgr s g).mtxFb n then weldFound c s else s
  | .out n =>
    if ctrHasFb s n then (if !(pout s n).ctrCmd && (pout s n).ctrFb then weldFound c s else s)
    else if (pout s n).ins == .opening && !(pout s n).ctrCmd then startWeldTest n s
    else s)

/-- BUS_BLEED_EXPIRY (R212): the output contactor has been open with no group connected for T_BLEED. -/
def execBusBleedExpiry (t n : Nat) (s : State) : Host.Outcome State Fault Refusal :=
  let s := s.at t
  .next (if (carrying s n).isEmpty && !(pout s n).ctrFb && !(pout s n).ctrCmd then
    setOut n (fun o => { o with bled := true }) s
  else s)

end Sys2Proof.Machine
end

