-- ==== Sys2Proof/Machine/Trans.lean ====
section
/-! DEFINITION. Transitions, tracking and protection (08): references and slewing, the tracking sequences, the insulation
check and weld test, braking, the crowbar, and lost or frozen feedback. -/

namespace Sys2Proof.Machine

/-! ### References (R207, R208, R213) -/

/-- The legs placed in a group. -/
def legCount (s : State) (g : Nat) : Nat := ((get s.slc.pg g).mask.toList.filter id).length

/-- The groups of output `n`'s present candidate. -/
def outGroups (s : State) (n : Nat) : List Nat := (List.range 6).filter fun g => (get s.slc.pg g).output == some n

/-- The placement share of a group: its legs' part of the output's target (R168). -/
def placeShare (s : State) (n g : Nat) : Nat :=
  let k := ((outGroups s n).map (legCount s)).foldl (· + ·) 0
  if k = 0 then 0 else (sop s n).itgt * legCount s g / k

/-- The share of a group. -/
def shareOf (s : State) (g : Nat) : Nat := (get s.slc.pg g).share

/-- A group's share set. -/
def putShare (g v : Nat) (s : State) : State := { s with slc.pg := upd s.slc.pg g fun p => { p with share := v } }

/-- A group that has just joined rises toward its placement share by at most `up` (R213). -/
def rampJoin (n up g : Nat) (s : State) : State :=
  let want := placeShare s n g
  let v := min want (shareOf s g + up)
  let s1 := putShare g v s
  if want ≤ v then setPg g (fun p => { p with rampShare := false }) s1 else s1

/-- A group whose matrix contactor opens falls toward 0 by at most `down`; with its ramp over its legs are to stop (R203). -/
def rampLeave (down g : Nat) (s : State) : State :=
  if shareOf s g ≤ down then groupLegsStop g (putShare g 0 s) else putShare g (shareOf s g - down) s

/-- The shares of an output's groups: one that has just joined rises and one that opens falls, and the others carry the rest
by their legs (R170, R203, R213). -/
def shareStep (n up down : Nat) (s : State) : State :=
  let gs := outGroups s n
  let joins := gs.filter fun g => (pgr s g).rampShare
  let leaves := gs.filter fun g => (pgr s g).opening == some n
  let s1 := leaves.foldl (fun a g => rampLeave down g a) (joins.foldl (fun a g => rampJoin n up g a) s)
  let rest := gs.filter fun g => !joins.contains g && !leaves.contains g
  let k := (rest.map (legCount s1)).foldl (· + ·) 0
  let taken := ((joins ++ leaves).map (shareOf s1)).foldl (· + ·) 0
  if (joins ++ leaves).isEmpty || k = 0 then s1
  else { s1 with slc.pg := updAll s1.slc.pg fun g p =>
                   if rest.contains g then { p with share := ((sop s1 n).itgt - taken) * legCount s1 g / k } else p }

/-- LEG_IMAX of a group in the map bank in use, mA (R166). -/
def legImax (s : State) (g : Nat) : Nat := memRead s.mem (mapBase s.slc.bank + 256 * (g + 1)) 2 * 100

/-- What an output's placed legs carry at most, mA: equal currents, the lowest rating deciding (R168). -/
def outCapacity (s : State) (n : Nat) : Nat :=
  let gs := (outGroups s n).filter fun g => 0 < legCount s g
  let k := (gs.map (legCount s)).foldl (· + ·) 0
  match gs.map (legImax s) with
  | [] => 0
  | x :: r => k * r.foldl min x

/-- The discharge target, mA (R310): the vehicle's request within the cap, the rating and P_exp at V_out, 150 V at least. -/
def dischargeTarget (s : State) (n : Nat) : Int :=
  let p := get s.vcl.port n
  let want : Nat := min (min (-p.iReq).toNat (sop s n).icap) (min (iRated s n) (p.pExp * 1000000 / chainVolt s n))
  (-1 : Int) * want

/-- What the current target of an output's loop is: 0 while its contactor is being opened (R203), the discharge target
while the vehicle asks to discharge (R310), and within the placed legs' capacity while placement is short (R170). -/
def loopTarget (s : State) (n : Nat) : Int :=
  if (pout s n).opening then 0
  else if (get s.vcl.port n).discharging then dischargeTarget s n
  else ((if (sop s n).short then min (sop s n).itgt (outCapacity s n) else (sop s n).itgt : Nat) : Int)

/-- The limits that act on the reference at once, mA (R207). -/
def loopLimit (s : State) (n : Nat) : Int := ((min (sop s n).icap (min (iRated s n) (iPwr s n)) : Nat) : Int)

/-- V_lim's target, mV: never above V_OUT_MAX. -/
def vlimTarget (s : State) (n : Nat) : Nat := min (pout s n).vTarget (rdf s (opAddr n + 12) 0 11 * 1000)

/-- The references of an energised output move for one sample of `ts` ns (R207, R208); SLEW_DONE fires when both have
reached their targets. -/
def slewRefs (n ts : Nat) (s : State) : State :=
  let w := rdw s (opAddr n)
  let up : Int := ((bits w 0 10 * ts / 1000 : Nat) : Int)
  let dn : Int := ((bits w 10 10 * ts / 1000 : Nat) : Int)
  let vs := bits w 20 9 * ts / 1000
  let tgt := loopTarget s n
  let o := pout s n
  let i1 := if o.iref < tgt then min tgt (o.iref + up) else max tgt (o.iref - dn)
  let i2 := min i1 (loopLimit s n)
  let vt := vlimTarget s n
  let v := (moveToward (o.vlim : Nat) (vt : Nat) (vs : Nat)).toNat
  let there := i2 == tgt && v == vt
  let moved := o.slewing || i2 != o.iref || v != o.vlim
  let s1 := setOut n (fun q => { q with iref := i2, vlim := v, slewing := !there }) s
  if there && moved then fireEvent 151 s1 else s1

/-- Once the ramp to 0 of an opening has ended, the legs behind it turn off at their next valley (R203 steps 1 and 2). A
group's ramp ends with its output's current, or with its share of it. -/
def openingRamp (n : Nat) (s : State) : State :=
  let s1 := if (pout s n).opening && (pout s n).iref ≤ 0 then (carrying s n).foldl (fun a g => groupLegsStop g a) s else s
  (List.range 6).foldl (fun a g =>
    if (pgr a g).opening == some n && (!energised s n || shareOf a g == 0) then groupLegsStop g (putShare g 0 a) else a) s1

/-- V_out of an output is read (R180). -/
def readVout (n : Nat) (vout : List Bool) (s : State) : State :=
  let s1 := readMain (42 + n) vout s
  setOut n (fun o => { o with vout := mval s1 (42 + n) }) s1

/-- OUTPUT_LOOP_SAMPLE (R17, R207): a sample of output `n`'s loop, `ts` ns after the one before, with V_out as read at it. -/
def execOutputLoopSample (t n ts : Nat) (vout : List Bool) (s : State) : Host.Outcome State Fault Refusal :=
  let s1 := resplit (readVout n vout (s.at t))
  .next (if energised s1 n then
    openingRamp n (slewRefs n ts (shareStep n (rdf s1 (opAddr n) 0 10 * ts / 1000) (rdf s1 (opAddr n) 10 10 * ts / 1000) s1))
  else openingRamp n s1)

/-! ### Tracking (R209 to R211) -/

/-- The output may be connected: fitted nowhere excluded (R200, R203, R219, R223). -/
def outUsable (s : State) (n : Nat) : Bool :=
  let o := pout s n
  !o.blocked && !o.weld && !o.weldV && !o.crowbar && !o.fbLost

/-- A group can run a tracking sequence: in use, not excluded, idle. -/
def trackReady (s : State) (g : Nat) : Bool :=
  pgOn s g && !groupExcluded s g && (pgr s g).trk == .none && (pgr s g).opening.isNone

/-- Tracking of group `g` on a mode begins at its measured voltage, on `k` of its legs (R170, R209). -/
def beginTracking (g n k : Nat) (m : TrkMode) (s : State) : State :=
  startLegs g k (setPg g (fun p =>
    { p with trk := m, trkOut := n, inTol := false, closeCmd := false, trkDone := false, trkFail := false, trkRef := p.vg })
    (requestGate s))

/-- A tracking request can be served in its mode (R209). -/
def trackAllowed (s : State) (g n : Nat) : TrkReq → Bool
  | .coinOut => get (pgr s g).mtxFb n && !(pout s n).ctrCmd && !energised s n
  | .coinBus => energised s n && posUsable s g n && !otherPosition s g n && !get (pgr s g).mtxFb n
      && ((carrying s n).any (· != g))
  | .ratio => get (pgr s g).mtxFb n && (pout s n).ctrFb && !energised s n

/-- The mode register's value for a request. -/
def trkMode : TrkReq → TrkMode
  | .coinOut => .coinOut
  | .coinBus => .coinBus
  | .ratio => .ratio

/-- A tracking request (R209): from M4 it raises GATE_EN and leads to M5 or M6. A request for a connected group toward
another output is refused with MTX_INTERLOCK (R199). -/
def trackRequest (g n : Nat) (mode : TrkReq) (s : State) : State :=
  if gateModes s && trackReady s g && outUsable s n then
    if mode == .coinBus && otherPosition s g n then interlock g n s
    else if trackAllowed s g n mode then beginTracking g n 6 (trkMode mode) s
    else s
  else s

/-- TRACKING_REQUEST (R209). -/
def execTrackingRequest (t g n : Nat) (mode : TrkReq) (s : State) : Host.Outcome State Fault Refusal :=
  .next (trackRequest g n mode (s.at t))

/-- A channel's feedback is flagged (R225: feedback wins over the close). -/
def fbFlagged (s : State) (c : Nat) : Bool := (get s.pwm.mdat c).lost || (get s.pwm.mdat c).frozen

/-- The contactor that a tracking is to close is usable: a position or an output excluded since stays open (R200). -/
def closeUsable (s : State) (g n : Nat) : TrkMode → Bool
  | .coinOut => outUsable s n
  | .coinBus => outUsable s n && posUsable s g n
  | _ => true

/-- TRACK_DWELL_EXPIRY (R210): coincidence has held for TRK_DWELL. The contactor is commanded closed; in RATIO the
tracking is done, and goes on holding the voltage. -/
def execTrackDwellExpiry (t g : Nat) (s : State) : Host.Outcome State Fault Refusal :=
  let s := s.at t
  let p := pgr s g
  let n := p.trkOut
  .next (if p.inTol && !p.closeCmd && !p.trkDone && closeUsable s g n p.trk && !fbFlagged s (36 + g) && !fbFlagged s (42 + n) then
    match p.trk with
    | .none => s
    | .coinOut => ctrDrive n true (setPg g (fun q => { q with closeCmd := true }) s)
    | .coinBus =>
      if otherPosition s g n then interlock g n s
      else mtxDrive g n true (setPg g (fun q => { q with closeCmd := true }) s)
    | .ratio =>
      fireEvent 150 (setOut n (fun o => if o.ins == .tracking then { o with ins := .holding } else o)
        (setPg g (fun q => { q with trkDone := true }) s))
  else s)

/-- TRACK_FAIL (R211): TRACK_DONE has not fired within TRK_TIMEOUT of the request. -/
def execTrackFail (t g : Nat) (s : State) : Host.Outcome State Fault Refusal :=
  let s := s.at t
  let p := pgr s g
  let n := p.trkOut
  .next (if p.trk != .none && !p.trkDone then
    let s1 := groupLegsStop g (setPg g (fun q =>
      { q with trk := .none, trkFail := true, closeCmd := false, inTol := false })
      { s with slc.pg := upd s.slc.pg g fun q => { q with joinTo := none } })
    let s2 := match p.trk with
      | .coinOut => if p.closeCmd then ctrDrive n false s1 else s1
      | .coinBus => if p.closeCmd then mtxDrive g n false s1 else s1
      | _ => setOut n (fun o => { o with ins := .idle, opening := o.ctrCmd }) s1
    raiseError errTrackFail g s2
  else s)

/-! ### Insulation check and weld test (R214, R215) -/

/-- Both sides of an output contactor read below 60 V (R200): every group that carries the output, and V_out. -/
def deadOut (s : State) (n : Nat) : Bool :=
  (carrying s n).all (fun h => decide ((pgr s h).vg < 60000)) && decide ((pout s n).vout < 60000)

/-- An insulation check is requested (R200, R214): step 1, with both sides below 60 V, the legs of every group on the near side
turned off, and K × V_RREF within V_OUT_MAX. -/
def insRequest (n g vrref : Nat) (s : State) : State :=
  if gateModes s && trackReady s g && outUsable s n && !energised s n && get (pgr s g).mtxFb n && !(pout s n).ctrCmd
      && (pout s n).ins == .idle && deadOut s n
      && decide (rdf s (opAddr n + 0x18) 16 12 * vrref ≤ rdf s (opAddr n + 12) 0 11 * 2048) then
    ctrDrive n true (setOut n (fun o => { o with vrref := vrref, ins := .closing, insGroup := g })
      ((carrying s n).foldl (fun a h => emptyGroup h (groupLegsOff h a)) s))
  else s

/-- INSULATION_CHECK_REQUEST (R214). -/
def execInsulationCheckRequest (t n g vrref : Nat) (s : State) : Host.Outcome State Fault Refusal :=
  .next (insRequest n g vrref (s.at t))

/-- INSULATION_CHECK_END (R214 step 4): the V_RREF target is 0, and the legs sink the cable's charge. -/
def execInsulationCheckEnd (t n : Nat) (s : State) : Host.Outcome State Fault Refusal :=
  let s := s.at t
  .next (if (pout s n).ins == .tracking || (pout s n).ins == .holding then
    { setOut n (fun o => { o with vrref := 0, ins := .discharging }) s with
      vcl.port := upd s.vcl.port n fun p => { p with checked := true } }
  else s)

/-- The weld test's group returns below 60 V, and then its legs stop (R215). -/
def endWeldTest (n : Nat) (s : State) : State := setOut n (fun o => { o with weldTest := false, ins := .discharging }) s

/-- WELD_TEST_END (R215): the hold of 20 ms at WELD_V is over. -/
def execWeldTestEnd (t n : Nat) (s : State) : Host.Outcome State Fault Refusal :=
  let s := s.at t
  .next (if (pout s n).weldTest then endWeldTest n s else s)

/-! ### The crowbar (R218, R219) -/

/-- The crowbar of output `n` starts: high sides off and low sides latched on in every leg of every group connected to
it; output and groups are excluded. -/
def startCrowbar (n : Nat) (s : State) : State :=
  if (pout s n).crowbar then s
  else
    let gs := carrying s n
    let s0 := gs.foldl (fun a g => emptyGroup g (cancelTracking g a)) s
    let s2 := clearSharing (fun k => gs.contains (k / 6)) { s0 with
                  pwm.leg := updAll s0.pwm.leg fun k l =>
                  if gs.contains (k / 6) && legPresent s k && !l.st.latched then
                  { l with st := .crowbar, cmp := 0, stopDue := false, startAt := none, stretch := none, moving := false,
                           limAt := s.now, trimReq := 0, trimPrev := 0, trimApplied := 0 }
                  else l,
                  pwm.pg := updAll s0.pwm.pg fun g p =>
                  if gs.contains g then { p with exclOut := if p.exclOut.contains n then p.exclOut else p.exclOut ++ [n],
                                                 rampShare := false, respread := false } else p }
    let s3 := setOut n (fun o => { o with crowbar := true, braking := false, ovRun := 0, diRun := 0, iref := 0,
                                            cbGroups := gs, ins := .idle, weldTest := false }) s2
    raiseError errOutputOv n (updStage (fireEvent 153 s3))

/-- CROWBAR_LEG_OFF (R218 step 4): the leg's low side turns off. -/
def execCrowbarLegOff (t leg : Nat) (s : State) : Host.Outcome State Fault Refusal := .next (crowbarLegEnd leg (s.at t))

/-! ### The 1 µs reads (R215, R216, R218) -/

/-- V_OV,n is exceeded on the output, or on a group whose matrix contactor toward it is closed. V_OV,n of 0 V is not set
(log entry 35); on a lost output channel the groups alone are read (R223). -/
def beyondOv (s : State) (n : Nat) : Bool :=
  let lim : Int := (pout s n).vov
  decide (0 < lim) &&
    ((!fbFlagged s (42 + n) && decide (lim < mval s (42 + n))) || (carrying s n).any fun g => decide (lim < mval s (36 + g)))

/-- Brake trigger (a): a rise of more than BRK_DV between two reads taken 10 µs apart (R216, R225). -/
def brakeRise (s : State) (n : Nat) (hist : List Int) : Bool :=
  (pout s n).ctrFb && 11 ≤ hist.length
    && decide (hist.getD 10 0 + ((rdf s (opAddr n + 0x10) 0 7 * 1000 : Nat) : Int) < hist.getD 0 0)

/-- A weld seen by voltage (R215): the output follows the group's test voltage. -/
def weldByVoltage (n : Nat) (s : State) : State :=
  raiseError errWeldV n (updStage (excludeReach n (setOut n (fun o => { o with weldV := true }) (endWeldTest n s))))

/-- A session past its weld check unlocks once V_out is below 60 V (R306). -/
def weldCheckDone (n : Nat) (s : State) : State :=
  let o := pout s n
  if (get s.vcl.port n).sess == 9 && o.vout < 60000 && o.ins == .idle && !o.weldTest && !o.ctrFb then sessUnlockOrEnd n s
  else s

/-- V_out of an output and the V_g of the groups are read, mV, with the last eleven readings of V_out (R216, R217). -/
def takeVout (n : Nat) (vout : List Bool) (vgs : List (List Bool)) (s0 : State) : State :=
  let s1 := readVout n vout ((List.range 6).foldl (fun a g => readMain (36 + g) (vgs.getD g []) a) s0)
  setOut n (fun o => { o with vHist := (o.vout :: o.vHist).take 11 }) s1

/-- What a read of the voltages shows of output `n` (R215, R216, R218): over-voltage at two reads in a row, a load release, a
weld. -/
def judgeVout (n : Nat) (s1 : State) : State :=
  let past := beyondOv s1 n
  let run := if past then (pout s1 n).ovRun + 1 else 0
  let s2 := setOut n (fun o => { o with ovRun := min run 2 }) (if past then s1 else errCleared 2 0x11 n s1)
  let s3 := if 2 ≤ run then startCrowbar n s2
    else if brakeRise s2 n (pout s2 n).vHist then startBrake n true s2
    else s2
  let s4 := if (pout s3 n).weldTest && decide (((rdf s3 (opAddr n + 0x14) 24 6 * 5000 : Nat) : Int) < (pout s3 n).vout) then
    weldByVoltage n s3 else s3
  weldCheckDone n s4

/-- OUTPUT_VOLTAGE_READ (R215, R216, R218): V_out of output `n` and the six group voltages as read this microsecond. -/
def execOutputVoltageRead (t n : Nat) (vout : List Bool) (vgs : List (List Bool)) (s : State) : Host.Outcome State Fault Refusal :=
  .next (judgeVout n (takeVout n vout vgs (s.at t)))

/-! ### The end of braking (R217) -/

/-- The loop slots of an owner restart at their next release (R238): kind 1 a group, 2 an output. -/
def restartOwned (kind idx : Nat) (s : State) : State :=
  { s with lpe.slot := updAll s.lpe.slot fun k x =>
             let c := slf s k 0 4
             if slotOn s k && bits c 10 2 == kind && bits c 12 3 == idx then { x with restartDue := true } else x }

/-- Braking ends: the legs return to SYNC at their next valley, the loop slots restart, and I_ref moves on from the measured
current. -/
def endBrake (n : Nat) (s : State) : State :=
  let s1 := setOut n (fun o => { o with braking := false, iref := o.iout, slewing := true }) s
  (carrying s n).foldl (fun a g => restartOwned 1 g a) (restartOwned 2 n s1)

/-- BRAKE_END (R217): the sum of I_g has fallen to max(I_ref, I_ZERO). -/
def execBrakeEnd (t n : Nat) (s : State) : Host.Outcome State Fault Refusal :=
  let s := s.at t
  .next (if (pout s n).braking then endBrake n s else s)

/-- BRAKE_LONG (R217): BRAKE_MAX elapses. -/
def execBrakeLong (t n : Nat) (s : State) : Host.Outcome State Fault Refusal :=
  let s := s.at t
  .next (if (pout s n).braking then raiseError errBrakeLong n (endBrake n s) else s)

/-! ### Lost and frozen feedback (R221 to R224) -/

/-- The channel is in use. -/
def mdatOn (s : State) (c : Nat) : Bool := rdb s (basePWM + 0x100 + 16 * c) 0

/-- The MCLK a channel is sampled with (R176). -/
def mclkOf (c : Nat) : Nat := if c < 36 then c / 6 else if c < 42 then c - 36 else if c < 46 then c - 42 else c - 42

/-- What the loss of a channel does at once (R223). -/
def fbAction (c : Nat) (s : State) : State :=
  if c < 36 then legOff c (setLeg c (fun l => { l with exclFb := true }) s)
  else if c < 42 then tripGroup (c - 36) 6 s
  else if c < 46 then
    let n := c - 42
    let gs := carrying s n
    let s1 := gs.foldl (fun a g => emptyGroup g (groupLegsOff g a)) (endTracking n s)
    let s2 := { s1 with pwm.pg := updAll s1.pwm.pg fun g p =>
                          if gs.contains g && !p.exclOut.contains n then { p with exclOut := p.exclOut ++ [n], setChanged := true } else p }
    setOut n (fun o => { o with fbLost := true, opening := o.ctrCmd, braking := false }) s2
  else (linkGroups s (c - 46)).foldl (fun a g => tripGroup g 6 a) s

/-- A channel is flagged lost or frozen, and acted on. -/
def fbFlag (c : Nat) (frozen : Bool) (s : State) : State :=
  let s1 := { s with pwm.mdat := upd s.pwm.mdat c fun m =>
                       if frozen then { m with frozen := true, good := false } else { m with lost := true, good := false } }
  fbAction c s1

/-- A flagged channel shows the fault again: it has not recovered (R224). -/
def notGood (ch : Nat) (s : State) : State := { s with pwm.mdat := upd s.pwm.mdat ch fun m => { m with good := false } }

/-- FB_LOST (R221, R223, R224): a stuck run on a channel in use. -/
def execFbLost (t ch : Nat) (s : State) : Host.Outcome State Fault Refusal :=
  let s := s.at t
  .next (if !mdatOn s ch then s
  else if (get s.pwm.mdat ch).lost then notGood ch s
  else raiseError errFbLost ch (updStage (fbFlag ch false s)))

/-- MCLK_LOST (R221, R223, R224): every channel in use that the clock samples counts as lost, with one error for those that
are flagged now. -/
def execMclkLost (t k : Nat) (s : State) : Host.Outcome State Fault Refusal :=
  let s := s.at t
  let on := (List.range 48).filter fun c => mclkOf c == k && mdatOn s c
  let new := on.filter fun c => !(get s.pwm.mdat c).lost
  let s1 := on.foldl (fun a c => notGood c a) s
  .next (if get s.pwm.mclkLost k && new.isEmpty then s1
  else raiseError errMclkLost k (updStage (new.foldl (fun a c => fbFlag c false a)
    { s1 with pwm.mclkLost := upd s1.pwm.mclkLost k fun _ => true })))

/-- FB_FROZEN (R222 to R224): the value stands still over 64 samples while the governing duty moves. -/
def execFbFrozen (t ch : Nat) (s : State) : Host.Outcome State Fault Refusal :=
  let s := s.at t
  .next (if !mdatOn s ch then s
  else if (get s.pwm.mdat ch).frozen then notGood ch s
  else raiseError errFbFrozen ch (updStage (fbFlag ch true s)))

/-- Every flagged channel of a clock has recovered, and so has the clock (R44, R224). -/
def mclkGood (s : State) (k : Nat) : Bool :=
  (List.range 48).all fun c => mclkOf c != k || !fbFlagged s c || (get s.pwm.mdat c).good

/-- FB_CLEAR (R44, R224): 100 ms without a missing edge or a stuck run, and with movement. The condition stands no longer;
PWR_FAULT_CLEAR may now clear its flag. -/
def execFbClear (t ch : Nat) (s : State) : Host.Outcome State Fault Refusal :=
  let s := s.at t
  .next (if fbFlagged s ch then
    let s1 := errCleared 2 0x13 ch (errCleared 2 0x14 ch { s with pwm.mdat := upd s.pwm.mdat ch fun m => { m with good := true } })
    if mclkGood s1 (mclkOf ch) then errCleared 2 0x15 (mclkOf ch) s1 else s1
  else s)

end Sys2Proof.Machine
end

