-- ==== Sys2Proof/Machine/PwrCmd.lean ====
section
/-! DEFINITION. The power stage's status registers and commands (R197, R206, R506). -/

namespace Sys2Proof.Machine

/-! ### Status registers (07, 08) -/

/-- STATE of PWM_LEGn_STAT. -/
def LegState.num : LegState → Nat
  | .off => 0 | .switching => 1 | .waiting => 2 | .limited => 3 | .ocLatched => 4 | .gateFault => 5
  | .hsOnly => 6 | .crowbar => 7

/-- MODE of PWM_PGn_TRK. -/
def TrkMode.num : TrkMode → Nat
  | .none => 0 | .coinOut => 1 | .coinBus => 2 | .ratio => 3

/-- PWM_PGn_STAT. -/
def pgStatWord (s : State) (g : Nat) : Nat :=
  let sw := (legsOf g).map fun k => (legOf s k).st.driven
  let ex := (legsOf g).map fun k => legExcluded s k
  let p := pgr s g
  packBits [(0, maskOf sw), (6, maskOf ex), (12, b2n p.tripped), (13, p.cause), (16, b2n p.respread)]

/-- PWM_PGn_MTX. -/
def pgMtxWord (s : State) (g : Nat) : Nat :=
  let p := pgr s g
  rdw s (pgAddr g + 0x18) + packBits [(0, maskOf p.mtxCmd.toList), (4, maskOf p.mtxFb.toList), (12, maskOf p.mtxBlocked.toList)]

/-- PWM_LEGn_STAT. -/
def legStatWord (s : State) (k : Nat) : Nat :=
  let l := legOf s k
  packBits [(0, l.st.num), (3, l.ocRun), (7, b2n l.ocSeen), (8, l.phase % 2 ^ 20)]

/-- PWM_OPn_CTR. -/
def opCtrWord (s : State) (n : Nat) : Nat :=
  let o := pout s n
  rdw s (opCtrAddr n) + packBits [(0, b2n o.ctrCmd), (1, b2n o.ctrFb), (3, b2n o.zero), (4, b2n o.weld)]

/-- PWM_OPn_PROT. -/
def opProtWord (s : State) (n : Nat) : Nat :=
  let o := pout s n
  packBits [(0, b2n o.slewing), (1, b2n o.braking), (2, b2n o.crowbar), (3, b2n o.fbLost), (4, b2n o.weldV),
    (5, b2n o.weldSkip), (8, o.brakes % 256)]

/-- A list of 32-bit words as bytes. -/
def wordBytes (l : List Nat) : List Nat := (l.map (leBytes 4)).flatten

/-- PWR_STATUS (R206, R506). -/
def execPwrStatus (t line seq : Nat) (s : State) : Host.Outcome State Fault Refusal :=
  .next (runCmd line seq 0x0501 neverIllegal (fun c s =>
    doneOut c [] (wordBytes ((List.range 6).map (pgStatWord s) ++ (List.range 6).map (pgMtxWord s)
      ++ (List.range 36).map (legStatWord s) ++ (List.range 4).map (opCtrWord s) ++ (List.range 4).map (opProtWord s))) s)
    (s.at t))

/-- PWR_MDAT_READ (R206, R506): the capture time and the 48 values, of one instant. -/
def execPwrMdatRead (t line seq : Nat) (s : State) : Host.Outcome State Fault Refusal :=
  .next (runCmd line seq 0x0504 neverIllegal (fun c s =>
    doneOut c [] (leBytes 8 (devTime s) ++ wordBytes (s.pwm.mdat.toList.map fun m => unsigned 32 m.val))
      { s with pwm.mdatTime := devTime s }) (s.at t))

/-! ### Excluding a leg (R206) -/

/-- A leg is excluded by command and stops at its next valley, or is readmitted. -/
def excludeLeg (k : Nat) (ex : Bool) (s : State) : State :=
  if ex then
    markSet (k / 6) (unplaceLeg k (setLeg k (fun l => { l with exclCmd := true, stopDue := l.st.running }) s))
  else setLeg k (fun l => { l with exclCmd := false }) s

/-- PWR_LEG_EXCLUDE (R206, R506). -/
def execPwrLegExclude (t line seq : Nat) (s : State) : Host.Outcome State Fault Refusal :=
  .next (runCmd line seq 0x0503 neverIllegal (fun c s =>
    if 36 ≤ c.param 8 1 then rejectRange c 8 s
    else if 2 ≤ c.param 9 1 then rejectRange c 9 s
    else done c [] (excludeLeg (c.param 8 1) (c.param 9 1 == 1) s)) (s.at t))

/-! ### Clearing faults (R197, R203, R219, R224) -/

/-- A channel is not flagged, or its condition has cleared (R224). -/
def fbGone (s : State) (c : Nat) : Bool := !fbFlagged s c || (get s.pwm.mdat c).good

/-- A channel's flags are cleared, and its clock's with the last of them. -/
def clearFb (c : Nat) (s : State) : State :=
  let s1 := { s with pwm.mdat := upd s.pwm.mdat c fun m => { m with lost := false, frozen := false, good := false } }
  let k := mclkOf c
  let s2 := if (List.range 48).all fun d => mclkOf d != k || !(get s1.pwm.mdat d).lost then
    errCleared 2 0x15 k { s1 with pwm.mclkLost := upd s1.pwm.mclkLost k fun _ => false } else s1
  errCleared 2 0x13 c (errCleared 2 0x14 c s2)

/-- The cause of a leg's latch has gone. -/
def legGone (s : State) (k : Nat) : Bool :=
  (if (legOf s k).st == .gateFault then !(legOf s k).gflt else true) && (!(legOf s k).exclFb || fbGone s k)

/-- A leg is cleared. -/
def clearLeg (k : Nat) (s : State) : State :=
  let fb := (legOf s k).exclFb
  let s1 := setLeg k (fun l => { l with st := if l.st.latched then .off else l.st, exclFb := false, ocSeen := false, ocRun := 0 }) s
  let s2 := errCleared 2 1 k (errCleared 2 2 k s1)
  if fb then clearFb k s2 else s2

/-- A loop fault of a group's slots, or of those of an output it can reach, stands (R237). -/
def loopFault (s : State) (g : Nat) : Bool :=
  (List.range 64).any fun k =>
    let c := slf s k 0 4
    slotOn s k && (get s.lpe.slot k).ovr &&
      ((bits c 10 2 == 1 && bits c 12 3 == g) || (bits c 10 2 == 2 && mtxPresent s g (bits c 12 3)))

/-- The cause of a group's trip has gone, and no feedback channel of the group is lost or frozen (R197, R224). -/
def causeGone (s : State) (g : Nat) : Bool :=
  let link := b2n (rdb s (pgAddr g) 15)
  fbGone s (36 + g) && fbGone s (46 + link) && match (pgr s g).cause with
  | 1 => (legsOf g).all fun k => !(legOf s k).gflt
  | 3 | 4 => (get s.pwm.dcl link).okSince.any fun x => decide (x + 10000000 ≤ s.now)
  | 5 => !loopFault s g
  | _ => true

/-- The outputs whose lost feedback holds a group excluded. -/
def fbOuts (s : State) (g : Nat) : List Nat := (pgr s g).exclOut.filter fun n => (pout s n).fbLost

/-- The group may be cleared: its matrix contactors read open, and what excluded it has gone. -/
def groupGone (s : State) (g : Nat) : Bool :=
  if (pgr s g).tripped || fbOuts s g != [] then
    (pgr s g).mtxFb.toList.all (!·) && (!(pgr s g).tripped || causeGone s g) && (fbOuts s g).all fun n => fbGone s (42 + n)
  else true

/-- An output's lost feedback no longer stands. -/
def clearOutFb (n : Nat) (s : State) : State :=
  if (pout s n).fbLost then clearFb (42 + n) (setOut n (fun o => { o with fbLost := false }) s) else s

/-- Groups stop being excluded for output `n` where nothing of it holds them any more. -/
def readmitReach (n : Nat) (s : State) : State :=
  let o := pout s n
  let held := o.weld || o.weldV || o.crowbar || o.fbLost || (List.range 6).any fun g => get (pgr s g).mtxWeld n
  if held then s
  else { s with pwm.pg := updAll s.pwm.pg fun _ p => { p with exclOut := p.exclOut.filter (· != n) } }

/-- A group is cleared; its loop slots restart (R238). -/
def clearGroup (g : Nat) (s : State) : State :=
  let link := b2n (rdb s (pgAddr g) 15)
  let outs := fbOuts s g
  let cause := (pgr s g).cause
  let s1 := outs.foldl (fun a n => readmitReach n (clearOutFb n a)) s
  let s2 := setPg g (fun p => { p with tripped := false, cause := 0 }) s1
  let s3 := if cause == 0 then s2 else clearFb (36 + g) (clearFb (46 + link) s2)
  let s4 := if cause == 0 then s3 else restartOwned 1 g s3
  errCleared 2 3 link (errCleared 2 4 link (errCleared 3 1 g (errCleared 3 4 g s4)))

/-- A matrix position is cleared. -/
def clearPos (g n : Nat) (s : State) : State :=
  readmitReach n (errCleared 2 7 (8 * g + n) (errCleared 2 8 (8 * g + n)
    (setPg g (fun p => { p with mtxBlocked := upd p.mtxBlocked n (fun _ => false), mtxWeld := upd p.mtxWeld n fun _ => false }) s)))

/-- An output contactor is cleared: a failed closing, a weld, a weld by voltage, and lost feedback that has recovered. -/
def clearCtr (n : Nat) (s : State) : State :=
  let s1 := if fbGone s (42 + n) then clearOutFb n s else s
  readmitReach n (errCleared 2 7 (64 + n) (errCleared 2 8 (64 + n) (errCleared 2 0x16 n
    (setOut n (fun o => { o with blocked := false, weld := false, weldV := false }) s1))))

/-- The crowbar latch of an output is cleared. -/
def clearCrowbar (n : Nat) (s : State) : State :=
  readmitReach n (errCleared 2 0x11 n (setOut n (fun o => { o with crowbar := false, cbGroups := [] }) s))

/-- PWR_FAULT_CLEAR's fields are in range: none, or the entry offset of the faulty one. -/
def clearBad (c : Cmd) : Option Nat :=
  let i := c.param 9 1
  match c.param 8 1 with
  | 0 => if i < 36 then none else some 9
  | 1 => if i < 6 then none else some 9
  | 2 => if 6 ≤ i then some 9 else if c.param 10 1 < 4 then none else some 10
  | 3 | 4 => if i < 4 then none else some 9
  | _ => some 8

/-- The clear is refused (R197, R219, R224). -/
def clearRefused (c : Cmd) (s : State) : Bool :=
  let i := c.param 9 1
  if (clearBad c).isSome then false
  else match c.param 8 1 with
    | 0 => !legGone s i
    | 1 => !groupGone s i
    | 2 => get (pgr s i).mtxFb (c.param 10 1)
    | 3 => (pout s i).ctrFb && ((pout s i).weld || (pout s i).weldV)
    | _ => (pout s i).crowbar && ((pout s i).ctrFb || decide (60000 ≤ (pout s i).vout))

/-- What an accepted clear does. -/
def clearItem (c : Cmd) (s : State) : State :=
  let i := c.param 9 1
  match c.param 8 1 with
  | 0 => clearLeg i s
  | 1 => clearGroup i s
  | 2 => clearPos i (c.param 10 1) s
  | 3 => clearCtr i s
  | _ => clearCrowbar i s

/-- PWR_FAULT_CLEAR (R197, R206, R219, R224, R506). -/
def execPwrFaultClear (t line seq : Nat) (s : State) : Host.Outcome State Fault Refusal :=
  .next (runCmd line seq 0x0502 clearRefused (fun c s =>
    match clearBad c with
    | some o => rejectRange c o s
    | none => done c [] (updStage (clearItem c s))) (s.at t))

end Sys2Proof.Machine
end

