-- ==== Sys2Proof/Machine/Lpe.lean ====
section
/-! DEFINITION. Reedbed (09): sections and their arithmetic, slot inputs and outputs, releases, completions and overruns,
restarts, bank switches, warm starts, and its commands. -/

namespace Sys2Proof.Machine

/-! ### Errors of SUBSYS 3 (R248) -/

def errLpeOverrun : ErrSpec := ⟨3, 1, 2⟩
def errLpeSat : ErrSpec := ⟨3, 2, 1⟩
def errLpeStale : ErrSpec := ⟨3, 3, 1⟩

/-! ### Arithmetic (R228) -/

/-- Arithmetic shift right by `n`, rounding half away from zero (`>>r`). -/
def shrR (x : Int) (n : Nat) : Int :=
  if n = 0 then x else if 0 ≤ x then (x + 2 ^ (n - 1)) / 2 ^ n else -((-x + 2 ^ (n - 1)) / 2 ^ n)

/-- Saturation to `w` bits, and whether it acted. -/
def satTo (w : Nat) (x : Int) : Int × Bool :=
  let hi : Int := 2 ^ (w - 1) - 1
  if hi < x then (hi, true) else if x < -hi - 1 then (-hi - 1, true) else (x, false)

/-- align(): a shift left by `sh`, or right with rounding, in a 56-bit accumulator. -/
def alignTo (x : Int) (sh : Int) : Int × Bool :=
  if 0 ≤ sh then satTo 56 (x * 2 ^ sh.toNat) else satTo 56 (shrR x (-sh).toNat)

/-- A section's coefficients (R246). -/
structure Coef where
  b0 : Int
  b1 : Int
  b2 : Int
  a1 : Int
  a2 : Int
  lo : Int
  hi : Int
  sctrl : Nat
deriving DecidableEq, Repr

/-- INTEG of a section. -/
def Coef.integ (c : Coef) : Bool := bit c.sctrl 0

/-- CE of a section. -/
def Coef.ce (c : Coef) : Int := signed 6 (bits c.sctrl 1 6)

/-- A section's states (R247). -/
structure SecState where
  s1 : Int := 0
  s2 : Int := 0
  y : Int := 0
  e : Int := 0
  sat : Bool := false
  clamped : Bool := false
deriving DecidableEq, Repr

/-- A bound of S1 as a 32-bit mantissa at exponent `e`, and whether it saturated (R228, R230). -/
def boundAt (m ce e : Int) : Int × Bool :=
  let a := alignTo m (ce - e)
  let b := satTo 32 a.1
  (b.1, a.2 || b.2)

/-- S1 clamped under R230: its value, whether the clamp acted, and whether a bound that acts saturated (R229). -/
def clampS1 (c : Coef) (e s1 : Int) : Int × Bool × Bool :=
  let lo := boundAt c.lo c.ce e
  let hi := boundAt c.hi c.ce e
  let v := clampInt s1 lo.1 hi.1
  (v, v != s1, (decide (s1 ≤ lo.1) && lo.2) || (decide (hi.1 ≤ s1) && hi.2))

/-- The least n with |a| < 2^(52+n), limited so that the exponent stays at most 31. -/
def renorm (a e : Int) : Nat :=
  let n := ((List.range 64).find? fun k => decide (a.natAbs < 2 ^ (52 + k))).getD 64
  min n (31 - e).toNat

/-- A value times a power of two, exact. -/
def scaleRat (x : Rat) (e : Int) : Rat := if 0 ≤ e then x * 2 ^ e.toNat else x / 2 ^ (-e).toNat

/-- S1 is held back under HOLD_ON_CLAMP (R232): it may not rise while the output stands at its upper bound, nor fall while
it stands at its lower one. -/
def holdS1 (up dn : Bool) (old new : Rat) : Bool := (up && decide (old < new)) || (dn && decide (new < old))

/-- One section's normal computation (R228): input mantissa `x` with exponent `ex`; the result is the section's new state.
`up` and `dn` say which way an integrator is held; `st.sat` says whether a bank switch or restart of this instance saturated
(R229). -/
def sectionStep (c : Coef) (up dn : Bool) (x ex : Int) (st : SecState) : SecState :=
  let sh := ex - st.e
  let p0 := alignTo (c.b0 * x) sh
  let a0 := satTo 56 (p0.1 + st.s1 * 2 ^ 22)
  let n := renorm a0.1 st.e
  let e := st.e + n
  let sh := sh + n
  let a0n := shrR a0.1 n
  let s2 := shrR st.s2 n
  let y := satTo 32 (shrR a0n 22)
  let p1 := alignTo (c.b1 * x) sh
  let a1 := satTo 56 (p1.1 - c.a1 * y.1 + s2 * 2 ^ 22)
  let p2 := alignTo (c.b2 * x) sh
  let a2 := satTo 56 (p2.1 - c.a2 * y.1)
  let n1 := satTo 32 (shrR a1.1 22)
  let n2 := satTo 32 (shrR a2.1 22)
  let held := c.integ && holdS1 up dn (scaleRat (st.s1 : Rat) st.e) (scaleRat (n1.1 : Rat) e)
  let n1h := if held then shrR st.s1 n else n1.1
  let k := if c.integ then clampS1 c e n1h else (n1h, false, false)
  let sat := st.sat || p0.2 || a0.2 || y.2 || p1.2 || a1.2 || p2.2 || a2.2 || n1.2 || n2.2 || k.2.2
  if max y.1.natAbs (max k.1.natAbs n2.1.natAbs) < 2 ^ 28 && decide (-32 < e) then
    { s1 := 2 * k.1, s2 := 2 * n2.1, y := 2 * y.1, e := e - 1, sat := sat, clamped := k.2.1 }
  else { s1 := k.1, s2 := n2.1, y := y.1, e := e, sat := sat, clamped := k.2.1 }

/-! ### Restart (R238) -/

/-- An exponent, from the section's own upward, at which two values fit 32 bits (log entry 38). -/
def fitExp (e : Int) (u v : Rat) : Int :=
  let ok := fun (k : Nat) =>
    (roundAway (scaleRat u (-(e + k)))).natAbs < 2 ^ 31 && (roundAway (scaleRat v (-(e + k)))).natAbs < 2 ^ 31
  e + min ((List.range 64).find? ok |>.getD 64) (31 - e).toNat

/-- A value as a 32-bit mantissa at exponent `e`, and whether it saturated. -/
def mantAt (v : Rat) (e : Int) : Int × Bool := satTo 32 (roundAway (scaleRat v (-e)))

/-- A coefficient's value. -/
def coefVal (m : Int) : Rat := (m : Rat) / 4194304

/-- One section's restart for input value `x` (R238): its new state, and its output. -/
def sectionRestart (c : Coef) (v x : Rat) (st : SecState) : SecState × Rat :=
  let b0 := coefVal c.b0
  let b1 := coefVal c.b1
  let b2 := coefVal c.b2
  let a1 := coefVal c.a1
  let a2 := coefVal c.a2
  if c.integ then
    let s1 := match bits c.sctrl 7 2 with
      | 0 => scaleRat (st.s1 : Rat) st.e
      | 1 => 0
      | _ => v - b0 * x
    let s2 := b2 * x
    let e := fitExp st.e s1 s2
    let m1 := mantAt s1 e
    let m2 := mantAt s2 e
    let k := clampS1 c e m1.1
    ({ s1 := k.1, s2 := m2.1, y := st.y, e := e, sat := st.sat || m1.2 || m2.2 || k.2.2, clamped := k.2.1 },
     b0 * x + scaleRat (k.1 : Rat) e)
  else
    let y := x * (b0 + b1 + b2) / (1 + a1 + a2)
    let s1 := y - b0 * x
    let s2 := b2 * x - a2 * y
    let e := fitExp st.e s1 s2
    let m1 := mantAt s1 e
    let m2 := mantAt s2 e
    ({ s1 := m1.1, s2 := m2.1, y := st.y, e := e, sat := st.sat || m1.2 || m2.2, clamped := st.clamped }, y)

/-! ### Tables in RAM (R244 to R247) -/

/-- Coefficients of section `k` in a bank. -/
def coefOf (s : State) (bank k : Nat) : Coef :=
  let a := 0x58001000 + 0x4000 * bank + 32 * k
  let w := fun i => signed 24 (memRead s.mem (a + 4 * i) 4)
  { b0 := w 0, b1 := w 1, b2 := w 2, a1 := w 3, a2 := w 4, lo := signed 32 (memRead s.mem (a + 20) 4),
      hi := signed 32 (memRead s.mem (a + 24) 4), sctrl := memRead s.mem (a + 28) 4 }

/-- Section state at a base. -/
def secAt (s : State) (base k : Nat) : SecState :=
  let a := base + 16 * k
  { s1 := signed 32 (memRead s.mem a 4), s2 := signed 32 (memRead s.mem (a + 4) 4), y := signed 32 (memRead s.mem (a + 8) 4),
      e := signed 8 (memRead s.mem (a + 12) 1), sat := bit (memRead s.mem (a + 13) 1) 0, clamped := bit (memRead s.mem (a + 13) 1) 1 }

/-- Section states. -/
abbrev secBase : Nat := 0x58009000

/-- Mirrored section states. -/
abbrev mirBase : Nat := 0x5800C000

/-- A section's state is written. -/
def putSec (base k : Nat) (x : SecState) (s : State) : State :=
  let a := base + 16 * k
  let m := memWrite (memWrite (memWrite s.mem a 4 (unsigned 32 x.s1)) (a + 4) 4 (unsigned 32 x.s2)) (a + 8) 4 (unsigned 32 x.y)
  { s with mem := memWrite (memWrite m (a + 12) 1 (unsigned 8 x.e)) (a + 13) 1 (b2n x.sat + 2 * b2n x.clamped) }

/-- Slot `k` beside its entry. -/
def slotOf (s : State) (k : Nat) : Slot := get s.lpe.slot k

/-- Slot `k` changed. -/
def setSlot (k : Nat) (f : Slot → Slot) (s : State) : State := { s with lpe.slot := upd s.lpe.slot k f }

/-- The sections of slot `k`. -/
def slotSecs (s : State) (k : Nat) : List Nat := (List.range (slf s k 14 1)).map (slf s k 12 2 + ·)

/-- OWNER_KIND of slot `k`. -/
def slotKind (s : State) (k : Nat) : Nat := bits (slf s k 0 4) 10 2

/-- Owner index of slot `k`. -/
def slotOwner (s : State) (k : Nat) : Nat := bits (slf s k 0 4) 12 3

/-- OVR_RUN of slot `k`. -/
def ovrRun (s : State) (k : Nat) : Nat := slf s k 15 1

/-- OVR_RUN is written. -/
def putOvrRun (k v : Nat) (s : State) : State := { s with mem := memWrite s.mem (slotAddr k + 15) 1 v }

/-! ### Sources and destinations (R233, R262, R263) -/

/-- I_mean - I_j of a leg over its group's switching legs. -/
def meanDiff (s : State) (k : Nat) : Int :=
  let ls := (legsOf (k / 6)).filter fun j => (legOf s j).st.driven
  let sum : Int := (ls.map fun j => (legOf s j).current).foldl (· + ·) 0
  if ls.isEmpty then 0 else roundAway ((sum : Rat) / (ls.length : Rat) - ((legOf s k).current : Rat))

/-- The value of a source code; analog inputs are operands. Reserved codes cannot be loaded (R233). -/
def srcValue (s : State) (ain : List Int) (c : Nat) : Int :=
  let i := c % 256
  match c / 256 with
  | 1 => (get s.pwm.mdat i).val
  | 2 => (pgr s i).ig
  | 3 => meanDiff s i
  | 4 =>
    if i < 16 then (pout s i).iref
    else if i < 32 then (pout s (i - 16)).iout
    else if i < 48 then ((pout s (i - 32)).vlim : Nat)
    else ((get s.slc.pg (i - 48)).share : Nat)
  | 5 => (slotOf s i).out
  | 6 => get s.cbl.ts i
  | 7 => cableSource s (i / 16) (i % 16)
  | 8 => ((get s.cbl.flow i : Nat) : Int)
  | 9 => ain.getD i 0
  | _ => 0

/-- The sharing loop of a leg is held at 0: the leg does not switch, or it is in its first four periods (R190). -/
def sharingHeld (s : State) (k : Nat) : Bool := !(legOf s k).st.driven || (legOf s k).trimHold != 0

/-- V_ref,g of every group that carries an output: V_ref,n, within V_lim,n, plus ΔV_g (R189). -/
def formRefs (s : State) : State :=
  { s with lpe.vrefg := updAll s.lpe.vrefg fun g v => match (get s.slc.pg g).output with
      | some n => min (get s.lpe.vref n) ((pout s n).vlim : Int) + get s.lpe.dv g
      | none => v }

/-- A value written that load points sample 100 ns before they come (R185): the value it replaces counts until then. -/
def prevOf (now at0 : Nat) (value prev : Int) : Int := if at0 == now then prev else value

/-- A slot's output goes to its destination (R189, R190, R233). -/
def writeDest (dst : Nat) (v : Int) (s : State) : State :=
  let i := dst % 256
  match dst / 256 with
  | 1 => setPg i (fun p => { p with u := v, uPrev := prevOf s.now p.uAt p.u p.uPrev, uAt := s.now }) s
  | 2 => setLeg i (fun l => { l with trimReq := if sharingHeld s i then 0 else clampInt v (-32768) 32767,
                                     trimPrev := prevOf s.now l.trimAt l.trimReq l.trimPrev, trimAt := s.now }) s
  | 3 =>
    if i < 16 then formRefs { s with lpe.vref := upd s.lpe.vref i fun _ => v }
    else formRefs { s with lpe.dv := upd s.lpe.dv (i - 16) fun _ => v }
  | 4 => { s with lsw.dutyNext := upd s.lsw.dutyNext i fun _ => (clampInt v 0 65535).toNat }
  | 5 => coolCommand i (clampInt v 0 65535).toNat s
  | _ => s

/-- The input sum at the smallest exponent used, shifted to fit 32 bits (R231). -/
def slotInput (s : State) (ain : List Int) (k : Nat) : Int × Int :=
  let terms := ((List.range 4).map fun i => slf s k (16 + 4 * i) 4).filter fun w => bits w 0 16 != 0
  let ex := fun w => signed 6 (bits w 16 6)
  match terms with
  | [] => (0, 0)
  | w :: ws =>
    let e := ws.foldl (fun a x => min a (ex x)) (ex w)
    let term := fun w => (if bit w 22 then -1 else 1) * srcValue s ain (bits w 0 16) * 2 ^ (ex w - e).toNat
    let sum := (terms.map term).foldl (· + ·) 0
    let n := ((List.range 64).find? fun j => !(satTo 32 (shrR sum j)).2).getD 64
    (shrR sum n, e + n)

/-! ### Releases (R234, R238, R240, R242) -/

/-- The slot's owner does not run: no switching leg in its group, or its output not energised. -/
def ownerIdle (s : State) (k : Nat) : Bool :=
  match slotKind s k with
  | 1 => !((legsOf (slotOwner s k)).any fun j => (legOf s j).st.driven)
  | 2 => !energised s (slotOwner s k)
  | _ => false

/-- MIRROR of slot `k`. -/
def slotMirror (s : State) (k : Nat) : Bool := bit (slf s k 0 4) 1

/-- A warm start loads the snapshot of slot `k` (R242). -/
def loadSnapshot (k : Nat) (s : State) : State :=
  let s1 := (slotSecs s k).foldl (fun a i => putSec secBase i (secAt s mirBase i) a) s
  setSlot k (fun x => { x with out := signed 32 (memRead s.mem (0x5800B008 + 16 * k) 4) }) s1

/-- The first release of a slot after a takeover (R242): warm, or a restart, which a stale snapshot reports. -/
def warmStart (k : Nat) (s : State) : State :=
  let s0 := setSlot k (fun x => { x with warmDue := false }) s
  if slotMirror s k then
    if devTime s ≤ memRead s.mem (0x5800B000 + 16 * k) 8 + 10000000 then loadSnapshot k s0
    else raiseError errLpeStale k (fireEvent 165 (setSlot k (fun x => { x with restartDue := true }) s0))
  else setSlot k (fun x => { x with restartDue := true }) s0

/-- The sharing state of a slot whose leg has stopped is cleared: its sections and its output are 0 (R190). -/
def clearSections (k : Nat) (s : State) : State :=
  if (slotOf s k).clearDue then
    (slotSecs s k).foldl (fun a i => putSec secBase i {} a) (setSlot k (fun x => { x with clearDue := false, out := 0 }) s)
  else s

/-- A slot is released and captures its inputs (R190, R231, R234, R243). -/
def releaseSlot (k : Nat) (ain : List Int) (s0 : State) : State :=
  let s := clearSections k s0
  let x := slotOf s k
  let warm := x.warmDue
  let s1 := if warm then warmStart k s else s
  let y := slotOf s1 k
  let idle := ownerIdle s1 k
  let inp := slotInput s1 ain k
  let bound := fun ofs => let c := slf s1 k ofs 2
    if c = 0 then none else some (srcValue s1 ain c)
  let bank := if y.switched || s1.lpe.swapPending then 1 - s1.lpe.bank else s1.lpe.bank
  let cap : Capture := { release := devTime s1, x := inp.1, ex := inp.2, loB := bound 46, hiB := bound 44,
                           presets := (slotSecs s1 k).map fun i => srcValue s1 ain (bits (coefOf s1 bank i).sctrl 9 16),
                           restart := (y.restartDue || idle) && !(warm && !y.restartDue), switch := s1.lpe.swapPending && !y.switched, idle := idle }
  setSlot k (fun z => { z with cap := some cap, idle := idle }) s1

/-! ### Trips (R236) -/

/-- The error argument of a slot's trip: its group, its output (8 and up), or itself (64 and up). -/
def tripArg (s : State) (k : Nat) : Nat :=
  match slotKind s k with
  | 1 => slotOwner s k
  | 2 => 8 + slotOwner s k
  | _ => 64 + k

/-- The slot trips (R236): its owner's groups trip, or its output is set to SAFE and held there. -/
def tripSlot (k : Nat) (e : ErrSpec) (s : State) : State :=
  let s1 := setSlot k (fun x => { x with ovr := true, good := 0 }) (fireEvent 161 (if e.code == 4 then fireEvent 166 s else s))
  let s2 := match slotKind s k with
    | 1 => tripGroup (slotOwner s k) 5 s1
    | 2 => (carrying s1 (slotOwner s k)).foldl (fun a g => tripGroup g 5 a) s1
    | _ =>
      let v := signed 32 (slf s k 48 4)
      writeDest (slf s k 32 2) v (setSlot k (fun x => { x with safe := true, out := v }) s1)
  raiseError e (tripArg s k) (updStage s2)

/-- An instance that has not completed at its deadline is abandoned (R236). -/
def overrunSlot (k : Nat) (s : State) : State :=
  let n := ovrRun s k
  let lane := bits (slf s k 0 4) 4 2
  let s1 := putOvrRun k (min 3 (n + 1)) (setSlot k (fun x => { x with cap := none, good := 0 }) s)
  let s2 := fireEvent 160 { s1 with lpe.ovrCnt := upd s1.lpe.ovrCnt lane fun c => (c + 1) % 65536 }
  if n + 1 = 3 then tripSlot k errLpeOverrun s2 else s2

/-- Loop slots are released once a configuration is loaded. -/
def slotRuns (s : State) (k : Nat) : Bool := s.cfg.loaded && slotOn s k

/-- The output and DC-link channels are read for a release: their main filters at its sample instant (R180). -/
def readVolts (volts : List (List Bool)) (s : State) : State :=
  volts.zipIdx.foldl (fun a p => readMain (42 + p.2) p.1 a) s

/-- The slot's release is due: device time stands at a multiple of a timer slot's PERIOD of 2.5 ns cycles, or a group
slot's trigger has fired (R189, R234). -/
def releaseDue (s : State) (k : Nat) : Bool :=
  if bit (slf s k 0 4) 6 then (slotOf s k).trigDue else decide (2 * devTime s % (5 * slf s k 4 4) < 5)

/-- SLOT_RELEASE (R180, R234): the slot is released; an instance still unfinished at its next release has overrun. In M7 a
MIRROR slot does not compute (R241). -/
def execSlotRelease (t slot : Nat) (ain : List Int) (volts : List (List Bool)) (s : State) : Host.Outcome State Fault Refusal :=
  let s := s.at t
  .next (if slotRuns s slot && releaseDue s slot && !(s.lpe.standby && slotMirror s slot) then
    let s1 := setSlot slot (fun x => { x with trigDue := false }) (readVolts volts s)
    releaseSlot slot ain (if (slotOf s1 slot).cap.isSome then overrunSlot slot s1 else s1)
  else s)

/-- SLOT_DEADLINE (R236). -/
def execSlotDeadline (t slot : Nat) (s : State) : Host.Outcome State Fault Refusal :=
  let s := s.at t
  .next (if (slotOf s slot).cap.isSome then overrunSlot slot s else s)

/-! ### Completions (R231, R235, R240) -/

/-- The adjustment of an integrator's S1 at a bank switch (R240). -/
def switchAdjust (old new : Coef) (x ex : Int) (st : SecState) : SecState :=
  if new.integ then
    let a := alignTo ((old.b0 - new.b0) * x) (ex - st.e)
    let v := satTo 32 (st.s1 + shrR a.1 22)
    { st with s1 := v.1, sat := st.sat || a.2 || v.2 }
  else st

/-- The bounds of a slot's output: those of its entry, tightened by the sources captured at its release (R231). -/
def slotBounds (s : State) (k : Nat) (cp : Capture) : Int × Int :=
  let lo := signed 32 (slf s k 36 4)
  let hi := signed 32 (slf s k 40 4)
  (cp.loB.elim lo (max lo ·), cp.hiB.elim hi (min hi ·))

/-- HOLD_ON_CLAMP acts on the slot's integrators: upward while its output stands at its upper bound, downward while it
stands at its lower one (R232). -/
def holdDirs (s : State) (k : Nat) (cp : Capture) : Bool × Bool :=
  let hold := bit (slf s k 0 4) 2
  let b := slotBounds s k cp
  (hold && decide (b.2 ≤ (slotOf s k).out), hold && decide ((slotOf s k).out ≤ b.1))

/-- The section states and the output of one instance: folded over the sections with the signal (mantissa, exponent, and
its value for a restart). -/
def runSections (s : State) (k bank : Nat) (cp : Capture) : List (Nat × Int) → Int → Int → Rat → List (Nat × SecState)
  | [], _, _, _ => []
  | (i, v) :: rest, x, ex, rx =>
    let c := coefOf s bank i
    let st0 := { secAt s secBase i with sat := false }
    let st1 := if cp.switch && !cp.restart then switchAdjust (coefOf s (1 - bank) i) c x ex st0 else st0
    let r := if cp.restart then sectionRestart c (v : Rat) rx st1 else (st1, 0)
    let h := holdDirs s k cp
    let st2 := sectionStep c h.1 h.2 x ex r.1
    (i, st2) :: runSections s k bank cp rest st2.y st2.e r.2

/-- The output of the last section in destination units, clamped: value, and whether the upper and lower bound acted. -/
def slotOutput (s : State) (k : Nat) (cp : Capture) (last : SecState) : Int × Bool × Bool :=
  let oexp := signed 6 (bits (slf s k 32 4) 16 6)
  let v := roundAway (scaleRat (last.y : Rat) (last.e - oexp))
  let b := slotBounds s k cp
  (clampInt v b.1 b.2, decide (b.2 < v), decide (v < b.1))

/-- The enabled slots. -/
def slotsOn (s : State) : List Nat := (List.range 64).filter (slotOn s)

/-- Every enabled slot has completed its first instance since a takeover (R242). -/
def finishWarm (before s : State) : State :=
  if (slotsOn s).all (fun k => (slotOf s k).warmDone) && !((slotsOn s).all fun k => (slotOf before k).warmDone) then
    fireEvent 164 s
  else s

/-- A LPE_SNAP record (R464): the slot, its sections' number, the release and the output, and each section's state. -/
def snapRec (s : State) (k release : Nat) : List Nat :=
  let secs := (slotSecs s k).map fun i => secAt s secBase i
  [k, secs.length, 0] ++ leBytes 8 release ++ leBytes 4 (unsigned 32 (slotOf s k).out)
    ++ (secs.map fun z => leBytes 4 (unsigned 32 z.s1) ++ leBytes 4 (unsigned 32 z.s2) ++ [unsigned 8 z.e, 0, 0, 0]).flatten

/-- A snapshot of a MIRROR slot leaves for the standby at every MIR_DIV-th completion, and sooner where the next completion
would come more than a millisecond after the last snapshot (R241, R464). -/
def takeSnapshot (k : Nat) (cp : Capture) (s : State) : State :=
  let x := slotOf s k
  let next := 2 * s.now + 5 * slf s k 4 4
  let due := max 1 (bits (slf s k 0 4) 15 8) ≤ x.mirCnt + 1 || 2 * (x.mirAt + 1000000) < next
  if slotMirror s k && s.dpx.role == 1 then
    if due then
      setSlot k (fun y => { y with mirCnt := 0, mirAt := s.now, mirRel := cp.release }) (mirrorSend 0x31 (snapRec s k cp.release) s)
    else setSlot k (fun y => { y with mirCnt := y.mirCnt + 1 }) s
  else s

/-- The slot is the sharing loop of a leg that holds it at 0 (R190). -/
def slotHeld (s : State) (k : Nat) : Bool := (sharingLeg s k).any (sharingHeld s)

/-- The sections of a completing instance: those of a sharing loop held at 0 stay cleared (R190). -/
def newSections (s : State) (k bank : Nat) (cp : Capture) : List (Nat × SecState) :=
  if slotHeld s k then (slotSecs s k).map (·, {})
  else runSections s k bank cp ((slotSecs s k).zip cp.presets) cp.x cp.ex (scaleRat (cp.x : Rat) cp.ex)

/-- An instance completes: it writes its states and its clamped output (R190, R231, R235, R236). -/
def completeSlot (k lat : Nat) (cp : Capture) (s : State) : State :=
  let x := slotOf s k
  let bank := if x.switched || cp.switch then 1 - s.lpe.bank else s.lpe.bank
  let secs := newSections s k bank cp
  let last := (secs.getLast?.map Prod.snd).getD {}
  let sats := (secs.filter fun p => p.2.sat).length
  let o := if slotHeld s k then (0, false, false) else slotOutput s k cp last
  let s1 := secs.foldl (fun a p => putSec secBase p.1 p.2 a) s
  let s2 := putOvrRun k 0 (setSlot k (fun y =>
    { y with cap := none, restartDue := false, warmDone := true, switched := y.switched || cp.switch, idle := cp.idle,
               clampHi := o.2.1, clampLo := o.2.2, bank := bank, lat := min lat 65535,
               out := if y.safe then y.out else o.1, good := if y.ovr then y.good + 1 else 0 }) s1)
  let s3 := if (slotOf s k).safe then s2 else writeDest (slf s k 32 2) o.1 s2
  let s4 := if sats = 0 then s3 else
    raiseError errLpeSat k (fireEvent 162 { s3 with lpe.satCnt := (s3.lpe.satCnt + sats) % 65536 })
  finishWarm s (finishSwap (takeSnapshot k cp s4))

/-- SLOT_COMPLETE (R235, R236): `lat` cycles after the release; with a double-bit error in the RAM an instance read, it is
abandoned and acts as a third overrun. -/
def execSlotComplete (t slot lat : Nat) (eccDbl : Bool) (s : State) : Host.Outcome State Fault Refusal :=
  let s := s.at t
  .next (match (slotOf s slot).cap with
  | none => s
  | some cp =>
    if eccDbl then tripSlot slot errLpeRam (putOvrRun slot 3 (setSlot slot (fun x => { x with cap := none }) s))
    else completeSlot slot lat cp s)

/-- LPE_OVR_CLEAR (R237): 100 consecutive instances completed by their deadlines; a held output leaves SAFE at the next
completion. -/
def execLpeOvrClear (t slot : Nat) (s : State) : Host.Outcome State Fault Refusal :=
  let s := s.at t
  .next (if (slotOf s slot).ovr && 100 ≤ (slotOf s slot).good then
    (let s1 := setSlot slot (fun x => { x with ovr := false, safe := false, good := 0 }) s
     let s2 := updStage s1
     if slotKind s slot == 0 || slotKind s slot == 2 then errCleared 3 1 (tripArg s slot) (errCleared 3 4 (tripArg s slot) s2) else s2)
  else s)

/-! ### Bank switches and writes (R239, R240) -/

/-- A bank switch is requested; with no slot enabled it is done at once. -/
def requestSwap (s : State) : State :=
  if s.lpe.swapPending then s
  else finishSwap { s with lpe.swapPending := true, lpe.slot := updAll s.lpe.slot fun _ x => { x with switched := false } }

/-- LPE_SWAP_REQ (R239, R240): only the supervisor writes LPE_SWAP. -/
def execLpeSwapReq (t : Nat) (m : Master) (s : State) : Host.Outcome State Fault Refusal :=
  let s := s.at t
  .next (if m == .sup then requestSwap s else firewallBlock s)

/-- The supervisor may write this word of Reedbed RAM now (R239, R244). -/
def ramOpen (s : State) (a : Nat) : Bool :=
  let ofs := a - 0x58000000
  if ofs < 0x1000 then s.sys.mode == .m3
  else if ofs < 0x9000 then
    s.sys.mode == .m3 || ((ofs - 0x1000) / 0x4000 != s.lpe.bank && !s.lpe.swapPending)
  else false

/-- Bytes of a slot entry's word that are the engine's own: OVR_RUN, COST, and a group slot's PERIOD and DEADLINE. -/
def slotStateMask (s : State) (a : Nat) : Nat :=
  let ofs := (a - 0x58000000) % 64
  let k := (a - 0x58000000) / 64
  if ofs = 12 then 0xFF000000
  else if ofs = 52 then 0xFFFF
  else if (ofs = 4 || ofs = 8) && bit (slf s k 0 4) 6 then 0xFFFFFFFF
  else 0

/-- A word of the slot table is written: a slot it enables restarts (R238), and the computed fields follow. -/
def writeSlotWord (a v : Nat) (s : State) : State :=
  let k := (a - 0x58000000) / 64
  let mask := slotStateMask s a
  let s1 := wrw s a ((rdw s a &&& mask) ||| (v - (v &&& mask)))
  let s2 := if !slotOn s k && slotOn s1 k then setSlot k (fun x => { x with restartDue := true }) s1 else s1
  slotComputed s2

/-- A supervisor write of Reedbed RAM takes effect, or is blocked and counted (R239). -/
def reedbedWrite (addr word : Nat) (s : State) : State :=
  if ramOpen s addr then (if addr < 0x58001000 then writeSlotWord addr word s else wrw s addr word)
  else { s with lpe.wrBlock := (s.lpe.wrBlock + 1) % 65536 }

/-- REEDBED_RAM_WRITE (R239). -/
def execReedbedRamWrite (t addr word : Nat) (s : State) : Host.Outcome State Fault Refusal :=
  .next (reedbedWrite addr word (s.at t))

/-! ### Registers and commands (R250, R506) -/

/-- LPE_SLOTn_STAT. -/
def slotStatWord (s : State) (k : Nat) : Nat :=
  let x := slotOf s k
  let st := if !slotOn s k then 0 else if s.lpe.standby && slotMirror s k then 3 else if x.idle then 2 else 1
  packBits [(0, st), (2, min 3 (ovrRun s k)), (4, b2n x.clampHi), (5, b2n x.clampLo), (6, x.bank), (16, x.lat)]

/-- DENSITY of a lane, 2^-16 units. -/
def densityWord (s : State) (l : Nat) : Nat := (roundAway (laneDensity s l * 65536)).toNat

/-- One slot's part of the PWR_LOOP_READ response. -/
def slotReport (s : State) (k : Nat) : List Nat :=
  memBytes s.mem (slotAddr k) 64 ++ leBytes 4 (slotStatWord s k) ++ leBytes 4 (unsigned 32 (slotOf s k).out)
    ++ List.replicate 8 0 ++ ((slotSecs s k).map fun i => memBytes s.mem (secBase + 16 * i) 16).flatten

/-- PWR_LOOP_READ (R250, R506). -/
def execPwrLoopRead (t line seq : Nat) (s : State) : Host.Outcome State Fault Refusal :=
  .next (runCmd line seq 0x0505 neverIllegal (fun c s =>
    let first := c.param 8 1
    let n := c.param 9 1
    if 64 ≤ first then rejectRange c 8 s
    else if n = 0 || 64 < first + n then rejectRange c 9 s
    else doneOut c [] (((List.range n).map fun i => slotReport s (first + i)).flatten) s) (s.at t))

/-- PWR_LOOP_BUDGET (R250, R506). -/
def execPwrLoopBudget (t line seq : Nat) (s : State) : Host.Outcome State Fault Refusal :=
  .next (runCmd line seq 0x0506 neverIllegal (fun c s =>
    doneOut c [] (wordBytes ((List.range 4).map (densityWord s) ++ ((List.range 64).map fun k =>
      if slotOn s k then [slotCost s k, slotDeadline s k] else [0, 0]).flatten)) s) (s.at t))

end Sys2Proof.Machine
end

