-- ==== Sys2Proof/Machine/Lsw.lean ====
section
/-! DEFINITION. Load switches and the MXP chain (11): supply banks, thermal shutdown and restart, open load, the clamp
account, pulse generators and pickup, the chain's frames, and the commands of R295. -/

namespace Sys2Proof.Machine

/-! ### Errors of SUBSYS 5 (R293) -/

def errLswThermal : ErrSpec := ⟨5, 1, 1⟩
def errOpenLoad : ErrSpec := ⟨5, 2, 1⟩
def errClampLock : ErrSpec := ⟨5, 3, 1⟩
def errRetrySpent : ErrSpec := ⟨5, 4, 1⟩
def errCtrLost : ErrSpec := ⟨5, 5, 3⟩
def errBankUv : ErrSpec := ⟨5, 6, 2⟩
def errMxpCrc : ErrSpec := ⟨5, 7, 1⟩
def errMxpChain : ErrSpec := ⟨5, 8, 3⟩
def errMxpCoil : ErrSpec := ⟨5, 9, 2⟩

/-- The control die runs: errors are raised from M2 on. -/
def dieRuns (s : State) : Bool := 2 ≤ s.sys.mode.num

/-- An error of a block of the control die, raised only while that die runs. -/
def raiseRun (e : ErrSpec) (arg : Nat) (s : State) : State := if dieRuns s then raiseError e arg s else s

/-- The condition of an error of SUBSYS 5 still stands (R44): the contactor channel is off though commanded on, the bank
has not recovered, the chain still fails, the coil current is still missing. -/
def lswStands (s : State) (x : SafeItem) : Bool :=
  match x.code with
  | 5 => (lch s x.arg).cmd && !(lch s x.arg).on
  | 6 => get s.lsw.uv x.arg
  | 8 => decide (3 ≤ s.lsw.badRun)
  | 9 => get s.lsw.mOn x.arg && decide (3 ≤ get s.lsw.coilMiss x.arg)
  | _ => false

/-- The errors of SUBSYS 5 that hold SAFE_ERROR are looked at again (R44). -/
def sweepLsw (s : State) : State :=
  evalSafe { s with sys.safe := s.sys.safe.map fun (x : SafeItem) =>
                      if x.subsys == 5 && !lswStands s x then { x with cleared := true } else x }

/-! ### Channels -/

/-- LSW_CHn_CFG of a channel. -/
def lswCfg (s : State) (n : Nat) : Nat := rdw s (lswCfgAddr n)

/-- RETRY_N of a channel. -/
def retryN (s : State) (n : Nat) : Nat := bits (lswCfg s n) 11 4

/-- RETRY_INT of a channel, ns. -/
def retryInt (s : State) (n : Nat) : Nat := bits (lswCfg s n) 15 8 * 10000000

/-- CLAMP_CAP of a channel, pJ. -/
def clampCap (s : State) (n : Nat) : Nat := rdf s (lswCfgAddr n + 4) 0 11 * 1000000000

/-- CLAMP_LEAK of a channel, pJ per ns. -/
def clampLeak (s : State) (n : Nat) : Nat := rdf s (lswCfgAddr n + 4) 11 10

/-- The clamp account now, pJ (R280): it leaks continuously and never falls below 0. -/
def clampNow (s : State) (n : Nat) : Nat := (lch s n).clampAcc - clampLeak s n * (realNow s - (lch s n).clampAt)

/-- The fault bits of a channel changed: source 224 + n fires (R294). -/
def lswEvent (n : Nat) (s : State) : State := fireEvent (224 + n) s

/-- A contactor channel that was on has gone off without a command (R278). -/
def ctrLost (n : Nat) (wasOn : Bool) (s : State) : State :=
  if wasOn && lswCtr s n then raiseRun errCtrLost n s else s

/-- A channel returns to its commanded state (R273): a CTR channel through a new pickup. -/
def lswReturn (n : Nat) (s : State) : State :=
  if (lch s n).cmd && mayTurnOn s n && !(lch s n).on then turnOn n s else s

/-- A restart of R277 is due: the latch released, RETRY_INT passed since the shutdown, and an attempt left. -/
def retryDue (s : State) (n : Nat) : Bool :=
  match (lch s n).retryFrom with
  | none => false
  | some t => (lch s n).cmd && !(lch s n).thermal && !(lch s n).retrySpent && !(lch s n).clampLock
      && decide (t + retryInt s n ≤ realNow s) && decide ((lch s n).retries < retryN s n)

/-- The restart, counted as one attempt (R277); it waits while the channel's bank is down (R292). -/
def lswRestart (n : Nat) (s : State) : State :=
  if retryDue s n && get s.lsw.good (lswBank n) && !get s.lsw.uv (lswBank n) then
    lswReturn n (setCh n (fun c => { c with retryFrom := none, retries := c.retries + 1 }) s)
  else s

/-! ### Banks (R272, R273) -/

/-- The channels of a bank. -/
def bankChannels (b : Nat) : List Nat := (List.range 32).filter fun n => lswBank n == b

/-- The last VS bank has left its range (R39, R45, R53): GATE_EN falls, every contactor coil drops, and the keeper, without
its supply, is reset: the hold and the hold-through-reset channels end, and CONTACTOR_HOLD and HTR_LIMIT take their
defaults (R49); the pulse generators stop. Its inputs PFW_N and the freeze request stand as they are. -/
def keeperLost (s : State) : State :=
  let s1 := gateLow s
  { s1 with
    keeper := { pfwLow := s.keeper.pfwLow, freezeReq := s.keeper.freezeReq, hbCheck := s.keeper.hbCheck },
    lsw.mOn := Vector.replicate 64 false, lsw.mEco := Vector.replicate 64 false,
    lsw.coilMiss := Vector.replicate 64 0, lsw.pgenAt := Vector.replicate 8 none,
    pwm.pg := updAll s1.pwm.pg fun _ p => { p with mtxCmd := Vector.replicate 4 false } }

/-- BANK_UNDERVOLTAGE (R39, R273, R278): the bank's channels turn off, and LSW_BANK_UV and its limitation stand; the last
bank takes the keeper's supply with it. -/
def execBankUndervoltage (t bank : Nat) (s : State) : Host.Outcome State Fault Refusal :=
  let s := s.at t
  let on := (bankChannels bank).filter fun n => (lch s n).on
  let s1 := { s with lsw.good := upd s.lsw.good bank fun _ => false, lsw.uv := upd s.lsw.uv bank fun _ => true }
  let s2 := on.foldl (fun a n => turnOff n a) s1
  let s3 := if s2.lsw.good.toList.any id then s2 else keeperLost s2
  let s4 := raiseLim .supply (raiseRun errBankUv bank s3)
  .next (sweepLsw (on.foldl (fun a n => ctrLost n true a) s4))

/-- BANK_RECOVERY (R273, R292): above 17 V for 10 ms. Each channel returns to its commanded state; a restart due at the
same time is the one turn-on, and counts as the attempt. -/
def execBankRecovery (t bank : Nat) (s : State) : Host.Outcome State Fault Refusal :=
  let s := s.at t
  let s1 := { s with lsw.good := upd s.lsw.good bank fun _ => true, lsw.uv := upd s.lsw.uv bank fun _ => false }
  let s2 := (bankChannels bank).foldl (fun a n => if retryDue a n then lswRestart n a else lswReturn n a) s1
  .next (sweepLsw (setLim .supply (s2.lsw.uv.toList.any id) s2))

/-! ### Channel events (R274 to R280) -/

/-- LSW_COMMAND (R274): a command from the channel's owner; from any other source it has no effect. -/
def execLswCommand (t ch owner : Nat) (on : Bool) (s : State) : Host.Outcome State Fault Refusal :=
  let s := s.at t
  if 3 ≤ s.sys.mode.num && owner == lswOwner s ch then .next (sweepLsw (lswDrive ch on s)) else .next s

/-- LSW_CURRENT_LIMIT (R276): the channel regulates at its limit, or no longer does. -/
def execLswCurrentLimit (t ch : Nat) (limiting : Bool) (ma : Nat) (s : State) : Host.Outcome State Fault Refusal :=
  let s := s.at t
  let lim := limiting && (lch s ch).on
  let s1 := setCh ch (fun c => { c with limiting := lim, current := ma }) s
  .next (if lim != (lch s ch).limiting then lswEvent ch s1 else s1)

/-- LSW_THERMAL_SHUTDOWN (R276 to R278): off and latched; a restart is pending while attempts are left. -/
def execLswThermalShutdown (t ch : Nat) (s : State) : Host.Outcome State Fault Refusal :=
  let s := s.at t
  let c := lch s ch
  if lswMode s ch == 0 then .next s
  else
    let spent := decide (retryN s ch ≤ c.retries) && c.cmd
    let s1 := turnOff ch (setCh ch (fun x =>
      { x with thermal := true, retrySpent := x.retrySpent || spent,
                 retryFrom := if x.cmd then some (realNow s) else x.retryFrom }) s)
    let s2 := raiseRun errLswThermal ch (lswEvent ch s1)
    let s3 := if spent && !c.retrySpent then raiseRun errRetrySpent ch s2 else s2
    .next (sweepLsw (ctrLost ch c.on s3))

/-- LSW_THERMAL_RELEASE (R276, R277): below 150 °C. A restart that waited for the release follows at once, and so does a
channel that was commanded on while the latch stood. -/
def execLswThermalRelease (t ch : Nat) (s : State) : Host.Outcome State Fault Refusal :=
  let s := s.at t
  if (lch s ch).thermal then
    .next (sweepLsw (lswReturn ch (lswRestart ch (lswEvent ch (setCh ch (fun c => { c with thermal := false }) s)))))
  else .next s

/-- LSW_RETRY (R277). -/
def execLswRetry (t ch : Nat) (s : State) : Host.Outcome State Fault Refusal := .next (sweepLsw (lswRestart ch (s.at t)))

/-- LSW_RETRY_COUNT_RESET (R277): the channel has run 1 s without a shutdown. -/
def execLswRetryCountReset (t ch : Nat) (s : State) : Host.Outcome State Fault Refusal :=
  let s := s.at t
  .next (if (lch s ch).on then setCh ch (fun c => { c with retries := 0 }) s else s)

/-- The channel's open-load detection is on for its present state (R279, R285): a standby has none on an off channel. -/
def openLoadOn (s : State) (n : Nat) : Bool :=
  lswMode s n != 0 && (if (lch s n).on then bit (lswCfg s n) 10 else bit (lswCfg s n) 9 && s.sys.mode != .m7)

/-- LSW_OPEN_LOAD (R279): the finding sets OPEN_LOAD; the channel is not switched. -/
def execLswOpenLoad (t ch : Nat) (s : State) : Host.Outcome State Fault Refusal :=
  let s := s.at t
  if openLoadOn s ch && !(lch s ch).openLoad then
    .next (raiseRun errOpenLoad ch (lswEvent ch (setCh ch (fun c => { c with openLoad := true }) s)))
  else .next s

/-- LSW_OPEN_LOAD_CLEAR (R279): 100 ms without a finding. -/
def execLswOpenLoadClear (t ch : Nat) (s : State) : Host.Outcome State Fault Refusal :=
  let s := s.at t
  if (lch s ch).openLoad then .next (lswEvent ch (setCh ch (fun c => { c with openLoad := false }) s)) else .next s

/-- LSW_TURN_OFF_CLAMP (R280, R292): the energy, in 0.1 mJ, joins the account; above CLAMP_CAP the channel locks off, which
wins over a turn-on command. -/
def execLswTurnOffClamp (t ch energy : Nat) (s : State) : Host.Outcome State Fault Refusal :=
  let s := s.at t
  let acc := clampNow s ch + energy * 100000000
  let s1 := setCh ch (fun c => { c with clampAcc := acc, clampAt := realNow s }) s
  if clampCap s ch < acc && lswMode s ch != 0 && !(lch s ch).clampLock then
    let wasOn := (lch s ch).on
    let s2 := turnOff ch (setCh ch (fun c => { c with clampLock := true, retryFrom := none }) s1)
    .next (sweepLsw (ctrLost ch wasOn (raiseRun errClampLock ch (lswEvent ch s2))))
  else .next s1

/-! ### Pulse generators and pickup (R282, R284) -/

/-- PERIOD of a generator, counts of 125 ns. -/
def pgenPeriod (s : State) (p : Nat) : Nat := rdf s (baseLSW + 0x400 + 8 * p) 0 17

/-- The channels assigned to a generator, in ascending number (R283): those whose mode follows one, PULSE and CTR. DEDUCED
(safe): PGEN of an UNUSED or SWITCH channel assigns nothing (log entry 56). -/
def pgenChannels (s : State) (p : Nat) : List Nat :=
  (List.range 32).filter fun n => 2 ≤ lswMode s n && lswPgen s n == p

/-- The rank of a channel among those of its generator (R283). -/
def pgenRank (s : State) (n : Nat) : Nat := ((pgenChannels s (lswPgen s n)).filter (· < n)).length

/-- Where the on-phase of a channel starts, in sixteenths of the period after the period start (R283). -/
def onStart (s : State) (n : Nat) : Nat := 16 * pgenRank s n / (pgenChannels s (lswPgen s n)).length

/-- `x` ns after a period start a channel is within the on-phase that began `k` sixteenths after it and lasts
duty × period (R283): exact, in units of 2^-16 of 125/16 ns. -/
def inOnPhase (period duty k x : Nat) : Bool :=
  decide (125 * k * period ≤ 16 * x) && decide ((16 * x - 125 * k * period) * 65536 < 2000 * duty * period)

/-- The drive a generator gives a channel now (R283): its on-phase of this period, or that of the period before, which
wraps into this one. -/
def pgenDrive (s : State) (n : Nat) : Bool :=
  let p := lswPgen s n
  let per := pgenPeriod s p
  match get s.lsw.pgenAt p with
  | none => false
  | some t0 =>
    inOnPhase per (get s.lsw.duty p) (onStart s n) (realNow s - t0)
      || inOnPhase per (get s.lsw.dutyLast p) (onStart s n) (realNow s - t0 + 125 * per)

/-- The output LSWn conducts (R274, R283, R284): on, and, where it follows its generator, within its on-phase. -/
def lswPin (s : State) (n : Nat) : Bool :=
  (lch s n).on && s.dbg.ir != 3 && (lswMode s n == 1 || (lch s n).pickup || pgenDrive s n)

/-- PGEN_PERIOD_START (R282, R283): a new duty applies, and the channels' on-phases are counted from here. -/
def execPgenPeriodStart (t p : Nat) (s : State) : Host.Outcome State Fault Refusal :=
  let s := s.at t
  .next { s with
    lsw.dutyLast := upd s.lsw.dutyLast p fun _ => get s.lsw.duty p,
    lsw.duty := upd s.lsw.duty p fun _ => get s.lsw.dutyNext p,
    lsw.pgenAt := upd s.lsw.pgenAt p fun _ => some (realNow s) }

/-- PICKUP_END (R284): the channel follows its generator, and PGENp fires. -/
def execPickupEnd (t ch : Nat) (s : State) : Host.Outcome State Fault Refusal :=
  let s := s.at t
  if (lch s ch).pickup then
    .next (mirrorLoad s (fireEvent (256 + lswPgen s ch) (setCh ch (fun c => { c with pickup := false }) s)))
  else .next s

/-! ### The MXP chain (R288 to R291) -/

/-- MXP_CTRL.N_ST. -/
def nStations (s : State) : Nat := rdf s (baseLSW + 0x800) 0 4

/-- A readback word's CRC checks (R288). -/
def mxpWordOk (w : Nat) : Bool := crc8 [bits w 16 8, bits w 8 8] == bits w 0 8

/-- The stations of a frame with their readback words: the word of station N_ST − 1 comes first (R288); a word that did not
come is a bad one. -/
def frameWords (s : State) (words : List Nat) : List (Nat × Option Nat) :=
  (List.range (nStations s)).map fun st => (st, words[nStations s - 1 - st]?.filter mxpWordOk)

/-- A good readback word is taken (R290): coil and aux bits, and the count of missing coil currents. -/
def takeReadback (st w : Nat) (s : State) : State :=
  let mine := fun (k : Nat) => k / 8 == st
  { s with lsw.mCoil := updAll s.lsw.mCoil fun k b => if mine k then bit w (16 + k % 8) else b,
             lsw.mAux := updAll s.lsw.mAux fun k b => if mine k then bit w (8 + k % 8) else b,
             lsw.coilMiss := updAll s.lsw.coilMiss fun k c =>
             if mine k then (if get s.lsw.mOn k && !bit w (16 + k % 8) then min 4 (c + 1) else 0) else c }

/-- A bad readback word (R290): the station's last good readback stands. -/
def badReadback (st : Nat) (s : State) : State :=
  raiseRun errMxpCrc st (fireEvent (264 + st) { s with
                                                  lsw.crcSt := upd s.lsw.crcSt st fun _ => true,
                                                  lsw.crcCnt := (s.lsw.crcCnt + 1) % 65536,
                                                  lsw.stCnt := upd s.lsw.stCnt st fun c => (c + 1) % 65536 })

/-- The coils whose current has now been missing for three good frames (R290). -/
def coilFails (st : Nat) (before s : State) : State :=
  ((List.range 8).map fun c => 8 * st + c).foldl (fun a k =>
    if get s.lsw.coilMiss k == 3 && get before.lsw.coilMiss k != 3 then
      raiseRun errMxpCoil k (fireEvent (264 + st) a) else a) s

/-- The judged word of one station. -/
def judgeStation (active : Bool) (s : State) (x : Nat × Option Nat) : State :=
  match x.2 with
  | some w => let s1 := takeReadback x.1 w s
              if active then coilFails x.1 s s1 else s1
  | none => if active then badReadback x.1 s else s

/-- The aux bits become the readbacks of the matrix positions they belong to (R290). -/
def mtxReadbacks (s : State) : State :=
  (List.range 24).foldl (fun a i =>
    let k := mxpOf a (i / 4) (i % 4)
    if mtxPresent a (i / 4) (i % 4) && k < 8 * nStations a then mtxReadback (i / 4) (i % 4) (get a.lsw.mAux k) a else a) s

/-- The words of a frame are judged (R288 to R290): RUN and FRAMES of an active device, the event of changed aux bits, and
the readbacks of the matrix positions. -/
def judgeFrame (active : Bool) (words : List Nat) (s : State) : State :=
  let s1 := if active then { s with lsw.run := true, lsw.frames := (s.lsw.frames + 1) % 65536 }
    else { s with lsw.run := false }
  let s2 := (frameWords s words).foldl (judgeStation active) s1
  mtxReadbacks (if s2.lsw.mAux != s.lsw.mAux then fireEvent 273 s2 else s2)

/-- The command word of a station (R288): its ON bits, its ECO bits, and their CRC-8. -/
def mxpCommand (s : State) (st : Nat) : Nat :=
  let on := maskOf ((s.lsw.mOn.toList.drop (8 * st)).take 8)
  let eco := maskOf ((s.lsw.mEco.toList.drop (8 * st)).take 8)
  on * 65536 + eco * 256 + crc8 [on, eco]

/-- The frame of command words that the device shifts out, the word of station N_ST - 1 first (R288). -/
def sendMxp (s : State) : State :=
  emit s .mxpWords 0 ((List.range (nStations s)).reverse.map fun st => ((mxpCommand s st : Nat) : Int))

/-- The run of bad frames (R290): any bad word continues it, and the third in a row raises the chain error. -/
def countBadFrame (s : State) : State :=
  let s1 := { s with lsw.badRun := min 3 (s.lsw.badRun + 1) }
  if s.lsw.badRun == 2 then raiseRun errMxpChain 0 (fireEvent 272 s1) else s1

/-- MXP_FRAME (R288 to R291): the device sends a frame and judges the readback; a standby sends none and only listens. -/
def execMxpFrame (t : Nat) (words : List Nat) (s : State) : Host.Outcome State Fault Refusal :=
  let s := s.at t
  if s.sys.mode.num < 3 || nStations s == 0 || s.dbg.ir == 3 then .next s
  else if s.sys.mode == .m7 then .next (judgeFrame false words s)
  else
    let s1 := judgeFrame true words (sendMxp s)
    if (frameWords s words).all fun x => x.2.isSome then .next (sweepLsw { s1 with lsw.badRun := 0 })
    else .next (sweepLsw (countBadFrame s1))

/-- MXP_PICKUP_END (R289): ECO is set. -/
def execMxpPickupEnd (t ch : Nat) (s : State) : Host.Outcome State Fault Refusal :=
  let s := s.at t
  if get s.lsw.mOn ch then .next (mirrorLoad s { s with lsw.mEco := upd s.lsw.mEco ch fun _ => true }) else .next s

/-! ### Registers and commands (R295, R507) -/

/-- LSW_CHn_STAT. -/
def lswStatWord (s : State) (n : Nat) : Nat :=
  let c := lch s n
  packBits [(0, b2n c.cmd), (1, b2n c.on), (2, b2n c.pickup), (3, b2n c.limiting), (4, b2n c.thermal), (5, b2n c.openLoad),
    (6, b2n c.clampLock), (7, b2n c.retrySpent), (8, c.retries % 16)]

/-- LSW_CHn_MEAS. -/
def lswMeasWord (s : State) (n : Nat) : Nat :=
  packBits [(0, (lch s n).current % 16384), (14, min (clampNow s n / 100000000) 262143)]

/-- LSW_BANK. -/
def lswBankWord (s : State) : Nat := maskOf s.lsw.good.toList

/-- MXP_CTRL. -/
def mxpCtrlWord (s : State) : Nat :=
  let w := rdw s (baseLSW + 0x800)
  packBits [(0, bits w 0 4), (4, b2n s.lsw.run), (5, bits w 5 9), (16, s.lsw.frames)]

/-- Half `k` of a 64-bit mask. -/
def half64 (v : Vector Bool 64) (k : Nat) : Nat := maskOf ((v.toList.drop (32 * k)).take 32)

/-- MXP_ERR. -/
def mxpErrWord (s : State) : Nat := packBits [(0, maskOf s.lsw.crcSt.toList), (8, s.lsw.badRun), (16, s.lsw.crcCnt)]

/-- LSW_STATUS (R295, R507). -/
def execLswStatus (t line seq : Nat) (s : State) : Host.Outcome State Fault Refusal :=
  .next (runCmd line seq 0x0701 neverIllegal (fun c s =>
    doneOut c [] (((lswBankWord s :: ((List.range 32).map fun n => [lswStatWord s n, lswMeasWord s n]).flatten).map
      (leBytes 4)).flatten) s) (s.at t))

/-- A MASK bit names a channel the host does not own (R274, R507). -/
def lswSetIllegal (c : Cmd) (s : State) : Bool :=
  (List.range 32).any fun n => bit (c.param 8 4) n && lswOwner s n != 0

/-- LSW_SET (R274, R295, R507). -/
def execLswSet (t line seq : Nat) (s : State) : Host.Outcome State Fault Refusal :=
  .next (runCmd line seq 0x0702 lswSetIllegal (fun c s =>
    let s1 := (List.range 32).foldl (fun a n => if bit (c.param 8 4) n then lswDrive n (bit (c.param 12 4) n) a else a) s
    done c (leBytes 4 (maskOf (s1.lsw.ch.toList.map (·.on)))) (sweepLsw s1)) (s.at t))

/-- LSW_CLEAR of a clamp lock before the account has leaked below CLAMP_CAP / 2 (R280). -/
def lswClearIllegal (c : Cmd) (s : State) : Bool :=
  c.param 9 1 == 1 && c.param 8 1 < 32 && clampCap s (c.param 8 1) ≤ 2 * clampNow s (c.param 8 1)

/-- LSW_CLEAR (R277, R280, R295, R507): the channel then follows its command again; spent attempts return to 0. -/
def execLswClear (t line seq : Nat) (s : State) : Host.Outcome State Fault Refusal :=
  .next (runCmd line seq 0x0703 lswClearIllegal (fun c s =>
    let n := c.param 8 1
    let w := c.param 9 1
    let o := lch s n
    if 32 ≤ n then rejectRange c 8 s
    else if w = 1 then
      done c [] (sweepLsw (if o.clampLock then
        lswReturn n (lswEvent n (setCh n (fun x => { x with clampLock := false }) s)) else s))
    else if w = 2 then
      done c [] (sweepLsw (if o.retrySpent then
        lswReturn n (lswEvent n (setCh n (fun x =>
          { x with retrySpent := false, retries := 0, retryFrom := if x.thermal then x.retryFrom else none }) s)) else s))
    else rejectRange c 9 s) (s.at t))

/-- MXP_STATUS (R295, R507). -/
def execMxpStatus (t line seq : Nat) (s : State) : Host.Outcome State Fault Refusal :=
  .next (runCmd line seq 0x0704 neverIllegal (fun c s =>
    doneOut c [] ((([mxpCtrlWord s, half64 s.lsw.mOn 0, half64 s.lsw.mOn 1, half64 s.lsw.mCoil 0, half64 s.lsw.mCoil 1,
        half64 s.lsw.mAux 0, half64 s.lsw.mAux 1, mxpErrWord s].map (leBytes 4)).flatten)
      ++ (s.lsw.stCnt.toList.map (leBytes 2)).flatten) s) (s.at t))

end Sys2Proof.Machine
end

