-- ==== Sys2Proof/Machine/Mtr.lean ====
section
/-! DEFINITION. Metering (14): DC samples and AC cycles into the accumulators, events, harmonics, the latch tick, test
pulses, calibration, and the commands of R363; and the supervisor's prepayment at each tick (R397). -/

namespace Sys2Proof.Machine

/-! ### Errors of SUBSYS 8 (R361, R404) -/

def errOverrange : ErrSpec := ⟨8, 1, 1⟩
def errFreqLost : ErrSpec := ⟨8, 2, 1⟩
def errDcFault : ErrSpec := ⟨8, 3, 3⟩
def errAcFault : ErrSpec := ⟨8, 4, 1⟩
def errSaveFallback : ErrSpec := ⟨8, 5, 1⟩
def errSenseBad : ErrSpec := ⟨8, 6, 1⟩
def errEvqOvf : ErrSpec := ⟨8, 7, 1⟩
def errLglLost : ErrSpec := ⟨8, 0x18, 3⟩

/-- DC channel `n`. -/
def mdc (s : State) (n : Nat) : MtrDc := get s.mtr.dc n

/-- DC channel `n` changed. -/
def setMdc (n : Nat) (f : MtrDc → MtrDc) (s : State) : State := { s with mtr.dc := upd s.mtr.dc n f }

/-- AC set `k`. -/
def mac (s : State) (k : Nat) : MtrAc := get s.mtr.ac k

/-- AC set `k` changed. -/
def setMac (k : Nat) (f : MtrAc → MtrAc) (s : State) : State := { s with mtr.ac := upd s.mtr.ac k f }

/-- DC channel `n` is in use. -/
def dcOn (s : State) (n : Nat) : Bool := rdb s baseMTR (12 + n)

/-- AC set `k` is in use. -/
def acOn (s : State) (k : Nat) : Bool := rdb s baseMTR (16 + k)

/-- The metering chains run: not without rails, and not in M11 (R356). -/
def mtrRuns (s : State) : Bool := s.sys.mode != .m0 && s.sys.mode != .m11

/-- The legal core pair runs: started up, in no restart, and its heartbeat has not stopped (R368 to R370). -/
def pairRuns (s : State) : Bool := s.lgl.startup && !s.lgl.restarting && !s.lgl.stalled

/-- The legal partition is declared lost (R370, R44). -/
def loseLegal (s : State) : State :=
  if s.lgl.lost then s else setCause .legalLost (raiseError errLglLost 0 (legalUpdate { s with lgl.lost := true }))

/-- The supervisor raises what the pair has published (R370, R404). -/
def flushLgl (s : State) : State :=
  if s.sys.mode.num < 2 then s
  else
    s.lgl.errs.foldl (fun a (e : Nat × Nat × Nat) =>
      let b := raiseError ⟨8, e.1, e.2.1⟩ e.2.2 a
      if e.1 == 0x13 then loseLegal b else b) { s with lgl.errs := [] }

/-! ### Accumulators (R341, R353) -/

/-- An exact amount in fine units joins accumulator `a`; what is below one unit is carried (R341). -/
def addAcc (a : Nat) (x : Rat) (s : State) : State :=
  let r := get s.mtr.rem a + x
  { s with mtr.wide := upd s.mtr.wide a fun w => w + r.floor.toNat, mtr.rem := upd s.mtr.rem a fun _ => r - r.floor }

/-- Energy in µWh of a power in µW over a time in ns. -/
def energyOf (p : Rat) (ns : Nat) : Rat := p * ns / 3600000000000

/-! ### Test pulses (R359) -/

/-- The accumulator and the constant an output follows: set by MTR_TP_SET, else by configuration. -/
def tpSource (s : State) (k : Nat) : Nat × Nat :=
  let w := rdw s (baseMTR + 0x400 + 4 * k)
  let c := ((get s.mtr.tp k).srcSet).getD (bits w 17 3, bits w 0 17)
  ((if k < 4 then 6 * k + c.1 else 24 + 8 * (k - 4) + c.1), c.2)

/-- Length of a pulse due `dt` ns after the one before, µs. -/
def pulseWidth (dt : Nat) : Nat := if dt < 40000000 then max 250 (dt / 2000) else 20000

/-- A test pulse output changed. -/
def setTp (k : Nat) (f : TestPulse → TestPulse) (s : State) : State := { s with mtr.tp := upd s.mtr.tp k f }

/-- A pulse goes out. -/
def startPulse (k us : Nat) (s : State) : State :=
  emit (setTp k (fun p => { p with high := true, width := us }) s) .testPulse k [1, us]

/-- A pulse falls due: it goes out, or waits, or is lost from the output. -/
def pulseDue (k : Nat) (s : State) : State :=
  let p := get s.mtr.tp k
  let us := match p.prevDue with
    | some t => pulseWidth (s.now - t)
    | none => 20000
  let s1 := setTp k (fun q => { q with prevDue := some s.now }) s
  if !p.high && !p.gap then startPulse k us s1
  else if p.backlog.length < 65535 then setTp k (fun q => { q with backlog := q.backlog ++ [us] }) s1
  else setTp k (fun q => { q with ovf := true }) s1

/-- An output follows its accumulator: a pulse for each increment of floor(wide × CONST / 10^9); a new source or constant
starts from where it stands. -/
def tpFollow (k : Nat) (s : State) : State :=
  let c := tpSource s k
  let due := wideAcc s c.1 * c.2 / 1000000000
  let p := get s.mtr.tp k
  let on := rdb s (baseMTR + 0x400 + 4 * k) 20 || p.srcSet.isSome
  let s1 := setTp k (fun q => { q with due := due, key := c }) s
  if on && p.key == c then
    (let s2 := (List.range (due - p.due)).foldl (fun a _ => pulseDue k a) s1
     if p.due < due then takeNeutral [0x181] s2 else s2)
  else s1

/-- TEST_PULSE_END (R359): the output goes low, for at least 0.25 ms. -/
def execTestPulseEnd (t k : Nat) (s : State) : Host.Outcome State Fault Refusal :=
  let s := s.at t
  .next (if (get s.mtr.tp k).high then
    emit (setTp k (fun p => { p with high := false, gap := true }) s) .testPulse k [0]
  else s)

/-- TEST_PULSE_GAP_END (R359): the next pulse of the backlog goes out. -/
def execTestPulseGapEnd (t k : Nat) (s : State) : Host.Outcome State Fault Refusal :=
  let s := s.at t
  let p := get s.mtr.tp k
  .next (if p.gap then
    let s1 := setTp k (fun q => { q with gap := false, backlog := q.backlog.drop 1 }) s
    match p.backlog with
    | us :: _ => startPulse k us s1
    | [] => s1
  else s)

/-! ### DC channels (R338 to R343, R349) -/

/-- A raw value through its calibration (R349): full scale `fs`, `dt` in K from 25 °C. -/
def CalPar.apply (c : CalPar) (fs dt x : Rat) : Rat :=
  (x - (c.ofs : Rat) * fs / 2147483648) * ((c.gain : Rat) / 1073741824)
    * (1 + (c.tc1 : Rat) * dt / 1099511627776 + (c.tc2 : Rat) * dt * dt / 281474976710656)

/-- FS1 of a channel, mA. -/
def fs1Of (s : State) (n : Nat) : Nat :=
  100 * param s (match n with
    | 0 => pFS1_0
    | 1 => pFS1_1
    | 2 => pFS1_2
    | _ => pFS1_3) 0

/-- Full scale of a channel's voltage inputs, mV (log entry 8). -/
def fsvOf (s : State) (n : Nat) : Nat :=
  param s (match n with
    | 0 => pFSV_0
    | 1 => pFSV_1
    | 2 => pFSV_2
    | _ => pFSV_3) 0

/-- Address of MTR_DCn_CFG. -/
def dcAddr (n : Nat) : Nat := baseMTR + 0x100 + 0x20 * n

/-- The weight after a sample, in steps of 1/FADE_N (R339). -/
def fadeStep (s : State) (n : Nat) (i1 : Rat) (over16 : Bool) (w : Nat) : Nat :=
  let fade := max 1 (rdf s (dcAddr n + 4) 0 8)
  let up : Rat := (rdf s (dcAddr n) 0 16 * 100 : Nat)
  let dn : Rat := (rdf s (dcAddr n) 16 16 * 100 : Nat)
  if over16 then fade else if up ≤ |i1| then min fade (w + 1) else if |i1| ≤ dn then w - 1 else min fade w

/-- Magnitude at 98 % of full scale or beyond (R338). -/
def atScale (x fs : Rat) : Bool := decide (0 < fs) && decide (98 * fs ≤ 100 * |x|)

/-- Inlet power and its source (R342). -/
def inletOf (s : State) (n : Nat) (v vs i : Rat) : Rat × Nat :=
  let o := get s.cbl.op n
  if rdb s (dcAddr n + 4) 16 && !(mdc s n).senseBad then (vs * i, 1)
  else if o.auth then (v * i - i * i * ((o.rC : Nat) : Rat) / 1000000, 2)
  else (0, 0)

/-- Energy and charge of one sample join their registers by the sign of the power (R341). -/
def addSample (n : Nat) (p i : Rat) (inl : Rat × Nat) (s : State) : State :=
  let e := fun (x : Rat) => |x| / 180000000
  let s1 := if 0 < p then addAcc (6 * n + 2) (|i| / 180000) (addAcc (6 * n) (e p) s)
    else if p < 0 then addAcc (6 * n + 3) (|i| / 180000) (addAcc (6 * n + 1) (e p) s)
    else s
  if inl.2 == 0 then s1
  else if 0 < inl.1 then addAcc (6 * n + 4) (e inl.1) s1
  else if inl.1 < 0 then addAcc (6 * n + 5) (e inl.1) s1
  else s1

/-- A raw input of channel `n` through its calibration `k`: 0 V, 1 V_s, 2 the ×1 path, 3 the ×16 path (R349). -/
def dcCal (s : State) (n k : Nat) (tdie raw : Int) : Rat :=
  let fs : Rat := if k < 2 then (fsvOf s n : Nat) else if k = 2 then (fs1Of s n : Nat) else (fs1Of s n : Rat) / 16
  (get s.mtr.cal (4 * n + k)).apply fs ((tdie : Rat) / 1000 - 25) raw

/-- The current of a sample, from the two paths by the weight (R339). -/
def dcAmps (s : State) (n w : Nat) (c1 c16 : Rat) : Rat :=
  let wr : Rat := (w : Rat) / (max 1 (rdf s (dcAddr n + 4) 0 8) : Nat)
  wr * c1 + (1 - wr) * c16

/-- The sense's test at a sample (R343): whether it lies beyond 2 % of V from V − I × R_c; with the cable not authenticated R_c
is 0, and the test is made below 10 A alone. -/
def senseTest (s : State) (n : Nat) (v vs i : Rat) : Option Bool :=
  let o := get s.cbl.op n
  let beyond := fun (rc : Rat) => decide (2 * |v| < 100 * |vs - (v - i * rc / 1000000)|)
  if o.auth then some (beyond ((o.rC : Nat) : Rat)) else if |i| < 10000 then some (beyond 0) else none

/-- One sample of channel `n`, its four inputs calibrated, joins the channel's sums (R338, R339, R351): voltage, current,
power and inlet power, the weight, and what R340, R351 and R361 watch. -/
def dcSum (n : Nat) (cv cvs c1 c16 : Rat) (ovV ov1 ov16 : Bool) (s : State) : State :=
  let fs1 : Rat := (fs1Of s n : Nat)
  let over1 := ov1 || atScale c1 fs1
  let over16 := ov16 || atScale c16 (fs1 / 16)
  let overV := ovV || atScale cv (fsvOf s n : Nat)
  let c := mdc s n
  let w := fadeStep s n c1 over16 c.w
  let i := dcAmps s n w c1 c16
  let inl := inletOf s n cv cvs i
  let low := decide (|i| < ((rdf s (dcAddr n + 4) 8 8 * 10 : Nat) : Rat))
  let lowSince := if low then c.lowSince.or (some s.now) else none
  let inWindow := decide (((rdf s (dcAddr n) 16 16 * 100 : Nat) : Rat) ≤ |c1|) && decide (|c1| ≤ ((rdf s (dcAddr n) 0 16 * 100 : Nat) : Rat))
  let differ := decide (5 * (fs1 / 16 + |c1|) < 1000 * |c1 - c16|)
  let sense := senseTest s n cv cvs i
  setMdc n (fun x =>
    { x with w := w, ovr1 := over1, ovr16 := over16, inlet := inl.2, lowSince := lowSince,
               creep := lowSince.any fun x => decide (x + 100000000 ≤ s.now),
               senseOut := if sense == some true then c.senseOut.or (some s.now) else none,
               senseIn := if sense == some false then c.senseIn.or (some s.now) else none,
               crossSince := if inWindow then (if differ then c.crossSince.or (some s.now) else none) else c.crossSince,
               ovrSince := if over1 || overV then c.ovrSince.or (some s.now) else none,
               pk := max x.pk (|cv * i| / 1000000).ceil.toNat,
               sumN := x.sumN + 1, sumV := x.sumV + cv, sumI := x.sumI + i, sumP := x.sumP + cv * i, sumPin := x.sumPin + inl.1 }) s

/-- One sample of channel `n` (R341, R342): its sums, its energy and charge unless it creeps, and the test pulses. -/
def dcTake (n : Nat) (cv cvs c1 c16 : Rat) (ovV ov1 ov16 : Bool) (s : State) : State :=
  let s1 := dcSum n cv cvs c1 c16 ovV ov1 ov16 s
  let i := dcAmps s n (mdc s1 n).w c1 c16
  tpFollow n (if (mdc s1 n).creep then s1 else addSample n (cv * i) i (inletOf s n cv cvs i) s1)

/-- DC_METER_SAMPLE (R338, R339, R341, R342, R349, R351): one instant of channel `n`: raw voltages in mV, raw path currents in
mA, the die temperature in m°C, and which modulators report overload. -/
def execDcMeterSample (t n : Nat) (v vs i1 i16 tdie : Int) (ovV ov1 ov16 : Bool) (s : State) :
    Host.Outcome State Fault Refusal :=
  let s := s.at t
  if !dcOn s n || !mtrRuns s then .next s
  else .next (dcTake n (dcCal s n 0 tdie v) (dcCal s n 1 tdie vs) (dcCal s n 2 tdie i1) (dcCal s n 3 tdie i16) ovV ov1 ov16 s)

/-- SENSE_INVALID (R343): beyond 2 % of V for 1 s. -/
def execSenseInvalid (t n : Nat) (s : State) : Host.Outcome State Fault Refusal :=
  let s := s.at t
  let due := (mdc s n).senseOut.any fun x => decide (x + 1000000000 ≤ s.now)
  .next (if rdb s (dcAddr n + 4) 16 && !(mdc s n).senseBad && due then
    raiseError errSenseBad n (fireEvent 380 (setMdc n (fun c => { c with senseBad := true }) s))
  else s)

/-- SENSE_VALID (R343): 10 s within the bound. -/
def execSenseValid (t n : Nat) (s : State) : Host.Outcome State Fault Refusal :=
  let s := s.at t
  .next (if (mdc s n).senseIn.any fun x => decide (x + 10000000000 ≤ s.now) then
    setMdc n (fun c => { c with senseBad := false }) s
  else s)

/-- MTR_OVERRANGE (R361): the ×1 path or a voltage overloaded for 10 ms; channels 4 and 5 are the AC sets. -/
def execMtrOverrange (t ch : Nat) (s : State) : Host.Outcome State Fault Refusal :=
  let s := s.at t
  let due := 4 ≤ ch || (mdc s ch).ovrSince.any fun x => decide (x + 10000000 ≤ s.now)
  .next (if due then raiseError errOverrange ch (fireEvent 374 s) else s)

/-- A DC channel fails (R351): class 3, and legal-ready is withheld. -/
def dcFails (n : Nat) (s : State) : State :=
  if (mdc s n).fault then s
  else
    let s1 := legalUpdate (setMdc n (fun c => { c with fault := true }) s)
    raiseError errDcFault n (fireEvent 375 (if pairRuns s1 then lglEvent 0xB [n] s1 else s1))

/-- An AC channel fails (R351). -/
def acFails (k : Nat) (s : State) : State :=
  if (mac s k).fault then s
  else
    let s1 := legalUpdate (setMac k (fun c => { c with fault := true }) s)
    raiseError errAcFault k (fireEvent 375 (if pairRuns s1 then lglEvent 0xB [4 + k] s1 else s1))

/-- METER_CROSSCHECK_FAIL (R351): the two paths differ for 1 s. -/
def execMeterCrosscheckFail (t n : Nat) (s : State) : Host.Outcome State Fault Refusal :=
  let s := s.at t
  .next (if (mdc s n).crossSince.any fun x => decide (x + 1000000000 ≤ s.now) then flushLgl (dcFails n s) else s)

/-- The channels in use at a self-test, each good or failed (R351). -/
def selftestStep (dc ac : List Bool) (s : State) : State :=
  let s1 := (List.range 4).foldl (fun a n =>
    if !dcOn a n then a
    else if dc.getD n true then errCleared 8 3 n (setMdc n (fun c => { c with fault := false, crossSince := none }) a)
    else dcFails n a) s
  (List.range 2).foldl (fun a k =>
    if !acOn a k then a
    else if ac.getD k true then setMac k (fun c => { c with fault := false }) a
    else acFails k a) s1

/-- METER_SELFTEST (R351): which channels have read their reference within ±0.5 %. -/
def execMeterSelftest (t : Nat) (dc ac : List Bool) (s : State) : Host.Outcome State Fault Refusal :=
  let s := s.at t
  let ok := ((List.range 4).all fun n => !dcOn s n || dc.getD n true) && (List.range 2).all fun k => !acOn s k || ac.getD k true
  .next (flushLgl (legalUpdate { selftestStep dc ac s with mtr.selftestOk := ok }))

/-! ### AC sets (R344 to R348) -/

/-- Sum of the products of two sample lists. -/
def dotSum (a b : List Int) : Int := (List.zipWith (· * ·) a b).foldl (· + ·) 0

/-- Mean of a sum over `n` samples. -/
def meanOf (x : Int) (n : Nat) : Rat := if n = 0 then 0 else (x : Rat) / n

/-- The calibration factor of an AC channel at a temperature: AC channels have no offset (R349). -/
def acGain (s : State) (k c : Nat) (dt : Rat) : Rat := (get s.mtr.cal (16 + 7 * k + c)).apply 0 dt 1

/-- Square root, rounded down. -/
def sqrtFloor (x : Rat) : Nat := Nat.sqrt x.floor.toNat

/-- The sync set's frequency is lost: the ticks go on from a timer (R352). -/
def loseSync (s : State) : State :=
  if s.mtr.syncOk then
    raiseError errFreqLost 0 (fireEvent 379 { s with mtr.syncOk := false, mtr.goodCyc := 0 })
  else { s with mtr.goodCyc := 0 }

/-- The sync set's cycles (R352): ten good ones in a row bring the ticks back to the zero crossings, and the cycles from then on
are counted. -/
def syncCycle (k : Nat) (good : Bool) (s : State) : State :=
  if rdf s baseMTR 9 2 != k then s
  else if !good then loseSync s
  else
    let c := min 10 (s.mtr.goodCyc + 1)
    { s with mtr.goodCyc := c, mtr.syncOk := s.mtr.syncOk || c == 10, mtr.cycN := if s.mtr.syncOk then s.mtr.cycN + 1 else 0 }

/-- The cycles a frequency is taken over. -/
def acPeriods (s : State) (k period : Nat) (valid : Bool) : List Nat :=
  if valid then (period :: (mac s k).periods).take (if rdb s baseMTR 8 then 12 else 10) else []

/-- Frequency of a run of periods in ns, mHz; 0 where it is invalid (R344). -/
def acFreq (per : List Nat) : Nat :=
  let tot := per.foldl (· + ·) 0
  if tot = 0 then 0 else per.length * 1000000000000 / tot

/-- The frequency lies in the range of R344. -/
def freqGood (f : Nat) : Bool := decide (42500 ≤ f) && decide (f ≤ 69000)

/-- What a cycle adds to its interval and its energy registers: active, reactive and apparent power, µW (R345). -/
def acEnergy (k period : Nat) (p q sv : Rat) (s : State) : State :=
  let quad := if 0 ≤ p then (if 0 ≤ q then 0 else 3) else (if 0 ≤ q then 1 else 2)
  let base := 24 + 8 * k
  let s1 := addAcc (base + if 0 ≤ p then 0 else 1) (energyOf |p| period) s
  let s2 := addAcc (base + 2 + quad) (energyOf |q| period) s1
  addAcc (base + if 0 ≤ p then 6 else 7) (energyOf sv period) s2

/-- The values of a cycle (R344, R345): active, reactive and apparent power, and the mean squares of voltages and currents. -/
def acValues (s : State) (k : Nat) (v vq i : List (List Int)) (tdie : Int) : Rat × Rat × Rat × List Rat × List Rat :=
  let dt : Rat := (tdie : Rat) / 1000 - 25
  let g := fun c => acGain s k c dt
  let n := (v.getD 0 []).length
  let at' := fun (l : List (List Int)) (j : Nat) => l.getD j []
  let phases := [0, 1, 2]
  let p := (phases.map fun j => g j * g (3 + j) * meanOf (dotSum (at' v j) (at' i j)) n).foldl (· + ·) 0
  let q := (phases.map fun j => g j * g (3 + j) * meanOf (dotSum (at' vq j) (at' i j)) n).foldl (· + ·) 0
  let u2 := phases.map fun j => g j * g j * meanOf (dotSum (at' v j) (at' v j)) n
  let i2 := [0, 1, 2, 3].map fun j => g (3 + j) * g (3 + j) * meanOf (dotSum (at' i j) (at' i j)) n
  let sv : Rat := ((phases.map fun j => sqrtFloor (u2.getD j 0 * i2.getD j 0)).foldl (· + ·) 0 : Nat)
  (p, q, sv, u2, i2)

/-- AC_CYCLE (R344, R345): a mains cycle of set `k`: its period in ns, whether its frequency is valid, and its samples: the
phase voltages in mV, the same delayed by a quarter period, the phase and neutral currents in mA. -/
def execAcCycle (t k period : Nat) (valid : Bool) (v vq i : List (List Int)) (tdie : Int) (s : State) :
    Host.Outcome State Fault Refusal :=
  let s := s.at t
  if !acOn s k || !mtrRuns s then .next s
  else
    let per := acPeriods s k period valid
    let x := acValues s k v vq i tdie
    .next (tpFollow (4 + k) (acEnergy k period x.1 x.2.1 x.2.2.1 (syncCycle k (freqGood (acFreq per)) (setMac k (fun c =>
      { c with periods := per, freq := acFreq per, freqOk := freqGood (acFreq per), cyc := c.cyc ++ [x] }) s))))

/-- A finished event joins the set's queue (R347). -/
def writeAcEvent (k : Nat) (e : AcEvent) (s : State) : State :=
  if 16 ≤ (mac s k).evq.length then
    raiseError errEvqOvf k (setMac k (fun c => { c with evqOvf := true }) s)
  else
    fireEvent (372 + k) (setMac k (fun c => { c with evq := c.evq ++ [{ e with seq := c.nextSeq }], nextSeq := c.nextSeq + 1 }) s)

/-- Phases that a test holds for, as a mask. -/
def phaseMask (f : Nat → Bool) : Nat := maskOf ((List.range 3).map f)

/-- A sag or interruption at a refresh (R347): thresholds in mV × 100. -/
def sagStep (k din sag int hyst : Nat) (u : List Nat) (s : State) : State :=
  let at' := fun j => 100 * u.getD j 0
  let below := phaseMask fun j => decide (at' j < sag * din)
  let lo := u.foldl min (u.headD 0)
  let allInt := (List.range 3).all fun j => decide (at' j < int * din)
  let flost := !(mac s k).freqOk
  match (mac s k).sag with
  | none =>
    if below = 0 then s
    else fireEvent (370 + k) (setMac k (fun c => { c with sag := some
                                                            { typ := if allInt then 3 else 1, phases := below, freqLost := flost, start := devTime s, extreme := lo, lastAt := devTime s } }) s)
  | some e =>
    let e1 : AcEvent := { e with phases := e.phases ||| below, extreme := min e.extreme lo, freqLost := e.freqLost || flost,
                                   typ := if allInt then 3 else e.typ, lastAt := devTime s }
    if (List.range 3).all fun j => decide ((sag + hyst) * din ≤ at' j) then
      writeAcEvent k { e1 with duration := (devTime s - e.start) / 1000 } (setMac k (fun c => { c with sag := none }) s)
    else setMac k (fun c => { c with sag := some e1 }) s

/-- A swell at a refresh (R347). -/
def swellStep (k din swell hyst : Nat) (u : List Nat) (s : State) : State :=
  let at' := fun j => 100 * u.getD j 0
  let above := phaseMask fun j => decide (swell * din < at' j)
  let hi := u.foldl max 0
  let flost := !(mac s k).freqOk
  match (mac s k).swell with
  | none =>
    if above = 0 then s
    else fireEvent (370 + k) (setMac k (fun c => { c with swell := some
                                                            { typ := 2, phases := above, freqLost := flost, start := devTime s, extreme := hi, lastAt := devTime s } }) s)
  | some e =>
    let e1 : AcEvent := { e with phases := e.phases ||| above, extreme := max e.extreme hi, freqLost := e.freqLost || flost,
                                   lastAt := devTime s }
    if (List.range 3).all fun j => decide (at' j ≤ (swell - hyst) * din) then
      writeAcEvent k { e1 with duration := (devTime s - e.start) / 1000 } (setMac k (fun c => { c with swell := none }) s)
    else setMac k (fun c => { c with swell := some e1 }) s

/-- The refresh of a set against its thresholds (R347). -/
def acRefresh (k : Nat) (u : List Nat) (s : State) : State :=
  let w := rdw s (baseMTR + 0x200 + 0x40 * k)
  let din := bits w 0 16 * 100
  let sag := bits w 16 7
  let hyst := bits w 27 4
  let swell := rdf s (baseMTR + 0x204 + 0x40 * k) 0 8
  let beyond := phaseMask fun j => decide (100 * u.getD j 0 < sag * din) || decide (swell * din < 100 * u.getD j 0)
  swellStep k din swell hyst u (sagStep k din sag (bits w 23 4) hyst u (setMac k (fun c => { c with phases := beyond }) s))

/-- AC_HALF_CYCLE (R347): U_r of the three phases, mV, at a half-cycle refresh. -/
def execAcHalfCycle (t k : Nat) (u : List Nat) (s : State) : Host.Outcome State Fault Refusal :=
  let s := s.at t
  if !acOn s k || !mtrRuns s then .next s else .next (acRefresh k u (takeNeutral [0x81] s))

/-- THD of a channel's groups, 0.01 % (R346), and the state after it: with G_1 at 0 no ratio is stated, and the value is
free. -/
def thdOf (g : List Nat) (s : State) : Nat × State :=
  let q := ((g.drop 1).map fun x => x * x).foldl (· + ·) 0
  let g1 := g.headD 0
  if g1 = 0 then drawFree s else (Nat.sqrt (q * 100000000 / (g1 * g1)), s)

/-- The groups of every channel with their THD. -/
def harmAll : List (List Nat) → State → List (List Nat × Nat) × State
  | [], s => ([], s)
  | g :: r, s =>
    let a := thdOf g s
    let b := harmAll r a.2
    ((g, a.1) :: b.1, b.2)

/-- HARMONIC_WINDOW (R346): the groups G_1 to G_63 of U1 to U3 and I1 to I4, mV and mA, replace the last window's. -/
def execHarmonicWindow (t k : Nat) (groups : List (List Nat)) (s : State) : Host.Outcome State Fault Refusal :=
  let s := s.at t
  if !acOn s k || !mtrRuns s then .next s
  else
    let h := harmAll groups s
    let top := fun l => (l.map Prod.snd).foldl max 0
    .next (fireEvent 381 (setMac k (fun c =>
      { c with harm := h.1, harmEnd := devTime s, harmF := c.freq, thdU := top (h.1.take 3), thdI := top ((h.1.drop 3).take 3) }) h.2))

/-! ### Prepayment (R396 to R398) -/

/-- The legal import energy of the session open on a port, mWh, at the billing basis (R385, R397). -/
def sessEnergy (s : State) (n : Nat) : Nat :=
  match get s.lgl.sess n with
  | none => 0
  | some x => x.tariffE.sum / 1000

/-- A protected window holds at legal time (R398). -/
def inWindow (s : State) : Bool :=
  let m := tariffMinutes s (legalMs s)
  let wk := (m / 1440 + 3) % 7 * 1440 + m % 1440
  s.lgl.windows.any fun x => decide ((wk + 10080 - (x.day * 1440 + x.start)) % 10080 < x.dur)

/-- Emergency credit remains (R397). -/
def emergLeft (s : State) (n : Nat) (p : Prepay) : Bool :=
  decide (p.emerg < p.emergWh * 1000) && ((get s.vcl.port n).soc == 255 || decide ((get s.vcl.port n).soc < p.emergSoc))

/-- Emergency credit is drawn on, or no longer. -/
def setEmergency (n : Nat) (v : Bool) (s : State) : State :=
  { s with slc.op := upd s.slc.op n fun o => { o with emergency := v } }

/-- A PREPAY record (R464). -/
def prepayRec (s : State) (n : Nat) (p : Prepay) : List Nat :=
  [n, 0, 0] ++ leBytes 8 (unsigned 64 p.account) ++ leBytes 8 (p.emergWh * 1000 - p.emerg) ++ leBytes 8 p.shortfall
    ++ leBytes 4 (b2n (get s.slc.op n).emergency)

/-- A PREPAY record leaves for the standby at a latch tick (R464). -/
def mirrorPrepay (n : Nat) (p : Prepay) (s : State) : State :=
  if s.dpx.role == 1 then mirrorSend 0x35 (prepayRec s n p) s else s

/-- The remaining credit of a port at a tick (R397): the energy since the last one is counted, then the credit judged. -/
def creditTick (n : Nat) (s : State) : State :=
  match get s.lgl.prepay n, get s.lgl.sess n with
  | some p, some _ =>
    let e := sessEnergy s n
    let d := e - p.lastE
    let c : Int := p.account - e
    let neg := min d (-c).toNat
    let p1 : Prepay := { p with lastE := e, emerg := if (get s.slc.op n).emergency then p.emerg + d else p.emerg,
                                  shortfall := p.shortfall + neg }
    let s1 := mirrorPrepay n p1 { s with lgl.prepay := upd s.lgl.prepay n fun _ => some p1 }
    let pw := if inletBasis s n then (mdc s n).pIn else (mdc s n).p
    if (get s.vcl.port n).sess != 7 then s1
    else if 5 * pw < 36 * c then setEmergency n false s1
    else if inWindow s1 then setEmergency n false s1
    else if emergLeft s1 n p1 then setEmergency n true s1
    else stopSession n 4 false (setEmergency n false s1)
  | _, _ => s

/-! ### The latch tick (R352) -/

/-- A DC channel's extremes as they stand are latched (R9). -/
def latchExt (c : MtrDc) : MtrDc := { c with extMin := c.vMin, extMax := c.vMax }

/-- A DC channel's means over the interval, and its extremes. -/
def latchDc (c : MtrDc) : MtrDc :=
  if c.sumN = 0 then latchExt c
  else
    let m := fun (x : Rat) => x / c.sumN
    let v := roundAway (m c.sumV)
    let d := (roundAway (m c.sumV / 100)).toNat
    latchExt
      { c with sumN := 0, sumV := 0, sumI := 0, sumP := 0, sumPin := 0, v := v, i := roundAway (m c.sumI),
                 p := roundAway (m c.sumP / 1000000), pIn := roundAway (m c.sumPin / 1000000), vMin := min c.vMin d,
                 vMax := max c.vMax d }

/-- An AC set's values over the interval. -/
def latchAc (c : MtrAc) : MtrAc :=
  if c.cyc.isEmpty then c
  else
    let k : Rat := (c.cyc.length : Nat)
    let mean := fun (f : Rat × Rat × Rat × List Rat × List Rat → Rat) => (c.cyc.map f).foldl (· + ·) 0 / k
    let p := mean fun x => x.1
    let q := mean fun x => x.2.1
    let sv := mean fun x => x.2.2.1
    { c with cyc := [], p := roundAway (p / 1000000), q := roundAway (q / 1000000), sVa := (roundAway (sv / 1000000)).toNat,
               pf := if sv = 0 then 0 else clampInt (roundAway (p * 32768 / sv)) (-32768) 32767,
               quad := if 0 ≤ p then (if 0 ≤ q then 0 else 3) else (if 0 ≤ q then 1 else 2),
               u := updAll c.u fun j _ => sqrtFloor (mean fun x => x.2.2.2.1.getD j 0),
               i := updAll c.i fun j _ => sqrtFloor (mean fun x => x.2.2.2.2.getD j 0) }

/-- What a tick tells an open session of the pair: its voltages, and a change of the inlet's source (R378). -/
def sessTick (n : Nat) (s : State) : State :=
  let c := mdc s n
  { s with lgl.sess := upd s.lgl.sess n fun o => o.map fun x =>
             { x with vMin := min x.vMin c.v.toNat, vMax := max x.vMax c.v.toNat,
                        inletMode := if x.inletMode == c.inlet then x.inletMode else 3 } }

/-- Every ROL value of the block is latched (R352). -/
def latchAll (s : State) : State :=
  fireEvent 368 { s with
                    mtr.dc := updAll s.mtr.dc fun _ c => latchDc c,
                    mtr.ac := updAll s.mtr.ac fun _ c => latchAc c,
                    mtr.latched := updAll s.mtr.latched fun a _ => wideAcc s a / 1000 % 2 ^ 48,
                    mtr.latchSeq := (s.mtr.latchSeq + 1) % 2 ^ 32, mtr.latchTime := devTime s,
                    mtr.cycN := 0, mtr.tickAt := some s.now }

/-- The tick is due (R352): after LATCH_N cycles of the sync set, or, without its frequency or with SYNC_SRC 2, after the time
they last at the nominal period. -/
def tickDue (s : State) : Bool :=
  let n := rdf s baseMTR 0 8
  if rdf s baseMTR 9 2 < 2 && s.mtr.syncOk then n ≤ s.mtr.cycN
  else s.mtr.tickAt.all fun x => decide (x + n * 1000000000 / (if rdb s baseMTR 8 then 60 else 50) ≤ s.now)

/-- The pair's part of a tick (R350, R385, R394): the sessions, the tariff in force, the interval's peaks, and a recorded
calibration set that goes into force. -/
def pairTick (s : State) : State :=
  let a := addTariff ((List.range 4).foldl (fun x n => sessTick n x) s)
  let b := { a with lgl.iPeak := updAll a.lgl.iPeak fun k x => max x (mac a k).p.toNat }
  if b.mtr.calDue.isSome then doBoundary { dueCauses b with calInForce := true } false (legalMs b) b else b

/-- LATCH_TICK (R350, R352, R385, R394, R397): every ROL value is latched; the pair adds to the tariff in force, puts a
recorded calibration set in force, and the supervisor judges the prepaid credit. -/
def execLatchTick (t : Nat) (s : State) : Host.Outcome State Fault Refusal :=
  let s := s.at t
  if !mtrRuns s || !tickDue s then .next s
  else
    let s1 := latchAll s
    .next (flushLgl ((List.range 4).foldl (fun a n => creditTick n a) (if pairRuns s1 then pairTick s1 else s1)))

/-! ### Wide captures and the loss bound (R354, R357) -/

/-- CAPTURE is written (R354): all 40 wide accumulators at one instant; ignored outside the window. -/
def captureWide (s : State) : State :=
  if wideWindow s then { s with mtr.snap := s.mtr.wide, mtr.snapDone := true } else s

/-- MTR_SNAP_CAPTURE (R354). -/
def execMtrSnapCapture (t : Nat) (s : State) : Host.Outcome State Fault Refusal := .next (captureWide (s.at t))

/-- WIDE_WINDOW_END (R354): the minute after a power-loss restart is over. -/
def execWideWindowEnd (t : Nat) (s : State) : Host.Outcome State Fault Refusal :=
  let s := s.at t
  .next (wideEvent s { s with mtr.window60 := false })

/-- LOSS_BOUND_RECORD (R357): every 1 ms the pair writes the largest |P| since the last save, and the time. -/
def execLossBoundRecord (t : Nat) (s : State) : Host.Outcome State Fault Refusal :=
  let s := s.at t
  .next (if mtrRuns s && pairRuns s then
    { s with lgl.hiP := updAll s.lgl.hiP fun n x => max x (mdc s n).pk, lgl.hiAt := devTime s,
               mtr.dc := updAll s.mtr.dc fun _ c => { c with pk := 0 } }
  else s)

/-! ### Registers (14) -/

/-- MTR_STAT. -/
def mtrStatWord (s : State) : Nat :=
  packBits [(0, b2n (wideWindow s)), (1, b2n s.mtr.syncOk), (2, b2n s.mtr.restored), (3, b2n s.mtr.fallback), (4, b2n s.mtr.boundNa),
    (5, b2n s.mtr.selftestOk), (16, s.mtr.wideDeny)]

/-- MTR_DCn_VI, P, PIN and VEXT. -/
def mtrDcWords (s : State) (n : Nat) : List Nat :=
  let c := mdc s n
  [packBits [(0, unsigned 16 (roundAway ((c.v : Rat) / 100))), (16, unsigned 16 (roundAway ((c.i : Rat) / 100)))], unsigned 32 c.p, unsigned 32 c.pIn,
   packBits [(0, c.extMin % 65536), (16, c.extMax % 65536)]]

/-- MTR_DCn_STAT. -/
def mtrDcStatWord (s : State) (n : Nat) : Nat :=
  let c := mdc s n
  let fade := max 1 (rdf s (dcAddr n + 4) 0 8)
  packBits [(0, (2 * 255 * c.w + fade) / (2 * fade) % 256), (8, b2n c.ovr16), (9, b2n c.ovr1), (10, b2n c.fault), (11, c.inlet),
    (13, b2n c.senseBad), (14, b2n c.creep)]

/-- MTR_ACs_Uk, Ik, P, Q, S and PF. -/
def mtrAcWords (s : State) (k : Nat) : List Nat :=
  let c := mac s k
  c.u.toList ++ c.i.toList ++ [unsigned 32 c.p, unsigned 32 c.q, c.sVa % 2 ^ 32, packBits [(0, unsigned 16 c.pf), (16, c.quad)]]

/-- MTR_ACs_STAT. -/
def mtrAcStatWord (s : State) (k : Nat) : Nat :=
  let c := mac s k
  packBits [(0, b2n c.sag.isSome), (1, b2n c.swell.isSome), (2, c.phases), (5, c.evq.length), (10, b2n c.evqOvf), (11, b2n c.fault)]

/-- Every ROL register of the block in ascending address order, with MTR_STAT first (R499, R508). -/
def mtrStatusWords (s : State) : List Nat :=
  [mtrStatWord s, s.mtr.latchSeq, s.mtr.latchTime % 2 ^ 32, s.mtr.latchTime / 2 ^ 32] ++ ((List.range 4).map (mtrDcWords s)).flatten
    ++ ((List.range 2).map (mtrAcWords s)).flatten
    ++ (s.mtr.latched.toList.map fun x => [x % 2 ^ 32, x / 2 ^ 32]).flatten

/-- An event record as its 24 bytes (R348). -/
def acEventBytes (e : AcEvent) : List Nat :=
  [e.typ, e.phases, packBits [(0, b2n e.cut), (1, b2n e.freqLost)], 0] ++ leBytes 8 e.start ++ leBytes 4 e.duration
    ++ leBytes 4 e.extreme ++ leBytes 4 e.seq

/-! ### Commands (R363, R508) -/

/-- MTR_STATUS (R363, R508). -/
def execMtrStatus (t line seq : Nat) (s : State) : Host.Outcome State Fault Refusal :=
  .next (runCmd line seq 0x0A01 neverIllegal (fun c s =>
    doneOut c [] ((mtrStatusWords s).map (leBytes 4)).flatten s) (s.at t))

/-- MTR_READ asks for the wide form outside the window (R354). -/
def mtrReadIllegal (c : Cmd) (s : State) : Bool := c.param 10 1 == 1 && !wideWindow s

/-- MTR_READ (R354, R363, R508): the wide form is that of the last capture. -/
def execMtrRead (t line seq : Nat) (s : State) : Host.Outcome State Fault Refusal :=
  .next (runCmd line seq 0x0A02 mtrReadIllegal (fun c s =>
    let a := c.param 8 1
    let n := c.param 9 1
    let w := c.param 10 1
    if 40 ≤ a then rejectRange c 8 s
    else if n < 1 || 40 < a + n then rejectRange c 9 s
    else if 1 < w then rejectRange c 10 s
    else
      let body := (List.range n).map fun j => if w = 1 then leBytes 16 (get s.mtr.snap (a + j)) else leBytes 8 (get s.mtr.latched (a + j))
      doneOut c [] (leBytes 4 s.mtr.latchSeq ++ [0, 0, 0, 0] ++ leBytes 8 s.mtr.latchTime ++ body.flatten) s) (s.at t))

/-- MTR_HARM_READ (R346, R363, R508). -/
def execMtrHarmRead (t line seq : Nat) (s : State) : Host.Outcome State Fault Refusal :=
  .next (runCmd line seq 0x0A03 neverIllegal (fun c s =>
    let k := c.param 8 1
    if 2 ≤ k then rejectRange c 8 s
    else
      let m := mac s k
      let chan := fun j => let x := m.harm.getD j ([], 0)
                           ((fit 63 x.1).map (leBytes 4)).flatten ++ leBytes 4 x.2
      doneOut c [] (leBytes 8 m.harmEnd ++ leBytes 4 m.harmF ++ [0, 0, 0, 0] ++ ((List.range 7).map chan).flatten) s) (s.at t))

/-- MTR_EVENT_READ (R347, R363, R508): the records that the reference takes whole are freed. -/
def execMtrEventRead (t line seq : Nat) (s : State) : Host.Outcome State Fault Refusal :=
  .next (runCmd line seq 0x0A04 neverIllegal (fun c s =>
    let k := c.param 8 1
    let mx := c.param 9 1
    if 2 ≤ k then rejectRange c 8 s
    else if mx < 1 || 16 < mx then rejectRange c 9 s
    else
      let l := (mac s k).evq.take mx
      let freed := min l.length ((respPart c (some (l.map acEventBytes).flatten)).length / 24)
      doneOut c [l.length] (l.map acEventBytes).flatten (setMac k (fun m => { m with evq := m.evq.drop freed }) s)) (s.at t))

/-- MTR_EXTREME_RESET (R363, R508). -/
def execMtrExtremeReset (t line seq : Nat) (s : State) : Host.Outcome State Fault Refusal :=
  .next (runCmd line seq 0x0A05 neverIllegal (fun c s =>
    if 4 ≤ c.param 8 1 then rejectRange c 8 s
    else done c [] (setMdc (c.param 8 1) (fun m => { m with vMin := 0xFFFF, vMax := 0 }) s)) (s.at t))

/-- The first parameter of MTR_CAL_WRITE out of its range (R349, R508), by its entry offset. -/
def calBad (c : Cmd) : Option Nat :=
  let ch := c.param 8 1
  let f := c.param 10 1
  let off := fun (b o w : Nat) (lim : Int) => bit f b && decide (lim < |signed (8 * w) (c.param o w)|)
  if 6 ≤ ch then some 8
  else if (if ch < 4 then 4 else 7) ≤ c.param 9 1 then some 9
  else if 32 ≤ f || (4 ≤ ch && bit f 1) || (ch < 4 && bit f 4) then some 10
  else if bit f 0 && (decide (c.param 12 4 < 536870912) || decide (1610612736 < c.param 12 4)) then some 12
  else if off 1 16 4 21474836 then some 16
  else if off 2 20 4 219902325 then some 20
  else if off 3 24 4 562949953 then some 24
  else if off 4 28 2 1024 then some 28
  else none

/-- MTR_CAL_WRITE (R350, R363, R373, R508). -/
def execMtrCalWrite (t line seq : Nat) (s : State) : Host.Outcome State Fault Refusal :=
  .next (runCmd line seq 0x0A06 neverIllegal (fun c s =>
    match calBad c with
    | some o => rejectRange c o s
    | none =>
      if !s.lgl.sealOpen then finish c { status := stLocked } s
      else
        let ch := c.param 8 1
        let sub := c.param 9 1
        let f := c.param 10 1
        let k := if ch < 4 then 4 * ch + sub else 16 + 7 * (ch - 4) + sub
        done c [] { s with mtr.calNew := some (upd (s.mtr.calNew.getD s.mtr.cal) k fun p =>
                             { gain := if bit f 0 then c.param 12 4 else p.gain, ofs := if bit f 1 then signed 32 (c.param 16 4) else p.ofs,
                                 tc1 := if bit f 2 then signed 32 (c.param 20 4) else p.tc1, tc2 := if bit f 3 then signed 32 (c.param 24 4) else p.tc2,
                                 phase := if bit f 4 then signed 16 (c.param 28 2) else p.phase }) }) (s.at t))

/-- No pending calibration set stands. -/
def noPendingCal (_ : Cmd) (s : State) : Bool := s.mtr.calNew.isNone

/-- MTR_CAL_COMMIT (R350, R363, R373, R501): handed to the legal pair; FINAL comes at the tick it goes into force. -/
def execMtrCalCommit (t line seq : Nat) (s : State) : Host.Outcome State Fault Refusal :=
  .next (runCmd line seq 0x0A07 noPendingCal (fun c s =>
    if !s.lgl.sealOpen then finish c { status := stLocked } s
    else accept c [] (lglRequest (.calCommit line seq) s)) (s.at t))

/-- MTR_TP_SET (R359, R363, R508). -/
def execMtrTpSet (t line seq : Nat) (s : State) : Host.Outcome State Fault Refusal :=
  .next (runCmd line seq 0x0A08 neverIllegal (fun c s =>
    let k := c.param 8 1
    let src := c.param 9 1
    let cn := c.param 12 4
    if 6 ≤ k then rejectRange c 8 s
    else if (if k < 4 then 6 else 8) ≤ src then rejectRange c 9 s
    else if cn < 1 || 100000 < cn then rejectRange c 12 s
    else done c [] (setTp k (fun p => { p with srcSet := some (src, cn) }) s)) (s.at t))

end Sys2Proof.Machine
end

