-- ==== Sys2Proof/Machine/Slc.lean ====
section
/-! DEFINITION. Site power credits and the Sluice engine's rounds (05, 06): grants, leases and the ramp at the L3 node;
demand, holds and the allocation pass at each hosted role; the demand guard at the root. -/

namespace Sys2Proof.Machine

/-! ### Errors (R147, R173) -/

def errLeaseStale : ErrSpec := ⟨1, 1, 1⟩
def errLeaseLapsed : ErrSpec := ⟨1, 2, 2⟩
def errChildSilent : ErrSpec := ⟨1, 3, 1⟩
def errConserveFail : ErrSpec := ⟨1, 4, 2⟩
def errGrantOverLimit : ErrSpec := ⟨1, 5, 1⟩
def errLateGrant : ErrSpec := ⟨1, 6, 1⟩
def errFloorMismatch : ErrSpec := ⟨1, 7, 1⟩
def errDgFloorHit : ErrSpec := ⟨1, 8, 1⟩
def errIntakeMissing : ErrSpec := ⟨1, 9, 1⟩
def errFenSlow : ErrSpec := ⟨1, 0xA, 1⟩
def errRttOver : ErrSpec := ⟨1, 0xB, 1⟩

/-- A Sluice error is raised and its event source fires (R147, R173, R174): source 63 + CODE. -/
def slcError (e : ErrSpec) (arg : Nat) (s : State) : State := raiseError e arg (fireEvent (63 + e.code) s)

/-! ### Allocation and role entries (R151, R152) -/

def aKEY : Fld := ⟨0, 2⟩
def aROLE : Fld := ⟨2, 2⟩
def aSTATE : Fld := ⟨4, 1⟩
def aMISS : Fld := ⟨5, 1⟩
def aHOLDRUN : Fld := ⟨6, 2⟩
def aLIMIT : Fld := ⟨8, 4⟩
def aFLOOR : Fld := ⟨12, 4⟩
def aGMIN : Fld := ⟨16, 4⟩
def aWEIGHT : Fld := ⟨20, 1⟩
def aCMIN : Fld := ⟨56, 4⟩
def aDRAW : Fld := ⟨60, 4⟩
def aRXROUND : Fld := ⟨64, 4⟩
def aGRANT : Fld := ⟨68, 4⟩
def aGRANTPREV : Fld := ⟨72, 4⟩
def aLEASEMAX : Fld := ⟨76, 4⟩
def aHOLD : Fld := ⟨80, 4⟩
def aHOLDEND : Fld := ⟨84, 4⟩
def aACKROUND : Fld := ⟨88, 4⟩
def aUPUS : Fld := ⟨92, 2⟩
def aDOWNUS : Fld := ⟨94, 2⟩
def rKEY : Fld := ⟨0, 2⟩
def rPARENT : Fld := ⟨2, 2⟩
def rFIRST : Fld := ⟨4, 2⟩
def rCOUNT : Fld := ⟨6, 2⟩
def rLIMIT : Fld := ⟨8, 4⟩
def rFLOOR : Fld := ⟨12, 4⟩
def rWAITUS : Fld := ⟨22, 2⟩
def rA : Fld := ⟨24, 4⟩
def rGRANTIN : Fld := ⟨28, 4⟩
def rINC : Fld := ⟨32, 4⟩
def rLEASEEND : Fld := ⟨36, 4⟩
def rCMIN : Fld := ⟨72, 4⟩
def rDRAWSUM : Fld := ⟨76, 4⟩
def rHOLDSUM : Fld := ⟨80, 4⟩
def rGRANTSUM : Fld := ⟨84, 4⟩
def rPASSROUND : Fld := ⟨88, 4⟩
def rFLAGS : Fld := ⟨92, 1⟩

/-- Base of allocation entry `i` (R148). -/
def allocBase (i : Nat) : Nat := 0x50000000 + 128 * i

/-- Base of role entry `r` (R148). -/
def roleBase (r : Nat) : Nat := 0x50080000 + 128 * r

/-- A field of allocation entry `i`. -/
def al (s : State) (i : Nat) (f : Fld) : Nat := ramGet s (allocBase i) f

/-- Allocation entry `i` with a field written. -/
def alPut (i : Nat) (f : Fld) (v : Nat) (s : State) : State := ramPut s (allocBase i) f v

/-- A field of role entry `r`. -/
def rl (s : State) (r : Nat) (f : Fld) : Nat := ramGet s (roleBase r) f

/-- Role entry `r` with a field written. -/
def rlPut (r : Nat) (f : Fld) (v : Nat) (s : State) : State := ramPut s (roleBase r) f v

/-- STATE bits of an allocation entry: 0 JOINED, 1 HELD, 2 SILENT_RAISED, 3 LEFT, 4 FEN_LEAF, 5 ACK_PENDING. -/
def alBit (s : State) (i b : Nat) : Bool := bit (al s i aSTATE) b

/-- A STATE bit written. -/
def alSetBit (i b : Nat) (v : Bool) (s : State) : State := alPut i aSTATE (setBits (al s i aSTATE) b 1 (b2n v)) s

/-- Class `c` of a child's last demand vector. -/
def alDemand (s : State) (i c : Nat) : Nat := al s i ⟨24 + 4 * c, 4⟩

/-- The allocation entries of a role's children (R149). -/
def children (s : State) (r : Nat) : List Nat := (List.range (rl s r rCOUNT)).map (fun k => rl s r rFIRST + k)

/-- A role entry is VALID. -/
def roleValid (s : State) (r : Nat) : Bool := bit (rl s r rKEY) 15

/-- A role is the root. -/
def roleRoot (s : State) (r : Nat) : Bool := bit (rl s r rKEY) 3

/-- A role's level, 4 to 7. -/
def roleLevel (s : State) (r : Nat) : Nat := rl s r rKEY % 8 + 1

/-- The roles this device hosts. -/
def hostedRoles (s : State) : List Nat := (List.range 4096).filter (roleValid s)

/-- The root role, where this device hosts it. -/
def rootRole (s : State) : Option Nat := (hostedRoles s).find? (roleRoot s)

/-- Round `a` is not greater than round `b`, by their signed 32-bit difference (R150). -/
def notGreater (a b : Nat) : Bool := (a + 2 ^ 32 - b) % 2 ^ 32 = 0 || 2 ^ 31 ≤ (a + 2 ^ 32 - b) % 2 ^ 32

/-- The round `n` after `k`. -/
def roundPlus (k n : Nat) : Nat := (k + n) % 2 ^ 32

/-- The earlier of two rounds (R150). -/
def roundMin (a b : Nat) : Nat := if notGreater a b then a else b

/-- T_RND in ns. -/
def tRndNs (s : State) : Nat := param s pT_RND 10 * 1000000

/-! ### The node: effective grant, split, targets -/

/-- A child counts as not joined (R127). -/
def notJoined (s : State) (i : Nat) : Bool := !alBit s i 0

/-- FEN_RND_MULT that a parent uses for its Fenline leaves (log entry 21). -/
def leafMult (s : State) : Nat := param s pFEN_RND_MULT 10

/-- A Fenline leaf in a round that starts no leaf round of its own (06, Aggregation). -/
def leafOff (s : State) (i : Nat) : Bool := alBit s i 4 && s.slc.round % leafMult s != 0

/-- The value a leaf's decrease started from, while the leaf has not acknowledged it (R131, R155). -/
def unacked (s : State) (i : Nat) : Nat := if alBit s i 5 then al s i aGRANTPREV else 0

/-- What is reserved for a child outside the pass (R131, R155): FLOOR when not joined, its hold when held, and for an
off-round leaf the higher of GRANT and, while unacknowledged, GRANT_PREV. A held leaf's decrease stays reserved too
until it is acknowledged or the hold ends. -/
def reserveOf (s : State) (i : Nat) : Nat :=
  if notJoined s i then al s i aFLOOR
  else if alBit s i 1 then max (al s i aHOLD) (unacked s i)
  else max (al s i aGRANT) (unacked s i)

/-! ### Roles: aggregation (R154) -/

/-- Class `c` of what a child adds to the aggregate. -/
def aggOf (s : State) (c i : Nat) : Nat :=
  if notJoined s i then 0
  else if !alBit s i 1 || al s i aMISS ≤ 2 then alDemand s i c
  else if c = 0 then al s i aHOLD else 0

/-- A vector cut to a limit in class order, class 0 kept first. -/
def cutTo : Nat → List Nat → List Nat
  | _, [] => []
  | keep, d :: ds => min d keep :: cutTo (keep - min d keep) ds

/-- A child's commitment in CMIN sums. -/
def commitOf (s : State) (i : Nat) : Nat :=
  if notJoined s i then al s i aFLOOR else if alBit s i 1 then al s i aHOLD else al s i aCMIN

/-- Sum of a list. -/
def sumList (l : List Nat) : Nat := l.foldl (· + ·) 0

/-- A joined child that is not held is held at its last grant (R33, R135). -/
def holdChild (i : Nat) (s : State) : State :=
  if notJoined s i || alBit s i 1 then s
  else
    let endR := roundPlus (al s i aLEASEMAX) (al s i aHOLDRUN)
    alSetBit i 1 true (alPut i aHOLD (al s i aGRANT) (alPut i aHOLDEND endR s))

/-- A child's demand is missing at the end of the role's wait: it is held from that round on (R135). -/
def missChild (s : State) (i : Nat) : State :=
  let m := min 255 (al s i aMISS + 1)
  let s1 := holdChild i (alPut i aMISS m s)
  if m = 3 && !alBit s1 i 2 then slcError errChildSilent i (alSetBit i 2 true s1) else s1

/-- The child's demand of this round has arrived, or it is a leaf in a round that starts no leaf round (R154, R155). A
child that has not joined has not reported. -/
def reported (s : State) (i : Nat) : Bool := leafOff s i || (al s i aRXROUND == s.slc.round && !alBit s i 1)

/-- A leaf whose demand of the leaf round before came after its role had formed that round's aggregate: its demand of this
leaf round is not missing yet (R144, log entry 61). -/
def lateIn (s : State) (i : Nat) : Bool :=
  alBit s i 4 && s.slc.lateLeaf.contains i && roundPlus (al s i aRXROUND) (leafMult s) == s.slc.round

/-- The DEMAND payload of a sender, 64 bytes (R162). -/
def demandData (fromL toL round : Nat) (leave join ack duplex : Bool) (vec : List Nat) (cmin : Nat) (draw : Int)
    (floor limit up down ackR : Nat) : List Nat :=
  [1, packBits [(0, b2n leave), (1, b2n join), (2, b2n ack), (3, b2n duplex)], packBits [(0, fromL), (4, toL)], 1] ++ leBytes 4 round
    ++ (vec.map (leBytes 4)).flatten ++ leBytes 4 cmin ++ leBytes 4 (unsigned 32 draw) ++ leBytes 4 floor ++ leBytes 4 limit
    ++ leBytes 2 up ++ leBytes 2 down ++ leBytes 4 ackR

/-- PATH in µs to a node and PATH from it, where a route exists (R159, R434); to the device's own node it is 0. -/
def pathUs (s : State) (node : Nat) : Option (Nat × Nat) :=
  if node == ownNode s then some (0, 0)
  else (s.ozl.paths.find? (fun p => p.node == node)).map fun p => (p.us, p.back)

/-- WAIT_US and DOWN_US of a role (R160); a child with no route adds no term. -/
def roleBounds (s : State) (r : Nat) : Nat × Nat :=
  let cs := children s r
  let node := fun i => al s i aKEY % 4096
  let wait := cs.foldl (fun m i => match pathUs s (node i) with
    | some p => max m (al s i aUPUS + p.2)
    | none => m) 0 + 5
  let down := cs.foldl (fun m i => match pathUs s (node i) with
    | some p => max m (p.1 + al s i aDOWNUS)
    | none => m) 0
  (wait, 10 + (2 * rl s r rCOUNT + 99) / 100 + down)

/-- SYS_MODE.LIM_LINK (R161, R449, R494): RTT_OVER of a root hosted here, OZL_NO_PARENT, or FEN_NO_ROUTE stands. -/
def updLink (s : State) : State :=
  setLim .link (s.ozl.noParent || s.fen.noRoute || (hostedRoles s).any fun r => bit (rl s r rFLAGS) 1) s

/-- The root compares RTT with T_RND/4 (R161). -/
def checkRtt (r : Nat) (s : State) : State :=
  let b := roleBounds s r
  let ovr := decide (tRndNs s / 4 < (b.1 + 2 + b.2) * 1000)
  let was := bit (rl s r rFLAGS) 1
  let s1 := rlPut r rFLAGS (setBits (rl s r rFLAGS) 1 1 (b2n ovr)) { s with slc.rttChecked := true }
  if ovr && !was then slcError errRttOver r (updLink s1)
  else if !ovr && was then updLink s1 else s1

/-- WAIT_US follows a reported term, a path or a route that changed, and at the root RTT is compared again, once it has
been compared since the load (R160, R161). -/
def refreshBounds (r : Nat) (s : State) : State :=
  let s1 := rlPut r rWAITUS (roleBounds s r).1 s
  if roleRoot s1 r && s1.slc.rttChecked then checkRtt r s1 else s1

/-- A role forms its demand of the round (R154) and, unless it is the root, sends it upward; missing children are held
first (R135). -/
def formRole (r : Nat) (s : State) : State :=
  let allIn := (children s r).all (reported s)
  let s1 := (children s r).foldl (fun a i => if reported a i || notJoined a i || lateIn a i then a else missChild a i)
    { s with slc.formed := r :: s.slc.formed }
  let cs := children s1 r
  let agg := cutTo (rl s1 r rLIMIT) ((List.range 8).map fun c => sumList (cs.map (aggOf s1 c)))
  let cmin := max (rl s1 r rFLOOR) (sumList (cs.map (commitOf s1)))
  let draw : Int := cs.foldl (fun a i => a + signed 32 (al s1 i aDRAW)) 0
  let b := roleBounds s1 r
  let s2 := (List.range 8).foldl (fun a c => rlPut r ⟨40 + 4 * c, 4⟩ (agg.getD c 0) a) s1
  let s3 := rlPut r rWAITUS b.1 (rlPut r rDRAWSUM (unsigned 32 draw) (rlPut r rCMIN cmin s2))
  if roleRoot s3 r then
    (if allIn && !s3.slc.rttChecked then checkRtt r s3 else s3)
  else
    tcSend 1 .demand (rl s3 r rPARENT % 4096) (rl s3 r rPARENT) (demandData (roleLevel s3 r)
      (rl s3 r rPARENT / 4096 % 8 + 1) s3.slc.round false false false (pairMember s3) agg cmin draw (rl s3 r rFLOOR) (rl s3 r rLIMIT)
      (b.1 + 2) b.2 0) s3

/-! ### Roles: the allocation pass (R155, R156) -/

/-- The children whose request still fits under the water level are saturated; what is left is the level B/W at which
the budget is met exactly, as numerator and denominator (R156). -/
def waterLevel : Nat → List (Nat × Nat) → Nat → Nat × Nat
  | 0, _, b => (b, 1)
  | n + 1, items, b =>
    let w := sumList (items.map (·.2))
    if w = 0 then (b, 1)
    else
      let sat := items.filter (fun p => p.1 * w ≤ b * p.2)
      if sat.isEmpty then (b, w)
      else waterLevel n (items.filter (fun p => !(p.1 * w ≤ b * p.2))) (b - sumList (sat.map (·.1)))

/-- The watts that rounding left ovr go one each to the children that still ask, in entry order (R156). -/
def spread : Nat → List (Nat × Nat × Nat) → List Nat
  | _, [] => []
  | rest, (r, w, x) :: t => if 0 < rest ∧ x < r ∧ 0 < w then (x + 1) :: spread (rest - 1) t else x :: spread rest t

/-- fill(r, w, budget) of R156 for requests with their weights. A child of weight 0 takes no part, so that where the others'
requests fit they are met. -/
def fill (rw : List (Nat × Nat)) (budget : Nat) : List Nat :=
  if sumList (rw.map (·.1)) ≤ budget then rw.map (·.1)
  else if sumList (rw.map fun p => if 0 < p.2 then p.1 else 0) ≤ budget then rw.map fun p => if 0 < p.2 then p.1 else 0
  else
    let lv := waterLevel rw.length (rw.filter (fun p => 0 < p.2)) budget
    let x := rw.map (fun p => min p.1 (p.2 * lv.1 / lv.2))
    spread (budget - sumList x) ((rw.zip x).map fun q => (q.1.1, q.1.2, q.2))

/-- take(i, v) of R155: the amount leaves the working demand in class order. -/
def takeFrom : List Nat → Nat → List Nat
  | [], _ => []
  | d :: ds, v => (d - min d v) :: takeFrom ds (v - min d v)

/-- A child in the allocation pass: its entry, its reservation if fixed, whether it is a leaf whose decrease is still to be
acknowledged and whose new grant is sent all the same, its working demand, its grant so far and the parts of steps 1 to 4. -/
structure PassChild where
  entry : Nat
  fixed : Option Nat
  pinned : Bool
  d : List Nat
  g : Nat
  gmin : Nat
  weight : Nat
  total : Nat
  steps : List Nat
deriving DecidableEq, Repr

/-- The working copy of a child at the start of the pass: fixed children aside, step 1 of R128 is taken. A leaf in `pins`
is reserved at the higher value its decrease started from (R131); its grant and parts stand there. -/
def passChild (s : State) (pins : List PassChild) (i : Nat) : PassChild :=
  let d := (List.range 8).map (alDemand s i)
  let slow := s.slc.slow.contains i
  if notJoined s i || alBit s i 1 || leafOff s i then ⟨i, some (reserveOf s i), false, d, 0, 0, 0, 0, [0, 0, 0, 0]⟩
  else match pins.find? (·.entry == i) with
    | some c => { c with fixed := some (reserveOf s i), pinned := true }
    | none =>
      if slow then ⟨i, none, false, d.map (fun _ => 0), al s i aFLOOR, 0, 0, 0, [al s i aFLOOR, 0, 0, 0]⟩
      else
        let c := al s i aCMIN
        ⟨i, none, false, takeFrom d c, c, al s i aGMIN, al s i aWEIGHT, sumList d, [c, 0, 0, 0]⟩

/-- One filling step: what each child asks for with its weight, given out of `left`; the amount counts as `step`. -/
def passStep (step : Nat) (ask : PassChild → Nat × Nat) (p : List PassChild × Nat) : List PassChild × Nat :=
  let rw := p.1.map (fun c => if c.fixed.isSome then (0, 0) else ask c)
  let x := fill rw p.2
  ((p.1.zip x).map fun q => { q.1 with g := q.1.g + q.2, d := takeFrom q.1.d q.2, steps := q.1.steps.modify step (· + q.2) },
    p.2 - sumList x)

/-- Steps 2 to 4 of R128 ovr the working copies with `left` to give. -/
def passSteps (cs : List PassChild) (left : Nat) : List PassChild :=
  let p2 := passStep 1 (fun c => (c.d.getD 0 0, c.weight)) (cs, left)
  let p3 := passStep 2 (fun c => (min c.gmin c.total - c.g, c.gmin)) p2
  ((List.range 7).foldl (fun p k => passStep 3 (fun c => (c.d.getD (k + 1) 0, c.weight)) p) p3).1

/-- One run of a pass (R155): each child's working copy, and whether it fell back to the commitments (R129). -/
def passOnce (s : State) (r a : Nat) (pins : List PassChild) : List PassChild × Bool :=
  let cs := (children s r).map (passChild s pins)
  let used := sumList (cs.map (fun c => c.fixed.getD c.g))
  if a < used then (cs, true)
  else
    let out := passSteps cs (a - used)
    if a < sumList (out.map (fun c => c.fixed.getD c.g)) then (cs, true) else (out, false)

/-- The leaves that a run of the pass lowers: what they give up is not free before they acknowledge it (R131). -/
def loweredLeaves (s : State) (cs : List PassChild) : List PassChild :=
  cs.filter fun c => c.fixed.isNone && alBit s c.entry 4 && decide (c.g < reserveOf s c.entry)

/-- The pass run again with the leaves it lowers reserved at their higher value, until it lowers no further leaf: each run
adds one at least, so that one run more than there are children is enough (R131, log entry 61). -/
def passPinned (s : State) (r a : Nat) : Nat → List PassChild → List PassChild × Bool
  | 0, pins => passOnce s r a pins
  | n + 1, pins =>
    let res := passOnce s r a pins
    let low := loweredLeaves s res.1
    if res.2 || low.isEmpty then res else passPinned s r a n (low ++ pins)

/-- The result of a pass (R131, R155). -/
def passResult (s : State) (r a : Nat) : List PassChild × Bool := passPinned s r a (children s r).length []

/-- LEASE_END of a grant issued in this round (R126, R144, R157). -/
def leaseFor (s : State) (r i : Nat) : Nat :=
  if alBit s i 4 then roundPlus s.slc.round (3 * leafMult s)
  else roundMin (roundPlus s.slc.round 3) (rl s r rLEASEEND)

/-- A GRANT payload, 32 bytes (R163). -/
def grantData (fromL toL round : Nat) (renewal fallback refused : Bool) (g lease commit : Nat) : List Nat :=
  [2, packBits [(0, b2n renewal), (1, b2n fallback), (2, b2n refused)], packBits [(0, fromL), (4, toL)], 1] ++ leBytes 4 round
    ++ leBytes 4 g ++ leBytes 4 lease ++ leBytes 4 commit ++ List.replicate 12 0

/-- An INTAKE payload, 32 bytes (R164). -/
def intakeData (set round power energy : Nat) : List Nat :=
  [3, set, 0, 0] ++ leBytes 4 round ++ leBytes 4 power ++ leBytes 8 (energy % 2 ^ 48) ++ List.replicate 12 0

/-- A grant is sent to a child: GRANT_PREV, GRANT, LEASE_MAX, and HOLD_END of a held child follow (R151, R157). While a
leaf owes an acknowledgement, GRANT_PREV keeps the higher value that R131 reserves (log entry 61). -/
def sendGrant (r i g : Nat) (renewal fallback : Bool) (steps : List Nat) (s : State) : State :=
  let lease := leaseFor s r i
  let lm := al s i aLEASEMAX
  let lm' := if notGreater lease lm then lm else lease
  let s1 := alPut i aGRANT g (alPut i aGRANTPREV (max (al s i aGRANT) (unacked s i)) (alPut i aLEASEMAX lm' s))
  let s2 := if alBit s1 i 1 then alPut i aHOLDEND (roundPlus lm' (al s1 i aHOLDRUN)) s1 else s1
  let s3 := if alBit s2 i 4 && g < al s2 i aGRANTPREV then alSetBit i 5 true s2 else s2
  let s4 := (List.range 4).foldl (fun a k => alPut i ⟨96 + 4 * k, 4⟩ (steps.getD k 0) a) s3
  tcSend 1 .grant (al s4 i aKEY % 4096) (al s4 i aKEY % 32768) (grantData (roleLevel s4 r) (al s4 i aKEY / 4096 % 8 + 1)
    s4.slc.round renewal fallback false g lease (commitOf s i)) s4

/-- A SLC_MIRROR record (R464): the round, node record bytes 20 to 39, and entries, role entries marked. -/
def slcRec (s : State) (entries : List (Nat × Bool)) : List Nat :=
  0 :: leBytes 2 entries.length ++ leBytes 4 s.slc.round ++ ((nodeBytes s).drop 20 |>.take 20)
    ++ (entries.map fun e => leBytes 2 (e.1 + 32768 * b2n e.2)
      ++ memBytes s.mem (if e.2 then roleBase e.1 else allocBase e.1) 128).flatten

/-- A SLC_MIRROR record leaves for the standby (R464). -/
def mirrorSlc (entries : List (Nat × Bool)) (s : State) : State :=
  if s.dpx.role == 1 then mirrorSend 0x30 (slcRec s entries) s else s

/-- A child that a pass renews: held, its demand missing for at most two rounds, and no leaf in an off-round (R135, R157). -/
def renewed (s : State) (i : Nat) : Bool :=
  alBit s i 1 && !notJoined s i && !leafOff s i && decide (al s i aMISS ≤ 2)

/-- What a pass sends a child: its new grant, its commitment where the pass fell back (R129), or its hold renewed (R157). -/
def sentTo (s : State) (fell : Bool) (c : PassChild) : Option Nat :=
  if c.fixed.isNone || c.pinned then some (if fell then commitOf s c.entry else c.g)
  else if renewed s c.entry then some (al s c.entry aHOLD)
  else none

/-- A pass's grant to one child goes out; a child that has left keeps its commitment as its grant (R138). -/
def grantChild (r : Nat) (s0 : State) (fell : Bool) (st : State) (c : PassChild) : State :=
  match sentTo s0 fell c with
  | some g =>
    if c.fixed.isNone || c.pinned then sendGrant r c.entry g false fell c.steps st
    else sendGrant r c.entry g true fell [g, 0, 0, 0] st
  | none => if alBit s0 c.entry 3 then alPut c.entry aGRANT (commitOf s0 c.entry) st else st

/-- The larger of its hold and its new grant, for a child that reported again in this round; it is reserved until the next
round start (R136). -/
def rejoinReserve (s : State) (fell : Bool) (c : PassChild) : Nat :=
  match s.slc.rejoin.find? (fun p => p.1 == c.entry) with
  | some p => max p.2 ((sentTo s fell c).getD 0)
  | none => 0

/-- The allocation pass of a role for A watts, and the grants it sends (R128, R129, R155, R157). HOLD_SUM holds the holds and
fixed reservations, and until the next round start what R136 reserves. -/
def runPass (r a : Nat) (s : State) : State :=
  let res := passResult s r a
  let s1 := res.1.foldl (grantChild r s res.2) s
  let again := sumList (res.1.map (rejoinReserve s res.2))
  let holds := sumList (res.1.map (fun c => c.fixed.getD 0)) + again
  let sent := sumList (res.1.map fun c => (sentTo s res.2 c).getD 0)
  let s2 := rlPut r rA a (rlPut r rHOLDSUM holds (rlPut r rGRANTSUM sent
    { s1 with slc.lowerAt := (r, again) :: s1.slc.lowerAt.filter (·.1 != r) }))
  let s3 := mirrorSlc ((r, true) :: (children s r).map (·, false))
    (rlPut r rPASSROUND s.slc.round (rlPut r rFLAGS (setBits (rl s2 r rFLAGS) 0 1 (b2n res.2)) s2))
  if res.2 then slcError errConserveFail r s3 else s3

/-! ### The demand guard (R140 to R143) -/

/-- T_DI of an interval in ns. -/
def tDiNs (iv : Nat × Nat) : Nat := iv.1 * 60000000000

/-- Start of the guard's interval that holds a device time: full hours plus DG_ALIGN, then every T_DI (R140). -/
def dgIntervalStart (iv : Nat × Nat) (t : Nat) : Nat :=
  let hour := 3600000000000
  t - (t + hour - iv.2 * 1000000) % hour % tDiNs iv

/-- T_DI and DG_ALIGN in force at a device time: an interval keeps those it began with (R514). -/
def dgInterval (s : State) (t : Nat) : Nat × Nat :=
  match s.slc.dgStart with
  | some x => if t < x + tDiNs s.slc.dgIv then s.slc.dgIv else (param s pT_DI 15, param s pDG_ALIGN 0)
  | none => (param s pT_DI 15, param s pDG_ALIGN 0)

/-- mWh of a power ovr a time in ns, rounded to the nearest below. -/
def energyMwh (w ns : Nat) : Nat := w * ns / 3600000000

/-- The round's reports are closed: a set that sent none is counted at its last power for two rounds, then at
DG_SET_MAX with INTAKE_MISSING (R143). -/
def closeIntake (s : State) : State :=
  s.slc.sets.zipIdx.foldl (fun a p =>
    let x := p.1
    if x.fresh then { a with slc.sets := a.slc.sets.modify p.2 (fun y => { y with fresh := false, miss := 0 }) }
    else
      let m := x.miss + 1
      let w := if m ≤ 2 then x.lastP else x.maxW
      let a1 := { a with slc.sets := a.slc.sets.modify p.2 (fun y => { y with miss := m }),
                           slc.eUsed := (a.slc.eUsed + energyMwh w (tRndNs a)) % 2 ^ 48 }
      if m = 3 then slcError errIntakeMissing p.2 a1 else a1) s

/-- P_intake of the round (R141, R143). -/
def intakePower (s : State) : Nat := sumList (s.slc.sets.map (fun x => if x.miss ≤ 2 then x.lastP else x.maxW))

/-- The demand guard runs at a role: DG_ENABLE (R140) and DG of the role's KEY (R152). -/
def guardOn (s : State) (r : Nat) : Bool := param s pDG_ENABLE 0 != 0 && bit (rl s r rKEY) 4

/-- The root's limit of the round (R141): the guard's, where it runs, else LIMIT. In the guard's first round there is no round
of history to take U from: U is 0 there (DESIGN CHOICE, log entry 53). -/
def guardLimit (r : Nat) (s : State) : State :=
  let limit := rl s r rLIMIT
  if !guardOn s r then { s with slc.aRoot := limit, slc.dgStart := none }
  else
    let now := devTime s
    let iv := dgInterval s now
    let start := dgIntervalStart iv now
    let first := s.slc.dgStart.isNone
    let s0 := if first then
        { s with slc.eUsed := sumList (s.slc.sets.map (fun x => energyMwh x.maxW (now - start))), slc.dgHist := [] }
      else closeIntake s
    let s1 := if !first && s0.slc.dgStart != some start then { s0 with slc.eUsed := 0 } else s0
    let diff : Int := (intakePower s1 : Int) - signed 32 (rl s1 r rDRAWSUM)
    let hist := if first then [] else (diff :: s1.slc.dgHist).take (param s1 pDG_U_ROUNDS 10)
    let u : Int := match hist with
      | [] => 0
      | h :: t => t.foldl max h
    let budget := param s1 pP_C 0 * iv.1 * 1000 * (100 - param s1 pDG_MARGIN 2) / 100 / 60
    let rem := start + tDiNs iv - now
    let allow : Int := ((budget : Int) - s1.slc.eUsed) * 3600000000 / rem
    let lg := allow - u
    let sumC := sumList ((children s1 r).map (commitOf s1))
    let a : Nat := min limit (max lg sumC).toNat
    let s2 := { s1 with slc.aRoot := a, slc.dgU := u, slc.dgHist := hist, slc.dgStart := some start, slc.dgIv := iv }
    if lg < sumC then slcError errDgFloorHit r { s2 with slc.dgHit := true } else { s2 with slc.dgHit := false }

/-! ### Round start (R125, R133, R158, R159) -/

/-- Round start at a role: its increase comes into force, and its own lease may end (R134). -/
def roleRoundStart (r : Nat) (s : State) : State :=
  if roleRoot s r then
    rlPut r rLEASEEND (roundPlus s.slc.round 0x7FFFFFFF)
      (if guardOn s r then s else rlPut r rGRANTIN (rl s r rLIMIT) s)
  else if notGreater (rl s r rLEASEEND) s.slc.round then
    rlPut r rINC 0 (rlPut r rGRANTIN (min (rl s r rGRANTIN) (rl s r rFLOOR)) s)
  else rlPut r rINC 0 (rlPut r rGRANTIN (rl s r rGRANTIN + rl s r rINC) s)

/-- Round start at a child's entry: a hold that has ended, and an acknowledged decrease (R158). -/
def childRoundStart (i : Nat) (s : State) : State :=
  let s1 := if alBit s i 1 && notGreater (al s i aHOLDEND) s.slc.round then
      alPut i aHOLD 0 (alSetBit i 0 false (alSetBit i 1 false (alSetBit i 2 false s)))
    else s
  let granted := (al s1 i aLEASEMAX + 2 ^ 32 - 3 * leafMult s1) % 2 ^ 32
  if alBit s1 i 5 && al s1 i aACKROUND == granted then alSetBit i 5 false s1 else s1

/-- The node's lease ends without renewal (R133): the ramp from the grant in force, the pending increase dropped. -/
def lapse (s : State) : State :=
  let g := nd s nGRANT
  let s1 := ndPut nINC 0 (ndPut nLAPSEROUND s.slc.round s)
  slcError errLeaseLapsed 0 (raiseLim .lease
    { s1 with slc.leaseValid := false, slc.ramping := true, slc.rampBase := g, slc.rampFrom := s.now })

/-- Round start at the L3 node: its lease may end, or its increase comes into force and a lapse's limitation clears. -/
def nodeRoundStart (s : State) : State :=
  if s.slc.leaseValid && notGreater (nd s nLEASEEND) s.slc.round then lapse s
  else if leafNode s && s.slc.round % nd s nFENMULT != 0 then s
  else if s.slc.joined && !s.slc.ramping then
    let s1 := ndPut nINC 0 (ndPut nGRANT (nd s nGRANT + nd s nINC) s)
    if s1.slc.leaseValid && s1.sys.lims.contains .lease then clearLim .lease s1 else s1
  else s

/-- The node's demand vector (R123): P_aux in class 0 and, where the mode allows more than class 0, each energised
output's demand in its class; cut to LIMIT in class order. -/
def nodeVector (s : State) : List Nat :=
  let full := s.sys.mode == .m5 || s.sys.mode == .m6
  let base := (List.range 8).map fun c =>
    (if c = 0 then s.slc.paux else 0)
      + sumList ((List.range 4).map fun n => if full && outClass s n == c then outDemand s n else 0)
  cutTo (nd s nLIMIT) base

/-- The node sends its demand of the round (R123, R138, R159): not as a standby (R20), and not unless it is joined or asked
to join. -/
def sendDemand (draw : Int) (s : State) : State :=
  if standbyNode s || !(s.slc.joined || s.slc.joining) then s
  else
    let v := nodeVector s
    tcSend 1 .demand (nd s nPARENT % 4096) (nd s nPARENT) (demandData 3 (nd s nPARENT / 4096 % 8 + 1) s.slc.round false
      (s.slc.joining && !s.slc.joined) s.slc.leafAck (pairMember s) v (nd s nFLOOR) draw (nd s nFLOOR) (nd s nLIMIT) 20 5
      (if s.slc.leafAck then s.slc.leafGrantRound else 0))
      { s with slc.demandSent := sumList v, slc.leafAck := false }

/-- The device leaves Sluice in an orderly way (R138): a last demand of zero with LEAVE. -/
def leaveSluice (s : State) : State :=
  if !(s.slc.joined || s.slc.joining) then s
  else
    tcSend 1 .demand (nd s nPARENT % 4096) (nd s nPARENT) (demandData 3 (nd s nPARENT / 4096 % 8 + 1) s.slc.round true false
      false (pairMember s) [0, 0, 0, 0, 0, 0, 0, 0] (nd s nFLOOR) 0 (nd s nFLOOR) (nd s nLIMIT) 20 5 0)
      { s with slc.joined := false, slc.joining := false, slc.leaseValid := false, slc.ramping := false }

/-- The active sends LEAVE before it enters M3, M9 or M10 by command (R454). -/
def sendLeave (m : Mode) (s : State) : State :=
  if s.dpx.role == 1 then mirrorSend 0x43 [m.num, 0, 0] s else s

/-- A running SYS_MODE_SET(M3) from M4 is carried out: the device leaves Sluice at the end of the round (R42). -/
def leaveAtRound (s : State) : State :=
  match s.cfg.modeJob with
  | some (_, _, 3) => if s.sys.mode == .m4 then toM3 (sendLeave .m3 (leaveSluice s)) else s
  | _ => s

/-- The node a metered intake set of this device is reported to (R143): this one where the root runs here and counts the
set, else the one that DG_ROOT_NODE names for a set of DG_REPORT (parameters of the model's own, DESIGN CHOICE, log entry
8). -/
def intakeRoot (s : State) (k : Nat) : Option Nat :=
  if (rootRole s).isSome && s.slc.sets.any (fun x => x.node == ownNode s && x.set == k) then some (ownNode s)
  else if bit (param s pDG_REPORT 0) k then some (param s pDG_ROOT_NODE 0)
  else none

/-- The metered intake sets of this device are reported to the root (R143, R164), by the active device of a pair alone
(R20): each set's import power ovr the round, and its latched import energy. -/
def sendIntake (w : List Nat) (s : State) : State :=
  if standbyNode s then s
  else (List.range 2).foldl (fun a k =>
    match intakeRoot a k with
    | some n => tcSend 1 .intake n n (intakeData k a.slc.round (w.getD k 0) (get a.mtr.latched (24 + 8 * k))) a
    | none => a) s

/-- T_DI and DG_ALIGN of a commit are in effect: with no guard running at once, else from an interval's start (R514). -/
def takeGuard (s : State) : State :=
  if s.slc.dgStart.isNone || s.slc.dgIv == (param s pT_DI 15, param s pDG_ALIGN 0) then takeNeutral [0x112] s else s

/-- What lets M3 end in M4 (R42, R44): a valid configuration, no forced schedule, no cause of M8 but COMMAND, and the
role of a single device or of the active of a pair. -/
def readyAllowed (s : State) : Bool :=
  s.sys.mode == .m3 && s.cfg.loaded && !s.lpe.forced && !m8Holds s && (s.dpx.role == 0 || s.dpx.role == 1)

/-- AUTO_READY or a running SYS_MODE_SET(M4) asks for M4 (R42). -/
def readyAsked (s : State) : Bool :=
  s.cfg.autoReady || (match s.cfg.modeJob with
    | some (_, _, 4) => true
    | _ => false)

/-- AUTO_READY starts the join of R138 once nothing stands against M4 (R42, R44). -/
def autoJoin (s : State) : State :=
  if s.cfg.autoReady && readyAllowed s && !s.slc.joined then { s with slc.joining := true } else s

/-- A round begins (R119, R136, R141): its number, the classes set for it, and no role formed yet. -/
def roundBegin (paux : Nat) (s : State) : State :=
  let k := devTime s / tRndNs s % 2 ^ 32
  let a := autoJoin s
  leaveAtRound { a with slc.round := k, slc.formed := [], slc.rejoin := [], slc.paux := paux,
                          slc.op := updAll s.slc.op fun _ o => { o with cls := o.clsNext.or o.cls, clsNext := none } }

/-- From this round start the children that reported again are reserved at their new grant: HOLD_SUM loses the larger
value (R136). -/
def endRejoin (s : State) : State :=
  s.slc.lowerAt.foldl (fun a p => rlPut p.1 rHOLDSUM (rl a p.1 rHOLDSUM - p.2) a) { s with slc.lowerAt := [] }

/-- The hosted roles and their children at a round's start (R133 to R136). -/
def rolesRoundStart (s : State) : State :=
  (hostedRoles s).foldl (fun a r => (children a r).foldl (fun b i => childRoundStart i b) (roleRoundStart r a)) (endRejoin s)

/-- The demand guard limits the root role, where this device hosts it (R140 to R143); a standby runs none (R20). -/
def guardRoot (s : State) : State :=
  if standbyNode s then { s with slc.dgStart := none }
  else match rootRole s with
    | some r => guardLimit r s
    | none => s

/-- ROUND_START (R124, R125, R133, R158, R159): round k begins, k from device time. `paux` is the class 0 demand the
device switches, `draw` its measured controlled draw and `intake0`, `intake1` the import power of its AC sets ovr the
round. -/
def execRoundStart (t paux : Nat) (draw : Int) (intake0 intake1 : Nat) (s : State) : Host.Outcome State Fault Refusal :=
  let s1 := rolesRoundStart (takeNeutral [0x0011, 0x0012] (reloadSluice (roundBegin paux (s.at t))))
  let s5 := splitGrant (takeGuard (guardRoot (fireEvent 78 (nodeRoundStart s1))))
  .next (sendIntake [intake0, intake1] (if leafNode s5 then s5 else sendDemand draw s5))

/-- LEAF_ROUND_START (R144, R489): a Fenline leaf's round starts; its increase comes into force and it sends its
demand. -/
def execLeafRoundStart (t paux : Nat) (draw : Int) (s : State) : Host.Outcome State Fault Refusal :=
  let s := s.at t
  if !leafNode s || s.fen.beaconLost then .next s
  else
    let a := autoJoin s
    let s1 := { a with slc.paux := paux, slc.round := devTime s / tRndNs s % 2 ^ 32 }
    .next (sendDemand draw (splitGrant (nodeRoundStart s1)))

/-! ### Messages received -/

/-- A dropped TC1 payload is counted (R165). -/
def dropTc1 (s : State) : State := { s with slc.drop := (s.slc.drop + 1) % 65536 }

/-- A round is at most one away from this device's own (R165); for a Fenline leaf, one leaf round of `u` rounds (R144). -/
def nearRound (s : State) (u k : Nat) : Bool :=
  decide ((k + 2 ^ 32 - s.slc.round) % 2 ^ 32 ≤ u) || decide ((s.slc.round + 2 ^ 32 - k) % 2 ^ 32 ≤ u)

/-- Rounds in a child's round: FEN_RND_MULT for a Fenline leaf (R144), else one. -/
def childUnit (s : State) (i : Nat) : Nat := if alBit s i 4 then leafMult s else 1

/-- Rounds in this node's own round. -/
def nodeUnit (s : State) : Nat := if leafNode s then nd s nFENMULT else 1

/-- The role of level `toLevel` that has the sender among its children, and the child's entry (R151, R165). -/
def findChild (s : State) (m : DemandMsg) : Option (Nat × Nat) :=
  ((hostedRoles s).filter (fun r => roleLevel s r == m.toLevel)).findSome? fun r =>
    ((children s r).find? (fun i =>
      al s i aKEY == m.node + (m.fromLevel - 1) * 4096 + 32768)).map fun i => (r, i)

/-- The fields of a demand are stored in the child's entry. -/
def storeDemand (i : Nat) (m : DemandMsg) (s : State) : State :=
  let s1 := m.demand.zipIdx.foldl (fun a p => alPut i ⟨24 + 4 * p.2, 4⟩ p.1 a) s
  let s2 := alPut i aCMIN m.cmin (alPut i aDRAW (unsigned 32 m.draw) (alPut i aRXROUND m.round s1))
  let s3 := alPut i aUPUS m.upUs (alPut i aDOWNUS m.downUs (alPut i aMISS 0 s2))
  if m.ack then alPut i aACKROUND m.ackRound s3 else s3

/-- The round trip to a Fenline leaf, µs (R492): this gateway's own measure, else what the leaf's gateway reports in its
TOPO record (log entry 61). -/
def leafTrip (s : State) (node : Nat) : Nat :=
  match s.fen.trips.find? fun p => p.1 == node with
  | some p => p.2
  | none => (s.ozl.topo.findSome? fun e => (e.ports.find? fun p => p.nbr == node && p.trip != 0).map (·.trip)).getD 0

/-- The Fenline leaf's round trip against a quarter of its leaf round (R145). -/
def checkFen (i : Nat) (s : State) : State :=
  if !alBit s i 4 then s
  else
    let ovr := decide (leafMult s * tRndNs s / 4 < leafTrip s (al s i aKEY % 4096) * 1000)
    let was := s.slc.slow.contains i
    if ovr && !was then slcError errFenSlow i { s with slc.slow := i :: s.slc.slow }
    else if !ovr && was then { s with slc.slow := s.slc.slow.filter (· != i) } else s

/-- Every hosted role's Fenline leaves are checked again: a route or a round trip changed (R145). -/
def recheckFen (s : State) : State :=
  (hostedRoles s).foldl (fun a r => ((children a r).filter fun i => !notJoined a i).foldl (fun b i => checkFen i b) a) s

/-- A child's hold ended (R135): it counts as not joined, has not left, and grants have been issued to it. -/
def holdEnded (s : State) (i : Nat) : Bool := notJoined s i && !alBit s i 3 && al s i aLEASEMAX != 0

/-- What is reserved until the next round start for a child that reports again (R136): its hold, or FLOOR where the hold has
ended. -/
def noteRejoin (i : Nat) (s : State) : State :=
  if alBit s i 1 then { s with slc.rejoin := (i, reserveOf s i) :: s.slc.rejoin }
  else if holdEnded s i then { s with slc.rejoin := (i, al s i aFLOOR) :: s.slc.rejoin }
  else s

/-- A child joins or reports (R122, R136): a held child is held no longer, its hold reserved until the next round start;
a child whose FLOOR or LIMIT differs from the table is refused. -/
def admitChild (r i : Nat) (m : DemandMsg) (s : State) : State :=
  if notJoined s i && (m.floor ≠ al s i aFLOOR ∨ m.limit ≠ al s i aLIMIT) then
    slcError errFloorMismatch i (tcSend 1 .grant (al s i aKEY % 4096) (al s i aKEY % 32768)
      (grantData (roleLevel s r) m.fromLevel s.slc.round false false true 0 0 (al s i aFLOOR)) (alPut i aRXROUND m.round s))
  else
    let s1 := alPut i aHOLD 0 (alSetBit i 1 false (alSetBit i 2 false (noteRejoin i s)))
    checkFen i (storeDemand i m (alSetBit i 0 true (alSetBit i 3 false s1)))

/-- A child leaves in an orderly way: it counts as not joined and is not held (R138, R158). -/
def childLeaves (i : Nat) (m : DemandMsg) (s : State) : State :=
  alSetBit i 0 false (alSetBit i 1 false (alSetBit i 2 false (alSetBit i 3 true (alSetBit i 5 false
    (alPut i aHOLD 0 (storeDemand i m s))))))

/-- Once every child has reported, the role forms its demand (R154). -/
def formIfIn (r : Nat) (s : State) : State :=
  if !s.slc.formed.contains r && (children s r).all (reported s) then formRole r s else s

/-- A demand of the child's round under way, or of the next, is taken (R144, R154): a leaf's that comes after its role has
formed the round's aggregate is noted as late, its leaf round being still under way (log entry 61). -/
def takeDemand (r i : Nat) (m : DemandMsg) (late : Bool) (s : State) : State :=
  let s1 := refreshBounds r (admitChild r i m { s with slc.lateLeaf := s.slc.lateLeaf.filter (· != i) })
  if late then { s1 with slc.lateLeaf := i :: s1.slc.lateLeaf } else formIfIn r s1

/-- DEMAND (R122, R136, R138, R144, R154, R165): stored, or dropped and counted; one that arrives after its round's
aggregate is formed counts as missing. The standby of a pair takes none (R20). -/
def execDemand (t : Nat) (m : DemandMsg) (s : State) : Host.Outcome State Fault Refusal :=
  let s := s.at t
  if standbyNode s then .next s
  else if m.typ ≠ 1 ∨ m.ver ≠ 1 then .next (dropTc1 s)
  else
    match findChild s m with
    | none => .next (dropTc1 s)
    | some (r, i) =>
      let u := childUnit s i
      let cur := s.slc.round - s.slc.round % u
      let late := m.round == cur && (s.slc.formed.contains r || cur != s.slc.round)
      if nearRound s u m.round = false then .next (dropTc1 s)
      else if m.leave then .next (formIfIn r (childLeaves i m s))
      else if (m.round != cur && notGreater m.round cur) || (late && u == 1) then .next s
      else .next (takeDemand r i m late s)

/-- ROLE_WAIT_EXPIRY (R135, R154): the wait bound ends; missing children are held and the aggregate is sent. -/
def execRoleWaitExpiry (t role : Nat) (s : State) : Host.Outcome State Fault Refusal :=
  let s := s.at t
  if roleValid s role && !standbyNode s && !s.slc.formed.contains role then .next (formRole role s) else .next s

/-- A role that has no grant of its own for the round still owes its children theirs: it has formed its demand, its lease
runs, and it has not allocated in this round (R124 step 4, R134, R137; log entry 53). -/
def passOwed (r : Nat) (s : State) : Bool :=
  s.slc.formed.contains r && !notGreater (rl s r rLEASEEND) s.slc.round && rl s r rPASSROUND != s.slc.round

/-- ROOT_PASS (R155, R159): the root allocates its limit to its children. At a role that is not the root it is the pass of a
round whose own grant has not come: the grant in force is allocated (R124, R137, log entry 53). -/
def execRootPass (t role : Nat) (s : State) : Host.Outcome State Fault Refusal :=
  let s := s.at t
  if standbyNode s then .next s
  else if roleValid s role && roleRoot s role then
    let a := if guardOn s role then s.slc.aRoot else rl s role rLIMIT
    .next (runPass role a (rlPut role rGRANTIN a s))
  else if roleValid s role && passOwed role s then .next (runPass role (rl s role rGRANTIN) s)
  else .next s

/-- A grant above one's own LIMIT is clamped, with its error (R130). -/
def clampGrant (limit g arg : Nat) (s : State) : Nat × State :=
  if limit < g then (limit, slcError errGrantOverLimit arg s) else (g, s)

/-- A grant arrived for a round of `u` Oluzel rounds that has ended (R144, R146). -/
def isLate (s : State) (u : Nat) (m : GrantMsg) : Bool := notGreater (roundPlus m.round u) s.slc.round

/-- The stale-lease notice (R126). -/
def staleNotice (m : GrantMsg) (arg : Nat) (s : State) : State :=
  if notGreater (roundPlus s.slc.round 3) m.leaseEnd then s else slcError errLeaseStale arg s

/-- What a grant raises before its value is taken: LATE_GRANT, or the notice of a stale lease (R126, R146). -/
def grantNotice (late : Bool) (m : GrantMsg) (arg : Nat) (s : State) : State :=
  if late then slcError errLateGrant arg s else staleNotice m arg s

/-- A grant to a hosted role (R125, R130, R146): its decrease is in force at once, its increase pending; then the
role's pass for the round (R155). The pass allocates the grant whole: the increases it hands on come into force at the
round start at which the role's own does (R124, R137, log entry 53). A late grant leaves a pending increase as it is. -/
def roleTake (late : Bool) (r : Nat) (m : GrantMsg) (s0 : State) : State :=
  let (g, s1) := clampGrant (rl s0 r rLIMIT) m.grant r s0
  let renews := !late && !notGreater m.leaseEnd s1.slc.round
  let cur := rl s1 r rGRANTIN
  if late then rlPut r rGRANTIN (min g cur) s1
  else
    let s2 := rlPut r rINC (if renews then g - cur else 0) (rlPut r rGRANTIN (min g cur) s1)
    let s3 := if renews then rlPut r rLEASEEND m.leaseEnd s2 else s2
    runPass r (rl s3 r rGRANTIN + rl s3 r rINC) s3

/-- A grant to a hosted role, with the notices it raises. -/
def roleGrant (r : Nat) (m : GrantMsg) (s : State) : State :=
  roleTake (isLate s 1 m) r m (grantNotice (isLate s 1 m) m r s)

/-- A grant to the device's node: it has joined, and enters M4 where that is asked for and allowed (R42, R138). -/
def enterOnGrant (s : State) : State :=
  let s1 := { s with slc.joined := true, slc.joining := false }
  if readyAsked s && readyAllowed s then setMode .m4 s1 else s1

/-- GRANT, INC and the ramp of the node where a grant `g` comes, by whether it renews the lease (R155, R163, R165); a late one
leaves a pending increase as it is (R146). -/
def grantValue (g : Nat) (late renews : Bool) (s1 : State) : State :=
  let cur := if s1.slc.ramping then effectiveGrant s1 else if s1.slc.joined then nd s1 nGRANT else nd s1 nFLOOR
  if s1.slc.ramping then
    (if renews then
      { ndPut nGRANT (min g cur) (ndPut nINC (g - cur) s1) with slc.ramping := false, slc.leaseValid := true }
     else if g < cur then { ndPut nINC 0 s1 with slc.rampBase := g, slc.rampFrom := s1.now }
     else ndPut nINC 0 s1)
  else if late then ndPut nGRANT (min g cur) s1
  else
    let s3 := ndPut nGRANT (min g cur) (ndPut nINC (if renews then g - cur else 0) s1)
    if renews then { s3 with slc.leaseValid := true } else s3

/-- The lease end of a grant that renews, and a leaf's acknowledgement of it (R155, R165). -/
def grantLease (m : GrantMsg) (renews : Bool) (s2 : State) : State :=
  let s4 := if renews then ndPut nLEASEEND m.leaseEnd s2 else s2
  if leafNode s4 then { s4 with slc.leafAck := true, slc.leafGrantRound := m.round } else s4

/-- The value and the lease of a grant to this device's L3 node (R125, R130, R133, R146). -/
def nodeTake (late : Bool) (m : GrantMsg) (s0 : State) : State :=
  let r := clampGrant (nd s0 nLIMIT) m.grant 0 s0
  let renews := !late && !notGreater m.leaseEnd r.2.slc.round
  splitGrant (enterOnGrant (mirrorSlc [] (grantLease m renews (grantValue r.1 late renews r.2))))

/-- A grant to this device's L3 node, with the notices it raises. -/
def nodeGrant (m : GrantMsg) (s : State) : State :=
  nodeTake (isLate s (nodeUnit s) m) m (grantNotice (isLate s (nodeUnit s) m) m 0 s)

/-- GRANT (R125, R130, R155, R163, R165): a payload for this node or for a role it hosts. The standby of a pair takes none
(R20). -/
def execGrant (t : Nat) (m : GrantMsg) (s : State) : Host.Outcome State Fault Refusal :=
  let s := s.at t
  if standbyNode s then .next s
  else if m.typ ≠ 2 ∨ m.ver ≠ 1 ∨ nearRound s (if m.toLevel = 3 then nodeUnit s else 1) m.round = false then .next (dropTc1 s)
  else if m.toLevel = 3 then
    if m.fromLevel ≠ nd s nPARENT / 4096 % 8 + 1 ∨ !(s.slc.joined || s.slc.joining) then .next (dropTc1 s)
    else
      let s1 := fireEvent 79 s
      if m.refused then .next s1 else .next (nodeGrant m s1)
  else
    match (hostedRoles s).find? (fun r => roleLevel s r == m.toLevel && !roleRoot s r
        && rl s r rPARENT / 4096 % 8 + 1 == m.fromLevel) with
    | none => .next (dropTc1 s)
    | some r =>
      let s1 := fireEvent 79 s
      if m.refused then .next s1 else .next (roleGrant r m s1)

/-- JOIN_TIMEOUT (R138, R501): no grant in 10 s after SYS_MODE_SET(M4): LEAVE, and OUTCOME 1. -/
def execJoinTimeout (t : Nat) (s : State) : Host.Outcome State Fault Refusal :=
  let s := s.at t
  match s.cfg.modeJob with
  | some (line, seq, 4) =>
    if s.sys.mode == .m3 && s.slc.joining && !s.slc.joined then
      .next (finishAccepted line seq { result := [1] } { leaveSluice s with cfg.modeJob := none })
    else .next s
  | _ => .next s

/-- INTAKE (R143, R164, R165): the root takes a set's report and adds its import energy to E_used. -/
def execIntake (t : Nat) (m : IntakeMsg) (s : State) : Host.Outcome State Fault Refusal :=
  let s := s.at t
  if standbyNode s then .next s
  else if m.typ ≠ 3 ∨ m.ver ≠ 1 ∨ nearRound s 1 m.round = false then .next (dropTc1 s)
  else
    match s.slc.sets.zipIdx.find? (fun p => p.1.node == m.node && p.1.set == m.set) with
    | none => .next (dropTc1 s)
    | some (x, j) =>
      let de := match x.lastE with
        | some e => (m.eImport + 2 ^ 48 - e) % 2 ^ 48
        | none => 0
      .next { s with slc.eUsed := (s.slc.eUsed + de) % 2 ^ 48,
                       slc.sets := s.slc.sets.modify j fun y =>
                       { y with lastP := m.pImport, lastE := some m.eImport, fresh := true } }

/-! ### Commands (R175, R506) -/

/-- SLC_STAT as a word. -/
def slcStatWord (s : State) : Nat :=
  packBits [(0, b2n s.slc.joined), (1, b2n s.slc.leaseValid), (2, b2n s.slc.ramping), (3, b2n (rootRole s).isSome),
    (4, b2n (leafNode s)), (16, (hostedRoles s).length)]

/-- SLC_STATUS (R506). -/
def execSlcStatus (t line seq : Nat) (s : State) : Host.Outcome State Fault Refusal :=
  .next (runCmd line seq 0x0401 neverIllegal (fun c s =>
    done c (([nd s nGRANT, effectiveGrant s, nd s nLEASEEND, s.slc.round, slcStatWord s, s.slc.float,
      floatDrawnAll s, s.slc.demandSent].map (leBytes 4)).flatten) s) (s.at t))

/-- SLC_TABLE_READ (R506): allocation entries, role entries or the node record. -/
def execSlcTableRead (t line seq : Nat) (s : State) : Host.Outcome State Fault Refusal :=
  .next (runCmd line seq 0x0402 neverIllegal (fun c s =>
    let tab := c.param 8 1
    let first := c.param 10 2
    let n := c.param 12 2
    if 3 ≤ tab then rejectRange c 8 s
    else if 4096 ≤ first then rejectRange c 10 s
    else if n < 1 || 512 < n || (tab < 2 && 4096 < first + n) then rejectRange c 12 s
    else if tab = 2 then doneOut c (leBytes 2 1) (nodeBytes s) s
    else doneOut c (leBytes 2 n) (memBytes s.mem (if tab = 0 then allocBase first else roleBase first) (128 * n)) s) (s.at t))

/-- SLC_MAP_READ (R506): the efficiency map bank in use. -/
def execSlcMapRead (t line seq : Nat) (s : State) : Host.Outcome State Fault Refusal :=
  .next (runCmd line seq 0x0403 neverIllegal
    (fun c s => doneOut c [s.slc.bank] (memBytes s.mem (mapBase s.slc.bank) 2048) s) (s.at t))

/-- SLC_CLASS_SET (R175, R506): the output's class from the next round. -/
def execSlcClassSet (t line seq : Nat) (s : State) : Host.Outcome State Fault Refusal :=
  .next (runCmd line seq 0x0405 neverIllegal (fun c s =>
    let n := c.param 8 1
    let k := c.param 9 1
    if 4 ≤ n then rejectRange c 8 s
    else if k < 2 || 7 < k then rejectRange c 9 s
    else done c [] { s with slc.op := upd s.slc.op n fun o => { o with clsNext := some k } }) (s.at t))

end Sys2Proof.Machine
end

