-- ==== Sys2Proof/Machine/Vcl.lean ====
section
/-! DEFINITION. Vehicle ports (12): pilot, proximity, SLAC, the session's states, vehicle messages and their checkpoints,
and the commands of R320. -/

namespace Sys2Proof.Machine

/-! ### Errors of SUBSYS 6 (R318) -/

def errPilotFault : ErrSpec := ⟨6, 1, 1⟩
def errSlacFail : ErrSpec := ⟨6, 2, 1⟩
def errNoProtocol : ErrSpec := ⟨6, 3, 1⟩
def errTlsFail : ErrSpec := ⟨6, 4, 1⟩
def errVclTimeout : ErrSpec := ⟨6, 5, 1⟩
def errLockFail : ErrSpec := ⟨6, 6, 2⟩
def errCkptMiss : ErrSpec := ⟨6, 8, 1⟩
def errWaitTimeout : ErrSpec := ⟨6, 9, 1⟩

/-- Port `n`. -/
def prt (s : State) (n : Nat) : Port := get s.vcl.port n

/-- Port `n` changed. -/
def setPrt (n : Nat) (f : Port → Port) (s : State) : State := { s with vcl.port := upd s.vcl.port n f }

/-- Event `e` of port `n` (R319). -/
def vclEvent (n e : Nat) (s : State) : State := fireEvent (288 + 8 * n + e) s

/-- An error of port `n` is raised, and its record kept as the port's last (R507). -/
def vclError (e : ErrSpec) (n : Nat) (s : State) : State :=
  let s1 := raiseError e n s
  let r := (s1.sys.errq.filter fun (r : ErrRec) => r.subsys == 6 && r.code == e.code).getLast?
  setPrt n (fun p => { p with lastErr := r.or p.lastErr }) s1

/-- VCL_Pn_CFG. -/
def vclCfg (s : State) (n : Nat) : Nat := rdw s (baseVCL + 0x100 + 0x40 * n)

/-- A protocol of VCL_Pn_SESS.PROTO is enabled on the port. -/
def protoEnabled (s : State) (n p : Nat) : Bool := 1 ≤ p && p ≤ 7 && bit (vclCfg s n) (3 + p - 1)

/-- The port has a control pilot (R297). -/
def hasPilot (s : State) (n : Nat) : Bool := connType s n == 1 || connType s n == 2

/-! ### Control pilot (R300 to R302) -/

/-- The accepted pilot state changes: CP_STATE. -/
def setPilot (n st : Nat) (s : State) : State :=
  if (prt s n).pilot == st then s else vclEvent n 0 (setPrt n (fun p => { p with pilot := st }) s)

/-- The pilot's duty is set: held at 0, state F, on a port out of service or unused (R300). -/
def setDuty (n duty : Nat) (s : State) : State :=
  let d := if (prt s n).disabled || connType s n == 0 then 0 else duty
  let s1 := mirrorLoad s (setPrt n (fun p => p.withDuty s.now d) s)
  if d == 0 then setPilot n 5 s1 else s1

/-- A duty at which the pilot runs its waveform (R300). -/
def pilotWave (d : Nat) : Bool := 10 ≤ d && d ≤ 969

/-- The level of CPn_PWM (R300): high, low, or a 1 kHz waveform whose periods start at whole milliseconds of block time (log
entry 62); a new duty applies from the next period start. -/
def cpHigh (s : State) (n : Nat) : Bool :=
  let p := prt s n
  let d := if pilotWave p.dutyWas && p.dutyAt / 1000000 == s.now / 1000000 then p.dutyWas else p.duty
  s.now % 1000000 < d * 1000

/-- CP_DUTY_SET (R300): from the next period start. -/
def execCpDutySet (t n duty : Nat) (s : State) : Host.Outcome State Fault Refusal := .next (setDuty n duty (s.at t))

/-- The high plateau's range of a pilot state, mV (R301). -/
def plateau : Nat → Int × Int
  | 0 => (10500, 100000)
  | 1 => (7500, 10500)
  | 2 => (4500, 7500)
  | 3 => (1500, 4500)
  | _ => (-1500, 1500)

/-- A high plateau is classified (R301): the present state holds within 0.2 V beyond its boundaries. -/
def classify (cur : Nat) (mv : Int) : Nat :=
  let inside := fun (st : Nat) (h : Int) => decide ((plateau st).1 - h ≤ mv) && decide (mv < (plateau st).2 + h)
  if cur < 5 && inside cur 200 then cur
  else ((List.range 5).find? fun st => inside st 0).getD 6

/-- While the output is energised, the pilot out of C and D or a faulty diode stops the session (R302). -/
def pilotGuard (n : Nat) (s : State) : State :=
  let p := prt s n
  if energised s n && hasPilot s n && ((p.pilot != 2 && p.pilot != 3) || p.diode) then stopSession n 3 false s else s

/-- A sample of the high plateau (R301): accepted after three in a row that agree. -/
def highSample (n : Nat) (mv : Int) (s : State) : State :=
  let p := prt s n
  let c := classify p.pilot mv
  let k := if p.pilotRun.1 == c then min 3 (p.pilotRun.2 + 1) else 1
  let s1 := setPrt n (fun q => { q with vHigh := mv, pilotRun := (c, k) }) s
  if k == 3 && c != p.pilot && p.duty != 0 then
    let s2 := setPilot n c s1
    pilotGuard n (if c == 4 || c == 6 then vclError errPilotFault n s2 else s2)
  else pilotGuard n s1

/-- A sample of the low plateau (R301): above -10.5 V for three periods of the waveform in state B, C or D, the diode is
faulty. -/
def lowSample (n : Nat) (mv : Int) (s : State) : State :=
  let p := prt s n
  let wave := pilotWave p.duty && 1 ≤ p.pilot && p.pilot ≤ 3
  let k := if wave && -10500 < mv then min 3 (p.lowRun + 1) else 0
  let s1 := setPrt n (fun q => { q with vLow := mv, lowRun := k, diode := q.diode && k != 0 }) s
  if k == 3 && !p.diode then pilotGuard n (vclError errPilotFault n (setPrt n (fun q => { q with diode := true }) s1)) else s1

/-- CP_SAMPLE (R301, R302). -/
def execCpSample (t n : Nat) (high : Bool) (mv : Int) (s : State) : Host.Outcome State Fault Refusal :=
  .next (if high then highSample n mv (s.at t) else lowSample n mv (s.at t))

/-! ### Proximity (R303) -/

/-- Band of a proximity voltage, mV. -/
def ppBand (s : State) (mv : Nat) : Nat :=
  if mv < param s pPP_T1 0 then 0 else if mv < param s pPP_T2 0 then 1 else if mv < param s pPP_T3 0 then 2 else 3

/-- Meaning of a band by the configuration (log entry 8). -/
def ppMeaning (s : State) (b : Nat) : Nat :=
  param s (match b with
    | 0 => pPP_BAND_0
    | 1 => pPP_BAND_1
    | 2 => pPP_BAND_2
    | _ => pPP_BAND_3) 0 % 4

/-- While the output is energised, RELEASE or FAULT stops the session (R302, R303). -/
def proximityGuard (n : Nat) (s : State) : State :=
  if energised s n && ((prt s n).meaning == 2 || (prt s n).meaning == 3) then stopSession n 3 false s else s

/-- PP_CONVERSION (R303): every 1 ms. -/
def execPpConversion (t n mv : Nat) (s : State) : Host.Outcome State Fault Refusal :=
  let s := s.at t
  let b := ppBand s mv
  .next (proximityGuard n (setPrt n (fun p =>
    { p with vPp := mv, bandNew := b, bandSince := if b == p.bandNew then p.bandSince else s.now }) s))

/-- A session begins (R306): its fields start anew. -/
def beginSession (n : Nat) (s : State) : State :=
  if (prt s n).sess == 0 && connType s n != 0 && !(prt s n).disabled then
    sessEnter n 1 (setPrt n (fun p =>
      { p with sessions := (p.sessions + 1) % 65536, reason := 0, portErr := false, authorised := false, discharging := false,
                 proto := 0, slacTries := 0, msgNo := 0, checked := false, relay := 0, relayBody := [], iReq := 0, vTgt := 0, vEvMax := 0,
                 iEvMax := 0, pEvMax := 0, iDisMax := 0, soc := 255, eTarget := 0, evMac := 0, evId := 0, idType := 0, ident := [],
                 heldRsp := none, lastRsp := [], stack := [], desync := false }) s)
  else s

/-- A change to CONNECTED (R303, R254, R264): the cable is authenticated and a mating is counted; a session begins. A
standby drives no cable (R267). -/
def ppConnected (n : Nat) (s : State) : State :=
  let s1 := if s.sys.mode == .m7 || s.dpx.role == 2 then s
    else setCbl n (fun o => { o with authRun := true, pend := upd o.pend 0 fun x => x + 1 }) s
  beginSession n s1

/-- NONE in any state but IDLE ends the session at once, with reason 3 (R303). -/
def ppNone (n : Nat) (s : State) : State :=
  let s1 := stopSession n 3 false s
  let st := (prt s1 n).sess
  if st == 1 || st == 11 || st == 15 then sessEnter n 0 s1 else s1

/-- PP_BAND_ACCEPT (R303): the band has stayed unchanged for 20 ms. -/
def execPpBandAccept (t n : Nat) (s : State) : Host.Outcome State Fault Refusal :=
  let s := s.at t
  let p := prt s n
  let m := ppMeaning s p.bandNew
  if s.now < p.bandSince + 20000000 || (p.bandNew == p.band && m == p.meaning) then .next s
  else
    let s1 := setPrt n (fun q => { q with band := q.bandNew, meaning := m }) s
    let s2 := if p.bandNew != p.band then vclEvent n 1 s1 else s1
    if m == 0 then .next (if p.sess != 0 then ppNone n s2 else s2)
    else if m == 1 then .next (if p.meaning != 1 then ppConnected n s2 else s2)
    else .next (proximityGuard n s2)

/-! ### SLAC (R304) -/

/-- ATTEN_MAX of the port, dB. -/
def attenMax (s : State) (n : Nat) : Nat := bits (vclCfg s n) 22 6

/-- SLAC_MESSAGE (R304): SLAC starts at 5 % in state B or C; a match within ATTEN_MAX sets a fresh network membership key and
its network identifier in the modem; a second vehicle is refused. -/
def execSlacMessage (t n : Nat) (msg : SlacMsg) (s : State) : Host.Outcome State Fault Refusal :=
  let s := s.at t
  let p := prt s n
  .next (match msg with
  | .start =>
    if connType s n == 1 && p.duty == 50 && (p.pilot == 1 || p.pilot == 2) && p.slac == 0 && p.slacTries < 3 then
      setPrt n (fun q => { q with slac := 1, slacTries := q.slacTries + 1 }) s
    else s
  | .matched atten =>
    if p.slac == 1 && atten ≤ attenMax s n then
      let k := drawTrng s
      let i := drawFree k.2
      vclEvent n 2 (setPrt n (fun q =>
        { q with slac := 2, atten := atten % 64, nmk := k.1 % 2 ^ 128, nid := i.1 % 2 ^ 54 }) i.2)
    else s
  | .secondVehicle => s)

/-- VCL_SLAC_FAIL (R304): the pilot stands at +12 V for 4 s; after the third attempt of the plug-in the session stops. -/
def execVclSlacFail (t n : Nat) (s : State) : Host.Outcome State Fault Refusal :=
  let s := s.at t
  .next (if (prt s n).slac == 1 then
    let s1 := vclError errSlacFail n (vclEvent n 2 (setDuty n 1000 (setPrt n (fun q => { q with slac := 3 }) s)))
    if 3 ≤ (prt s1 n).slacTries then stopSession n 11 true s1 else s1
  else s)

/-- SLAC_RETRY (R304): the 4 s are over, and SLAC retries at 5 %. -/
def execSlacRetry (t n : Nat) (s : State) : Host.Outcome State Fault Refusal :=
  let s := s.at t
  .next (if (prt s n).slac == 3 && (prt s n).slacTries < 3 then setDuty n 50 (setPrt n (fun q => { q with slac := 0 }) s) else s)

/-! ### Responses and checkpoints (R309, R314, R316) -/

/-- Maximum current reported to the vehicle, mA (R309). -/
def reportI (s : State) (n : Nat) : Nat := min (sop s n).icap (iRated s n)

/-- Maximum power reported to the vehicle, W (R309): the allowance plus the float not yet drawn, as of the last split of the
grant. -/
def reportP (s : State) (n : Nat) : Nat := (sop s n).pmax

/-- "Current limit achieved" (R309). -/
def limitAchieved (s : State) (n : Nat) : Bool := (sop s n).itgt < (sop s n).ireq

/-- Maximum discharge power reported to the vehicle, W (R310). -/
def reportExport (s : State) (n : Nat) : Nat := if bit (vclCfg s n) 21 then (prt s n).pExp else 0

/-- MAC address and IPv6 link-local address of a port (R296, log entry 8). -/
def portAddr (s : State) (n : Nat) : Nat × Nat :=
  match n with
  | 0 => (param s pVP0_MAC 0, param s pVP0_IP6 0)
  | 1 => (param s pVP1_MAC 0, param s pVP1_IP6 0)
  | 2 => (param s pVP2_MAC 0, param s pVP2_IP6 0)
  | _ => (param s pVP3_MAC 0, param s pVP3_IP6 0)

/-- The response as sent (R296, R307, R309, R310): what it carries beside the bytes the protocol stack composes — the port's
addresses, that the cable check is ongoing, limits and present values, in 44 bytes of the model's own (log entry 42) — and
those bytes. -/
def composeRsp (s : State) (n : Nat) (rsp : List Nat) : List Nat :=
  leBytes 6 (portAddr s n).1 ++ leBytes 16 (portAddr s n).2 ++ [b2n ((prt s n).sess == 4)] ++ leBytes 4 (reportI s n / 100)
    ++ leBytes 4 (reportP s n) ++ [b2n (limitAchieved s n)] ++ leBytes 4 (unsigned 32 (pout s n).vout)
    ++ leBytes 4 (unsigned 32 (pout s n).iout) ++ leBytes 4 (reportExport s n) ++ rsp

/-- A partner stands by (R314): this member is active, and the standby's role records arrive. -/
def hasStandby (s : State) : Bool := s.dpx.role == 1 && s.dpx.roleUp && s.dpx.partner.any fun r => r.role == 1

/-- FLAGS of a checkpoint (R316). -/
def ckptFlags (s : State) (n : Nat) : Nat :=
  let p := prt s n
  packBits [(0, b2n p.authorised), (1, b2n (sop s n).emergency), (2, b2n p.discharging), (3, b2n p.locked)]

/-- Bytes 20 to 27 (SESSION_ID) and 44 to 1,259 of a checkpoint (R316): the protocol stack's state, the vehicle's MAC, and the
modem's key and identifier. -/
def ckptRest (p : Port) : List Nat :=
  let st := p.stack ++ List.replicate (1192 - p.stack.length) 0
  st.take 8 ++ leBytes 6 p.evMac ++ [0, 0] ++ (st.drop 8).take 144 ++ leBytes 16 p.nmk ++ leBytes 7 p.nid ++ [0] ++ (st.drop 152).take 1040

/-- A checkpoint record (R316). -/
def ckptRec (s : State) (n : Nat) : List Nat :=
  let p := prt s n
  [n, p.sess, p.proto] ++ leBytes 4 p.ckptSeq ++ leBytes 4 p.msgNo ++ leBytes 8 (devTime s) ++ (ckptRest p).take 8
    ++ leBytes 4 (unsigned 32 p.iReq) ++ leBytes 4 p.vTgt ++ leBytes 4 (pout s n).vov ++ leBytes 4 (ckptFlags s n)
    ++ (ckptRest p).drop 8 ++ leBytes 2 p.lastRsp.length ++ [0, 0] ++ p.lastRsp

/-- A checkpoint record leaves for the standby (R314, R316). -/
def sendCkpt (n : Nat) (s : State) : State :=
  let s1 := setPrt n (fun p => { p with ckptSeq := (p.ckptSeq + 1) % 2 ^ 32 }) s
  mirrorSend 0x21 (ckptRec s1 n) s1

/-- A message boundary (R314): the response is held until its checkpoint is acknowledged, or released at once where there
is no standby. -/
def respond (n : Nat) (rsp : List Nat) (s : State) : State :=
  let full := composeRsp s n rsp
  let s1 := setPrt n (fun p => { p with lastRsp := full, msgs := (p.msgs + 1) % 65536, msgNo := (p.msgNo + 1) % 2 ^ 32 }) s
  if hasStandby s1 then setPrt n (fun p => { p with heldRsp := some full }) (sendCkpt n s1)
  else emit s1 .vehicle n (full.map Int.ofNat)

/-- A held response leaves. -/
def releaseRsp (n : Nat) (s : State) : State :=
  match (prt s n).heldRsp with
  | some r => emit (setPrt n (fun p => { p with heldRsp := none }) s) .vehicle n (r.map Int.ofNat)
  | none => s

/-- CKPT_ACK_TIMEOUT (R314): 100 µs without an acknowledgement. -/
def execCkptAckTimeout (t n : Nat) (s : State) : Host.Outcome State Fault Refusal :=
  let s := s.at t
  .next (if (prt s n).heldRsp.isSome then
    vclError errCkptMiss n (vclEvent n 7 (setPrt n (fun p => { p with desync := true }) (releaseRsp n s)))
  else s)

/-! ### The session's steps (R298, R306 to R308) -/

/-- A protocol is chosen: NEGOTIATE, and AUTH_REQ (R306, R308). -/
def chooseProto (n p : Nat) (s : State) : State :=
  vclEvent n 4 (sessEnter n 3 (setPrt n (fun q => { q with proto := p }) s))

/-- No protocol is common (R298). -/
def noProtocol (n : Nat) (s : State) : State := stopSession n 11 true (vclError errNoProtocol n s)

/-- The vehicle's entry with the best priority, 1 the best, among the protocols enabled; the first in the order of R297 among
equals (R298). -/
def bestProto (s : State) (n : Nat) (offers : List (Nat × Nat)) : Option Nat :=
  ((offers.filter fun o => protoEnabled s n o.2).foldl (fun (b : Option (Nat × Nat)) o =>
    match b with
    | none => some o
    | some x => if o.1 < x.1 || (o.1 == x.1 && o.2 < x.2) then some o else b) none).map Prod.snd

/-- APP_PROTOCOL_REQUEST (R298). -/
def execAppProtocolRequest (t n : Nat) (offers : List (Nat × Nat)) (s : State) : Host.Outcome State Fault Refusal :=
  let s := s.at t
  .next (if (prt s n).sess == 2 && hasPilot s n then
    match bestProto s n offers with
    | some p => respond n [p] (chooseProto n p s)
    | none => noProtocol n (respond n [0] s)
  else s)

/-- The vehicle asks for the cable check (R306, R307): WAIT_READY, where the lock is commanded. -/
def askCableCheck (n : Nat) (s : State) : State :=
  if (prt s n).sess == 3 then lswDrive (bits (vclCfg s n) 10 5) true (sessEnter n 4 s) else s

/-- CABLE_CHECK_REQUEST (R307). -/
def execCableCheckRequest (t n : Nat) (s : State) : Host.Outcome State Fault Refusal := .next (askCableCheck n (s.at t))

/-- The vehicle asks for precharge (R306, R379): the check is over, the output contactor is open again and, where the legal
partition is enabled, its session is published as open. -/
def askPrecharge (n g : Nat) (s : State) : State :=
  let p := prt s n
  if p.sess == 5 && p.checked && legalOk s && (pout s n).ins == .idle && !(pout s n).ctrCmd
      && (param s pLEGAL_ENABLE 0 == 0 || (get s.lgl.sess n).isSome) then
    trackRequest g n .coinOut (sessEnter n 6 s)
  else s

/-- PRECHARGE_REQUEST (R306): on the group that placement has connected. -/
def execPrechargeRequest (t n g : Nat) (s : State) : Host.Outcome State Fault Refusal := .next (askPrecharge n g (s.at t))

/-- A lock failure (R307, R312). -/
def lockFail (n : Nat) (s : State) : State := stopSession n 11 true (vclError errLockFail n s)

/-- LOCK_FEEDBACK (R306, R307, R312): the lock reads closed or open. Opened while energised, the session stops; opened in
UNLOCK, it ends. -/
def execLockFeedback (t n : Nat) (closed : Bool) (s : State) : Host.Outcome State Fault Refusal :=
  let s := s.at t
  let s1 := setPrt n (fun p => { p with locked := closed }) s
  .next (if closed then errCleared 6 6 n s1
    else if energised s1 n then lockFail n s1
    else if (prt s1 n).sess == 10 then sessEnter n (sessLast (prt s1 n)) s1
    else s1)

/-- LOCK_TIMEOUT (R307): not confirmed within LOCK_T of the lock command. -/
def execLockTimeout (t n : Nat) (s : State) : Host.Outcome State Fault Refusal :=
  let s := s.at t
  .next (if (prt s n).sess == 4 && !(prt s n).locked then lockFail n s else s)

/-- Placement has a group for the output (R307). -/
def groupForOutput (s : State) (n : Nat) : Bool :=
  (List.range 6).any fun g => pgOn s g && !groupExcluded s g && posUsable s g n

/-- Everything R307 asks for. -/
def waitMet (s : State) (n : Nat) : Bool :=
  (s.sys.mode == .m4 || s.sys.mode == .m5 || s.sys.mode == .m6) && s.slc.joined && legalOk s && cblReady s n
    && (prt s n).authorised && groupForOutput s n && (prt s n).locked

/-- WAIT_READY_MET (R307, R379, R214): CABLE_CHECK, where the legal pair is asked to open the session and the insulation check
of group `g` is requested. -/
def execWaitReadyMet (t n g vrref : Nat) (s : State) : Host.Outcome State Fault Refusal :=
  let s := s.at t
  .next (if (prt s n).sess == 4 && waitMet s n then
    insRequest n g vrref (lglRequest (.sessionOpen n (prt s n).proto) (sessEnter n 5 s))
  else s)

/-- VCL_WAIT_TIMEOUT (R307): longer than WAIT_MAX. -/
def execVclWaitTimeout (t n : Nat) (s : State) : Host.Outcome State Fault Refusal :=
  let s := s.at t
  .next (if (prt s n).sess == 4 then
    stopSession n (if (prt s n).authorised then 7 else 6) false (vclError errWaitTimeout n s)
  else s)

/-- CERT_RELAY (R308): the request waits for VEH_CERT_REPLY. -/
def execCertRelay (t n : Nat) (body : List Nat) (s : State) : Host.Outcome State Fault Refusal :=
  let s := s.at t
  .next (if 2 ≤ (prt s n).sess && (prt s n).sess ≤ 7 then
    let no := ((prt s n).relayNo + 1) % 2 ^ 32
    vclEvent n 6 (setPrt n (fun p => { p with relayNo := no, relay := no, relayBody := body }) s)
  else s)

/-- The relayed request is answered: with the host's reply, or with failure (R308). -/
def answerRelay (n : Nat) (ok : Bool) (reply : List Nat) (s : State) : State :=
  emit (setPrt n (fun p => { p with relay := 0, relayBody := [] }) s) .vehicle n ((b2n ok : Int) :: reply.map Int.ofNat)

/-- CERT_REPLY_TIMEOUT (R308). -/
def execCertReplyTimeout (t n : Nat) (s : State) : Host.Outcome State Fault Refusal :=
  let s := s.at t
  .next (if (prt s n).relay != 0 then answerRelay n false [] s else s)

/-- VCL_TIMEOUT (R311, R318): a protocol timer expires. -/
def execVclTimeout (t n : Nat) (s : State) : Host.Outcome State Fault Refusal :=
  let s := s.at t
  .next (if 2 ≤ (prt s n).sess && (prt s n).sess ≤ 8 then stopSession n 7 false (vclError errVclTimeout n s) else s)

/-- LOCK_RELEASE (R306, R312): V_out below 60 V with the contactor open; a lock that reads open already is released. -/
def execLockRelease (t n : Nat) (s : State) : Host.Outcome State Fault Refusal :=
  let s := s.at t
  let p := prt s n
  .next (if p.sess == 10 && (pout s n).vout < 60000 && !(pout s n).ctrFb then
    let s1 := lswDrive (bits (vclCfg s n) 10 5) false s
    if p.locked then s1 else sessEnter n (sessLast p) s1
  else s)

/-- CAP_ZERO_TIMEOUT (R260, R311): I_cap has stood at 0 for 10 s. -/
def execCapZeroTimeout (t n : Nat) (s : State) : Host.Outcome State Fault Refusal :=
  let s := s.at t
  .next (match (prt s n).capZero with
  | some t0 => if t0 + 10000000000 ≤ s.now then stopSession n 5 false s else s
  | none => s)

/-! ### Vehicle messages (R308 to R310) -/

/-- OV_MAX of an output, V. -/
def ovMax (s : State) (n : Nat) : Nat := rdf s (opAddr n + 0xC) 16 11

/-- A charge-loop request (R309, R310): I_req, the voltage target, and V_OV. A discharge is refused on a port without
EXPORT_ALLOWED. -/
def chargeLoop (n : Nat) (iReq : Int) (vTgt : Nat) (s : State) : State :=
  let dis := decide (iReq < 0) && bit (vclCfg s n) 21
  let i : Int := if iReq < 0 && !dis then 0 else iReq
  let s1 := setPrt n (fun p => { p with iReq := i, vTgt := vTgt, discharging := dis }) s
  let ov := min (ovMax s n * 1000) ((prt s n).vEvMax + param s pOV_MARGIN 0 * 1000)
  postRequest n i.toNat (setOut n (fun o => { o with vTarget := vTgt, vov := ov }) s1)

/-- What one vehicle message does (R306, R308, R309). -/
def vehicleAct (n : Nat) (req : VehReq) (s : State) : State :=
  let st := (prt s n).sess
  match req with
  | .handshake p =>
    if st == 2 && !hasPilot s n then (if protoEnabled s n p then chooseProto n p s else noProtocol n s) else s
  | .params v i p d soc e mac evId =>
    setPrt n (fun q => { q with vEvMax := v, iEvMax := i, pEvMax := p, iDisMax := d, soc := soc, eTarget := e, evMac := mac, evId := evId }) s
  | .contract ok =>
    if ok && bit (vclCfg s n) 20 && (st == 3 || st == 4) then setPrt n (fun q => { q with authorised := true }) s else s
  | .tls ok =>
    let s1 := setPrt n (fun q => { q with tls := ok }) s
    if ok then s1 else stopSession n 11 true (vclError errTlsFail n s1)
  | .cableCheck => askCableCheck n s
  | .precharge v =>
    let s1 := setPrt n (fun q => { q with vTgt := v }) s
    match carrying s1 n with
    | g :: _ => askPrecharge n g s1
    | [] => s1
  | .charge i v => if st == 7 then chargeLoop n i v s else s
  | .stop => stopSession n 1 false s
  | .other => s

/-- One vehicle message is processed and answered; `stack` is what the protocol stack then holds (R316). -/
def vehicleMsg (n : Nat) (req : VehReq) (stack rsp : List Nat) (s : State) : State :=
  respond n rsp (setPrt n (fun p => { p with stack := stack }) (vehicleAct n req s))

/-- VEHICLE_MESSAGE (R308, R309, R315): a retransmission of the message that LAST_RSP answers gets LAST_RSP again. A standby
only buffers frames (VEHICLE_FRAME_BUFFER). -/
def execVehicleMessage (t n : Nat) (req : VehReq) (again : Bool) (stack rsp : List Nat) (s : State) :
    Host.Outcome State Fault Refusal :=
  let s := s.at t
  let p := prt s n
  .next (if s.sys.mode == .m7 || p.rxOnly || !(2 ≤ p.sess && p.sess ≤ 9) then s
    else if again then emit s .vehicle n (p.lastRsp.map Int.ofNat)
    else vehicleMsg n req stack rsp s)

/-! ### The standby's ports (R315) -/

/-- VEHICLE_FRAME_BUFFER (R315): up to 64 frames or 64 KB. With no mirror, the standby acknowledges no checkpoint, and so takes
CKPT_DESYNC as set until it stores the next (log entry 65). -/
def execVehicleFrameBuffer (t n : Nat) (req : VehReq) (len : Nat) (stack rsp : List Nat) (s : State) :
    Host.Outcome State Fault Refusal :=
  let s := s.at t
  let p := prt s n
  .next (if s.sys.mode != .m7 then s
    else if 64 ≤ p.frames.length || 65536 < (p.frames.map (·.len)).foldl (· + ·) len then
      setPrt n (fun q => { q with frameOvf := true }) s
    else setPrt n (fun q =>
      { q with frames := q.frames ++ [{ req := req, len := len, stack := stack, rsp := rsp }], desync := q.desync || !s.dpx.roleUp }) s)

/-- The port's latest checkpoint is loaded (R315 step 1). -/
def loadCkpt (n : Nat) (c : Ckpt) (s : State) : State :=
  let r := fun o w => entryField c.rest o w
  let s1 := setPrt n (fun p =>
    { p with sess := c.state, proto := c.proto, ckptSeq := c.seq, msgNo := c.msgNo, iReq := c.iReq, vTgt := c.vTgt,
               authorised := bit c.flags 0, discharging := bit c.flags 2, locked := bit c.flags 3, evMac := r 8 6, nmk := r 160 16,
               nid := r 176 7, lastRsp := c.lastRsp, heldRsp := none,
               stack := c.rest.take 8 ++ (c.rest.drop 16).take 144 ++ (c.rest.drop 184).take 1040 }) s
  let s2 := setOut n (fun o => { o with vTarget := c.vTgt, vov := c.vOv }) s1
  postRequest n c.iReq.toNat { s2 with slc.op := upd s2.slc.op n fun o => { o with emergency := bit c.flags 1 } }

/-- A takeover at a port (R315): the checkpoint, then the buffered frames; without a usable checkpoint the session stops with
reason 10. -/
def takeSession (n : Nat) (s : State) : State :=
  let p := prt s n
  let clear := setPrt n fun q => { q with frames := [], frameOvf := false, rxOnly := false }
  match p.ckpt with
  | none => clear s
  | some c =>
    let s1 := loadCkpt n c (clear s)
    if sessOver c.state then s1
    else if p.desync || p.frameOvf then vclEvent n 7 (stopSession n 10 false s1)
    else p.frames.foldl (fun a f => vehicleMsg n f.req f.stack f.rsp a) s1

/-! ### Registers and commands (R320, R507) -/

/-- The VCL_Pn registers, base + 0x00 to base + 0x30. -/
def vclWords (s : State) (n : Nat) : List Nat :=
  let p := prt s n
  [vclCfg s n,
   packBits [(0, p.duty), (10, p.pilot), (13, b2n p.diode)],
   packBits [(0, unsigned 16 p.vHigh), (16, unsigned 16 p.vLow)],
   packBits [(0, p.vPp % 8192), (13, p.band), (15, p.meaning)],
   packBits [(0, p.slac), (2, p.atten), (8, b2n (get s.own.t1sUp n)), (9, b2n p.plca), (10, b2n p.tls), (11, b2n p.busoff)],
   packBits [(0, p.sess), (4, p.proto), (8, p.reason), (16, b2n p.authorised), (17, b2n p.discharging),
     (18, b2n (sop s n).emergency), (19, b2n p.locked), (20, b2n p.desync)],
   unsigned 32 p.iReq,
   packBits [(0, p.vTgt / 100 % 65536), (16, p.vEvMax / 100 % 65536)],
   if sessOver p.sess then 0 else min (reportI s n / 100) 65535,
   if sessOver p.sess then 0 else reportP s n % 2 ^ 32,
   p.pExp, p.ckptSeq, packBits [(0, p.msgs), (16, p.sessions)]]

/-- VCL_CTRL. -/
def vclCtrlWord (s : State) : Nat :=
  packBits [(0, maskOf ((List.range 4).map fun n => connType s n != 0)), (4, maskOf (s.vcl.port.toList.map (·.rxOnly)))]

/-- An error record as its 16 bytes (02, Error queue); zeros for none. -/
def errRecBytes : Option ErrRec → List Nat
  | none => List.replicate 16 0
  | some r => leBytes 4 r.seq ++ leBytes 8 r.time ++ leBytes 2 r.code ++ [r.subsys,
      packBits [(0, r.cls % 8), (3, b2n r.escalated), (4, b2n r.preempted), (5, b2n r.superseded)]]

/-- VEH_STATUS (R320, R507). -/
def execVehStatus (t line seq : Nat) (s : State) : Host.Outcome State Fault Refusal :=
  .next (runCmd line seq 0x0801 neverIllegal (fun c s =>
    doneOut c [] (((vclCtrlWord s :: ((List.range 4).map (vclWords s)).flatten).map (leBytes 4)).flatten) s) (s.at t))

/-- VEH_SESSION_READ (R320, R507). -/
def execVehSessionRead (t line seq : Nat) (s : State) : Host.Outcome State Fault Refusal :=
  .next (runCmd line seq 0x0802 neverIllegal (fun c s =>
    let n := c.param 8 1
    if 4 ≤ n then rejectRange c 8 s
    else
      let p := prt s n
      doneOut c [] (((vclWords s n).map (leBytes 4)).flatten ++ leBytes 4 p.vEvMax ++ leBytes 4 p.iEvMax ++ leBytes 4 p.pEvMax
        ++ leBytes 4 p.iDisMax ++ [p.soc, 0, 0, 0] ++ leBytes 4 p.eTarget ++ leBytes 6 p.evMac ++ [0, 0] ++ leBytes 16 p.evId
        ++ errRecBytes p.lastErr ++ leBytes 4 p.relay ++ leBytes 4 p.relayBody.length ++ p.relayBody) s) (s.at t))

/-- VEH_AUTHORIZE is accepted only in NEGOTIATE and WAIT_READY (R308). -/
def authorizeIllegal (c : Cmd) (s : State) : Bool :=
  c.param 8 1 < 4 && !((prt s (c.param 8 1)).sess == 3 || (prt s (c.param 8 1)).sess == 4)

/-- VEH_AUTHORIZE (R308, R320, R507): the identification is ID, or the payload where there is one. -/
def execVehAuthorize (t line seq : Nat) (s : State) : Host.Outcome State Fault Refusal :=
  .next (runCmd line seq 0x0803 authorizeIllegal (fun c s =>
    let n := c.param 8 1
    let d := c.param 9 1
    if 4 ≤ n then rejectRange c 8 s
    else if 1 < d then rejectRange c 9 s
    else if c.data == [] && 32 < c.param 11 1 then rejectRange c 11 s
    else
      let ident := if c.data != [] then c.data else (c.entry.drop 12).take (c.param 11 1)
      let s1 := setPrt n (fun p => { p with idType := c.param 10 1, ident := ident }) s
      done c [] (if d == 1 then setPrt n (fun p => { p with authorised := true }) s1 else stopSession n 6 false s1)) (s.at t))

/-- VEH_STOP (R311, R320, R507). -/
def execVehStop (t line seq : Nat) (s : State) : Host.Outcome State Fault Refusal :=
  .next (runCmd line seq 0x0804 neverIllegal (fun c s =>
    if 4 ≤ c.param 8 1 then rejectRange c 8 s else done c [] (stopSession (c.param 8 1) 2 false s)) (s.at t))

/-- VEH_EXPORT_SET on a port without EXPORT_ALLOWED (R507). -/
def exportIllegal (c : Cmd) (s : State) : Bool := c.param 8 1 < 4 && !bit (vclCfg s (c.param 8 1)) 21

/-- VEH_EXPORT_SET (R310, R320, R507). -/
def execVehExportSet (t line seq : Nat) (s : State) : Host.Outcome State Fault Refusal :=
  .next (runCmd line seq 0x0805 exportIllegal (fun c s =>
    let n := c.param 8 1
    if 4 ≤ n then rejectRange c 8 s
    else if 3750000 < c.param 12 4 then rejectRange c 12 s
    else done c [] (setPrt n (fun p => { p with pExp := c.param 12 4 }) s)) (s.at t))

/-- VEH_CERT_REPLY (R308, R320, R507): REF_LEN 0 answers with failure. -/
def execVehCertReply (t line seq : Nat) (s : State) : Host.Outcome State Fault Refusal :=
  .next (runCmd line seq 0x0806 neverIllegal (fun c s =>
    let n := c.param 8 1
    if 4 ≤ n then rejectRange c 8 s
    else if (prt s n).relay == 0 || c.param 12 4 != (prt s n).relay then rejectRange c 12 s
    else done c [] (answerRelay n (c.refLen != 0) c.data s)) (s.at t))

/-- VEH_PORT_ENABLE while the port's session is in states 2 to 10 (R320). -/
def portEnableIllegal (c : Cmd) (s : State) : Bool :=
  c.param 8 1 < 4 && 2 ≤ (prt s (c.param 8 1)).sess && (prt s (c.param 8 1)).sess ≤ 10

/-- VEH_PORT_ENABLE (R300, R320, R507): out of service, the pilot is at state F. -/
def execVehPortEnable (t line seq : Nat) (s : State) : Host.Outcome State Fault Refusal :=
  .next (runCmd line seq 0x0807 portEnableIllegal (fun c s =>
    let n := c.param 8 1
    if 4 ≤ n then rejectRange c 8 s
    else if 1 < c.param 9 1 then rejectRange c 9 s
    else
      let s1 := setPrt n (fun p => { p with disabled := c.param 9 1 == 0 }) s
      done c [] (setDuty n (idleDuty s1 n) s1)) (s.at t))

end Sys2Proof.Machine
end

