-- ==== Sys2Proof/Machine/Dpx.lean ====
section
/-! DEFINITION. The duplex pair (18): roles, the claim stream and its decoder, takeover, the mirror records, the planned
swap, and the commands of R477. -/

namespace Sys2Proof.Machine

/-! ### Errors of SUBSYS 12 (R475) -/

def errTakeover : ErrSpec := ⟨12, 1, 1⟩
def errDeposed : ErrSpec := ⟨12, 2, 1⟩
def errMirrorLost : ErrSpec := ⟨12, 3, 1⟩
def errPartnerSilent : ErrSpec := ⟨12, 4, 1⟩
def errSelLost : ErrSpec := ⟨12, 5, 2⟩
def errTakeoverFail : ErrSpec := ⟨12, 6, 3⟩
def errSwapFail : ErrSpec := ⟨12, 7, 1⟩
def errCfgMismatch : ErrSpec := ⟨12, 8, 1⟩

/-! ### Roles (R452, R453) -/

/-- DPX_CTRL.MEMBER: 0 not a pair, 2 A, 3 B. -/
def dpxMember (s : State) : Nat := rdf s baseDPX 0 2

/-- OZ3 is up. -/
def oz3Up (s : State) : Bool := (ozp s 3).up

/-- A role is taken: ROLE_STATE fires and the legal pair is told (R453, R476). -/
def setRole (r st : Nat) (s : State) : State :=
  let s1 := { s with dpx.role := r, dpx.st := st }
  let s2 := if s.dpx.role == r && s.dpx.st == st then s1 else fireEvent 450 s1
  if s.dpx.role == r then s2 else lglRequest (.role (r == 2)) s2

/-- The STATE of a standby changes (R465). -/
def setDpxSt (st : Nat) (s : State) : State := setRole s.dpx.role st s

/-- CRC-8 of R95 over bits, first bit first. -/
def crc8Bits (l : List Bool) : Nat :=
  l.foldl (fun x b => if (decide (x ≥ 128)) == b then 2 * x % 256 else (2 * x % 256) ^^^ 7) 0

/-- The bits of frame `hb` of the stream of claim `c` after its SYNC, most significant first (R458): HB, CLAIM_BYTE, CRC. -/
def claimBits (c hb : Nat) : List Bool :=
  let v := hb * 256 + bits c (8 * hb) 8
  let b := (List.range 10).map fun k => v.testBit (9 - k)
  b ++ (List.range 8).map fun k => (crc8Bits b).testBit (7 - k)

/-- The member starts its stream with claim `c` as the active (R458 to R460): four frames carry the number, over and over. -/
def startClaim (c : Nat) (s : State) : State :=
  let s1 := { s with dpx.claim := c, dpx.lastClaim := max s.dpx.lastClaim c, dpx.claiming := true, dpx.selSeen := s.dpx.selOk,
                       dpx.kickAt := s.now, dpx.left := false, dpx.claimAt := s.now }
  emit (setRole 1 0 s1) .claimFrame 0 (((List.range 4).map fun h => (claimBits c h).map fun b => (b2n b : Int)).flatten)

/-- The claim a member that takes the role makes (R460). DPX_LAST_CLAIM already covers the partner's known claims. -/
def nextClaim (s : State) : Nat := s.dpx.lastClaim + 1

/-- The role is claimed, or, with the claims exhausted, DPX_TAKEOVER_FAIL is raised (R460). -/
def claimRole (s : State) : State :=
  if nextClaim s < 2 ^ 32 then startClaim (nextClaim s) s else raiseError errTakeoverFail 0 (fireEvent 455 s)

/-- A vehicle port of a standby: receive-only, with no session of its own (R305, R315). -/
def Port.standby (p : Port) : Port :=
  { p with rxOnly := true, sess := 0, authorised := false, discharging := false, iReq := 0, heldRsp := none,
             desync := false, ckpt := none, frames := [], frameOvf := false, capZero := none, relay := 0, relayBody := [] }

/-- Nothing of the power stage is driven by a standby (R285, R455). -/
def PwmOut.standby (o : PwmOut) : PwmOut :=
  { o with energised := false, ctrCmd := false, opening := false, iref := 0, slewing := false, weldTest := false, ins := .idle }

/-- The member enters M7: it sends no stream, drives nothing, and its loops, ports and buses stand by (R241, R285, R305,
R333, R457). -/
def enterStandby (st : Nat) (s : State) : State :=
  let s1 := canStandby (setMode .m7 (dropGate (stopClaim s)))
  setRole 2 st
    { s1 with
        lpe.standby := true,
        vcl.port := updAll s1.vcl.port fun _ p => p.standby,
        pwm.out := updAll s1.pwm.out fun _ o => o.standby,
        pwm.pg := updAll s1.pwm.pg fun _ p => { p with mtxCmd := Vector.replicate 4 false, opening := none },
        lsw.ch := updAll s1.lsw.ch fun _ c =>
        { c with cmd := false, on := false, pickup := false, limiting := false, retryFrom := none },
        lsw.mOn := Vector.replicate 64 false, lsw.mEco := Vector.replicate 64 false,
        dpx.selSeen := false, dpx.takenAt := none, dpx.resyncPct := 0, dpx.pwmSt := [], dpx.load := none }

/-- The configuration versions of the two members differ (R452). -/
def versionsDiffer (s : State) : Bool := s.dpx.partner.any fun r => r.cfgVersion != s.cfg.version

/-- How long a member listens before it claims (R453): 20 ms; member B without OZ3, 200 ms. -/
def listenTime (s : State) : Nat := if dpxMember s == 3 && !s.dpx.pValid then 200000000 else 20000000

/-- DUPLEX_ROLE_DECIDE (R44, R452, R453): once the member has listened, with the partner's stream valid, the standby's M7, unless
the versions differ; else, OZ3 up, A is active and B waits; else the member is active. -/
def execDuplexRoleDecide (t : Nat) (s : State) : Host.Outcome State Fault Refusal :=
  let s := s.at t
  .next (if s.sys.mode != .m3 || s.dpx.role != 3 || m8Holds s || decide (s.now < s.dpx.decideAt + listenTime s) then s
    else if s.dpx.pValid then (if versionsDiffer s then s else enterStandby 1 s)
    else if oz3Up s && dpxMember s == 3 then s
    else claimRole s)

/-! ### Relinquishing (R461) -/

/-- The active gives the role up and enters M7 (R42, R461): a command still open on the pair completes with
DISCARDED_TAKEOVER. -/
def relinquish (st : Nat) (s : State) : State :=
  let s1 := enterStandby st s
  match s1.dpx.resyncJob with
  | some (line, seq) => finishAccepted line seq { status := stTakeover } { s1 with dpx.resyncJob := none }
  | none => s1

/-- An active relinquishes to M7 (R42): from M4, M5, M6 and M8; from M3 with the partner active and no cause of R44 other
than COMMAND standing. -/
def relinquishes (s : State) : Bool :=
  match s.sys.mode with
  | .m3 => s.dpx.pValid && !m8Holds s
  | .m4 | .m5 | .m6 | .m8 => true
  | _ => false

/-- The active gives up its role (R461): to M7 where R42 has the path; in M3 without it, its stream stops and its role is
decided anew once nothing stands against it (R44). -/
def giveUp (st : Nat) (s : State) : State := if relinquishes s then relinquish st s else startDeciding s

/-- The modes in which an active can be deposed (R42, R453, R461). -/
def canDepose (s : State) : Bool := relinquishes s || s.sys.mode == .m3

/-- The active decodes a valid partner stream whose claim exceeds its own (R461). During a planned swap the old active waits for
the selection it has to see (`SWAP_CONFIRM`). -/
def checkDeposed (s : State) : State :=
  if s.dpx.role == 1 && s.dpx.claiming && s.dpx.pValid && s.dpx.known && s.dpx.claim < s.dpx.pClaim && s.dpx.swap.isNone
      && canDepose s then
    raiseError errDeposed 0 (fireEvent 449 (giveUp 1 s))
  else s

/-! ### The claim decoder (R462) -/

/-- A good frame of the partner's stream. -/
def claimFrame (hb byte : Nat) (s : State) : State :=
  let d := s.dpx
  let broken := d.run != 0 && hb != (d.hb + 1) % 4
  let have0 := if broken then Vector.replicate 4 false else d.have4
  let bytes := upd d.bytes hb fun _ => byte
  let have1 := upd have0 hb fun _ => true
  let run := if broken then 1 else d.run + 1
  let whole := hb == 3 && have1.toList.all id
  let pc := if whole then leValue bytes.toList else d.pClaim
  { s with
      dpx.frameAt := s.now,
      dpx.hb := hb, dpx.run := run, dpx.bytes := bytes, dpx.have4 := have1, dpx.known := d.known || whole, dpx.pClaim := pc,
      dpx.lastClaim := if whole then max d.lastClaim pc else d.lastClaim, dpx.pValid := d.pValid || 2 ≤ run }

/-- CLAIM_FRAME_RX (R461, R462): a frame of the partner ends; one with a bad CRC counts as missing. -/
def execClaimFrameRx (t hb byte : Nat) (crcOk : Bool) (s : State) : Host.Outcome State Fault Refusal :=
  let s := s.at t
  .next (if crcOk then checkDeposed (claimFrame hb byte s) else s)

/-! ### Takeover (R467 to R469) -/

/-- Output contactor `n` is commanded closed in the mirrored load state. -/
def mirCtr (s : State) (n : Nat) : Bool :=
  s.dpx.load.any fun l => bit l.lswCmd (rdf s (opCtrAddr n) 8 5) && bit l.lswCmd (rdf s (opCtrAddr n) 16 5)

/-- Output `n` was energised on the failed active, as its mirror tells: its contactor commanded closed, and a group that
switches commanded onto it. -/
def mirEnergised (s : State) (n : Nat) : Bool :=
  mirCtr s n && s.dpx.pwmSt.any fun r => bit r.mtxCmd n && r.switching != 0

/-- Every load channel, MXP channel and pilot goes to its mirrored commanded state (R469). -/
def driveMirrored (s : State) : State :=
  match s.dpx.load with
  | none => s
  | some l =>
    let s1 := (List.range 32).foldl (fun a n =>
      lswReturn n (setCh n (fun c => { c with cmd := lswMode a n != 0 && bit l.lswCmd n }) a)) s
    let s2 := (List.range 4).foldl (fun a n => setDuty n (l.duty.getD n 0) a) s1
    { s2 with lsw.mOn := updAll s2.lsw.mOn fun k _ => bit l.mxpOn k, lsw.mEco := updAll s2.lsw.mEco fun k _ => bit l.mxpEco k,
                lsw.coilMiss := Vector.replicate 64 0 }

/-- The power stage as the mirror shows it: contactors commanded, groups placed, legs to start at the group's valley
(R468 step 6, R474). -/
def stageMirrored (s : State) : State :=
  let s1 := (List.range 4).foldl (fun a n => setOut n (fun o =>
    { o with ctrCmd := mirCtr s n, ctrFb := if ctrHasFb s n then o.ctrFb else mirCtr s n, energised := mirEnergised s n,
               slewing := mirEnergised s n }) a) s
  (s.dpx.pwmSt.zipIdx.take 6).foldl (fun a x =>
    let r := x.1
    let g := x.2
    let mask := (List.range 6).map fun j => bit r.switching j && !bit r.excluded j && legAvail a (6 * g + j)
    let a1 := setPg g (fun p => { p with u := r.u, mtxCmd := updAll p.mtxCmd fun n _ => bit r.mtxCmd n }) a
    markSet g
      { a1 with
          slc.pg := upd a1.slc.pg g fun p =>
          { p with mask := updAll p.mask fun j _ => mask.getD j false, legsTarget := (mask.filter id).length,
                     output := (List.range 4).find? fun n => bit r.mtxCmd n && mirEnergised s n } }) s1

/-- Every enabled slot starts warm, or again (R242). -/
def slotsMirrored (s : State) : State :=
  { s with
      lpe.standby := false,
      lpe.slot := updAll s.lpe.slot fun k x =>
      if slotOn s k then { x with warmDue := true, warmDone := false, cap := none, idle := false } else x }

/-- The ports leave receive-only, the PHYs of shared segments send their first beacon, and the sessions continue from their
checkpoints (R305, R315, R469). -/
def sessionsMirrored (s : State) : State :=
  (List.range 4).foldl (fun a n =>
    let a1 := if (prt a n).plca then emit a .plcaBeacon n [] else a
    takeSession n (setPrt n (fun p => { p with rxOnly := false }) a1)) s

/-- The mode a takeover leads to: M5, or M6 with a limitation standing, with an output energised and the legal pair ready
(R41); else M4 (R42), from which M5 or M6 follows with legal-ready (`settleLgl`). -/
def takeoverMode (s : State) : Mode :=
  if (List.range 4).any (mirEnergised s) && legalOk s then (if s.sys.lims.isEmpty then .m5 else .m6) else .m4

/-- What stood by runs again: loads, power stage, loops, sessions and CAN controllers (R333, R469). -/
def resume (s : State) : State :=
  recomputeAll (canTakeover <| sessionsMirrored (slotsMirrored (stageMirrored (driveMirrored
    { s with keeper.closeBlocked := false, tsu.stepOk := false }))))

/-- The standby takes over (R467 to R469): the commands consumed are discarded, it claims, and goes on in the failed
active's place. -/
def takeover (s : State) : State :=
  let s1 := claimRole s
  if !s1.dpx.claiming then s1
  else
    let m := takeoverMode s1
    let s2 := setMode m (discardAll stTakeover 0 s1)
    let s3 := resume { s2 with pwm.gateReq := m != .m4, dpx.takeovers := (s2.dpx.takeovers + 1) % 65536,
                                 dpx.toTime := devTime s2, dpx.takenAt := some s2.now }
    raiseError errTakeover 0 (fireEvent 448 s3)

/-- A trigger that a standby's mode does not allow is dropped and recorded (R43): M8, since a frozen device sees none. -/
def notAllowed (s : State) : State := if s.sys.mode == .m11 then s else dropTrigger s

/-- CLAIM_STREAM_DEAD (R43, R462, R467): the partner's stream misses its third frame, 6.2 µs after the last good one. Neither
member claims under a power warning (R474). -/
def execClaimStreamDead (t : Nat) (s : State) : Host.Outcome State Fault Refusal :=
  let s := s.at t
  let was := s.dpx.pValid
  let s1 := { s with dpx.pValid := false, dpx.known := false, dpx.run := 0, dpx.have4 := Vector.replicate 4 false }
  .next (if s.now < s.dpx.frameAt + 6200 then s
  else if was && s.dpx.role == 2 && !s.sys.powerWarn then
    (if s.sys.mode == .m7 then takeover s1 else notAllowed s1)
  else s1)

/-! ### The supervisor's refresh and the selection line (R459, R461, R468) -/

/-- DPX_KICK is written (R459): CLAIM_WD restarts. -/
def kickWrite (s : State) : State := { s with dpx.kickAt := s.now }

/-- DPX_KICK (R459). -/
def execDpxKick (t : Nat) (s : State) : Host.Outcome State Fault Refusal := .next (kickWrite (s.at t))

/-- CLAIM_WD_EXPIRY (R459): the supervisor has not written DPX_KICK within CLAIM_WD: the stream stops, and the keeper drops
GATE_EN. -/
def execClaimWdExpiry (t : Nat) (s : State) : Host.Outcome State Fault Refusal :=
  let s := s.at t
  .next (if s.dpx.claiming && s.dpx.kickAt + rdf s baseDPX 2 10 * 10000 ≤ s.now then dropGate (stopClaim s) else s)

/-- DPX_SEL_N_CHANGE (R461, R472): the line reads high, which arms the check and ends the wait of a takeover or a swap, whose
new active now drives the loads; or low, which starts the 10 µs. -/
def execDpxSelNChange (t : Nat) (high : Bool) (s : State) : Host.Outcome State Fault Refusal :=
  let s := s.at t
  let s1 := { s with dpx.selOk := high, dpx.selLowAt := if high then none else some s.now }
  .next (if high && s.dpx.role == 1 then
    let s2 := errCleared 12 5 0 (errCleared 12 6 0 { s1 with dpx.selSeen := true, dpx.takenAt := none })
    (if s2.dpx.swap == some none then
      fireEvent 453 (driveMirrored { s2 with
                                       dpx.swap := none, dpx.swaps := (s2.dpx.swaps + 1) % 65536, dpx.swapAt := devTime s2 })
     else s2)
  else s1)

/-- DPX_SEL_LOST (R461): 10 µs low on the active, after it has read high. -/
def execDpxSelLost (t : Nat) (s : State) : Host.Outcome State Fault Refusal :=
  let s := s.at t
  .next (if s.dpx.role == 1 && s.dpx.selSeen && !s.dpx.selOk && s.dpx.swap.isNone && canDepose s
      && (s.dpx.selLowAt.any fun a => decide (a + 10000 ≤ s.now)) then
    raiseError errSelLost 0 (fireEvent 455 (giveUp 3 s))
  else s)

/-- DPX_TAKEOVER_FAIL (R468): not selected 20 µs after the claim. -/
def execDpxTakeoverFail (t : Nat) (s : State) : Host.Outcome State Fault Refusal :=
  let s := s.at t
  .next (if s.dpx.role == 1 && (s.dpx.takenAt.any fun a => decide (a + 20000 ≤ s.now)) && !s.dpx.selOk then
    raiseError errTakeoverFail 0 (fireEvent 455 { s with dpx.takenAt := none })
  else s)

/-! ### The PWM_STATE record (R464) -/

/-- Device time of the last valley of a group: carriers run at whole multiples of the period (R456, R468). -/
def lastValley (s : State) (g : Nat) : Nat :=
  let p := 5 * pgPer s g
  if p = 0 then 0 else devTime s / p * p

/-- The PWM_STATE record (R464). -/
def pwmState (s : State) : List Nat :=
  List.replicate 7 0 ++ ((List.range 6).map fun g =>
    let p := pgr s g
    leBytes 8 (lastValley s g) ++ leBytes 2 (pgPer s g) ++ [maskOf ((legsOf g).map fun k => (legOf s k).st.running),
      maskOf ((legsOf g).map (legExcluded s))] ++ leBytes 4 (unsigned 32 p.u) ++ maskOf p.mtxCmd.toList :: List.replicate 7 0).flatten

/-! ### ROLE records (R452, R464, R465) -/

/-- ROLE of a ROLE record: 0 active, 1 standby, 2 deciding. -/
def roleCode (s : State) : Nat := if s.dpx.role == 1 then 0 else if s.dpx.role == 2 then 1 else 2

/-- What follows TYPE in this member's ROLE record (R464). -/
def roleRec (s : State) : List Nat :=
  [roleCode s, s.sys.mode.num, s.dpx.st] ++ leBytes 4 s.dpx.claim ++ leBytes 4 s.dpx.lastClaim ++ leBytes 4 s.cfg.version
    ++ leBytes 16 s.sys.ident.deviceId

/-- ROLE_SEND (R464): every 100 µs, over OZ3. -/
def execRoleSend (t : Nat) (s : State) : Host.Outcome State Fault Refusal :=
  let s := s.at t
  .next (if dpxMember s != 0 && oz3Up s && 3 ≤ s.sys.mode.num then
    mirrorSend 0x40 (roleRec s) s
  else s)

/-- The records of the full state transfer (R470), each with its TYPE: every role and allocation entry, the snapshots of the MIRROR
slots, the checkpoints of open sessions, and the latest PWM_STATE, LOAD_STATE, CBL_STATE and PREPAY. -/
def resyncRecs (s : State) : List (List Nat) :=
  let ports := List.range 4
  let entries := ((hostedRoles s).map fun r => (r, true) :: (children s r).map (·, false)).flatten
  [0x30 :: slcRec s entries]
    ++ ((List.range 64).filter (slotMirror s)).map (fun k => 0x31 :: snapRec s k (slotOf s k).mirRel)
    ++ (ports.filter fun n => (prt s n).sess != 0).map (fun n => 0x21 :: ckptRec s n)
    ++ [0x32 :: pwmState s, 0x33 :: loadStateRec s]
    ++ ports.map (fun n => 0x34 :: cableRec s n)
    ++ ports.filterMap fun n => (get s.lgl.prepay n).map fun p => 0x35 :: prepayRec s n p

/-- The full state transfer starts (R464, R470): RESYNC records, one PART a record, from OFFSET 0 (log entry 65). -/
def sendResync (s : State) : State :=
  (resyncRecs s).zipIdx.foldl (fun a x => mirrorSend 0x50 (0 :: leBytes 2 x.2 ++ leBytes 4 0 ++ x.1) a) s

/-- The active begins the full state transfer when the partner reports SYNCING or DEGRADED anew (R470). -/
def startResync (before : State) (st : Nat) (s : State) : State :=
  if s.dpx.role == 1 && (s.dpx.partner.any fun r => r.role == 1 && (r.st == 1 || r.st == 3))
      && (!before.dpx.roleUp || before.dpx.partner.all fun r => r.st != st) then sendResync s
  else s

/-- ROLE (R452, R460, R465, R470): the partner's role, claims and configuration version. A member that decides in M3 raises
DPX_CFG_MISMATCH once for a version that differs. -/
def execRole (t role mode st claim lastClaim cfgVersion deviceId : Nat) (s : State) : Host.Outcome State Fault Refusal :=
  let s := s.at t
  .next (if dpxMember s == 0 then s
    else
      let old := s.dpx.partner.map (·.cfgVersion)
      let s1 := { s with
                    dpx.partner := some { role := role, mode := mode, st := st, claim := claim, lastClaim := lastClaim,
                                            cfgVersion := cfgVersion, deviceId := deviceId },
                    dpx.roleUp := true, dpx.roleAt := s.now, dpx.lastClaim := max s.dpx.lastClaim (max claim lastClaim),
                    dpx.mismatch := s.dpx.mismatch && old == some cfgVersion && cfgVersion != s.cfg.version }
      if s1.sys.mode == .m3 && s1.dpx.role == 3 && cfgVersion != s1.cfg.version && !s1.dpx.mismatch then
        raiseError errCfgMismatch 0 { s1 with dpx.mismatch := true }
      else startResync s st s1)

/-- DPX_PARTNER_SILENT (R465): no ROLE record for 1 ms. -/
def execDpxPartnerSilent (t : Nat) (s : State) : Host.Outcome State Fault Refusal :=
  let s := s.at t
  .next (if s.dpx.roleUp && decide (s.dpx.roleAt + 1000000 ≤ s.now) then
    raiseError errPartnerSilent 0 (fireEvent 452 { s with dpx.roleUp := false })
  else s)

/-- DPX_MIRROR_LOST (R465): the standby's OZ3 is down, or ten ROLE records in a row are missing. -/
def execDpxMirrorLost (t : Nat) (s : State) : Host.Outcome State Fault Refusal :=
  let s := s.at t
  .next (if s.dpx.role == 2 && s.dpx.st != 3 && (!oz3Up s || decide (s.dpx.roleAt + 1000000 ≤ s.now)) then
    raiseError errMirrorLost 0 (fireEvent 451 (setDpxSt 3 s))
  else s)

/-! ### Mirror records on the standby (R464, R465) -/

/-- A record is for a standby alone. -/
def onStandby (f : State → State) (s : State) : State := if s.dpx.role == 2 then f s else s

/-- The legal pair of a standby records the session too (R379, R466): its supervisor passes the requests as the mirrored
session enters and leaves the energy states. -/
def mirrorSession (n proto old new : Nat) (s : State) : State :=
  let runs := fun (x : Nat) => 5 ≤ x && x ≤ 8
  if runs new && !runs old && (get s.lgl.sess n).isNone then lglRequest (.sessionOpen n proto) s
  else if !runs new && (get s.lgl.sess n).isSome && old != new && (runs old || old == 0) then lglRequest (.sessionClose n 0) s
  else s

/-- The frames a checkpoint covers leave the buffer (R315): those of the messages it counts beyond the last one, or, in a new
session, since its start. VCL_Pn_CKPT shows the checkpoint acknowledged, and the session is in step again (R314). -/
def coverFrames (c : Ckpt) (p : Port) : Port :=
  let done := match p.ckpt with
    | some o => if o.msgNo ≤ c.msgNo then c.msgNo - o.msgNo else c.msgNo
    | none => c.msgNo
  { p with ckpt := some c, ckptSeq := c.seq, desync := false, frames := p.frames.drop done,
           frameOvf := p.frameOvf && !sessOver c.state }

/-- A checkpoint is stored (R314, R315, R470). -/
def storeCkpt (n : Nat) (c : Ckpt) (s : State) : State :=
  mirrorSession n c.proto (((prt s n).ckpt.map (·.state)).getD 0) c.state (setPrt n (coverFrames c) s)

/-- A CKPT_ACK record (R464). -/
def ackCkpt (n seq : Nat) (s : State) : State := mirrorSend 0x22 ([n, 0, 0] ++ leBytes 4 seq) s

/-- CHECKPOINT (R314, R315, R464): stored and acknowledged. -/
def execCheckpoint (t n : Nat) (seq state proto msgNo time : Nat) (iReq : Int) (vTgt vOv flags : Nat) (rest lastRsp : List Nat)
    (s : State) : Host.Outcome State Fault Refusal :=
  .next (onStandby (fun s => ackCkpt n seq (storeCkpt n ⟨seq, state, proto, msgNo, time, iReq, vTgt, vOv, flags, rest, lastRsp⟩ s))
    (s.at t))

/-- CKPT_ACK (R314): the response leaves, and CKPT_DESYNC clears. -/
def execCkptAck (t n seq : Nat) (s : State) : Host.Outcome State Fault Refusal :=
  let s := s.at t
  .next (if s.dpx.role == 1 && (prt s n).ckptSeq == seq then releaseRsp n (setPrt n (fun p => { p with desync := false }) s) else s)

/-- Mirrored Sluice entries are stored. -/
def putEntries (entries : List SlcEntry) (s : State) : State :=
  entries.foldl (fun a e =>
    { a with mem := memWriteBytes a.mem (if e.isRole then roleBase e.index else allocBase e.index) e.bytes }) s

/-- The active's node state of an SLC_MIRROR (R133, R139): a lease that runs past the round gives the grant in force; one that has
ended leaves the ramp, from the effective grant the active had. -/
def takeNode (round : Nat) (node : List Nat) (s : State) : State :=
  let valid := !(notGreater (leValue ((node.drop 8).take 4)) round)
  { s with
    mem := memWriteBytes s.mem 0x50100014 node, slc.round := round, slc.joined := s.slc.joined || valid, slc.leaseValid := valid,
    slc.ramping := !valid, slc.rampBase := leValue ((node.drop 12).take 4), slc.rampFrom := s.now }

/-- SLC_MIRROR (R139, R464): the round, the node record's state and entries. -/
def execSlcMirror (t round : Nat) (node : List Nat) (entries : List SlcEntry) (s : State) : Host.Outcome State Fault Refusal :=
  .next (onStandby (fun s => putEntries entries (takeNode round node s)) (s.at t))

/-- A slot's snapshot goes to its mirror area (R241). -/
def putSnapshot (slot release : Nat) (out : Int) (states : List Nat) (s : State) : State :=
  let s1 := { s with mem := memWrite (memWrite s.mem (0x5800B000 + 16 * slot) 8 release) (0x5800B008 + 16 * slot) 4 (unsigned 32 out) }
  (slotSecs s slot).zipIdx.foldl (fun a x =>
    let f := fun o w => leValue ((states.drop (12 * x.2 + o)).take w)
    putSec mirBase x.1 { s1 := signed 32 (f 0 4), s2 := signed 32 (f 4 4), y := 0, e := signed 8 (f 8 1), sat := false,
                           clamped := false } a) s1

/-- LPE_SNAP (R241, R464). -/
def execLpeSnap (t slot nsec release : Nat) (out : Int) (states : List Nat) (s : State) : Host.Outcome State Fault Refusal :=
  .next (onStandby (fun s => if nsec == (slotSecs s slot).length then putSnapshot slot release out states s else s) (s.at t))

/-- PWM_STATE_SEND (R464): every 1 ms. -/
def execPwmStateSend (t : Nat) (s : State) : Host.Outcome State Fault Refusal :=
  let s := s.at t
  .next (if s.dpx.role == 1 then mirrorSend 0x32 (pwmState s) s else s)

/-- A PWM_STATE record is stored. -/
def storePwm (groups : List PwmGroupRec) (s : State) : State :=
  { s with dpx.pwmSt := groups.map fun r =>
             { valley := r.valley, per := r.per, switching := r.switching, excluded := r.excluded, u := r.u, mtxCmd := r.mtxCmd } }

/-- PWM_STATE (R456, R464): the active's carriers, switching sets and matrix commands. -/
def execPwmState (t : Nat) (groups : List PwmGroupRec) (s : State) : Host.Outcome State Fault Refusal :=
  .next (onStandby (storePwm groups) (s.at t))

/-- A LOAD_STATE record is stored. -/
def storeLoad (lswCmd pickupDone mxpOn mxpEco : Nat) (duty : List Nat) (s : State) : State :=
  { s with dpx.load := some { lswCmd := lswCmd, pickupDone := pickupDone, mxpOn := mxpOn, mxpEco := mxpEco, duty := duty } }

/-- LOAD_STATE (R464). -/
def execLoadState (t lswCmd pickupDone mxpOn mxpEco : Nat) (duty : List Nat) (s : State) : Host.Outcome State Fault Refusal :=
  .next (onStandby (storeLoad lswCmd pickupDone mxpOn mxpEco duty) (s.at t))

/-- A CBL_STATE record is stored. -/
def storeCable (n : Nat) (temps : List Int) (iCap : Nat) (pend : List Nat) (s : State) : State :=
  { s with
      cbl.op := upd s.cbl.op n fun o =>
      { o with temp := updAll o.temp fun k _ => ((temps.getD k 0 : Int) : Rat) / 1000, iCap := iCap,
                 pend := updAll o.pend fun k _ => ((pend.getD k 0 : Nat) : Rat) / 2 ^ 32 },
      slc.op := upd s.slc.op n fun o => { o with icap := iCap } }

/-- CBL_STATE (R457, R464): the cable model's states, the cap and the pending increments. -/
def execCblState (t n : Nat) (temps : List Int) (iCap : Nat) (pend : List Nat) (s : State) : Host.Outcome State Fault Refusal :=
  .next (onStandby (storeCable n temps iCap pend) (s.at t))

/-- A PREPAY record is stored: the port's account, the emergency credit left and the shortfall. -/
def storePrepay (n : Nat) (account emerg shortfall : Int) (flags : Nat) (s : State) : State :=
  let old := (get s.lgl.prepay n).getD {}
  let wh := (emerg.toNat + 999) / 1000
  { s with
      lgl.prepay := upd s.lgl.prepay n fun _ =>
      some { old with account := account, emergWh := wh, emerg := wh * 1000 - emerg.toNat, shortfall := shortfall.toNat },
      slc.op := upd s.slc.op n fun o => { o with emergency := bit flags 0 } }

/-- PREPAY (R464). -/
def execPrepay (t n : Nat) (account emerg shortfall : Int) (flags : Nat) (s : State) : Host.Outcome State Fault Refusal :=
  .next (onStandby (storePrepay n account emerg shortfall flags) (s.at t))

/-- LEAVE (R42, R43, R138, R454): the standby enters M3 and does not take over; it has left Sluice with its active. -/
def execLeave (t mode : Nat) (s : State) : Host.Outcome State Fault Refusal :=
  .next (onStandby (fun s =>
    if !(mode == 3 || mode == 9 || mode == 10) then s
    else if s.sys.mode == .m7 then
      fireEvent 450 (toM3 { s with dpx.left := true, lpe.standby := false, slc.joined := false, slc.joining := false,
                                     slc.leaseValid := false, slc.ramping := false })
    else notAllowed s) (s.at t))

/-! ### Resynchronisation (R470) -/

/-- A part of the transfer is stored as the record it carries (R470). -/
def storePart (part : ResyncPart) (s : State) : State :=
  match part with
  | .slc l => putEntries l s
  | .snap k nsec rel out st => if nsec == (slotSecs s k).length then putSnapshot k rel out st s else s
  | .ckpt n seq state proto msgNo time iReq vTgt vOv flags rest lastRsp =>
    storeCkpt n ⟨seq, state, proto, msgNo, time, iReq, vTgt, vOv, flags, rest, lastRsp⟩ s
  | .pwm groups => storePwm groups s
  | .load lswCmd pickupDone mxpOn mxpEco duty => storeLoad lswCmd pickupDone mxpOn mxpEco duty s
  | .cable n temps iCap pend => storeCable n temps iCap pend s
  | .prepay n account emerg shortfall flags => storePrepay n account emerg shortfall flags s

/-- RESYNC (R470): a part of the transfer is stored. -/
def execResync (t : Nat) (part : ResyncPart) (pct : Nat) (s : State) : Host.Outcome State Fault Refusal :=
  .next (onStandby (fun s => storePart part { s with dpx.resyncPct := pct }) (s.at t))

/-- RESYNC_DONE (R470, R501): the standby is READY; on the active, DPX_RESYNC completes. -/
def execResyncDone (t : Nat) (s : State) : Host.Outcome State Fault Refusal :=
  let s := s.at t
  .next (if s.dpx.role == 2 then
      (if oz3Up s then setDpxSt 2 { s with dpx.resyncPct := 100 } else s)
    else match s.dpx.resyncJob with
      | some (line, seq) => finishAccepted line seq {} { s with dpx.resyncJob := none }
      | none => s)

/-! ### The planned swap (R472, R473) -/

/-- SWAP_REQ (R43, R472): the standby starts its stream with the active's claim plus 1 and enters M4. -/
def execSwapReq (t claim : Nat) (s : State) : Host.Outcome State Fault Refusal :=
  .next (onStandby (fun s =>
    if s.sys.mode != .m7 then notAllowed s
    else if s.dpx.st == 2 && claim + 1 < 2 ^ 32 then
      setMode .m4 (startClaim (claim + 1)
        { s with dpx.swap := some none, lpe.standby := false,
                   vcl.port := updAll s.vcl.port fun _ p => { p with rxOnly := false } })
    else s) (s.at t))

/-- The old active sees its partner selected (R472): the partner's stream is valid with the higher claim, and the selectors no
longer select this member. -/
def partnerSelected (s : State) : Bool := s.dpx.pValid && s.dpx.known && decide (s.dpx.claim < s.dpx.pClaim) && !s.dpx.selOk

/-- SWAP_CONFIRM (R472): 1 ms after DPX_SWAP at the latest, the old active enters M7, or keeps its role with RESULT 1. -/
def execSwapConfirm (t : Nat) (s : State) : Host.Outcome State Fault Refusal :=
  let s := s.at t
  .next (match s.dpx.swap with
    | some (some (line, seq)) =>
      let s1 := { s with dpx.swap := none }
      if partnerSelected s then
        finishAccepted line seq { result := [0] } (fireEvent 453 (relinquish 1 { s1 with
                                                                                   dpx.swaps := (s.dpx.swaps + 1) % 65536, dpx.swapAt := devTime s }))
      else if s.dpx.swapFrom + 1000000 ≤ s.now then finishAccepted line seq { result := [1] } s1
      else s
    | _ => s)

/-- DPX_SWAP_FAIL (R472): the new active is not selected within 20 µs. -/
def execDpxSwapFail (t : Nat) (s : State) : Host.Outcome State Fault Refusal :=
  let s := s.at t
  .next (if s.dpx.swap == some none && !s.dpx.selOk && decide (s.dpx.claimAt + 20000 ≤ s.now) then
    raiseError errSwapFail 0 (enterStandby 3 { s with dpx.swap := none })
  else s)

/-- SWAP_DUE (R473). -/
def execSwapDue (t : Nat) (s : State) : Host.Outcome State Fault Refusal :=
  let s := s.at t
  .next (if s.dpx.role == 1 && rdf s baseDPX 12 12 != 0 then fireEvent 454 s else s)

/-! ### Registers and commands (R477, R508) -/

/-- DPX_STAT. -/
def dpxStatWord (s : State) : Nat :=
  let d := s.dpx
  packBits [(0, d.role), (2, d.st), (4, b2n d.claiming), (5, b2n d.pValid), (6, b2n d.selOk), (7, b2n (oz3Up s && d.roleUp)),
    (8, b2n d.left)]

/-- The DPX registers, offsets 0x0000 to 0x0028. -/
def dpxWords (s : State) : List Nat :=
  let d := s.dpx
  [rdw s baseDPX % 2 ^ 24, dpxStatWord s, d.claim, d.pClaim, d.lastClaim, 0, packBits [(0, d.takeovers), (16, d.swaps)],
    packBits [(0, min 65535 ((s.now - d.roleAt) / 1000)), (16, d.resyncPct)], d.toTime % 2 ^ 32, d.toTime / 2 ^ 32,
    min 65535 ((devTime s - d.swapAt) / 3600000000000)]

/-- The partner's last ROLE record, 32 bytes. -/
def roleBytes (s : State) : List Nat :=
  match s.dpx.partner with
  | none => List.replicate 32 0
  | some r => [0x40, r.role, r.mode, r.st] ++ leBytes 4 r.claim ++ leBytes 4 r.lastClaim ++ leBytes 4 r.cfgVersion
      ++ leBytes 16 r.deviceId

/-- DPX_STATUS (R508). -/
def execDpxStatus (t line seq : Nat) (s : State) : Host.Outcome State Fault Refusal :=
  .next (runCmd line seq 0x0D01 neverIllegal
    (fun c s => doneOut c [] (((dpxWords s).map (leBytes 4)).flatten ++ roleBytes s) s) (s.at t))

/-- DPX_SWAP is refused (R472): not the active, an output energised, the standby not READY, or OZ3 down. -/
def swapIllegal (_ : Cmd) (s : State) : Bool :=
  !(s.dpx.role == 1 && noneEnergised s && oz3Up s && s.dpx.roleUp && s.dpx.partner.any fun r => r.role == 1 && r.st == 2)

/-- SWAP_REQ with the active's claim leaves for the standby (R464, R472). -/
def sendSwapReq (s : State) : State := mirrorSend 0x41 ([0, 0, 0] ++ leBytes 4 s.dpx.claim) s

/-- DPX_SWAP (R472): ACCEPTED, and SWAP_REQ with the active's claim. -/
def execDpxSwap (t line seq : Nat) (s : State) : Host.Outcome State Fault Refusal :=
  .next (runCmd line seq 0x0D02 swapIllegal (fun c s =>
    accept c [] (sendSwapReq { s with dpx.swap := some (some (line, seq)), dpx.swapFrom := s.now })) (s.at t))

/-- There is no standby to resynchronise. -/
def resyncIllegal (_ : Cmd) (s : State) : Bool := !(oz3Up s && hasStandby s)

/-- DPX_RESYNC (R470, R501): ACCEPTED, and the transfer starts. -/
def execDpxResync (t line seq : Nat) (s : State) : Host.Outcome State Fault Refusal :=
  .next (runCmd line seq 0x0D03 resyncIllegal (fun c s =>
    accept c [] (sendResync { s with dpx.resyncJob := some (line, seq) })) (s.at t))

end Sys2Proof.Machine
end

