-- ==== Sys2Proof/Machine/Lgl.lean ====
section
/-! DEFINITION. The legal partition's commands (15): its requests, heartbeat, start-up and restart, the seal, boundaries,
saves and retries, legal time, the display and the optical port, and the commands of R405. -/

namespace Sys2Proof.Machine

/-- What waited for legal-ready (R41): M6 without a limitation goes to M5, and an output that a takeover found energised asks
for GATE_EN from M4. -/
def runReady (s : State) : State :=
  let s1 := leaveM6 s
  if s1.dpx.role == 1 && !noneEnergised s1 then requestGate s1 else s1

/-- What ends every command that the pair took part in: legal-ready (R368), and the errors it has published (R404). -/
def settleLgl (s : State) : State := runReady (flushLgl (legalUpdate s))

/-- The pair's domain has its rails and its clock: from M2 on, and not in M11. -/
def lglPowered (s : State) : Bool := 2 ≤ s.sys.mode.num && s.sys.mode != .m11

/-! ### Restore at the entry to M3 (R356, R348) -/

/-- The address of the save to restore from, and whether it is the periodic one (R356); none where no save exists. -/
def saveToRestore (s : State) : Option (Nat × Bool) :=
  match s.lgl.emgAt, s.lgl.perAt with
  | none, none => none
  | some _, none => some (0x90015000, false)
  | none, some _ => some (0x90011000 + 0x2000 * s.lgl.saveSlot, true)
  | some e, some p => if p < e then some (0x90015000, false) else some (0x90011000 + 0x2000 * s.lgl.saveSlot, true)

/-- Wide accumulators, tariff registers and MTR_LATCH_SEQ come back from a save record (R356, R383). The test pulses go
on from the values restored. -/
def restoreFrom (a : Nat) (s : State) : State :=
  let w : Vector Nat 40 := Vector.ofFn fun i => memRead s.mem (a + 72 + 12 * i.val) 12
  { s with mtr.wide := w, mtr.rem := Vector.replicate 40 0, lgl.tWide := w,
             mtr.latchSeq := memRead s.mem (a + 68) 4,
             lgl.treg := Vector.ofFn fun i => memRead s.mem (a + 552 + 8 * i.val) 8,
             mtr.tp := updAll s.mtr.tp fun _ p => { p with key := (99, 0) } }

/-- AC event records kept in the retention half join the queue (R348). -/
def requeueEvents (k : Nat) (s : State) : State :=
  (mac s k).kept.foldl (fun a e =>
    if 16 ≤ (mac a k).evq.length then raiseError errEvqOvf k (setMac k (fun c => { c with evqOvf := true }) a)
    else fireEvent (372 + k) (setMac k (fun c => { c with evq := c.evq ++ [e] }) a))
    (setMac k (fun c => { c with kept := [] }) s)

/-- What the entry to M3 from M2 restores of the metering (R354, R356, R362). -/
def restoreMtr (s : State) : State :=
  let s1 := requeueEvents 1 (requeueEvents 0 s)
  let s2 := if s1.mtr.restored then s1
    else match saveToRestore s1 with
      | none => fireEvent 376 { s1 with mtr.restored := true }
      | some (a, fb) =>
        let b := fireEvent 376 { restoreFrom a s1 with mtr.restored := true, mtr.fallback := fb,
                                                         mtr.boundNa := fb && s1.sys.rst.cold }
        if fb then raiseError errSaveFallback 0 (fireEvent 377 b) else b
  let s3 := { s2 with mtr.window60 := s2.sys.rst.powerLossRestart, sys.m3Time := devTime s2 }
  wideEvent s2 s3

/-! ### Requests (R367) -/

/-- A request that cannot be met is refused, and reported so (R367, R404). -/
def refuse (arg : Nat) (s : State) : State :=
  publish 0x17 1 arg { s with lgl.report := s.lgl.report.map fun r => (r.1, false) }

/-- The pair takes the request at the front of the ring where `f` is for its kind, and reports it (R367). -/
def takeRequest (f : LglReq → Option (State → State)) (s : State) : State :=
  if pairRuns s then
    (match s.lgl.ring with
     | r :: rest =>
       (match f r with
        | some g => settleLgl (g { s with lgl.ring := rest, lgl.report := some (r, true) })
        | none => s)
     | [] => s)
  else s

/-- SESSION_OPEN (R379): the start readings are taken and the session is published as open. -/
def execSessionOpen (t : Nat) (s : State) : Host.Outcome State Fault Refusal :=
  .next (takeRequest (fun r => match r with
    | .sessionOpen n proto => some fun s => if (get s.lgl.sess n).isSome || 4 ≤ n then refuse n s else openLegal n proto s
    | _ => none) (s.at t))

/-- SESSION_CLOSE (R379): end readings, signature and session record. -/
def execSessionClose (t : Nat) (s : State) : Host.Outcome State Fault Refusal :=
  .next (takeRequest (fun r => match r with
    | .sessionClose n reason => some fun s => if (get s.lgl.sess n).isNone then refuse n s else closeLegal n reason 0 0 s
    | _ => none) (s.at t))

/-- A legal parameter set goes into the other copy with the next GEN and its CRC (R386, R389). -/
def writeParams (data : List Nat) (s : State) : State :=
  let c := match s.lgl.copy with
    | some k => 1 - k
    | none => 0
  let g := (s.lgl.gen + 1) % 2 ^ 32
  let body := (data.take 4 ++ leBytes 4 g ++ data.drop 8).take 3452
  { s with mem := memWriteBytes s.mem (0x90001000 + 0x8000 * c) (withCrc body), lgl.copy := some c, lgl.gen := g }

/-- PARAM_LOAD (R389): the new copy, then PARAM_LOADED; a change of the tariff in force is a boundary; then the command
completes. -/
def execParamLoad (t : Nat) (s : State) : Host.Outcome State Fault Refusal :=
  .next (takeRequest (fun r => match r with
    | .paramLoad data line seq => some fun s =>
      let part := if s.sys.mode == .m9 then 1 else 2
      let s1 := writeParams data s
      let s2 := lglEvent 7 (leBytes 4 (legalPar s1 8 4) ++ leBytes 4 s1.lgl.gen ++ [part]) s1
      finishAccepted line seq { result := leBytes 4 s2.lgl.gen } (runBoundary false false s2)
    | _ => none) (s.at t))

/-- CAL_COMMIT (R350): the pair records the pending set, in force at the next latch tick; without one there is nothing
to record. -/
def execCalCommit (t : Nat) (s : State) : Host.Outcome State Fault Refusal :=
  .next (takeRequest (fun r => match r with
    | .calCommit line seq => some fun s =>
      match s.mtr.calNew with
      | some v => { s with mtr.calDue := some (v, (s.lgl.calSeq + 1) % 2 ^ 32, line, seq), mtr.calNew := none }
      | none => finishAccepted line seq { status := stIllegal } (refuse 0 s)
    | _ => none) (s.at t))

/-- ROLE_REQUEST (R367, R382): DUPLEX_STANDBY in later records, and a TAKEOVER event where the role changes. -/
def execRoleRequest (t : Nat) (s : State) : Host.Outcome State Fault Refusal :=
  .next (takeRequest (fun r => match r with
    | .role sb => some fun s =>
      let s1 := { s with lgl.standby := sb }
      if s.lgl.standby == sb then s1 else lglEvent 0xD [b2n sb] s1
    | _ => none) (s.at t))

/-! ### Legal time (R390, R391) -/

/-- d = UTC - L, ns. -/
def timeDiff (s : State) : Int := utcNs s - (legalNs s : Int)

/-- ADJ_LIMIT in ns: 2 s where no set is in force. -/
def adjLimit (s : State) : Int := ((if legalPar s 14 1 = 0 then 2 else legalPar s 14 1 : Nat) : Int) * 1000000000

/-- d is formed and acted on (R390): nothing, a slew, or a step that the next boundary makes. -/
def timeCheck (s0 : State) : State :=
  let s := rebase s0
  let d := timeDiff s
  if |d| ≤ 10000000 then { s with lgl.slew := 0, lgl.stepDue := false }
  else if |d| ≤ adjLimit s then
    { s with lgl.stepDue := false, lgl.slew := if 0 < d then 1 else -1,
               lgl.slews := if s.lgl.slew == 0 then (s.lgl.slews + 1) % 2 ^ 32 else s.lgl.slews }
  else { s with lgl.stepDue := true }

/-- TIME_INFO (R367, R390, R391): UTC offset and synchronisation state; the change to and from UNSYNC_TARIFF is a
boundary, and a step found as synchronisation returns joins it. -/
def execTimeInfo (t : Nat) (ofs : Int) (synced : Bool) (s : State) : Host.Outcome State Fault Refusal :=
  let s := rebase (s.at t)
  let s1 := { s with lgl.utcOfs := ofs, lgl.synced := synced, lgl.slew := if synced then s.lgl.slew else 0 }
  .next (if pairRuns s && s.lgl.synced != synced then
    let s2 :=
      if synced then
        timeCheck (lglEvent 0x10 (leBytes 8 (unsigned 64 (timeDiff s1 / 1000000))) s1)
      else lglEvent 0xF [] s1
    settleLgl (runBoundary false false s2)
  else s1)

/-- LEGAL_TIME_CHECK (R390): once per second of L, while synchronised. -/
def execLegalTimeCheck (t : Nat) (s : State) : Host.Outcome State Fault Refusal :=
  let s := s.at t
  .next (if pairRuns s && s.lgl.synced then timeCheck s else s)

/-- LEGAL_BOUNDARY (R394): what is due at this instant of L is processed as one boundary. -/
def execLegalBoundary (t : Nat) (s : State) : Host.Outcome State Fault Refusal :=
  let s := s.at t
  .next (if pairRuns s then settleLgl (runBoundary false false s) else s)

/-! ### Heartbeat (R368, R370, R44) -/

/-- LEGAL_LOST clears once the heartbeat has run for 1 s without a stop and legal-ready is set, or where the ACTIVE
configuration disables the legal partition (R44). -/
def legalFound (s : State) : State :=
  if (s.lgl.lost || s.sys.m8.legalLost) &&
      ((s.lgl.ready && !s.lgl.stalled && decide (s.lgl.hbSince + 1000000000 ≤ s.now)) || param s pLEGAL_ENABLE 0 == 0) then
    errCleared 8 0x18 0 (clearCause .legalLost { s with lgl.lost := false })
  else s

/-- LEGAL_HEARTBEAT (R370): the pair refreshes its heartbeat every 10 ms. -/
def execLegalHeartbeat (t : Nat) (s : State) : Host.Outcome State Fault Refusal :=
  let s := s.at t
  .next (if lglPowered s then
    legalFound (settleLgl { s with lgl.hbAt := s.now, lgl.hbSince := if s.lgl.stalled then s.now else s.lgl.hbSince,
                                     lgl.stalled := false })
  else s)

/-- LEGAL_HEARTBEAT_STALL (R368): still for 20 ms; the supervisor withdraws legal-ready. -/
def execLegalHeartbeatStall (t : Nat) (s : State) : Host.Outcome State Fault Refusal :=
  let s := s.at t
  .next (if lglPowered s then settleLgl { s with lgl.stalled := true } else s)

/-- LGL_LOST (R370): still for 100 ms; the partition is declared lost. -/
def execLglLost (t : Nat) (s : State) : Host.Outcome State Fault Refusal :=
  let s := s.at t
  .next (if lglPowered s then flushLgl (loseLegal { s with lgl.stalled := true }) else s)

/-! ### Restart of the pair (R369) -/

/-- LEGAL_RESTART_DONE (R369): LEGAL_RESTART is written, and a boundary that fell due is processed with RECOVERED. -/
def execLegalRestartDone (t : Nat) (s : State) : Host.Outcome State Fault Refusal :=
  let s := s.at t
  .next (if s.lgl.restarting then
    let s1 := { s with lgl.restarting := false, lgl.stalled := false, lgl.hbAt := s.now, lgl.hbSince := s.now }
    let s2 := if s1.lgl.startup then
        runBoundary false true (lglEvent 0xA [s1.lgl.restartCause] (publish 0x15 1 s1.lgl.restartCause s1))
      else s1
    settleLgl s2
  else s)

/-! ### The legal parameter set (R386, R387) -/

/-- A field of a byte list. -/
def fld (bs : List Nat) (o w : Nat) : Nat := leValue ((bs.drop o).take w)

/-- The points of profile `p` in use: MINUTE and TARIFF (R387). -/
def dayPoints (cal : List Nat) (p : Nat) : List (Nat × Nat) :=
  ((List.range 16).map fun j => (fld cal (16 + 64 * p + 4 * j) 2, fld cal (16 + 64 * p + 4 * j + 2) 1)).filter fun x => x.1 != 0xFFFF

/-- A list rises strictly. -/
def rises : List Nat → Bool
  | x :: y :: l => decide (x < y) && rises (y :: l)
  | _ => true

/-- A calendar block passes the validation of R387. -/
def calendarOk (cal : List Nat) : Bool :=
  let seasons := (List.range 4).filter fun k => fld cal (1040 + 12 * k) 1 != 0
  let specials := (List.range 64).filter fun e => fld cal (1088 + 8 * e + 2) 1 != 0
  let named := (seasons.map fun k => (List.range 7).map fun d => fld cal (1040 + 12 * k + 2 + d) 1).flatten
    ++ specials.map fun e => fld cal (1088 + 8 * e + 4) 1
  named.all (fun p => decide (p < 16) && (dayPoints cal p).any fun x => x.1 == 0)
    && (List.range 16).all (fun p => rises ((dayPoints cal p).map Prod.fst)
        && (dayPoints cal p).all fun x => decide (x.1 < 1440) && decide (x.2 < 8))
    && seasons != []
    && rises (seasons.map fun k => fld cal (1040 + 12 * k) 1 * 32 + fld cal (1040 + 12 * k + 1) 1)
    && seasons.all (fun k => decide (fld cal (1040 + 12 * k) 1 ≤ 12) && decide (1 ≤ fld cal (1040 + 12 * k + 1) 1)
        && decide (fld cal (1040 + 12 * k + 1) 1 ≤ 31))
    && specials.all (fun e => decide (fld cal (1088 + 8 * e + 2) 1 ≤ 12) && decide (1 ≤ fld cal (1088 + 8 * e + 3) 1)
        && decide (fld cal (1088 + 8 * e + 3) 1 ≤ 31))

/-- The ranges of R386 and the validation of its calendars. -/
def paramRangesOk (d : List Nat) : Bool :=
  decide (-840 ≤ signed 16 (fld d 12 2)) && decide (signed 16 (fld d 12 2) ≤ 840)
    && decide (1 ≤ fld d 14 1) && decide (fld d 14 1 ≤ 60)
    && decide (1 ≤ fld d 15 1) && decide (60 % fld d 15 1 = 0)
    && decide (fld d 16 1 < 16) && decide (fld d 17 1 < 8) && decide (2 ≤ fld d 18 1) && decide (fld d 18 1 ≤ 10)
    && decide (8 ≤ fld d 19 1) && decide (fld d 19 1 < 16) && decide (fld d 20 2 ≤ 3650)
    && fld d 56 8 == 0 && calendarOk ((d.drop 56).take 1696)
    && (fld d 1752 8 == 0 || calendarOk ((d.drop 1752).take 1696))

/-! ### Start-up (R366, R374, R375, R391, R395) -/

/-- The copy of the legal parameter set in force: the higher GEN among the copies that pass CRC and validation (R368, R374). -/
def chooseCopy (s : State) : State :=
  let gen := fun c => memRead s.mem (0x90001000 + 0x8000 * c + 4) 4
  let ok := fun c => paramCopyOk s c && paramRangesOk (memBytes s.mem (0x90001000 + 0x8000 * c) 3456)
  let best := (([0, 1] : List Nat).filter ok).foldl (fun (b : Option Nat) c =>
    match b with
    | some x => if gen x < gen c then some c else b
    | none => some c) none
  { s with lgl.copy := best, lgl.gen := (best.map gen).getD 0 }

/-- Log header copy `k` is valid (R375). -/
def logHeaderOk (s : State) (k : Nat) : Bool :=
  let a := 0x90000000 + 0x800 * k
  memRead s.mem a 4 == 0x54414550 && memRead s.mem (a + 60) 4 == crc32 (memBytes s.mem a 60)

/-- Where the tail scan begins, and the LSEQ it expects there: TAIL_HINT of the valid header copy with the higher HGEN; without
one, the start of the ring (R375). -/
def scanStart (s : State) : Nat × Nat :=
  let a := fun (k : Nat) => 0x90000000 + 0x800 * k
  let use := fun k => (memRead s.mem (a k + 28) 4, max 1 (memRead s.mem (a k + 32) 8))
  match logHeaderOk s 0, logHeaderOk s 1 with
  | true, true => use (if memRead s.mem (a 0 + 40) 4 < memRead s.mem (a 1 + 40) 4 then 1 else 0)
  | true, false => use 0
  | false, true => use 1
  | false, false => (0x20000, 1)

/-- Length of the ring record at an offset. -/
def recLen (s : State) (ofs : Nat) : Nat := memRead s.mem (0x90000000 + ofs + 4) 2

/-- The record at an offset counts: MAGIC, LSEQ and CRC pass (R375). -/
def ringRecOk (s : State) (ofs lseq : Nat) : Bool :=
  let a := 0x90000000 + ofs
  let len := recLen s ofs
  memRead s.mem a 2 == 0x7EA7 && decide (68 ≤ len) && decide (ofs + len ≤ s.lgl.ringEnd + 1) && memRead s.mem (a + 8) 8 == lseq
    && memRead s.mem (a + len - 4) 4 == crc32 (memBytes s.mem a (len - 4))

/-- The tail scan (R375, R395): from record to record until one fails; the last record that belongs to no open GROUP, by LSEQ
and offset. -/
def scanRing : Nat → Nat → Nat → Option (Nat × Nat) → State → Option (Nat × Nat)
  | 0, _, _, r, _ => r
  | fuel + 1, ofs, lseq, r, s =>
    let o := if ringRecOk s ofs lseq then ofs else 0x20000
    if ringRecOk s o lseq then
      scanRing fuel (o + recLen s o) (lseq + 1) (if bit (memRead s.mem (0x90000000 + o + 6) 2) 1 then r else some (lseq, o)) s
    else r

/-- What the scan finds is the newest record: all after it is torn, stale or uncommitted and does not count (R375, R395). LSEQ and
the hash chain of records that could not be written and are kept stand (R376). -/
def takeTail (found : Option (Nat × Nat)) (s : State) : State :=
  match found with
  | some (l, o) =>
    if s.lgl.kept.isEmpty then
      { s with lgl.lseq := l, lgl.tail := o + recLen s o, lgl.prev := sha256 (memBytes s.mem (0x90000000 + o) (recLen s o)),
                 lgl.index := s.lgl.index.filter fun r => decide (r.1 ≤ l) }
    else s
  | none => s

/-- The scan for the newest record from where it starts, over at most every place of the ring. -/
def tailScan (s : State) : State :=
  takeTail (scanRing (ringSize s / 68) (scanStart s).1 (scanStart s).2 none s) s

/-- Address of the newest ring record. -/
def newestRec (s : State) : Option Nat := s.lgl.index.getLast?.map fun r => 0x90000000 + r.2.2.1

/-- L at start-up (R391): UTC where synchronised; else the LTIME of the newest ring record plus the device time since
it, as far as device time is continuous. -/
def startClock (s : State) : State :=
  let l : Nat :=
    if s.lgl.synced then (utcNs s).toNat
    else match newestRec s with
      | some a =>
        let since := devTime s - memRead s.mem (a + 24) 8
        memRead s.mem (a + 16) 8 * 1000000 + if s.sys.rst.cold then 0 else since
      | none => s.lgl.lBase
  { s with lgl.lBase := l, lgl.lAt := devTime s, lgl.slew := 0 }

/-- t_stop of R358: the PFW_N time, else the last 1 ms record plus 1 ms; where retention SRAM was lost, the time of the
save. -/
def stopTime (s : State) (save : Nat) : Nat :=
  if s.sys.rst.cold then memRead s.mem (save + 24) 8 else s.lgl.pfwAt.getD (s.lgl.hiAt + 1000000)

/-- Legal time of the stop, ms (R395). -/
def stopLegal (s : State) (save : Nat) : Nat :=
  memRead s.mem (save + 16) 8 + (stopTime s save - memRead s.mem (save + 24) 8) / 1000000

/-- V_OUT_MAX of an output, V. -/
def voutMax (s : State) (n : Nat) : Nat := rdf s (opAddr n + 0xC) 0 11

/-- E_bound of R358 in µWh, rounded up: 0 where the emergency save was restored, all ones where no bound can be
formed. -/
def lossBound (s : State) (save : Nat) (fallback : Bool) (n : Nat) : Nat :=
  if !fallback then 0
  else if s.sys.rst.cold then 0xFFFFFFFFFFFFFFFF
  else
    let dt := stopTime s save - memRead s.mem (save + 24) 8
    (get s.lgl.hiP n * dt * 1000 + iRated s n * voutMax s n * 1000000 + 3599999999) / 3600000000

/-- Boundaries due between two instants of L are written with RECOVERED, minute by minute (R395). -/
def recoverUpTo : Nat → Nat → Nat → State → State
  | 0, _, _, s => s
  | fuel + 1, at', stop, s =>
    let m := (at' / 60000 + 1) * 60000
    let act := legalPar s 1752 8
    let c := if act != 0 && decide (at' < act) && decide (act < m) then act else m
    if stop < c then s
    else
      let causes : BCauses :=
        { intervalEnd := decide (nextEnd s s.lgl.iStart ≤ c), calendar := act != 0 && decide (act ≤ c),
            tariff := tariffAt s c != s.lgl.tariff }
      let s1 := if causes.any then doBoundary causes true c s else s
      recoverUpTo fuel c stop s1

/-- SYS_RST_CAUSE (R48). -/
def rstCauseWord (s : State) : Nat :=
  let r := s.sys.rst
  packBits [(0, b2n (r.kind == .powerOn && r.cold)), (1, b2n (r.kind == .powerOn && !r.cold)), (2, b2n (r.kind == .pin)),
    (3, b2n (r.kind == .clockLoss)), (4, b2n (r.kind == .heartbeat)), (5, b2n (r.kind == .watchdog)),
    (6, b2n (r.kind == .software)), (7, b2n (r.kind == .debug)), (8, b2n (r.kind == .escalation)),
    (9, b2n (r.kind == .lockstep)), (10, b2n r.outputsOn), (11, b2n r.powerLossRestart), (12, b2n r.holdActive)]

/-- The restart record and its RESTART event (R384, R382). -/
def restartRecord (save : Nat) (fallback recovered : Bool) (s : State) : State :=
  let bounds := ((List.range 4).map fun n => leBytes 8 (lossBound s save fallback n)).flatten
  let s1 := ringAppend 6 (recFlags false false s) (legalMs s) (leBytes 2 (rstCauseWord s)
    ++ leBytes 2 (packBits [(0, b2n fallback), (1, b2n (fallback && s.sys.rst.cold)), (2, b2n recovered)])
    ++ leBytes 4 0 ++ leBytes 8 (memRead s.mem (save + 16) 8) ++ leBytes 8 (stopTime s save) ++ bounds ++ leBytes 4 0) s
  lglEvent 1 (leBytes 8 s1.lgl.lseq) s1

/-- LTIME_NEW of the last committed boundary (R393); 0 where the ring holds none. -/
def lastBoundary (s : State) : Nat :=
  match s.lgl.index.reverse.find? fun r => memRead s.mem (0x90000000 + r.2.2.1 + 2) 1 == 4 with
  | some r => memRead s.mem (0x90000000 + r.2.2.1 + 84) 8
  | none => 0

/-- The boundaries due after the last committed one and at or before the stop are written (R395), with the calendar as it was
applied then. -/
def recoverBoundaries (save : Nat) (s : State) : State :=
  let stop := stopLegal s save
  let wasSynced := match newestRec s with
    | some a => !(bit (memRead s.mem (a + 6) 2) 3)
    | none => false
  let start := max s.lgl.iStart (lastBoundary s)
  if s.lgl.iseq = 0 then s
  else recoverUpTo ((stop - start) / 60000 + 3) start stop { s with lgl.synced := wasSynced }

/-- Reconstruction of the interval and the boundaries up to the stop (R395), then the next interval with SPLIT_START. -/
def reconstruct (save : Nat) (s : State) : State :=
  let s1 := if s.lgl.iseq = 0 then s
    else
      let b := closeInterval 4 true (stopLegal s save) (recoverBoundaries save s)
      { b with lgl.synced := s.lgl.synced, lgl.lBase := s.lgl.lBase, lgl.lAt := s.lgl.lAt }
  openInterval 1 (legalMs s1) s1

/-- The sessions open at the stop are closed (R380, R395). -/
def closeOld (code save : Nat) (fallback : Bool) (s : State) : State :=
  (List.range 4).foldl (fun a n =>
    closeLegal n code (1 + if fallback && a.sys.rst.cold then 2 else 0) (lossBound a save fallback n) a) s

/-- What follows a restart that reached the pair (R366, R395). -/
def startRecords (s : State) : State :=
  let s1 := if s.lgl.check != s.lgl.lastCheck && s.lgl.lseq != 0 then
      lglEvent 9 (leBytes 8 s.lgl.lastCheck ++ leBytes 8 s.lgl.check) s else s
  match saveToRestore s1, s1.lgl.closeAtRestart with
  | some (a, fb), some code =>
    let s2 := reconstruct a s1
    let recovered := (recoverBoundaries a s1).lgl.lseq != s1.lgl.lseq
    let s3 := closeOld code a fb (restartRecord a fb recovered s2)
    if recovered then publish 0x14 1 0 s3 else s3
  | none, some code => closeOld code 0x90011000 true (openInterval 1 (legalMs s1) s1)
  | _, none => if s1.lgl.iseq = 0 then
      let a := openInterval 1 (legalMs s1) s1
      { a with lgl.tariff := tariffAt a (legalMs a) } else s1

/-- LEGAL_STARTUP_DONE (R368, R374, R375, R395): with 4 to 256 MB of xSPI1 fitted, the pair has found its tail and
writes what the start-up owes; then it is started. -/
def execLegalStartupDone (t : Nat) (s : State) : Host.Outcome State Fault Refusal :=
  let s := s.at t
  .next (if lglPowered s && 3 ≤ s.sys.mode.num && !s.lgl.startup && decide (0x3FFFFF ≤ s.lgl.ringEnd)
      && decide (s.lgl.ringEnd < 0x10000000) then
    let s1 := startRecords (startClock (chooseCopy (tailScan s)))
    settleLgl { s1 with lgl.startup := true, lgl.closeAtRestart := none, lgl.pfwAt := none, lgl.stalled := false,
                          lgl.hbAt := s1.now, lgl.hbSince := s1.now }
  else s)

/-! ### Seal (R371, R372) -/

/-- SEAL_CHANGE (R42, R372): SEAL_OPEN or SEAL_CLOSE is written; outside M9 an opening raises LGL_SEAL_OPEN; a closing
in M9 takes the device to M3. -/
def execSealChange (t : Nat) (isOpen : Bool) (s : State) : Host.Outcome State Fault Refusal :=
  let s := s.at t
  .next (if s.lgl.sealOpen == isOpen then s
  else
    let s1 := { s with lgl.sealOpen := isOpen }
    let s2 := if pairRuns s1 then
        (if !isOpen then lglEvent 5 [] s1 else if s1.sys.mode == .m9 then s1 else lglEvent 4 [s1.sys.mode.num] s1) else s1
    let s3 := if isOpen && s2.sys.mode != .m9 && pairRuns s2 then publish 0x10 1 0 s2 else s2
    let s4 := settleLgl s3
    if !isOpen && s4.sys.mode == .m9 then toM3 s4 else s4)

/-! ### Retries and saves (R357, R376) -/

/-- A write passes its read-back with LGL_LOG_ERR standing (R376): the kept records go first, where the ring has room. -/
def logRetried (s : State) : State :=
  if s.lgl.logErr then
    let s1 := writeKept s
    if s1.lgl.logErr then s1 else errCleared 8 0x13 0 s1
  else s

/-- LOG_RETRY (R34, R376): every 1 s the pair tries again; `ok` is the read-back. -/
def execLogRetry (t : Nat) (ok : Bool) (s : State) : Host.Outcome State Fault Refusal :=
  let s := s.at t
  .next (if pairRuns s then (if ok then settleLgl (logRetried s) else xsp1Err s) else s)

/-- PERIODIC_SAVE (R357, R376): every SAVE_PER; `ok` is the read-back of the write. A power warning's emergency save
comes first. -/
def execPeriodicSave (t : Nat) (ok : Bool) (s : State) : Host.Outcome State Fault Refusal :=
  let s := s.at t
  .next (if pairRuns s && lglPowered s && !s.lgl.emgDue then
    settleLgl (if ok then periodicSave (logRetried s) else logFails (xsp1Err s))
  else s)

/-! ### Display and optical port (R399 to R402) -/

/-- A string as its ASCII codes. -/
def asc (x : String) : List Nat := x.toList.map Char.toNat

/-- A number in decimal. -/
def decText (n : Nat) : List Nat := (Nat.toDigits 10 n).map Char.toNat

/-- A number as two decimal digits. -/
def dec2 (n : Nat) : List Nat := [48 + n / 10 % 10, 48 + n % 10]

/-- A hexadecimal digit, uppercase. -/
def hexChar (n : Nat) : Nat := if n < 10 then 48 + n else 55 + n

/-- Bytes as uppercase hexadecimal digits. -/
def hexText (bs : List Nat) : List Nat := (bs.map fun b => [hexChar (b / 16 % 16), hexChar (b % 16)]).flatten

/-- An energy in µWh as kWh with three decimals, truncated (R400, R402). -/
def kwhText (e : Nat) : List Nat :=
  let m := e / 1000000
  decText (m / 1000) ++ [46, 48 + m / 100 % 10, 48 + m / 10 % 10, 48 + m % 10]

/-- Tariff date as YYMMDD and time as hhmmss (R388, R402). -/
def dateText (s : State) : List Nat × List Nat :=
  let ms := legalMs s
  let m := tariffMinutes s ms
  let d := civilDate (m / 1440)
  (dec2 (d.1 % 100) ++ dec2 d.2.1 ++ dec2 d.2.2, dec2 (m % 1440 / 60) ++ dec2 (m % 60) ++ dec2 (ms / 1000 % 60))

/-- The check value in groups of four digits (R365). -/
def checkText (s : State) : List Nat :=
  let h := hexText (leBytes 8 s.lgl.check)
  h.take 4 ++ [32] ++ (h.drop 4).take 4 ++ [32] ++ (h.drop 8).take 4 ++ [32] ++ h.drop 12

/-- Version of the image set booted. -/
def bootVersion (s : State) : Nat := if s.sys.boot.slot = 0 then s.sys.fwA.version else s.sys.fwB.version

/-- The readings of an output at its billing basis: import and export, µWh. -/
def totals (s : State) (n : Nat) : Nat × Nat :=
  if inletBasis s n then (wideAcc s (6 * n + 4), wideAcc s (6 * n + 5)) else (wideAcc s (6 * n), wideAcc s (6 * n + 1))

/-- The screens in their order (R400): 0 to 2, then three for each enabled output, then one for each enabled port. -/
def screens (s : State) : List (Nat × Nat) :=
  let outs := (List.range 4).filter (dcOn s)
  let ports := (List.range 4).filter fun n => rdf s (baseVCL + 0x100 + 0x40 * n) 3 7 != 0
  [(0, 0), (1, 0), (2, 0)] ++ (outs.map fun n => [(3, n), (4, n), (5, n)]).flatten ++ ports.map fun n => (6, n)

/-- Four lines of a screen; where on a line its items stand is the model's choice (log entry 11). -/
def screenLines (s : State) (k n : Nat) : List (List Nat) :=
  let tr := fun j => asc "T" ++ decText (j + 1) ++ [32] ++ kwhText (get s.lgl.treg (8 * n + j))
  let head := asc "OP" ++ decText n ++ [32]
  match k with
  | 0 => [asc "CHECK", checkText s, decText (bootVersion s), []]
  | 1 =>
    let d := dateText s
    let tz := signed 16 (legalPar s 12 2)
    [d.1, d.2, (if tz < 0 then [45] else [43]) ++ decText tz.natAbs, asc (if s.lgl.synced then "SYNC" else "UNSYNC")]
  | 2 => [asc "T" ++ decText (s.lgl.tariff + 1), asc (if s.lgl.sealOpen then "SEAL OPEN" else "SEAL CLOSED"),
          asc (if s.lgl.ready then "READY" else "NOT READY"), decText s.lgl.lseq]
  | 3 => [head, asc "E+ " ++ kwhText (totals s n).1, asc "E- " ++ kwhText (totals s n).2, []]
  | 4 => [tr 0, tr 1, tr 2, tr 3]
  | 5 => [tr 4, tr 5, tr 6, tr 7]
  | _ =>
    let p := asc "PORT " ++ decText n
    match get s.lgl.sess n, get s.lgl.lastSess n with
    | some x, _ => [p, decText x.no, kwhText x.tariffE.sum, []]
    | none, some y => [p, decText y.1, kwhText y.2.1, decText y.2.2]
    | none, none => [p, [], [], []]

/-- A line of 20 characters. -/
def line20 (l : List Nat) : List Nat := (l ++ List.replicate 20 32).take 20

/-- LEGAL_DISPLAY_FRAME (R399): 0x5A, the screen number, 80 characters and the CRC-8. -/
def execLegalDisplayFrame (t : Nat) (s : State) : Host.Outcome State Fault Refusal :=
  let s := s.at t
  .next (if pairRuns s then
    let l := screens s
    let k := l.getD ((s.lgl.screen - 1) % l.length) (0, 0)
    let bs := [0x5A, s.lgl.screen] ++ ((screenLines s k.1 k.2).map line20).flatten
    emit s .display 0 ((bs ++ [crc8 bs]).map Int.ofNat)
  else s)

/-- DISPLAY_SCREEN_ADVANCE (R400): the next screen, and after the last the first. -/
def execDisplayScreenAdvance (t : Nat) (s : State) : Host.Outcome State Fault Refusal :=
  let s := s.at t
  .next (if pairRuns s then
    { s with lgl.screen := if (screens s).length ≤ s.lgl.screen then 1 else s.lgl.screen + 1 }
  else s)

/-- OPT_ADDR without its padding. -/
def optAddr (s : State) : List Nat :=
  (match s.lgl.copy with
   | some c => memBytes s.mem (0x90001000 + 0x8000 * c + 24) 32
   | none => []).takeWhile (· != 0)

/-- OPTICAL_SIGN_ON (R401): a sign-on without an address, or with OPT_ADDR, is answered with the identification. -/
def execOpticalSignOn (t : Nat) (addr : List Nat) (s : State) : Host.Outcome State Fault Refusal :=
  let s := s.at t
  .next (if pairRuns s && s.lgl.optical == .waiting && (addr == [] || addr == optAddr s) then
    emit { s with lgl.optical := .identified } .optical 0 ((asc "/SVB6BD4876\r\n").map Int.ofNat)
  else s)

/-- A line of the data block: name and value. -/
def dataLine (name : List Nat) (v : List Nat) : List Nat := name ++ [40] ++ v ++ [41, 13, 10]

/-- The data block of R402. -/
def dataBlock (s : State) : List Nat :=
  let d := dateText s
  let unit := asc "*kWh"
  let op := fun n =>
    let nm := fun (x : String) => decText n ++ asc x
    let ls := (get s.lgl.lastSess n).getD (0, 0, 0)
    dataLine (nm ".E+") (kwhText (totals s n).1 ++ unit) ++ dataLine (nm ".E-") (kwhText (totals s n).2 ++ unit)
      ++ ((List.range 8).map fun j => dataLine (nm ".T" ++ decText (j + 1)) (kwhText (get s.lgl.treg (8 * n + j)) ++ unit)).flatten
      ++ dataLine (nm ".LS") (decText ls.1 ++ [44] ++ kwhText ls.2.1 ++ unit)
  dataLine (asc "ID") (hexText (leBytes 16 s.sys.ident.deviceId)) ++ dataLine (asc "CHK") (hexText (leBytes 8 s.lgl.check))
    ++ dataLine (asc "DATE") d.1 ++ dataLine (asc "TIME") d.2
    ++ dataLine (asc "SYNC") [48 + b2n s.lgl.synced] ++ dataLine (asc "TAR") [49 + s.lgl.tariff]
    ++ dataLine (asc "SEAL") [48 + b2n s.lgl.sealOpen]
    ++ ((List.range 4).map op).flatten ++ [33, 13, 10]

/-- OPTICAL_ACK (R401): option 0 and a rate character from 0 to 6 are answered with the data block at 300 × 2^rate Bd;
any other option with nothing. -/
def execOpticalAck (t : Nat) (option rate : Nat) (s : State) : Host.Outcome State Fault Refusal :=
  let s := s.at t
  .next (if pairRuns s && s.lgl.optical == .identified && option == 0 && decide (rate ≤ 6) then
    emit { s with lgl.optical := .waiting } .optical rate ((dataBlock s).map Int.ofNat)
  else s)

/-- OPTICAL_TIMEOUT (R401): back to waiting for a sign-on. -/
def execOpticalTimeout (t : Nat) (s : State) : Host.Outcome State Fault Refusal :=
  let s := s.at t
  .next { s with lgl.optical := .waiting }

/-! ### Commands (R405, R508) -/

/-- The response of LGL_STATUS (R508). -/
def lglStatusBytes (s : State) : List Nat :=
  leBytes 8 s.lgl.check ++ leBytes 8 (legalMs s)
    ++ leBytes 2 (packBits [(0, b2n s.lgl.synced), (1, b2n s.lgl.ready), (2, b2n s.lgl.sealOpen), (3, b2n (!s.lgl.synced))])
    ++ leBytes 2 (notReadyRows s) ++ leBytes 4 s.lgl.slews ++ leBytes 8 s.lgl.lseq ++ List.replicate 4 s.lgl.tariff
    ++ leBytes 4 (legalPar s 8 4) ++ leBytes 4 s.lgl.calSeq ++ ((List.range 32).map fun r => leBytes 8 (get s.lgl.treg r)).flatten

/-- LGL_STATUS (R405, R508). -/
def execLglStatus (t line seq : Nat) (s : State) : Host.Outcome State Fault Refusal :=
  .next (runCmd line seq 0x0B01 neverIllegal (fun c s => doneOut c [] (lglStatusBytes s) s) (s.at t))

/-- The records of a list that fit a length, in order. -/
def fitting : Nat → List (Nat × Nat × Nat × Nat) → List (Nat × Nat × Nat × Nat)
  | _, [] => []
  | n, r :: l => if r.2.2.2 ≤ n then r :: fitting (n - r.2.2.2) l else []

/-- LGL_LOG_READ (R405, R508): whole ring records in LSEQ order, from the first one held at or after FIRST_LSEQ. -/
def execLglLogRead (t line seq : Nat) (s : State) : Host.Outcome State Fault Refusal :=
  .next (runCmd line seq 0x0B02 neverIllegal (fun c s =>
    let room := if c.refKind == 0 then 0 else c.refLen
    let l := fitting room ((s.lgl.index.filter fun r => decide (c.param 8 8 ≤ r.1)).take (c.param 16 4))
    let bs := (l.map fun r => memBytes s.mem (0x90000000 + r.2.2.1) r.2.2.2).flatten
    doneOut c (leBytes 8 ((l.head?.map Prod.fst).getD 0) ++ leBytes 8 ((l.getLast?.map Prod.fst).getD 0)
      ++ leBytes 4 l.length) bs s) (s.at t))

/-- Every field but GEN, PASSIVE and CRC equals the set in force (R389). -/
def onlyPassiveDiffers (d : List Nat) (s : State) : Bool :=
  match s.lgl.copy with
  | none => false
  | some c =>
    let cur := memBytes s.mem (0x90001000 + 0x8000 * c) 3456
    d.take 4 == cur.take 4 && (d.drop 8).take 1744 == (cur.drop 8).take 1744 && (d.drop 3448).take 4 == (cur.drop 3448).take 4

/-- LGL_PARAM_LOAD (R84, R373, R389, R501): checked, then handed to the pair; `sigOk` is the verdict on PASSIVE's SIG. -/
def execLglParamLoad (t line seq : Nat) (sigOk : Bool) (s : State) : Host.Outcome State Fault Refusal :=
  .next (runCmd line seq 0x0B03 neverIllegal (fun c s =>
    let d := c.data
    let m9 := s.sys.mode == .m9
    let act := fld d 1752 8
    let judged := !m9 || act != 0
    if d.length < 3456 then rejectFormat c 60 s
    else if fld d 0 2 != 0x7EA8 || fld d 2 1 != 1 || fld d 3452 4 != crc32 (d.take 3452) then rejectFormat c 52 s
    else if !(paramRangesOk d) || (judged && decide (act < legalMs s + 60000)) then rejectRange c 52 s
    else if judged && !sigOk then rejectAuth c 52 s
    else if (if m9 then !s.lgl.sealOpen else !(onlyPassiveDiffers d s)) then finish c { status := stLocked } s
    else accept c [] (lglRequest (.paramLoad d line seq) s)) (s.at t))

/-- LGL_CREDIT_SET in a state that forbids it (R396): a session past CABLE_CHECK that is not prepaid. -/
def creditIllegal (c : Cmd) (s : State) : Bool :=
  let n := c.param 8 1
  let st := (get s.vcl.port n).sess
  decide (n < 4) && decide (6 ≤ st) && decide (st ≤ 10) && (get s.lgl.prepay n).isNone

/-- ACCOUNT set or added, in mWh; before PRECHARGE the emergency limits are taken as well (R396). -/
def creditSet (c : Cmd) (s : State) : State :=
  let n := c.param 8 1
  let wh := signed 64 (c.param 12 8) * 1000
  let st := (get s.vcl.port n).sess
  let old := (get s.lgl.prepay n).getD {}
  if 6 ≤ st && st ≤ 10 then { s with lgl.prepay := upd s.lgl.prepay n fun _ => some { old with account := old.account + wh } }
  else
    let p : Prepay := { old with account := if c.param 9 1 = 1 then old.account + wh else wh,
                                   emergWh := c.param 20 4, emergSoc := c.param 24 1 }
    { s with lgl.prepay := upd s.lgl.prepay n fun _ => some p,
               lgl.sess := upd s.lgl.sess n fun o => o.map fun x =>
               { x with sflags := setBits x.sflags 2 1 1, accStart := p.account } }

/-- LGL_CREDIT_SET (R396, R508). -/
def execLglCreditSet (t line seq : Nat) (s : State) : Host.Outcome State Fault Refusal :=
  .next (runCmd line seq 0x0B04 creditIllegal (fun c s =>
    if 4 ≤ c.param 8 1 then rejectRange c 8 s
    else if 2 ≤ c.param 9 1 then rejectRange c 9 s
    else if 100000 < c.param 20 4 then rejectRange c 20 s
    else if 100 < c.param 24 1 then rejectRange c 24 s
    else
      let s1 := creditSet c s
      let a := ((get s1.lgl.prepay (c.param 8 1)).getD {}).account / 1000
      done c (leBytes 4 0 ++ leBytes 8 (unsigned 64 a)) s1) (s.at t))

/-- Window `k` of LGL_WINDOW_SET. -/
def windowOf (c : Cmd) (k : Nat) : Window :=
  { day := c.param (12 + 5 * k) 1, start := c.param (13 + 5 * k) 2, dur := c.param (15 + 5 * k) 2 }

/-- The offset of the first field of a window that is out of range. -/
def windowFault (c : Cmd) (k : Nat) : Option Nat :=
  let w := windowOf c k
  if 7 ≤ w.day then some (12 + 5 * k)
  else if 1440 ≤ w.start then some (13 + 5 * k)
  else if w.dur = 0 ∨ 1440 < w.dur then some (15 + 5 * k)
  else none

/-- LGL_WINDOW_SET (R398, R508). -/
def execLglWindowSet (t line seq : Nat) (s : State) : Host.Outcome State Fault Refusal :=
  .next (runCmd line seq 0x0B05 neverIllegal (fun c s =>
    let n := c.param 8 1
    if 8 < n then rejectRange c 8 s
    else
      match ((List.range n).filterMap (windowFault c)).head? with
      | some o => rejectRange c o s
      | none => done c [] { s with lgl.windows := (List.range n).map (windowOf c) }) (s.at t))

end Sys2Proof.Machine
end

