-- ==== Sys2Proof/Machine/Own.lean ====
section
/-! DEFINITION. Ownership: claims, elections, handover (R97 to R101, R505), and the Ethernet and 10BASE-T1S link
events (R102). -/

namespace Sys2Proof.Machine


/-- The TRNG has failed: no nonce can be drawn (R414); IGNORED_ILLEGAL as in R420 (DEDUCED, log entry 65). -/
def noRandom (_ : Cmd) (s : State) : Bool := !s.key.trngOk

/-- OWN_CHALLENGE (R97, R414, R505): a 16-byte nonce, valid once and for 10 s. -/
def execOwnChallenge (t line seq : Nat) (s : State) : Host.Outcome State Fault Refusal :=
  .next (runCmd line seq 0x0201 noRandom (fun c s =>
    let (v, s1) := drawTrng s
    let n := v % 2 ^ 128
    done c (leBytes 16 n) { s1 with own.nonces := { port := c.port, value := n, issued := s.now } :: s1.own.nonces }) (s.at t))

/-- A nonce of this port, of this value and not expired (R97). -/
def nonceValid (s : State) (port value : Nat) : Bool :=
  s.own.nonces.any (fun n => n.port == port && n.value == value && s.now ≤ n.issued + 10000000000)

/-- The nonce is used up. -/
def useNonce (value : Nat) (s : State) : State :=
  { s with own.nonces := s.own.nonces.filter (fun n => n.value != value) }

/-- The claim key slot that the configuration binds to a port; 0 for none (R68). DESIGN CHOICE (log entry 8): the spec prints no
name for these parameters, nor for the frame key slots' and the port enable's. -/
def claimKeySlot (s : State) (port : Nat) : Nat :=
  match port with
  | 1 => param s pCLAIM_KEY_PCIE 0
  | 2 => param s pCLAIM_KEY_SPI 0
  | 3 => param s pCLAIM_KEY_ETH0 0
  | 4 => param s pCLAIM_KEY_ETH1 0
  | _ => param s pCLAIM_KEY_OZL 0

/-- The port's claim key slot is filled. -/
def claimKeyFilled (s : State) (port : Nat) : Bool :=
  let k := claimKeySlot s port
  k != 0 && (get s.key.slots k).filled

/-- PCIe or SPI may claim under the service credential (R97). -/
def svcClaimOk (s : State) (port : Nat) : Bool := port ≤ 2 && (!s.cfg.loaded || !claimKeyFilled s port)

/-- A claim is recorded (R97, R98): it stands, and opens an election where ownership is vacant. -/
def recordClaim (port : Nat) (special : Bool) (s : State) : State :=
  let s1 := setClaim s port fun _ => { standing := true, special := special, lastHb := s.now }
  if s1.own.owner == 0 then openElection s1 else fireEvent 19 s1

/-- A claim fails its nonce, at entry offset 8, or its signature, in the payload: REJECTED_AUTH and OWN_CLAIM_BAD (R78, R102). -/
def claimBadAuth (c : Cmd) (ofs : Nat) (s : State) : State := rejectAuth c ofs (fireEvent 20 s)

/-- OWN_CLAIM (R97, R505). `sigOk` is the verdict of ECDSA P-256 under the key that R97 names for the claim. A claim in BLANK is
electable on any port (R98); among claims below every configured priority the lower port code ranks higher (DESIGN CHOICE, log
entry 64: the rule orders PCIe and SPI alone). -/
def execOwnClaim (t line seq : Nat) (sigOk : Bool) (s : State) : Host.Outcome State Fault Refusal :=
  .next (runCmd line seq 0x0202
    (fun c s => 3 ≤ c.port && !claimKeyFilled s c.port)
    (fun c s =>
      let value := leValue ((c.entry.drop 8).take 16)
      let blank := lifeCycle s == 0
      let signed := c.refLen != 0
      let ok := nonceValid s c.port value
      let s1 := useNonce value s
      let keyed := claimKeyFilled s c.port
      let svc := c.port ≤ 2 && (get s.key.slots 1).filled && (blank || svcClaimOk s c.port)
      if !ok then claimBadAuth c 8 s1
      else if !signed && !(blank && c.port ≤ 2) then claimBadAuth c 60 s1
      else if signed && (!sigOk || !(keyed || svc)) then claimBadAuth c 52 s1
      else
        let s2 := recordClaim c.port (blank || !keyed) s1
        done c [1, s2.own.owner] s2) (s.at t))

/-- The calling port's claim is refreshed (R97). -/
def heartbeat (port : Nat) (s : State) : State :=
  setClaim s port fun c => if c.standing then { c with lastHb := s.now, late := false } else c

/-- OWN_HEARTBEAT (R97, R505): from a port without a standing claim it is IGNORED_ILLEGAL. -/
def execOwnHeartbeat (t line seq : Nat) (s : State) : Host.Outcome State Fault Refusal :=
  .next (runCmd line seq 0x0203 (fun c s => !(claimOf s c.port).standing)
    (fun c s => done c [s.own.owner] (heartbeat c.port s)) (s.at t))

/-- OWN_HB_WRITE (R97): any write of OWN_HB refreshes the PCIe port's claim. -/
def execOwnHbWrite (t : Nat) (s : State) : Host.Outcome State Fault Refusal := .next (heartbeat 1 (s.at t))

/-- A handover's target is not allowed (R100): neither the caller nor a standing claim of nonzero priority. -/
def handoverIllegal (c : Cmd) (s : State) : Bool :=
  let p := c.param 8 1
  p != c.port && !(1 ≤ p && p ≤ 5 && (claimOf s p).standing && 0 < ownPrio s p)

/-- OWN_HANDOVER (R99, R100): ownership moves at completion and EPOCH increments; to the own port nothing changes. A
lapse that fell meanwhile has no effect. -/
def execOwnHandover (t line seq : Nat) (s : State) : Host.Outcome State Fault Refusal :=
  .next (runCmd line seq 0x0204 handoverIllegal (fun c s =>
    let p := c.param 8 1
    if p == c.port then done c [] { s with own.lapsePending := false }
    else bumpEpoch (done c [] { s with own.owner := p, own.lapsePending := false })) (s.at t))

/-- OWN_RELEASE (R505): the caller's claim is withdrawn, and the owner's office vacated. -/
def execOwnRelease (t line seq : Nat) (s : State) : Host.Outcome State Fault Refusal :=
  .next (runCmd line seq 0x0205 neverIllegal (fun c s =>
    let s1 := setClaim s c.port fun _ => {}
    let s2 := if s1.own.owner == c.port then vacateOwner s1 else s1
    done c [] s2) (s.at t))

/-- OWN_STATE as a word. -/
def ownStateWord (s : State) : Nat :=
  packBits [(0, s.own.owner), (3, b2n s.own.election), (8, s.own.epoch),
    (16, maskOf (s.own.claims.toList.map (fun c => c.standing)))]

/-- OWN_PRIO as a word. -/
def ownPrioWord (s : State) : Nat := rdw s (baseOWN + 4) % 2 ^ 15

/-- OWN_STATUS (R505). -/
def execOwnStatus (t line seq : Nat) (s : State) : Host.Outcome State Fault Refusal :=
  .next (runCmd line seq 0x0206 neverIllegal
    (fun c s => done c (leBytes 4 (ownStateWord s) ++ leBytes 4 (ownPrioWord s) ++ [c.port]) s) (s.at t))

/-- The electable port of the highest rank (R98). -/
def electionWinner (s : State) : Option Nat :=
  ([1, 2, 3, 4, 5].filter (electable s)).foldl
    (fun best p => match best with
      | none => some p
      | some b => if electRank s b < electRank s p then some p else some b) none

/-- ELECTION_WINDOW_CLOSE (R98): the highest electable claim becomes owner and EPOCH increments; with none, ownership
stays vacant. -/
def execElectionWindowClose (t : Nat) (s : State) : Host.Outcome State Fault Refusal :=
  let s := s.at t
  if !s.own.election then .next s
  else
    match electionWinner s with
    | none => .next { s with own.election := false }
    | some p => .next (bumpEpoch { s with own.owner := p, own.election := false })

/-- OWN_HB_LATE (R102): the owner's heartbeat has been absent for half of OWN_HB_TIMEOUT. -/
def execOwnHbLate (t : Nat) (s : State) : Host.Outcome State Fault Refusal :=
  let s := s.at t
  if s.own.owner == 0 then .next s
  else .next (fireEvent 21 (setClaim s s.own.owner fun c => { c with late := true }))

/-- OWN_HB_LAPSE (R97, R99): the owner's claim lapses and ownership becomes vacant, at once, or when the owner-only
command it has executing completes. -/
def execOwnHbLapse (t : Nat) (s : State) : Host.Outcome State Fault Refusal :=
  let s := s.at t
  if s.own.owner == 0 then .next s
  else if (s.mbx.cmds.find? fun c => c.ownerOnly && c.fail == 0).any fun c => c.port == s.own.owner then
    .next { s with own.lapsePending := true }
  else .next (lapseOwner s)

/-- CLAIM_LAPSE (R97): a standing claim of a port that is not owner lapses. -/
def execClaimLapse (t port : Nat) (s : State) : Host.Outcome State Fault Refusal :=
  let s := s.at t
  if s.own.owner == port then .next s else .next (setClaim s port fun _ => {})

/-- ETH_LINK_CHANGE (R102): ETH0_LINK or ETH1_LINK fires. -/
def execEthLinkChange (t mac : Nat) (up : Bool) (s : State) : Host.Outcome State Fault Refusal :=
  let s := s.at t
  .next (fireEvent (472 + mac) { s with own.ethUp := upd s.own.ethUp mac fun _ => up })

/-- ETH_FRAME_RX (R102): a frame with a bad FCS, or one that finds no receive buffer, is dropped and counted. -/
def execEthFrameRx (t mac : Nat) (fcsOk bufferFree : Bool) (s : State) : Host.Outcome State Fault Refusal :=
  let s := s.at t
  if fcsOk && bufferFree then .next s
  else .next (fireEvent (474 + mac) { s with own.ethDrop := upd s.own.ethDrop mac fun n => n + 1 })

/-- T1S_LINK_CHANGE (R102, R319): the port's 10BASE-T1S PHY goes up or down; the port's LINK fires too. -/
def execT1sLinkChange (t port : Nat) (up : Bool) (s : State) : Host.Outcome State Fault Refusal :=
  let s := s.at t
  .next (fireEvent (290 + 8 * port) <| fireEvent (476 + port) { s with own.t1sUp := upd s.own.t1sUp port fun _ => up })

end Sys2Proof.Machine
end

