-- ==== Sys2Proof/Machine/Key.lean ====
section
/-! DEFINITION. The key block (16): slots and their masks, the key image, the crypto engine's queue, the TRNG, service
rights, and the life cycle. -/

namespace Sys2Proof.Machine

/-! ### Errors of SUBSYS 13 (R421) -/

def errUseDenied : ErrSpec := ⟨13, 1, 1⟩
def errTrngFail : ErrSpec := ⟨13, 2, 3⟩
def errImageBad : ErrSpec := ⟨13, 3, 1⟩

/-- A key slot. -/
def kslot (s : State) (n : Nat) : KeySlot := get s.key.slots n

/-- A key slot changed. -/
def setKeySlot (n : Nat) (f : KeySlot → KeySlot) (s : State) : State := { s with key.slots := upd s.key.slots n f }

/-- Class of a slot (R406): 0 DEVICE, 1 VENDOR, 2 LEGAL, 3 OPERATOR, 4 SESSION. -/
def slotClass (n : Nat) : Nat := if n < 4 then 0 else if n < 8 then 1 else if n < 16 then 2 else if n < 48 then 3 else 4

/-- Bytes of a key of a type as KEY_WRITE carries it (R508). -/
def keyBytes (typ : Nat) : Nat := [0, 16, 32, 96, 64, 144, 96].getD typ 0

/-- Bytes of a key of a type as a slot holds it: the public half of a private key stands beside it. -/
def heldBytes (typ : Nat) : Nat := [0, 16, 32, 32, 64, 48, 96].getD typ 0

/-- Public half of a slot's key, X then Y; empty for an AES key (R406). -/
def pubOf (k : KeySlot) : List Nat :=
  if k.typ == 4 || k.typ == 6 then leBytes (heldBytes k.typ) (k.masked ^^^ k.mask) else k.pub

/-- The destruction count of a class (R408). -/
def destrCount (s : State) (cls : Nat) : Nat :=
  let k := s.key
  match cls with
  | 0 => b2n k.fReturn + b2n k.fEnd
  | 2 => k.svcCnt + b2n k.fReturn + b2n k.fEnd
  | 3 | 4 => b2n k.fProv + b2n k.fField + b2n k.fReturn + b2n k.fEnd + k.svcCnt
  | _ => 0

/-- The count under which a class of the image is wrapped; DEVICE, LEGAL, OPERATOR, SESSION at 0 to 3. -/
def wrapIndex (cls : Nat) : Nat := if cls = 0 then 0 else cls - 1

/-- The key image is written and verified (R408, R34, R421). -/
def commitImage (s : State) : State :=
  fireEvent 466 (fireEvent 460
    { s with key.image := s.key.slots, key.imgGen := (s.key.imgGen + 1) % 256, key.imageOk := true,
               key.wrapped := Vector.ofFn fun i => destrCount s ([0, 2, 3, 4].getD i.val 0) })

/-- A slot's content under a fresh mask (R409). -/
def maskSlot (typ users : Nat) (k : Nat) (pub : List Nat) (s : State) : KeySlot × State :=
  let (v, s1) := drawTrng s
  let m := v % 2 ^ (8 * heldBytes typ)
  ({ filled := true, typ := typ, users := users, masked := k ^^^ m, mask := m, pub := pub }, s1)

/-- A P-384 key pair generated on chip (R412). Its public half is a free value: the spec does not give the curve
arithmetic. -/
def generateKey (n users : Nat) (s : State) : State :=
  let (v, s1) := drawTrng s
  let (p, s2) := drawFree s1
  let (k, s3) := maskSlot 5 users (v % 2 ^ 384) (leBytes 96 p) s2
  setKeySlot n (fun _ => k) s3

/-- Slot `n` is missing in a life-cycle state that requires it (R412, R418). -/
def keyMissing (s : State) (n : Nat) : Bool :=
  let lc := lifeCycle s
  !(kslot s n).filled && (if n == 0 then lc == 1 || lc == 2 || lc == 3 else lc == 2 && param s pLEGAL_ENABLE 0 != 0)

/-- Slots 0 and 8 are generated where they are missing and the TRNG is fit (R412, R414). -/
def genKeys (s : State) : State :=
  if s.key.trngOk then
    let s1 := if keyMissing s 0 then generateKey 0 1 s else s
    if keyMissing s 8 then generateKey 8 32 s1 else s1
  else s

/-- A boot generates and commits a missing slot 0 or slot 8 (R418). -/
def genMissing (s : State) : State :=
  if s.key.trngOk && (keyMissing s 0 || keyMissing s 8) then commitImage (genKeys s) else s

/-- A class of the image unwraps: its destruction count is the one it was wrapped under (R408). -/
def unwraps (s : State) (cls : Nat) : Bool := get s.key.wrapped (wrapIndex cls) == destrCount s cls

/-- The key image is unwrapped at a boot (R408, R421): a class that fails loads empty, with KEY_IMAGE_BAD, since a transition
leaves an image under its own counts (R418); the VENDOR keys come from their fuses. -/
def loadKeys (s : State) : State :=
  let s1 := { s with
    key.imageOk := true,
    key.slots := Vector.ofFn fun i =>
      if slotClass i.val == 1 then get s.key.vendor (i.val - 4)
      else if unwraps s (slotClass i.val) then get s.key.image i.val else {} }
  legalUpdate ((([0, 2, 3, 4] : List Nat).filter fun cls => !unwraps s cls).foldl
    (fun a cls => raiseError errImageBad cls (fireEvent 458 a)) s1)

/-! ### Masks (R409) -/

/-- One slot rewritten as (K xor M) xor (M xor M'). -/
def remaskSlot (n : Nat) (s : State) : State :=
  let k := kslot s n
  if k.filled then
    let (v, s1) := drawTrng s
    let m := v % 2 ^ (8 * heldBytes k.typ)
    setKeySlot n (fun x => { x with masked := x.masked ^^^ (x.mask ^^^ m), mask := m }) s1
  else s

/-- KEY_REMASK (R409, R414): every slot gets a fresh mask; the slot of the operation running waits for its end. -/
def execKeyRemask (t : Nat) (s : State) : Host.Outcome State Fault Refusal :=
  let s := s.at t
  .next (if s.key.trngOk then
    let busy := s.key.running.bind (·.slot)
    let s1 := (List.range 64).foldl (fun a n => if busy == some n then a else remaskSlot n a) s
    if busy.isSome then { s1 with key.remaskDue := true }
    else { s1 with key.remask := (s1.key.remask + 1) % 65536 }
  else s)

/-! ### Life cycle (R416 to R418) -/

/-- The class is destroyed by the transition to `target` (R417). -/
def destroys (target cls : Nat) : Bool :=
  if target = 4 ∨ target = 5 then cls != 1
  else if target = 1 then cls == 3 || cls == 4
  else if target = 2 then cls == 3 || cls == 4 || cls == 2
  else cls == 3 || cls == 4 || cls == 2

/-- The fuse of a transition is burned. -/
def burnFuse (frm target : Nat) (s : State) : State :=
  match target with
  | 1 => { s with key.fProv := true }
  | 2 => if frm = 1 then { s with key.fField := true } else { s with key.svcCnt := s.key.svcCnt + 1 }
  | 3 => { s with key.svcCnt := s.key.svcCnt + 1 }
  | 4 => { s with key.fReturn := true }
  | _ => { s with key.fEnd := true }

/-- Steps 3 to 6 of a transition (R418): the fuse, the classes destroyed, the new key, the image, and a software reset,
after which the command is answered DISCARDED_RESET. -/
def finishLc (target : Nat) (s : State) : State :=
  let frm := lifeCycle s
  let s1 := burnFuse frm target { s with key.lcJob := none }
  let s2 := { s1 with key.slots := Vector.ofFn fun i =>
                        if destroys target (slotClass i.val) && !(frm == 1 && slotClass i.val == 2) then {} else get s1.key.slots i.val }
  resetControl .software (coldNow s2) (fireEvent 459 (commitImage (genKeys s2)))

/-- An S-grade device enters FIELD with the legal partition enabled only after a calibration made in M9 (R4). -/
def gradeOk (s : State) : Bool := s.sys.ident.gradeL || param s pLEGAL_ENABLE 0 == 0 || s.lgl.calSeq != 0

/-- The caller has service rights (R410): in BLANK every owner has them. -/
def hasRights (c : Cmd) (s : State) : Bool := lifeCycle s == 0 || get s.key.rights (c.port - 1)

/-- KEY_LC_SET asks for a transition that R417 does not have, or lacks service rights, or needs a key that cannot be
generated (R410, R417, R420). -/
def lcIllegal (c : Cmd) (s : State) : Bool :=
  let target := c.param 8 1
  let lc := lifeCycle s
  let ok := match target with
    | 1 => lc == 0 && (kslot s 1).filled && (kslot s 2).filled && s.key.trngOk
    | 2 => (lc == 1 || lc == 3) && s.key.trngOk
    | 3 => lc == 2 && decide (s.key.svcCnt < 31)
    | 4 => decide (lc ≤ 3)
    | 5 => decide (lc ≤ 4)
    | _ => false
  !(hasRights c s) || !ok

/-- KEY_LC_SET (R417, R418, R501): `sigOk` is the verdict on the signature that RETURN and END need. -/
def execKeyLcSet (t line seq : Nat) (sigOk : Bool) (s : State) : Host.Outcome State Fault Refusal :=
  .next (runCmd line seq 0x0C06 lcIllegal (fun c s =>
    let target := c.param 8 1
    let signed := target == 4 || target == 5
    let value := leValue ((c.entry.drop 12).take 16)
    if signed && c.data.length < 96 then rejectFormat c 60 s
    else if target == 2 && !(gradeOk s) then rejectRange c 8 s
    else if signed && !(sigOk && nonceValid s c.port value && (kslot s (target + 1)).filled) then
      rejectAuth c (if nonceValid s c.port value then 52 else 12) (useNonce value s)
    else
      let s1 := accept c [] (if signed then useNonce value s else s)
      let s2 := discardLines stFault 0 (fun l => linePort s1 l != c.port) s1
      if s2.key.running.isSome then { s2 with key.lcJob := some (target, line, seq) } else finishLc target s2) (s.at t))

/-! ### Crypto engine (R407, R413) -/

/-- The key type an operation fits. -/
def kindFits (k : CryptoKind) (typ : Nat) : Bool :=
  match k with
  | .aes128 => typ == 1
  | .aes256 => typ == 2
  | .sign256 | .ecdh256 => typ == 3
  | .verify256 => typ == 4
  | .sign384 | .ecdh384 => typ == 5
  | .verify384 => typ == 6
  | .hash | .random => false

/-- The user may use the slot (R407): slot 0 the supervisor alone, slots 8 to 15 the legal pair alone. -/
def userAllowed (s : State) (user n : Nat) : Bool :=
  if n == 0 then user == 0
  else if 8 ≤ n && n < 16 then user == 5
  else bit (kslot s n).users user

/-- An operation that fails while the TRNG has not passed its start-up test (R414). -/
def needsRandom : CryptoKind → Bool
  | .sign256 | .sign384 | .random => true
  | _ => false

/-- CRYPTO_REQUEST (R407, R413, R414): queued in order of arrival, the legal pair ahead of the others; refused where the
user mask or the key type does not allow it. -/
def execCryptoRequest (t user : Nat) (slot : Option Nat) (op : CryptoKind) (s : State) : Host.Outcome State Fault Refusal :=
  let s := s.at t
  let denied := match slot with
    | some n => !(decide (n < 64) && (kslot s n).filled && userAllowed s user n && kindFits op (kslot s n).typ)
    | none => false
  .next (if denied then raiseError errUseDenied (slot.getD 0) (fireEvent 456 s)
  else if needsRandom op && !s.key.trngOk then s
  else
    let x : CryptoOp := { user := user, slot := slot }
    if s.key.running.isNone then { s with key.running := some x }
    else if user == 5 then
      { s with key.queue := s.key.queue.filter (fun (y : CryptoOp) => y.user == 5) ++ [x]
                              ++ s.key.queue.filter (fun (y : CryptoOp) => y.user != 5) }
    else { s with key.queue := s.key.queue ++ [x] })

/-- CRYPTO_DONE (R409, R413, R418): the next operation starts; a re-mask that waited runs; a life-cycle change that
waited goes on. -/
def execCryptoDone (t : Nat) (s : State) : Host.Outcome State Fault Refusal :=
  let s := s.at t
  .next (match s.key.running with
    | none => s
    | some x =>
      let s1 := if s.key.remaskDue && s.key.trngOk then
          match x.slot with
          | some n => remaskSlot n { s with key.remaskDue := false, key.remask := (s.key.remask + 1) % 65536 }
          | none => s
        else s
      match s1.key.lcJob with
      | some (target, _, _) => finishLc target { s1 with key.running := none }
      | none => { s1 with key.running := s1.key.queue.head?, key.queue := s1.key.queue.drop 1 })

/-! ### TRNG (R414) -/

/-- KEY_TRNG_FAIL (R414, R420): class 3; a life-cycle change before its burn is abandoned. -/
def execKeyTrngFail (t : Nat) (s : State) : Host.Outcome State Fault Refusal :=
  let s := s.at t
  let s1 := { s with key.trngOk := false, key.lcJob := none }
  let s2 := match s.key.lcJob with
    | some (_, line, seq) => finishAccepted line seq { status := stIllegal } s1
    | none => s1
  .next (if s.sys.mode.num < 2 then s else raiseError errTrngFail 0 (fireEvent 457 s2))

/-- TRNG_STARTUP_TEST (R414, R420): operations that need randomness work again, and a missing key is generated. -/
def execTrngStartupTest (t : Nat) (s : State) : Host.Outcome State Fault Refusal :=
  let s := s.at t
  .next (if s.sys.mode.num < 2 then s
  else
    let s1 := errCleared 13 2 0 { s with key.trngOk := true }
    if s1.key.imageOk && s1.cfg.loaded then genMissing s1 else s1)

/-! ### Service rights (R410) -/

/-- SVC_RIGHTS_EXPIRY (R410): 30 min have passed. -/
def execSvcRightsExpiry (t port : Nat) (s : State) : Host.Outcome State Fault Refusal :=
  let s := s.at t
  .next (if get s.key.rights (port - 1) then
    fireEvent 461 { s with key.rights := upd s.key.rights (port - 1) fun _ => false } else s)

/-- KEY_SVC_AUTH (R410, R508): `sigOk` is the verdict under the key in slot 1. -/
def execKeySvcAuth (t line seq : Nat) (sigOk : Bool) (s : State) : Host.Outcome State Fault Refusal :=
  .next (runCmd line seq 0x0C03 neverIllegal (fun c s =>
    let value := leValue ((c.entry.drop 8).take 16)
    let s1 := useNonce value s
    if c.data.length < 96 then rejectFormat c 60 s
    else if !(nonceValid s c.port value && sigOk && (kslot s 1).filled) then
      rejectAuth c (if nonceValid s c.port value then 52 else 8) s1
    else
      let had := get s.key.rights (c.port - 1)
      let s2 := { s1 with key.rights := upd s1.key.rights (c.port - 1) fun _ => true }
      done c [] (if had then s2 else fireEvent 461 s2)) (s.at t))

/-! ### Commands (R422, R508) -/

/-- KEY_LC as a word. -/
def keyLcWord (s : State) : Nat := packBits [(0, lifeCycle s), (8, s.key.svcCnt)]

/-- KEY_STAT as a word. -/
def keyStatWord (s : State) : Nat :=
  packBits [(0, b2n s.key.trngOk), (1, b2n s.key.imageOk), (2, maskOf s.key.rights.toList), (8, s.key.imgGen), (16, s.key.remask)]

/-- KEY_FILL0 and KEY_FILL1 as words. -/
def keyFillWord (s : State) (k : Nat) : Nat := maskOf ((List.range 32).map fun b => (kslot s (32 * k + b)).filled)

/-- KEY_STATUS (R422, R508). -/
def execKeyStatus (t line seq : Nat) (s : State) : Host.Outcome State Fault Refusal :=
  .next (runCmd line seq 0x0C01 neverIllegal (fun c s =>
    let regs := [keyLcWord s, keyStatWord s, keyFillWord s 0, keyFillWord s 1].map (leBytes 4)
    let sl := (List.range 64).map fun n => [slotClass n, (kslot s n).typ, (kslot s n).users, 0]
    doneOut c [] (regs.flatten ++ sl.flatten) s) (s.at t))

/-- KEY_PUB_READ names a slot that holds no elliptic-curve key (R422). -/
def pubIllegal (c : Cmd) (s : State) : Bool :=
  let n := c.param 8 1
  decide (n < 64) && decide ((kslot s n).typ < 3)

/-- KEY_PUB_READ (R422, R508). -/
def execKeyPubRead (t line seq : Nat) (s : State) : Host.Outcome State Fault Refusal :=
  .next (runCmd line seq 0x0C02 pubIllegal (fun c s =>
    let n := c.param 8 1
    if 64 ≤ n then rejectRange c 8 s
    else doneOut c [(kslot s n).typ] (pubOf (kslot s n)) s) (s.at t))

/-- KEY_WRITE is not allowed for the slot in this mode and life-cycle state, or without service rights (R410, R411). -/
def writeIllegal (c : Cmd) (s : State) : Bool :=
  let n := c.param 8 1
  let m3 := s.sys.mode == .m3
  let ok :=
    if 64 ≤ n then true
    else if n == 1 || n == 2 then lifeCycle s == 0
    else if 9 ≤ n && n < 16 then s.sys.mode == .m9 && lifeCycle s == 2
    else if 16 ≤ n then m3
    else false
  !(hasRights c s) || !ok

/-- KEY_WRITE (R411, R508): the previous key stands until the new image is committed (XSP0_WRITE_DONE). `keyOk` is the
verdict on a private key: public half and curve order. -/
def execKeyWrite (t line seq : Nat) (keyOk : Bool) (s : State) : Host.Outcome State Fault Refusal :=
  .next (runCmd line seq 0x0C04 writeIllegal (fun c s =>
    let n := c.param 8 1
    let typ := c.param 9 1
    let users := c.param 10 1
    let anchors := n == 1 || n == 2 || (8 ≤ n && n < 16)
    if 64 ≤ n then rejectRange c 8 s
    else if typ = 0 ∨ 6 < typ ∨ (anchors && typ != 6) then rejectRange c 9 s
    else if 64 ≤ users then rejectRange c 10 s
    else if c.data.length < keyBytes typ then rejectFormat c 60 s
    else if (typ == 3 || typ == 5) && !keyOk then rejectRange c 52 s
    else if s.cfg.write.isSome then s
    else
      let held := heldBytes typ
      let (k, s1) := maskSlot typ users (leValue (c.data.take held)) ((c.data.drop held).take (keyBytes typ - held)) s
      { s1 with key.newSlot := some (n, k), cfg.write := some (.keyImage line seq) }) (s.at t))

/-- The image with the new slot is committed: the slot changes, and KEY_WRITE completes (R411). -/
def keyWriteDone (line seq : Nat) (s : State) : State :=
  let s1 := match s.key.newSlot with
    | some (n, k) => commitImage (setKeySlot n (fun _ => k) { s with key.newSlot := none })
    | none => s
  match findCmd s1 line seq with
  | some c => done c [] (legalUpdate s1)
  | none => legalUpdate s1

/-- KEY_DESTROY without service rights, or of a slot that is not OPERATOR or SESSION (R410, R422). -/
def destroyIllegal (c : Cmd) (s : State) : Bool :=
  !(hasRights c s) || decide (c.param 8 1 < 16)

/-- KEY_DESTROY (R422, R508). -/
def execKeyDestroy (t line seq : Nat) (s : State) : Host.Outcome State Fault Refusal :=
  .next (runCmd line seq 0x0C05 destroyIllegal (fun c s =>
    let n := c.param 8 1
    if 64 ≤ n then rejectRange c 8 s
    else done c [] (commitImage (setKeySlot n (fun _ => {}) s))) (s.at t))

/-- KEY_ATTEST has no key to sign with (R414, R415). -/
def attestIllegal (_ : Cmd) (s : State) : Bool := !(kslot s 0).filled || !s.key.trngOk

/-- Bytes 0 to 415 of the ATTEST statement (R415). The hashes of the images as loaded are a free value drawn at the boot: the
model holds no image. -/
def attestBody (nonce : List Nat) (hashes : Nat) (s : State) : List Nat :=
  leBytes 2 0xA7E5 ++ [1, 0] ++ leBytes 2 512 ++ [b2n s.sys.ident.gradeL, lifeCycle s] ++ leBytes 16 s.sys.ident.deviceId
    ++ [s.key.svcCnt, s.sys.mode.num, s.sys.boot.slot, 0] ++ leBytes 4 (bootVersion s) ++ leBytes 288 hashes
    ++ leBytes 4 (if s.cfg.loaded then s.cfg.version else 0) ++ [b2n s.cfg.loaded, 0, 0, 0] ++ leBytes 8 s.lgl.check
    ++ (if (kslot s 8).filled then sha256 (pubOf (kslot s 8)) else List.replicate 32 0)
    ++ fit 32 nonce ++ leBytes 8 (devTime s) ++ List.replicate 8 0

/-- KEY_ATTEST (R415, R508): the signature is a free value. -/
def execKeyAttest (t line seq : Nat) (s : State) : Host.Outcome State Fault Refusal :=
  .next (runCmd line seq 0x0C07 attestIllegal (fun c s =>
    let (g, s1) := drawFree s
    doneOut c [] (attestBody ((c.entry.drop 8).take 32) s.sys.boot.imgHash s ++ leBytes 96 g) s1) (s.at t))

end Sys2Proof.Machine
end

