-- ==== Sys2Proof/Machine/Topo.lean ====
section
/-! DEFINITION. The topology of a link domain (17): its graph, the spanning forest and the ring, blocked links, routes and
PATH. -/

namespace Sys2Proof.Machine

/-! ### The graph (R432, R433) -/

/-- This device's own TOPO entry: its ports that are up, but for OZ3 of a pair, and, in a gateway, its Fenline leaves
(R432, R488). -/
def ownEntry (s : State) : TopoEnt :=
  let ports := (List.range 4).filter fun p => (ozp s p).up && !(p == 3 && ownMember s != 0)
  let leaves := if rdf s baseFEN 0 2 == 1 then s.fen.back.map Prod.fst else []
  { node := ownNode s, member := ownMember s, seen := s.now,
      ports := (ports.map fun p =>
        let o := ozp s p
        { port := p, nbr := o.peer, nbrPort := o.peerPort, delay := (o.delay + 255) / 256, sh := roundLoad s p })
      ++ leaves.map fun n =>
        { port := 0, nbr := n, nbrPort := 0, delay := 0, sh := 0, trip := ((s.fen.trips.find? (·.1 == n)).map Prod.snd).getD 0 } }

/-- All entries of the database, this device's own among them. -/
def allEnts (s : State) : List TopoEnt :=
  let own := ownEntry s
  (if own.ports.isEmpty then [] else [own])
    ++ s.ozl.topo.filter fun e => !(e.node == own.node && e.member == own.member)

/-- The key of a link seen from node `n` (R433). -/
def linkKey (n : Nat) (p : TopoPort) : LinkKey :=
  if n < p.nbr then { lo := n, hi := p.nbr, port := p.port } else { lo := p.nbr, hi := n, port := p.nbrPort }

/-- One key is before another. -/
def LinkKey.before (a b : LinkKey) : Bool :=
  decide (a.lo < b.lo) || (a.lo == b.lo && (decide (a.hi < b.hi) || (a.hi == b.hi && decide (a.port < b.port))))

/-- A key inserted in ascending order, once. -/
def insertKey (k : LinkKey) : List LinkKey → List LinkKey
  | [] => [k]
  | x :: l => if k == x then x :: l else if k.before x then k :: x :: l else x :: insertKey k l

/-- The links of the graph in ascending key (R433). -/
def graphLinks (ents : List TopoEnt) : List LinkKey :=
  ents.foldl (fun a e => e.ports.foldl (fun b p => if p.nbr == e.node then b else insertKey (linkKey e.node p) b) a) []

/-- The node at the other end of a link. -/
def LinkKey.other (k : LinkKey) (n : Nat) : Nat := if k.lo == n then k.hi else k.lo

/-- A link touches a node. -/
def LinkKey.touches (k : LinkKey) (n : Nat) : Bool := k.lo == n || k.hi == n

/-- The links of a forest from node `a` to node `b`. -/
def treePath : Nat → List LinkKey → Nat → Nat → Option (List LinkKey)
  | 0, _, _, _ => none
  | f + 1, ls, a, b =>
    if a == b then some []
    else (ls.filter fun k => k.touches a).findSome? fun k =>
      (treePath f (ls.erase k) (k.other a) b).map fun l => k :: l

/-- The spanning forest F and the links left over C, both in ascending key (R433). -/
def spanning (links : List LinkKey) : List LinkKey × List LinkKey :=
  links.foldl (fun (a : List LinkKey × List LinkKey) k =>
    if (treePath (a.1.length + 1) a.1 k.lo k.hi).isSome then (a.1, a.2 ++ [k]) else (a.1 ++ [k], a.2)) ([], [])

/-- The links of the cycle that `k` closes in the forest. -/
def cycleOf (f : List LinkKey) (k : LinkKey) : List LinkKey := k :: (treePath (f.length + 1) f k.lo k.hi).getD []

/-- The link that closes the domain's ring (R433). -/
def ringLink (f c : List LinkKey) : Option LinkKey :=
  c.find? fun k => !(f.any fun x => x.lo == k.lo && x.hi == k.hi) && decide ((cycleOf f k).length ≤ 1024)

/-- The nodes of a cycle. -/
def cycleNodes (l : List LinkKey) : List Nat := (l.map fun k => [k.lo, k.hi]).flatten.dedup

/-- The ring's initially blocked link (R435): between its lowest node and whichever of that node's ring neighbours has
the higher ID. -/
def firstBlocked (l : List LinkKey) : Option LinkKey :=
  let low := minList 4096 (cycleNodes l)
  (l.filter fun k => k.touches low).foldl (fun (b : Option LinkKey) k =>
    match b with
    | some x => if x.other low < k.other low then some k else b
    | none => some k) none

/-! ### Routes (R434, R437) -/

/-- Link delay and TC1 round load in ns at one end of a link (R432). -/
def hopAt (ents : List TopoEnt) (n : Nat) (k : LinkKey) : Nat × Nat :=
  ((ents.filter fun e => e.node == n).findSome? fun e =>
    (e.ports.find? fun p => linkKey n p == k).map fun p => (p.delay, p.sh)).getD (0, 0)

/-- What a walk of the tree carries: egress, hops, sums of 450 ns + D_h and greatest S_h, outward and back. -/
structure Walk where
  egress : Nat
  hops : Nat
  sumOut : Nat
  maxOut : Nat
  sumBack : Nat
  maxBack : Nat

/-- A walk one hop on. -/
def Walk.step (w : Walk) (ents : List TopoEnt) (a b : Nat) (k : LinkKey) : Walk :=
  let out := hopAt ents a k
  let bk := hopAt ents b k
  { w with hops := w.hops + 1, sumOut := w.sumOut + 450 + out.1, maxOut := max w.maxOut out.2,
             sumBack := w.sumBack + 450 + bk.1, maxBack := max w.maxBack bk.2 }

/-- The routes to every node beyond `n` in the tree. -/
def walkTree (ents : List TopoEnt) : Nat → List LinkKey → Nat → Walk → List PathEnt
  | 0, _, _, _ => []
  | f + 1, ls, n, w =>
    ((ls.filter fun k => k.touches n).map fun k =>
      let m := k.other n
      let w1 := w.step ents n m k
      { node := m, us := (w1.sumOut + w1.maxOut + 999) / 1000, back := (w1.sumBack + w1.maxBack + 999) / 1000,
          hops := w1.hops, egress := w.egress } :: walkTree ents f (ls.erase k) m w1).flatten

/-- The egress port of this device for a link of its node: its own port, OZ3 where the link is the partner's, 4 for a
Fenline leaf (R431, R488). -/
def egressOf (s : State) (k : LinkKey) : Nat :=
  match (List.range 4).find? fun p => (ozp s p).up && !(p == 3 && ownMember s != 0)
      && linkKey (ownNode s) { port := p, nbr := (ozp s p).peer, nbrPort := (ozp s p).peerPort, delay := 0, sh := 0 } == k with
  | some p => p
  | none => if s.fen.back.any fun b => b.1 == k.other (ownNode s) then 4 else 3

/-- The routes from this node (R434, R437). -/
def routes (s : State) (ents : List TopoEnt) (tree : List LinkKey) : List PathEnt :=
  let n := ownNode s
  ((tree.filter fun k => k.touches n).map fun k =>
    let m := k.other n
    let w := Walk.step { egress := egressOf s k, hops := 0, sumOut := 0, maxOut := 0, sumBack := 0, maxBack := 0 } ents n m k
    { node := m, us := (w.sumOut + w.maxOut + 999) / 1000, back := (w.sumBack + w.maxBack + 999) / 1000, hops := w.hops,
        egress := w.egress } :: walkTree ents tree.length (tree.erase k) m w).flatten

/-! ### Recomputing (R433 to R435, R449) -/

/-- Every hosted role's bounds and every leaf's round trip follow the routes (R145, R160, R161). -/
def pathsChanged (s : State) : State := recheckFen ((hostedRoles s).foldl (fun a r => refreshBounds r a) s)

/-- OZL_NO_PARENT (R449): the host of the Sluice parent is another node and has no route. -/
def checkParent (s : State) : State :=
  let par := nd s nPARENT
  let lost := !leafNode s && s.cfg.loaded && par != 0 && par % 4096 != ownNode s && (routeTo s (par % 4096)).isNone
  if lost && !s.ozl.noParent then
    updLink (raiseError ⟨9, 9, 2⟩ 0 (fireEvent 393 { s with ozl.noParent := true }))
  else if !lost && s.ozl.noParent then updLink (errCleared 9 9 0 { s with ozl.noParent := false })
  else s

/-- OZL_LOOP for each link newly blocked whose lower node ID is this node's (R433). -/
def raiseLoops (old new : List LinkKey) (s : State) : State :=
  (new.filter fun k => k.lo == ownNode s && !(old.contains k)).foldl (fun a k => raiseError ⟨9, 6, 1⟩ k.port a) s

/-- The ring, its blocked link and the blocked links of the graph; the forwarding tree and the routes (R433 to R435). -/
def recomputeTopo (s : State) : State :=
  let ents := allEnts s
  let all := graphLinks ents
  let back := match s.ozl.broken with
    | some b => s.ozl.brokenGone && all.contains b
    | none => false
  let broken := if back then none else s.ozl.broken
  let gone := match broken with
    | some b => s.ozl.brokenGone || !(all.contains b)
    | none => false
  let links := match broken with
    | some b => all.filter fun k => k != b
    | none => all
  let fc := spanning links
  let rl := ringLink fc.1 fc.2
  let extra := fc.2.filter fun k => some k != rl
  let cyc := match rl with
    | some k => cycleOf fc.1 k
    | none => []
  let nodes := cycleNodes cyc
  let same := nodes.all (s.ozl.ring.contains ·) && s.ozl.ring.all (nodes.contains ·)
  let blk := match rl with
    | none => s.ozl.ringBlk
    | some _ => match s.ozl.ringBlk with
      | some b => if same && cyc.contains b then some b else firstBlocked cyc
      | none => firstBlocked cyc
  let blocked := extra ++ (if rl.isSome then blk.toList else [])
  let tree := links.filter fun k => !(blocked.contains k)
  let keepRing := rl.isNone && broken.isSome
  let s1 := { s with ozl.blocked := blocked ++ broken.toList, ozl.broken := broken, ozl.brokenGone := gone,
                       ozl.ring := if keepRing then s.ozl.ring else nodes,
                       ozl.ringBlk := if rl.isSome || keepRing then blk else none,
                       ozl.paths := routes s ents tree }
  pathsChanged (checkParent (raiseLoops s.ozl.blocked extra s1))

/-- A port's link is blocked (OZL_PORTn_STAT.BLOCKED). -/
def portBlocked (s : State) (p : Nat) : Bool :=
  let o := ozp s p
  o.up && !(p == 3 && ownMember s != 0)
    && s.ozl.blocked.contains (linkKey (ownNode s) { port := p, nbr := o.peer, nbrPort := o.peerPort, delay := 0, sh := 0 })

/-- The ports a broadcast leaves by (R431, R434): the tree ports, and OZ3 from the active of a pair to its partner. -/
def castPorts (s : State) : List Nat :=
  (List.range 4).filter fun p => (ozp s p).up &&
    (if p == 3 && ownMember s != 0 then s.dpx.role == 1 else !(portBlocked s p))

/-- The topology database changed: routes anew, and TOPO_CHANGE (R432, R450). -/
def topoChanged (s : State) : State := fireEvent 390 (recomputeTopo s)

end Sys2Proof.Machine
end

