-- ==== Sys2Proof/Machine/Ozl.lean ====
section
/-! DEFINITION. The Oluzel link (17): training, frames and their forwarding, credits, NAKs, topology, the ring, the
gateway, and the commands of R451 on the link. -/

namespace Sys2Proof.Machine

/-! ### Errors of SUBSYS 9 (R449) -/

def errOzDown : ErrSpec := ⟨9, 1, 1⟩
def errOzDomain : ErrSpec := ⟨9, 2, 1⟩
def errOzDup : ErrSpec := ⟨9, 3, 2⟩
def errOzRule : ErrSpec := ⟨9, 4, 1⟩
def errOzRing : ErrSpec := ⟨9, 5, 1⟩
def errOzLoss : ErrSpec := ⟨9, 7, 1⟩
def errOzHops : ErrSpec := ⟨9, 8, 1⟩

/-- Receive buffers of a port by class (R427). -/
def classBuffers : List Nat := [8, 64, 32, 16, 8]



/-! ### Training (R423, R424) -/

/-- OZL_CTRL.DOMAIN. -/
def linkDomain (s : State) : Nat := rdf s baseOZL 16 16

/-- The TRAIN record this port sends (R424). -/
def trainRecord (s : State) (p : Nat) : List Nat :=
  let m := ownMember s
  let bs := leBytes 16 s.sys.ident.deviceId ++ leBytes 2 (packBits [(0, ownNode s), (12, m), (15, b2n (m != 0))])
    ++ leBytes 2 (linkDomain s) ++ [p, b2n (ozp s p).ackTx]
  bs ++ leBytes 2 (crc16 bs)

/-- TRAIN_SEND (R424): the next of the four blocks of the record. -/
def execTrainSend (t p : Nat) (s : State) : Host.Outcome State Fault Refusal :=
  let s := s.at t
  let o := ozp s p
  .next (if o.up || s.sys.mode.num < 3 then s
  else
    emit (setOz p (fun q => { q with trainIdx := (q.trainIdx + 1) % 4 }) s) .ozTrain p
      ((o.trainIdx :: ((trainRecord s p).drop (6 * o.trainIdx)).take 6).map Int.ofNat))

/-- The ports a TOPO record leaves by: every port that is up, a blocked link's too (R432, R433); between the members of a pair
only the active's (R431). -/
def topoPorts (s : State) : List Nat :=
  (List.range 4).filter fun p => (ozp s p).up && (p != 3 || ownMember s == 0 || s.dpx.role == 1)

/-- A TOPO record of this device, flooded as a TC3 broadcast (R428, R432). -/
def floodTopo (s : State) : State :=
  let e := ownEntry s
  let body := [e.node, e.member] ++ (e.ports.map fun p => [p.port, p.nbr, p.nbrPort, p.delay, p.sh, p.trip]).flatten
  let len := 3 + 12 * e.ports.length
  let data := (ozHeader 3 1 0 (ownSrc s) len 0 (get s.ozl.msgNo 3) 0x8000 ++ body).map Int.ofNat
  queueCast 3 len (fun q => { kind := .ozTopo, chan := q, data := data }) none (topoPorts s)
    { s with ozl.msgNo := upd s.ozl.msgNo 3 fun n => (n + 1) % 65536 }

/-- The case of R424 that refuses a port: 0 none, 1 domain, 2 duplicate node, 3 port rule. -/
def trainRefusal (s : State) (p : Nat) (r : TrainRec) : Nat :=
  let pairMate := r.pair && r.node == ownNode s && ownMember s != 0
  let known := (r.node == ownNode s && r.deviceId != s.sys.ident.deviceId)
    || (List.range 4).any fun q => q != p && (ozp s q).up && (ozp s q).peer == r.node && (ozp s q).peerDev != r.deviceId
        && !(r.pair && (ozp s q).peerMember != 0 && (ozp s q).peerMember != r.member)
  if r.domain != linkDomain s then 1
  else if known && !pairMate then 2
  else if p == 3 && ownMember s != 0 && r.deviceId != s.dpx.partnerId then 3
  else 0

/-- The error and event of a refusal, as it begins (R424, R450). -/
def raiseRefusal (p k : Nat) (s : State) : State :=
  if k == 1 then raiseError errOzDomain p s
  else if k == 2 then raiseError errOzDup p (fireEvent 391 s)
  else if k == 3 then raiseError errOzRule p s
  else s

/-- A port comes up (R424): credits and counts start anew, the topology changes and is flooded. -/
def portUp (p : Nat) (r : TrainRec) (s : State) : State :=
  let s1 := setOz p (fun _ =>
    { up := true, ackTx := true, peer := r.node, peerMember := r.member, peerPort := r.port, peerDev := r.deviceId,
        credit := Vector.ofFn fun i => classBuffers.getD i.val 0, fcs := (ozp s p).fcs, hcrc := (ozp s p).hcrc }) s
  floodTopo (topoChanged (fireEvent (384 + p) s1))

/-- TRAIN_RECORD_RX (R423, R424): a record received intact is acknowledged; the port is refused, or comes up when both
ends acknowledge. `delay` is the one-way delay of the medium, ns. -/
def execTrainRecordRx (t p : Nat) (r : TrainRec) (delay : Nat) (s : State) : Host.Outcome State Fault Refusal :=
  let s := s.at t
  let o := ozp s p
  .next (if o.up || !r.crcOk || s.sys.mode.num < 3 then s
  else
    let long := decide (50000 < delay)
    let k := trainRefusal s p r
    let s1 := setOz p (fun q => { q with longLink := long, refuse := k, ackTx := true }) s
    let s2 := if k != o.refuse then raiseRefusal p k s1 else s1
    if k != 0 || long || !r.ack then s2 else portUp p r s2)

/-! ### A port goes down (R424, R435) -/

/-- The link of port `p`. -/
def portLink (s : State) (p : Nat) : LinkKey :=
  let o := ozp s p
  linkKey (ownNode s) { port := p, nbr := o.peer, nbrPort := o.peerPort, delay := 0, sh := 0 }

/-- The failed link is bridged (R435): it counts as blocked and the ring's blocked link as unblocked. -/
def bridge (k : LinkKey) (s : State) : State :=
  if s.ozl.broken.isNone && s.ozl.ring.contains k.lo && s.ozl.ring.contains k.hi && s.ozl.ringBlk != some k
      && s.ozl.ringBlk.isSome then
    fireEvent 389 (recomputeTopo (raiseError errOzRing 0 (fireEvent 388
      { s with ozl.broken := some k, ozl.brokenGone := false, ozl.ringBlk := some k })))
  else s

/-- A RING_BREAK broadcast for a failed link (R435, R445). -/
def sendRingBreak (k : LinkKey) (s : State) : State :=
  sendTc0 .ozRingBreak true (tc0Payload 0x13 0 0 (get s.tsu.seq 2) (k.lo + 65536 * k.hi) 0 0 0 0) none (castPorts s)
    { s with tsu.seq := upd s.tsu.seq 2 fun n => (n + 1) % 2 ^ 32 }

/-- A port goes down, whatever takes it down (R424, R432, R435, R449): OZL_LINK_DOWN; what is queued on it is lost, RING_BREAK
goes out for a ring link or one with a stand-in, and the topology changes and is flooded. -/
def portDown (p : Nat) (s : State) : State :=
  let k := portLink s p
  let wasBlocked := portBlocked s p
  let paired := p == 3 && ownMember s != 0
  let standIn := s.ozl.blocked.any fun x => x.lo == k.lo && x.hi == k.hi
  let inRing := s.ozl.ring.contains k.lo && s.ozl.ring.contains k.hi
  let s1 := raiseError errOzDown p
    (fireEvent 398 (fireEvent (384 + p) (setOz p (fun o => { fcs := o.fcs, hcrc := o.hcrc }) (dropWaiting p s))))
  let s2 := if !wasBlocked && !paired && (inRing || standIn) then bridge k (sendRingBreak k s1) else s1
  floodTopo (topoChanged s2)

/-- OZL_LINK_DOWN (R424, R449): loss of block lock or bad sync headers. -/
def execOzlLinkDown (t p : Nat) (s : State) : Host.Outcome State Fault Refusal :=
  let s := s.at t
  .next (if (ozp s p).up then portDown p s else s)

/-! ### Credits (R428) -/

/-- CREDIT_BLOCK_RX (R428): the cumulative counts return credits, and frames that waited go out. -/
def execCreditBlockRx (t p : Nat) (counts : List Nat) (crcOk : Bool) (s : State) : Host.Outcome State Fault Refusal :=
  let s := s.at t
  .next (if (ozp s p).up && crcOk then
    let s1 := setOz p (fun o =>
      { o with credit := Vector.ofFn fun i => get o.credit i.val + (counts.getD i.val 0 + 256 - get o.freedRx i.val) % 256,
                 freedRx := Vector.ofFn fun i => counts.getD i.val 0 }) s
    flushPort p (ozp s1 p).wait.length s1
  else s)

/-- CREDIT_BLOCK_SEND (R428): at least every 1 µs while the link is up. -/
def execCreditBlockSend (t p : Nat) (s : State) : Host.Outcome State Fault Refusal :=
  let s := s.at t
  .next (if (ozp s p).up then sendCreditBlock p s else s)

/-! ### End-to-end recovery (R430) -/

/-- How far message `a` lies after message `b`, modulo 2^16; from 32,768 on it lies before. -/
def msgAhead (a b : Nat) : Nat := (a + 65536 - b) % 65536

/-- Messages of TC3 or TC4 to a destination from the first missing one on are sent again, as far as they are held. -/
def resendFrom (dst cls msg : Nat) (s : State) : State :=
  let node := dst % 4096
  let logs := s.ozl.sent.filter fun x =>
    x.cls == cls && x.dst % 4096 == node && (x.dst / 4096 % 4 == 0 || x.dst / 4096 % 4 == dst / 4096 % 4)
  let again := ((logs.map SentLog.held).flatten.filter fun h => decide (msgAhead h.1 msg < 32768)).map Prod.snd
  if isMate dst s then (if (ozp s 3).up then queueAll 3 again s else s)
  else match routeTo s node with
    | none => s
    | some e => if e.egress < 4 then queueAll e.egress again s else fenAll cls node again s

/-- NAK (R430): the source resends from the first missing message; `src` is the node that sends it, with its member. -/
def execNak (t src cls msg : Nat) (s : State) : Host.Outcome State Fault Refusal :=
  .next (resendFrom src cls msg (s.at t))

/-- A NAK to a source: class and first missing MSG (R430). -/
def sendNak (src cls msg : Nat) (s : State) : State := tcSend 3 .ozNak (src % 16384) cls ([1, cls, 0, 0] ++ leBytes 2 msg) s

/-- What is expected next from a source in a class. -/
def expected (src cls : Nat) (s : State) : Option ExpectMsg := s.ozl.expect.find? fun x => x.src == src && x.cls == cls

/-- What is expected next from a source is set. -/
def setExpected (e : ExpectMsg) (s : State) : State :=
  { s with ozl.expect := e :: s.ozl.expect.filter fun x => !(x.src == e.src && x.cls == e.cls) }


/-- What the order of TC3 and TC4 says of a message (R430): whether it is taken, and the state after. After a NAK, a message
further on than any seen was under way before it; one that is not shows that the messages before it are no longer held, and they
are lost. -/
def inOrder (src cls msg : Nat) (s : State) : Bool × State :=
  let after := { src := src, cls := cls, next := (msg + 1) % 65536, gap := none : ExpectMsg }
  match expected src cls s with
  | none => (true, setExpected after s)
  | some e =>
    if msg == e.next then (true, setExpected after s)
    else if 32768 ≤ msgAhead msg e.next then (false, s)
    else match e.gap with
      | none => (false, sendNak src cls e.next (setExpected { e with gap := some msg } s))
      | some g =>
        if msgAhead msg e.next ≤ msgAhead g e.next then
          (true, raiseError errOzLoss (src % 4096) (fireEvent 392 (setExpected after s)))
        else (false, setExpected { e with gap := some msg } s)

/-- A segment whose message has no start, or whose predecessor is missing (R427, R430): in TC3 and TC4 the message is asked for
again, once. -/
def segmentLost (src cls msg : Nat) (s : State) : State :=
  let ask := fun (m : Nat) => sendNak src cls m (setExpected { src := src, cls := cls, next := m, gap := some msg } s)
  match expected src cls s with
  | none => ask msg
  | some e => if 32768 ≤ msgAhead msg e.next || e.gap.isSome then s else ask e.next

/-! ### Frames (R425 to R427, R431, R434) -/

/-- A whole message reaches its block (R427): a NAK acts here, a TC3 message for a gateway's target goes back as a
datagram (R436), a management frame goes to port 5's mailboxes, which take it by its MGMT_ command once its tag is judged
(R94), and any other is handed on. -/
def deliverMsg (f : OzFrame) (bytes : List Nat) (s : State) : State :=
  let src := f.src + 4096 * f.srcMember
  if f.ctrl && f.tc == 3 && bytes.getD 0 0 == 1 then
    resendFrom src (bytes.getD 1 0) (leValue ((bytes.drop 4).take 2)) s
  else if f.tc == 3 then
    match s.ozl.gateway.find? fun g => g.1 == src with
    | some g => emit s .gatewayDatagram 0 (([g.2, 0x4B77, src, 0] ++ bytes).map Int.ofNat)
    | none =>
      emit s (if leValue (bytes.take 2) == 0x4B76 then .mgmtRelayed else .ozDeliver) f.tc ((src :: bytes).map Int.ofNat)
  else emit s .ozDeliver f.tc ((src :: bytes).map Int.ofNat)

/-- A frame for this device joins its message; a message with a missing segment is discarded, and asked for again in TC3
and TC4 (R427, R430). -/
def receiveFrame (f : OzFrame) (s : State) : State :=
  let src := f.src + 4096 * f.srcMember + 16384 * f.dstMember
  let ordered := (f.tc == 3 || f.tc == 4) && !f.bcast && !f.ctrl
  let same := fun (x : Partial) => x.src == src && x.cls == f.tc && x.msg == f.msg
  let join := fun (have' : Partial) (a : State) =>
    let p := { have' with idx := f.segIdx + 1, bytes := have'.bytes ++ f.payload }
    let rest := a.ozl.partials.filter fun x => !(same x)
    if f.last then deliverMsg f p.bytes { a with ozl.partials := rest } else { a with ozl.partials := p :: rest }
  if f.segIdx == 0 then
    let (take, s1) := if ordered then inOrder src f.tc f.msg s else (true, s)
    if !take then s1
    else if !f.seg then deliverMsg f f.payload s1
    else join { src := src, cls := f.tc, msg := f.msg } s1
  else match s.ozl.partials.find? same with
    | some have' =>
      if have'.idx == f.segIdx then join have' s
      else
        let s1 := { s with ozl.partials := s.ozl.partials.filter fun x => !(same x) }
        if ordered then segmentLost src f.tc f.msg (setExpected { src := src, cls := f.tc, next := f.msg } s1) else s1
    | none => if ordered then segmentLost src f.tc f.msg s else s

/-- A frame as it is passed on, with one more hop, its HCRC and FCS anew; one found bad as it passes ends with ABORT, type 0xB4,
in place of them (R425, R426). -/
def ozOut (f : OzFrame) (q : Nat) (abort : Bool) : Out :=
  let h := ozHeader f.tc (b2n f.bcast + 2 * b2n f.seg + 4 * b2n f.ctrl) (f.dst + 4096 * f.dstMember) (f.src + 4096 * f.srcMember)
    f.payload.length (f.hops + 1) f.msg (f.segIdx + 32768 * b2n f.last)
  { kind := .ozFrame, chan := q, data := (if abort then h ++ f.payload ++ [0xB4] else ozBytes h f.payload).map Int.ofNat }

/-- The frame passed on by a port; `abort` where its FCS was found bad after it had begun (R426). -/
def forwardOn (f : OzFrame) (inp q : Nat) (hold abort : Bool) (s : State) : State :=
  queueFrame q { cls := f.tc, len := f.payload.length, msg := ozOut f q abort, inp := if hold then some inp else none } s

/-- The frame is for a leaf of this gateway (R488). -/
def leafServed (s : State) (f : OzFrame) : Bool := !f.bcast && (routeTo s f.dst).any fun e => e.egress == 4

/-- Where a frame goes: whether it is for this device, and the ports it leaves by (R431, R434). -/
def frameTargets (s : State) (inp : Nat) (f : OzFrame) : Bool × List Nat :=
  if f.bcast then (true, (castPorts s).filter (· != inp))
  else if f.dst == ownNode s then
    let mine := if f.dstMember == 0 then s.dpx.role != 2 else f.dstMember == ownMember s
    (mine || ownMember s == 0, if mine || ownMember s == 0 || inp == 3 then [] else [3])
  else match routeTo s f.dst with
    | some e => (false, if e.egress < 4 && e.egress != inp then [e.egress] else [])
    | none => (false, [])

/-- An FCS error or ABORT is counted; above 16 in a second its event fires (R426, R450). -/
def countFcs (p : Nat) (s : State) : State :=
  let sec := devTime s / 1000000000
  let o := ozp s p
  let n := if o.fcsSec.1 == sec then o.fcsSec.2 + 1 else 1
  let s1 := setOz p (fun q => { q with fcs := (q.fcs + 1) % 65536, fcsSec := (sec, n) }) s
  if n == 17 then fireEvent 394 s1 else s1

/-- A frame with a good header is forwarded and, where it is good to its end, delivered (R426, R434). -/
def acceptOz (p : Nat) (f : OzFrame) (s : State) : State :=
  let bad := f.aborted || !f.fcsOk
  let s1 := if bad then countFcs p s else s
  let tg := frameTargets s1 p f
  let cut := decide (f.tc < 3)
  let overHops := decide (4095 ≤ f.hops + 1) && tg.2 != []
  let ports := if overHops || (bad && !cut) then [] else tg.2
  let s2 := if overHops then raiseError errOzHops p s1 else s1
  let s3 := (ports.dropLast).foldl (fun a q => forwardOn f p q false bad a) s2
  let s4 := match ports.getLast? with
    | some q => forwardOn f p q true bad s3
    | none => freeBuffer p f.tc s3
  let s5 := if !bad && leafServed s1 f then fenSend f.tc f.src f.dst false (ozOut f 4 false) s4 else s4
  if tg.1 && !bad && f.payload.length ≤ classMax f.tc then receiveFrame f s5 else s5

/-- OZL_FRAME_RX (R425 to R434): a frame on a port that is up; a blocked link carries none but those of R433. -/
def execOzlFrameRx (t p : Nat) (f : OzFrame) (s : State) : Host.Outcome State Fault Refusal :=
  let s := s.at t
  .next (if !(ozp s p).up then s
  else if !f.hcrcOk then setOz p (fun o => { o with hcrc := (o.hcrc + 1) % 65536 }) s
  else if portBlocked s p then freeBuffer p f.tc s
  else acceptOz p f s)

/-! ### Topology records (R432, R433, R435) -/

/-- TOPO_FLOOD (R432): every 1 s. -/
def execTopoFlood (t : Nat) (s : State) : Host.Outcome State Fault Refusal := .next (floodTopo (s.at t))

/-- An entry inserted by node and member, in rising order. -/
def insertEnt (e : TopoEnt) : List TopoEnt → List TopoEnt
  | [] => [e]
  | x :: l =>
    if x.node == e.node && x.member == e.member then e :: l
    else if e.node * 4 + e.member < x.node * 4 + x.member then e :: x :: l
    else x :: insertEnt e l

/-- TOPO (R432 to R434): the database takes the record; a change recomputes blocked links and routes. -/
def execTopo (t node member : Nat) (ports : List TopoPort) (s : State) : Host.Outcome State Fault Refusal :=
  let s := s.at t
  .next (if node == ownNode s && member == ownMember s then s
  else
    let old := s.ozl.topo.find? fun e => e.node == node && e.member == member
    let s1 := { s with ozl.topo := insertEnt { node := node, member := member, ports := ports, seen := s.now } s.ozl.topo }
    if old.map TopoEnt.ports == some ports then s1 else topoChanged s1)

/-- TOPO_ENTRY_EXPIRY (R432): an entry not refreshed for 3 s. -/
def execTopoEntryExpiry (t node member : Nat) (s : State) : Host.Outcome State Fault Refusal :=
  let s := s.at t
  .next (if s.ozl.topo.any fun e => e.node == node && e.member == member && decide (e.seen + 3000000000 ≤ s.now) then
    topoChanged { s with ozl.topo := s.ozl.topo.filter fun e => !(e.node == node && e.member == member) }
  else s)

/-- RING_BREAK (R435): the failed link between two nodes is bridged. -/
def execRingBreak (t a b : Nat) (s : State) : Host.Outcome State Fault Refusal :=
  let s := s.at t
  let link := (graphLinks (allEnts s)).find? fun k => k.lo == min a b && k.hi == max a b && !(s.ozl.blocked.contains k)
  .next (match link with
    | some k => bridge k s
    | none => s)

/-! ### Relay gateway (R436) -/

/-- GATEWAY_DATAGRAM (R436): a gateway on this MAC forwards the management frame to its target over TC3, and notes the
sender's address. -/
def execGatewayDatagram (t mac addr magic target : Nat) (frame : List Nat) (s : State) : Host.Outcome State Fault Refusal :=
  let s := s.at t
  .next (if param s pOZL_GATEWAY 0 != mac + 1 || magic != 0x4B77 then s
  else
    tcSend 3 .relayFrame target target frame
      { s with ozl.gateway := (target, addr) :: s.ozl.gateway.filter fun g => g.1 != target })

/-! ### Registers and commands (R451, R508, R509) -/

/-- OZL_CTRL. -/
def ozlCtrlWord (s : State) : Nat := packBits [(0, ownNode s), (12, ownMember s), (16, linkDomain s)]

/-- OZL_TOPO. -/
def ozlTopoWord (s : State) : Nat :=
  let nodes := ((allEnts s).map TopoEnt.node).dedup
  let b := s.ozl.ringBlk.getD {}
  packBits [(0, nodes.length), (13, b2n (s.ozl.ring.contains (ownNode s))), (14, b2n s.ozl.broken.isSome), (16, b.lo), (28, b.port)]

/-- OZL_PORTn_STAT. -/
def ozlPortWord (s : State) (p : Nat) : Nat :=
  let o := ozp s p
  packBits [(0, b2n o.up), (1, b2n (portBlocked s p)), (2, b2n o.longLink), (3, o.refuse), (16, o.peer), (28, o.peerPort)]

/-- The words of port `p`: STAT, DELAY, CNT, TC1. -/
def ozlPortWords (s : State) (p : Nat) : List Nat :=
  let o := ozp s p
  [ozlPortWord s p, o.delay, packBits [(0, o.fcs), (16, o.hcrc)], roundLoad s p]

/-- OZL_STATUS (R451, R509). -/
def execOzlStatus (t line seq : Nat) (s : State) : Host.Outcome State Fault Refusal :=
  .next (runCmd line seq 0x0F01 neverIllegal (fun c s =>
    let ws := [ozlCtrlWord s, ozlTopoWord s] ++ ((List.range 4).map (ozlPortWords s)).flatten
    doneOut c [] (ws.map (leBytes 4)).flatten s) (s.at t))

/-- One entry of OZL_TOPO_READ: NODE, MEMBER, the mask of its ports, and each port's neighbour, port, delay and load. -/
def topoBytes (e : TopoEnt) : List Nat :=
  let port := fun k => e.ports.find? fun p => p.port == k
  leBytes 2 e.node ++ [e.member, maskOf ((List.range 4).map fun k => (port k).isSome)]
    ++ ((List.range 4).map fun k => match port k with
        | some p => leBytes 2 p.nbr ++ [p.nbrPort] ++ leBytes 4 p.delay ++ leBytes 4 p.sh
        | none => List.replicate 11 0).flatten

/-- OZL_TOPO_READ (R451, R509): the entries of the nodes from FIRST on. -/
def execOzlTopoRead (t line seq : Nat) (s : State) : Host.Outcome State Fault Refusal :=
  .next (runCmd line seq 0x0F02 neverIllegal (fun c s =>
    let n := c.param 10 2
    if 4096 ≤ c.param 8 2 then rejectRange c 8 s
    else if n = 0 ∨ 1365 < n then rejectRange c 10 s
    else
      let ents := (allEnts s).foldl (fun a e => insertEnt e a) []
      doneOut c [] (((ents.filter fun e => decide (c.param 8 2 ≤ e.node)).take n).map topoBytes).flatten s) (s.at t))

/-- OZL_PATH_READ (R437, R451, R509). -/
def execOzlPathRead (t line seq : Nat) (s : State) : Host.Outcome State Fault Refusal :=
  .next (runCmd line seq 0x0F03 neverIllegal (fun c s =>
    let n := c.param 8 2
    if 4096 ≤ n then rejectRange c 8 s
    else if n == ownNode s then done c (leBytes 4 0 ++ leBytes 2 0 ++ [0, 1]) s
    else match routeTo s n with
      | some e => done c (leBytes 4 e.us ++ leBytes 2 e.hops ++ [e.egress, 1]) s
      | none => done c (leBytes 4 0 ++ leBytes 2 0 ++ [0, 0]) s) (s.at t))

/-- OZL_PORT_RETRAIN (R451, R509): the port goes down and trains again. -/
def execOzlPortRetrain (t line seq : Nat) (s : State) : Host.Outcome State Fault Refusal :=
  .next (runCmd line seq 0x0F04 neverIllegal (fun c s =>
    let p := c.param 8 1
    if 4 ≤ p then rejectRange c 8 s
    else done c [] (if (ozp s p).up then portDown p s else fireEvent 398 (setOz p (fun o => { o with ackTx := false, refuse := 0 }) s)))
    (s.at t))

end Sys2Proof.Machine
end

