-- ==== Sys2Proof/Machine/Tsu.lean ====
section
/-! DEFINITION. The time unit (17): device time and the domains it follows, peer delay and SYNC on Oluzel, PTP on the MACs,
compare and capture, and the commands of R451 on time. -/

namespace Sys2Proof.Machine

/-! ### Errors of SUBSYS 10 (R449) -/

def errHoldover : ErrSpec := ⟨10, 1, 1⟩
def errTsuFree : ErrSpec := ⟨10, 2, 1⟩
def errTsuSwitch : ErrSpec := ⟨10, 3, 1⟩
def errFreqRange : ErrSpec := ⟨10, 4, 1⟩

/-- Domain `d`. -/
def dom (s : State) (d : Nat) : Dom := get s.tsu.dom d

/-- Domain `d` changed. -/
def setDom (d : Nat) (f : Dom → Dom) (s : State) : State := { s with tsu.dom := upd s.tsu.dom d f }

/-- A field of TSU_DOMd_CFG. -/
def domCfg (s : State) (d lo w : Nat) : Nat := rdf s (baseTSU + 0x100 + 0x20 * d) lo w

/-- STEP_NS of a domain. -/
def stepNs (s : State) (d : Nat) : Nat := rdw s (baseTSU + 0x104 + 0x20 * d)

/-! ### Device time (R438, R443) -/

/-- Domain time in 2^-32 ns (R442). -/
def domTime (s : State) (d : Nat) : Nat := advance (dom s d).time (s.now - (dom s d).at0) (dom s d).f

/-- Domain time in ns. -/
def domNs (s : State) (d : Nat) : Int := ((domTime s d / 2 ^ 32 : Nat) : Int)

/-- A domain's time is carried forward to now. -/
def rebaseDom (d : Nat) (s : State) : State :=
  let v := domTime s d
  setDom d (fun x => { x with time := v, at0 := s.now }) s

/-- Device time is carried forward to now. -/
def rebaseDev (s : State) : State :=
  { s with tsu.base := advance s.tsu.base (s.now - s.tsu.baseAt) s.tsu.f, tsu.baseAt := s.now }

/-- Δ = followed domain time - device time, ns (R443). -/
def deltaNs (s : State) : Int := domNs s s.tsu.followed - (devTime s : Int)

/-- Device time steps to a value in 2^-32 ns (R438); legal time, which runs on device time's advance, goes on from where it
stands (R390). -/
def stepDev (v : Nat) (s : State) : State :=
  let a := rebase s
  let b := { a with tsu.base := v, tsu.baseAt := s.now }
  { b with lgl.lAt := devTime b }

/-- A value held within ± a bound. -/
def clampRat (x b : Rat) : Rat := max (-b) (min b x)

/-- F_dev = F_d + clamp(Δ / 1 s) (R443), or a step where R438 allows one. -/
def followDev (s0 : State) : State :=
  let s := rebaseDev s0
  let d := s.tsu.followed
  if (dom s d).st == 0 then { s with tsu.f := (dom s d).f }
  else
    let s1 := if s.tsu.stepOk && decide (stepNs s d < (deltaNs s).natAbs) then stepDev (domTime s d) s else s
    let slew : Rat := (rdf s1 baseTSU 2 10 : Rat) / 1000000
    { s1 with tsu.f := (dom s1 d).f + clampRat ((deltaNs s1 : Rat) / 1000000000) slew }

/-! ### The servo (R442) -/

/-- A domain's state changes; its event fires, and the time of losing or gaining LOCKED is noted (R443, R450). -/
def setDomState (d st : Nat) (s : State) : State :=
  if (dom s d).st == st then s
  else
    let was := (dom s d).st == 2
    let s1 := setDom d (fun x => { x with st := st, lockedAt := if st == 2 then some s.now else none, lockRun := 0, outRun := 0,
                                          heldAt := s.now }) s
    let s2 := if was && d == rdf s baseTSU 0 1 then { s1 with tsu.lostAt := s.now } else s1
    fireEvent (395 + d) s2

/-- The servo's step on offset `o` with sample interval `ts`, ns (R442). -/
def servo (d : Nat) (o : Int) (ts : Nat) (s : State) : State :=
  let i := (dom s d).integ + (o : Rat) / 2 ^ domCfg s d 8 5
  let raw := ((o : Rat) / 2 ^ domCfg s d 3 5 + i) / ts
  let f := clampRat raw (1 / 5000)
  let run := if |f| = 1 / 5000 then (dom s d).clampRun + 1 else 0
  let s1 := setDom d (fun x => { x with integ := i, f := f, clampRun := run }) s
  if run == 16 then raiseError errFreqRange d s1 else s1

/-- LOCKED and ACQUIRE by the runs of good and bad samples (R442). -/
def judgeLock (d : Nat) (o : Int) (s : State) : State :=
  let lock := domCfg s d 13 10
  let x := dom s d
  let lr := if o.natAbs ≤ lock then x.lockRun + 1 else 0
  let orun := if 4 * lock < o.natAbs then x.outRun + 1 else 0
  let s1 := setDom d (fun y => { y with lockRun := lr, outRun := orun }) s
  if x.st == 1 && 16 ≤ lr then setDomState d 2 s1
  else if x.st == 2 && 16 ≤ orun then setDomState d 1 s1
  else s1

/-- A sample of a domain's source (R442): `source` is the source time now, ns. -/
def domainSample (d : Nat) (source : Int) (ts : Nat) (s0 : State) : State :=
  let s := rebaseDom d (takeNeutral [0x91] s0)
  let o := source - domNs s d
  let s1 := if (dom s d).st == 0 || (dom s d).st == 3 then setDomState d 1 s else s
  let s2 := setDom d (fun x => { x with ofs := o, sampled := (s.now, ts) }) s1
  let s3 := if (dom s2 d).st == 1 && decide (stepNs s2 d < o.natAbs) then
      setDom d (fun x => { x with time := ((x.time : Int) + o * 2 ^ 32).toNat }) s2
    else servo d o ts s2
  let s4 := judgeLock d o s3
  if s4.tsu.followed == d then followDev s4 else s4

/-- DOMAIN_SAMPLE (R442): a sample of domain `d`; without a source there is none. -/
def execDomainSample (t d : Nat) (source : Int) (utc interval : Nat) (s : State) : Host.Outcome State Fault Refusal :=
  let s := s.at t
  .next (if domCfg s d 0 3 == 0 then s else domainSample d source interval (setDom d (fun x => { x with utc := utc }) s))

/-- DOMAIN_HOLDOVER (R442, R449): no sample for 3 intervals; F_d is held. -/
def execDomainHoldover (t d : Nat) (s : State) : Host.Outcome State Fault Refusal :=
  let s := s.at t
  .next (if ((dom s d).st == 1 || (dom s d).st == 2) && decide ((dom s d).sampled.1 + 3 * (dom s d).sampled.2 ≤ s.now) then
    let s1 := setDomState d 3 s
    if s1.tsu.followed == d then raiseError errHoldover d s1 else s1
  else s)

/-- DOMAIN_FREE (R442, R449): HOLDOVER has lasted HOLD_MAX. -/
def execDomainFree (t d : Nat) (s : State) : Host.Outcome State Fault Refusal :=
  let s := s.at t
  .next (if (dom s d).st == 3 && decide ((dom s d).heldAt + domCfg s d 23 8 * 10000000000 ≤ s.now) then
    let s1 := setDomState d 0 s
    if s1.tsu.followed == d then raiseError errTsuFree d (followDev s1) else s1
  else s)

/-! ### Which domain is followed (R443) -/

/-- The followed domain changes: TSU_SWITCH and its event; the new Δ is slewed out. -/
def switchTo (d : Nat) (s : State) : State :=
  if s.tsu.followed == d then s
  else followDev (raiseError errTsuSwitch d (fireEvent 397 { s with tsu.followed := d }))

/-- FOLLOW_SWITCH (R443): with FOLLOW_AUTO, away from the preferred domain once the other has been LOCKED for 1 s while
the preferred one was not, and back once the preferred has been LOCKED for SWITCH_HOLD. -/
def execFollowSwitch (t : Nat) (s : State) : Host.Outcome State Fault Refusal :=
  let s := s.at t
  let p := rdf s baseTSU 0 1
  let lockedFor := fun d ns => match (dom s d).lockedAt with
    | some a => decide (a + ns ≤ s.now)
    | none => false
  .next (if !s.tsu.auto then s
  else if s.tsu.followed == p then
    (if lockedFor (1 - p) 1000000000 && (dom s p).st != 2 && decide (s.tsu.lostAt + 1000000000 ≤ s.now) then switchTo (1 - p) s
     else s)
  else if lockedFor p (rdf s baseTSU 12 8 * 1000000000) then switchTo p s
  else s)

/-- AON_CLOCK_REFRESH (R438): the always-on clock takes device time, in whole seconds and 32.768 kHz ticks. -/
def execAonClockRefresh (t : Nat) (s : State) : Host.Outcome State Fault Refusal :=
  let s := s.at t
  .next (if s.sys.mode.num < 2 || s.sys.mode == .m11 then s
  else
    let s1 := followDev s
    { s1 with tsu.aon := devTime s1 * 32768 / 1000000000 * 1000000000 / 32768, tsu.aonAt := s1.now + s1.gap })

/-! ### Peer delay (R444) -/

/-- PEER_DELAY_REQUEST (R444): PDREQ goes out at `t1` (2^-16 ns). -/
def execPeerDelayRequest (t p t1 : Nat) (s : State) : Host.Outcome State Fault Refusal :=
  let s := s.at t
  .next (if (ozp s p).up then
    let n := get s.tsu.seq 1
    sendTc0 .pdReq false (tc0Payload 0x11 0 0 n 0 0 0 0 0) none [p]
      { setOz p (fun q => { q with pdReq := some (n, t1) }) s with tsu.seq := upd s.tsu.seq 1 fun k => (k + 1) % 2 ^ 32 }
  else s)

/-- PDREQ (R444): answered one-step with t2 and the turnaround t3 - t2 (2^-16 ns); the answer carries the request's SEQ. -/
def execPdreq (t p seq t2 t3 : Nat) (s : State) : Host.Outcome State Fault Refusal :=
  let s := s.at t
  .next (if (ozp s p).up then
    sendTc0 .pdResp false (tc0Payload 0x12 0 0 seq (t2 / 65536) (t2 % 65536) 0 ((t3 : Int) - t2) 0) none [p] (freeBuffer p 0 s)
  else s)

/-- The asymmetry configured for a port, 2^-8 ns. -/
def ozAsym (s : State) (p : Nat) : Int :=
  signed 32 (param s (match p with
    | 0 => pOZL_ASYM_0
    | 1 => pOZL_ASYM_1
    | 2 => pOZL_ASYM_2
    | _ => pOZL_ASYM_3) 0)

/-- PDRESP (R444): the link delay D and the neighbour rate ratio; all times in 2^-16 ns. -/
def execPdresp (t p seq : Nat) (t2 turn t4 : Int) (s : State) : Host.Outcome State Fault Refusal :=
  let s := s.at t
  let o := ozp s p
  let s := if o.up then freeBuffer p 0 s else s
  .next (match o.pdReq with
    | some (q, t1) =>
      if q == seq then
        let d := ((t4 - (t1 : Int)) - turn) / 512 - ozAsym s p
        let ratio := match o.pdLast with
          | some (a, b) => if t4 == b then o.ratio else ((t2 + turn - a : Int) : Rat) / ((t4 - b : Int) : Rat)
          | none => o.ratio
        setOz p (fun x => { x with delay := d.toNat % 2 ^ 32, pdReq := none, pdLast := some (t2 + turn, t4), ratio := ratio }) s
      else s
    | none => s)

/-! ### SYNC (R445) -/

/-- The node that the configuration names as time root of a time number. -/
def timeRoot (s : State) (tnum : Nat) : Nat := param s (if tnum = 0 then pTIME_ROOT_0 else pTIME_ROOT_1) 0xFFFF

/-- SYNC_INT, ns. -/
def syncInt (s : State) : Nat := param s pSYNC_INT 125000 * 1000

/-- SYNC_SEND (R445, R448): the time root, unless it is the standby of a pair, sends a one-step SYNC with the time of the
domain it follows. -/
def execSyncSend (t tnum : Nat) (s : State) : Host.Outcome State Fault Refusal :=
  let s := s.at t
  .next (if timeRoot s tnum == ownNode s && s.dpx.role != 2 && 3 ≤ s.sys.mode.num then
    let d := s.tsu.followed
    let v := domTime s d
    sendTc0 .sync true (tc0Payload 0x10 tnum (dom s d).st (get s.tsu.seq 0) (v / 2 ^ 32) (v / 2 ^ 16 % 65536) (dom s d).utc 0 0) none
      (castPorts s) { s with tsu.seq := upd s.tsu.seq 0 fun n => (n + 1) % 2 ^ 32 }
  else s)

/-- A SYNC leaves by the other tree ports with one more hop, with CORR and RATIO as this node makes them and its FCS rewritten
(R445); one whose HOPS would reach 4,095 is discarded (R426). -/
def forwardSync (p tnum seq rootState utc : Nat) (origin corr : Int) (cum : Rat) (residence : List Nat) (src hops msg : Nat) (s : State) :
    State :=
  let ports := (castPorts s).filter (· != p)
  let add := fun q : Nat => (((ozp s p).delay : Rat) * 256 + (residence.getD q 0 : Rat)) * cum
  let pay := fun q : Nat => tc0Payload 0x10 tnum rootState seq (unsigned 64 (origin / 65536)) (unsigned 16 origin) utc (corr + (add q).floor)
    ((cum - 1) * 2199023255552 : Rat).floor
  if decide (4095 ≤ hops + 1) && ports != [] then raiseError errOzHops p (freeBuffer p 0 s)
  else
    let data := fun q : Nat => (ozBytes (ozHeader 0 1 0 src 48 (hops + 1) msg 0x8000) (pay q)).map Int.ofNat
    queueCast 0 48 (fun q => { kind := .sync, chan := q, data := data q }) (some p) ports s

/-- SYNC (R445): forwarded along the tree with its corrections; its source time, ORIGIN + CORR + the upstream link delay at
the SOF timestamp `rx`, is a sample for each domain that takes this time number. Times are in 2^-16 ns, `ratio` in 2^-41. -/
def execSync (t p tnum seq rootState utc : Nat) (origin corr ratio rx : Int) (residence : List Nat) (src hops msg : Nat) (s : State) :
    Host.Outcome State Fault Refusal :=
  let s := s.at t
  .next (if !(ozp s p).up then s
  else if portBlocked s p then freeBuffer p 0 s
  else
    let cum := (1 + (ratio : Rat) / 2199023255552) * (ozp s p).ratio
    let s1 := forwardSync p tnum seq rootState utc origin corr cum residence src hops msg s
    let atRx := (origin + corr + ((ozp s p).delay : Int) * 256) / 65536
    ([0, 1] : List Nat).foldl (fun a d =>
      if domCfg a d 0 3 == tnum + 1 then
        domainSample d (atRx + ((devTime a : Int) - rx / 65536)) (syncInt a) (setDom d (fun x => { x with utc := utc }) a)
      else a) s1)

/-! ### PTP (R447) -/

/-- PTP port of a MAC. -/
def ptp (s : State) (m : Nat) : Ptp := get s.tsu.ptp m

/-- PTP port of a MAC changed. -/
def setPtp (m : Nat) (f : Ptp → Ptp) (s : State) : State := { s with tsu.ptp := upd s.tsu.ptp m f }

/-- MASTER_OK of a MAC. -/
def masterOk (s : State) (m : Nat) : Bool := param s (if m = 0 then pMASTER_OK_0 else pMASTER_OK_1) 0 != 0

/-- The profile of a MAC measures peer delay: 0 the delay request-response profile; 1 and 2 peer-to-peer. -/
def peerProfile (s : State) (m : Nat) : Bool := param s (if m = 0 then pPTP_PROFILE_0 else pPTP_PROFILE_1) 0 != 0

/-- Sync interval of a MAC's profile, ns. -/
def ptpInt (s : State) (m : Nat) : Nat := param s (if m = 0 then pPTP_SYNC_INT_0 else pPTP_SYNC_INT_1) 125000 * 1000

/-- A Sync with its origin time is complete: a sample for each domain that takes this MAC (R442, R447). -/
def ptpSample (m : Nat) (t1 t2 : Int) (s : State) : State :=
  let s1 := setPtp m (fun p => { p with sync := none, msDelay := some (t2 - t1) }) s
  ([0, 1] : List Nat).foldl (fun a d =>
    if domCfg a d 0 3 == m + 3 then
      domainSample d (t1 + (ptp a m).delay + ((devTime a : Int) - t2)) (ptpInt a m) a
    else a) s1

/-- The PTP domain number of a MAC. -/
def ptpDomain (s : State) (m : Nat) : Nat := param s (if m = 0 then pPTP_DOMAIN_0 else pPTP_DOMAIN_1) 0

/-- A PTP message leaves a MAC in its domain number. -/
def ptpSend (m : Nat) (data : List Int) (s : State) : State := emit s .ptp m ((ptpDomain s m : Int) :: data)

/-- PTP_MESSAGE_RX (R447): what the ordinary-clock port does with a message of its own domain number; times are ns by the
device's timestamps. -/
def execPtpMessageRx (t mac number : Nat) (msg : PtpMsg) (s : State) : Host.Outcome State Fault Refusal :=
  let s := s.at t
  let p := ptp s mac
  .next (if number != ptpDomain s mac then s else match msg with
    | .sync seq oneStep origin rx =>
      if p.master then s
      else if oneStep then ptpSample mac origin rx s
      else setPtp mac (fun q => { q with sync := some (seq, origin, rx) }) s
    | .followUp seq origin =>
      match p.sync with
      | some (q, _, rx) => if q == seq && !p.master then ptpSample mac origin rx s else s
      | none => s
    | .delayResp seq t2 turn rx =>
      match p.req with
      | some (q, t3) =>
        if q != seq then s
        else if peerProfile s mac then setPtp mac (fun x => { x with req := none, delay := ((rx - t3) - turn) / 2 }) s
        else match p.msDelay with
          | some ms => setPtp mac (fun x => { x with req := none, delay := (ms + (t2 - t3)) / 2 }) s
          | none => setPtp mac (fun x => { x with req := none }) s
      | none => s
    | .delayReq seq rx =>
      if p.master || peerProfile s mac then ptpSend mac [2, (seq : Int), rx] s else s
    | .announce better utc =>
      let s1 := setPtp mac (fun x => { x with master := masterOk s mac && !better }) s
      if better then
        ([0, 1] : List Nat).foldl (fun a d => if domCfg a d 0 3 == mac + 3 then setDom d (fun x => { x with utc := utc }) a else a) s1
      else s1
    | .management => s)

/-- PTP_SYNC_SEND (R447): a master sends a one-step Sync from the followed domain. -/
def execPtpSyncSend (t mac : Nat) (s : State) : Host.Outcome State Fault Refusal :=
  let s := s.at t
  .next (if (ptp s mac).master then
    ptpSend mac [0, ((ptp s mac).seq : Int), domNs s s.tsu.followed] (setPtp mac (fun x => { x with seq := (x.seq + 1) % 65536 }) s)
  else s)

/-- PTP_DELAY_REQ_SEND (R447): the periodic Delay_Req or Pdelay_Req, at `t3`. -/
def execPtpDelayReqSend (t mac t3 : Nat) (s : State) : Host.Outcome State Fault Refusal :=
  let s := s.at t
  let p := ptp s mac
  .next (if p.master && !peerProfile s mac then s
  else
    ptpSend mac [1, (p.seq : Int)] (setPtp mac (fun x => { x with req := some (x.seq, (t3 : Int)), seq := (x.seq + 1) % 65536 }) s))

/-! ### Compare and capture (R439, R440) -/

/-- TSU_CCk_CFG. -/
def ccCfg (s : State) (k lo w : Nat) : Nat := rdf s (baseTSU + 0x400 + 0x10 * k) lo w

/-- A unit. -/
def ccu (s : State) (k : Nat) : CcUnit := get s.tsu.cc k

/-- A unit changed. -/
def setCc (k : Nat) (f : CcUnit → CcUnit) (s : State) : State := { s with tsu.cc := upd s.tsu.cc k f }

/-- Signed difference short time - target (R439). -/
def shortDiff (s : State) (target : Nat) : Int := signed 32 ((devTime s % 2 ^ 32 + 2 ^ 32 - target % 2 ^ 32) % 2 ^ 32)

/-- A compare unit fires (R440): its event, its ball, and the next target with PERIODIC. -/
def fireCompare (k : Nat) (s : State) : State :=
  let per := ccCfg s k 4 1 == 1
  let step := rdf s (baseTSU + 0x400 + 0x10 * k + 12) 0 31
  let s1 := setCc k (fun u => { u with armed := per, target := if per then (u.target + step) % 2 ^ 32 else u.target }) s
  let s2 := fireEvent (416 + k) s1
  if k < 4 && ccCfg s k 5 1 == 1 then emit s2 .tsuPulse k [((ccCfg s k 16 16 * 100 : Nat) : Int)] else s2

/-- A compare unit is armed (R440): a target already due fires at once, LATE where it is past. -/
def armCompare (k target : Nat) (s : State) : State :=
  let d := shortDiff s target
  let s1 := setCc k (fun u => { u with armed := true, target := target % 2 ^ 32, late := u.late || decide (0 < d) }) s
  if 0 ≤ d then fireCompare k s1 else s1

/-- The master that owns a unit (TSU_CCk_CFG.OWNER). -/
def ccOwner (s : State) (k : Nat) (m : Master) : Bool :=
  match m with
  | .sup => ccCfg s k 1 3 == 0
  | .ses n => ccCfg s k 1 3 == n + 1
  | _ => false

/-- TSU_CCk_TIME is written (R440): the owner's write arms the unit; a write by another is without effect. -/
def armWrite (m : Master) (k target : Nat) (s : State) : State :=
  if ccOwner s k m && ccCfg s k 0 1 == 0 then armCompare k target s else s

/-- TSU_COMPARE_ARM (R440). -/
def execTsuCompareArm (t : Nat) (m : Master) (k target : Nat) (s : State) : Host.Outcome State Fault Refusal :=
  .next (armWrite m k target (s.at t))

/-- TSU_COMPARE_FIRE (R440): the target is reached. -/
def execTsuCompareFire (t k : Nat) (s : State) : Host.Outcome State Fault Refusal :=
  let s := s.at t
  .next (if (ccu s k).armed && decide (0 ≤ shortDiff s (ccu s k).target) then fireCompare k s else s)

/-- TSU_CAPTURE_EDGE (R440): a selected edge at device time `time` is captured, or sets OVR. -/
def execTsuCaptureEdge (t k : Nat) (rising : Bool) (time : Nat) (s : State) : Host.Outcome State Fault Refusal :=
  let s := s.at t
  let edge := ccCfg s k 12 2
  .next (if ccCfg s k 0 1 == 0 || !(if rising then edge == 1 || edge == 3 else edge == 2 || edge == 3) then s
  else if (ccu s k).cap.isSome then setCc k (fun u => { u with ovr := true }) s
  else fireEvent (416 + k) (setCc k (fun u => { u with cap := some time, last := time }) s))

/-- TSU_CCk_CAPHI is read: the high word, and the unit is free for the next edge (R440). -/
def readCapHi (k : Nat) (s : State) : State :=
  emit (setCc k (fun u => { u with cap := none }) s) .readData (baseTSU + 0x408 + 0x10 * k) [(((ccu s k).last / 2 ^ 32 : Nat) : Int)]

/-- TSU_CAPHI_READ (R440): by any master that reaches the TSU; the firewall of R31 acts at REG_READ. -/
def execTsuCaphiRead (t : Nat) (_m : Master) (k : Nat) (s : State) : Host.Outcome State Fault Refusal :=
  .next (readCapHi k (s.at t))

/-! ### Registers and commands (R451, R509) -/

/-- A signed number as a saturating 32-bit field. -/
def sat32 (x : Int) : Nat := unsigned 32 (max (-2147483648) (min 2147483647 x))

/-- SYNCHRONISED (R446): the followed domain is LOCKED and |Δ| is below 1 ms. -/
def tsuSynchronised (s : State) : Bool :=
  (dom s s.tsu.followed).st == 2 && decide ((deltaNs s).natAbs < 1000000)

/-- TSU_STAT. -/
def tsuStatWord (s : State) : Nat :=
  packBits [(0, s.tsu.followed), (1, b2n ((dom s s.tsu.followed).st != 0 && deltaNs s != 0)), (2, b2n s.tsu.stepOk),
    (3, b2n (tsuSynchronised s))]

/-- TSU_CTRL, with FOLLOW_AUTO as in force. -/
def tsuCtrlWord (s : State) : Nat := setBits (rdw s baseTSU) 1 1 (b2n s.tsu.auto)

/-- The words of a domain: CFG, STEP, STAT, OFS, FREQ. -/
def tsuDomWords (s : State) (d : Nat) : List Nat :=
  let x := dom s d
  [rdw s (baseTSU + 0x100 + 0x20 * d), stepNs s d, packBits [(0, x.st), (2, b2n (x.clampRun != 0)), (16, x.utc)], sat32 x.ofs,
    sat32 ((x.f * 1099511627776 : Rat).floor)]

/-- The words of a compare/capture unit: CFG, TIME, CAPHI, PER. -/
def tsuCcWords (s : State) (k : Nat) : List Nat :=
  let a := baseTSU + 0x400 + 0x10 * k
  let u := ccu s k
  [rdw s a + packBits [(14, b2n u.late), (15, b2n u.ovr)], if ccCfg s k 0 1 == 0 then u.target else u.last % 2 ^ 32,
    u.last / 2 ^ 32, rdw s (a + 12)]

/-- TIM_STATUS (R451, R509). -/
def execTimStatus (t line seq : Nat) (s : State) : Host.Outcome State Fault Refusal :=
  .next (runCmd line seq 0x0E01 neverIllegal (fun c s =>
    let n := devTime s
    let ws := [tsuCtrlWord s, n % 2 ^ 32, n / 2 ^ 32, n % 2 ^ 32, tsuStatWord s, sat32 (deltaNs s)]
      ++ tsuDomWords s 0 ++ tsuDomWords s 1 ++ ((List.range 16).map (tsuCcWords s)).flatten
    doneOut c [] (ws.map (leBytes 4)).flatten s) (s.at t))

/-- TIM_FOLLOW_SET (R443, R451, R509). -/
def execTimFollowSet (t line seq : Nat) (s : State) : Host.Outcome State Fault Refusal :=
  .next (runCmd line seq 0x0E02 neverIllegal (fun c s =>
    if 2 ≤ c.param 8 1 then rejectRange c 8 s
    else if 2 ≤ c.param 9 1 then rejectRange c 9 s
    else done c [] (switchTo (c.param 8 1) { s with tsu.auto := c.param 9 1 == 1 })) (s.at t))

/-- The unit is not the host's, or is not of the kind wanted (R509). -/
def ccIllegal (mode : Nat) (c : Cmd) (s : State) : Bool :=
  let k := c.param 8 1
  decide (k < 16) && (ccCfg s k 1 3 != 5 || ccCfg s k 0 1 != mode)

/-- TIM_COMPARE_SET (R440, R451, R509). -/
def execTimCompareSet (t line seq : Nat) (s : State) : Host.Outcome State Fault Refusal :=
  .next (runCmd line seq 0x0E03 (ccIllegal 0) (fun c s =>
    if 16 ≤ c.param 8 1 then rejectRange c 8 s
    else done c [] (armCompare (c.param 8 1) (c.param 12 4) s)) (s.at t))

/-- TIM_CAPTURE_READ (R440, R451, R509): returns and clears the capture. -/
def execTimCaptureRead (t line seq : Nat) (s : State) : Host.Outcome State Fault Refusal :=
  .next (runCmd line seq 0x0E04 (ccIllegal 1) (fun c s =>
    let k := c.param 8 1
    if 16 ≤ k then rejectRange c 8 s
    else
      let u := ccu s k
      done c (leBytes 8 u.last ++ [b2n u.cap.isSome, b2n u.ovr]) (setCc k (fun x => { x with cap := none, ovr := false }) s))
    (s.at t))

end Sys2Proof.Machine
end

