-- ==== Sys2Proof/Machine/Sys.lean ====
section
/-! DEFINITION. Power, resets and boot (R39, R42 to R63), the keeper's holds, the power warning (R55 to R58), the entry to
FROZEN (R526), memory errors (R30, R33) and the raising and closing of errors (R64 to R67). -/

namespace Sys2Proof.Machine

/-! ### The keeper (R12, R13, R49 to R53) -/

/-- KEEPER_GATE_EN_REQUEST (R12, R13, R39, R524): in M5 or M6 the keeper raises GATE_EN on the control die's request, where no
freeze request, power warning, heartbeat loss or PS_OFF stands and a VS bank supplies it. -/
def execKeeperGateEnRequest (t : Nat) (s : State) : Host.Outcome State Fault Refusal :=
  let s := s.at t
  .next (if (s.sys.mode == .m5 || s.sys.mode == .m6) && s.pwm.gateReq && !s.keeper.gateEn && !s.keeper.hbLatch
      && !s.keeper.freezeReq && !s.keeper.pfwLow && !s.sys.psOff && s.sys.rootGood && s.lsw.good.toList.any id then
    gateRise { s with keeper.gateEn := true }
  else s)

/-- The keeper's repeat of the last MXP output frame. -/
def keeperFrame (s : State) : State :=
  emit s .mxpFrame 0 (((List.range 64).filter fun k => (s.keeper.mxpOn.toList.getD k false)).map Int.ofNat)

/-- KEEPER_MXP_REPEAT (R49): every 100 µs of a hold. -/
def execKeeperMxpRepeat (t : Nat) (s : State) : Host.Outcome State Fault Refusal :=
  let s := s.at t
  .next (if s.keeper.hold then keeperFrame s else s)

/-- The channels held on turn off; one whose hold has ended stays off until its owner commands it on (R52). -/
def heldOff (l : List Nat) (s : State) : State :=
  l.foldl (fun a n => setCh n (fun c => { c with cmd := c.cmd && a.sys.mode == .m11 }) (turnOff n a)) s

/-- CONTACTOR_HOLD_EXPIRY (R49 step 4, R51, R526 step 5): the contactor-class channels are off, an all-off MXP frame goes
out, and the chain idles. -/
def execContactorHoldExpiry (t : Nat) (s : State) : Host.Outcome State Fault Refusal :=
  let s := s.at t
  .next (if s.keeper.hold then
    let s1 := heldOff s.keeper.heldCtr s
    keeperFrame { s1 with keeper.hold := false, keeper.heldCtr := [], keeper.mxpOn := Vector.replicate 64 false,
                            keeper.mxpIdle := true, lsw.mOn := Vector.replicate 64 false }
  else s)

/-- HTR_LIMIT_EXPIRY (R49 step 5, R526 step 6): the hold-through-reset channels not reclaimed turn off. -/
def execHtrLimitExpiry (t : Nat) (s : State) : Host.Outcome State Fault Refusal :=
  let s := s.at t
  .next (if s.keeper.htrHold then
    { heldOff s.keeper.heldHtr s with keeper.htrHold := false, keeper.heldHtr := [] }
  else s)

/-- The channels in service that are on and that `f` names. -/
def onChannels (s : State) (f : Nat → Bool) : List Nat := (List.range 32).filter fun n => (lch s n).on && lswMode s n != 0 && f n

/-- The keeper drops GATE_EN and, where it was high, starts the contactor hold of R49. -/
def keeperHold (s : State) : State :=
  if s.keeper.gateEn && !s.keeper.hold then
    { gateLow s with keeper := { (gateLow s).keeper with
                                   hold := true, closeBlocked := true, mxpIdle := false, mxpOn := s.lsw.mOn, heldCtr := onChannels s (lswCtr s) } }
  else gateLow s

/-! ### Resets (R42, R45 to R48) -/

/-- The control die is up: M2 to M11. -/
def dieUp (s : State) : Bool := 2 ≤ s.sys.mode.num

/-- The clocks of the control die run: M2 to M10. -/
def clocksRun (s : State) : Bool := dieUp s && s.sys.mode != .m11

/-- RESET_PIN (R45, R48): RESET_N low for 1 µs resets every die; its return high ends the condition. Without the main rails
there is nothing to reset. -/
def execResetPin (t : Nat) (low : Bool) (s : State) : Host.Outcome State Fault Refusal :=
  let s := s.at t
  let s1 := { s with sys.pinLow := low }
  .next (if low && s.sys.mode != .m0 then resetControl .pin (coldNow s) s1 else s1)

/-- ROOT_LOSS (R25, R45): the keeper drops GATE_EN, starts the contactor hold and holds a clock-loss reset. -/
def execRootLoss (t : Nat) (s : State) : Host.Outcome State Fault Refusal :=
  let s := s.at t
  .next (if s.sys.mode == .m0 then s else resetControl .clockLoss (coldNow s) { s with sys.rootGood := false })

/-- HEARTBEAT_LOSS (R12, R13, R45): three missing heartbeats, where the keeper checks them and the control die sends them. -/
def execHeartbeatLoss (t : Nat) (s : State) : Host.Outcome State Fault Refusal :=
  let s := s.at t
  .next (if s.keeper.hbCheck && clocksRun s then resetControl .heartbeat (coldNow s) s else s)

/-- WATCHDOG_EXPIRY (R45): the supervisor's watchdog has not been served for 100 ms; it stands still in M11 (R528). -/
def execWatchdogExpiry (t : Nat) (s : State) : Host.Outcome State Fault Refusal :=
  let s := s.at t
  .next (if clocksRun s then resetControl .watchdog (coldNow s) s else s)

/-- The legal core pair restarts alone, its SRAM reset with it (R45, R369): cause 1 a lockstep mismatch, 2 a double-bit error
of its SRAM. A second mismatch within 60 s loses the partition (R47, R370). -/
def legalRestart (cause : Nat) (s : State) : State :=
  let again := s.lgl.mismatchAt.any fun u => decide (s.now ≤ u + minuteNs)
  let s1 := settleLgl { s with lgl.restarting := true, lgl.restartCause := cause, lgl.mismatchAt := some s.now,
                                 mem := s.mem.filter fun c => !(0x60000000 ≤ c.1 && c.1 < 0x60400000) }
  if again then loseLegal s1 else s1

/-- LOCKSTEP_MISMATCH (R47, R48): the mode stays, energy flows on, and SYS_RST_CAUSE shows LOCKSTEP. -/
def execLockstepMismatch (t : Nat) (s : State) : Host.Outcome State Fault Refusal :=
  let s := s.at t
  .next (if lglPowered s then
    legalRestart 1 { s with sys.rst := { kind := .lockstep, cold := coldNow s, outputsOn := s.keeper.gateEn } }
  else s)

/-! ### Loss and return of supplies (R39, R42, R54) -/

/-- What is lost with VBAT and the main rails together (R48, R60, R115): retention SRAM, the always-on clock, the boot
counters and the wake latches. -/
def loseAlwaysOn (s : State) : State :=
  { s with
      mem := s.mem.filter fun c => !(0x0F000000 ≤ c.1 && c.1 < 0x0F040000),
      ret := {},
      sys := { s.sys with retLost := true, boot := {}, rst := { cold := true } },
      mbx.prior := [],
      evg.src := updAll s.evg.src fun _ x => { x with latch := false },
      cbl.op := updAll s.cbl.op fun _ o =>
      { o with keptPend := Vector.replicate 4 0, keptSerial := [], keptExpect := Vector.replicate 4 none },
      lgl.hiP := Vector.replicate 4 0, lgl.hiAt := 0, lgl.pfwAt := none,
      tsu.aon := 0, tsu.aonAt := s.now + s.gap }

/-- RAIL_OUT_OF_RANGE (R42, R56 step 6): with VBAT the device enters M0, without it it switches off. The keeper holds the
contactors; what retention does not hold is lost with the rails: it keeps the error queue, OVF, OVF_CNT and SEQ (R67, R559). -/
def execRailOutOfRange (t : Nat) (vbat : Bool) (s : State) : Host.Outcome State Fault Refusal :=
  let s := s.at t
  .next (if s.sys.mode == .m0 then s
  else
    let prior := priorOf s
    let s1 := keeperReset (stopClaim s)
    let s2 := { s1 with
                  pwm.mclkRun := false,
                  ret := { s1.ret with errq := s.sys.errq, ovf := s.sys.ovf, ovfCnt := s.sys.ovfCnt, nextSeq := s.sys.nextSeq },
                  sys := { s1.sys with
                             mode := .m0, prevMode := s.sys.mode, railsGood := false, powerWarn := false,
                             rst := { s1.sys.rst with powerLossRestart := warned s || (s.sys.mode == .m1 && s.sys.rst.powerLossRestart),
                                                        outputsOn := s.keeper.gateEn || (s.sys.mode == .m1 && s.sys.rst.outputsOn) } },
                  mbx.prior := prior,
                  lsw.ch := updAll s1.lsw.ch fun n c => { c with on := c.on && (s1.keeper.heldCtr.contains n || s1.keeper.heldHtr.contains n) } }
    if vbat then s2 else loseAlwaysOn s2)

/-- VBAT_LOST (R48, R60, R115): with the main rails absent too, everything in the always-on domain is lost. -/
def execVbatLost (t : Nat) (mainRails : Bool) (s : State) : Host.Outcome State Fault Refusal :=
  let s := s.at t
  .next (if mainRails || s.sys.railsGood then s else loseAlwaysOn s)

/-- RAILS_GOOD (R42, R45, R48): the main rails are back and a power-on reset enters M1; POR_COLD where retention SRAM was
lost. -/
def execRailsGood (t : Nat) (s : State) : Host.Outcome State Fault Refusal :=
  let s := s.at t
  .next (if s.sys.railsGood then s
  else
    let outputsOn := s.sys.rst.outputsOn
    let s1 := resetControl .powerOn s.sys.retLost s
    { s1 with sys.railsGood := true, sys.retLost := false, sys.rootGood := true, sys.prevMode := .m0,
                sys.rst.outputsOn := outputsOn })

/-! ### Boot (R59 to R63) -/

/-- Firmware slot 0 (A) or 1 (B). -/
def fwSlot (s : State) (k : Nat) : FwSlot := if k = 0 then s.sys.fwA else s.sys.fwB

/-- A firmware slot changed. -/
def setFw (k : Nat) (f : FwSlot → FwSlot) (s : State) : State :=
  if k = 0 then { s with sys.fwA := f s.sys.fwA } else { s with sys.fwB := f s.sys.fwB }

/-- What valid() of R59 finds wrong with a slot, as FAIL_REASON gives it; 0 where nothing is. `FwSlot.fault` is the verdict
on the bytes the slot holds now: a write to it withdraws an earlier one (`writeFw`). -/
def fwFault (s : State) (k : Nat) : Nat :=
  let x := fwSlot s k
  if x.fault != 0 then x.fault
  else if x.version < s.sys.ident.fwMinVer then 2
  else if x.st == .invalid then 1
  else 0

/-- What the boot ROM finds as it checks both slots anew (R1, R59): what xSPI0 gives back now, `readA` and `readB` as
FAIL_REASON or 0, comes on top of the verdict on what was written. -/
def recheckSlots (readA readB : Nat) (s : State) : State :=
  let put := fun (r : Nat) (x : FwSlot) => if x.fault == 0 && r != 0 then { x with fault := r } else x
  { s with sys := { s.sys with fwA := put readA s.sys.fwA, fwB := put readB s.sys.fwB } }

/-- A slot's image set is started (R61): the check value goes to the legal pair, and the images' hashes to the key block. -/
def startSlot (k : Nat) (s0 : State) : State :=
  let (h, s) := drawFree s0
  { s with sys := { s.sys with boot := { s.sys.boot with
                                           imgHash := h,
                                           slot := k, fallback := (fwSlot s k).st != .preferred, fail := false, failReason := 0 } },
             lgl.check := (fwSlot s k).legalSha % 2 ^ 64 }

/-- The device is held in M2 (R59, R62). -/
def bootFails (reason : Nat) (s : State) : State :=
  { s with sys := { s.sys with boot := { s.sys.boot with fail := true, failReason := reason } } }

/-- The boot ROM's choice (R59, R60); in END the boot is held as with FAIL (R419). A slot it checks that fails its hash or
cannot be read raises XSP0_READ_ERR (R34). -/
def chooseSlot (s : State) : State :=
  let p := if s.sys.fwB.st == .preferred && s.sys.fwA.st != .preferred then 1 else 0
  let f := 1 - p
  let b := s.sys.boot
  if lifeCycle s == 5 then bootFails 0 s
  else if b.attempts < 3 && fwFault s p == 0 then
    startSlot p { s with sys := { s.sys with boot := { b with attempts := b.attempts + 1 } } }
  else
    let s1 := if b.attempts < 3 then slotReadErr (fwFault s p) s else s
    if b.fbAttempts < 3 && fwFault s f == 0 then
      startSlot f { s1 with sys := { s1.sys with boot := { b with fbAttempts := b.fbAttempts + 1 } } }
    else
      let s2 := if b.fbAttempts < 3 then slotReadErr (fwFault s f) s1 else s1
      bootFails (if fwFault s f == 0 then 6 else fwFault s f) s2

/-- The always-on clock now, in whole 32.768 kHz ticks (R438). -/
def aonNow (s : State) : Nat := s.tsu.aon + (s.now + s.gap - s.tsu.aonAt) * 32768 / 1000000000 * 1000000000 / 32768

/-- Device time and both time domains start from the always-on clock at the entry to M2 (R438). -/
def startTime (s : State) : State :=
  let v := aonNow s * 2 ^ 32
  let s1 := stepDev v s
  { s1 with tsu.dom := updAll s1.tsu.dom fun _ d => { d with time := v, at0 := s1.now } }

/-- PS_OFF high at the release of a reset: the keeper holds every contactor-class channel off (R524). -/
def psOffChannels (s : State) : State :=
  if s.sys.psOff then
    { s.keeper.heldCtr.foldl (fun a n => setCh n (fun c => { c with cmd := false }) (turnOff n a)) s with
        keeper.heldCtr := [], keeper.mxpOn := Vector.replicate 64 false }
  else s

/-- The straps are sampled at the release from M1, and the keeper lets go of the heartbeat latch (R48, R54). -/
def takeStraps (testEn psOff : Bool) (s : State) : State :=
  { s with
    sys := { s.sys with testEn := testEn, psOff := psOff, rootGood := true, powerWarn := s.keeper.pfwLow,
                          rst := { s.sys.rst with holdActive := s.sys.rst.holdActive || s.keeper.hold } },
    keeper.hbLatch := false, key.trngOk := true }

/-- The boot epochs of R91 and R487 are drawn. -/
def drawEpochs (s : State) : State :=
  { s with freeCtr := s.freeCtr + 2, mbx.epoch := Config.trng s.freeCtr % 2 ^ 32,
           fen.epoch := Config.trng (s.freeCtr + 1) % 2 ^ 32 }

/-- The supply limitation follows the banks that have fallen (R274). -/
def supplyLim (s : State) : State := setLim .supply (s.lsw.uv.toList.any id) s

/-- M1_RELEASE (R42, R48, R54, R59): the rails, REFCLK and PLL_MAIN have held for 10 ms and no reset's condition stands. The
straps are sampled, the boot epochs drawn, the device enters M2, with the feedback clocks running (R177), and the ROM checks
the slots and chooses one; `readA` and `readB` are what its reading of them finds. -/
def execM1Release (t : Nat) (testEn psOff : Bool) (readA readB : Nat) (s : State) : Host.Outcome State Fault Refusal :=
  let s := s.at t
  .next (if s.sys.mode != .m1 || !s.sys.railsGood || s.sys.pinLow then s
  else
    let s1 := setMode .m2 (drawEpochs (startTime (psOffChannels (takeStraps testEn psOff s))))
    chooseSlot (recheckSlots readA readB (supplyLim { s1 with pwm.mclkRun := true })))

/-- Sources latched while the clocks stood become PENDING where ACTIVE sets their WAKE (R115). -/
def takeLatches (s : State) : State :=
  (List.range 512).foldl (fun a n =>
    if (get a.evg.src n).latch && rdb a (srcCfgAddr n) 14 then fireEvent n a else a) s

/-- The entry to M3 from boot (R60, R416, R516): the key image is unwrapped, and the configuration loaded; in RETURN there is
none (R419). -/
def enterFromBoot (cfgActiveOk cfgPreviousOk : Bool) (s : State) : State :=
  let s1 := loadKeys (setMode .m3 { s with keeper.mxpIdle := false })
  if lifeCycle s1 == 4 then startDeciding (loadDefaults s1) else enterConfig cfgActiveOk cfgPreviousOk s1

/-- The end of the boot (R60, R516): with a configuration loaded the counts of attempts restart and AUTO_READY acts. -/
def bootDone (s3 : State) : State :=
  let s4 := if s3.cfg.loaded then
      { s3 with sys := { s3.sys with boot := { s3.sys.boot with attempts := 0, fbAttempts := 0 } } } else s3
  { s4 with cfg.autoReady := s4.cfg.loaded && param s4 pAUTO_READY 0 != 0 }

/-- BOOT_COMPLETE (R42, R60, R516): every image is verified and started, and the device enters M3 from M2. `cfgActiveOk` and
`cfgPreviousOk` are the verdicts on the signatures; the wake latches and the metering are restored. -/
def execBootComplete (t : Nat) (cfgActiveOk cfgPreviousOk : Bool) (s : State) : Host.Outcome State Fault Refusal :=
  let s := s.at t
  .next (if s.sys.mode != .m2 || s.sys.boot.fail then s
  else bootDone (restoreMtr (genMissing (takeLatches (enterFromBoot cfgActiveOk cfgPreviousOk s)))))

/-! ### Entering FROZEN (R526) -/

/-- The freeze sequence: DBG_STAT, the claim stream, GATE_EN, the keeper's holds, and M11. Channels neither CTR nor HTR turn
off, with their commanded state kept. -/
def doFreeze (cause : Nat) (s : State) : State :=
  let now := devTime s
  let s1 := stopClaim { s with
                          dbg := { s.dbg with fromMode := s.sys.mode, cause := cause, frzTime := now, freezes := (s.dbg.freezes + 1) % 65536,
                                                resumable := s.sys.mode == .m10 && s.sys.psOff, stoppedAt := s.gap, waitingFreeze := none },
                          lgl.gapFrom := some now, lgl.hiAt := now - 1000000 }
  let ctr := onChannels s1 (lswCtr s1)
  let htr := onChannels s1 (fun n => lswHtr s1 n && !lswCtr s1 n)
  let rest := onChannels s1 (fun n => !lswHtr s1 n && !lswCtr s1 n)
  let s2 := gateLow { s1 with pwm.mclkRun := false }
  let s3 := { s2 with keeper := { s2.keeper with
                                    hold := true, heldCtr := if s2.keeper.hold then s2.keeper.heldCtr else ctr, htrHold := true, heldHtr := htr,
                                    mxpOn := if s2.keeper.hold then s2.keeper.mxpOn else s2.lsw.mOn, freezeReq := true, hbCheck := false } }
  setMode .m11 (rest.foldl (fun a n => turnOff n a) s3)

/-- A freeze request (R43, R526, R535): in M1 it is dropped; behind a power warning it waits for the emergency save; in M0
and M11 it has no effect. -/
def requestFreeze (cause : Nat) (s : State) : State :=
  if s.sys.mode == .m0 || s.sys.mode == .m11 then s
  else if s.sys.mode == .m1 then dropTrigger s
  else if s.lgl.emgDue then { s with dbg.waitingFreeze := some cause }
  else doFreeze cause s

/-! ### Power warning (R55 to R57) -/

/-- Events open in an AC set go to the retention half (R347, R348). -/
def cutAll (s : State) : State := { s with mtr.ac := updAll s.mtr.ac fun _ a => a.cutEvents }

/-- The power stage goes down at the warning (R56): POWER_WARN stands, commands are discarded, the keeper drops GATE_EN and
starts its hold. -/
def warnDown (s : State) : State :=
  dropGate (keeperHold (stopClaim (discardAll stFault 0 (fireEvent 2
    { s with keeper.pfwLow := true, sys.powerWarn := true, lgl.pfwAt := some (devTime s) }))))

/-- What is saved at the warning (R56): a boundary that is due is written where the legal pair runs, open events are cut, and
the supervisor's copies go to retention; the emergency save is then due. -/
def warnSave (s2 : State) : State :=
  let runs := pairRuns s2
  let s3 := if runs then settleLgl (runBoundary true false s2) else s2
  saveRetention (cutAll (keepPending { s3 with lgl.emgDue := runs, lgl.pfEvent := runs && !(dueCauses s2).any }))

/-- POWER_WARNING (R56): PFW_N low after its filter; the emergency save follows (`EMERGENCY_SAVE`). In M0, M1 and M11 only the
keeper acts (R535). -/
def execPowerWarning (t : Nat) (s : State) : Host.Outcome State Fault Refusal :=
  let s := s.at t
  .next (if clocksRun s then warnSave (warnDown s)
  else
    let s0 := { s with keeper.pfwLow := true }
    if s.sys.mode == .m11 then keeperHold s0 else s0)

/-- EMERGENCY_SAVE (R56 step 4, R357, R394, R535): the save is written to the Peat log, then POWER_WARNING where no boundary
took it up; a freeze that waited follows. -/
def execEmergencySave (t : Nat) (s : State) : Host.Outcome State Fault Refusal :=
  let s := s.at t
  .next (if s.lgl.emgDue && clocksRun s then
    let s1 := emergencySave s
    let s2 := if s1.lgl.pfEvent then settleLgl (lglEvent 2 [] { s1 with lgl.pfEvent := false }) else s1
    match s2.dbg.waitingFreeze with
    | some c => doFreeze c s2
    | none => s2
  else s)

/-- POWER_WARNING_CLEARED (R57, R44): PFW_N is high again before a main rail failed. The cause is set, M8 entered where there
is a path, and every open session closed with reason 33. -/
def execPowerWarningCleared (t : Nat) (s : State) : Host.Outcome State Fault Refusal :=
  let s := s.at t
  let s0 := { s with keeper.pfwLow := false }
  .next (if !s.keeper.pfwLow || !clocksRun s || !s.sys.powerWarn then s0
  else
    let s1 := if pairRuns s0 then settleLgl (closeAllLegal 33 0 { s0 with lgl.pfwAt := none }) else { s0 with lgl.pfwAt := none }
    setCause .powerWarn s1)

/-- POWER_WARN_CLEAR_TIMER (R57): PFW_N has stayed high for 100 ms. -/
def execPowerWarnClearTimer (t : Nat) (s : State) : Host.Outcome State Fault Refusal :=
  let s := s.at t
  .next (if s.sys.powerWarn && !s.keeper.pfwLow && clocksRun s then clearCause .powerWarn { s with sys.powerWarn := false } else s)

/-! ### Memory errors (R30, R33) -/

/-- The subsystem that owns the block at a peripheral base; SYS for the blocks without one. -/
def blockSubsys (blk : Nat) : Nat :=
  [0, 0, 0, 0, 1, 2, 3, 4, 5, 6, 7, 7, 7, 7, 7, 7, 8, 9, 10, 11, 12, 13, 14, 0, 0, 0, 0].getD blk 0

/-- The item of a block memory that a double-bit error affects is cleared (R33): a CAN message object, a source's state, a
key slot. -/
def clearBlockItem (addr item : Nat) (s : State) : State :=
  let blk := (addr - 0x40000000) / 0x10000
  let ofs := addr % 0x10000
  if 10 ≤ blk && blk ≤ 15 && 0x1000 ≤ ofs && ofs < 0x4000 then
    let base := addr - (ofs - 0x1000) % 0x60
    { s with mem := memWriteBytes s.mem base (List.replicate 0x60 0) }
  else if blk == 1 && 0x400 ≤ ofs && ofs < 0xC00 then setSrc s ((ofs - 0x400) / 4) fun x => { latch := x.latch, input := x.input }
  else if blk == 0x15 then legalUpdate { s with key.slots := upd s.key.slots item fun _ => {} }
  else s

/-- The slots whose table entry, coefficients or states lie at a Reedbed RAM address. -/
def slotsAt (s : State) (addr : Nat) : List Nat :=
  (slotsOn s).filter fun k =>
    (slotAddr k ≤ addr && addr < slotAddr k + 64) ||
      (slotSecs s k).any fun i => (secBase + 16 * i ≤ addr && addr < secBase + 16 * i + 16)
        || [0, 1].any fun b => 0x58001000 + 0x4000 * b + 32 * i ≤ addr && addr < 0x58001000 + 0x4000 * b + 32 * i + 32

/-- The frame in a poisoned buffer is discarded, as though lost on its link or medium (R33): frames that wait at an Oluzel port,
port by port, whose buffer is freed, then those that wait for Fenline. -/
def loseFrame (item : Nat) (s : State) : State :=
  let all := ((List.range 4).map fun p => (List.range (ozp s p).wait.length).map fun k => (p, k)).flatten
  match all[item]? with
  | some (p, k) =>
    let s1 := setOz p (fun o => { o with wait := o.wait.eraseIdx k }) s
    (match ((ozp s p).wait.getD k {}).inp with
    | some q => freeBuffer q ((ozp s p).wait.getD k {}).cls s1
    | none => s1)
  | none => { s with fen.queue := s.fen.queue.eraseIdx (item - all.length) }

/-- A double-bit error of the region that holds an address (R33). A Sluice entry is loaded again at the next round start, and
a child's is held meanwhile (R135). -/
def doubleError (addr item : Nat) (s : State) : State :=
  if 0x60000000 ≤ addr && addr < 0x60400000 || 0x0F020000 ≤ addr && addr < 0x0F040000 then legalRestart 2 s
  else if 0x20000000 ≤ addr && addr < 0x20900000 then raiseError errDoubleQ 0 s
  else if 0x20900000 ≤ addr && addr < 0x20910000 then raiseError errDoubleExport 0 s
  else if 0x30000000 ≤ addr && addr < 0x30400000 then raiseError errDoubleFrame 0 (loseFrame item s)
  else if 0x50000000 ≤ addr && addr < 0x50080000 then
    raiseError errSlcRam 0 (holdChild ((addr - 0x50000000) / 128) { s with slc.reload := s.slc.reload ++ [addr - addr % 128] })
  else if 0x50080000 ≤ addr && addr < 0x50200000 then
    raiseError errSlcRam 0 { s with slc.reload := s.slc.reload ++ [addr - addr % 128] }
  else if 0x58000000 ≤ addr && addr < 0x58100000 then
    (match slotsAt s addr with
    | [] => raiseError errLpeRam 64 s
    | l => l.foldl (fun a k => tripSlot k errLpeRam a) s)
  else if 0x40000000 ≤ addr && addr < 0x401B0000 then
    raiseError (errBlockRam (blockSubsys ((addr - 0x40000000) / 0x10000))) 0 (clearBlockItem addr item s)
  else raiseError errDouble 0 s

/-- SCRUB_PASS (R30, R33): what a pass of the scrubber finds. The errors go to the control die, so in M0 and M11 none is
raised. -/
def execScrubPass (t : Nat) (finds : List EccFind) (s : State) : Host.Outcome State Fault Refusal :=
  let s := s.at t
  .next (if clocksRun s then finds.foldl (fun a f => if f.double then doubleError f.addr f.item a else eccCorrected a) s else s)

/-! ### Errors (R64 to R67) -/

/-- ERROR_RAISED (R65): an error its chapter's detector reports, with the item it names. -/
def execErrorRaised (t subsys code cls arg : Nat) (s : State) : Host.Outcome State Fault Refusal :=
  let s := s.at t
  .next (if clocksRun s then raiseError ⟨subsys, code, cls⟩ arg s else s)

/-- HANDLING_WINDOW_CLOSE (R64, R65, R44). -/
def execHandlingWindowClose (t id : Nat) (s : State) : Host.Outcome State Fault Refusal :=
  let s := s.at t
  .next (if clocksRun s then sweepLsw (closeWindow id s) else s)

end Sys2Proof.Machine
end

