-- ==== Sys2Proof/Machine/CfgCmd.lean ====
section
/-! DEFINITION. The CFG commands (R515 to R520): staging and validation, commit and rollback, what a duplex partner asks
for, and the end of a write of xSPI0 (R34, R511). -/

namespace Sys2Proof.Machine

/-! ### The partner (R519) -/

/-- DPX_STAT.MIRROR_UP: commands are passed to the partner first. -/
def mirrorUp (s : State) : Bool := s.dpx.role != 0 && s.dpx.roleUp && oz3Up s

/-- A standby takes no staging or commit from a host (R519). -/
def standbyIllegal (_ : Cmd) (s : State) : Bool := s.dpx.role == 2

/-- A command or chunk goes to the partner over TC3 (R519): its code in 2 bytes, each argument in 4, then the data (a layout of
the model's own, DESIGN CHOICE, log entry 65). -/
def toPartner (op : Nat) (args data : List Nat) (s : State) : State :=
  tcSend 3 .partner (mateDst s) op (leBytes 2 op ++ (args.map (leBytes 4)).flatten ++ data) s

/-- The status of what the partner asked for goes back to it (R519): code 0. -/
def answerPartner (st : Nat) (s : State) : State := toPartner 0 [st] [] s

/-- The partner refused (R519, R522): the command completes with the partner's status. -/
def partnerRefused (c : Cmd) (st : Nat) (result : List Nat) (s : State) : State :=
  finish c { status := st, result := result } (raiseError errCfgPartner 0 s)

/-! ### Staging (R515) -/

/-- The area an image is staged in: STAGED's own, else one that is neither ACTIVE nor PREVIOUS. -/
def stageArea (s : State) : Nat :=
  let m := s.cfg.map
  m.staged.getD (([0, 1, 2].find? fun a => m.active != some a && m.previous != some a).getD 0)

/-- A chunk is written; the first makes its area STAGED, with STAGED_STATE 1. -/
def writeChunk (ofs total : Nat) (data : List Nat) (s : State) : State :=
  let a := stageArea s
  let s1 := if ofs = 0 then
      putMap { s.cfg.map with staged := some a, stagedState := 1, forced := s.cfg.map.forced.filter (· != a) } s else s
  { s1 with mem := memWriteBytes s1.mem (areaAddr a + ofs) data, cfg.stagedBytes := ofs + data.length,
              cfg.stagedTotal := total }

/-- The chunk's faulty field: its DETAIL, with REJECTED_FORMAT for 60 and REJECTED_RANGE for the others. -/
def chunkFault (s : State) (ofs total : Nat) (last : Bool) (data : List Nat) : Option Nat :=
  let n := data.length
  if n = 0 then some 60
  else if total < 64 || 4194304 < total || total < ofs + n then some 12
  else if ofs != s.cfg.stagedBytes && !(last && ofs + n == s.cfg.stagedBytes) then some 8
  else none

/-- RESULT of CFG_STAGE from byte 24. -/
def stageResult (version : Nat) (v : Verdict) : List Nat :=
  [0, 0, 0, 0] ++ leBytes 4 version ++ leBytes 2 v.sec ++ [0, 0] ++ leBytes 4 v.ofs ++ [b2n v.overBudget]

/-- CFG_STAGE (R34, R515, R519, R501): LAST is ACCEPTED and starts the validation; given again after a discard it repeats it.
`ok` is the read-back of the chunk's write to xSPI0. -/
def execCfgStage (t line seq partnerStatus : Nat) (ok : Bool) (s : State) : Host.Outcome State Fault Refusal :=
  .next (runCmd line seq 0x0301 standbyIllegal (fun c s =>
    let ofs := c.param 8 4
    let total := c.param 12 4
    let last := c.param 16 1 == 1
    match chunkFault s ofs total last c.data with
    | some 60 => rejectFormat c 60 s
    | some d => rejectRange c d s
    | none =>
      let s1 := if mirrorUp s then toPartner 0x0301 [ofs, total, b2n last] c.data s else s
      if mirrorUp s && partnerStatus != stDone then partnerRefused c partnerStatus (stageResult 0 {}) s1
      else if !ok then finish c { status := stFault, result := stageResult 0 {} } (xsp0WriteFail s1)
      else
        let s2 := writeChunk ofs total c.data s1
        if last then accept c [] { s2 with cfg.validating := some (line, seq) } else done c (stageResult 0 {}) s2) (s.at t))

/-- The image staged is judged (R515): STAGED_STATE 2 or 3, or STAGED empty. -/
def judgeStaged (sigOk : Bool) (s : State) : Verdict × State :=
  let a := stageArea s
  let v := validate (areaAddr a) s.cfg.stagedTotal sigOk true s
  let m := if v.status = 0 then { s.cfg.map with stagedState := if v.overBudget then 3 else 2 }
    else { s.cfg.map with staged := none, stagedState := 0 }
  (v, { putMap m s with cfg.stagedBytes := 0 })

/-- CFG_VALIDATION_DONE (R515): `sigOk` is the verdict on the signature. A command discarded meanwhile leaves the image as
it stands, and its re-issue repeats the validation (R501). -/
def execCfgValidationDone (t : Nat) (sigOk : Bool) (s : State) : Host.Outcome State Fault Refusal :=
  let s := s.at t
  .next (match s.cfg.validating with
  | none => s
  | some (line, seq) =>
    let s1 := { s with cfg.validating := none }
    match findCmd s line seq with
    | none => s1
    | some c =>
      let version := memRead s.mem (areaAddr (stageArea s) + 8) 4
      let r := judgeStaged sigOk s1
      finish c { status := r.1.status, detail := if r.1.status = 0 then 0 else 52, result := stageResult version r.1 } r.2)

/-- STAGED is empty at once (R515). -/
def discardStaged (s : State) : State :=
  { putMap { s.cfg.map with staged := none, stagedState := 0 } s with cfg.stagedBytes := 0 }

/-- CFG_DISCARD (R515, R519). -/
def execCfgDiscard (t line seq partnerStatus : Nat) (s : State) : Host.Outcome State Fault Refusal :=
  .next (runCmd line seq 0x0306 standbyIllegal (fun c s =>
    let s1 := if mirrorUp s then toPartner 0x0306 [] [] s else s
    if mirrorUp s && partnerStatus != stDone then partnerRefused c partnerStatus [] s1
    else done c [] (discardStaged s1)) (s.at t))

/-- CFG_STATUS (R517). -/
def execCfgStatus (t line seq : Nat) (s : State) : Host.Outcome State Fault Refusal :=
  .next (runCmd line seq 0x0304 neverIllegal (fun c s =>
    let m := s.cfg.map
    done c (leBytes 4 (areaVersion s m.active) ++ leBytes 4 (areaVersion s m.previous) ++ leBytes 4 (areaVersion s m.staged)
      ++ leBytes 4 m.highest ++ [m.stagedState]) s) (s.at t))

/-- CFG_READ (R517): up to 65,536 bytes of an image from OFFSET; nothing where there is none. -/
def execCfgRead (t line seq : Nat) (s : State) : Host.Outcome State Fault Refusal :=
  .next (runCmd line seq 0x0305 neverIllegal (fun c s =>
    let k := c.param 8 1
    let ofs := c.param 12 4
    let area := if k = 0 then s.cfg.map.active else if k = 1 then s.cfg.map.previous else s.cfg.map.staged
    let len := match area with
      | none => 0
      | some a => if k = 2 && s.cfg.map.stagedState == 1 then s.cfg.stagedBytes else areaLength s a
    if 3 ≤ k then rejectRange c 8 s
    else if len < ofs then rejectRange c 12 s
    else doneOut c [] (memBytes s.mem (areaAddr (area.getD 0) + ofs) (min 65536 (len - ofs))) s) (s.at t))

/-! ### Commit and rollback (R517, R518) -/

/-- The bytes of a section of the image in an area; none where the image has no such section. -/
def sectBytes (s : State) (a id : Nat) : Option (List Nat) :=
  ((sections s.mem (areaAddr a)).find? fun x => x.id == id).map fun x => memBytes s.mem (areaAddr a + x.ofs) x.len

/-- The sections in which the image in area `a` differs from ACTIVE (R518 step 2). -/
def changedSections (s : State) (a : Nat) : List Nat :=
  (sectionTable.map Prod.fst).filter fun id =>
    sectBytes s a id != (s.cfg.map.active.bind fun b => sectBytes s b id)

/-- What a commit or rollback comes to before its commit point: a status and DETAIL, or the new slot map with the sections
that differ. -/
inductive CommitPlan where
  | answer (status detail : Nat)
  | go (m : SlotMap) (changed : List Nat)
deriving DecidableEq, Repr

/-- The slot map after a commit of STAGED (R518 step 4). -/
def mapCommitted (m : SlotMap) (a version : Nat) (force : Bool) : SlotMap :=
  { m with active := some a, previous := m.active, staged := none, stagedState := 0, highest := version,
             forced := (m.forced.filter fun x => some x == m.active) ++ (if force then [a] else []) }

/-- Steps 1 to 3 of R518 in their order. -/
def planCommit (expect : Nat) (force rollback : Bool) (s : State) : CommitPlan :=
  let m := s.cfg.map
  let src := if rollback then m.previous else m.staged
  let overBudget := if rollback then src.any fun a => m.forced.contains a else m.stagedState == 3
  if force && s.sys.mode != .m10 then .answer stMode s.sys.mode.num
  else if m.active.isSome && expect == areaVersion s m.active then .answer stDone 0
  else
    match src with
    | none => .answer stIllegal 0
    | some a =>
      let valid := if rollback then (validate (areaAddr a) (areaLength s a) true false s).status == 0 else decide (2 ≤ m.stagedState)
      if !valid || expect != areaVersion s (some a) then .answer stIllegal 0
      else if overBudget && !force then .answer stRange 12
      else
        let changed := changedSections s a
        if changed.any (fun i => !isNeutral i) && !(s.sys.mode == .m3 || (s.sys.mode == .m10 && !s.keeper.gateEn)) then
          .answer stMode s.sys.mode.num
        else .go (if rollback then { m with active := some a, previous := m.active } else mapCommitted m a expect force) changed

/-- The sections of a neutral commit with the parts that take effect apart: 0x112 T_DI and DG_ALIGN, 0x181 the test
pulses (R514). -/
def effectParts (l : List Nat) : List Nat :=
  l ++ (if l.contains 0x12 then [0x112] else []) ++ (if l.contains 0x81 then [0x181] else [])

/-- The write of the new slot map begins; its end is the commit point (R511). -/
def beginCommit (line seq partnerRes : Nat) (m : SlotMap) (changed : List Nat) (rollback : Bool) (s : State) : State :=
  { s with cfg.job := some { line := line, seq := seq, sections := effectParts changed,
                               resetDue := changed.any fun i => !isNeutral i, partnerRes := partnerRes },
             cfg.write := some (.slotMap m line seq rollback) }

/-- CFG_COMMIT and CFG_ROLLBACK (R517 to R519); a standby, which is in M7, takes neither, and with FORCE is in the wrong mode. -/
def commitBody (op partnerStatus : Nat) (rollback : Bool) (c : Cmd) (s : State) : State :=
  let expect := c.param 8 4
  let force := c.param 12 1 % 2 == 1
  let res := fun (x : State) (reset partner : Nat) => leBytes 4 (if x.cfg.loaded then x.cfg.version else 0) ++ [reset, partner]
  if s.dpx.role == 2 && !force then rejectIllegal c s
  else match planCommit expect force rollback s with
  | .answer st d => finish c { status := st, detail := d, result := if st == stDone then res s 0 0 else [] } s
  | .go m changed =>
    if s.cfg.write.isSome then s
    else
      let s1 := accept c [] s
      let s2 := if mirrorUp s then toPartner op [expect, b2n force] [] s1 else s1
      if mirrorUp s && partnerStatus != stDone then
        finishAccepted c.line c.seq { status := partnerStatus, result := res s 0 2 } (raiseError errCfgPartner 0 s2)
      else beginCommit c.line c.seq (b2n (mirrorUp s)) m changed rollback s2

/-- CFG_COMMIT. -/
def execCfgCommit (t line seq partnerStatus : Nat) (s : State) : Host.Outcome State Fault Refusal :=
  .next (runCmd line seq 0x0302 neverIllegal (commitBody 0x0302 partnerStatus false) (s.at t))

/-- CFG_ROLLBACK. -/
def execCfgRollback (t line seq partnerStatus : Nat) (s : State) : Host.Outcome State Fault Refusal :=
  .next (runCmd line seq 0x0303 neverIllegal (commitBody 0x0303 partnerStatus true) (s.at t))

/-- The line that stands for the partner in a commit it asked for. -/
abbrev partnerLine : Nat := 18

/-- CFG_PARTNER_REQUEST (R519): the member executes what its partner passes it, and answers with its status; the answer to a
commit comes with the end of its slot map's write. -/
def execCfgPartnerRequest (t : Nat) (req : PartnerReq) (sigOk : Bool) (s : State) : Host.Outcome State Fault Refusal :=
  let s := s.at t
  let commit := fun (expect : Nat) (force rollback : Bool) => match planCommit expect force rollback s with
    | .answer st _ => answerPartner st s
    | .go m changed => if s.cfg.write.isSome then answerPartner stIllegal s else beginCommit partnerLine 0 1 m changed rollback s
  .next (match req with
  | .stage ofs total last data =>
    (match chunkFault s ofs total last data with
    | some d => answerPartner (if d == 60 then stFormat else stRange) s
    | none =>
      let s1 := writeChunk ofs total data s
      if last then let r := judgeStaged sigOk s1
                   answerPartner r.1.status r.2
      else answerPartner stDone s1)
  | .commit expect force => commit expect force false
  | .rollback expect => commit expect false true
  | .discard => answerPartner stDone (discardStaged s))

/-! ### The end of a write of xSPI0 (R34, R511) -/

/-- The command that a write belongs to still stands; a partner's has none here. -/
def writeAlive (s : State) (line seq : Nat) : Bool := line == partnerLine || (findCmd s line seq).isSome

/-- The command completes, where it still stands. -/
def finishCmd (line seq : Nat) (a : Answer) (s : State) : State :=
  match findCmd s line seq with
  | some c => finish c a s
  | none => if line == partnerLine then answerPartner a.status s else s

/-- The commit point (R511, R518): the new assignment stands. Neutral sections then take effect as they fall due; any other
takes a software reset. -/
def commitPoint (m : SlotMap) (s : State) : State :=
  let s0 := putMap m s
  let s1 := fireEvent 5 { s0 with cfg.version := areaVersion s0 m.active }
  match s1.cfg.job with
  | none => s1
  | some j =>
    let s2 := { s1 with cfg.job := some { j with committed := true } }
    let s3 := if j.line == partnerLine then answerPartner stDone s2 else s2
    if j.resetDue then resetControl .software (coldNow s3) s3 else endNeutral (takeIdle s3)

/-- XSP0_WRITE_DONE (R34, R503, R411, R511): the write passed its read-back, or failed it three times, and then the earlier
slot map, key image or firmware slot stands. The same holds where its command was discarded meanwhile (R520). -/
def execXsp0WriteDone (t : Nat) (ok : Bool) (s : State) : Host.Outcome State Fault Refusal :=
  let s := s.at t
  let fails := fun (line seq : Nat) (x : State) =>
    finishCmd line seq { status := stFault } (xsp0WriteFail x)
  .next (match s.cfg.write with
  | none => s
  | some w =>
    let s1 := { s with cfg.write := none }
    match w with
    | .slotMap m line seq _ =>
      if !writeAlive s line seq then { s1 with cfg.job := none }
      else if ok then commitPoint m s1 else fails line seq { s1 with cfg.job := none }
    | .keyImage line seq =>
      if !writeAlive s line seq then { s1 with key.newSlot := none }
      else if ok then keyWriteDone line seq s1 else fails line seq { s1 with key.newSlot := none }
    | .fwHeader k st line seq =>
      if !writeAlive s line seq then s1
      else if !ok then fails line seq s1
      else
        let s2 := fireEvent 466 (setFw k (fun x => { x with st := st }) s1)
        if st == .preferred then
          let s3 := setFw (1 - k) (fun x => { x with st := .fallback }) s2
          finishCmd line seq {} { s3 with sys := { s3.sys with boot := { s3.sys.boot with attempts := 0, fbAttempts := 0 } } }
        else finishCmd line seq { result := [0, 0, 0, 0, k] } s2)

end Sys2Proof.Machine
end

