-- ==== Sys2Proof/Machine/Jtag.lean ====
section
/-! DEFINITION. The boundary register of the IEEE 1149.1 port (R529, R531, R554): its cells in the order of the ball map
(R552, R553), and a capture, shift and update of it. -/

namespace Sys2Proof.Machine

/-- The kinds of boundary cell (R553, R554). -/
inductive BndKind where
  | inp | out | io | obs
deriving DecidableEq, Repr

/-- A run of cells of one row of the ball map, columns ascending: the row, the first cell's column, the signal, its first
index, how many cells, and their kind. A heavy channel's cell sits at the first of its three balls (R554). -/
structure BndRun where
  row : String
  col : Nat
  sig : String
  first : Nat
  num : Nat
  kind : BndKind
deriving DecidableEq, Repr

/-- The cells of row A to F, power group `g` (R552). -/
def bndGroupRow (g : Nat) (row : String) : List BndRun :=
  [⟨row, 1, "PWMH", 6 * g, 6, .out⟩, ⟨row, 7, "PWML", 6 * g, 6, .out⟩, ⟨row, 13, "GFLT_N", 6 * g, 6, .inp⟩,
   ⟨row, 19, "MDAT", 6 * g, 6, .inp⟩, ⟨row, 25, "MDAT", 36 + g, 1, .inp⟩, ⟨row, 26, "MCLK", g, 1, .out⟩]

/-- The cells of rows G to N (R552, R553). -/
def bndRowsG : List BndRun :=
  [⟨"G", 19, "MDAT", 42, 6, .inp⟩, ⟨"G", 26, "PCIE_PERST_N", 0, 1, .inp⟩, ⟨"K", 5, "FEN_ZC", 0, 1, .inp⟩,
   ⟨"K", 6, "FEN_TXEN", 0, 1, .out⟩, ⟨"K", 7, "CP_PWM", 0, 2, .out⟩, ⟨"L", 1, "CP_PWM", 2, 2, .out⟩,
   ⟨"M", 3, "FLW", 0, 6, .inp⟩, ⟨"M", 21, "CAN_TX", 0, 1, .out⟩, ⟨"M", 22, "CAN_RX", 0, 1, .inp⟩,
   ⟨"M", 23, "CAN_TX", 1, 1, .out⟩, ⟨"M", 24, "CAN_RX", 1, 1, .inp⟩, ⟨"M", 25, "CAN_TX", 2, 1, .out⟩,
   ⟨"M", 26, "CAN_RX", 2, 1, .inp⟩, ⟨"N", 1, "FLW", 6, 2, .inp⟩, ⟨"N", 19, "CAN_TX", 3, 1, .out⟩,
   ⟨"N", 20, "CAN_RX", 3, 1, .inp⟩, ⟨"N", 21, "CAN_TX", 4, 1, .out⟩, ⟨"N", 22, "CAN_RX", 4, 1, .inp⟩,
   ⟨"N", 23, "CAN_TX", 5, 1, .out⟩, ⟨"N", 24, "CAN_RX", 5, 1, .inp⟩, ⟨"N", 25, "SPI_SCK", 0, 1, .inp⟩,
   ⟨"N", 26, "SPI_MOSI", 0, 1, .inp⟩]

/-- The cells of rows P to AC (R552, R553). -/
def bndRowsP : List BndRun :=
  [⟨"P", 19, "SPI_MISO", 0, 1, .out⟩, ⟨"P", 20, "SPI_CS_N", 0, 1, .inp⟩, ⟨"P", 21, "XSP0_CLK", 0, 1, .out⟩,
   ⟨"P", 22, "XSP0_CS_N", 0, 1, .out⟩, ⟨"P", 23, "XSP0_DQS", 0, 1, .io⟩, ⟨"P", 24, "XSP0_RESET_N", 0, 1, .out⟩,
   ⟨"P", 25, "XSP0_DQ", 0, 2, .io⟩, ⟨"T", 19, "XSP0_DQ", 2, 6, .io⟩, ⟨"T", 25, "XSP1_CLK", 0, 1, .out⟩,
   ⟨"T", 26, "XSP1_CS_N", 0, 1, .out⟩, ⟨"U", 19, "XSP1_DQS", 0, 1, .io⟩, ⟨"U", 20, "XSP1_RESET_N", 0, 1, .out⟩,
   ⟨"U", 21, "XSP1_DQ", 0, 6, .io⟩, ⟨"V", 3, "TP", 0, 6, .out⟩, ⟨"V", 19, "XSP1_DQ", 6, 2, .io⟩,
   ⟨"V", 21, "CID_SCL", 0, 1, .io⟩, ⟨"V", 22, "CID_SDA", 0, 1, .io⟩, ⟨"V", 23, "CID_SCL", 1, 1, .io⟩,
   ⟨"V", 24, "CID_SDA", 1, 1, .io⟩, ⟨"V", 25, "CID_SCL", 2, 1, .io⟩, ⟨"V", 26, "CID_SDA", 2, 1, .io⟩,
   ⟨"W", 19, "CID_SCL", 3, 1, .io⟩, ⟨"W", 20, "CID_SDA", 3, 1, .io⟩, ⟨"W", 21, "OPT_TX", 0, 1, .out⟩,
   ⟨"W", 22, "OPT_RX", 0, 1, .inp⟩, ⟨"W", 23, "LDSP_SCK", 0, 1, .out⟩, ⟨"W", 24, "LDSP_MOSI", 0, 1, .out⟩,
   ⟨"W", 25, "LDSP_CS_N", 0, 1, .out⟩, ⟨"W", 26, "SEAL_N", 0, 1, .inp⟩, ⟨"Y", 19, "DIN", 0, 8, .inp⟩,
   ⟨"AA", 19, "DIN", 8, 8, .inp⟩, ⟨"AB", 19, "DIN", 16, 8, .inp⟩, ⟨"AC", 19, "DIN", 24, 8, .inp⟩]

/-- The cells of rows AD to AG (R552, R553). -/
def bndRowsAD : List BndRun :=
  [⟨"AD", 1, "GATE_EN", 0, 1, .obs⟩, ⟨"AD", 2, "DPX_CLAIM_OUT", 0, 1, .obs⟩, ⟨"AD", 3, "DPX_CLAIM_IN", 0, 1, .inp⟩,
   ⟨"AD", 4, "DPX_SEL_N", 0, 1, .inp⟩, ⟨"AD", 5, "DPX_MCLK_RET", 0, 1, .inp⟩, ⟨"AD", 6, "PFW_N", 0, 1, .inp⟩,
   ⟨"AD", 7, "RESET_N", 0, 1, .inp⟩, ⟨"AD", 8, "FREEZE_N", 0, 1, .inp⟩, ⟨"AD", 9, "TEST_EN", 0, 1, .inp⟩,
   ⟨"AD", 10, "PS_OFF", 0, 1, .inp⟩, ⟨"AD", 18, "TSU_IO", 0, 4, .io⟩, ⟨"AD", 22, "HOST_INT", 0, 4, .out⟩,
   ⟨"AD", 26, "HOST_WAKE", 0, 1, .out⟩, ⟨"AF", 1, "LSW", 0, 24, .obs⟩, ⟨"AF", 25, "MXP_SCK", 0, 1, .obs⟩,
   ⟨"AF", 26, "MXP_SDO", 0, 1, .obs⟩, ⟨"AG", 1, "LSW", 24, 8, .obs⟩, ⟨"AG", 25, "MXP_SDI", 0, 1, .inp⟩,
   ⟨"AG", 26, "MXP_LD_N", 0, 1, .obs⟩]

/-- The boundary register's cells, A1 first, row by row with columns ascending (R554): cell 0, nearest TDO, is the first. -/
def bndRuns : List BndRun :=
  bndGroupRow 0 "A" ++ bndGroupRow 1 "B" ++ bndGroupRow 2 "C" ++ bndGroupRow 3 "D" ++ bndGroupRow 4 "E" ++ bndGroupRow 5 "F"
    ++ bndRowsG ++ bndRowsP ++ bndRowsAD

/-- The kinds of the 324 cells, cell 0 first. -/
def bndCells : List BndKind := (bndRuns.map fun r => List.replicate r.num r.kind).flatten

/-- A cell's bits: one, or three for an IO cell, in the order input, output, output enable (R554). -/
def BndKind.width : BndKind → Nat
  | .io => 3
  | _ => 1

/-- Length of the boundary register: 384 bits. -/
def bndLen : Nat := (bndCells.map BndKind.width).sum

/-- The first `n` bits of a list, 0 where it ends. -/
def bitsOf (n : Nat) (l : List Bool) : List Bool := (l ++ List.replicate n false).take n

/-- Capture-DR: what each cell's parallel input reads; an observing cell reads its line low where the keeper keeps it low
(R531, R554). -/
def bndCapture (low : Bool) : List BndKind → List Bool → List Bool
  | [], _ => []
  | .obs :: ks, b => (b.headD false && !low) :: bndCapture low ks (b.drop 1)
  | k :: ks, b => bitsOf k.width b ++ bndCapture low ks (b.drop k.width)

/-- Shift-DR with one bit a clock in at TDI, the end of the last cell, and out at TDO, cell 0: the bits that come out, and
the register after them. -/
def bndShift (reg tdi : List Bool) : List Bool × List Bool :=
  ((reg ++ tdi).take tdi.length, (reg ++ tdi).drop tdi.length)

/-- What the update latches drive on the balls under EXTEST and CLAMP, cell by cell (R554): an OUT cell its bit, an IO cell
its output bit where its enable bit is 1; an IN or OBS cell drives nothing. -/
def bndDrives : List BndKind → List Bool → List (Option Bool)
  | [], _ => []
  | .out :: ks, b => some (b.headD false) :: bndDrives ks (b.drop 1)
  | .io :: ks, b => (if b.getD 2 false then some (b.getD 1 false) else none) :: bndDrives ks (b.drop 3)
  | _ :: ks, b => none :: bndDrives ks (b.drop 1)

/-- The balls the boundary register drives now, cell by cell: under EXTEST and CLAMP what was updated last; under any other
instruction none. -/
def bndBalls (s : State) : List (Option Bool) :=
  if s.dbg.ir == 3 || s.dbg.ir == 5 then bndDrives bndCells s.dbg.bndOut else List.replicate bndCells.length none

/-- One scan of the boundary register (R529, R554): capture, shift of the bits of `tdi`, update. The captured bits come out
first. -/
def bndScan (cells tdi : List Bool) (s : State) : State :=
  let r := bndShift (bndCapture (s.dbg.ir == 3) bndCells cells) tdi
  { s with dbg := { s.dbg with bnd := r.2, bndOut := r.2 },
           out := s.out ++ [{ kind := .tap, chan := s.dbg.ir, data := r.1.map fun b => if b then 1 else 0 }] }

end Sys2Proof.Machine
end

