-- ==== Sys2Proof/Machine/Fen.lean ====
section
/-! DEFINITION. Fenline (19): mains slots, beacons, tone maps, frames and their access to the medium, the link-metric table,
routes, and the commands of R496. -/

namespace Sys2Proof.Machine

/-! ### Errors of SUBSYS 11 (R494) -/

def errNoRoute : ErrSpec := ⟨11, 1, 1⟩
def errZcLost : ErrSpec := ⟨11, 2, 1⟩
def errNeighFull : ErrSpec := ⟨11, 3, 1⟩
def errFenAuth : ErrSpec := ⟨11, 4, 1⟩

/-! ### Configuration (R478) -/

/-- FEN_CTRL.ROLE: 0 OFF, 1 GATEWAY, 2 LEAF. -/
def fenRole (s : State) : Nat := rdf s baseFEN 0 2

/-- The node takes part in its Fenline network: it has a role, and its configuration is loaded. -/
def fenOn (s : State) : Bool := fenRole s != 0 && 3 ≤ s.sys.mode.num

/-- The transmitter is not silent: a standby's is (R493). -/
def fenTalks (s : State) : Bool := fenOn s && s.dpx.role != 2

/-! ### Mains slots and beacons (R481, R489) -/

/-- The nominal half-cycle of MTR_CTRL.F_NOM, ns. -/
def halfNominal (s : State) : Nat := if rdb s baseMTR 8 then 8333333 else 10000000

/-- FEN_ZERO_CROSSING (R481): the gateway's slots follow a valid crossing; on the timer they follow again after 10 good
half-cycles in a row. `period` is the measured half-cycle, ns. -/
def execFenZeroCrossing (t : Nat) (valid : Bool) (period : Nat) (s : State) : Host.Outcome State Fault Refusal :=
  let s := s.at t
  .next (if fenRole s != 1 then s
    else if !valid then { s with fen.zcGood := 0 }
    else if s.fen.zcTimer && s.fen.zcGood < 9 then { s with fen.zcGood := s.fen.zcGood + 1 }
    else { s with fen.zcTimer := false, fen.zcGood := 0, fen.zcAt := s.now, fen.half := period, fen.synced := true })

/-- FEN_ZC_LOST (R481): three half-cycles without a valid crossing: the slots run on the timer from the last one. -/
def execFenZcLost (t : Nat) (s : State) : Host.Outcome State Fault Refusal :=
  let s := s.at t
  .next (if fenRole s != 1 || s.fen.zcTimer || decide (s.now < s.fen.zcAt + 3 * (if s.fen.half = 0 then halfNominal s else s.fen.half)) then s
    else raiseError errZcLost 0 (fireEvent 435
      { s with fen.zcTimer := true, fen.zcGood := 0, fen.half := halfNominal s, fen.synced := true }))

/-- The mains slot of the block time (R481). -/
def mainsSlot (s : State) : Nat :=
  if s.fen.half = 0 then 0 else ((s.now - s.fen.zcAt) % s.fen.half) * 8 / s.fen.half

/-- BEACON_SEND (R481): the time since the last zero crossing, and the device time. -/
def execBeaconSend (t : Nat) (s : State) : Host.Outcome State Fault Refusal :=
  let s := s.at t
  .next (if fenRole s == 1 && fenTalks s && s.fen.synced then
    emit { s with fen.fcnt := s.fen.fcnt + 1 } .beacon 0
      ([rdf s (baseFEN + 4) 16 16, s.now - s.fen.zcAt, devTime s, ownNode s, s.fen.fcnt, s.fen.epoch].map Int.ofNat)
  else s)

/-- BEACON_RX (R478, R481, R489): a leaf takes its slots and the gateway's time from the beacon of its network. -/
def execBeaconRx (t netId gatewayTime zcAgo : Nat) (s : State) : Host.Outcome State Fault Refusal :=
  let s := s.at t
  .next (if fenRole s == 2 && fenOn s && netId == rdf s (baseFEN + 4) 16 16 then
    { s with fen.synced := true, fen.beaconLost := false, fen.diff := (gatewayTime : Int) - devTime s,
               fen.zcAt := s.now - zcAgo, fen.beaconAt := s.now, fen.half := if s.fen.half = 0 then halfNominal s else s.fen.half }
  else s)

/-- BEACON_LOST (R493): eight beacons, one every four half-cycles, are missing. -/
def execBeaconLost (t : Nat) (s : State) : Host.Outcome State Fault Refusal :=
  let s := s.at t
  .next (if fenRole s == 2 && !s.fen.beaconLost && decide (s.fen.beaconAt + 32 * s.fen.half ≤ s.now) then
    fireEvent 434 { s with fen.beaconLost := true, fen.synced := false }
  else s)

/-! ### Tone maps (R480, R482, R483) -/

/-- Carriers that are not masked (R479). A range parameter holds its first carrier in bits 15 to 0, its last in 31 to 16. -/
def openCarriers (s : State) : Nat :=
  let ranges := [param s pFEN_MASK_0 0, param s pFEN_MASK_1 0, param s pFEN_MASK_2 0, param s pFEN_MASK_3 0, param s pFEN_MASK_4 0,
    param s pFEN_MASK_5 0, param s pFEN_MASK_6 0, param s pFEN_MASK_7 0, param s pFEN_MASK_8 0, param s pFEN_MASK_9 0,
    param s pFEN_MASK_10 0, param s pFEN_MASK_11 0, param s pFEN_MASK_12 0, param s pFEN_MASK_13 0, param s pFEN_MASK_14 0,
    param s pFEN_MASK_15 0]
  let rs := ranges.filter (· != 0)
  if rs.isEmpty then 2130
  else ((List.range 2130).filter fun k => !(rs.any fun r => r % 65536 ≤ k + 164 && k + 164 ≤ r / 65536)).length

/-- Data bits a symbol carries under a map, or under the robust map (R480). -/
def symbolBits (s : State) : Option ToneMap → Nat
  | none => openCarriers s / 6
  | some m =>
    let n := m.loads.foldl (· + ·) 0
    if m.rate = 0 then n / 2 else if m.rate = 1 then n * 2 / 3 else n * 5 / 6

/-- PHY rate of a map, 0.1 Mbit/s: a symbol lasts 98.56 µs. -/
def mapRate (s : State) (m : Option ToneMap) : Nat := symbolBits s m * 1000 / 9856

/-- The mean rate of eight maps, 0.1 Mbit/s (R490). -/
def meanRate (s : State) (l : List (Option ToneMap)) : Nat := (l.map (mapRate s)).foldl (· + ·) 0 / 8

/-- Neighbour `node` of the table. -/
def neighOf (s : State) (node : Nat) : Option Neigh := s.fen.neigh.find? fun x => x.node == node

/-- Neighbour `node` changed. -/
def setNeigh (node : Nat) (f : Neigh → Neigh) (s : State) : State :=
  { s with fen.neigh := s.fen.neigh.map fun x => if x.node == node then f x else x }

/-- The rates of a neighbour follow its maps. -/
def updRates (node : Nat) (s : State) : State :=
  setNeigh node (fun x => { x with up := meanRate s x.tx.toList, down := meanRate s x.rx.toList }) s

/-- A frame of this node's own to a neighbour. -/
def fenOwn (node typ : Nat) (m : Out) (s : State) : State :=
  fenQueue { dst := node, src := ownNode s, next := node, typ := typ, prio := 2, msg := some m } s

/-- The neighbour is asked for a sounding frame in a slot (R483). -/
def askSounding (node slot : Nat) (s : State) : State :=
  fenOwn node 4 { kind := .fenSounding, chan := node, data := [(slot : Int), 1] }
    (setNeigh node (fun x => { x with resound := upd x.resound slot fun _ => true }) s)

/-- SOUNDING_RX (R482, R483): the receiver builds the slot's map from a sounding frame and sends it to the transmitter. -/
def execSoundingRx (t tx slot : Nat) (map : ToneMap) (s : State) : Host.Outcome State Fault Refusal :=
  let s := s.at t
  .next (if fenOn s && (neighOf s tx).isSome then
    let s1 := setNeigh tx (fun x =>
      { x with rx := upd x.rx slot fun _ => some map, resound := upd x.resound slot fun _ => false }) s
    fireEvent 433 (fenOwn tx 3 { kind := .toneMap, chan := tx, data := ([slot, map.rate] ++ map.loads).map Int.ofNat } (updRates tx s1))
  else s)

/-- TONE_MAP_RX (R482, R483, R493): a map for sending to a neighbour; the next frame goes on it, at full loading. -/
def execToneMapRx (t tx slot : Nat) (map : ToneMap) (s : State) : Host.Outcome State Fault Refusal :=
  let s := s.at t
  .next (if fenOn s then
    updRates tx (setNeigh tx (fun x =>
      { x with tx := upd x.tx slot fun _ => some map, low := upd x.low slot fun _ => false, used := upd x.used slot fun _ => s.now }) s)
  else s)

/-- TONE_MAP_EXPIRY (R482, R493): a map unused for 30 s is gone; where a slot was being re-estimated, all eight are sounded
again, else the next frame asks for it. -/
def execToneMapExpiry (t node slot : Nat) (s : State) : Host.Outcome State Fault Refusal :=
  let s := s.at t
  .next (match neighOf s node with
    | none => s
    | some x =>
      let slots := if x.resound.toList.any id then List.range 8 else []
      let s1 := updRates node (setNeigh node (fun x => { x with tx := upd x.tx slot fun _ => none, low := upd x.low slot fun _ => false }) s)
      if s.now < get x.used slot + 30000000000 then s else slots.foldl (fun a k => askSounding node k a) s1)

/-- The map a frame in a slot is sent on (R480, R483): at 2 bits less, but at least 1, while a re-estimation runs. -/
def sendMap (x : Neigh) (slot : Nat) : Option ToneMap :=
  match get x.tx slot with
  | none => none
  | some m => if get x.low slot then some { m with loads := m.loads.map fun b => if b = 0 then 0 else max 1 (b - 2) } else some m

/-! ### Routes (R490 to R492) -/

/-- R of R491: the lower of the link's two rates, 0.1 Mbit/s. -/
def linkRate (x : Neigh) : Nat := min x.up x.down

/-- Cost of the route through a neighbour, per Mbit/s. -/
def costThrough (s : State) (x : Neigh) : Rat := x.cost + 10 / (linkRate x : Rat) + (rdf s baseFEN 28 4 : Rat) / 100

/-- A neighbour that can be a next hop: it has a route, and the route through it has at most 6 hops. -/
def usable (x : Neigh) : Bool := x.routed && x.hops + 1 ≤ 6 && linkRate x != 0

/-- The cheapest next hop of some neighbours. -/
def cheapestOf (s : State) (l : List Neigh) : Option Neigh :=
  (l.filter usable).foldl (fun b x => match b with
    | none => some x
    | some y => if costThrough s x < costThrough s y then some x else some y) none

/-- The cheapest next hop. -/
def bestHop (s : State) : Option Neigh := cheapestOf s s.fen.neigh

/-- Airtime of a 124-byte frame on the slowest of eight maps, ns (R485, R492). -/
def slowAirtime (s : State) (maps : List (Option ToneMap)) : Nat :=
  let b := minList (openCarriers s / 6 + 21300) (maps.map (symbolBits s))
  180480 + (if b = 0 then 0 else (992 + b - 1) / b * 98560)

/-- RTT_FEN over `hops` hops, the first with neighbour `x`, the others reckoned on the robust map, µs (R492). -/
def rttFen (s : State) (hops : Nat) (x : Neigh) : Nat :=
  let acc := rdf s baseFEN 21 7 * 100
  let one := fun maps => acc + 2 * slowAirtime s maps / 1000 + 150
  if hops = 0 then 0 else one x.tx.toList + one x.rx.toList + (hops - 1) * 2 * one [none]

/-- The leaf's route is through `m`, or there is none (R491, R494). -/
def setRoute (m : Option Neigh) (s : State) : State :=
  match m with
  | some x =>
    let s1 := { s with
                  fen.next := some x.node, fen.hops := x.hops + 1, fen.cost := costThrough s x, fen.better := none,
                  fen.changes := (s.fen.changes + 1) % 65536, fen.noRoute := false, fen.tripUs := rttFen s (x.hops + 1) x }
    updLink (fireEvent 432 (setNeigh x.node (fun y => { y with drops := 0 }) s1))
  | none =>
    let s1 := { s with
                  fen.next := none, fen.hops := 0, fen.cost := 0, fen.better := none, fen.noRoute := true, fen.tripUs := 0 }
    let s2 := if s.fen.next.isSome then fireEvent 432 s1 else s1
    updLink (if s.fen.noRoute then s2 else raiseError errNoRoute 0 s2)

/-- A leaf chooses its next hop again (R491): at once where the present one is gone or lost, else after 10 s at 20 % less. -/
def chooseRoute (s : State) : State :=
  if fenRole s != 2 then s
  else
    let best := bestHop s
    match s.fen.next.bind (neighOf s) with
    | none => if best.isNone && s.fen.noRoute then s else setRoute best s
    | some x =>
      if !usable x then setRoute best s
      else if 3 ≤ x.drops then
        (match cheapestOf s (s.fen.neigh.filter fun y => y.node != x.node) with
         | some y => setRoute (some y) s
         | none => s)
      else
        let s1 := { s with
                      fen.cost := costThrough s x, fen.hops := x.hops + 1, fen.tripUs := rttFen s (x.hops + 1) x }
        match best with
        | some b =>
          if b.node != x.node && costThrough s b * 5 ≤ costThrough s x * 4 then
            (match s1.fen.better with
             | some (m, _) => if m == b.node then s1 else { s1 with fen.better := some (b.node, s1.now) }
             | none => { s1 with fen.better := some (b.node, s1.now) })
          else { s1 with fen.better := none }
        | none => s1

/-- ROUTE_CHANGE (R491): the cheaper next hop has been so for 10 s. -/
def execRouteChange (t : Nat) (s : State) : Host.Outcome State Fault Refusal :=
  let s := s.at t
  .next (match s.fen.better with
    | some (m, since) => if since + 10000000000 ≤ s.now then setRoute (neighOf s m) s else s
    | none => s)

/-- LINK_METRIC_SEND (R490): every 1 s, the neighbours' rates and the own cost, in 10^-6 per Mbit/s. -/
def execLinkMetricSend (t : Nat) (s : State) : Host.Outcome State Fault Refusal :=
  let s := s.at t
  .next (if fenTalks s then
    let routed := fenRole s == 1 || s.fen.next.isSome
    let data := [(s.fen.cost * 1000000).floor, (s.fen.hops : Int), ((b2n routed : Nat) : Int)]
      ++ (s.fen.neigh.map fun x => [(x.node : Int), (x.down : Int)]).flatten
    fenQueue { src := ownNode s, typ := 5, prio := 2, bcast := true, msg := some { kind := .linkMetric, chan := 0, data := data } } s
  else s)

/-- A neighbour joins the table, in the place of its slowest where it is full and the new one is faster (R490). -/
def addNeigh (x : Neigh) (s : State) : State :=
  if s.fen.neigh.length < 64 then fireEvent 436 { s with fen.neigh := s.fen.neigh ++ [x] }
  else
    let low := s.fen.neigh.foldl (fun b y => if linkRate y < linkRate b then y else b) (s.fen.neigh.headD {})
    let s1 := if linkRate low < linkRate x then
        fireEvent 436 { s with fen.neigh := (s.fen.neigh.filter fun y => y.node != low.node) ++ [x] }
      else s
    if s1.fen.fullSaid then s1 else raiseError errNeighFull 0 { s1 with fen.fullSaid := true }

/-- LINK_METRIC_RX (R490, R491): a neighbour's report. -/
def execLinkMetricRx (t tx own hops : Nat) (routed : Bool) (bler : Nat) (rows : List MetricRow) (s : State) :
    Host.Outcome State Fault Refusal :=
  let s := s.at t
  .next (if !fenOn s || tx == ownNode s then s
    else
      let up := ((rows.find? fun r => r.node == ownNode s).map MetricRow.rate).getD (mapRate s none)
      let f := fun (x : Neigh) => { x with up := up, bler := bler, cost := (own : Rat) / 1000000, hops := hops, routed := routed, seen := s.now }
      let s1 := if (neighOf s tx).isSome then setNeigh tx f s else addNeigh (f { node := tx, down := mapRate s none }) s
      chooseRoute s1)

/-- NEIGHBOUR_EXPIRY (R490): an entry not refreshed for 5 s. -/
def execNeighbourExpiry (t node : Nat) (s : State) : Host.Outcome State Fault Refusal :=
  let s := s.at t
  .next (match neighOf s node with
    | some x =>
      if x.seen + 5000000000 ≤ s.now then
        chooseRoute (fireEvent 436 { s with fen.neigh := s.fen.neigh.filter (fun y => y.node != node), fen.fullSaid := false })
      else s
    | none => s)

/-! ### Receiving frames (R483, R484, R487, R488) -/


/-- The Oluzel frame a body of TYPE 1 holds, from its TC byte through its FCS (R425). -/
def innerFrame (b : List Nat) : OzFrame :=
  let f := fun o w => leValue ((b.drop o).take w)
  let len := f 6 2
  { hcrcOk := 20 ≤ b.length && crc16 (b.take 14) == f 14 2, fcsOk := b.length == 20 + len && crc32c (b.take (16 + len)) == f (16 + len) 4,
      aborted := false, tc := bits (f 0 1) 0 3, ver := bits (f 0 1) 3 2, bcast := bit (f 1 1) 0, seg := bit (f 1 1) 1, ctrl := bit (f 1 1) 2,
      dst := bits (f 2 2) 0 12, dstMember := bits (f 2 2) 12 2, src := bits (f 4 2) 0 12, srcMember := bits (f 4 2) 12 2,
      hops := bits (f 8 2) 0 12, msg := f 10 2, segIdx := bits (f 12 2) 0 15, last := bit (f 12 2) 15, payload := (b.drop 16).take len }

/-- Blanked samples and erased symbols are counted (R484). -/
def countBlank (f : FenFrame) (s : State) : State :=
  { s with fen.blank := s.fen.blank + f.blanked, fen.erased := (s.fen.erased + f.erased) % 65536 }

/-- The FEC blocks of a frame join the counts of their slots; a slot whose count exceeds TM_BLER_PCT of 32 is re-estimated
(R483). -/
def countBlocks (f : FenFrame) (s : State) : State :=
  f.blocks.foldl (fun a b =>
    let a1 := setNeigh f.tx (fun x => { x with errs := upd x.errs b.1 fun l => ((!b.2) :: l).take 32 }) a
    match neighOf a1 f.tx with
    | some x =>
      if rdf a1 baseFEN 12 5 * 32 < ((get x.errs b.1).filter id).length * 100 && !get x.resound b.1 then askSounding f.tx b.1 a1 else a1
    | none => a1) s

/-- The numbers of the failed FEC blocks of a frame. -/
def failedBlocks (f : FenFrame) : List Nat := (f.blocks.zipIdx.filter fun x => !x.1.2).map Prod.snd

/-- A frame is dropped and counted (R487, R494): 16 within a second by their tags raise FEN_AUTH. -/
def dropAuth (byTag : Bool) (s : State) : State :=
  let s1 := { s with fen.auth := (s.fen.auth + 1) % 65536 }
  if !byTag then s1
  else
    let sec := s.now / 1000000000
    let n := if s.fen.authSec.1 == sec then s.fen.authSec.2 + 1 else 1
    let s2 := { s1 with fen.authSec := (sec, n) }
    if n == 16 then raiseError errFenAuth 0 (fireEvent 437 s2) else s2

/-- The frame's counter is new in its transmitter's epoch (R487). -/
def freshCount (s : State) (f : FenFrame) : Bool :=
  match s.fen.acc.find? fun a => a.1 == f.tx with
  | some a => a.2.1 != f.epoch || a.2.2 < f.fcnt
  | none => true

/-- The neighbour that last forwarded traffic from a node (R491); a gateway announces a leaf it had not served (R488). -/
def learnBack (src tx : Nat) (s : State) : State :=
  if src == ownNode s then s
  else
    let known := s.fen.back.any fun b => b.1 == src
    let s1 := { s with fen.back := (src, tx) :: s.fen.back.filter fun b => b.1 != src }
    if fenRole s == 1 && !known then floodTopo (topoChanged s1) else s1

/-- The gateway's record of a leaf's round trip (R492); a parent role hosted here checks it (R145). -/
def recordTrip (f : FenFrame) (s : State) : State :=
  if fenRole s == 1 then
    recheckFen
      { s with fen.trips := (f.src, rttFen s (f.hops + 1) ((neighOf s f.tx).getD {})) :: s.fen.trips.filter fun p => p.1 != f.src }
  else s

/-- A repeater sends the frame on under its own counter, with one more hop (R487, R491). -/
def repeatFrame (f : FenFrame) (s : State) : State :=
  match fenNext s f.dst with
  | some nx => if f.hops < 6 then
      fenQueue { dst := f.dst, src := f.src, next := nx, typ := f.typ, prio := f.prio, hops := f.hops + 1, body := f.body } s
    else s
  | none => s

/-- The Oluzel frame inside is for this node, or the gateway passes it on over Oluzel (R488). -/
def takeInner (f : FenFrame) (s : State) : State :=
  let o := innerFrame f.body
  if !o.hcrcOk || !o.fcsOk || o.tc == 0 || o.tc == 2 then s
  else if o.dst == ownNode s || o.bcast then receiveFrame o s
  else if fenRole s == 1 then
    match routeTo s o.dst with
    | some e => if e.egress < 4 then forwardOn o 0 e.egress false false s else fenSend o.tc o.src o.dst false (ozOut o 4 false) s
    | none => s
  else s

/-- A frame for this node is counted and answered by block (R485, R486); a broadcast, and a standby, answer nothing. -/
def fenAnswer (f : FenFrame) (s : State) : State :=
  let s1 := countBlocks f (countBlank f s)
  if f.bcast || s.dpx.role == 2 then s1 else emit s1 .fenSack f.tx ((failedBlocks f).map Int.ofNat)

/-- A whole frame whose tag and counter hold is noted (R487, R488): its counter, the way back to its source, its trip. -/
def fenNote (f : FenFrame) (s : State) : State :=
  recordTrip f (learnBack f.src f.tx
    { s with fen.acc := (f.tx, f.epoch, f.fcnt) :: s.fen.acc.filter fun a => a.1 != f.tx })

/-- A noted frame goes where it belongs (R483, R488): user data inwards or onwards, a sounding frame to the slot its first
byte asks for, which is then sent at less. -/
def fenAct (f : FenFrame) (s : State) : State :=
  if f.typ == 1 then
    (if f.dst == ownNode s || f.bcast || (fenRole s == 1 && !(s.fen.back.any fun b => b.1 == f.dst)) then takeInner f s
     else repeatFrame f s)
  else if f.typ == 4 then
    (let k := f.body.getD 0 0 % 8
     fenOwn f.tx 4 { kind := .fenSounding, chan := f.tx, data := [(k : Int), 0] }
       (setNeigh f.tx (fun x => { x with low := upd x.low k fun _ => true }) s))
  else s

/-- FEN_FRAME_RX (R483 to R488): the blocks are counted and answered; a whole frame whose tag and counter hold goes where it
belongs. -/
def execFenFrameRx (t : Nat) (f : FenFrame) (s : State) : Host.Outcome State Fault Refusal :=
  let s := s.at t
  .next (if !fenOn s then s
    else if !(f.bcast || f.next == ownNode s) then countBlank f s
    else
      let s1 := fenAnswer f s
      if failedBlocks f != [] then s1
      else if !f.tagOk then dropAuth true s1
      else if !freshCount s1 f then dropAuth false s1
      else fenAct f (fenNote f s1))

/-! ### Sending frames (R485, R486) -/

/-- The frame of the highest priority that waited longest. -/
def nextFen (l : List FenTx) : Option FenTx := [3, 2, 1, 0].findSome? fun p => l.find? fun f => f.prio == p

/-- The header of a frame, 24 bytes (R487). -/
def fenHead (s : State) (f : FenTx) : List Nat :=
  leBytes 2 (f.dst + 32768 * b2n f.bcast) ++ leBytes 2 f.src ++ leBytes 2 f.next ++ [f.typ + 16 * f.prio, f.hops] ++ leBytes 4 s.fen.fcnt
    ++ leBytes 2 f.body.length ++ leBytes 2 (ownNode s) ++ leBytes 4 s.fen.epoch ++ leBytes 4 0

/-- What is sent of a body: all of it, or the FEC blocks of 512 bytes that failed (R480, R485). -/
def fenPart (f : FenTx) : List Nat :=
  match f.blocks with
  | none => f.body
  | some l => (l.map fun k => (f.body.drop (512 * k)).take 512).flatten

/-- A frame goes on the medium (R485, R487): under the next frame counter, which is never used twice in an epoch; its body before
encryption, and the tag, a free value (log entry 63). -/
def transmitFen (f : FenTx) (s : State) : State :=
  if 2 ^ 32 ≤ s.fen.fcnt then s
  else
    let s1 := setNeigh f.next (fun x => { x with used := upd x.used (mainsSlot s) fun _ => s.now })
      { s with fen.fcnt := s.fen.fcnt + 1, fen.queue := s.fen.queue.erase f }
    let r := drawFree s1
    let s2 := emit r.2 .fenFrame f.next ((fenHead s f ++ fenPart f ++ leBytes 16 r.1).map Int.ofNat)
    let s3 := match f.msg with
      | some m => { s2 with out := s2.out ++ [m] }
      | none => s2
    if f.bcast then { s3 with fen.window := 16 } else { s3 with fen.flight := some f }

/-- The robust map is used where the neighbour has no map for the slot, and sounding is asked for (R482). -/
def askIfNone (f : FenTx) (s : State) : State :=
  if f.bcast || f.typ == 4 then s
  else match neighOf s f.next with
    | some x => if (sendMap x (mainsSlot s)).isNone && !get x.resound (mainsSlot s) then askSounding f.next (mainsSlot s) s else s
    | none => s

/-- FEN_BACKOFF_EXPIRY (R486): the node's backoff ends: a collision doubles its window, else its frame goes out. -/
def execFenBackoffExpiry (t : Nat) (collision : Bool) (s : State) : Host.Outcome State Fault Refusal :=
  let s := s.at t
  .next (if !fenTalks s || s.fen.flight.isSome then s
    else match nextFen s.fen.queue with
      | none => s
      | some f =>
        if collision then { s with fen.window := min 128 (2 * s.fen.window) } else askIfNone f (transmitFen f s))

/-- The neighbour's run of dropped frames. -/
def countDrop (node : Nat) (s : State) : State :=
  chooseRoute (setNeigh node (fun x => { x with drops := x.drops + 1 }) { s with fen.dropped := (s.fen.dropped + 1) % 65536 })

/-- A send failed: the frame waits to be sent again, four times at most, then it is dropped (R485). -/
def sendFailed (f : FenTx) (blocks : Option (List Nat)) (s : State) : State :=
  let s1 := { s with fen.flight := none }
  if 4 ≤ f.fails then countDrop f.next s1
  else { s1 with fen.queue := { f with fails := f.fails + 1, blocks := blocks, msg := none } :: s1.fen.queue }

/-- SACK_RX (R485): the receiver names the failed blocks; none, and the frame is through. -/
def execSackRx (t : Nat) (failed : List Nat) (s : State) : Host.Outcome State Fault Refusal :=
  let s := s.at t
  .next (match s.fen.flight with
    | none => s
    | some f =>
      if failed.isEmpty then setNeigh f.next (fun x => { x with drops := 0 }) { s with fen.flight := none, fen.window := 16 }
      else sendFailed f (some failed) s)

/-- FEN_SACK_TIMEOUT (R485, R493): no acknowledgement: every block is sent again. -/
def execFenSackTimeout (t : Nat) (s : State) : Host.Outcome State Fault Refusal :=
  let s := s.at t
  .next (match s.fen.flight with
    | none => s
    | some f => sendFailed f none s)

/-! ### Registers and commands (R496, R509) -/

/-- FEN_STAT. -/
def fenStatWord (s : State) : Nat :=
  packBits [(0, b2n s.fen.synced), (1, b2n s.fen.zcTimer), (2, s.fen.neigh.length), (16, rdf s (baseFEN + 4) 16 16)]

/-- FEN_SLOTk_STAT, toward the next hop. -/
def fenSlotWord (s : State) (k : Nat) : Nat :=
  match s.fen.next.bind (neighOf s) with
  | none => 0
  | some x => packBits [(0, min 255 (mapRate s (sendMap x k) / 10)), (8, ((get x.errs k).filter id).length), (14, b2n (get x.resound k))]

/-- The FEN registers in rising order. -/
def fenWords (s : State) : List Nat :=
  [rdw s baseFEN, fenStatWord s, packBits [(0, s.fen.next.getD 0), (12, s.fen.hops), (16, s.fen.changes)], s.fen.tripUs,
    packBits [(0, s.fen.blank / 1000 % 65536), (16, s.fen.erased)], packBits [(0, s.fen.dropped), (16, s.fen.auth)]]
    ++ (List.range 8).map (fenSlotWord s)

/-- FEN_STATUS (R509). -/
def execFenStatus (t line seq : Nat) (s : State) : Host.Outcome State Fault Refusal :=
  .next (runCmd line seq 0x1001 neverIllegal (fun c s => doneOut c [] ((fenWords s).map (leBytes 4)).flatten s) (s.at t))

/-- An entry of the link-metric table, 16 bytes (R509). -/
def neighBytes (s : State) (x : Neigh) : List Nat :=
  leBytes 2 x.node ++ leBytes 2 x.up ++ leBytes 2 x.down ++ leBytes 2 x.bler ++ leBytes 4 ((s.now - x.seen) / 1000000) ++ leBytes 4 0

/-- FEN_NEIGH_READ (R509): 64 entries, zeros where there is none. -/
def execFenNeighRead (t line seq : Nat) (s : State) : Host.Outcome State Fault Refusal :=
  .next (runCmd line seq 0x1002 neverIllegal (fun c s =>
    let b := (s.fen.neigh.map (neighBytes s)).flatten
    doneOut c [] (b ++ List.replicate (1024 - b.length) 0) s) (s.at t))

/-- Two carriers' nibbles to a byte, the lower carrier in the low nibble. -/
def nibbles : List Nat → List Nat
  | a :: b :: l => (a % 16 + 16 * (b % 16)) :: nibbles l
  | [a] => [a % 16]
  | [] => []

/-- A slot's map, 1,068 bytes (R509). -/
def mapBytes : Option ToneMap → List Nat
  | none => List.replicate 1068 0
  | some m => nibbles m.loads ++ [m.rate, 1, 0]

/-- FEN_TONEMAP_READ (R509): the 8 maps for sending to a neighbour. -/
def execFenTonemapRead (t line seq : Nat) (s : State) : Host.Outcome State Fault Refusal :=
  .next (runCmd line seq 0x1003 neverIllegal (fun c s =>
    match neighOf s (c.param 8 2) with
    | none => rejectRange c 8 s
    | some x => doneOut c [] (x.tx.toList.map mapBytes).flatten s) (s.at t))

/-- FEN_RESOUND (R496): every slot toward a neighbour is sounded again. -/
def execFenResound (t line seq : Nat) (s : State) : Host.Outcome State Fault Refusal :=
  .next (runCmd line seq 0x1004 neverIllegal (fun c s =>
    let n := c.param 8 2
    if (neighOf s n).isNone then rejectRange c 8 s
    else done c [] ((List.range 8).foldl (fun a k => askSounding n k a) s)) (s.at t))

end Sys2Proof.Machine
end

