-- ==== Sys2Proof/Machine/Place.lean ====
section
/-! DEFINITION. Placement (R167 to R172): candidates, their losses, additions, sheds and releases at the target tick. -/

namespace Sys2Proof.Machine

/-- PLACE_SHORT (R173). -/
def errPlaceShort : ErrSpec := ⟨1, 0xC, 1⟩

/-! ### Losses (R166, R167) -/

/-- Address of group `g`'s map in the bank in use. -/
def mapAddr (s : State) (g : Nat) : Nat := mapBase s.slc.bank + 256 * (g + 1)

/-- The band of an output's voltage (R167). -/
def bandOf (s : State) (n : Nat) : Nat :=
  ((List.range 3).filter fun k => decide (((memRead s.mem (mapBase s.slc.bank + 2 * k) 2 * 1000 : Nat) : Int) ≤ (pout s n).vout)).length

/-- Current point `i` of a group map, mA. -/
def mapPoint (s : State) (g i : Nat) : Nat := memRead s.mem (mapAddr s g + 4 + 2 * i) 2 * 100

/-- Loss per leg at point `i` of a band, 0.25 W units. -/
def mapLoss (s : State) (g band i : Nat) : Nat := memRead s.mem (mapAddr s g + 48 + 32 * band + 2 * i) 2

/-- leg(): the loss of one leg at a current, interpolated between the two points that enclose it (R167). -/
def legLoss (s : State) (g band : Nat) (x : Rat) : Rat :=
  let i := ((List.range 16).filter fun k => decide (((mapPoint s g k : Nat) : Rat) ≤ x)).length - 1
  let a := mapPoint s g i
  let b := mapPoint s g (i + 1)
  let la : Rat := (mapLoss s g band i : Nat)
  let lb : Rat := (mapLoss s g band (i + 1) : Nat)
  if 15 ≤ i || b ≤ a then la else la + (lb - la) * (x - (a : Nat)) / ((b - a : Nat) : Rat)

/-- L_g(I, k) with I = k x (R167). -/
def groupLoss (s : State) (g band k : Nat) (x : Rat) : Rat :=
  if k = 0 then 0 else ((memRead s.mem (mapAddr s g + 36 + 2 * band) 2 : Nat) : Rat) + k * legLoss s g band x

/-! ### Candidates (R168) -/

/-- The available legs of a group. -/
def availLegs (s : State) (g : Nat) : List Nat := (List.range 6).filter fun j => legAvail s (6 * g + j)

/-- The group carries output `n` in its present candidate. -/
def isMine (s : State) (n g : Nat) : Bool := (get s.slc.pg g).output == some n

/-- The group is free and the matrix can connect it to the output. -/
def isFreeFor (s : State) (n g : Nat) : Bool :=
  (get s.slc.pg g).output == none && posUsable s g n && !otherPosition s g n && !get (pgr s g).mtxCmd n
    && trackReady s g && ((get s.slc.pg g).joinTo == none || (get s.slc.pg g).joinTo == some n)

/-- The free group is being paralleled onto the output: until that ends it stays among the output's candidates (R168, R170). -/
def isJoining (s : State) (n g : Nat) : Bool :=
  (get s.slc.pg g).joinTo == some n && (pgr s g).trk == .coinBus && (pgr s g).trkOut == n

/-- The legs a candidate may give group `g` for output `n`. -/
def legRoom (s : State) (n g : Nat) : Nat :=
  if (isMine s n g && (pgr s g).opening.isNone) || isJoining s n g || isFreeFor s n g then (availLegs s g).length else 0

/-- Every choice of leg counts within the room of each group. -/
def allCounts : List Nat → List (List Nat)
  | [] => [[]]
  | r :: rs => ((List.range (r + 1)).map fun k => (allCounts rs).map (k :: ·)).flatten

/-- Legs of a candidate. -/
def candLegs (c : List Nat) : Nat := c.foldl (· + ·) 0

/-- Current per leg of a candidate, mA. -/
def perLeg (i : Nat) (c : List Nat) : Rat := (i : Rat) / ((candLegs c : Nat) : Rat)

/-- The candidate is feasible with its legs held to `pct` % of LEG_IMAX (R168); one without legs is not (log entry 36). -/
def feasible (s : State) (i pct : Nat) (c : List Nat) : Bool :=
  candLegs c != 0 && (List.range 6).all fun g =>
    c.getD g 0 == 0 || decide (perLeg i c * 100 ≤ ((legImax s g * pct : Nat) : Rat))

/-- The cost of a candidate, in whole units of 0.25 W. -/
def candCost (s : State) (n i : Nat) (c : List Nat) : Nat :=
  let band := bandOf s n
  if candLegs c = 0 then 0
  else (roundAway (((List.range 6).map fun g => groupLoss s g band (c.getD g 0) (perLeg i c)).foldl (· + ·) 0)).toNat

/-- Free groups a candidate takes. -/
def freeTaken (s : State) (n : Nat) (c : List Nat) : Nat :=
  ((List.range 6).filter fun g => !isMine s n g && c.getD g 0 != 0).length

/-- At the lowest differing group index the first has more legs. -/
def moreFirst : List Nat → List Nat → Bool
  | x :: xs, y :: ys => if x = y then moreFirst xs ys else decide (y < x)
  | _, _ => false

/-- One candidate is preferred to another (R168). -/
def prefer (s : State) (n i : Nat) (a b : List Nat) : Bool :=
  let x := candCost s n i a
  let y := candCost s n i b
  if x != y then decide (x < y)
  else if freeTaken s n a != freeTaken s n b then decide (freeTaken s n a < freeTaken s n b)
  else if candLegs a != candLegs b then decide (candLegs a < candLegs b)
  else moreFirst a b

/-- The preferred of a list of candidates. -/
def bestOf (s : State) (n i : Nat) : List (List Nat) → Option (List Nat)
  | [] => none
  | c :: cs => match bestOf s n i cs with
    | none => some c
    | some b => if prefer s n i b c then some b else some c

/-- The present candidate C0. -/
def presentCand (s : State) (n : Nat) : List Nat := (List.range 6).map fun g => if isMine s n g then legCount s g else 0

/-- The candidates of an output. -/
def candidates (s : State) (n : Nat) : List (List Nat) := allCounts ((List.range 6).map (legRoom s n))

/-! ### Applying a candidate (R170) -/

/-- Legs of a group in use are raised to `k`: the lowest-numbered available ones are added (log entry 36). -/
def addLegs (g k : Nat) (s : State) : State :=
  let m := (get s.slc.pg g).mask
  let more := ((availLegs s g).filter fun j => !get m j).take (k - legCount s g)
  if more.isEmpty then s
  else markSet g { s with slc.pg := upd s.slc.pg g fun p => { p with mask := updAll p.mask fun j b => b || more.contains j } }

/-- Legs of a group in use are cut to `k`: the highest-numbered leave. -/
def cutLegs (g k : Nat) (s : State) : State :=
  let on := (List.range 6).filter fun j => get (get s.slc.pg g).mask j
  let keep := on.take k
  if on.length ≤ k then s
  else markSet g { s with slc.pg := upd s.slc.pg g fun p => { p with mask := updAll p.mask fun j b => b && keep.contains j } }

/-- A free group is paralleled onto the output on `k` of its legs (R170 step 3); one that joins already takes `k`. -/
def joinGroup (g n k : Nat) (s : State) : State :=
  if isJoining s n g then (if legCount s g == k then s else startLegs g k s)
  else if trackReady s g && trackAllowed s g n .coinBus then
    beginTracking g n k .coinBus { s with slc.pg := upd s.slc.pg g fun p => { p with joinTo := some n } }
  else s

/-- The part of a candidate that adds legs or groups is applied. -/
def applyAdds (n : Nat) (c : List Nat) (s : State) : State :=
  (List.range 6).foldl (fun a g =>
    let k := c.getD g 0
    if isMine s n g then addLegs g k a else if 0 < k then joinGroup g n k a else a) s

/-- LEGS_TARGET of the output's groups shows C*. -/
def showTarget (n : Nat) (c : List Nat) (s : State) : State :=
  { s with slc.pg := updAll s.slc.pg fun g p => if isMine s n g then { p with legsTarget := c.getD g 0 } else p }

/-- The shares of an output's groups follow its legs (R169). -/
def setShares (n : Nat) (s : State) : State :=
  let joins := (outGroups s n).any fun g => (pgr s g).rampShare
  if joins then shareStep n 0 0 s
  else { s with slc.pg := updAll s.slc.pg fun g p =>
                  if isMine s n g && (pgr s g).opening.isNone then { p with share := placeShare s n g } else p }

/-- A shed starts, goes on with its target, or restarts its window with a new one (R170, R171); counts are those the groups
are to keep. -/
def wantShed (n i : Nat) (c : List Nat) (s : State) : State :=
  let keep := match (sop s n).shed with
    | some (_, _, d) => d == c
    | none => false
  if keep then s
  else { s with slc.op := upd s.slc.op n fun o => { o with shed := some (s.now, i, c) } }

/-- No shed is wanted any more. -/
def dropShed (n : Nat) (s : State) : State := { s with slc.op := upd s.slc.op n fun o => { o with shed := none } }

/-- PLACE_SHORT is raised, once while it stands (R170 step 1). -/
def raiseShort (n : Nat) (s : State) : State :=
  if (sop s n).short then s
  else raiseError errPlaceShort n (fireEvent 75 { s with slc.op := upd s.slc.op n fun o => { o with short := true } })

/-- PLACE_SHORT stands no longer. -/
def endShort (n : Nat) (s : State) : State :=
  if (sop s n).short then errCleared 1 0xC n { s with slc.op := upd s.slc.op n fun o => { o with short := false } } else s

/-- Step 1 of R170: the present candidate is not feasible. -/
def placeShort (n i : Nat) (s : State) : State :=
  let c0 := presentCand s n
  let adds := (candidates s n).filter fun c => feasible s i 100 c && (List.range 6).all fun g => c0.getD g 0 ≤ c.getD g 0
  match bestOf s n i adds with
  | some c => showTarget n c (applyAdds n c (endShort n (dropShed n s)))
  | none => raiseShort n (dropShed n s)

/-- Step 2 of R170: a candidate that saves enough. -/
def placeBetter (n i : Nat) (s : State) : State :=
  let c0 := presentCand s n
  let s0 := endShort n s
  match bestOf s n i ((candidates s n).filter (feasible s i 100)) with
  | none => s0
  | some c =>
    let x := candCost s n i c0
    let y := candCost s n i c
    let hyst := memRead s.mem (mapBase s.slc.bank + 6) 1
    if c != c0 && decide (x * hyst < (x - y) * 100) then
      let s1 := showTarget n c (applyAdds n c s0)
      let fewer := (List.range 6).any fun g => c.getD g 0 < c0.getD g 0
      if fewer && feasible s i (memRead s.mem (mapBase s.slc.bank + 8) 1) c && !(sop s1 n).holdoff then wantShed n i c s1
      else dropShed n s1
    else dropShed n (showTarget n c0 s0)

/-- Placement of one energised output (R168 to R170). -/
def placeOut (n : Nat) (s : State) : State :=
  if !energised s n then s
  else
    let i := (sop s n).itgt
    let s1 := if feasible s i 100 (presentCand s n) then placeBetter n i s else placeShort n i s
    let s2 := { s1 with slc.op := upd s1.slc.op n fun o =>
                          { o with band := bandOf s1 n, loss := candCost s1 n i (presentCand s1 n) } }
    setShares n s2

/-- TARGET_TICK (R16, R169): the targets are recomputed, then the outputs are placed in order. -/
def execTargetTick (t : Nat) (s : State) : Host.Outcome State Fault Refusal :=
  .next ((List.range 4).foldl (fun a n => placeOut n a) (recomputeAll (resplit (takeNeutral [0x13] (s.at t)))))

/-! ### Sheds and releases (R171, R172) -/

/-- The shed legs stop at the next period boundary of their group. -/
def commitShed (n : Nat) (c : List Nat) (s : State) : State :=
  let s1 := (List.range 6).foldl (fun a g => if isMine s n g then cutLegs g (c.getD g 0) a else a) s
  setShares n (fireEvent 76 { s1 with slc.op := upd s1.slc.op n (fun o => { o with shed := none }),
                                        slc.commits := (s1.slc.commits + 1) % 65536 })

/-- SHED_COMMIT (R171): the first tick at or after 2 ms from the shed's start; an abort due at it comes first. -/
def execShedCommit (t op : Nat) (s : State) : Host.Outcome State Fault Refusal :=
  let s := recompute op (s.at t)
  .next (match (sop s op).shed with
  | some (start, _, c) => if start + 2000000 ≤ s.now then commitShed op c s else s
  | none => s)

/-- SHED_HOLDOFF_EXPIRY (R171). -/
def execShedHoldoffExpiry (t op : Nat) (s : State) : Host.Outcome State Fault Refusal :=
  let s := s.at t
  .next { s with slc.op := upd s.slc.op op fun o => { o with holdoff := false } }

/-- GROUP_RELEASE (R172): a connected group without active legs; its matrix contactor opens at zero current, and with its
readback the group is free (log entry 37). -/
def execGroupRelease (t pg : Nat) (s : State) : Host.Outcome State Fault Refusal :=
  let s := s.at t
  .next (match (get s.slc.pg pg).output with
  | some n => if legCount s pg = 0 && groupLegsOffNow s pg && (pgr s pg).opening.isNone then startOpening (.mtx pg n) s else s
  | none => s)

/-! ### Registers and the command -/

/-- SLC_OPn_PLACE. -/
def opPlaceWord (s : State) (n : Nat) : Nat :=
  let o := sop s n
  packBits [(0, maskOf ((List.range 6).map fun g => isMine s n g)), (6, o.band), (8, b2n o.shed.isSome), (9, b2n o.holdoff),
    (10, b2n o.short)]

/-- SLC_PGn_STAT. -/
def slcPgWord (s : State) (g : Nat) : Nat :=
  let p := get s.slc.pg g
  packBits [(0, legCount s g), (3, p.legsTarget), (8, p.output.getD 7), (11, b2n (groupExcluded s g)), (12, maskOf p.mask.toList)]

/-- SLC_PLACE_READ (R175, R506). -/
def execSlcPlaceRead (t line seq : Nat) (s : State) : Host.Outcome State Fault Refusal :=
  .next (runCmd line seq 0x0404 neverIllegal (fun c s =>
    doneOut c [] (wordBytes (((List.range 4).map fun n => [opPlaceWord s n, (sop s n).loss % 2 ^ 24, (sop s n).itgt]).flatten
      ++ ((List.range 6).map fun g => [slcPgWord s g, (get s.slc.pg g).share]).flatten)) s) (s.at t))

end Sys2Proof.Machine
end

