-- ==== Sys2Proof/Machine/SysCmd.lean ====
section
/-! DEFINITION. The SYS commands and ROM recovery (R502 to R504). -/

namespace Sys2Proof.Machine

/-- SYS_IDENTIFY (R502). -/
def execSysIdentify (t line seq : Nat) (s : State) : Host.Outcome State Fault Refusal :=
  .next (runCmd line seq 0x0101 neverIllegal (fun c s =>
    done c (leBytes 16 s.sys.ident.deviceId ++ [b2n s.sys.ident.gradeL, lifeCycle s, s.sys.mode.num, s.sys.boot.slot]
      ++ leBytes 4 (bootedVersion s) ++ leBytes 4 (if s.cfg.loaded then s.cfg.version else 0)) s) (s.at t))

/-! ### SYS_MODE_SET (R42, R44, R419) -/

/-- The transitions of R42 that SYS_MODE_SET may ask for. -/
def modeEdge (frm target : Nat) : Bool :=
  match frm, target with
  | 3, 4 | 3, 9 | 3, 10 | 4, 3 | 8, 4 | 8, 3 | 9, 3 => true
  | 4, 8 | 5, 8 | 6, 8 | 7, 8 | 9, 8 => true
  | _, _ => false

/-- The modes a life-cycle state allows (R419). -/
def lcAllows (lc target : Nat) : Bool :=
  match lc with
  | 0 | 1 => target ≤ 4 || 8 ≤ target
  | 2 => target != 10
  | 3 => true
  | 4 => target ≤ 3 || target == 10 || target == 11
  | _ => target ≤ 2

/-- A transition of R42 whose condition fails (R42, R44, R410, R419). -/
def modeSetIllegal (c : Cmd) (s : State) : Bool :=
  let frm := s.sys.mode.num
  let target := c.param 8 1
  modeEdge frm target &&
    (!lcAllows (lifeCycle s) target || (frm == 3 && target == 4 && !readyAllowed s) || (frm == 8 && target == 4 && m8Holds s)
      || (target == 9 && !(hasRights c s && s.lgl.sealOpen)) || (target == 10 && !s.sys.testEn))

/-- What a member does before it leaves the run for M3, M9 or M10 by command: Sluice and the partner are told, and its
claim stops (R138, R454, R459). -/
def quit (m : Mode) (s : State) : State := stopClaim (sendLeave m (leaveSluice s))

/-- The legal pair writes SEAL_OPEN at the entry to M9 (R372). -/
def sealNoted (s : State) : State := if pairRuns s then settleLgl (lglEvent 4 [9] s) else s

/-- The transition asked for, or, between M3 and M4, its start (R42, R501). -/
def modeSet (c : Cmd) (s : State) : State :=
  match s.sys.mode.num, c.param 8 1 with
  | 3, 4 => accept c [] { s with cfg.modeJob := some (c.line, c.seq, 4), slc.joining := !s.slc.joined || s.slc.joining }
  | 4, 3 => accept c [] { s with cfg.modeJob := some (c.line, c.seq, 3) }
  | 8, 4 => done c [0] (setMode .m4 (clearCause .command s))
  | 3, 9 => done c [0] (sealNoted (setMode .m9 (quit .m9 s)))
  | 3, 10 => done c [0] (setMode .m10 (quit .m10 s))
  | _, 8 => done c [0] (setCause .command s)
  | _, _ => done c [0] (toM3 (quit .m3 (clearCause .command s)))

/-- SYS_MODE_SET (R42, R44, R502): a transition that R42 does not give completes IGNORED_MODE. -/
def execSysModeSet (t line seq : Nat) (s : State) : Host.Outcome State Fault Refusal :=
  .next (runCmd line seq 0x0102 modeSetIllegal (fun c s =>
    if modeEdge s.sys.mode.num (c.param 8 1) then modeSet c s
    else finish c { status := stMode, detail := s.sys.mode.num } s) (s.at t))

/-- SYS_RESET (R45, R501): ACCEPTED, then a software reset, after which the command is answered DISCARDED_RESET. -/
def execSysReset (t line seq : Nat) (s : State) : Host.Outcome State Fault Refusal :=
  .next (runCmd line seq 0x0103 neverIllegal (fun c s => let s1 := accept c [] s
                                                         resetControl .software (coldNow s1) s1) (s.at t))

/-! ### Errors and counters -/

/-- Records leave the queue (R67, R44): what they held of SAFE_ERROR is read, and OVF clears with its cause. -/
def freeRecords (n : Nat) (s : State) : State :=
  let seqs := (s.sys.errq.take n).map (·.seq)
  let s1 := { s with
                sys := { s.sys with
                           errq := s.sys.errq.drop n,
                           safe := s.sys.safe.map fun (x : SafeItem) =>
                           if x.seq.any fun q => seqs.contains q then { x with isRead := true } else x } }
  sweepLsw (evalSafe (if 0 < n then clearCause .errqOvf { s1 with sys.ovf := false } else s1))

/-- SYS_ERRQ_READ (R67, R502): the records that the reference takes whole are freed; OVF_CNT is returned and cleared. -/
def execSysErrqRead (t line seq : Nat) (s : State) : Host.Outcome State Fault Refusal :=
  .next (runCmd line seq 0x0104 neverIllegal (fun c s =>
    let mx := c.param 8 1
    if mx < 1 || 32 < mx then rejectRange c 8 s
    else
      let l := s.sys.errq.take mx
      let bytes := (l.map fun r => errRecBytes (some r)).flatten
      let freed := min l.length ((respPart c (some bytes)).length / 16)
      let s1 := freeRecords freed s
      doneOut c [l.length, s.sys.ovfCnt] bytes { s1 with sys.ovfCnt := 0 }) (s.at t))

/-- SYS_COUNTERS (R30, R31, R38, R502). -/
def execSysCounters (t line seq : Nat) (s : State) : Host.Outcome State Fault Refusal :=
  .next (runCmd line seq 0x0107 neverIllegal (fun c s =>
    doneOut c [] (leBytes 4 s.sys.accessCnt ++ leBytes 4 s.sys.firewallCnt ++ leBytes 4 s.sys.eccCnt) s) (s.at t))

/-! ### Firmware (R503) -/

/-- Address of a firmware slot in the xSPI0 window: A from offset 0, B from 32 MB (R510, log entry 9). -/
def fwAddr (k : Nat) : Nat := 0x80000000 + 0x2000000 * k

/-- A chunk is written into a slot, which is INVALID from its first chunk on. What an earlier check found no longer holds
of bytes written since (R1): until a new check the slot counts as failing its hash. -/
def writeFw (k ofs : Nat) (data : List Nat) (s : State) : State :=
  let s1 := setFw k (fun x => if ofs = 0 then {} else { x with fault := if x.fault == 0 then 3 else x.fault }) s
  { s1 with mem := memWriteBytes s1.mem (fwAddr k + ofs) data }

/-- A program or erase that fails its read-back three times (R34): the command ends with DISCARDED_FAULT, and the slot stands
as it was. -/
def fwWriteFails (c : Cmd) (s : State) : State := finish c { status := stFault } (xsp0WriteFail s)

/-- SYS_FW_STAGE (R34, R503): a chunk at the offset written so far, into the slot not booted; LAST is ACCEPTED and starts the
check. A LAST chunk given again after a discard repeats the check (R501). `ok` is the read-back of the chunk. -/
def execSysFwStage (t line seq : Nat) (ok : Bool) (s : State) : Host.Outcome State Fault Refusal :=
  .next (runCmd line seq 0x0105 neverIllegal (fun c s =>
    let ofs := c.param 8 4
    let total := c.param 12 4
    let last := c.param 16 1 == 1
    let n := c.data.length
    let k := 1 - s.sys.boot.slot
    if n = 0 then rejectFormat c 60 s
    else if total = 0 || 33554432 < total || total < ofs + n then rejectRange c 12 s
    else if ofs != s.sys.fwStaged && !(last && ofs + n == s.sys.fwStaged) then rejectRange c 8 s
    else if !ok then fwWriteFails c s
    else
      let s1 := { writeFw k ofs c.data s with sys.fwStaged := ofs + n }
      if last then accept c [k] { s1 with sys.fwVerify := some k } else done c [0, 0, 0, 0, k] s1) (s.at t))

/-- The running command of an opcode past its ACCEPTED completion. -/
def runningCmd (s : State) (op : Nat) : Option Cmd := s.mbx.cmds.find? fun c => c.opcode == op && c.accepted

/-- The status that a finding of valid() gives SYS_FW_STAGE and ROM_BOOT (R503, R504). -/
def fwStatus : Nat → Nat
  | 2 => stRange
  | 4 => stAuth
  | _ => stFormat

/-- FW_VERIFY_DONE (R503, R366): the check of a staged slot ends with `fault` (0, or as FAIL_REASON), the slot's version and
the SHA-256 of its legal image. Outside M9 a new check value is refused. A good slot's header is then written. -/
def execFwVerifyDone (t fault version legalSha : Nat) (s : State) : Host.Outcome State Fault Refusal :=
  let s := s.at t
  .next (match s.sys.fwVerify with
  | none => s
  | some k =>
    let f := if fault == 0 && version < s.sys.ident.fwMinVer then 2 else fault
    match runningCmd s 0x0105 with
    | none => { s with sys.fwVerify := none }
    | some c =>
      let s1 := slotReadErr f
        { setFw k (fun _ => { version := version, fault := f, legalSha := legalSha }) s with sys.fwVerify := none }
      if f != 0 then finish c { status := fwStatus f, detail := 52, result := [0, 0, 0, 0, k] } { s1 with sys.fwStaged := 0 }
      else if legalSha % 2 ^ 64 != s.lgl.check && s.sys.mode != .m9 then
        finish c { status := stLocked, result := [0, 0, 0, 0, k] }
          { setFw k (fun x => { x with fault := 1 }) s1 with sys.fwStaged := 0 }
      else { s1 with cfg.write := some (.fwHeader k .fallback c.line c.seq), sys.fwStaged := 0 })

/-- SYS_FW_PREFER of a slot that is not valid (R503). -/
def preferIllegal (c : Cmd) (s : State) : Bool := c.param 8 1 < 2 && fwFault s (c.param 8 1) != 0

/-- SYS_FW_PREFER (R503): both headers are written; the command completes when they are. -/
def execSysFwPrefer (t line seq : Nat) (s : State) : Host.Outcome State Fault Refusal :=
  .next (runCmd line seq 0x0106 preferIllegal (fun c s =>
    if 2 ≤ c.param 8 1 then rejectRange c 8 s
    else if s.cfg.write.isSome then s
    else { s with cfg.write := some (.fwHeader (c.param 8 1) .preferred c.line c.seq) }) (s.at t))

/-! ### ROM recovery (R504) -/

/-- The recovery commands are refused without SYS_BOOT.FAIL, off the SPI port's v1 instance, and in END (R419, R504). -/
def romIllegal (c : Cmd) (s : State) : Bool := !s.sys.boot.fail || c.line != 17 || lifeCycle s == 5

/-- SYS_BOOT as a word. -/
def bootWord (s : State) : Nat :=
  let b := s.sys.boot
  packBits [(0, b.slot), (1, b2n b.fallback), (2, min 3 b.attempts), (4, b2n b.fail), (5, min 3 b.fbAttempts), (8, b.failReason)]

/-- A slot's state as ROM_STATUS gives it: 0 INVALID, 1 FALLBACK, 2 PREFERRED (log entry 9). -/
def fwStateNum : FwState → Nat
  | .invalid => 0
  | .fallback => 1
  | .preferred => 2

/-- ROM_STATUS (R504). -/
def execRomStatus (t line seq : Nat) (s : State) : Host.Outcome State Fault Refusal :=
  .next (runCmd line seq 0x01F0 romIllegal (fun c s =>
    done c (leBytes 4 (bootWord s) ++ [fwStateNum s.sys.fwA.st, fwStateNum s.sys.fwB.st]) s) (s.at t))

/-- ROM_LOAD (R34, R504): OFFSET 0 erases the slot first; `ok` is the read-back of the write. -/
def execRomLoad (t line seq : Nat) (ok : Bool) (s : State) : Host.Outcome State Fault Refusal :=
  .next (runCmd line seq 0x01F1 romIllegal (fun c s =>
    let k := c.param 8 1
    let ofs := c.param 12 4
    if 2 ≤ k then rejectRange c 8 s
    else if c.data.isEmpty then rejectFormat c 60 s
    else if 33554432 < ofs + c.data.length then rejectRange c 12 s
    else if !ok then fwWriteFails c s
    else
      let s1 := if ofs = 0 then
          { s with mem := s.mem.filter fun x => !(fwAddr k ≤ x.1 && x.1 < fwAddr k + 33554432) } else s
      done c [] (writeFw k ofs c.data s1)) (s.at t))

/-- ROM_BOOT (R504, R62): the slot passes the checks of R59 and is started after its completion, or the device stays in M2.
`fault`, `version` and `legalSha` are what the check of the slot finds. -/
def execRomBoot (t line seq fault version legalSha : Nat) (s : State) : Host.Outcome State Fault Refusal :=
  .next (runCmd line seq 0x01F2 romIllegal (fun c s =>
    let k := c.param 8 1
    if 2 ≤ k then rejectRange c 8 s
    else
      let f := if fault == 0 && version < s.sys.ident.fwMinVer then 2 else fault
      let s1 := slotReadErr f (setFw k (fun x => { st := if f == 0 && x.st == .invalid then .fallback else x.st,
                                                    version := version, fault := f, legalSha := legalSha }) s)
      if f == 0 then startSlot k (done c [0] s1)
      else finish c { status := fwStatus f, detail := 8, result := [f] } (bootFails f s1)) (s.at t))

end Sys2Proof.Machine
end

