-- ==== Sys2Proof/Machine/Reg.lean ====
section
/-! DEFINITION. The register map (R7 to R10, R35 to R38): what every register and memory word reads as, who may read and
write it, and the writes that act by their access code. A register's address is its block's base and the offset its
chapter gives. -/

namespace Sys2Proof.Machine

/-! ### The blocks' registers, by offset in the block's window -/

/-- Entry `i` of a list of words; 0 beyond it. -/
def wordAt (l : List Nat) (i : Nat) : Nat := l.getD i 0

/-- The low and high words of a 64-bit register. -/
def words64 (v : Nat) : List Nat := [v % 2 ^ 32, v / 2 ^ 32 % 2 ^ 32]

/-- SYS_MODE. -/
def modeWord (s : State) : Nat :=
  let has := fun l => b2n (s.sys.lims.contains l)
  packBits [(0, s.sys.mode.num), (4, s.sys.prevMode.num), (8, has .thermal), (9, has .feedback), (10, has .link), (11, has .lease),
    (12, has .loop), (13, has .supply), (16, b2n s.lgl.ready), (17, b2n s.slc.joined), (18, b2n s.sys.powerWarn)]

/-- SYS_ERRQ_STAT. -/
def errqStatWord (s : State) : Nat :=
  packBits [(0, s.sys.errq.length), (6, b2n s.sys.ovf), (8, s.sys.ovfCnt), (16, (s.sys.handling.map (·.eff)).getD 0),
    (20, (s.sys.handling.map (·.subsys)).getD 0)]

/-- SYS_M8_CAUSE. -/
def m8Word (s : State) : Nat :=
  let c := s.sys.m8
  packBits [(0, b2n c.command), (1, b2n c.safeError), (2, b2n c.powerWarn), (3, b2n c.legalLost), (4, b2n c.errqOvf)]

/-- SYS (02). The identity registers are the 16 bytes of the device ID at offset 0 and the grade in bit 0 of offset 0x1C, 1 for
L (R4; PRESUMED, log entry 8). -/
def sysRead (s : State) (o : Nat) : Nat :=
  if o < 16 then s.sys.ident.deviceId / 2 ^ (8 * o) % 2 ^ 32
  else if o = 0x10 then modeWord s
  else if o = 0x14 then rstCauseWord s
  else if o = 0x18 then bootWord s
  else if o = 0x1C then b2n s.sys.ident.gradeL
  else if o = 0x20 then errqStatWord s
  else if o = 0x24 then m8Word s
  else 0

/-- EVG_WAKE_LATCH1. -/
def wakeWord1 (s : State) : Nat :=
  maskOf (((List.range 16).map fun n => (get s.evg.src n).latch) ++ (List.range 6).map fun n => (get s.evg.src (26 + n)).latch)

/-- EVG_SRCn_CFG: TARGET, ENABLE, DELIV and VEC of sources 32 to 47 mirror MBX_Qn_IRQ, KIND is the source's own (R113), and a
reserved source's reads 0 (R104). -/
def srcCfgWord (s : State) (n : Nat) : Nat :=
  if reservedSrc n then 0
  else
    let w := setBits (setBits (setBits (rdw s (srcCfgAddr n)) 4 3 (srcTarget s n)) 7 1 (b2n (srcEnable s n))) 8 1 (b2n (srcLevel s n))
    if isCqSrc n then setBits (setBits w 9 1 (b2n (srcLine s n))) 10 4 (if srcLine s n then srcVector s n % 2 else srcVector s n % 16)
    else w

/-- A word of the MSI-X table: the mask of a vector's control word, else as written (R106). -/
def msixWord (s : State) (o : Nat) : Nat :=
  if o % 16 = 12 then b2n (get s.evg.vecMask ((o - 0x1800) / 16)) else rdw s (baseEVG + o)

/-- The pending-bit array: a message is due, masked, and its vector still has an eligible source (R106). -/
def pbaWord (s : State) : Nat := maskOf ((List.range 32).map fun v => get s.evg.pba v && vectorHigh s v)

/-- EVG (04), with the MSI-X table at 0x1800 and its pending-bit array at 0x1A00. -/
def evgRead (s : State) (o : Nat) : Nat :=
  if o = 0 then rdw s baseEVG
  else if o = 4 then evgStatWord s
  else if o < 0x100 then 0
  else if o < 0x1C0 then srcMask s (o / 4 % 16) (·.pending)
  else if o < 0x200 then srcMask s (o / 4 % 16) (·.active)
  else if o < 0x240 then srcMask s (o / 4 % 16) (·.stormed)
  else if o = 0x240 then srcMask s 15 (·.latch)
  else if o = 0x244 then wakeWord1 s
  else if o < 0x400 then 0
  else if o < 0xC00 then srcCfgWord s ((o - 0x400) / 4)
  else if o < 0xC80 then setBits (rdw s (baseEVG + o)) 16 1 (b2n (dinState s ((o - 0xC00) / 4)))
  else if o < 0x1000 then 0
  else if o < 0x1800 then
    (let t := (o - 0x1000) / 0x100
     let r := o % 0x100
     if r = 8 then tgtStatWord s t
     else if 0x40 ≤ r && r < 0x80 then maskOf ((List.range 32).map fun b => eligible s t (8 * (r - 0x40) + b))
     else 0)
  else if o < 0x1A00 then msixWord s o
  else if o = 0x1A00 then pbaWord s
  else 0

/-- The registers of pair `n` (03). -/
def pairWord (s : State) (n r : Nat) : Nat :=
  let p := get s.mbx.pairs n
  if r = 0 then packBits [(0, p.depth), (16, p.port), (19, p.quanta), (31, b2n p.enable)]
  else if r = 4 then packBits [(0, b2n p.active), (1, b2n p.cfgErr), (4, p.errCode), (8, p.firstQuantum), (12, p.quantaHeld)]
  else if r = 8 then p.sqTail
  else if r = 12 then packBits [(0, p.sqHead), (16, sqCredits p)]
  else if r = 16 then p.cqTail
  else if r = 20 then p.cqHead
  else if r = 24 then packBits [(0, p.irqCount), (8, p.irqTimer), (20, p.irqVector), (25, b2n p.irqTarget), (31, b2n p.irqEnable)]
  else if r = 28 then (s.mbx.cmds.filter fun c => c.line == n).length
  else 0

/-- MBX (03); the v1 instance shown is the PCIe port's. -/
def mbxRead (s : State) (o : Nat) : Nat :=
  let m := s.mbx
  if o = 0 then packBits [(0, 16), (8, 64), (16, 16)]
  else if o = 4 then maskOf m.stageFree.toList
  else if o = 8 then packBits [(0, b2n m.v1p.sleep), (16, b2n (hostWake s))]
  else if o = 12 then packBits [(0, b2n m.sqOverrun), (1, b2n m.cqHeadBad), (2, b2n m.dbForeign), (3, b2n m.cfgBad),
    (4, b2n m.frameAuth), (8, m.errPair)]
  else if o = 16 then packBits [(0, m.ignIllegal), (16, m.ignNotOwner)]
  else if o = 20 then m.ignMode
  else if o = 24 then m.dropCnt
  else if 0x100 ≤ o && o < 0x500 then pairWord s ((o - 0x100) / 0x40) (o % 0x40)
  else v1RegRead 16 o s

/-- OWN (03). -/
def ownRead (s : State) (o : Nat) : Nat :=
  if o = 0 then ownStateWord s else if o = 4 then ownPrioWord s
  else if o = 12 then (if s.cfg.loaded then rdf s (baseOWN + 12) 0 16 else 2000) else 0

/-- SLC (06). -/
def slcRead (s : State) (o : Nat) : Nat :=
  if o < 0x48 then
    wordAt [slcStatWord s, s.slc.round, param s pT_RND 10 * 1000, nd s nGRANT, effectiveGrant s, nd s nLEASEEND, s.slc.demandSent,
      s.slc.float, floatDrawnAll s, 0, 0, 0, s.slc.aRoot, s.slc.eUsed % 2 ^ 32, s.slc.eUsed / 2 ^ 32 % 2 ^ 16, unsigned 32 s.slc.dgU,
      packBits [(0, s.slc.commits), (16, s.slc.aborts)], s.slc.drop] (o / 4)
  else if 0x100 ≤ o && o < 0x140 then
    wordAt [opPlaceWord s ((o - 0x100) / 16), (sop s ((o - 0x100) / 16)).loss % 2 ^ 24, (sop s ((o - 0x100) / 16)).itgt] (o / 4 % 4)
  else if 0x200 ≤ o && o < 0x260 then
    wordAt [slcPgWord s ((o - 0x200) / 16), (get s.slc.pg ((o - 0x200) / 16)).share] (o / 4 % 4)
  else 0

/-- The registers of group `g` (07). -/
def pgRead (s : State) (g r : Nat) : Nat :=
  let p := pgr s g
  if r < 12 then rdw s (pgAddr g + r)
  else if r = 12 then unsigned 32 p.u
  else if r = 16 then packBits [(0, p.dG), (31, b2n p.ffSat)]
  else if r = 20 then pgStatWord s g
  else if r = 24 then pgMtxWord s g
  else 0

/-- The registers of leg `k` (07). -/
def legRead (s : State) (k r : Nat) : Nat :=
  let l := legOf s k
  if r < 12 then rdw s (legAddr k + r)
  else if r = 12 then packBits [(0, unsigned 16 l.trimReq), (16, unsigned 16 l.trimApplied)]
  else if r = 16 then l.cmp
  else if r = 20 then legStatWord s k
  else 0

/-- PWM_PGn_TRK (08). -/
def trkWord (s : State) (g : Nat) : Nat :=
  let p := pgr s g
  packBits [(0, p.trk.num), (2, p.trkOut), (4, b2n p.inTol), (5, b2n p.closeCmd), (6, b2n p.trkDone), (7, b2n p.trkFail),
    (16, unsigned 16 p.diff)]

/-- The registers of output `n` at their base (08). -/
def opRead (s : State) (n r : Nat) : Nat :=
  let o := pout s n
  if r = 4 then unsigned 16 (o.iref / 100)
  else if r = 8 then packBits [(0, o.vlim / 1000), (16, o.vov / 1000)]
  else if r = 0x18 then rdw s (opAddr n + r) + o.vrref
  else if r = 0x1C then opProtWord s n
  else rdw s (opAddr n + r)

/-- PWM (07, 08). -/
def pwmRead (s : State) (o : Nat) : Nat :=
  let md := s.pwm.mdat.toList
  if o = 0 then packBits [(0, b2n s.pwm.mclkRun), (1, b2n s.keeper.gateEn), (2, b2n s.pwm.gateReq),
    (8, maskOf ((List.range 6).map fun g => rdb s (pgAddr g) 31))]
  else if 0x100 ≤ o && o < 0x400 then
    (let n := (o - 0x100) / 16
     if o % 16 = 12 then unsigned 32 (get s.pwm.mdat n).val
     else if o % 16 = 0 then setBits (rdw s (basePWM + o)) 1 1 (b2n (decide (36 ≤ n)))
     else rdw s (basePWM + o))
  else if 0x400 ≤ o && o < 0x580 then pgRead s ((o - 0x400) / 0x40) (o % 0x40)
  else if 0x800 ≤ o && o < 0xC80 then legRead s ((o - 0x800) / 0x20) (o % 0x20)
  else if 0xD00 ≤ o && o < 0xD10 then opCtrWord s ((o - 0xD00) / 4)
  else if o = 0xD40 || o = 0xE00 || o = 0xE04 || o = 0x1100 then rdw s (basePWM + o)
  else if 0xF00 ≤ o && o < 0xF80 then opRead s ((o - 0xF00) / 0x20) (o % 0x20)
  else if 0x1000 ≤ o && o < 0x1060 then (if o % 16 = 0 then trkWord s ((o - 0x1000) / 16) else 0)
  else if o = 0x1104 then maskOf ((md.take 32).map (·.lost))
  else if o = 0x1108 then maskOf ((md.drop 32).map (·.lost)) + 2 ^ 16 * maskOf s.pwm.mclkLost.toList
  else if o = 0x110C then maskOf ((md.take 32).map (·.frozen))
  else if o = 0x1110 then maskOf ((md.drop 32).map (·.frozen))
  else 0

/-- LPE (09). -/
def lpeRead (s : State) (o : Nat) : Nat :=
  let l := s.lpe
  let ovr := l.slot.toList.map (·.ovr)
  if o = 0 then packBits [(0, l.bank), (1, b2n l.swapPending), (2, b2n l.standby), (3, b2n l.forced)]
  else if o = 8 then packBits [(0, l.satCnt), (16, l.wrBlock)]
  else if 0x10 ≤ o && o < 0x20 then packBits [(0, densityWord s (o / 4 - 4) % 65536), (16, get l.ovrCnt (o / 4 - 4))]
  else if o = 0x20 then maskOf (ovr.take 32)
  else if o = 0x24 then maskOf (ovr.drop 32)
  else if 0x100 ≤ o && o < 0x300 then
    (if o % 8 = 0 then slotStatWord s ((o - 0x100) / 8) else unsigned 32 (slotOf s ((o - 0x100) / 8)).out)
  else 0

/-- CBL (10). -/
def cblRead (s : State) (o : Nat) : Nat :=
  if o = 0 || o = 4 then rdw s (baseCBL + o)
  else if 0x100 ≤ o && o < 0x180 then
    (let n := (o - 0x100) / 0x20
     wordAt [rdw s (baseCBL + 0x100 + 0x20 * n), cblStatWord s n, cblCapWord s n, cblTempWord s n, cblPredWord s n] (o % 0x20 / 4))
  else if 0x400 ≤ o && o < 0x480 then
    (if o % 8 = 0 then rdw s (baseCBL + o) else get s.cbl.cool ((o - 0x400) / 8))
  else 0

/-- LSW and MXP (11). -/
def lswRead (s : State) (o : Nat) : Nat :=
  if o = 0 then lswBankWord s
  else if 0x100 ≤ o && o < 0x300 then
    (let n := (o - 0x100) / 16
     if o % 16 = 8 then lswStatWord s n else if o % 16 = 12 then lswMeasWord s n else rdw s (baseLSW + o))
  else if 0x400 ≤ o && o < 0x440 then
    (if o % 8 = 0 then rdw s (baseLSW + o) else get s.lsw.duty ((o - 0x400) / 8))
  else if 0x800 ≤ o && o < 0x820 then
    wordAt [mxpCtrlWord s, half64 s.lsw.mOn 0, half64 s.lsw.mOn 1, half64 s.lsw.mCoil 0, half64 s.lsw.mCoil 1, half64 s.lsw.mAux 0,
      half64 s.lsw.mAux 1, mxpErrWord s] ((o - 0x800) / 4)
  else 0

/-- VCL (12). -/
def vclRead (s : State) (o : Nat) : Nat :=
  if o = 0 then vclCtrlWord s
  else if 0x100 ≤ o && o < 0x200 then wordAt (vclWords s ((o - 0x100) / 0x40)) (o % 0x40 / 4)
  else 0

/-- CAN controller `c` (13): its registers and its message objects. -/
def canRead (s : State) (c o : Nat) : Nat :=
  let objs := fun (k : Nat) (f : Nat → Bool) => maskOf ((List.range 32).map fun b => f (32 * k + b))
  if o = 0 then rdw s (canBase c) % 64 + 64 * b2n (canc s c).recovering
  else if o = 4 || o = 8 then rdw s (canBase c + o)
  else if o = 12 then canStatWord s c
  else if o = 16 then canEcntWord s c
  else if o = 20 then canCntWord s c
  else if o = 24 then canDropWord s c
  else if 0x20 ≤ o && o < 0x30 then objs (o / 4 % 4) fun m => isSend s c m && objBit s c m 0
  else if 0x30 ≤ o && o < 0x40 then objs (o / 4 % 4) fun m => (canc s c).cancels.contains m
  else if 0x40 ≤ o && o < 0x50 then objs (o / 4 % 4) fun m => isRecv s c m && objBit s c m 0
  else if 0x1000 ≤ o && o < 0x4000 then rdw s (canBase c + o)
  else 0

/-- MTR_SAVE. -/
def mtrSaveWord (s : State) : Nat :=
  packBits [(0, rdf s (baseMTR + 0x18) 0 10), (16, min 65535 ((devTime s - s.mtr.saveAt) / 1000000))]

/-- MTR_TPk_CFG, with what MTR_TP_SET gives (R359). -/
def tpWord (s : State) (k : Nat) : Nat :=
  let p := get s.mtr.tp k
  let w := rdw s (baseMTR + 0x400 + 4 * k)
  let x := match p.srcSet with
    | some (src, c) => setBits (setBits w 17 3 src) 0 17 c
    | none => w
  setBits x 21 1 (b2n p.ovf)

/-- A wide register (R354): what a read outside the window gives is decided by the access. -/
def wideWord (s : State) (o : Nat) : Nat := get s.mtr.snap ((o - 0x2000) / 16) / 2 ^ (8 * (o % 16)) % 2 ^ 32

/-- The wide registers' offsets. -/
def isWide (o : Nat) : Bool := 0x2000 ≤ o && o < 0x2280

/-- The registers of AC set `k` (14). -/
def acRead (s : State) (k r : Nat) : Nat :=
  let c := mac s k
  if r < 8 then rdw s (baseMTR + 0x200 + 0x40 * k + r)
  else if r = 8 then packBits [(0, c.freq), (31, b2n c.freqOk)]
  else if r < 0x38 then wordAt (mtrAcWords s k) ((r - 12) / 4)
  else if r = 0x38 then packBits [(0, c.thdU), (16, c.thdI)]
  else mtrAcStatWord s k

/-- MTR (14). -/
def mtrRead (s : State) (o : Nat) : Nat :=
  if o = 0 then rdw s baseMTR
  else if o < 0x1C then
    wordAt [0, mtrStatWord s, s.mtr.latchSeq, s.mtr.latchTime % 2 ^ 32, s.mtr.latchTime / 2 ^ 32 % 2 ^ 32, 2 * b2n s.mtr.snapDone,
      mtrSaveWord s] (o / 4)
  else if 0x100 ≤ o && o < 0x180 then
    (let n := (o - 0x100) / 0x20
     let r := o % 0x20
     if r < 8 then rdw s (baseMTR + o) else if r = 0x18 then mtrDcStatWord s n else wordAt (mtrDcWords s n) ((r - 8) / 4))
  else if 0x200 ≤ o && o < 0x280 then acRead s ((o - 0x200) / 0x40) (o % 0x40)
  else if 0x400 ≤ o && o < 0x418 then tpWord s ((o - 0x400) / 4)
  else if 0x1000 ≤ o && o < 0x1140 then wordAt (words64 (get s.mtr.latched ((o - 0x1000) / 8))) (o / 4 % 2)
  else if isWide o then wideWord s o
  else 0

/-- KEY (16); the key store itself is never readable. -/
def keyRead (s : State) (o : Nat) : Nat := wordAt [keyLcWord s, keyStatWord s, keyFillWord s 0, keyFillWord s 1] (o / 4)

/-- OZL (17). -/
def ozlRead (s : State) (o : Nat) : Nat :=
  if o = 0 then ozlCtrlWord s else if o = 4 then ozlTopoWord s
  else if 0x100 ≤ o && o < 0x180 then wordAt (ozlPortWords s ((o - 0x100) / 0x20)) (o % 0x20 / 4)
  else 0

/-- TSU (17). -/
def tsuRead (s : State) (o : Nat) : Nat :=
  let n := devTime s
  if o < 0x18 then wordAt ([tsuCtrlWord s] ++ words64 n ++ [n % 2 ^ 32, tsuStatWord s, sat32 (deltaNs s)]) (o / 4)
  else if 0x100 ≤ o && o < 0x140 then wordAt (tsuDomWords s ((o - 0x100) / 0x20)) (o % 0x20 / 4)
  else if 0x400 ≤ o && o < 0x500 then wordAt (tsuCcWords s ((o - 0x400) / 16)) (o / 4 % 4)
  else 0

/-- FEN (19). -/
def fenRead (s : State) (o : Nat) : Nat :=
  if o < 0x18 then wordAt (fenWords s) (o / 4)
  else if 0x100 ≤ o && o < 0x120 then fenSlotWord s ((o - 0x100) / 4)
  else 0

/-- DBG_STAT. -/
def dbgStatWord (s : State) : Nat :=
  packBits [(0, s.dbg.fromMode.num), (4, s.dbg.cause), (6, b2n s.dbg.resumable), (7, b2n s.sys.testEn), (8, b2n s.sys.psOff),
    (9, b2n s.dbg.refused)]

/-- DBG (21). -/
def dbgRead (s : State) (o : Nat) : Nat :=
  wordAt ([dbgStatWord s] ++ words64 s.dbg.frzTime ++ words64 s.dbg.resTime ++ [packBits [(0, s.dbg.freezes), (16, s.dbg.resumes)]])
    (o / 4)

/-- A word of the peripheral blocks (R36): 0 at a reserved address (R8). XSP, the Ethernet MACs and the PHYs give no
register of their own. -/
def blockRead (s : State) (blk o : Nat) : Nat :=
  match blk with
  | 0x00 => sysRead s o
  | 0x01 => evgRead s o
  | 0x02 => mbxRead s o
  | 0x03 => ownRead s o
  | 0x04 => slcRead s o
  | 0x05 => pwmRead s o
  | 0x06 => lpeRead s o
  | 0x07 => cblRead s o
  | 0x08 => lswRead s o
  | 0x09 => vclRead s o
  | 0x10 => mtrRead s o
  | 0x11 => ozlRead s o
  | 0x12 => tsuRead s o
  | 0x13 => fenRead s o
  | 0x14 => wordAt (dpxWords s) (o / 4)
  | 0x15 => keyRead s o
  | 0x17 => dbgRead s o
  | b => if 0x0A ≤ b && b < 0x10 then canRead s (b - 0x0A) o else 0

/-! ### The address map and the firewall (R28 to R35) -/

/-- The regions of R28 and R35. -/
inductive Region where
  | bootRom | retSup | retLegal | codeRam | queue | staging | legalExport | fwData | frames | periph | sluice | reedbed | legalRam
  | xspi0 | peat | reserved
deriving DecidableEq, Repr

/-- The region of an address. -/
def regionOf (a : Nat) : Region :=
  if a < 0x20000 then .bootRom
  else if 0x0F000000 ≤ a && a < 0x0F020000 then .retSup
  else if 0x0F020000 ≤ a && a < 0x0F040000 then .retLegal
  else if 0x10000000 ≤ a && a < 0x10400000 then .codeRam
  else if 0x20000000 ≤ a && a < 0x20800000 then .queue
  else if 0x20800000 ≤ a && a < 0x20900000 then .staging
  else if 0x20900000 ≤ a && a < 0x20910000 then .legalExport
  else if 0x20910000 ≤ a && a < 0x21000000 then .fwData
  else if 0x30000000 ≤ a && a < 0x30400000 then .frames
  else if 0x40000000 ≤ a && a < 0x401B0000 then .periph
  else if 0x50000000 ≤ a && a < 0x50200000 then .sluice
  else if 0x58000000 ≤ a && a < 0x58100000 then .reedbed
  else if 0x60000000 ≤ a && a < 0x60400000 then .legalRam
  else if 0x80000000 ≤ a && a < 0x90000000 then .xspi0
  else if 0x90000000 ≤ a && a < 0xA0000000 then .peat
  else .reserved

/-- The window of the key store beside its registers, which no access reads (R28). -/
def keyStore (a : Nat) : Bool := 0x40150010 ≤ a && a < 0x40160000

/-- An address of the Sluice window that R148 lists. -/
def sluiceListed (a : Nat) : Bool :=
  a < 0x50100100 || (0x50101000 ≤ a && a < 0x50103000)

/-- A word of the Sluice window (R8, R148): EFFECTIVE of the node record is the effective grant of now (R153), and an address
R148 does not list reads 0. -/
def sluiceWord (s : State) (a : Nat) : Nat :=
  if a == 0x50100020 then effectiveGrant s else if sluiceListed a then rdw s a else 0

/-- The word at an address, with no effect of the read itself: 0 where the address is reserved. -/
def readWord (s : State) (a : Nat) : Nat :=
  match regionOf a with
  | .reserved => 0
  | .periph => blockRead s ((a - 0x40000000) / 0x10000) (a % 0x10000)
  | .sluice => sluiceWord s a
  | _ => rdw s a

/-- The MTR block. -/
def inMtr (a : Nat) : Bool := 0x40100000 ≤ a && a < 0x40110000

/-- The firewall lets a device master read the address (R28, R31, R32). -/
def mayRead (m : Master) (a : Nat) : Bool :=
  match m, regionOf a with
  | _, .reserved => true
  | .sup, .legalRam => false
  | .sup, .retLegal => false
  | .sup, _ => !keyStore a
  | .rom, .bootRom => true
  | .rom, .xspi0 => true
  | .rom, .periph => !keyStore a
  | .rom, _ => false
  | .ses _, .queue => true
  | .ses _, .staging => true
  | .ses _, .legalExport => true
  | .ses _, .fwData => true
  | .ses _, .frames => true
  | .ses _, .periph => !keyStore a
  | .ses _, _ => false
  | .legal, .periph => inMtr a
  | .legal, .peat => true
  | .legal, .legalExport => true
  | .legal, .retLegal => true
  | .legal, .legalRam => true
  | .legal, _ => false
  | .pcie, .queue => true
  | .pcie, .staging => true
  | .pcie, .periph => !keyStore a
  | .pcie, _ => false

/-- The firewall lets a master write the memory of the address (R28, R31, R32); the blocks' registers have their own
rules. -/
def mayWrite (m : Master) (a : Nat) (s : State) : Bool :=
  match m, regionOf a with
  | _, .reserved => true
  | _, .periph => m != .legal && !keyStore a
  | .sup, .queue => true
  | .sup, .staging => true
  | .sup, .fwData => true
  | .sup, .frames => true
  | .sup, .retSup => true
  | .sup, .sluice => s.sys.mode == .m3
  | .sup, .reedbed => true
  | .ses _, .queue => true
  | .ses _, .staging => true
  | .ses _, .fwData => true
  | .ses _, .frames => true
  | .legal, .legalExport => true
  | .legal, .retLegal => true
  | .legal, .legalRam => true
  | .legal, .peat => true
  | .rom, .codeRam => true

  | .pcie, .queue => true
  | .pcie, .staging => true
  | _, _ => false

/-! ### Reads (R7, R9, R10, R354) -/

/-- Low words of the registers wider than 32 bits, with the addresses of their upper words (R7). -/
def upperWords (a : Nat) : List Nat :=
  let mtr := a - baseMTR
  if a == 0x40040034 || a == 0x40120004 || a == 0x40140020 || a == 0x40170004 || a == 0x4017000C || a == baseMTR + 12 then [a + 4]
  else if inMtr a && 0x1000 ≤ mtr && mtr < 0x1140 && mtr % 8 == 0 then [a + 4]
  else if inMtr a && isWide mtr && mtr % 16 == 0 then [a + 4, a + 8]
  else []

/-- The address is the upper word of a register wider than 32 bits. -/
def isUpper (a : Nat) : Bool := (upperWords (a - 4)).contains a || (upperWords (a - 8)).contains a

/-- What a captured upper word reads as; before any capture 0 (log entry 6). -/
def capturedWord (s : State) (a : Nat) : Nat := ((s.dbg.capHi.find? fun p => p.1 == a).map Prod.snd).getD 0

/-- The upper words of a low word are captured. -/
def captureUppers (l : List Nat) (s : State) : State :=
  { s with dbg.capHi := (s.dbg.capHi.filter fun p => !l.contains p.1) ++ l.map fun u => (u, readWord s u) }

/-- A read of one word on any path: a wide register outside the window reads 0 and counts in WIDE_DENY, but for the legal
pair (R354); a low word captures the upper words, which read as captured (R7). RC fields have no read that clears them but a
command's own (R10, R67). A read of MBX_V1_DDATA over PCIe advances MBX_V1_DADDR (R95). -/
def readStep (m : Master) (a : Nat) (s : State) : Nat × State :=
  if inMtr a && isWide (a - baseMTR) && !wideWindow s && m != .legal then
    (0, { s with mtr.wideDeny := (s.mtr.wideDeny + 1) % 65536 })
  else if m == .pcie && a == baseMBX + 0x2088 then (v1Word 16 s, v1Advance 16 s)
  else if isUpper a then (capturedWord s a, s)
  else (readWord s a, if (upperWords a).isEmpty then s else captureUppers (upperWords a) s)

/-- The word a read gives goes to its master. -/
def answerRead (m : Master) (a : Nat) (s : State) : State :=
  let r := readStep m a s
  emit r.2 .readData a [((r.1 : Nat) : Int)]

/-- What a BAR address shows (R37): BAR0 offsets as they are, BAR2 at 0x0400_0000 (log entry 2). -/
def barAddr (a : Nat) : Option Nat :=
  if a < 0x1000 then some a
  else if a < 0x2000 then some (baseOWN + (a - 0x1000))
  else if a < 0x4000 then some (baseEVG + (a - 0x2000))
  else if a < 0x8000 then some (baseMBX + (a - 0x4000))
  else if 0x100000 ≤ a && a < 0x900000 then some (0x20000000 + (a - 0x100000))
  else if 0x4000000 ≤ a && a < 0x4100000 then some (0x20800000 + (a - 0x4000000))
  else none

/-- The address of the internal map: the SYS window's at the SYS block. -/
def barReal (a : Nat) : Option Nat := (barAddr a).map fun x => if x < 0x1000 then 0x40000000 + x else x

/-- The read-only windows of BAR0 whose contents the spec does not lay out (R37). -/
def openWindow (a : Nat) : Bool := (0x10000 ≤ a && a < 0x20000) || (0x1000000 ≤ a && a < 0x2000000)

/-- A host read over PCIe: all ones in M11 (R527), and a free value from a window the spec does not lay out. -/
def hostRead (a : Nat) (s : State) : State :=
  if s.sys.mode == .m11 then emit s .readData a [0xFFFFFFFF]
  else match barReal a with
    | some x =>
      let r := readStep .pcie x s
      emit r.2 .readData a [((r.1 : Nat) : Int)]
    | none =>
      if openWindow a then
        (let r := drawFree s
         emit r.2 .readData a [((r.1 % 2 ^ 32 : Nat) : Int)])
      else emit s .readData a [0]

/-- The message object and its offset that an address names: controller, object, offset (R325). -/
def objectAt (a : Nat) : Option (Nat × Nat × Nat) :=
  let o := a % 0x10000
  if 0x400A0000 ≤ a && a < 0x40100000 && 0x1000 ≤ o && o < 0x4000 then
    some ((a - 0x400A0000) / 0x10000, (o - 0x1000) / 0x60, (o - 0x1000) % 0x60)
  else none

/-- A read by a device master that the firewall lets through, with the behaviour the register has of its own: a message
object's lock (R327) and a capture unit's release (R440). -/
def deviceRead (m : Master) (a : Nat) (s : State) : State :=
  match objectAt a with
  | some (c, obj, ofs) =>
    if ofs = 92 then rxinfoRead m c obj s
    else if ofs = 12 || 24 ≤ ofs then lockRead m c obj ofs s
    else answerRead m a s
  | none =>
    if baseTSU + 0x400 ≤ a && a < baseTSU + 0x500 && a % 16 == 8 then readCapHi ((a - baseTSU - 0x400) / 16) s
    else answerRead m a s

/-- REG_READ (R7, R9, R31, R38, R354): a blocked read gives 0 and is counted. -/
def execRegRead (t : Nat) (m : Master) (addr : Nat) (s : State) : Host.Outcome State Fault Refusal :=
  let s := s.at t
  .next (if m == .pcie then hostRead addr s
  else if mayRead m addr then deviceRead m addr s
  else emit (firewallBlock s) .readData addr [0])

/-! ### Writes (R9, R31, R38) -/

/-- EVG_DINn_CFG is written (R118): a DEBOUNCE above 200 has no effect and sets CFG_ACTIVE; otherwise the level after INVERT
drives the source under the new settings. -/
def dinCfgWrite (n word : Nat) (s : State) : State :=
  if 200 < bits word 0 8 then evgError { s with evg.cfgActive := true }
  else dinDrive n (dinState s n) (wrw s (dinCfgAddr n) (bits word 0 12))

/-- Bits of EVG_STAT are cleared. -/
def evgStatWrite (word : Nat) (s : State) : State :=
  { s with evg := { s.evg with
                      cfgActive := s.evg.cfgActive && !bit word 16, claimBad := s.evg.claimBad && !bit word 17,
                      eoiBad := s.evg.eoiBad && !bit word 18, hostDenied := s.evg.hostDenied && !bit word 19 } }

/-- Wake latches are cleared (R115); `f` gives the source of each bit. -/
def latchWrite (word : Nat) (f : Nat → Option Nat) (s : State) : State :=
  ((List.range 32).filter fun b => bit word b).foldl (fun a b =>
    match f b with
    | some n => setSrc a n fun x => { x with latch := false }
    | none => a) s

/-- The source of a bit of EVG_WAKE_LATCH1. -/
def latchSrc (b : Nat) : Option Nat := if b < 16 then some b else if b < 22 then some (26 + (b - 16)) else none

/-- A write in the MSI-X table (R106): a vector's control word holds its mask, and unmasking sends a message that waited while
the vector still has an eligible source. -/
def msixWrite (o word : Nat) (s : State) : State :=
  let v := (o - 0x1800) / 16
  if o % 16 != 12 then wrw s (baseEVG + o) word
  else
    let s1 := { s with evg.vecMask := upd s.evg.vecMask v fun _ => bit word 0 }
    if bit word 0 || !get s.evg.pba v then s1
    else
      let s2 := { s1 with evg.pba := upd s1.evg.pba v fun _ => false }
      if vectorHigh s2 v then sendVector v s2 else s2

/-- The registers of the EVG window that the tables give as read-only, and its pending-bit array (R38). -/
def evgReadOnly (o : Nat) : Bool :=
  o == 0 || (0x100 ≤ o && o < 0x140) || (0x1C0 ≤ o && o < 0x200) || (0x1A00 ≤ o && o < 0x1A08)
    || (0x1000 ≤ o && o < 0x1800 && (o % 0x100 == 8 || (0x40 ≤ o % 0x100 && o % 0x100 < 0x80)))

/-- A host write without right has no effect and sets HOST_DENIED (R113); one to something read-only is counted too (R38). -/
def hostDenied (o : Nat) (s : State) : State :=
  let s1 := evgError { s with evg.hostDenied := true }
  if evgReadOnly o then countAccess s1 else s1

/-- A write in the EVG window by a device core, or one of the host's own rights (R113). DEDUCED (log entry 59): 'the
configuration' a host may write is EVG_SRCn_CFG alone, so every host write of EVG_DINn_CFG is denied. -/
def evgWrite (m : Master) (o word : Nat) (s : State) : State :=
  if 0x140 ≤ o && o < 0x180 then setpendWrite m (o / 4 % 16) word s
  else if 0x180 ≤ o && o < 0x1C0 then clrpendWrite m (o / 4 % 16) word s
  else if 0x200 ≤ o && o < 0x240 then stormedWrite m (o / 4 % 16) word s
  else if 0x400 ≤ o && o < 0xC00 then masterCfgWrite m ((o - 0x400) / 4) word s
  else if 0x1000 ≤ o && o < 0x1800 && o % 0x100 == 0 then claimWrite m ((o - 0x1000) / 0x100) (bits word 0 9) s
  else if 0x1000 ≤ o && o < 0x1800 && o % 0x100 == 4 then eoiWrite m ((o - 0x1000) / 0x100) (bits word 0 9) s
  else if 0x1800 ≤ o && o < 0x1A00 then msixWrite o word s
  else if m == .pcie then hostDenied o s
  else if o = 4 then evgStatWrite word s
  else if o = 0x240 then latchWrite word (fun b => some (480 + b)) s
  else if o = 0x244 then latchWrite word latchSrc s
  else if 0xC00 ≤ o && o < 0xC80 then dinCfgWrite ((o - 0xC00) / 4) word s
  else s

/-- Bits of MBX_ERR are cleared. -/
def mbxErrWrite (word : Nat) (s : State) : State :=
  { s with mbx := { s.mbx with
                      sqOverrun := s.mbx.sqOverrun && !bit word 0, cqHeadBad := s.mbx.cqHeadBad && !bit word 1,
                      dbForeign := s.mbx.dbForeign && !bit word 2, cfgBad := s.mbx.cfgBad && !bit word 3,
                      frameAuth := s.mbx.frameAuth && !bit word 4 } }

/-- The read-only registers of the MBX window (R38). -/
def mbxReadOnly (o : Nat) : Bool :=
  [0, 4, 0x10, 0x14, 0x18].contains o || (0x100 ≤ o && o < 0x500 && [4, 12, 16, 28].contains (o % 0x40))
    || (0x2040 ≤ o && o < 0x2080)

/-- The read-only registers of the SYS and OWN windows (R38). -/
def viewReadOnly (a : Nat) : Bool :=
  (0x40000000 ≤ a && a < 0x40000020) || a == 0x40000020 || a == 0x40000024 || [baseOWN, baseOWN + 4, baseOWN + 12].contains a

/-- A host write in the MBX window; one to a read-only register is counted (R38), and one to a reserved address has no effect
(R8). -/
def mbxWrite (o word : Nat) (s : State) : State :=
  let n := (o - 0x100) / 0x40
  let r := o % 0x40
  if o = 8 then setV1 s 16 fun v => { v with sleep := bit word 0 }
  else if o = 12 then mbxErrWrite word s
  else if 0x100 ≤ o && o < 0x500 then
    (if r = 0 then queueCfgWrite n word s
     else if r = 8 then sqDoorbell n 1 (bits word 0 16) s
     else if r = 20 then cqDoorbell n 1 (bits word 0 16) s
     else if r = 24 then irqWrite n word s
     else if mbxReadOnly o then countAccess s
     else s)
  else if (0x2000 ≤ o && o < 0x2040) || (0x2080 ≤ o && o < 0x208C) then v1RegWrite 16 o word s
  else if mbxReadOnly o then countAccess s
  else s

/-- A host write to a BAR (R37, R38); dropped in M11 (R527). -/
def hostWrite (a word : Nat) (s : State) : State :=
  if s.sys.mode == .m11 then s
  else match barReal a with
    | some x =>
      if x < 0x40000000 then wrw s x word
      else if baseEVG ≤ x && x < baseEVG + 0x10000 then evgWrite .pcie (x - baseEVG) word s
      else if baseMBX ≤ x && x < baseMBX + 0x10000 then mbxWrite (x - baseMBX) word s
      else if x == baseOWN + 8 then heartbeat 1 s
      else if viewReadOnly x then countAccess s
      else s
    | none => if openWindow a then countAccess s else s

/-- A message object is written by its controller's owner (R325, R328): CTRL, ID, MASK and DATA; the state fields are the
controller's alone. -/
def objectWrite (c m ofs word : Nat) (s : State) : State :=
  let a := objAddr c m + ofs
  if 12 ≤ ofs && ofs < 24 || 88 ≤ ofs then s
  else if ofs != 8 && isSend s c m && objBit s c m 0 then setCan c (fun x => { x with cfgBusy := true }) s
  else wrw s a (if ofs = 0 then word % 2 ^ 10 else if ofs = 4 then word % 2 ^ 29 else if ofs = 8 then word % 2 ^ 30 else word)

/-- CAN_CTRL is written: MODE 3 is taken in M10 only, a standby's is 2 (R333), and RECOVER starts the recovery (R331). -/
def canCtrlWrite (c word : Nat) (s : State) : State :=
  let mode := if s.sys.mode == .m7 then 2 else if bits word 0 2 = 3 && s.sys.mode != .m10 then canMode s c else bits word 0 2
  let s1 := wrw s (canBase c) (setBits (bits word 0 6) 0 2 mode)
  if bit word 6 then startRecovery c s1 else s1

/-- A write in a controller's window; any master but the owner is blocked (R321). -/
def canWrite (m : Master) (c o word : Nat) (s : State) : State :=
  if m != canOwner c then firewallBlock s
  else if o = 0 then canCtrlWrite c word s
  else if o = 4 then (if canMode s c == 0 then wrw s (canBase c + 4) (word % 2 ^ 30) else s)
  else if o = 8 then (if canMode s c == 0 then wrw s (canBase c + 8) (word % 2 ^ 25) else s)
  else if o = 12 then (if bit word 4 then setCan c (fun x => { x with cfgBusy := false }) s else s)
  else if 0x20 ≤ o && o < 0x30 then txreqWrite m c (o / 4 % 4) word s
  else if 0x30 ≤ o && o < 0x40 then txcancelWrite m c (o / 4 % 4) word s
  else if 0x1000 ≤ o && o < 0x4000 then objectWrite c ((o - 0x1000) / 0x60) ((o - 0x1000) % 0x60) word s
  else s

/-- A write in the MTR window: CAPTURE, EVQ_OVF and TP_OVF. -/
def mtrWrite (o word : Nat) (s : State) : State :=
  if o = 0x14 then (if bit word 0 then captureWide s else s)
  else if o = 0x23C || o = 0x27C then
    (if bit word 10 then { s with mtr.ac := upd s.mtr.ac ((o - 0x200) / 0x40) fun a => { a with evqOvf := false } } else s)
  else if 0x400 ≤ o && o < 0x418 then (if bit word 21 then setTp ((o - 0x400) / 4) (fun p => { p with ovf := false }) s else s)
  else s

/-- A write in the TSU window by a unit's owner: LATE and OVR, or the target (R440). -/
def tsuWrite (m : Master) (o word : Nat) (s : State) : State :=
  let k := (o - 0x400) / 16
  if 0x400 ≤ o && o < 0x500 then
    (if o % 16 = 4 then armWrite m k word s
     else if o % 16 = 0 && ccOwner s k m then setCc k (fun u => { u with late := u.late && !bit word 14, ovr := u.ovr && !bit word 15 }) s
     else s)
  else s

/-- A device core's write in the MBX window (R9): MBX_HSLEEP, MBX_ERR and the moderation of a pair act by their access code.
The doorbells, the v1 mailbox and the creation of a pair take the host's writes alone (R72, R74, R96). -/
def coreMbxWrite (o word : Nat) (s : State) : State :=
  if o = 8 then setV1 s 16 fun v => { v with sleep := bit word 0 }
  else if o = 12 then mbxErrWrite word s
  else if 0x100 ≤ o && o < 0x500 && o % 0x40 == 24 then irqWrite ((o - 0x100) / 0x40) word s
  else s

/-- A write in the Sluice window (R8, R149): what the configuration loads is stored; fields the engine alone writes, and
addresses R148 does not list, keep their value. -/
def sluiceWrite (a word : Nat) (s : State) : State :=
  let old := rdw s a
  let mask := leValue ((List.range 4).map fun k =>
    let o := a - 0x50000000 + k
    ramMask 0x10 0x100 o ||| ramMask 0x11 0x100 o ||| ramMask 0x13 0x100 o)
  if sluiceListed a then wrw s a ((old - (old &&& mask)) ||| (word % 2 ^ 32 &&& mask)) else s

/-- A device core writes a register by its access code (R9); a read-only or reserved word has no effect. The doorbells and
OWN_HB take the host's writes alone. -/
def blockWrite (m : Master) (blk o word : Nat) (s : State) : State :=
  match blk with
  | 0x01 => evgWrite m o word s
  | 0x02 => coreMbxWrite o word s
  | 0x06 => if o = 4 && bit word 0 then (if m == .sup then requestSwap s else firewallBlock s) else s
  | 0x08 => if o = 0x81C then { s with lsw.crcSt := updAll s.lsw.crcSt fun k b => b && !bit word k } else s
  | 0x10 => mtrWrite o word s
  | 0x12 => tsuWrite m o word s
  | 0x14 => if o = 0x14 then kickWrite s else s
  | b => if 0x0A ≤ b && b < 0x10 then canWrite m (b - 0x0A) o word s else s

/-- A write by a device master (R28, R31): memory words are stored, Reedbed RAM under R239, xSPI0 only by its controller's
own operations (log entry 4). -/
def deviceWrite (m : Master) (a word : Nat) (s : State) : State :=
  if !mayWrite m a s then firewallBlock s
  else match regionOf a with
    | .reserved => s
    | .periph => blockWrite m ((a - 0x40000000) / 0x10000) (a % 0x10000) word s
    | .reedbed => reedbedWrite a word s
    | .sluice => sluiceWrite a word s
    | _ => wrw s a word

/-- REG_WRITE (R9, R31, R38). -/
def execRegWrite (t : Nat) (m : Master) (addr word : Nat) (s : State) : Host.Outcome State Fault Refusal :=
  let s := s.at t
  .next (if m == .pcie then hostWrite addr word s else deviceWrite m addr word s)

/-! ### The SPI port (R38, R95) -/

/-- One word of an SPI read: the v1 mailbox and the SYS registers; the buffer pointer advances with MBX_V1_DDATA. -/
def spiWord (a : Nat) (s : State) : Nat × State :=
  if a = 0x6088 then (v1Word 17 s, v1Advance 17 s)
  else if 0x6000 ≤ a && a < 0x608C then (v1RegRead 17 (a - 0x4000) s, s)
  else if a < 0x1000 then (sysRead s a, s)
  else (0, s)

/-- The words of an SPI read, in order; the address stays at MBX_V1_DDATA. -/
def spiReadWords : Nat → Nat → State → List Nat × State
  | 0, _, s => ([], s)
  | n + 1, a, s =>
    let r := spiWord a s
    let q := spiReadWords n (if a = 0x6088 then a else a + 4) r.2
    (r.1 :: q.1, q.2)

/-- The status byte of an SPI read. -/
def spiStatus (s : State) : Nat := packBits [(0, b2n s.mbx.spiCrcBad), (1, b2n s.mbx.v1s.done), (2, b2n (hostWake s))]

/-- SPI_READ (R95): the status, the words and their CRC-8 are sent. -/
def execSpiRead (t addr n : Nat) (s : State) : Host.Outcome State Fault Refusal :=
  let s := s.at t
  let r := spiReadWords n addr s
  let bytes := spiStatus s :: (r.1.map (leBytes 4)).flatten
  .next (emit r.2 .readData 2 ((bytes ++ [crc8 bytes]).map Int.ofNat))

end Sys2Proof.Machine
end

