-- ==== Sys2Proof/Machine/Diag.lean ====
section
/-! DEFINITION. The DIAG commands (R509, R521), the freeze and its end (R526, R532 to R535), and the IEEE 1149.1 port
(R529 to R531). -/

namespace Sys2Proof.Machine

/-! ### DIAG_REG_READ and DIAG_REG_WRITE (R509, R521) -/

/-- Words from an address on, as the supervisor reads them (R31, R509): a word that the firewall blocks reads 0 and is
counted. -/
def diagWords : Nat → Nat → State → List Nat × State
  | 0, _, s => ([], s)
  | n + 1, a, s =>
    let r := if mayRead .sup a then readStep .sup a s else (0, firewallBlock s)
    let q := diagWords n (a + 4) r.2
    (r.1 :: q.1, q.2)

/-- DIAG_REG_READ (R10, R327, R509). -/
def execDiagRegRead (t line seq : Nat) (s : State) : Host.Outcome State Fault Refusal :=
  .next (runCmd line seq 0x1101 neverIllegal (fun c s =>
    let a := c.param 8 4
    let n := c.param 12 2
    if a % 4 != 0 then rejectRange c 8 s
    else if n < 1 || 16384 < n then rejectRange c 12 s
    else
      let r := diagWords n a s
      let bytes := (r.1.map (leBytes 4)).flatten
      if c.refLen = 0 && n ≤ 8 then done c bytes r.2 else doneOut c [] bytes r.2) (s.at t))

/-- Offset `o` is a whole word of an array of `num` entries, at one of the offsets `subs` of an entry. -/
def inArray (o base stride num : Nat) (subs : List Nat) : Bool :=
  base ≤ o && o < base + stride * num && subs.contains ((o - base) % stride)

/-- The whitelist of R521, with its conditions, at offset `o` of a block. -/
def diagAllowed (s : State) (blk o : Nat) : Bool :=
  match blk with
  | 0x01 => inArray o 0x140 4 48 [0] || inArray o 0xC00 4 32 [0]
      || (inArray o 0x400 4 512 [0] && !(get s.evg.src ((o - 0x400) / 4)).active && !reservedSrc ((o - 0x400) / 4))
  | 0x05 => !s.keeper.gateEn && (inArray o 0x400 0x40 6 [0, 4, 8] || inArray o 0x800 0x20 36 [0, 4, 8] || o == 0xD40
      || inArray o 0xE00 4 2 [0] || inArray o 0xF00 0x20 4 [0, 0xC, 0x10, 0x14] || o == 0x1100)
  | 0x06 => o == 4
  | 0x07 => o == 0 || o == 4
  | 0x08 => (inArray o 0x100 16 32 [0, 4] && !(lch s ((o - 0x100) / 16)).cmd)
      || (inArray o 0x400 8 8 [0, 4] && get s.lsw.duty ((o - 0x400) / 8) == 0)
  | 0x10 => o == 0x14 || inArray o 0x400 4 6 [0]
  | 0x12 => inArray o 0x400 16 16 [0, 4, 12]
  | b => (b == 0x0E || b == 0x0F) && (o == 0 || inArray o 0x20 4 8 [0]
      || ((o == 4 || o == 8) && canMode s (b - 0x0A) == 0))

/-- Block and offset of an address in the peripheral blocks. -/
def blockOf (a : Nat) : Nat × Nat := ((a - 0x40000000) / 0x10000, a % 0x10000)

/-- The write is outside the whitelist, or its condition fails (R521). -/
def diagIllegal (c : Cmd) (s : State) : Bool :=
  let a := c.param 8 4
  let b := blockOf a
  !(regionOf a == .periph && a % 4 == 0 && diagAllowed s b.1 b.2)

/-- The word a DIAG write gives the register (R509). -/
def diagWord (old mask value : Nat) : Nat := (old - (old &&& mask)) ||| (value &&& mask)

/-- A field the write touches takes a value outside its chapter's range (R521). -/
def diagOutOfRange (blk o mask new : Nat) : Bool :=
  cfgFields.any fun f => f.inWord blk o && (mask / 2 ^ f.lo % 2 ^ f.width != 0) &&
    (bits new f.lo f.width < f.least || f.most < bits new f.lo f.width)

/-- The CFG fields of a register word take a value. -/
def cfgWordWrite (blk o word : Nat) (s : State) : State :=
  let mask := (cfgFields.filter fun f => f.inWord blk o).foldl (fun m f => m ||| (2 ^ f.width - 1) * 2 ^ f.lo) 0
  let a := 0x40000000 + blk * 0x10000 + o
  wrw s a (diagWord (rdw s a) mask word)

/-- A DIAG write acts as the register's owner would (R521). -/
def diagWrite (blk o word : Nat) (s : State) : State :=
  match blk with
  | 0x01 => evgWrite .sup o word s
  | 0x06 => if bit word 0 then requestSwap s else s
  | 0x08 =>
    if 0x400 ≤ o && o % 8 == 4 then { s with lsw.dutyNext := upd s.lsw.dutyNext ((o - 0x400) / 8) fun _ => bits word 0 16 }
    else cfgWordWrite blk o word s
  | 0x10 => if o = 0x14 then mtrWrite o word s else tpFollow ((o - 0x400) / 4) (mtrWrite o word (cfgWordWrite blk o word s))
  | 0x12 =>
    let k := (o - 0x400) / 16
    if o % 16 = 4 then (if ccCfg s k 0 1 == 0 then armCompare k word s else s)
    else if o % 16 = 12 then cfgWordWrite blk o word s
    else setCc k (fun u => { u with late := u.late && !bit word 14, ovr := u.ovr && !bit word 15 }) (cfgWordWrite blk o word s)
  | b => if 0x0A ≤ b && b < 0x10 then canWrite (canOwner (b - 0x0A)) (b - 0x0A) o word s else cfgWordWrite blk o word s

/-- DIAG_REG_WRITE (R509, R521). -/
def execDiagRegWrite (t line seq : Nat) (s : State) : Host.Outcome State Fault Refusal :=
  .next (runCmd line seq 0x1102 diagIllegal (fun c s =>
    let a := c.param 8 4
    let b := blockOf a
    let new := diagWord (readWord s a) (c.param 12 4) (c.param 16 4)
    if diagOutOfRange b.1 b.2 (c.param 12 4) new then rejectRange c 16 s
    else
      let s1 := diagWrite b.1 b.2 new s
      done c (leBytes 4 (readWord s1 a)) s1) (s.at t))

/-! ### Freeze (R526, R535) -/

/-- DIAG_FREEZE (R501, R526): ACCEPTED is written, then the request raised; FINAL comes at the resume. -/
def execDiagFreeze (t line seq : Nat) (s : State) : Host.Outcome State Fault Refusal :=
  .next (runCmd line seq 0x1103 neverIllegal (fun c s =>
    let s1 := accept c [] s
    requestFreeze 2 { s1 with dbg.job := some (c.line, c.seq) }) (s.at t))

/-- FREEZE_REQUEST (R526): FREEZE_N after its filter; its fall raises the request. -/
def execFreezeRequest (t : Nat) (low : Bool) (s : State) : Host.Outcome State Fault Refusal :=
  let s1 := s.at t
  let s2 := { s1 with dbg.freezeNLow := low }
  .next (if low && !s1.dbg.freezeNLow then requestFreeze 1 s2 else s2)

/-! ### Resume (R532 to R534) -/

/-- The frozen interval as the always-on domain counted it, in 2^-32 ns (R438). -/
def frozenTicks (s : State) : Nat := (s.gap - s.dbg.stoppedAt) * 32768 / 1000000000 * 1000000000 * 2 ^ 32 / 32768

/-- Device time steps forward by the frozen interval, and legal time follows (R438, R533, R534). -/
def stepResume (s : State) : State :=
  let s1 := rebaseDev s
  let s2 := { s1 with tsu.base := s1.tsu.base + frozenTicks s }
  { s2 with dbg.resTime := devTime s2 }

/-- Compares whose target the step passed fire with LATE, in unit order (R448, R533); `before` is the device time of the stop. -/
def firePassed (before : State) (s : State) : State :=
  (List.range 16).foldl (fun a k =>
    let u := ccu a k
    if ccCfg a k 0 1 == 0 && u.armed && decide (shortDiff before u.target < 0) && decide (0 ≤ shortDiff a u.target) then
      fireCompare k (setCc k (fun x => { x with late := true }) a)
    else a) s

/-- The legal pair records the gap: FREEZE_GAP, then every boundary that fell due in it, with the intervals that span it
marked (R382, R534). -/
def recordGap (before : State) (s : State) : State :=
  if pairRuns s then
    let s1 := lglEvent 0xC (leBytes 8 s.dbg.frzTime ++ leBytes 8 s.dbg.resTime) { s with lgl.iFlags := s.lgl.iFlags ||| 8, lgl.gapFrom := none }
    let last := legalMs s
    let first := legalMs before
    let s2 := recoverUpTo ((last - first) / 60000 + 2) first last s1
    settleLgl { s2 with lgl.iFlags := s2.lgl.iFlags ||| 8 }
  else { s with lgl.gapFrom := none }

/-- The clocks restart (R533): M10; the monitors' histories clear; every enabled slot restarts at its next release; the
Oluzel links have gone down and retrain; load channels other than contactor-class return to their commanded state. -/
def restartClocks (s : State) : State :=
  let s1 := setMode .m10 s
  let mdat := updAll s1.pwm.mdat fun _ x => { x with good := false }
  let slots := updAll s1.lpe.slot fun k x => { x with restartDue := x.restartDue || slotOn s1 k }
  let s2 := { s1 with pwm.mdat := mdat, lpe.slot := slots, pwm.mclkRun := true }
  let s3 := (List.range 4).foldl (fun a p => if (ozp a p).up then portDown p a else a) s2
  let s4 := ((List.range 32).filter fun n => !lswCtr s3 n).foldl (fun a n => lswReturn n a) s3
  { s4 with keeper := { s4.keeper with htrHold := false, heldHtr := [], freezeReq := false } }

/-- The freeze ends (R533): DIAG_FREEZE, where it caused it, gives its FINAL. -/
def resumeFreeze (s : State) : State :=
  let s1 := stepResume s
  let s2 := restartClocks { s1 with dbg := { s1.dbg with resumable := false, resumes := (s1.dbg.resumes + 1) % 65536 } }
  let s3 := recordGap s (firePassed s s2)
  match s3.dbg.job with
  | some (line, seq) => finishAccepted line seq {} { s3 with dbg.job := none }
  | none => s3

/-- The TAP refuses: DBG_STAT.REFUSED. -/
def tapRefuse (s : State) : State := { s with dbg.refused := true }

/-- DBG_RESUME (R532, R533): update-DR with 1 while the instruction is loaded. -/
def execDbgResume (t : Nat) (s : State) : Host.Outcome State Fault Refusal :=
  let s := s.at t
  .next (if s.dbg.ir != 0x13 then s
  else if s.sys.mode == .m11 && s.dbg.resumable && !s.dbg.freezeNLow then resumeFreeze s
  else tapRefuse s)

/-- HEARTBEAT_CHECK_RESUME (R533): 100 µs after the restart the keeper checks again. -/
def execHeartbeatCheckResume (t : Nat) (s : State) : Host.Outcome State Fault Refusal :=
  let s := s.at t
  .next (if s.keeper.freezeReq then s else { s with keeper.hbCheck := true })

/-! ### The IEEE 1149.1 port (R529 to R531) -/

/-- DBG_RESET (R45, R529). -/
def execDbgReset (t : Nat) (s : State) : Host.Outcome State Fault Refusal :=
  let s := s.at t
  .next (if s.dbg.ir != 0x14 then s
  else if s.sys.mode == .m10 || s.sys.mode == .m11 then resetControl .debug (coldNow s) s
  else tapRefuse s)

/-- DBG_ADDR (R529). -/
def execDbgAddr (t addr : Nat) (s : State) : Host.Outcome State Fault Refusal :=
  let s := s.at t
  .next (if s.dbg.ir != 0x11 then s
  else if s.sys.mode == .m11 then { s with dbg.addr := addr }
  else tapRefuse s)

/-- The life-cycle state lets the TAP read the address (R530). -/
def dbgReadable (s : State) (a : Nat) : Bool :=
  match lifeCycle s with
  | 5 => false
  | 2 =>
    let blk := (a - 0x40000000) / 0x10000
    (match regionOf a with
     | .periph => blk == 0x00 || blk == 0x17 || blk == 0x05 || blk == 0x06 || blk == 0x04
     | .sluice => true
     | .reedbed => true
     | .retSup => true
     | _ => false)
  | _ => mayRead .sup a

/-- The word DBG_READ captures: a wide register outside the window reads 0 (R354); the state is not disturbed. -/
def dbgWord (s : State) (a : Nat) : Nat :=
  if inMtr a && isWide (a - baseMTR) && !wideWindow s then 0 else readWord s a

/-- DBG_READ (R530): the word at the address is captured, and the address advances by 4; `eccDbl` says that the word holds a
double-bit error. What the firewall blocks is counted (R31); in M11 no error is recorded. -/
def execDbgRead (t : Nat) (eccDbl : Bool) (s : State) : Host.Outcome State Fault Refusal :=
  let s := s.at t
  .next (if s.dbg.ir != 0x12 then s
  else if s.sys.mode == .m11 then
    let a := s.dbg.addr
    let ok := dbgReadable s a
    let w := if ok then dbgWord s a else 0
    let s0 := if mayRead .sup a then s else firewallCount s
    let s1 := { s0 with dbg := { s0.dbg with word := w, blocked := !ok, eccDbl := ok && eccDbl, addr := (a + 4) % 2 ^ 32 } }
    emit s1 .tap 0 [((w : Nat) : Int), ((b2n (!ok) : Nat) : Int), ((b2n (ok && eccDbl) : Nat) : Int)]
  else tapRefuse s)

/-- The instruction is allowed now (R529, R531). -/
def tapAllowed (s : State) (code : Nat) : Bool :=
  match code with
  | 0x03 => s.sys.psOff && lifeCycle s != 2
  | 0x04 => s.sys.psOff && lifeCycle s != 2
  | 0x05 => s.sys.psOff && lifeCycle s != 2
  | 0x11 => s.sys.mode == .m11
  | 0x12 => s.sys.mode == .m11
  | 0x13 => s.sys.mode == .m11
  | 0x14 => s.sys.mode == .m10 || s.sys.mode == .m11
  | _ => true

/-- The instructions of R529; any other code selects BYPASS. -/
def tapCodes : List Nat := [0x01, 0x02, 0x03, 0x04, 0x05, 0x10, 0x11, 0x12, 0x13, 0x14, 0xFF]

/-- EXTEST, HIGHZ and CLAMP drive the balls. -/
def drivesPins (code : Nat) : Bool := code == 3 || code == 4 || code == 5

/-- Leaving EXTEST, HIGHZ or CLAMP outside M11 applies the debug reset (R531). -/
def leavePins (code : Nat) (s : State) : State :=
  if drivesPins s.dbg.ir && !drivesPins code && s.sys.mode != .m11 && s.sys.mode != .m0 then resetControl .debug (coldNow s) s else s

/-- EXTEST is loaded: the keeper keeps its lines low or off (R531, R554): the load-switch channels are off, with their
commands kept, the MXP chain sends nothing, and the claim stream stops; PS_OFF, which EXTEST needs, holds GATE_EN low. -/
def extestLow (s : State) : State :=
  let s1 := (List.range 32).foldl (fun a n => if (lch a n).on then turnOff n a else a) (gateLow (stopClaim s))
  { s1 with keeper.mxpOn := Vector.replicate 64 false, keeper.hold := false, lsw.mOn := Vector.replicate 64 false }

/-- TAP_INSTRUCTION_LOAD (R529, R531, R554): what the loaded instruction shifts out, where it is a fixed word, follows, and
so does a scan of the boundary register, where it selects that: `cells` is what the cells' parallel inputs read at
capture, 384 bits, and `tdi` the bits shifted in; no bits, no scan. -/
def execTapInstructionLoad (t code : Nat) (cells tdi : List Bool) (s : State) : Host.Outcome State Fault Refusal :=
  let s := s.at t
  let ok := tapAllowed s code
  let ir := if tapCodes.contains code && ok then code else 0xFF
  let s1 := leavePins ir s
  let s2 := { s1 with dbg := { s1.dbg with ir := ir, refused := s1.dbg.refused || !ok } }
  let s3 := if ir = 0x03 then extestLow s2 else s2
  .next (if ir = 0x01 then emit s2 .tap 1 [0x048763A5]
  else if ir = 0x10 then emit s2 .tap 0x10 [((dbgStatWord s2 : Nat) : Int)]
  else if (ir = 0x02 || ir = 0x03) && tdi != [] then bndScan cells tdi s3
  else s3)

/-- TAP_RESET (R529): IDCODE, and REFUSED is cleared. -/
def execTapReset (t : Nat) (s : State) : Host.Outcome State Fault Refusal :=
  let s := s.at t
  let s1 := leavePins 1 s
  .next { s1 with dbg := { s1.dbg with ir := 1, refused := false } }

end Sys2Proof.Machine
end

