-- ==== Sys2Proof/Machine/Dispatch.lean ====
section
/-! DEFINITION. One arm per command of the opcode table. -/

namespace Sys2Proof.Machine

/-- The effect of a command. -/
def exec (i : Instr) (s : State) : Host.Outcome State Fault Refusal :=
  match i with
  | .railOutOfRange t vbat => Sys2Proof.Machine.execRailOutOfRange t vbat s
  | .railsGood t => Sys2Proof.Machine.execRailsGood t s
  | .m1Release t testEn psOff readA readB => Sys2Proof.Machine.execM1Release t testEn psOff readA readB s
  | .bootComplete t cfgActiveOk cfgPreviousOk => Sys2Proof.Machine.execBootComplete t cfgActiveOk cfgPreviousOk s
  | .heartbeatLoss t => Sys2Proof.Machine.execHeartbeatLoss t s
  | .keeperGateEnRequest t => Sys2Proof.Machine.execKeeperGateEnRequest t s
  | .rootLoss t => Sys2Proof.Machine.execRootLoss t s
  | .pcieRefclkLoss t => Sys2Proof.Machine.execPcieRefclkLoss t s
  | .resetPin t low => Sys2Proof.Machine.execResetPin t low s
  | .watchdogExpiry t => Sys2Proof.Machine.execWatchdogExpiry t s
  | .lockstepMismatch t => Sys2Proof.Machine.execLockstepMismatch t s
  | .keeperMxpRepeat t => Sys2Proof.Machine.execKeeperMxpRepeat t s
  | .contactorHoldExpiry t => Sys2Proof.Machine.execContactorHoldExpiry t s
  | .htrLimitExpiry t => Sys2Proof.Machine.execHtrLimitExpiry t s
  | .powerWarning t => Sys2Proof.Machine.execPowerWarning t s
  | .emergencySave t => Sys2Proof.Machine.execEmergencySave t s
  | .powerWarningCleared t => Sys2Proof.Machine.execPowerWarningCleared t s
  | .powerWarnClearTimer t => Sys2Proof.Machine.execPowerWarnClearTimer t s
  | .scrubPass t finds => Sys2Proof.Machine.execScrubPass t finds s
  | .errorRaised t subsys code cls arg => Sys2Proof.Machine.execErrorRaised t subsys code cls arg s
  | .handlingWindowClose t id => Sys2Proof.Machine.execHandlingWindowClose t id s
  | .pcieLinkDown t => Sys2Proof.Machine.execPcieLinkDown t s
  | .pcieHotReset t => Sys2Proof.Machine.execPcieHotReset t s
  | .queueCreate t n word => Sys2Proof.Machine.execQueueCreate t n word s
  | .queueRundown t n => Sys2Proof.Machine.execQueueRundown t n s
  | .queueRundownDone t n => Sys2Proof.Machine.execQueueRundownDone t n s
  | .sqDoorbell t n tail => Sys2Proof.Machine.execSqDoorbell t n tail s
  | .cqDoorbell t n head => Sys2Proof.Machine.execCqDoorbell t n head s
  | .entryConsume t ecc host => Sys2Proof.Machine.execEntryConsume t ecc host s
  | .mbxIrqWrite t n word => Sys2Proof.Machine.execMbxIrqWrite t n word s
  | .cqIrqTimer t n => Sys2Proof.Machine.execCqIrqTimer t n s
  | .hostSleepSet t spi asleep => Sys2Proof.Machine.execHostSleepSet t spi asleep s
  | .mgmtSubmit t f first entries => Sys2Proof.Machine.execMgmtSubmit t f first entries s
  | .mgmtHostCredit t f head => Sys2Proof.Machine.execMgmtHostCredit t f head s
  | .mgmtData t f ofs data => Sys2Proof.Machine.execMgmtData t f ofs data s
  | .mgmtCreditTimer t n => Sys2Proof.Machine.execMgmtCreditTimer t n s
  | .mgmtResendTimer t n => Sys2Proof.Machine.execMgmtResendTimer t n s
  | .arpRequest t mac addr => Sys2Proof.Machine.execArpRequest t mac addr s
  | .icmpEcho t mac addr data => Sys2Proof.Machine.execIcmpEcho t mac addr data s
  | .spiWrite t addr words crc => Sys2Proof.Machine.execSpiWrite t addr words crc s
  | .spiRead t addr n => Sys2Proof.Machine.execSpiRead t addr n s
  | .v1Go t spi => Sys2Proof.Machine.execV1Go t spi s
  | .v1DoneClear t spi => Sys2Proof.Machine.execV1DoneClear t spi s
  | .v1DdataAccess t spi write word => Sys2Proof.Machine.execV1DdataAccess t spi write word s
  | .regWrite t m addr word => Sys2Proof.Machine.execRegWrite t m addr word s
  | .ownChallenge t line seq => Sys2Proof.Machine.execOwnChallenge t line seq s
  | .ownClaim t line seq sigOk => Sys2Proof.Machine.execOwnClaim t line seq sigOk s
  | .ownHeartbeat t line seq => Sys2Proof.Machine.execOwnHeartbeat t line seq s
  | .ownHbWrite t => Sys2Proof.Machine.execOwnHbWrite t s
  | .ownHandover t line seq => Sys2Proof.Machine.execOwnHandover t line seq s
  | .ownRelease t line seq => Sys2Proof.Machine.execOwnRelease t line seq s
  | .ownStatus t line seq => Sys2Proof.Machine.execOwnStatus t line seq s
  | .electionWindowClose t => Sys2Proof.Machine.execElectionWindowClose t s
  | .ownHbLate t => Sys2Proof.Machine.execOwnHbLate t s
  | .ownHbLapse t => Sys2Proof.Machine.execOwnHbLapse t s
  | .ethLinkChange t mac up => Sys2Proof.Machine.execEthLinkChange t mac up s
  | .ethFrameRx t mac fcsOk bufferFree => Sys2Proof.Machine.execEthFrameRx t mac fcsOk bufferFree s
  | .t1sLinkChange t port up => Sys2Proof.Machine.execT1sLinkChange t port up s
  | .eventSourceFire t src level => Sys2Proof.Machine.execEventSourceFire t src level s
  | .stormWindow t => Sys2Proof.Machine.execStormWindow t s
  | .evgClaim t m tgt src => Sys2Proof.Machine.execEvgClaim t m tgt src s
  | .evgEoi t m tgt src => Sys2Proof.Machine.execEvgEoi t m tgt src s
  | .evgSetpend t m k word => Sys2Proof.Machine.execEvgSetpend t m k word s
  | .evgClrpend t m k word => Sys2Proof.Machine.execEvgClrpend t m k word s
  | .evgSrcCfgWrite t m src word => Sys2Proof.Machine.execEvgSrcCfgWrite t m src word s
  | .evgStormedWrite t m k word => Sys2Proof.Machine.execEvgStormedWrite t m k word s
  | .wakeLatchEdge t src stopped masked => Sys2Proof.Machine.execWakeLatchEdge t src stopped masked s
  | .dinDebounceExpiry t din level => Sys2Proof.Machine.execDinDebounceExpiry t din level s
  | .evgStatus t line seq => Sys2Proof.Machine.execEvgStatus t line seq s
  | .evgSrcSet t line seq => Sys2Proof.Machine.execEvgSrcSet t line seq s
  | .evgStormRelease t line seq => Sys2Proof.Machine.execEvgStormRelease t line seq s
  | .evgWait t line seq => Sys2Proof.Machine.execEvgWait t line seq s
  | .evgWaitEnd t line seq timeout => Sys2Proof.Machine.execEvgWaitEnd t line seq timeout s
  | .targetTick t => Sys2Proof.Machine.execTargetTick t s
  | .shedCommit t op => Sys2Proof.Machine.execShedCommit t op s
  | .shedHoldoffExpiry t op => Sys2Proof.Machine.execShedHoldoffExpiry t op s
  | .groupRelease t pg => Sys2Proof.Machine.execGroupRelease t pg s
  | .roundStart t paux draw intake0 intake1 => Sys2Proof.Machine.execRoundStart t paux draw intake0 intake1 s
  | .demand t m => Sys2Proof.Machine.execDemand t m s
  | .roleWaitExpiry t role => Sys2Proof.Machine.execRoleWaitExpiry t role s
  | .rootPass t role => Sys2Proof.Machine.execRootPass t role s
  | .grant t m => Sys2Proof.Machine.execGrant t m s
  | .joinTimeout t => Sys2Proof.Machine.execJoinTimeout t s
  | .intake t m => Sys2Proof.Machine.execIntake t m s
  | .leafRoundStart t paux draw => Sys2Proof.Machine.execLeafRoundStart t paux draw s
  | .slcStatus t line seq => Sys2Proof.Machine.execSlcStatus t line seq s
  | .slcTableRead t line seq => Sys2Proof.Machine.execSlcTableRead t line seq s
  | .slcMapRead t line seq => Sys2Proof.Machine.execSlcMapRead t line seq s
  | .slcPlaceRead t line seq => Sys2Proof.Machine.execSlcPlaceRead t line seq s
  | .slcClassSet t line seq => Sys2Proof.Machine.execSlcClassSet t line seq s
  | .groupValley t g vg => Sys2Proof.Machine.execGroupValley t g vg s
  | .respreadDone t g => Sys2Proof.Machine.execRespreadDone t g s
  | .pwmLoadPoint t leg peak current => Sys2Proof.Machine.execPwmLoadPoint t leg peak current s
  | .dclinkCheck t chans => Sys2Proof.Machine.execDclinkCheck t chans s
  | .legOcLimit t leg fast => Sys2Proof.Machine.execLegOcLimit t leg fast s
  | .legOcNeg t leg fast => Sys2Proof.Machine.execLegOcNeg t leg fast s
  | .legOcTrip t leg fast => Sys2Proof.Machine.execLegOcTrip t leg fast s
  | .legOcLatch t leg => Sys2Proof.Machine.execLegOcLatch t leg s
  | .gfltFault t leg low => Sys2Proof.Machine.execGfltFault t leg low s
  | .matrixCloseRequest t g n => Sys2Proof.Machine.execMatrixCloseRequest t g n s
  | .contactorCloseTimeout t c => Sys2Proof.Machine.execContactorCloseTimeout t c s
  | .contactorOpenRequest t c => Sys2Proof.Machine.execContactorOpenRequest t c s
  | .contactorZeroReached t c => Sys2Proof.Machine.execContactorZeroReached t c s
  | .openNotZero t c => Sys2Proof.Machine.execOpenNotZero t c s
  | .contactorWeld t c => Sys2Proof.Machine.execContactorWeld t c s
  | .busBleedExpiry t n => Sys2Proof.Machine.execBusBleedExpiry t n s
  | .pwrStatus t line seq => Sys2Proof.Machine.execPwrStatus t line seq s
  | .pwrFaultClear t line seq => Sys2Proof.Machine.execPwrFaultClear t line seq s
  | .pwrLegExclude t line seq => Sys2Proof.Machine.execPwrLegExclude t line seq s
  | .pwrMdatRead t line seq => Sys2Proof.Machine.execPwrMdatRead t line seq s
  | .pwrLoopRead t line seq => Sys2Proof.Machine.execPwrLoopRead t line seq s
  | .pwrLoopBudget t line seq => Sys2Proof.Machine.execPwrLoopBudget t line seq s
  | .outputLoopSample t n ts vout => Sys2Proof.Machine.execOutputLoopSample t n ts vout s
  | .trackingRequest t g n mode => Sys2Proof.Machine.execTrackingRequest t g n mode s
  | .trackDwellExpiry t g => Sys2Proof.Machine.execTrackDwellExpiry t g s
  | .trackFail t g => Sys2Proof.Machine.execTrackFail t g s
  | .insulationCheckRequest t n g vrref => Sys2Proof.Machine.execInsulationCheckRequest t n g vrref s
  | .insulationCheckEnd t n => Sys2Proof.Machine.execInsulationCheckEnd t n s
  | .weldTestEnd t n => Sys2Proof.Machine.execWeldTestEnd t n s
  | .outputVoltageRead t n vout vgs => Sys2Proof.Machine.execOutputVoltageRead t n vout vgs s
  | .brakeEnd t n => Sys2Proof.Machine.execBrakeEnd t n s
  | .brakeLong t n => Sys2Proof.Machine.execBrakeLong t n s
  | .crowbarLegOff t leg => Sys2Proof.Machine.execCrowbarLegOff t leg s
  | .fbLost t ch => Sys2Proof.Machine.execFbLost t ch s
  | .mclkLost t k => Sys2Proof.Machine.execMclkLost t k s
  | .fbFrozen t ch => Sys2Proof.Machine.execFbFrozen t ch s
  | .fbClear t ch => Sys2Proof.Machine.execFbClear t ch s
  | .slotRelease t slot ain volts => Sys2Proof.Machine.execSlotRelease t slot ain volts s
  | .slotComplete t slot lat eccDbl => Sys2Proof.Machine.execSlotComplete t slot lat eccDbl s
  | .slotDeadline t slot => Sys2Proof.Machine.execSlotDeadline t slot s
  | .lpeOvrClear t slot => Sys2Proof.Machine.execLpeOvrClear t slot s
  | .lpeSwapReq t m => Sys2Proof.Machine.execLpeSwapReq t m s
  | .reedbedRamWrite t addr word => Sys2Proof.Machine.execReedbedRamWrite t addr word s
  | .rtdConversion t ts bad => Sys2Proof.Machine.execRtdConversion t ts bad s
  | .flowLost t k => Sys2Proof.Machine.execFlowLost t k s
  | .cblFlow t n => Sys2Proof.Machine.execCblFlow t n s
  | .cableModelStep t flow => Sys2Proof.Machine.execCableModelStep t flow s
  | .cableAuthComplete t n present sigOk chalOk record ctr => Sys2Proof.Machine.execCableAuthComplete t n present sigOk chalOk record ctr s
  | .lifeWrite t n present acked ctr => Sys2Proof.Machine.execLifeWrite t n present acked ctr s
  | .lifeHourly t n => Sys2Proof.Machine.execLifeHourly t n s
  | .lifePendingSave t => Sys2Proof.Machine.execLifePendingSave t s
  | .coolCanResend t k => Sys2Proof.Machine.execCoolCanResend t k s
  | .cblStatus t line seq => Sys2Proof.Machine.execCblStatus t line seq s
  | .cblRecordRead t line seq => Sys2Proof.Machine.execCblRecordRead t line seq s
  | .cblAuth t line seq => Sys2Proof.Machine.execCblAuth t line seq s
  | .cblLifeFlush t line seq => Sys2Proof.Machine.execCblLifeFlush t line seq s
  | .bankUndervoltage t bank => Sys2Proof.Machine.execBankUndervoltage t bank s
  | .bankRecovery t bank => Sys2Proof.Machine.execBankRecovery t bank s
  | .lswCommand t ch owner on => Sys2Proof.Machine.execLswCommand t ch owner on s
  | .lswThermalShutdown t ch => Sys2Proof.Machine.execLswThermalShutdown t ch s
  | .lswThermalRelease t ch => Sys2Proof.Machine.execLswThermalRelease t ch s
  | .lswRetry t ch => Sys2Proof.Machine.execLswRetry t ch s
  | .lswRetryCountReset t ch => Sys2Proof.Machine.execLswRetryCountReset t ch s
  | .lswOpenLoad t ch => Sys2Proof.Machine.execLswOpenLoad t ch s
  | .lswOpenLoadClear t ch => Sys2Proof.Machine.execLswOpenLoadClear t ch s
  | .lswTurnOffClamp t ch energy => Sys2Proof.Machine.execLswTurnOffClamp t ch energy s
  | .pgenPeriodStart t p => Sys2Proof.Machine.execPgenPeriodStart t p s
  | .pickupEnd t ch => Sys2Proof.Machine.execPickupEnd t ch s
  | .mxpFrame t words => Sys2Proof.Machine.execMxpFrame t words s
  | .mxpPickupEnd t ch => Sys2Proof.Machine.execMxpPickupEnd t ch s
  | .lswStatus t line seq => Sys2Proof.Machine.execLswStatus t line seq s
  | .lswSet t line seq => Sys2Proof.Machine.execLswSet t line seq s
  | .lswClear t line seq => Sys2Proof.Machine.execLswClear t line seq s
  | .mxpStatus t line seq => Sys2Proof.Machine.execMxpStatus t line seq s
  | .cpDutySet t n duty => Sys2Proof.Machine.execCpDutySet t n duty s
  | .cpSample t n high mv => Sys2Proof.Machine.execCpSample t n high mv s
  | .ppConversion t n mv => Sys2Proof.Machine.execPpConversion t n mv s
  | .ppBandAccept t n => Sys2Proof.Machine.execPpBandAccept t n s
  | .slacMessage t n msg => Sys2Proof.Machine.execSlacMessage t n msg s
  | .vclSlacFail t n => Sys2Proof.Machine.execVclSlacFail t n s
  | .slacRetry t n => Sys2Proof.Machine.execSlacRetry t n s
  | .appProtocolRequest t n offers => Sys2Proof.Machine.execAppProtocolRequest t n offers s
  | .vehicleMessage t n req again stack rsp => Sys2Proof.Machine.execVehicleMessage t n req again stack rsp s
  | .cableCheckRequest t n => Sys2Proof.Machine.execCableCheckRequest t n s
  | .lockFeedback t n closed => Sys2Proof.Machine.execLockFeedback t n closed s
  | .lockTimeout t n => Sys2Proof.Machine.execLockTimeout t n s
  | .waitReadyMet t n g vrref => Sys2Proof.Machine.execWaitReadyMet t n g vrref s
  | .vclWaitTimeout t n => Sys2Proof.Machine.execVclWaitTimeout t n s
  | .prechargeRequest t n g => Sys2Proof.Machine.execPrechargeRequest t n g s
  | .certRelay t n body => Sys2Proof.Machine.execCertRelay t n body s
  | .vclTimeout t n => Sys2Proof.Machine.execVclTimeout t n s
  | .lockRelease t n => Sys2Proof.Machine.execLockRelease t n s
  | .capZeroTimeout t n => Sys2Proof.Machine.execCapZeroTimeout t n s
  | .ckptAckTimeout t n => Sys2Proof.Machine.execCkptAckTimeout t n s
  | .vehStatus t line seq => Sys2Proof.Machine.execVehStatus t line seq s
  | .vehSessionRead t line seq => Sys2Proof.Machine.execVehSessionRead t line seq s
  | .vehAuthorize t line seq => Sys2Proof.Machine.execVehAuthorize t line seq s
  | .vehStop t line seq => Sys2Proof.Machine.execVehStop t line seq s
  | .vehExportSet t line seq => Sys2Proof.Machine.execVehExportSet t line seq s
  | .vehCertReply t line seq => Sys2Proof.Machine.execVehCertReply t line seq s
  | .vehPortEnable t line seq => Sys2Proof.Machine.execVehPortEnable t line seq s
  | .canFrameRx t c f => Sys2Proof.Machine.execCanFrameRx t c f s
  | .canObjLockRead t m c obj ofs => Sys2Proof.Machine.execCanObjLockRead t m c obj ofs s
  | .canRxinfoRead t m c obj => Sys2Proof.Machine.execCanRxinfoRead t m c obj s
  | .canLockTo t c obj => Sys2Proof.Machine.execCanLockTo t c obj s
  | .canTxreq t m c k word sof => Sys2Proof.Machine.execCanTxreq t m c k word sof s
  | .canTxDone t c obj sof next => Sys2Proof.Machine.execCanTxDone t c obj sof next s
  | .canBusError t c e sof => Sys2Proof.Machine.execCanBusError t c e sof s
  | .canTxcancel t m c k word sof => Sys2Proof.Machine.execCanTxcancel t m c k word sof s
  | .canCtrlRecover t m c => Sys2Proof.Machine.execCanCtrlRecover t m c s
  | .canRecoveryDone t c => Sys2Proof.Machine.execCanRecoveryDone t c s
  | .canProtocolException t c => Sys2Proof.Machine.execCanProtocolException t c s
  | .canModeSwitch t c => Sys2Proof.Machine.execCanModeSwitch t c s
  | .canStatus t line seq => Sys2Proof.Machine.execCanStatus t line seq s
  | .canObjRead t line seq => Sys2Proof.Machine.execCanObjRead t line seq s
  | .canObjWrite t line seq => Sys2Proof.Machine.execCanObjWrite t line seq s
  | .canTxCancel t line seq => Sys2Proof.Machine.execCanTxCancel t line seq s
  | .canRecover t line seq => Sys2Proof.Machine.execCanRecover t line seq s
  | .dcMeterSample t n v vs i1 i16 tdie ovV ov1 ov16 => Sys2Proof.Machine.execDcMeterSample t n v vs i1 i16 tdie ovV ov1 ov16 s
  | .testPulseEnd t k => Sys2Proof.Machine.execTestPulseEnd t k s
  | .senseInvalid t n => Sys2Proof.Machine.execSenseInvalid t n s
  | .senseValid t n => Sys2Proof.Machine.execSenseValid t n s
  | .acCycle t k period valid v vq cur tdie => Sys2Proof.Machine.execAcCycle t k period valid v vq cur tdie s
  | .acHalfCycle t k u => Sys2Proof.Machine.execAcHalfCycle t k u s
  | .harmonicWindow t k groups => Sys2Proof.Machine.execHarmonicWindow t k groups s
  | .latchTick t => Sys2Proof.Machine.execLatchTick t s
  | .mtrSnapCapture t => Sys2Proof.Machine.execMtrSnapCapture t s
  | .wideWindowEnd t => Sys2Proof.Machine.execWideWindowEnd t s
  | .meterSelftest t dc ac => Sys2Proof.Machine.execMeterSelftest t dc ac s
  | .meterCrosscheckFail t n => Sys2Proof.Machine.execMeterCrosscheckFail t n s
  | .mtrOverrange t ch => Sys2Proof.Machine.execMtrOverrange t ch s
  | .periodicSave t ok => Sys2Proof.Machine.execPeriodicSave t ok s
  | .lossBoundRecord t => Sys2Proof.Machine.execLossBoundRecord t s
  | .mtrStatus t line seq => Sys2Proof.Machine.execMtrStatus t line seq s
  | .mtrRead t line seq => Sys2Proof.Machine.execMtrRead t line seq s
  | .mtrHarmRead t line seq => Sys2Proof.Machine.execMtrHarmRead t line seq s
  | .mtrEventRead t line seq => Sys2Proof.Machine.execMtrEventRead t line seq s
  | .mtrExtremeReset t line seq => Sys2Proof.Machine.execMtrExtremeReset t line seq s
  | .mtrCalWrite t line seq => Sys2Proof.Machine.execMtrCalWrite t line seq s
  | .mtrCalCommit t line seq => Sys2Proof.Machine.execMtrCalCommit t line seq s
  | .mtrTpSet t line seq => Sys2Proof.Machine.execMtrTpSet t line seq s
  | .sessionOpen t => Sys2Proof.Machine.execSessionOpen t s
  | .sessionClose t => Sys2Proof.Machine.execSessionClose t s
  | .paramLoad t => Sys2Proof.Machine.execParamLoad t s
  | .calCommit t => Sys2Proof.Machine.execCalCommit t s
  | .timeInfo t ofs synced => Sys2Proof.Machine.execTimeInfo t ofs synced s
  | .roleRequest t => Sys2Proof.Machine.execRoleRequest t s
  | .legalHeartbeat t => Sys2Proof.Machine.execLegalHeartbeat t s
  | .legalHeartbeatStall t => Sys2Proof.Machine.execLegalHeartbeatStall t s
  | .lglLost t => Sys2Proof.Machine.execLglLost t s
  | .legalRestartDone t => Sys2Proof.Machine.execLegalRestartDone t s
  | .legalStartupDone t => Sys2Proof.Machine.execLegalStartupDone t s
  | .sealChange t isOpen => Sys2Proof.Machine.execSealChange t isOpen s
  | .legalBoundary t => Sys2Proof.Machine.execLegalBoundary t s
  | .logRetry t ok => Sys2Proof.Machine.execLogRetry t ok s
  | .legalTimeCheck t => Sys2Proof.Machine.execLegalTimeCheck t s
  | .legalDisplayFrame t => Sys2Proof.Machine.execLegalDisplayFrame t s
  | .displayScreenAdvance t => Sys2Proof.Machine.execDisplayScreenAdvance t s
  | .opticalSignOn t addr => Sys2Proof.Machine.execOpticalSignOn t addr s
  | .opticalAck t option rate => Sys2Proof.Machine.execOpticalAck t option rate s
  | .opticalTimeout t => Sys2Proof.Machine.execOpticalTimeout t s
  | .lglStatus t line seq => Sys2Proof.Machine.execLglStatus t line seq s
  | .lglLogRead t line seq => Sys2Proof.Machine.execLglLogRead t line seq s
  | .lglParamLoad t line seq sigOk => Sys2Proof.Machine.execLglParamLoad t line seq sigOk s
  | .lglCreditSet t line seq => Sys2Proof.Machine.execLglCreditSet t line seq s
  | .lglWindowSet t line seq => Sys2Proof.Machine.execLglWindowSet t line seq s
  | .keyRemask t => Sys2Proof.Machine.execKeyRemask t s
  | .cryptoRequest t user slot op => Sys2Proof.Machine.execCryptoRequest t user slot op s
  | .cryptoDone t => Sys2Proof.Machine.execCryptoDone t s
  | .keyTrngFail t => Sys2Proof.Machine.execKeyTrngFail t s
  | .svcRightsExpiry t port => Sys2Proof.Machine.execSvcRightsExpiry t port s
  | .keyStatus t line seq => Sys2Proof.Machine.execKeyStatus t line seq s
  | .keyPubRead t line seq => Sys2Proof.Machine.execKeyPubRead t line seq s
  | .keySvcAuth t line seq sigOk => Sys2Proof.Machine.execKeySvcAuth t line seq sigOk s
  | .keyWrite t line seq keyOk => Sys2Proof.Machine.execKeyWrite t line seq keyOk s
  | .keyDestroy t line seq => Sys2Proof.Machine.execKeyDestroy t line seq s
  | .keyLcSet t line seq sigOk => Sys2Proof.Machine.execKeyLcSet t line seq sigOk s
  | .keyAttest t line seq => Sys2Proof.Machine.execKeyAttest t line seq s
  | .trainSend t p => Sys2Proof.Machine.execTrainSend t p s
  | .trainRecordRx t p r delay => Sys2Proof.Machine.execTrainRecordRx t p r delay s
  | .ozlLinkDown t p => Sys2Proof.Machine.execOzlLinkDown t p s
  | .ozlFrameRx t p f => Sys2Proof.Machine.execOzlFrameRx t p f s
  | .creditBlockRx t p counts crcOk => Sys2Proof.Machine.execCreditBlockRx t p counts crcOk s
  | .creditBlockSend t p => Sys2Proof.Machine.execCreditBlockSend t p s
  | .nak t src cls msg => Sys2Proof.Machine.execNak t src cls msg s
  | .topoFlood t => Sys2Proof.Machine.execTopoFlood t s
  | .topo t node member ports => Sys2Proof.Machine.execTopo t node member ports s
  | .topoEntryExpiry t node member => Sys2Proof.Machine.execTopoEntryExpiry t node member s
  | .ringBreak t a b => Sys2Proof.Machine.execRingBreak t a b s
  | .gatewayDatagram t mac addr magic target frame => Sys2Proof.Machine.execGatewayDatagram t mac addr magic target frame s
  | .tsuCompareArm t m k target => Sys2Proof.Machine.execTsuCompareArm t m k target s
  | .tsuCompareFire t k => Sys2Proof.Machine.execTsuCompareFire t k s
  | .tsuCaptureEdge t k rising time => Sys2Proof.Machine.execTsuCaptureEdge t k rising time s
  | .tsuCaphiRead t m k => Sys2Proof.Machine.execTsuCaphiRead t m k s
  | .domainSample t d source utc interval => Sys2Proof.Machine.execDomainSample t d source utc interval s
  | .domainHoldover t d => Sys2Proof.Machine.execDomainHoldover t d s
  | .domainFree t d => Sys2Proof.Machine.execDomainFree t d s
  | .followSwitch t => Sys2Proof.Machine.execFollowSwitch t s
  | .peerDelayRequest t p t1 => Sys2Proof.Machine.execPeerDelayRequest t p t1 s
  | .pdreq t p seq t2 t3 => Sys2Proof.Machine.execPdreq t p seq t2 t3 s
  | .pdresp t p seq t2 turn t4 => Sys2Proof.Machine.execPdresp t p seq t2 turn t4 s
  | .syncSend t tnum => Sys2Proof.Machine.execSyncSend t tnum s
  | .sync t p tnum seq rootState utc origin corr ratio rx residence src hops msg => Sys2Proof.Machine.execSync t p tnum seq rootState utc origin corr ratio rx residence src hops msg s
  | .aonClockRefresh t => Sys2Proof.Machine.execAonClockRefresh t s
  | .ptpMessageRx t mac number msg => Sys2Proof.Machine.execPtpMessageRx t mac number msg s
  | .ptpSyncSend t mac => Sys2Proof.Machine.execPtpSyncSend t mac s
  | .timStatus t line seq => Sys2Proof.Machine.execTimStatus t line seq s
  | .timFollowSet t line seq => Sys2Proof.Machine.execTimFollowSet t line seq s
  | .timCompareSet t line seq => Sys2Proof.Machine.execTimCompareSet t line seq s
  | .timCaptureRead t line seq => Sys2Proof.Machine.execTimCaptureRead t line seq s
  | .ozlStatus t line seq => Sys2Proof.Machine.execOzlStatus t line seq s
  | .ozlTopoRead t line seq => Sys2Proof.Machine.execOzlTopoRead t line seq s
  | .ozlPathRead t line seq => Sys2Proof.Machine.execOzlPathRead t line seq s
  | .ozlPortRetrain t line seq => Sys2Proof.Machine.execOzlPortRetrain t line seq s
  | .duplexRoleDecide t => Sys2Proof.Machine.execDuplexRoleDecide t s
  | .claimFrameRx t hb byte crcOk => Sys2Proof.Machine.execClaimFrameRx t hb byte crcOk s
  | .claimStreamDead t => Sys2Proof.Machine.execClaimStreamDead t s
  | .dpxKick t => Sys2Proof.Machine.execDpxKick t s
  | .claimWdExpiry t => Sys2Proof.Machine.execClaimWdExpiry t s
  | .dpxSelLost t => Sys2Proof.Machine.execDpxSelLost t s
  | .dpxTakeoverFail t => Sys2Proof.Machine.execDpxTakeoverFail t s
  | .roleSend t => Sys2Proof.Machine.execRoleSend t s
  | .role t role mode st claim lastClaim cfgVersion deviceId => Sys2Proof.Machine.execRole t role mode st claim lastClaim cfgVersion deviceId s
  | .dpxPartnerSilent t => Sys2Proof.Machine.execDpxPartnerSilent t s
  | .dpxMirrorLost t => Sys2Proof.Machine.execDpxMirrorLost t s
  | .checkpoint t n seq state proto msgNo time iReq vTgt vOv flags rest lastRsp => Sys2Proof.Machine.execCheckpoint t n seq state proto msgNo time iReq vTgt vOv flags rest lastRsp s
  | .ckptAck t n seq => Sys2Proof.Machine.execCkptAck t n seq s
  | .vehicleFrameBuffer t n req len stack rsp => Sys2Proof.Machine.execVehicleFrameBuffer t n req len stack rsp s
  | .slcMirror t round node entries => Sys2Proof.Machine.execSlcMirror t round node entries s
  | .lpeSnap t slot nsec release out states => Sys2Proof.Machine.execLpeSnap t slot nsec release out states s
  | .pwmStateSend t => Sys2Proof.Machine.execPwmStateSend t s
  | .pwmState t groups => Sys2Proof.Machine.execPwmState t groups s
  | .loadState t lswCmd pickupDone mxpOn mxpEco duty => Sys2Proof.Machine.execLoadState t lswCmd pickupDone mxpOn mxpEco duty s
  | .cblState t n temps iCap pend => Sys2Proof.Machine.execCblState t n temps iCap pend s
  | .prepay t n account emerg shortfall flags => Sys2Proof.Machine.execPrepay t n account emerg shortfall flags s
  | .leave t mode => Sys2Proof.Machine.execLeave t mode s
  | .swapReq t claim => Sys2Proof.Machine.execSwapReq t claim s
  | .swapConfirm t => Sys2Proof.Machine.execSwapConfirm t s
  | .swapDue t => Sys2Proof.Machine.execSwapDue t s
  | .resync t part pct => Sys2Proof.Machine.execResync t part pct s
  | .resyncDone t => Sys2Proof.Machine.execResyncDone t s
  | .dpxStatus t line seq => Sys2Proof.Machine.execDpxStatus t line seq s
  | .dpxSwap t line seq => Sys2Proof.Machine.execDpxSwap t line seq s
  | .dpxResync t line seq => Sys2Proof.Machine.execDpxResync t line seq s
  | .fenZeroCrossing t valid period => Sys2Proof.Machine.execFenZeroCrossing t valid period s
  | .fenZcLost t => Sys2Proof.Machine.execFenZcLost t s
  | .beaconSend t => Sys2Proof.Machine.execBeaconSend t s
  | .beaconRx t netId gatewayTime zcAgo => Sys2Proof.Machine.execBeaconRx t netId gatewayTime zcAgo s
  | .beaconLost t => Sys2Proof.Machine.execBeaconLost t s
  | .fenFrameRx t f => Sys2Proof.Machine.execFenFrameRx t f s
  | .soundingRx t tx slot map => Sys2Proof.Machine.execSoundingRx t tx slot map s
  | .toneMapRx t tx slot map => Sys2Proof.Machine.execToneMapRx t tx slot map s
  | .toneMapExpiry t node slot => Sys2Proof.Machine.execToneMapExpiry t node slot s
  | .sackRx t failed => Sys2Proof.Machine.execSackRx t failed s
  | .fenBackoffExpiry t collision => Sys2Proof.Machine.execFenBackoffExpiry t collision s
  | .linkMetricSend t => Sys2Proof.Machine.execLinkMetricSend t s
  | .linkMetricRx t tx own hops routed bler rows => Sys2Proof.Machine.execLinkMetricRx t tx own hops routed bler rows s
  | .neighbourExpiry t node => Sys2Proof.Machine.execNeighbourExpiry t node s
  | .routeChange t => Sys2Proof.Machine.execRouteChange t s
  | .fenStatus t line seq => Sys2Proof.Machine.execFenStatus t line seq s
  | .fenNeighRead t line seq => Sys2Proof.Machine.execFenNeighRead t line seq s
  | .fenTonemapRead t line seq => Sys2Proof.Machine.execFenTonemapRead t line seq s
  | .fenResound t line seq => Sys2Proof.Machine.execFenResound t line seq s
  | .sysIdentify t line seq => Sys2Proof.Machine.execSysIdentify t line seq s
  | .sysModeSet t line seq => Sys2Proof.Machine.execSysModeSet t line seq s
  | .sysReset t line seq => Sys2Proof.Machine.execSysReset t line seq s
  | .sysErrqRead t line seq => Sys2Proof.Machine.execSysErrqRead t line seq s
  | .sysFwStage t line seq ok => Sys2Proof.Machine.execSysFwStage t line seq ok s
  | .fwVerifyDone t fault version legalSha => Sys2Proof.Machine.execFwVerifyDone t fault version legalSha s
  | .sysFwPrefer t line seq => Sys2Proof.Machine.execSysFwPrefer t line seq s
  | .sysCounters t line seq => Sys2Proof.Machine.execSysCounters t line seq s
  | .romStatus t line seq => Sys2Proof.Machine.execRomStatus t line seq s
  | .romLoad t line seq ok => Sys2Proof.Machine.execRomLoad t line seq ok s
  | .romBoot t line seq fault version legalSha => Sys2Proof.Machine.execRomBoot t line seq fault version legalSha s
  | .cfgStage t line seq partnerStatus ok => Sys2Proof.Machine.execCfgStage t line seq partnerStatus ok s
  | .cfgValidationDone t sigOk => Sys2Proof.Machine.execCfgValidationDone t sigOk s
  | .cfgCommit t line seq partnerStatus => Sys2Proof.Machine.execCfgCommit t line seq partnerStatus s
  | .cfgRollback t line seq partnerStatus => Sys2Proof.Machine.execCfgRollback t line seq partnerStatus s
  | .cfgStatus t line seq => Sys2Proof.Machine.execCfgStatus t line seq s
  | .cfgRead t line seq => Sys2Proof.Machine.execCfgRead t line seq s
  | .cfgDiscard t line seq partnerStatus => Sys2Proof.Machine.execCfgDiscard t line seq partnerStatus s
  | .cfgPartnerRequest t req sigOk => Sys2Proof.Machine.execCfgPartnerRequest t req sigOk s
  | .diagRegRead t line seq => Sys2Proof.Machine.execDiagRegRead t line seq s
  | .diagRegWrite t line seq => Sys2Proof.Machine.execDiagRegWrite t line seq s
  | .diagFreeze t line seq => Sys2Proof.Machine.execDiagFreeze t line seq s
  | .freezeRequest t low => Sys2Proof.Machine.execFreezeRequest t low s
  | .dbgResume t => Sys2Proof.Machine.execDbgResume t s
  | .dbgReset t => Sys2Proof.Machine.execDbgReset t s
  | .dbgAddr t addr => Sys2Proof.Machine.execDbgAddr t addr s
  | .dbgRead t eccDbl => Sys2Proof.Machine.execDbgRead t eccDbl s
  | .tapInstructionLoad t code cells tdi => Sys2Proof.Machine.execTapInstructionLoad t code cells tdi s
  | .tapReset t => Sys2Proof.Machine.execTapReset t s
  | .heartbeatCheckResume t => Sys2Proof.Machine.execHeartbeatCheckResume t s
  | .vbatLost t mainRails => Sys2Proof.Machine.execVbatLost t mainRails s
  | .claimLapse t port => Sys2Proof.Machine.execClaimLapse t port s
  | .xsp0WriteDone t ok => Sys2Proof.Machine.execXsp0WriteDone t ok s
  | .trngStartupTest t => Sys2Proof.Machine.execTrngStartupTest t s
  | .dpxSelNChange t high => Sys2Proof.Machine.execDpxSelNChange t high s
  | .dpxSwapFail t => Sys2Proof.Machine.execDpxSwapFail t s
  | .fenSackTimeout t => Sys2Proof.Machine.execFenSackTimeout t s
  | .certReplyTimeout t n => Sys2Proof.Machine.execCertReplyTimeout t n s
  | .lswCurrentLimit t ch limiting ma => Sys2Proof.Machine.execLswCurrentLimit t ch limiting ma s
  | .canBusIntegration t c => Sys2Proof.Machine.execCanBusIntegration t c s
  | .testPulseGapEnd t k => Sys2Proof.Machine.execTestPulseGapEnd t k s
  | .ptpDelayReqSend t mac t3 => Sys2Proof.Machine.execPtpDelayReqSend t mac t3 s
  | .regRead t m addr => Sys2Proof.Machine.execRegRead t m addr s

end Sys2Proof.Machine
end

