-- ==== Sys2Proof/Machine/Step.lean ====
section
/-! DEFINITION. One step of the block: the command at the front of the queue is taken and runs on the rest. -/

namespace Sys2Proof.Machine

/-- The state with the first of the waiting commands taken off its queue. -/
def State.popPending (s : State) (rest : List Instr) : State := { s with pending := rest }

/-- One step: the first waiting command runs; with none waiting the block idles (log entry 1). -/
def step (s : State) : Host.Outcome State Fault Refusal :=
  match s.pending with
  | [] => .next s
  | c :: rest => exec c (s.popPending rest)

/-- The state with the command a word spells put at the front of its queue; no word spells one. -/
def State.withFetchWord (s : State) (nbits w : Nat) : State :=
  match decodeTableWord nbits w with
  | some c => { s with pending := c :: s.pending }
  | none => s

end Sys2Proof.Machine
end

