-- ==== Sys2Proof/Safety.lean ====
section
/-! DEFINITION. What the statements call a safe state: what every step must keep. -/

namespace Sys2Proof.Machine

/-- The memories and registers of the block are in their one canonical form: the main memory and the two v1 buffers. -/
def MemOk (s : State) : Prop :=
  Memory.wf s.mem = true ∧ Memory.wf s.mbx.v1p.buf = true ∧ Memory.wf s.mbx.v1s.buf = true

/-- A property that every step which answers a next state keeps. -/
def StepKeeps (P : State → Prop) : Prop :=
  ∀ s s' : State, P s → step s = .next s' → P s'

/-- GATE_EN is high only in the run modes M5 and M6 (R12, R40). -/
def GatesOk (s : State) : Prop :=
  (s.sys.mode = .m5 ∨ s.sys.mode = .m6) ∨ s.keeper.gateEn = false

/-- The error queue and its copy in retention hold at most 32 records (R67). -/
def ErrsOk (s : State) : Prop := s.sys.errq.length ≤ 32 ∧ s.ret.errq.length ≤ 32

/-- Every fuse burned in `b` is burned in `s`, and the service count has not fallen (R416). -/
def FusesOnlyBurn (b s : State) : Prop :=
  (b.key.fProv = true → s.key.fProv = true) ∧ (b.key.fField = true → s.key.fField = true) ∧
    (b.key.fReturn = true → s.key.fReturn = true) ∧ (b.key.fEnd = true → s.key.fEnd = true) ∧ b.key.svcCnt ≤ s.key.svcCnt

/-- The mailbox command consumed on `line` with SQ counter `seq` starts with opcode `op` (R83, R84): it is the line's next, its
caller is the owner where the command is the owner's, the mode and M2's recovery admit it, and its reference is not longer than
the opcode's largest (R81). -/
def Starts (line seq op : Nat) (s : State) (c : Cmd) : Prop :=
  startCmd s line seq op = some c ∧
    ∃ i, cmdInfo op = some i ∧ (i.owner = true → ownerOk s c = true) ∧ i.modes.contains s.sys.mode.num = true ∧
      recoveryBars s op = false ∧ c.refLen ≤ i.refMax

/-- The bytes of the completion queue of `line`, where it is a queue pair (R71). -/
def CqPlace (s : State) (line a : Nat) : Prop :=
  line < 16 ∧ 0x20400000 + line * 0x40000 ≤ a ∧ a < 0x20400000 + line * 0x40000 + 64 * (get s.mbx.pairs line).depth

/-- The bytes of the staging area that a queued command's reference names (R80). -/
def RefPlace (c : Cmd) (a : Nat) : Prop :=
  c.line < 16 ∧ 0x20800000 + c.refOffset ≤ a ∧ a < 0x20800000 + c.refOffset + c.refLen

/-- From `b` to `s` nothing but answers changed: the mailboxes, the event gatherer, the ownership and the messages sent, with what
sending over Oluzel or Fenline changes where some queue pair is port 5's and a free value where one is a management port's, and in
memory the completion queues of the lines on which commands waited and the reference of `c`. -/
def OnlyAnswers (c : Cmd) (b s : State) : Prop :=
  { s with mbx := b.mbx, evg := b.evg, own := b.own, out := b.out, mem := b.mem, freeCtr := b.freeCtr, ozl := b.ozl, fen := b.fen } = b ∧
    ((∀ n, (get b.mbx.pairs n).port < 3) → s.freeCtr = b.freeCtr) ∧
    ((∀ n, (get b.mbx.pairs n).port ≠ 5) → s.ozl = b.ozl ∧ s.fen = b.fen) ∧
    ∀ a, (∀ x ∈ b.mbx.cmds, ¬CqPlace b x.line a) → ¬RefPlace c a → memGet s.mem a = memGet b.mem a

end Sys2Proof.Machine
end

