-- ==== Sys2Proof/Certificates/Slice0/Obligations.lean ====
section
/-! DEFINITION. The statements for the provers, each a rule of the spec or a property of the whole block; the docstring
of each names what it rests on. -/

set_option linter.unusedVariables false

open Sys2Proof Sys2Proof.Machine

/-- A step runs the command at the front of the queue. With commands waiting, a step is exec of the first of them on the
state whose queue is the rest; with none waiting it leaves the state as it is. The queue is the model's own (log
entry 1): the spec gives the block no order of commands beyond its lines. (03_host_interface.md) -/
def Obligations.StepRunsTheFrontCommand : Prop :=
  (∀ (c : Instr) (rest : List Instr) (s : State), s.pending = c :: rest → step s = exec c { s with pending := rest }) ∧
    ∀ s : State, s.pending = [] → step s = .next s

/-- The state after reset meets every invariant the steps keep. After reset the memories are in their canonical form,
GATE_EN is low, the error queue and its copy are within their bound, and no command waits. (R12, R40, R67,
02_modes_reset_boot.md) -/
def Obligations.ResetIsSafe : Prop :=
  MemOk State.reset ∧ GatesOk State.reset ∧ ErrsOk State.reset ∧ State.reset.pending = []

/-- Every step keeps the memories in their one canonical form. Whatever command is at the front of the queue, a step
that answers a next state from canonical memories (the main memory with the registers held in it, and the two v1
buffers) leaves them canonical: addresses strictly rising, no byte listed that an unlisted address reads as. That
memories are lists of cells is the model's own form; the regions are the spec's. (R28, R68, 01_architecture.md) -/
def Obligations.MemoriesStayCanonical : Prop :=
  StepKeeps MemOk

/-- GATE_EN is never high outside the run modes M5 and M6. From every state in which GATE_EN is low or the mode is M5 or
M6, every step that answers a next state leaves GATE_EN low or the mode M5 or M6: no register write, host access,
debug scan, command or expiry raises it elsewhere, and every way out of the run modes drops it. (R12, R13, R40,
R524, 01_architecture.md, 02_modes_reset_boot.md) -/
def Obligations.GatesOnlyInRunModes : Prop :=
  StepKeeps GatesOk

/-- The error queue and its retention copy never exceed 32 records. From every state in which the error queue and its
copy in retention hold at most 32 records each, every step that answers a next state leaves them so, resets and
restores included. (R56, R67, 02_modes_reset_boot.md) -/
def Obligations.ErrorQueueKeepsItsBound : Prop :=
  StepKeeps ErrsOk

/-- No step unburns a fuse, and END is for ever. Every step that answers a next state leaves every burned life-cycle
fuse burned and the service count not lower; a device whose life-cycle state is END stays in END. (R416, R417,
16_keys_lifecycle.md) -/
def Obligations.FusesStayBurned : Prop :=
  ∀ s s' : State, step s = .next s' → FusesOnlyBurn s s' ∧ (lifeCycle s = 5 → lifeCycle s' = 5)

/-- A step takes exactly one command, and time and what was sent only grow. Every step that answers a next state leaves
the waiting commands behind the first as they were, block time not earlier, the draws of free values not fewer, and
every message sent before still sent, in the same order. (R39, R438, 01_architecture.md, 17_oluzel_time.md) -/
def Obligations.StepsOnlyAdvance : Prop :=
  ∀ s s' : State, step s = .next s' →
    s'.pending = s.pending.tail ∧ s.now ≤ s'.now ∧ s.freeCtr ≤ s'.freeCtr ∧ s.out <+: s'.out

/-- Every command, in every state, has a next state. Whatever the state and the command, exec answers a next state,
never a fault or a refusal: where the spec turns a command away it is ignored or answered with its status. Block
time is then not earlier, what was sent stays sent and the commands that wait are as before. (R8, R43, R84,
00_scope.md, 02_modes_reset_boot.md, 03_host_interface.md) -/
def Obligations.NoCommandStopsTheBlock : Prop :=
  ∀ (c : Instr) (s : State), ∃ s', exec c s = .next s' ∧ s.now ≤ s'.now ∧ s.out <+: s'.out ∧ s'.pending = s.pending

/-- The ownership commands answer with their effect. Where the command starts, OWN_CHALLENGE with the random source
healthy answers 16 bytes of a fresh nonce recorded for the port and the time; OWN_CLAIM outside BLANK with a valid
nonce, a signature that verifies and the port's claim key filled records the claim, uses the nonce up and answers
ACTIVE and the owner; OWN_HEARTBEAT of a port with a standing claim refreshes it and answers the owner; OWN_HANDOVER
to another allowed port moves ownership at completion and bumps the epoch, and to the own port changes nothing but
that a lapse that waited is dropped; OWN_RELEASE withdraws the claim and, from the owner, vacates ownership;
OWN_STATUS answers the two words and the port. Forms it says complete, with exec answering their next state:
ownChallenge, ownClaim, ownHeartbeat, ownHandover, ownRelease, ownStatus. (R97, R99, R100, R505,
03_host_interface.md) -/
def Obligations.OwnershipCommandsComplete : Prop :=
  ∀ (t line seq : Nat) (s : State) (c : Cmd), let u := s.at t
    (Starts line seq 0x0201 u c → u.key.trngOk = true → ∃ v, v < 2 ^ 128 ∧
      exec (.ownChallenge t line seq) s = .next (done c (leBytes 16 v)
        { u with freeCtr := u.freeCtr + 1, own.nonces := { port := c.port, value := v, issued := u.now } :: u.own.nonces })) ∧
    (Starts line seq 0x0202 u c → lifeCycle u ≠ 0 → claimKeyFilled u c.port = true → c.refLen ≠ 0 →
      nonceValid u c.port (leValue ((c.entry.drop 8).take 16)) = true →
      ∃ w, w = recordClaim c.port false (useNonce (leValue ((c.entry.drop 8).take 16)) u) ∧
        exec (.ownClaim t line seq true) s = .next (done c [1, w.own.owner] w)) ∧
    (Starts line seq 0x0203 u c → (claimOf u c.port).standing = true →
      exec (.ownHeartbeat t line seq) s = .next (done c [u.own.owner]
        (setClaim u c.port fun x => if x.standing then { x with lastHb := u.now, late := false } else x))) ∧
    (Starts line seq 0x0204 u c → c.param 8 1 ≠ c.port → 1 ≤ c.param 8 1 → c.param 8 1 ≤ 5 →
      (claimOf u (c.param 8 1)).standing = true → 0 < ownPrio u (c.param 8 1) →
      exec (.ownHandover t line seq) s = .next (bumpEpoch (done c []
        { u with own.owner := c.param 8 1, own.lapsePending := false }))) ∧
    (Starts line seq 0x0204 u c → c.param 8 1 = c.port → exec (.ownHandover t line seq) s = .next (done c [] { u with own.lapsePending := false })) ∧
    (Starts line seq 0x0205 u c → u.own.owner ≠ c.port →
      exec (.ownRelease t line seq) s = .next (done c [] (setClaim u c.port fun _ => {}))) ∧
    (Starts line seq 0x0205 u c → u.own.owner = c.port →
      exec (.ownRelease t line seq) s = .next (done c [] (vacateOwner (setClaim u c.port fun _ => {})))) ∧
    (Starts line seq 0x0206 u c →
      exec (.ownStatus t line seq) s = .next (done c (leBytes 4 (ownStateWord u) ++ leBytes 4 (ownPrioWord u) ++ [c.port]) u))

/-- Elections, heartbeat timers and link changes take effect. OWN_HB refreshes a standing PCIe claim; an election window
that closes gives the office to the electable port of the highest rank and bumps the epoch, or ends with none; a
late heartbeat marks the owner's claim and fires source 21; a lapse takes the owner's claim and vacates the office,
at once where no owner-only command of it executes, else when that command ends, till when it is kept as pending; a
claim of another port lapses; an Ethernet or 10BASE-T1S link change is recorded and fires its source, a 10BASE-T1S
one its vehicle port's LINK too; a frame with a bad FCS or without a buffer is counted and fires its source. Forms
it says complete, with exec answering their next state: ownHbWrite, electionWindowClose, ownHbLate, ownHbLapse,
claimLapse, ethLinkChange, ethFrameRx, t1sLinkChange. (R97, R98, R99, R504, 03_host_interface.md) -/
def Obligations.OwnershipTimersAndLinksComplete : Prop :=
  ∀ (t port mac : Nat) (up fcsOk free : Bool) (s : State), let u := s.at t
    ((claimOf u 1).standing = true → exec (.ownHbWrite t) s =
      .next (setClaim u 1 fun c => if c.standing then { c with lastHb := u.now, late := false } else c)) ∧
    (∀ p, u.own.election = true → electionWinner u = some p →
      exec (.electionWindowClose t) s = .next (bumpEpoch { u with own.owner := p, own.election := false })) ∧
    (u.own.election = true → electionWinner u = none →
      exec (.electionWindowClose t) s = .next { u with own.election := false }) ∧
    (u.own.owner ≠ 0 → exec (.ownHbLate t) s =
      .next (fireEvent 21 (setClaim u u.own.owner fun c => { c with late := true }))) ∧
    (u.own.owner ≠ 0 → u.mbx.cmds = [] →
      exec (.ownHbLapse t) s = .next (vacateOwner (setClaim u u.own.owner fun _ => {}))) ∧
    (∀ c, u.own.owner ≠ 0 → u.mbx.cmds = [c] → c.ownerOnly = true → c.port = u.own.owner → c.fail = 0 →
      exec (.ownHbLapse t) s = .next { u with own.lapsePending := true }) ∧
    (u.own.owner ≠ port → exec (.claimLapse t port) s = .next (setClaim u port fun _ => {})) ∧
    (exec (.ethLinkChange t mac up) s =
      .next (fireEvent (472 + mac) { u with own.ethUp := upd u.own.ethUp mac fun _ => up })) ∧
    (fcsOk = false ∨ free = false → exec (.ethFrameRx t mac fcsOk free) s =
      .next (fireEvent (474 + mac) { u with own.ethDrop := upd u.own.ethDrop mac fun n => n + 1 })) ∧
    (exec (.t1sLinkChange t port up) s =
      .next (fireEvent (290 + 8 * port) (fireEvent (476 + port) { u with own.t1sUp := upd u.own.t1sUp port fun _ => up })))

/-- Each reset ends in M1 with its cause, the mailboxes emptied. The reset pin, the loss of the root clock, a heartbeat
loss, a watchdog expiry and the return of the rails each end in M1 with their kind in the reset cause and no
uncompleted command; a lost rail ends in M0. Forms it says complete, with exec answering their next state: resetPin,
rootLoss, heartbeatLoss, watchdogExpiry, railsGood, railOutOfRange, vbatLost. (R45, R46, R39,
02_modes_reset_boot.md) -/
def Obligations.ResetsEnterM1WithTheirCause : Prop :=
  ∀ (t : Nat) (vbat : Bool) (s : State), let u := s.at t
    (u.sys.mode ≠ .m0 → ∃ s', exec (.resetPin t true) s = .next s' ∧ s'.sys.mode = .m1 ∧ s'.sys.rst.kind = .pin ∧
      s'.mbx.cmds = []) ∧
    (exec (.resetPin t false) s = .next { u with sys.pinLow := false }) ∧
    (u.sys.mode ≠ .m0 → ∃ s', exec (.rootLoss t) s = .next s' ∧ s'.sys.mode = .m1 ∧ s'.sys.rst.kind = .clockLoss ∧
      s'.mbx.cmds = []) ∧
    (u.keeper.hbCheck = true → clocksRun u = true → ∃ s', exec (.heartbeatLoss t) s = .next s' ∧ s'.sys.mode = .m1 ∧
      s'.sys.rst.kind = .heartbeat ∧ s'.keeper.hbLatch = true ∧ s'.mbx.cmds = []) ∧
    (clocksRun u = true → ∃ s', exec (.watchdogExpiry t) s = .next s' ∧ s'.sys.mode = .m1 ∧ s'.sys.rst.kind = .watchdog ∧
      s'.mbx.cmds = []) ∧
    (u.sys.railsGood = false → ∃ s', exec (.railsGood t) s = .next s' ∧ s'.sys.mode = .m1 ∧ s'.sys.rst.kind = .powerOn ∧
      s'.sys.railsGood = true ∧ s'.sys.prevMode = .m0 ∧ s'.mbx.cmds = []) ∧
    (u.sys.mode ≠ .m0 → ∃ s', exec (.railOutOfRange t vbat) s = .next s' ∧ s'.sys.mode = .m0 ∧ s'.sys.prevMode = u.sys.mode ∧
      s'.sys.railsGood = false) ∧
    (u.sys.railsGood = false → ∃ s', exec (.vbatLost t false) s = .next s' ∧ s'.sys.retLost = true ∧ s'.ret = {} ∧
      s'.sys.rst.cold = true ∧ (∀ a, 0x0F000000 ≤ a → a < 0x0F040000 → memGet s'.mem a = 0))

/-- Release from M1, the boot and the power warning take effect. M1_RELEASE with good rails and the pin high enters M2
with fresh epochs and the feedback clocks running, judges the slots it reads again and chooses one; BOOT_COMPLETE
enters M3, loads the keys and, outside RETURN, the configuration, takes the wake latches and restores the metering;
a power warning raises POWER_WARN after the discard point, drops the gate and saves; the emergency save runs while
it is due; the warning's end sets the cause POWER_WARN of M8, and its clear timer clears it. Forms it says complete,
with exec answering their next state: m1Release, bootComplete, powerWarning, emergencySave, powerWarningCleared,
powerWarnClearTimer. (R13, R49, R51, R53, R54, R55, R56, R57, R60, 01_architecture.md, 02_modes_reset_boot.md) -/
def Obligations.BootAndPowerRowsComplete : Prop :=
  ∀ (t ra rb : Nat) (a b : Bool) (s : State), let u := s.at t
    (∀ v, u.sys.mode = .m1 → u.sys.railsGood = true → u.sys.pinLow = false →
      v = setMode .m2 (drawEpochs (startTime (psOffChannels (takeStraps a b u)))) → exec (.m1Release t a b ra rb) s =
      .next (chooseSlot (recheckSlots ra rb (supplyLim { v with pwm.mclkRun := true })))) ∧
    (u.sys.mode = .m2 → u.sys.boot.fail = false → exec (.bootComplete t a b) s =
      .next (bootDone (restoreMtr (genMissing (takeLatches (enterFromBoot a b u)))))) ∧
    (∀ v, lifeCycle v = 4 → v = loadKeys (setMode .m3 { u with keeper.mxpIdle := false }) →
      enterFromBoot a b u = startDeciding (loadDefaults v)) ∧
    (clocksRun u = true → exec (.powerWarning t) s = .next (warnSave (dropGate (keeperHold (stopClaim (discardAll stFault 0
      (fireEvent 2 { u with keeper.pfwLow := true, sys.powerWarn := true, lgl.pfwAt := some (devTime u) }))))))) ∧
    (u.sys.mode = .m11 → exec (.powerWarning t) s = .next (keeperHold { u with keeper.pfwLow := true })) ∧
    (∀ v, u.lgl.emgDue = true → clocksRun u = true → v = emergencySave u → v.lgl.pfEvent = false → v.dbg.waitingFreeze = none →
      exec (.emergencySave t) s = .next v) ∧
    (u.keeper.pfwLow = true → clocksRun u = true → u.sys.powerWarn = true → pairRuns { u with keeper.pfwLow := false } = false →
      exec (.powerWarningCleared t) s =
        .next (setCause .powerWarn { u with keeper.pfwLow := false, lgl.pfwAt := none })) ∧
    (u.sys.powerWarn = true → u.keeper.pfwLow = false → clocksRun u = true →
      exec (.powerWarnClearTimer t) s = .next { u with sys.powerWarn := false, sys.m8.powerWarn := false })

/-- The keeper's holds, memory scrubbing and errors take effect. The keeper raises GATE_EN on a request in M5 or M6 when
nothing forbids it and a bank supplies it; repeats the MXP frame while it holds; ends the contactor hold and the
hold-through-reset at their limits; a lockstep mismatch restarts the legal pair with its cause; a scrub pass
corrects or reports each find; a class 1 error with room in the queue is recorded and fires source 1; the handling
window of an error closes; heartbeat checking resumes. Forms it says complete, with exec answering their next state:
keeperGateEnRequest, keeperMxpRepeat, contactorHoldExpiry, htrLimitExpiry, lockstepMismatch, scrubPass, errorRaised,
handlingWindowClose. (R12, R13, R49, R51, R32, R33, R64, R65, R524, 01_architecture.md, 02_modes_reset_boot.md) -/
def Obligations.KeeperAndErrorRowsComplete : Prop :=
  ∀ (t win arg subsys code : Nat) (s : State), let u := s.at t
    (u.sys.mode = .m5 ∨ u.sys.mode = .m6 → u.pwm.gateReq = true → u.keeper.gateEn = false → u.keeper.hbLatch = false →
      u.keeper.freezeReq = false → u.keeper.pfwLow = false → u.sys.psOff = false → u.sys.rootGood = true →
      u.lsw.good.toList.any id = true →
      exec (.keeperGateEnRequest t) s = .next (gateRise { u with keeper.gateEn := true })) ∧
    (u.keeper.hold = true → exec (.keeperMxpRepeat t) s = .next (emit u .mxpFrame 0
      (((List.range 64).filter fun k => u.keeper.mxpOn.toList.getD k false).map Int.ofNat))) ∧
    (u.keeper.hold = true → ∃ s', exec (.contactorHoldExpiry t) s = .next s' ∧ s'.keeper.hold = false ∧
      s'.keeper.heldCtr = [] ∧ s'.lsw.mOn = Vector.replicate 64 false) ∧
    (u.keeper.htrHold = true → ∃ s', exec (.htrLimitExpiry t) s = .next s' ∧ s'.keeper.htrHold = false ∧ s'.keeper.heldHtr = []) ∧
    (lglPowered u = true → exec (.lockstepMismatch t) s = .next (legalRestart 1
      { u with sys.rst := { kind := .lockstep, cold := coldNow u, outputsOn := u.keeper.gateEn } })) ∧
    (∀ f, clocksRun u = true → f.double = false → exec (.scrubPass t [f]) s = .next (eccCorrected u)) ∧
    (∀ f, clocksRun u = true → f.double = true → exec (.scrubPass t [f]) s = .next (doubleError f.addr f.item u)) ∧
    (clocksRun u = true → u.sys.handling = none → u.sys.errq.length < 32 →
      ∃ s', exec (.errorRaised t subsys code 1 arg) s = .next s' ∧ s'.sys.mode = u.sys.mode ∧
        s'.sys.errq = u.sys.errq ++ [{ seq := u.sys.nextSeq, time := devTime u, code := code, subsys := subsys, cls := 1 }]) ∧
    (clocksRun u = true → exec (.handlingWindowClose t win) s = .next (sweepLsw (closeWindow win u)))

/-- Creating, running down and ringing queues, and consuming an entry, take effect. A pair is created where its
configuration passes the checks; a disable begins its run-down, and the run-down ends once no command of it is
uncompleted; doorbells move the tail and the head within their bounds; an entry of the next line in the round robin
is taken; the moderation registers are written within their ranges and the timer signals; the host's sleep bit is
set. Forms it says complete, with exec answering their next state: queueCreate, queueRundown, queueRundownDone,
sqDoorbell, cqDoorbell, entryConsume, mbxIrqWrite, cqIrqTimer, hostSleepSet. (R70, R72, R73, R74, R75, R83, R88,
03_host_interface.md) -/
def Obligations.QueueRowsComplete : Prop :=
  ∀ (t n word v : Nat) (spi b : Bool) (host : List Nat) (s : State), let u := s.at t; let p := get u.mbx.pairs n
    (p.bound = false → p.runDown = false → p.active = false → bit word 31 = true →
      createCheck n (bits word 0 13) (bits word 16 3) (bits word 19 5) u = 0 →
      exec (.queueCreate t n word) s = .next (replayPrior n
        (makePair n 1 (bits word 0 13) (bits word 19 5) ((findQuanta u (bits word 19 5)).getD 0) false
          { u with mbx.pairs := upd u.mbx.pairs n fun x =>
            { x with depth := bits word 0 13, port := bits word 16 3, quanta := bits word 19 5, enable := true } }))) ∧
    (p.bound = false → p.runDown = false → p.active = true → exec (.queueRundown t n) s =
      .next { u with mbx.pairs := upd u.mbx.pairs n fun q => { q with runDown := true, enable := false } }) ∧
    (p.runDown = true → (∀ c ∈ u.mbx.cmds, c.line ≠ n) → exec (.queueRundownDone t n) s = .next (rundownDone n u)) ∧
    (p.active = true → p.port = 1 → ¬p.depth < (v + 65536 - p.sqHead) % 65536 → exec (.sqDoorbell t n v) s =
      .next { u with mbx.pairs := upd u.mbx.pairs n fun q => { q with sqTail := v % 65536 } }) ∧
    (n < 16 → p.active = true → p.port = 1 → ¬cqUsed p < (v + 65536 - p.cqHead) % 65536 → p.owed = [] →
      ∃ s', exec (.cqDoorbell t n v) s = .next s' ∧ (get s'.mbx.pairs n).cqHead = v % 65536 ∧ s'.mem = u.mem) ∧
    (∀ l, nextLine u = some l → exec (.entryConsume t 0 host) s = .next (takeEntry l host false u)) ∧
    (∀ l, nextLine u = some l → exec (.entryConsume t 1 host) s = .next (eccCorrected (takeEntry l host false u))) ∧
    (∀ l, nextLine u = some l → exec (.entryConsume t 2 host) s = .next (raiseError errDoubleQ l (takeEntry l host true u))) ∧
    (¬bits word 0 8 < 1 → ¬bits word 8 12 < 1 → ¬4000 < bits word 8 12 → exec (.mbxIrqWrite t n word) s =
      .next (notifyVectors u (cqModerate n { u with mbx.pairs := upd u.mbx.pairs n fun q =>
        { q with irqCount := bits word 0 8, irqTimer := bits word 8 12, irqVector := bits word 20 5,
                   irqTarget := bit word 25, irqEnable := bit word 31 } }))) ∧
    (p.timerOn = true → exec (.cqIrqTimer t n) s = .next (cqSignal n u)) ∧
    (exec (.hostSleepSet t spi b) s = .next (setV1 u (if spi then 17 else 16) fun x => { x with sleep := b }))

/-- Management frames, the PCIe link, ARP, echo, v1 and SPI take effect. A lost link or reference clock discards the
PCIe lines and lets its claim lapse; a hot reset discards them and clears the host targets; an authentic submission
for the device rings the pair's doorbell and is answered with a credit; an authentic host credit moves the
completion head; authentic data land in the pair's staging quanta; the credit timer sends the pair's CREDIT, and the
resend timer every completion past the host's head again; ARP and echo requests for the device's address are
answered; v1 GO takes the entry, clearing DONE lets a held completion through, and data accesses move the buffer's
address; an SPI write with a good CRC writes its words. Forms it says complete, with exec answering their next
state: pcieLinkDown, pcieRefclkLoss, pcieHotReset, mgmtSubmit, mgmtHostCredit, mgmtData, mgmtCreditTimer,
mgmtResendTimer, arpRequest, icmpEcho, v1Go, v1DoneClear, v1DdataAccess, spiWrite. (R71, R90, R91, R92, R93, R94,
R95, R96, R114, 03_host_interface.md) -/
def Obligations.PortRowsComplete : Prop :=
  ∀ (t n mac addr word head ofs first : Nat) (f : MgmtFrame) (entries : List (List Nat)) (data words : List Nat) (s : State),
    let u := s.at t; let p := get u.mbx.pairs n; let q := get (acceptFrame f u).mbx.pairs f.pair
    (exec (.pcieLinkDown t) s = .next (vacatePcie (clearHostTargets
      (discardLines stFault 0 (pcieLine u) { u with own.pcieUp := false })))) ∧
    (exec (.pcieRefclkLoss t) s = .next (vacatePcie (clearHostTargets
      (discardLines stFault 0 (pcieLine u) { u with own.pcieUp := false })))) ∧
    (exec (.pcieHotReset t) s = .next (clearHostTargets (discardLines stFault 0 (pcieLine u) u))) ∧
    (frameTaken f (4 + 64 * entries.length) u = true → frameBad f u = false → q.active = true → q.port = f.port → ¬32768 ≤ (q.sqTail + 65536 - first) % 65536 →
      exec (.mgmtSubmit t f first entries) s =
        .next (sendCredit f.pair (submitEntries f.pair entries first (acceptFrame f u)))) ∧
    (frameTaken f 4 u = true → frameBad f u = false → exec (.mgmtHostCredit t f head) s = .next (cqDoorbell f.pair f.port head (acceptFrame f u))) ∧
    (frameTaken f (4 + data.length) u = true → frameBad f u = false → q.active = true → q.port = f.port → q.firstQuantum * 0x10000 ≤ ofs →
      ofs + data.length ≤ (q.firstQuantum + q.quantaHeld) * 0x10000 → exec (.mgmtData t f ofs data) s =
        .next { acceptFrame f u with mem := memWriteBytes u.mem (0x20800000 + ofs) data }) ∧
    (frameTaken f 4 u = true → frameBad f u = true → exec (.mgmtHostCredit t f head) s =
      .next (mbxErr f.pair (fun m => { m with frameAuth := true, dropCnt := (m.dropCnt + 1) % 65536 }) u)) ∧
    (p.active = true → 3 ≤ p.port → exec (.mgmtCreditTimer t n) s =
      .next (sendFrame p.port n .mgmtCredit
        (leBytes 2 p.sqHead ++ leBytes 2 p.sqTail ++ leBytes 2 p.cqTail ++ [0, 0]) u)) ∧
    (p.active = true → 3 ≤ p.port → exec (.mgmtResendTimer t n) s =
      .next ((List.range (cqUsed p)).foldl (fun a k => sendComplete n ((p.cqHead + k) % 65536) a) u)) ∧
    (addr = macAddr u mac → exec (.arpRequest t mac addr) s = .next (emit u .arpReply mac [addr])) ∧
    (addr = macAddr u mac → exec (.icmpEcho t mac addr data) s = .next (emit u .icmpReply mac (data.map Int.ofNat))) ∧
    ((getV1 u 16).go = false → (getV1 u 16).done = false → (getV1 u 16).finalPending = false → u.mbx.prior = [] →
      u.mbx.cmds.length < 256 → lineServed (setV1 u 16 fun w => { w with go := true }) 16 = true → exec (.v1Go t false) s =
        .next { takeEntry 16 [] false (setV1 u 16 fun w => { w with go := true }) with mbx.lastLine := u.mbx.lastLine }) ∧
    ((getV1 u 17).held = [] → exec (.v1DoneClear t true) s = .next (setV1 u 17 fun w => { w with done := false })) ∧
    (exec (.v1DdataAccess t false true word) s = .next (setV1 (setV1 u 16 fun w =>
      { w with buf := memWrite w.buf w.daddr 4 word }) 16 fun w => { w with daddr := (w.daddr + 4) % 65536 })) ∧
    (exec (.v1DdataAccess t true false word) s = .next (setV1 (emit u .readData 17
      [(memRead (getV1 u 17).buf (getV1 u 17).daddr 4 : Nat)]) 17 fun w => { w with daddr := (w.daddr + 4) % 65536 })) ∧
    (exec (.spiWrite t addr words (crc8 ([0x02, addr / 256 % 256, addr % 256, words.length] ++ (words.map (leBytes 4)).flatten))) s
      = .next (spiWords words addr { u with mbx.spiCrcBad := false }))

/-- Sources, claims, ends of interrupt and configuration writes take effect. A pulse source fires and a level source
takes its level; the storm window clears the counts; an eligible claim by its target's master makes the source
ACTIVE, pushes the stack and raises the running priority; the EOI of the latest claim pops it; SETPEND fires,
CLRPEND clears and STORMED releases the sources of the written bits; a configuration write of a source that is not
ACTIVE stores its value, sends the message and restarts the core that it calls for; a wake edge sets the latch.
Forms it says complete, with exec answering their next state: eventSourceFire, stormWindow, evgClaim, evgEoi,
evgSetpend, evgClrpend, evgStormedWrite, evgSrcCfgWrite, wakeLatchEdge. (R104, R105, R106, R107, R108, R111, R112,
R113, R115, R117, 04_event_gatherer.md) -/
def Obligations.EventRowsComplete : Prop :=
  ∀ (t src tgt k : Nat) (v : Bool) (s : State), let u := s.at t; let x := get u.evg.src src
    (reservedSrc src = false → srcLevel u src = true → exec (.eventSourceFire t src v) s = .next (setLevel src v u)) ∧
    (reservedSrc src = false → srcLevel u src = false → exec (.eventSourceFire t src v) s = .next (fireEvent src u)) ∧
    (∃ s', exec (.stormWindow t) s = .next s' ∧ ∀ n < 512, (get s'.evg.src n).count = 0 ∧
      (get s'.evg.src n).pending = (get u.evg.src n).pending) ∧
    (src < 512 → tgt < 2 → eligible u tgt src = true → firedNow u src = false → ∃ s', exec (.evgClaim t .pcie tgt src) s = .next s' ∧
      (get s'.evg.src src).active = true ∧ (get s'.evg.src src).pending = false ∧
      (get s'.evg.tgt tgt).run = some (srcPrio u src) ∧
      (get s'.evg.tgt tgt).stack = (src, (get u.evg.tgt tgt).run) :: (get u.evg.tgt tgt).stack) ∧
    (∀ prev rest, tgt = 2 ∨ tgt = 3 → (get u.evg.tgt tgt).stack = (src, prev) :: rest → srcLevel u src = false →
      exec (.evgEoi t .sup tgt src) s = .next (setTgt (setSrc u src fun y => { y with active := false }) tgt fun y =>
        { y with stack := rest, run := prev, eoiBad := false })) ∧
    (∀ word, exec (.evgSetpend t .sup k word) s = .next ((((((List.range 32).filter fun b => bit word b).map fun b => 32 * k + b)).filter
      fun n => !reservedSrc n).foldl (fun a n => fireEvent n a) u)) ∧
    (∀ word, exec (.evgClrpend t .sup k word) s = .next
      ((((List.range 32).filter fun b => bit word b).map fun b => 32 * k + b).foldl (fun a n => clearPending n a) u)) ∧
    (∀ word, exec (.evgStormedWrite t .sup k word) s = .next
      ((((List.range 32).filter fun b => bit word b).map fun b => 32 * k + b).foldl (fun a n => releaseStorm n a) u)) ∧
    (∀ word, reservedSrc src = false → x.active = false → exec (.evgSrcCfgWrite t .sup src word) s =
      .next (wakeCore u src (notifySource u (wrw u (srcCfgAddr src) (srcCfgValue (rdw u (srcCfgAddr src)) src word)) src))) ∧
    (hasLatch src = true → rdb u (srcCfgAddr src) 14 = true → u.sys.mode = .m11 →
      exec (.wakeLatchEdge t src false false) s = .next (setSrc u src fun y => { y with latch := true }))

/-- The EVG commands answer with their effect. Where the command starts, EVG_STATUS answers all status words;
EVG_SRC_SET of a source that the host may configure writes its configuration; EVG_STORM_RELEASE releases it;
EVG_WAIT within its ranges is ACCEPTED and waits; its end answers the pending mask and takes the wait away. Forms it
says complete, with exec answering their next state: evgStatus, evgSrcSet, evgStormRelease, evgWait, evgWaitEnd.
(R118, R105, R117, 04_event_gatherer.md) -/
def Obligations.EventCommandsComplete : Prop :=
  ∀ (t line seq : Nat) (v : Bool) (s : State) (c : Cmd), let u := s.at t; let n := c.param 8 2
    (Starts line seq 0x1201 u c → exec (.evgStatus t line seq) s = .next (doneOut c []
      ((([evgStatWord u] ++ (List.range 16).map (srcMask u · (·.pending)) ++ (List.range 16).map (srcMask u · (·.active))
        ++ (List.range 16).map (srcMask u · (·.stormed)) ++ [tgtStatWord u 0, tgtStatWord u 1]).map (leBytes 4)).flatten) u)) ∧
    (Starts line seq 0x1202 u c → srcSetIllegal c u = false → ¬512 ≤ n → ¬16 ≤ c.param 10 1 → ¬2 ≤ c.param 11 1 →
      ¬2 ≤ c.param 12 1 → ¬2 ≤ c.param 13 1 → ¬16 ≤ c.param 14 1 → exec (.evgSrcSet t line seq) s =
      .next (done c [] (srcCfgWrite n (packBits [(0, c.param 10 1), (4, c.param 12 1), (7, c.param 11 1),
        (9, c.param 13 1), (10, c.param 14 1), (14, bits (rdw u (srcCfgAddr n)) 14 5)]) u))) ∧
    (Starts line seq 0x1203 u c → srcSetIllegal c u = false → ¬512 ≤ n →
      exec (.evgStormRelease t line seq) s = .next (done c [] (releaseStorm n u))) ∧
    (Starts line seq 0x1204 u c → u.evg.waits = [] → ¬512 ≤ n → ¬c.param 10 1 < 1 → ¬64 < c.param 10 1 →
      ¬512 < n + c.param 10 1 → ¬c.param 12 4 < 1 → ¬3600000 < c.param 12 4 → exec (.evgWait t line seq) s =
      .next (accept c [] { u with evg.waits :=
        [{ line := c.line, seq := c.seq, port := c.port, first := n, count := c.param 10 1 }] })) ∧
    (∀ w, u.evg.waits = [w] → w.line = line → w.seq = seq → pendMask u w.first w.count ≠ 0 ∨ v = true →
      exec (.evgWaitEnd t line seq v) s = .next (finishAccepted line seq
        { result := leBytes 8 (pendMask u w.first w.count) } { u with evg.waits := [] }))

/-- Rounds, demands, grants, intake and placement ticks take effect. A round start begins the round, starts its roles
and node, fires source 78, applies the guard and sends intake and demand; a leaf's round start sends its demand; a
demand of a known child leaves, or is admitted and forms the role when all have reported; the standby of a pair
takes none of this; the role's wait and the root's pass act, and so does the pass of another role that is owed one
(log entry 53); a grant to this node or a hosted role fires source 79 and takes effect; a failed join answers 1; an
intake reading is added; the target tick splits the grant in force again and re-evaluates every output, and a shed,
hold-off or release acts. Forms it says complete, with exec answering their next state: roundStart, leafRoundStart,
demand, roleWaitExpiry, rootPass, grant, joinTimeout, intake, targetTick, shedCommit, shedHoldoffExpiry,
groupRelease. (R119, R122, R126, R130, R133, R137, R141, R146, R150, R157, R172, 06_sluice_engine.md) -/
def Obligations.SluiceRowsComplete : Prop :=
  ∀ (t paux role i0 i1 op pg n : Nat) (draw : Int) (m : DemandMsg) (g : GrantMsg) (k : IntakeMsg) (s : State), let u := s.at t
    (∀ w, w = splitGrant (takeGuard (guardRoot (fireEvent 78 (nodeRoundStart (rolesRoundStart
        (takeNeutral [0x0011, 0x0012] (reloadSluice (roundBegin paux u)))))))) → leafNode w = false →
      exec (.roundStart t paux draw i0 i1) s = .next (sendIntake [i0, i1] (sendDemand draw w))) ∧
    (leafNode u = true → u.fen.beaconLost = false → exec (.leafRoundStart t paux draw) s = .next (sendDemand draw (splitGrant
      (nodeRoundStart { autoJoin u with slc.paux := paux, slc.round := devTime u / tRndNs u % 2 ^ 32 })))) ∧
    (∀ r i, standbyNode u = false → m.typ = 1 → m.ver = 1 → findChild u m = some (r, i) → nearRound u (childUnit u i) m.round = true →
      m.leave = true → exec (.demand t m) s = .next (formIfIn r (childLeaves i m u))) ∧
    (∀ r i v, standbyNode u = false → m.typ = 1 → m.ver = 1 → findChild u m = some (r, i) → childUnit u i = 1 →
      nearRound u 1 m.round = true → m.leave = false → m.round = u.slc.round → u.slc.formed = [] →
      v = refreshBounds r (admitChild r i m { u with slc.lateLeaf := u.slc.lateLeaf.filter (· != i) }) → v.slc.formed.contains r = false →
      (children v r).all (reported v) = true → exec (.demand t m) s = .next (formRole r v)) ∧
    (roleValid u role = true → standbyNode u = false → u.slc.formed = [] → exec (.roleWaitExpiry t role) s = .next (formRole role u)) ∧
    (standbyNode u = false → roleValid u role = true → roleRoot u role = true → guardOn u role = false →
      exec (.rootPass t role) s = .next (runPass role (rl u role rLIMIT) (rlPut role rGRANTIN (rl u role rLIMIT) u))) ∧
    (standbyNode u = false → g.typ = 2 → g.ver = 1 → nearRound u (nodeUnit u) g.round = true → g.toLevel = 3 → g.fromLevel = nd u nPARENT / 4096 % 8 + 1 →
      u.slc.joined = true → g.refused = false → exec (.grant t g) s = .next (nodeGrant g (fireEvent 79 u))) ∧
    (standbyNode u = false → roleValid u role = true → roleRoot u role = false → passOwed role u = true →
      exec (.rootPass t role) s = .next (runPass role (rl u role rGRANTIN) u)) ∧
    (∀ r, standbyNode u = false → g.typ = 2 → g.ver = 1 → nearRound u 1 g.round = true → ¬g.toLevel = 3 → g.refused = false →
      (hostedRoles u).find? (fun r => roleLevel u r == g.toLevel && !roleRoot u r
        && rl u r rPARENT / 4096 % 8 + 1 == g.fromLevel) = some r →
      exec (.grant t g) s = .next (roleGrant r g (fireEvent 79 u))) ∧
    (∀ line seq, u.cfg.modeJob = some (line, seq, 4) → u.sys.mode = .m3 → u.slc.joining = true → u.slc.joined = false →
      exec (.joinTimeout t) s =
        .next (finishAccepted line seq { result := [1] } { leaveSluice u with cfg.modeJob := none })) ∧
    (∀ x e, standbyNode u = false → k.typ = 3 → k.ver = 1 → nearRound u 1 k.round = true → u.slc.sets = [x] → x.node = k.node → x.set = k.set →
      x.lastE = some e → exec (.intake t k) s = .next { u with
        slc.eUsed := (u.slc.eUsed + (k.eImport + 2 ^ 48 - e) % 2 ^ 48) % 2 ^ 48,
        slc.sets := [{ x with lastP := k.pImport, lastE := some k.eImport, fresh := true }] }) ∧
    (exec (.targetTick t) s = .next ((List.range 4).foldl (fun a n => placeOut n a) (recomputeAll (resplit (takeNeutral [0x13] u))))) ∧
    (∀ v a b c, v = recompute op u → (sop v op).shed = some (a, b, c) → a + 2000000 ≤ v.now →
      exec (.shedCommit t op) s = .next (commitShed op c v)) ∧
    (op < 4 → ∃ s', exec (.shedHoldoffExpiry t op) s = .next s' ∧ (get s'.slc.op op).holdoff = false ∧ s'.mem = u.mem) ∧
    ((get u.slc.pg pg).output = some n → legCount u pg = 0 → groupLegsOffNow u pg = true → (pgr u pg).opening = none →
      exec (.groupRelease t pg) s = .next (startOpening (.mtx pg n) u))

/-- The SLC commands answer with their effect. Where the command starts, SLC_STATUS answers its eight words;
SLC_TABLE_READ answers allocation or role entries, or the node record; SLC_MAP_READ answers the active map;
SLC_PLACE_READ answers the outputs and groups; SLC_CLASS_SET sets the class of an output from the next round. Forms
it says complete, with exec answering their next state: slcStatus, slcTableRead, slcMapRead, slcPlaceRead,
slcClassSet. (R172, R169, 05_site_power_credits.md, 06_sluice_engine.md) -/
def Obligations.SluiceCommandsComplete : Prop :=
  ∀ (t line seq : Nat) (s : State) (c : Cmd), let u := s.at t
    (Starts line seq 0x0401 u c → exec (.slcStatus t line seq) s = .next (done c
      (([nd u nGRANT, effectiveGrant u, nd u nLEASEEND, u.slc.round, slcStatWord u, u.slc.float,
        floatDrawnAll u, u.slc.demandSent].map (leBytes 4)).flatten) u)) ∧
    (Starts line seq 0x0402 u c → c.param 8 1 = 2 → ¬4096 ≤ c.param 10 2 → ¬c.param 12 2 < 1 → ¬512 < c.param 12 2 →
      exec (.slcTableRead t line seq) s = .next (doneOut c (leBytes 2 1) (nodeBytes u) u)) ∧
    (Starts line seq 0x0402 u c → c.param 8 1 = 0 → ¬4096 ≤ c.param 10 2 → ¬c.param 12 2 < 1 → ¬512 < c.param 12 2 →
      ¬4096 < c.param 10 2 + c.param 12 2 → exec (.slcTableRead t line seq) s = .next (doneOut c (leBytes 2 (c.param 12 2))
        (memBytes u.mem (allocBase (c.param 10 2)) (128 * c.param 12 2)) u)) ∧
    (Starts line seq 0x0403 u c → exec (.slcMapRead t line seq) s =
      .next (doneOut c [u.slc.bank] (memBytes u.mem (mapBase u.slc.bank) 2048) u)) ∧
    (Starts line seq 0x0404 u c → exec (.slcPlaceRead t line seq) s = .next (doneOut c [] (wordBytes
      (((List.range 4).map fun n => [opPlaceWord u n, (sop u n).loss % 2 ^ 24, (sop u n).itgt]).flatten
        ++ ((List.range 6).map fun g => [slcPgWord u g, (get u.slc.pg g).share]).flatten)) u)) ∧
    (Starts line seq 0x0405 u c → ¬4 ≤ c.param 8 1 → ¬c.param 9 1 < 2 → ¬7 < c.param 9 1 →
      exec (.slcClassSet t line seq) s = .next (done c []
        { u with slc.op := upd u.slc.op (c.param 8 1) fun o => { o with clsNext := some (c.param 9 1) } }))

/-- An allocation pass stays within the credit it divides. Filling gives out no more than its budget and no child more
than it asks. Where the commitments of the children and what is reserved fit the credit, a run of the pass does not
fall back, the grants and the reservations together do not exceed the credit, and no child is granted less than it
had; the result of a pass that does not fall back, reservations of leaves it lowers included, does not exceed the
credit. (R128, R129, R155, R156, 06_sluice_engine.md) -/
def Obligations.PassStaysWithinCredit : Prop :=
  (∀ (w : List (Nat × Nat)) (b : Nat), sumList (fill w b) ≤ b ∧ (fill w b).length = w.length ∧
    ∀ k, (fill w b).getD k 0 ≤ (w.getD k (0, 0)).1) ∧
  ∀ (r a : Nat) (pins : List PassChild) (s : State), let cs := (children s r).map (passChild s pins)
    (sumList (cs.map fun c => c.fixed.getD c.g) ≤ a →
      (passOnce s r a pins).2 = false ∧ sumList ((passOnce s r a pins).1.map fun c => c.fixed.getD c.g) ≤ a ∧
      ∀ (k : Nat) (c : PassChild), cs[k]? = some c →
        ∃ d, (passOnce s r a pins).1[k]? = some d ∧ d.entry = c.entry ∧ d.fixed = c.fixed ∧ c.g ≤ d.g) ∧
    ((passResult s r a).2 = false → sumList ((passResult s r a).1.map fun c => c.fixed.getD c.g) ≤ a)

/-- Valleys, load points, comparators and the link check take effect. At its valley a group's readings are taken, its
legs summed, checked, counted and settled; a re-spread ends; at a load point the leg's compare value is written from
the group's duty and its trim, and at a leg's valley its current is read; the DC-link check reads all channels and
checks both links; a comparator whose threshold the leg's fast-filtered current passes limits the period, with the
side that is off, latches the leg, or ends its crowbar, and a gate fault latches it, as R192, R193 and R196 say.
Forms it says complete, with exec answering their next state: groupValley, respreadDone, pwmLoadPoint, dclinkCheck,
legOcLimit, legOcNeg, legOcTrip, legOcLatch, gfltFault, crowbarLegOff. (R174, R180, R181, R182, R186, R190, R192,
R193, R196, R197, 07_power_stage.md) -/
def Obligations.PowerStageRowsComplete : Prop :=
  ∀ (t g leg : Nat) (bits : List Bool) (chans : List (List Bool)) (s : State), let u := s.at t; let l := legOf u leg
    (∀ w, atValley u g = true → w = countTrigger g (checkDischarged g (trackValley g (brakeCheck g (sumOutputs
        (takeValley g bits u))))) → (pgr w g).setChanged = false → exec (.groupValley t g bits) s = .next (settle w)) ∧
    (∀ w, atValley u g = true → w = countTrigger g (checkDischarged g (trackValley g (brakeCheck g (sumOutputs
        (takeValley g bits u))))) → (pgr w g).setChanged = true → (pgr w g).respread = false →
      exec (.groupValley t g bits) s = .next (settle (reSpread g w))) ∧
    (g < 6 → (pgr (takeValley g bits u) g).vg = mainValue u (36 + g) bits ∧ (pgr (takeValley g bits u) g).valleyAt = some u.now) ∧
    ((pgr u g).respread = true → exec (.respreadDone t g) s =
      .next (fireEvent 145 (setPg g (fun p => { p with respread := false })
        { u with pwm.leg := updAll u.pwm.leg fun k l => if k / 6 == g then { l with stretch := none, moving := false } else l }))) ∧
    (l.st = .switching → rdb u (pgAddr (leg / 6)) 16 = true → atLoadPoint u leg true = true → ∃ w d, w = computeDg (leg / 6) u ∧
      d = clampInt (((pgr w (leg / 6)).dG : Int) + trimOf w leg) 0 (rdf w (pgAddr (leg / 6) + 8) 0 16 : Nat) ∧
      exec (.pwmLoadPoint t leg true bits) s =
        .next (setLeg leg (fun x => { x with trimApplied := trimOf w leg, cmp := compareOf w leg d }) w)) ∧
    (atLoadPoint u leg false = true → (legOf (takeLegValley leg bits u) leg).st = .switching →
      exec (.pwmLoadPoint t leg false bits) s = .next (loadLeg leg (takeLegValley leg bits u))) ∧
    (∀ w, w = readAllMain chans u → exec (.dclinkCheck t chans) s = .next (linkCheck 1 (mval w 47) (linkCheck 0 (mval w 46) w))) ∧
    (ocLim u leg < fastValue u leg bits → l.st = .switching → l.limitedNow = false → exec (.legOcLimit t leg bits) s =
      .next (setLeg leg (fun x =>
        { x with limitedNow := true, limHigh := true, limAt := u.now, ocRun := min 15 (x.ocRun + 1),
                 st := if x.st == .switching then .limited else x.st }) u)) ∧
    (fastValue u leg bits < -ocNeg u leg → l.st = .crowbar → exec (.legOcNeg t leg bits) s = .next (crowbarLegEnd leg u)) ∧
    (fastValue u leg bits < -ocNeg u leg → l.st = .switching → l.limitedNow = false → exec (.legOcNeg t leg bits) s =
      .next (setLeg leg (fun x =>
        { x with limitedNow := true, limHigh := false, limAt := u.now, ocRun := min 15 (x.ocRun + 1),
                 st := if x.st == .switching then .limited else x.st }) u)) ∧
    (ocTrip u leg < fastValue u leg bits → gateFaultDue u leg = false → legPresent u leg = true → l.st = .switching →
      exec (.legOcTrip t leg bits) s =
        .next (latchLeg leg .ocLatched true errLegOc (setLeg leg (fun x => { x with ocSeen := false }) u))) ∧
    (legPresent u leg = true → l.st = .switching → 0 < rdf u (legAddr leg) 2 4 → rdf u (legAddr leg) 2 4 ≤ l.ocRun →
      exec (.legOcLatch t leg) s =
        .next (latchLeg leg .ocLatched false errLegOc (setLeg leg (fun x => { x with ocSeen := false }) u))) ∧
    (exec (.gfltFault t leg true) s = .next (latchGate leg (setLeg leg (fun x => { x with gflt := true }) u))) ∧
    (exec (.gfltFault t leg false) s = .next (errCleared 2 2 leg (setLeg leg (fun x => { x with gflt := false }) u))) ∧
    (l.st = .crowbar → exec (.crowbarLegOff t leg) s = .next (legOff leg u))

/-- Contactors close, open, weld and bleed as commanded. A debounced input takes its level and its readback; a matrix
position closes where nothing forbids it, and a second position is interlocked; a contactor that does not close or
that stays closed fails or is found welded; an opening starts, and ends once the current is zero, or raises its
error; a bus that carries nothing is bled after its time. Forms it says complete, with exec answering their next
state: dinDebounceExpiry, matrixCloseRequest, contactorCloseTimeout, contactorOpenRequest, contactorZeroReached,
openNotZero, contactorWeld, busBleedExpiry. (R202, R203, R204, R205, R209, R211, R212, R213, 07_power_stage.md,
08_transitions_protection.md) -/
def Obligations.ContactorRowsComplete : Prop :=
  ∀ (t din g n : Nat) (lvl : Bool) (c : CtrRef) (s : State), let u := s.at t
    (exec (.dinDebounceExpiry t din lvl) s = .next (dinReadback din (dinState (dinChange din lvl u) din) (dinChange din lvl u))) ∧
    (otherPosition u g n = true → exec (.matrixCloseRequest t g n) s = .next (interlock g n u)) ∧
    (otherPosition u g n = false → posUsable u g n = true → get (pgr u g).mtxCmd n = false → deadClose u g n = true →
      exec (.matrixCloseRequest t g n) s = .next (mtxDrive g n true u)) ∧
    (get (pgr u g).mtxCmd n = true → get (pgr u g).mtxFb n = false →
      exec (.contactorCloseTimeout t (.mtx g n)) s = .next (ctrFail (.mtx g n) u)) ∧
    ((pout u n).ctrCmd = true → (pout u n).ctrFb = false → ctrHasFb u n = true →
      exec (.contactorCloseTimeout t (.out n)) s = .next (ctrFail (.out n) u)) ∧
    ((pout u n).ctrCmd = true → (pout u n).ctrFb = false → ctrHasFb u n = false →
      exec (.contactorCloseTimeout t (.out n)) s = .next (ctrClosed n u)) ∧
    (ctrCommanded u c = true → exec (.contactorOpenRequest t c) s = .next (startOpening c u)) ∧
    (openingWaits u c = true → sumBehind u c < iZero u → exec (.contactorZeroReached t c) s =
      .next (openAtZero c (errCleared 2 9 (ctrItem c) u))) ∧
    (openingWaits u (.mtx g n) = true → exec (.openNotZero t (.mtx g n)) s =
      .next (raiseError errNotZero (8 * g + n) (fireEvent 144 u))) ∧
    (openingWaits u (.out n) = true → ctrHasFb u n = true → exec (.openNotZero t (.out n)) s =
      .next (raiseError errNotZero (64 + n) (fireEvent 144 u))) ∧
    (get (pgr u g).mtxCmd n = false → get (pgr u g).mtxFb n = true →
      exec (.contactorWeld t (.mtx g n)) s = .next (weldFound (.mtx g n) u)) ∧
    (ctrHasFb u n = true → (pout u n).ctrCmd = false → (pout u n).ctrFb = true →
      exec (.contactorWeld t (.out n)) s = .next (weldFound (.out n) u)) ∧
    (carrying u n = [] → (pout u n).ctrFb = false → (pout u n).ctrCmd = false →
      exec (.busBleedExpiry t n) s = .next (setOut n (fun o => { o with bled := true }) u))

/-- Output samples, tracking, insulation checks, braking and lost feedback take effect. An output loop sample takes
V_out, moves the shares and slews the references of an energised output, and goes on with an opening; a tracking
request that is allowed begins on the group's legs; its dwell closes the contactor; a failure ends it and raises its
error; an insulation check that is allowed closes the contactor with the legs off, and its end lets the output
discharge; a weld test ends; an output reading without event takes the voltages; braking ends, with an error when it
lasts too long; a lost, frozen or clear feedback channel is flagged or cleared. Forms it says complete, with exec
answering their next state: outputLoopSample, trackingRequest, trackDwellExpiry, trackFail, insulationCheckRequest,
insulationCheckEnd, weldTestEnd, outputVoltageRead, brakeEnd, brakeLong, fbLost, mclkLost, fbFrozen, fbClear. (R207,
R208, R210, R212, R213, R214, R215, R216, R217, R218, R219, 08_transitions_protection.md) -/
def Obligations.TransitionRowsComplete : Prop :=
  ∀ (t g n ts vr ch k : Nat) (bits : List Bool) (vgs : List (List Bool)) (mode : TrkReq) (s : State), let u := s.at t; let p := pgr u g
    (∀ w, w = resplit (readVout n bits u) → energised w n = false →
      exec (.outputLoopSample t n ts bits) s = .next (openingRamp n w)) ∧
    (∀ w, w = resplit (readVout n bits u) → energised w n = true → exec (.outputLoopSample t n ts bits) s = .next (openingRamp n
      (slewRefs n ts (shareStep n (rdf w (opAddr n) 0 10 * ts / 1000) (rdf w (opAddr n) 10 10 * ts / 1000) w)))) ∧
    (gateModes u = true → trackReady u g = true → outUsable u n = true → otherPosition u g n = false → trackAllowed u g n mode = true →
      exec (.trackingRequest t g n mode) s = .next (beginTracking g n 6 (trkMode mode) u)) ∧
    (p.inTol = true → p.closeCmd = false → p.trkDone = false → fbFlagged u (36 + g) = false → fbFlagged u (42 + p.trkOut) = false →
      p.trk = .coinOut → outUsable u p.trkOut = true →
      exec (.trackDwellExpiry t g) s = .next (ctrDrive p.trkOut true (setPg g (fun q => { q with closeCmd := true }) u))) ∧
    (∀ w, p.trk = .ratio → p.trkDone = false → w = { u with slc.pg := upd u.slc.pg g fun q => { q with joinTo := none } } →
      exec (.trackFail t g) s = .next (raiseError errTrackFail g
        (setOut p.trkOut (fun o => { o with ins := .idle, opening := o.ctrCmd }) (groupLegsStop g (setPg g (fun q =>
          { q with trk := .none, trkFail := true, closeCmd := false, inTol := false }) w))))) ∧
    (gateModes u = true → trackReady u g = true → outUsable u n = true → energised u n = false → get p.mtxFb n = true →
      (pout u n).ctrCmd = false → (pout u n).ins = .idle → deadOut u n = true →
      rdf u (opAddr n + 0x18) 16 12 * vr ≤ rdf u (opAddr n + 12) 0 11 * 2048 → exec (.insulationCheckRequest t n g vr) s =
        .next (ctrDrive n true (setOut n (fun o => { o with vrref := vr, ins := .closing, insGroup := g })
          ((carrying u n).foldl (fun a h => emptyGroup h (groupLegsOff h a)) u)))) ∧
    ((pout u n).ins = .holding → exec (.insulationCheckEnd t n) s =
      .next { setOut n (fun o => { o with vrref := 0, ins := .discharging }) u with
                vcl.port := upd u.vcl.port n fun q => { q with checked := true } }) ∧
    ((pout u n).weldTest = true → exec (.weldTestEnd t n) s =
      .next (setOut n (fun o => { o with weldTest := false, ins := .discharging }) u)) ∧
    (∀ w v, w = takeVout n bits vgs u → beyondOv w n = false → v = setOut n (fun o => { o with ovRun := 0 }) (errCleared 2 0x11 n w) →
      (pout v n).weldTest = false → brakeRise v n (pout v n).vHist = false →
      exec (.outputVoltageRead t n bits vgs) s = .next (weldCheckDone n v)) ∧
    (n < 4 → (pout (takeVout n bits vgs u) n).vout = mval (takeVout n bits vgs u) (42 + n)) ∧
    ((pout u n).braking = true → exec (.brakeEnd t n) s = .next (endBrake n u)) ∧
    ((pout u n).braking = true → exec (.brakeLong t n) s = .next (raiseError errBrakeLong n (endBrake n u))) ∧
    (mdatOn u ch = true → (get u.pwm.mdat ch).lost = false → exec (.fbLost t ch) s =
      .next (raiseError errFbLost ch (updStage (fbFlag ch false u)))) ∧
    (∀ on cs w, on = ((List.range 48).filter fun c => mclkOf c == k && mdatOn u c) → cs = (on.filter fun c => !(get u.pwm.mdat c).lost) →
      get u.pwm.mclkLost k = false → w = on.foldl (fun a c => notGood c a) u → exec (.mclkLost t k) s = .next (raiseError errMclkLost k
        (updStage (cs.foldl (fun a c => fbFlag c false a) { w with pwm.mclkLost := upd w.pwm.mclkLost k fun _ => true })))) ∧
    (mdatOn u ch = true → (get u.pwm.mdat ch).frozen = false → exec (.fbFrozen t ch) s =
      .next (raiseError errFbFrozen ch (updStage (fbFlag ch true u)))) ∧
    (∀ w, fbFlagged u ch = true → w = errCleared 2 0x13 ch (errCleared 2 0x14 ch
        { u with pwm.mdat := upd u.pwm.mdat ch fun m => { m with good := true } }) → mclkGood w (mclkOf ch) = false →
      exec (.fbClear t ch) s = .next w) ∧
    (∀ w, fbFlagged u ch = true → w = errCleared 2 0x13 ch (errCleared 2 0x14 ch
        { u with pwm.mdat := upd u.pwm.mdat ch fun m => { m with good := true } }) → mclkGood w (mclkOf ch) = true →
      exec (.fbClear t ch) s = .next (errCleared 2 0x15 (mclkOf ch) w))

/-- The PWR commands answer with their effect. Where the command starts, PWR_STATUS answers the status words;
PWR_FAULT_CLEAR of an item that can be cleared clears it; PWR_LEG_EXCLUDE excludes or includes a leg; PWR_MDAT_READ
answers all channels with their time. Forms it says complete, with exec answering their next state: pwrStatus,
pwrFaultClear, pwrLegExclude, pwrMdatRead. (R198, R199, 07_power_stage.md) -/
def Obligations.PowerCommandsComplete : Prop :=
  ∀ (t line seq : Nat) (s : State) (c : Cmd), let u := s.at t
    (Starts line seq 0x0501 u c → exec (.pwrStatus t line seq) s = .next (doneOut c [] (wordBytes
      ((List.range 6).map (pgStatWord u) ++ (List.range 6).map (pgMtxWord u) ++ (List.range 36).map (legStatWord u)
        ++ (List.range 4).map (opCtrWord u) ++ (List.range 4).map (opProtWord u))) u)) ∧
    (Starts line seq 0x0502 u c → clearRefused c u = false → clearBad c = none →
      exec (.pwrFaultClear t line seq) s = .next (done c [] (updStage (clearItem c u)))) ∧
    (Starts line seq 0x0503 u c → ¬36 ≤ c.param 8 1 → ¬2 ≤ c.param 9 1 → exec (.pwrLegExclude t line seq) s =
      .next (done c [] (excludeLeg (c.param 8 1) (c.param 9 1 == 1) u))) ∧
    (Starts line seq 0x0504 u c → exec (.pwrMdatRead t line seq) s = .next (doneOut c []
      (leBytes 8 (devTime u) ++ wordBytes (u.pwm.mdat.toList.map fun m => unsigned 32 m.val))
      { u with pwm.mdatTime := devTime u }))

/-- Slot releases, completions, the bank swap and the loop commands take effect. A release of a slot that runs and is
due reads its voltages and samples and computes it, after an overrun where the last run stands; its deadline
overruns a run that stands; its completion applies it, and an uncorrectable error trips it; an overrun that has kept
its deadlines 100 times clears; the supervisor may request the bank swap; a RAM write is stored as the bank rules
say; PWR_LOOP_READ and PWR_LOOP_BUDGET answer. Forms it says complete, with exec answering their next state:
slotRelease, slotDeadline, slotComplete, lpeOvrClear, lpeSwapReq, reedbedRamWrite, pwrLoopRead, pwrLoopBudget.
(R221, R222, R229, R231, R234, R235, R236, R237, R238, R199, 09_reedbed_loop_engine.md) -/
def Obligations.ReedbedComplete : Prop :=
  ∀ (t k lat addr word line seq : Nat) (ain : List Int) (volts : List (List Bool)) (s : State) (c : Cmd), let u := s.at t; let x := slotOf u k
    (∀ w, slotRuns u k = true → releaseDue u k = true → u.lpe.standby = false →
      w = setSlot k (fun y => { y with trigDue := false }) (readVolts volts u) → (slotOf w k).cap = none →
      exec (.slotRelease t k ain volts) s = .next (releaseSlot k ain w)) ∧
    (∀ w cp, slotRuns u k = true → releaseDue u k = true → u.lpe.standby = false →
      w = setSlot k (fun y => { y with trigDue := false }) (readVolts volts u) → (slotOf w k).cap = some cp →
      exec (.slotRelease t k ain volts) s = .next (releaseSlot k ain (overrunSlot k w))) ∧
    (∀ cp, x.cap = some cp → exec (.slotDeadline t k) s = .next (overrunSlot k u)) ∧
    (∀ cp, x.cap = some cp → exec (.slotComplete t k lat false) s = .next (completeSlot k lat cp u)) ∧
    (∀ cp, x.cap = some cp → exec (.slotComplete t k lat true) s =
      .next (tripSlot k errLpeRam (putOvrRun k 3 (setSlot k (fun y => { y with cap := none }) u)))) ∧
    (x.ovr = true → 100 ≤ x.good → slotKind u k = 1 → exec (.lpeOvrClear t k) s =
      .next (updStage (setSlot k (fun y => { y with ovr := false, safe := false, good := 0 }) u))) ∧
    (x.ovr = true → 100 ≤ x.good → slotKind u k = 0 → exec (.lpeOvrClear t k) s =
      .next (errCleared 3 1 (tripArg u k) (errCleared 3 4 (tripArg u k)
        (updStage (setSlot k (fun y => { y with ovr := false, safe := false, good := 0 }) u))))) ∧
    (exec (.lpeSwapReq t .sup) s = .next (requestSwap u)) ∧
    (exec (.reedbedRamWrite t addr word) s = .next (reedbedWrite addr word u)) ∧
    (Starts line seq 0x0505 u c → ¬64 ≤ c.param 8 1 → c.param 9 1 ≠ 0 → ¬64 < c.param 8 1 + c.param 9 1 →
      exec (.pwrLoopRead t line seq) s =
        .next (doneOut c [] (((List.range (c.param 9 1)).map fun i => slotReport u (c.param 8 1 + i)).flatten) u)) ∧
    (Starts line seq 0x0506 u c → exec (.pwrLoopBudget t line seq) s = .next (doneOut c []
      (wordBytes ((List.range 4).map (densityWord u) ++ ((List.range 64).map fun k =>
        if slotOn u k then [slotCost u k, slotDeadline u k] else [0, 0]).flatten)) u))

/-- Sensors, the cable model, authentication and life counters take effect. A conversion outside the standby takes the
temperatures and checks every cable; a lost or low flow is flagged; the life write adds the whole increments; the
hourly write begins; pending increments are kept; the model steps every cable outside the standby; an authentication
that succeeds challenges the chip with a fresh nonce, and records and enables the cable; the coolant message is sent
again; the CBL commands answer. Forms it says complete, with exec answering their next state: rtdConversion,
flowLost, cblFlow, lifeWrite, lifeHourly, lifePendingSave, cableAuthComplete, coolCanResend, cblStatus,
cblRecordRead, cblAuth, cblLifeFlush, cableModelStep. (R240, R244, R247, R250, R253, R258, R259, R262, R263, R264,
10_cable_cooling_life.md) -/
def Obligations.CablesComplete : Prop :=
  ∀ (t n k line seq : Nat) (ts : List Int) (bad flow rec ctr : List Nat) (ack : List Bool) (s : State) (c : Cmd), let u := s.at t
    (u.dpx.role ≠ 2 → exec (.rtdConversion t ts bad) s = .next ((List.range 4).foldl (fun a n => checkTrip n (checkSensors n a))
      { u with cbl.ts := updAll u.cbl.ts fun k _ => ts.getD k 0,
               cbl.tsBad := updAll u.cbl.tsBad fun k _ =>
                 bad.contains k || decide (ts.getD k 0 < -50000) || decide (250000 < ts.getD k 0) })) ∧
    (flowOf u 0 = k → 0 < pumpCmd u 0 → exec (.flowLost t k) s = .next ((List.range 4).foldl (fun a n => checkSensors n a)
      { u with cbl.flowBad := upd u.cbl.flowBad k fun _ => true })) ∧
    (get u.cbl.flow (flowOf u n) < flowMin u → 0 < pumpCmd u n → (cbl u n).flowLow = false →
      exec (.cblFlow t n) s = .next (raiseError errCblFlow n (updThermal (setCbl n (fun o => { o with flowLow := true }) u)))) ∧
    ((cbl u n).auth = true → (cbl u n).lifeDue = true → exec (.lifeWrite t n false ack ctr) s = .next (lifeFinish n
      (raiseError errCblChip n (cblEvent n 7 (setCbl n (fun q =>
        { q with chip := false, lifeDue := false, authRun := true }) u))))) ∧
    ((cbl u n).auth = true → (cbl u n).lifeDue = true →
      exec (.lifeWrite t n true ack ctr) s = .next (lifeFinish n (lifeStore n ack ctr u))) ∧
    ((cbl u n).auth = true → exec (.lifeHourly t n) s = .next (lifeBegin n u)) ∧
    (exec (.lifePendingSave t) s = .next (keepPending u)) ∧
    (∀ w, w = challengeChip n (readRecord n u) → (cbl u n).authRun = true → (get u.key.slots (issuerSlot u (CblOp.fld { cbl u n with record := rec, ctr := ctr, chip := true } 3 1))).filled = true →
      recordOk { cbl u n with record := rec, ctr := ctr, chip := true } = true → (cbl u n).serial ≠ (rec.drop 8).take 16 →
      exec (.cableAuthComplete t n true true true rec ctr) s = .next (authDone n (setCbl n (fun x =>
        { x with record := rec, ctr := ctr, chip := true, level := 0, auth := true }) w))) ∧
    (bits (rdw u (baseCBL + 0x400 + 8 * k)) 0 2 = 3 → exec (.coolCanResend t k) s = .next (coolSend
      (4 + b2n (bit (rdw u (baseCBL + 0x400 + 8 * k)) 2)) (bits (rdw u (baseCBL + 0x400 + 8 * k)) 3 7) (get u.cbl.cool k) u)) ∧
    (Starts line seq 0x0601 u c → exec (.cblStatus t line seq) s = .next (doneOut c []
      ((((List.range 4).map fun n => [cblStatWord u n, cblCapWord u n, cblTempWord u n, cblPredWord u n]).flatten.map (leBytes 4)).flatten) u)) ∧
    (Starts line seq 0x0602 u c → ¬4 ≤ c.param 8 1 → exec (.cblRecordRead t line seq) s = .next (doneOut c []
      (((cbl u (c.param 8 1)).record ++ List.replicate 320 0).take 320 ++ ((cbl u (c.param 8 1)).ctr ++ List.replicate 24 0).take 24
        ++ ((cbl u (c.param 8 1)).pend.toList.map fun x => leBytes 8 (x * 2 ^ 32).floor.toNat).flatten) u)) ∧
    (Starts line seq 0x0603 u c → ¬4 ≤ c.param 8 1 → exec (.cblAuth t line seq) s =
      .next (setCbl (c.param 8 1) (fun o => { o with authRun := true, authJob := some (line, seq) }) u)) ∧
    (Starts line seq 0x0604 u c → flushIllegal c u = false → ¬4 ≤ c.param 8 1 → exec (.cblLifeFlush t line seq) s =
      .next (accept c [] (lifeBegin (c.param 8 1) (setCbl (c.param 8 1) (fun o => { o with flushJob := some (line, seq) }) u)))) ∧
    (∀ w v, w = takeNeutral [0x40] u → v = (List.range 4).foldl (fun a n => flowBack n (checkSensors n a))
        { w with cbl.flow := updAll w.cbl.flow fun k _ => flow.getD k 0,
                 cbl.flowBad := updAll w.cbl.flowBad fun k b => b && flow.getD k 0 == 0 && flowAsked w k } → v.dpx.role ≠ 2 →
      exec (.cableModelStep t flow) s = .next ((List.range 4).foldl (fun a n => modelStep n a) v))

/-- Load switch events take effect. A bank's undervoltage turns its channels off, with the last bank the keeper loses
its supply, and its recovery returns them; an owner's command drives the channel; limiting, shutdown, release,
restart, open load and the clamp account act as R276 to R280 say; a generator period takes the next duty and starts
the on-phases; a pickup ends. Forms it says complete, with exec answering their next state: bankUndervoltage,
bankRecovery, lswCommand, lswCurrentLimit, lswThermalShutdown, lswThermalRelease, lswRetry, lswRetryCountReset,
lswOpenLoad, lswOpenLoadClear, lswTurnOffClamp, pgenPeriodStart, pickupEnd. (R273, R274, R276, R277, R278, R279,
R280, R282, R284, R292, 11_load_switches.md) -/
def Obligations.LoadSwitchRowsComplete : Prop :=
  ∀ (t bank ch owner ma energy p : Nat) (on : Bool) (s : State), let u := s.at t; let c := lch u ch
    (∀ (up : List Nat) w, up = (bankChannels bank).filter (fun n => (lch u n).on) → w = up.foldl (fun a n => turnOff n a)
        { u with lsw.good := upd u.lsw.good bank fun _ => false, lsw.uv := upd u.lsw.uv bank fun _ => true } →
      (w.lsw.good.toList.any id = true → exec (.bankUndervoltage t bank) s =
        .next (sweepLsw (up.foldl (fun a n => ctrLost n true a) (raiseLim .supply (raiseRun errBankUv bank w))))) ∧
      (w.lsw.good.toList.any id = false → exec (.bankUndervoltage t bank) s =
        .next (sweepLsw (up.foldl (fun a n => ctrLost n true a) (raiseLim .supply (raiseRun errBankUv bank (keeperLost w))))))) ∧
    (∀ w, w = (bankChannels bank).foldl (fun a n => if retryDue a n then lswRestart n a else lswReturn n a)
        { u with lsw.good := upd u.lsw.good bank fun _ => true, lsw.uv := upd u.lsw.uv bank fun _ => false } →
      exec (.bankRecovery t bank) s = .next (sweepLsw (setLim .supply (w.lsw.uv.toList.any id) w))) ∧
    (3 ≤ u.sys.mode.num → owner = lswOwner u ch → exec (.lswCommand t ch owner on) s = .next (sweepLsw (lswDrive ch on u))) ∧
    (c.on = true → c.limiting = false → exec (.lswCurrentLimit t ch true ma) s =
      .next (lswEvent ch (setCh ch (fun x => { x with limiting := true, current := ma }) u))) ∧
    (c.on = true → c.limiting = true → exec (.lswCurrentLimit t ch false ma) s =
      .next (lswEvent ch (setCh ch (fun x => { x with limiting := false, current := ma }) u))) ∧
    (c.limiting = false → exec (.lswCurrentLimit t ch false ma) s =
      .next (setCh ch (fun x => { x with limiting := false, current := ma }) u)) ∧
    (lswMode u ch ≠ 0 → c.cmd = true → ¬retryN u ch ≤ c.retries → exec (.lswThermalShutdown t ch) s =
      .next (sweepLsw (ctrLost ch c.on (raiseRun errLswThermal ch (lswEvent ch (turnOff ch (setCh ch (fun x =>
        { x with thermal := true, retrySpent := x.retrySpent || false, retryFrom := if x.cmd then some (realNow u) else x.retryFrom }) u))))))) ∧
    (lswMode u ch ≠ 0 → c.cmd = true → retryN u ch ≤ c.retries → c.retrySpent = false → exec (.lswThermalShutdown t ch) s =
      .next (sweepLsw (ctrLost ch c.on (raiseRun errRetrySpent ch (raiseRun errLswThermal ch (lswEvent ch (turnOff ch (setCh ch (fun x =>
        { x with thermal := true, retrySpent := x.retrySpent || true, retryFrom := if x.cmd then some (realNow u) else x.retryFrom }) u)))))))) ∧
    (c.thermal = true → exec (.lswThermalRelease t ch) s =
      .next (sweepLsw (lswReturn ch (lswRestart ch (lswEvent ch (setCh ch (fun x => { x with thermal := false }) u)))))) ∧
    (retryDue u ch = true → get u.lsw.good (lswBank ch) = true → get u.lsw.uv (lswBank ch) = false → exec (.lswRetry t ch) s =
      .next (sweepLsw (lswReturn ch (setCh ch (fun x => { x with retryFrom := none, retries := x.retries + 1 }) u)))) ∧
    (c.on = true → exec (.lswRetryCountReset t ch) s = .next (setCh ch (fun x => { x with retries := 0 }) u)) ∧
    (openLoadOn u ch = true → c.openLoad = false → exec (.lswOpenLoad t ch) s =
      .next (raiseRun errOpenLoad ch (lswEvent ch (setCh ch (fun x => { x with openLoad := true }) u)))) ∧
    (c.openLoad = true → exec (.lswOpenLoadClear t ch) s = .next (lswEvent ch (setCh ch (fun x => { x with openLoad := false }) u))) ∧
    (∀ acc w, acc = clampNow u ch + energy * 100000000 → w = setCh ch (fun x => { x with clampAcc := acc, clampAt := realNow u }) u →
      (¬clampCap u ch < acc → exec (.lswTurnOffClamp t ch energy) s = .next w) ∧
      (clampCap u ch < acc → lswMode u ch ≠ 0 → c.clampLock = false → exec (.lswTurnOffClamp t ch energy) s =
        .next (sweepLsw (ctrLost ch c.on (raiseRun errClampLock ch (lswEvent ch (turnOff ch
          (setCh ch (fun x => { x with clampLock := true, retryFrom := none }) w)))))))) ∧
    (exec (.pgenPeriodStart t p) s = .next { u with
      lsw.dutyLast := upd u.lsw.dutyLast p fun _ => get u.lsw.duty p, lsw.duty := upd u.lsw.duty p fun _ => get u.lsw.dutyNext p,
      lsw.pgenAt := upd u.lsw.pgenAt p fun _ => some (realNow u) }) ∧
    (c.pickup = true → exec (.pickupEnd t ch) s =
      .next (mirrorLoad u (fireEvent (256 + lswPgen u ch) (setCh ch (fun x => { x with pickup := false }) u))))

/-- The MXP chain and the LSW commands take effect. Where no boundary test holds the pins, a frame of an active device
goes out, judges every station and counts a run of bad ones, where the third raises the chain error; a standby only
listens; a pickup ends with ECO; LSW_STATUS, LSW_SET, LSW_CLEAR and MXP_STATUS answer. Forms it says complete, with
exec answering their next state: mxpFrame, mxpPickupEnd, lswStatus, lswSet, lswClear, mxpStatus. (R274, R280, R288,
R289, R290, R291, R295, R507, 11_load_switches.md) -/
def Obligations.MxpChainAndLoadCommandsComplete : Prop :=
  ∀ (t ch line seq : Nat) (words : List Nat) (s : State) (c : Cmd), let u := s.at t
    (¬u.sys.mode.num < 3 → nStations u ≠ 0 → u.dbg.ir ≠ 3 → u.sys.mode ≠ .m7 → ((frameWords u words).all fun y => y.2.isSome) = true →
      exec (.mxpFrame t words) s = .next (sweepLsw { judgeFrame true words (sendMxp u) with lsw.badRun := 0 })) ∧
    (¬u.sys.mode.num < 3 → nStations u ≠ 0 → u.dbg.ir ≠ 3 → u.sys.mode ≠ .m7 → ((frameWords u words).all fun y => y.2.isSome) = false →
      exec (.mxpFrame t words) s = .next (sweepLsw (countBadFrame (judgeFrame true words (sendMxp u))))) ∧
    (u.lsw.badRun ≠ 2 → countBadFrame u = { u with lsw.badRun := min 3 (u.lsw.badRun + 1) }) ∧
    (u.lsw.badRun = 2 → countBadFrame u = raiseRun errMxpChain 0 (fireEvent 272 { u with lsw.badRun := 3 })) ∧
    (nStations u ≠ 0 → u.dbg.ir ≠ 3 → u.sys.mode = .m7 → exec (.mxpFrame t words) s = .next (judgeFrame false words u)) ∧
    (get u.lsw.mOn ch = true → exec (.mxpPickupEnd t ch) s =
      .next (mirrorLoad u { u with lsw.mEco := upd u.lsw.mEco ch fun _ => true })) ∧
    (Starts line seq 0x0701 u c → exec (.lswStatus t line seq) s = .next (doneOut c []
      (((lswBankWord u :: ((List.range 32).map fun n => [lswStatWord u n, lswMeasWord u n]).flatten).map (leBytes 4)).flatten) u)) ∧
    (∀ w, w = (List.range 32).foldl (fun a n => if bit (c.param 8 4) n then lswDrive n (bit (c.param 12 4) n) a else a) u →
      Starts line seq 0x0702 u c → lswSetIllegal c u = false → exec (.lswSet t line seq) s =
        .next (done c (leBytes 4 (maskOf (w.lsw.ch.toList.map (·.on)))) (sweepLsw w))) ∧
    (∀ n, n = c.param 8 1 → Starts line seq 0x0703 u c → lswClearIllegal c u = false → ¬32 ≤ n → c.param 9 1 = 1 →
      (lch u n).clampLock = true → exec (.lswClear t line seq) s =
        .next (done c [] (sweepLsw (lswReturn n (lswEvent n (setCh n (fun x => { x with clampLock := false }) u)))))) ∧
    (∀ n, n = c.param 8 1 → Starts line seq 0x0703 u c → lswClearIllegal c u = false → ¬32 ≤ n → c.param 9 1 = 2 →
      (lch u n).retrySpent = true → exec (.lswClear t line seq) s =
        .next (done c [] (sweepLsw (lswReturn n (lswEvent n (setCh n (fun x =>
          { x with retrySpent := false, retries := 0, retryFrom := if x.thermal then x.retryFrom else none }) u)))))) ∧
    (Starts line seq 0x0704 u c → exec (.mxpStatus t line seq) s = .next (doneOut c []
      ((([mxpCtrlWord u, half64 u.lsw.mOn 0, half64 u.lsw.mOn 1, half64 u.lsw.mCoil 0, half64 u.lsw.mCoil 1,
        half64 u.lsw.mAux 0, half64 u.lsw.mAux 1, mxpErrWord u].map (leBytes 4)).flatten) ++ (u.lsw.stCnt.toList.map (leBytes 2)).flatten) u))

/-- Pilot, proximity, SLAC and the session's steps take effect. A duty applies, a pilot sample is judged, a proximity
band is accepted and connects or disconnects, SLAC starts, matches, fails and retries, protocols are negotiated, the
cable check, precharge and locking follow, and each expiry of a session stops it or releases what R307 to R314 say.
Forms it says complete, with exec answering their next state: cpDutySet, cpSample, ppConversion, ppBandAccept,
slacMessage, vclSlacFail, slacRetry, ckptAckTimeout, appProtocolRequest, cableCheckRequest, prechargeRequest,
lockFeedback, lockTimeout, waitReadyMet, vclWaitTimeout, certRelay, certReplyTimeout, vclTimeout, lockRelease,
capZeroTimeout. (R298, R300, R301, R303, R304, R306, R307, R308, R311, R312, R314, 12_vehicle_ports.md) -/
def Obligations.VehiclePortRowsComplete : Prop :=
  ∀ (t n g duty mv atten vr : Nat) (hmv : Int) (offers : List (Nat × Nat)) (body : List Nat) (s : State), let u := s.at t; let p := prt u n
    (exec (.cpDutySet t n duty) s = .next (setDuty n duty u)) ∧
    (exec (.cpSample t n true hmv) s = .next (highSample n hmv u)) ∧
    (exec (.cpSample t n false hmv) s = .next (lowSample n hmv u)) ∧
    (exec (.ppConversion t n mv) s = .next (proximityGuard n (setPrt n (fun q =>
      { q with vPp := mv, bandNew := ppBand u mv, bandSince := if ppBand u mv == q.bandNew then q.bandSince else u.now }) u))) ∧
    (¬u.now < p.bandSince + 20000000 → p.bandNew ≠ p.band → ppMeaning u p.bandNew = 1 → p.meaning ≠ 1 →
      exec (.ppBandAccept t n) s = .next (ppConnected n (vclEvent n 1 (setPrt n (fun q => { q with band := q.bandNew, meaning := 1 }) u)))) ∧
    (¬u.now < p.bandSince + 20000000 → p.bandNew ≠ p.band → ppMeaning u p.bandNew = 0 → p.sess ≠ 0 →
      exec (.ppBandAccept t n) s = .next (ppNone n (vclEvent n 1 (setPrt n (fun q => { q with band := q.bandNew, meaning := 0 }) u)))) ∧
    (connType u n = 1 → p.duty = 50 → p.pilot = 1 → p.slac = 0 → p.slacTries < 3 → exec (.slacMessage t n .start) s =
      .next (setPrt n (fun q => { q with slac := 1, slacTries := q.slacTries + 1 }) u)) ∧
    (p.slac = 1 → atten ≤ attenMax u n → exec (.slacMessage t n (.matched atten)) s = .next (vclEvent n 2 (setPrt n (fun q =>
      { q with slac := 2, atten := atten % 64, nmk := (drawTrng u).1 % 2 ^ 128, nid := (drawFree (drawTrng u).2).1 % 2 ^ 54 })
        (drawFree (drawTrng u).2).2))) ∧
    (exec (.slacMessage t n .secondVehicle) s = .next u) ∧
    (∀ w, w = vclError errSlacFail n (vclEvent n 2 (setDuty n 1000 (setPrt n (fun q => { q with slac := 3 }) u))) → p.slac = 1 →
      exec (.vclSlacFail t n) s = .next (if 3 ≤ (prt w n).slacTries then stopSession n 11 true w else w)) ∧
    (p.slac = 3 → p.slacTries < 3 → exec (.slacRetry t n) s = .next (setDuty n 50 (setPrt n (fun q => { q with slac := 0 }) u))) ∧
    (p.heldRsp.isSome = true → exec (.ckptAckTimeout t n) s =
      .next (vclError errCkptMiss n (vclEvent n 7 (setPrt n (fun q => { q with desync := true }) (releaseRsp n u))))) ∧
    (∀ k, p.sess = 2 → hasPilot u n = true → bestProto u n offers = some k →
      exec (.appProtocolRequest t n offers) s = .next (respond n [k] (chooseProto n k u))) ∧
    (p.sess = 2 → hasPilot u n = true → bestProto u n offers = none →
      exec (.appProtocolRequest t n offers) s = .next (noProtocol n (respond n [0] u))) ∧
    (p.sess = 3 → exec (.cableCheckRequest t n) s = .next (lswDrive (bits (vclCfg u n) 10 5) true (sessEnter n 4 u))) ∧
    (p.sess = 5 → p.checked = true → (pout u n).ins = .idle → (pout u n).ctrCmd = false → legalOk u = true → param u pLEGAL_ENABLE 0 = 0 →
      exec (.prechargeRequest t n g) s = .next (trackRequest g n .coinOut (sessEnter n 6 u))) ∧
    (exec (.lockFeedback t n true) s = .next (errCleared 6 6 n (setPrt n (fun q => { q with locked := true }) u))) ∧
    (∀ w, w = setPrt n (fun q => { q with locked := false }) u → energised w n = true →
      exec (.lockFeedback t n false) s = .next (lockFail n w)) ∧
    (p.sess = 4 → p.locked = false → exec (.lockTimeout t n) s = .next (lockFail n u)) ∧
    (p.sess = 4 → waitMet u n = true → exec (.waitReadyMet t n g vr) s =
      .next (insRequest n g vr (lglRequest (.sessionOpen n p.proto) (sessEnter n 5 u)))) ∧
    (p.sess = 4 → p.authorised = true → exec (.vclWaitTimeout t n) s = .next (stopSession n 7 false (vclError errWaitTimeout n u))) ∧
    (p.sess = 4 → p.authorised = false → exec (.vclWaitTimeout t n) s = .next (stopSession n 6 false (vclError errWaitTimeout n u))) ∧
    (2 ≤ p.sess → p.sess ≤ 7 → exec (.certRelay t n body) s = .next (vclEvent n 6 (setPrt n (fun q =>
      { q with relayNo := (p.relayNo + 1) % 2 ^ 32, relay := (p.relayNo + 1) % 2 ^ 32, relayBody := body }) u))) ∧
    (p.relay ≠ 0 → exec (.certReplyTimeout t n) s = .next (answerRelay n false [] u)) ∧
    (2 ≤ p.sess → p.sess ≤ 8 → exec (.vclTimeout t n) s = .next (stopSession n 7 false (vclError errVclTimeout n u))) ∧
    (p.sess = 10 → (pout u n).vout < 60000 → (pout u n).ctrFb = false → p.locked = true →
      exec (.lockRelease t n) s = .next (lswDrive (bits (vclCfg u n) 10 5) false u)) ∧
    (∀ t0, p.capZero = some t0 → t0 + 10000000000 ≤ u.now → exec (.capZeroTimeout t n) s = .next (stopSession n 5 false u))

/-- Vehicle messages and the VEH commands take effect. A vehicle message acts and is answered, a retransmission gets the
last response again, a charge loop sets the request, target and V_OV; a standby buffers up to 64 frames or 64 KB and
then marks the overflow; the VEH commands answer. Forms it says complete, with exec answering their next state:
vehicleMessage, vehicleFrameBuffer, vehStatus, vehSessionRead, vehAuthorize, vehStop, vehExportSet, vehCertReply,
vehPortEnable. (R302, R306, R308, R309, R310, R311, R315, R320, R507, 12_vehicle_ports.md) -/
def Obligations.VehicleMessagesAndCommandsComplete : Prop :=
  ∀ (t n len line seq v : Nat) (req : VehReq) (stack rsp : List Nat) (i : Int) (s : State) (c : Cmd), let u := s.at t; let p := prt u n
    let m := c.param 8 1; let d := c.param 9 1
    (u.sys.mode ≠ .m7 → p.rxOnly = false → 2 ≤ p.sess → p.sess ≤ 9 →
      exec (.vehicleMessage t n req false stack rsp) s =
        .next (respond n rsp (setPrt n (fun q => { q with stack := stack }) (vehicleAct n req u))) ∧
      exec (.vehicleMessage t n req true stack rsp) s = .next (emit u .vehicle n (p.lastRsp.map Int.ofNat))) ∧
    (∀ w ov, ¬i < 0 → p.sess = 7 → w = setPrt n (fun q => { q with iReq := i, vTgt := v, discharging := false }) u →
      ov = min (ovMax u n * 1000) (p.vEvMax + param u pOV_MARGIN 0 * 1000) →
      vehicleAct n (.charge i v) u = postRequest n i.toNat (setOut n (fun o => { o with vTarget := v, vov := ov }) w)) ∧
    (u.sys.mode = .m7 → ¬64 ≤ p.frames.length → ¬65536 < (p.frames.map (·.len)).foldl (· + ·) len →
      exec (.vehicleFrameBuffer t n req len stack rsp) s = .next (setPrt n (fun q =>
        { q with frames := q.frames ++ [{ req := req, len := len, stack := stack, rsp := rsp }], desync := q.desync || !u.dpx.roleUp }) u)) ∧
    (u.sys.mode = .m7 → 64 ≤ p.frames.length → exec (.vehicleFrameBuffer t n req len stack rsp) s =
      .next (setPrt n (fun q => { q with frameOvf := true }) u)) ∧
    (Starts line seq 0x0801 u c → exec (.vehStatus t line seq) s = .next (doneOut c []
      (((vclCtrlWord u :: ((List.range 4).map (vclWords u)).flatten).map (leBytes 4)).flatten) u)) ∧
    (∀ q, q = prt u m → Starts line seq 0x0802 u c → ¬4 ≤ m → exec (.vehSessionRead t line seq) s =
      .next (doneOut c [] (((vclWords u m).map (leBytes 4)).flatten ++ leBytes 4 q.vEvMax ++ leBytes 4 q.iEvMax ++ leBytes 4 q.pEvMax
        ++ leBytes 4 q.iDisMax ++ [q.soc, 0, 0, 0] ++ leBytes 4 q.eTarget ++ leBytes 6 q.evMac ++ [0, 0] ++ leBytes 16 q.evId
        ++ errRecBytes q.lastErr ++ leBytes 4 q.relay ++ leBytes 4 q.relayBody.length ++ q.relayBody) u)) ∧
    (∀ w, w = setPrt m (fun q => { q with idType := c.param 10 1, ident := if c.data != [] then c.data else (c.entry.drop 12).take (c.param 11 1) }) u →
      Starts line seq 0x0803 u c → authorizeIllegal c u = false → ¬4 ≤ m → (c.data == [] && decide (32 < c.param 11 1)) = false →
      (d = 1 → exec (.vehAuthorize t line seq) s = .next (done c [] (setPrt m (fun q => { q with authorised := true }) w))) ∧
      (d = 0 → exec (.vehAuthorize t line seq) s = .next (done c [] (stopSession m 6 false w)))) ∧
    (Starts line seq 0x0804 u c → ¬4 ≤ m → exec (.vehStop t line seq) s = .next (done c [] (stopSession m 2 false u))) ∧
    (Starts line seq 0x0805 u c → exportIllegal c u = false → ¬4 ≤ m → ¬3750000 < c.param 12 4 →
      exec (.vehExportSet t line seq) s = .next (done c [] (setPrt m (fun q => { q with pExp := c.param 12 4 }) u))) ∧
    (Starts line seq 0x0806 u c → ¬4 ≤ m → (prt u m).relay ≠ 0 → c.param 12 4 = (prt u m).relay →
      exec (.vehCertReply t line seq) s = .next (done c [] (answerRelay m (c.refLen != 0) c.data u))) ∧
    (∀ w, w = setPrt m (fun q => { q with disabled := d == 0 }) u → Starts line seq 0x0807 u c → portEnableIllegal c u = false →
      ¬4 ≤ m → ¬1 < d → exec (.vehPortEnable t line seq) s = .next (done c [] (setDuty m (idleDuty w m) w)))

/-- Frames, locks, sends, errors, recovery and mode switches of a CAN controller take effect. A frame received is
counted and placed, or dropped where no object matches; reads lock and release an object; an expired lock is
released with its error; sends and cancels by the owner, the end of a sent frame, each bus error, recovery from bus-
off, a protocol exception and its end, and a due mode switch act as their rules say. Forms it says complete, with
exec answering their next state: canFrameRx, canObjLockRead, canRxinfoRead, canLockTo, canTxreq, canTxcancel,
canTxDone, canBusError, canCtrlRecover, canRecoveryDone, canProtocolException, canBusIntegration, canModeSwitch.
(R321, R323, R326, R327, R328, R329, R330, R331, R332, R333, 13_can_controllers.md) -/
def Obligations.CanRowsComplete : Prop :=
  ∀ (t c obj ofs k word lec : Nat) (m : Master) (f : CanFrame) (sof next : Option Nat) (at' : Nat) (by8 : Bool) (s : State), let u := s.at t
    let x := canc u c
    (canMode u c = 1 → x.conf ≠ 2 → x.excepted = false → (f.fdf && !canFd u c) = false → f.remote = false →
      exec (.canFrameRx t c f) s = .next (placeFrame c f (goodRx c (setCan c (fun x => { x with frames := (x.frames + 1) % 65536 }) u)))) ∧
    (canMode u c = 2 → x.conf ≠ 2 → x.excepted = false → (f.fdf && !canFd u c) = false → f.remote = false →
      exec (.canFrameRx t c f) s = .next (placeFrame c f (setCan c (fun x => { x with frames := (x.frames + 1) % 65536 }) u))) ∧
    (canMode u c = 1 → x.conf ≠ 2 → x.excepted = false → (f.fdf && !canFd u c) = true →
      exec (.canFrameRx t c f) s = .next (rxError c 2 false u)) ∧
    (exec (.canObjLockRead t m c obj ofs) s = .next (lockRead m c obj ofs u)) ∧
    (exec (.canRxinfoRead t m c obj) s = .next (rxinfoRead m c obj u)) ∧
    (isRecv u c obj = true → objBit u c obj 5 = true → rxinfoDue u c obj = false → exec (.canLockTo t c obj) s =
      .next (raiseError errCanLockTo c (canEvent c 7 (drainHold c (objPut c obj 5 false u))))) ∧
    (m = canOwner c → exec (.canTxreq t m c k word sof) s =
      .next (beginSof c sof ((wordObjs k word).foldl (fun a o => requestOrCancel c o a) u))) ∧
    (exec (.canTxcancel t m c k word sof) s = .next (txcancelWrite m c k word (beginSof c sof u))) ∧
    (∀ w, w = objPut c obj 2 true (objPut c obj 1 false (objPut c obj 0 false u)) → x.txing = some obj → canMode u c ≠ 3 →
      exec (.canTxDone t c obj at' next) s = .next (beginSof c next (answerCancel c obj 1 (canEvent c 1 (confine c (endLone c
        (setCan c (fun y => { y with txing := none, tec := y.tec - 1, cancels := y.cancels.filter (· != obj) })
          { w with mem := memWrite w.mem (objAddr c obj + 16) 8 at' }))))))) ∧
    (x.txing = some obj → onBus u c = true → exec (.canBusError t c .arbitration sof) s = .next (beginSof c sof (endAttempt c false u))) ∧
    (x.txing = some obj → onBus u c = true → exec (.canBusError t c .ack sof) s = .next (beginSof c sof (ackError c u))) ∧
    (x.txing = some obj → onBus u c = true → exec (.canBusError t c (.sending lec) sof) s =
      .next (beginSof c sof (confine c (endAttempt c false (setCan c (fun y => { y with lec := lec, tec := y.tec + 8, ackRun := 0 }) u))))) ∧
    (canMode u c ≠ 0 → exec (.canBusError t c (.receiving lec by8) sof) s = .next (beginSof c sof (rxError c lec by8 u))) ∧
    (m = canOwner c → x.conf = 2 → exec (.canCtrlRecover t m c) s = .next (setCan c (fun y => { y with recovering := true }) u)) ∧
    (∀ w, w = canEvent c 2 (setCan c (fun y => { y with tec := 0, recv := 0, conf := 0, recovering := false }) u) → x.conf = 2 →
      x.recovering = true → exec (.canRecoveryDone t c) s =
        .next { w with vcl.port := upd w.vcl.port c fun p => { p with busoff := false } }) ∧
    (canMode u c ≠ 0 → canFd u c = true → exec (.canProtocolException t c) s =
      .next (canEvent c 7 (setCan c (fun y => { y with excepted := true }) u))) ∧
    (exec (.canBusIntegration t c) s = .next (setCan c (fun y => { y with excepted := false }) u)) ∧
    (x.modeDue = true → exec (.canModeSwitch t c) s = .next (emptySends c (wrf (setCan c CanCtl.monitor u) (canBase c) 0 2 1)))

/-- The CAN commands answer, write, cancel and recover. CAN_STATUS gives every controller's words, CAN_OBJ_READ the
objects' bytes, CAN_OBJ_WRITE writes an object and may request its send, CAN_TX_CANCEL cancels and waits for the end
of a frame being sent, CAN_RECOVER starts recovery. Forms it says complete, with exec answering their next state:
canStatus, canObjRead, canObjWrite, canTxCancel, canRecover. (R326, R328, R329, R331, R337, R507,
13_can_controllers.md) -/
def Obligations.CanCommandsComplete : Prop :=
  ∀ (t line seq : Nat) (s : State) (k : Cmd), let u := s.at t; let c := k.param 8 1; let m := k.param 9 1; let n := k.param 10 1
    (Starts line seq 0x0901 u k → exec (.canStatus t line seq) s = .next (doneOut k [] ((((List.range 6).map fun c =>
      [canStatWord u c, canEcntWord u c, canCntWord u c, canDropWord u c]).flatten.map (leBytes 4)).flatten) u)) ∧
    (Starts line seq 0x0902 u k → ¬6 ≤ c → ¬128 ≤ m → n ≠ 0 → ¬128 < m + n →
      exec (.canObjRead t line seq) s = .next (doneOut k [] (memBytes u.mem (objAddr c m) (96 * n)) u)) ∧
    (Starts line seq 0x0903 u k → canForeign true k u = false → ¬6 ≤ c → ¬128 ≤ m → k.data.length = 96 →
      (n = 0 → exec (.canObjWrite t line seq) s = .next (done k [] (writeObject c m k.data u))) ∧
      (n = 1 → exec (.canObjWrite t line seq) s = .next (done k [] (requestSend c m (writeObject c m k.data u))))) ∧
    (Starts line seq 0x0904 u k → canForeign true k u = false → ¬6 ≤ c → ¬128 ≤ m → isSend u c m = true → (canc u c).txing = some m →
      exec (.canTxCancel t line seq) s = .next (setCan c (fun x => { x with job := some (m, line, seq) }) (cancelObj c m u))) ∧
    (Starts line seq 0x0904 u k → canForeign true k u = false → ¬6 ≤ c → ¬128 ≤ m → isSend u c m = true → (canc u c).txing ≠ some m →
      exec (.canTxCancel t line seq) s = .next (done k [b2n (!objBit u c m 0 && objBit u c m 2)] (cancelObj c m u))) ∧
    (Starts line seq 0x0905 u k → canForeign false k u = false → ¬6 ≤ c → (canc u c).conf = 2 →
      exec (.canRecover t line seq) s = .next (done k [] (setCan c (fun x => { x with recovering := true }) u)))

/-- Samples, cycles, events, harmonics, ticks and pulses of the metering take effect. While the metering runs a DC
sample is calibrated, weighted and accumulated, an AC cycle, refresh and harmonic window are taken, and a latch tick
latches every value; test pulses end and follow one another; overrange, sense-line faults, cross-check failures and
self-tests act; a capture, the end of its window and the loss bound are recorded. Forms it says complete, with exec
answering their next state: dcMeterSample, acCycle, acHalfCycle, harmonicWindow, latchTick, testPulseEnd,
testPulseGapEnd, senseInvalid, senseValid, mtrOverrange, meterCrosscheckFail, meterSelftest, mtrSnapCapture,
wideWindowEnd, lossBoundRecord. (R338, R339, R343, R344, R347, R351, R352, R354, R357, R359, R361, 14_metering.md) -/
def Obligations.MeteringRowsComplete : Prop :=
  ∀ (t n k ch period : Nat) (v vs i1 i16 tdie : Int) (ovV ov1 ov16 valid : Bool) (av aq ai : List (List Int)) (ur : List Nat)
    (groups : List (List Nat)) (dcs acs : List Bool) (s : State), let u := s.at t; let c := mdc u n; let p := get u.mtr.tp k
    (∀ cv cvs c1 c16, dcOn u n = true → mtrRuns u = true → cv = dcCal u n 0 tdie v → cvs = dcCal u n 1 tdie vs →
      c1 = dcCal u n 2 tdie i1 → c16 = dcCal u n 3 tdie i16 →
      exec (.dcMeterSample t n v vs i1 i16 tdie ovV ov1 ov16) s = .next (dcTake n cv cvs c1 c16 ovV ov1 ov16 u)) ∧
    (∀ x f, acOn u k = true → mtrRuns u = true → x = acValues u k av aq ai tdie → f = acFreq (acPeriods u k period valid) →
      exec (.acCycle t k period valid av aq ai tdie) s = .next (tpFollow (4 + k) (acEnergy k period x.1 x.2.1 x.2.2.1
        (syncCycle k (freqGood f) (setMac k (fun c =>
          { c with periods := acPeriods u k period valid, freq := f, freqOk := freqGood f, cyc := c.cyc ++ [x] }) u))))) ∧
    (acOn u k = true → mtrRuns u = true → exec (.acHalfCycle t k ur) s = .next (acRefresh k ur (takeNeutral [0x81] u))) ∧
    (∀ h, acOn u k = true → mtrRuns u = true → h = harmAll groups u → exec (.harmonicWindow t k groups) s =
      .next (fireEvent 381 (setMac k (fun c =>
      { c with harm := h.1, harmEnd := devTime u, harmF := c.freq,
                 thdU := ((h.1.take 3).map Prod.snd).foldl max 0, thdI := (((h.1.drop 3).take 3).map Prod.snd).foldl max 0 }) h.2))) ∧
    (∀ w, mtrRuns u = true → tickDue u = true → w = latchAll u → exec (.latchTick t) s =
      .next (flushLgl ((List.range 4).foldl (fun a n => creditTick n a) (if pairRuns w then pairTick w else w)))) ∧
    (p.high = true → exec (.testPulseEnd t k) s = .next (emit (setTp k (fun p => { p with high := false, gap := true }) u) .testPulse k [0])) ∧
    (∀ us rest, p.gap = true → p.backlog = us :: rest → exec (.testPulseGapEnd t k) s =
      .next (startPulse k us (setTp k (fun q => { q with gap := false, backlog := q.backlog.drop 1 }) u))) ∧
    (p.gap = true → p.backlog = [] → exec (.testPulseGapEnd t k) s =
      .next (setTp k (fun q => { q with gap := false, backlog := q.backlog.drop 1 }) u)) ∧
    (∀ x, rdb u (dcAddr n + 4) 16 = true → c.senseBad = false → c.senseOut = some x → x + 1000000000 ≤ u.now → exec (.senseInvalid t n) s =
      .next (raiseError errSenseBad n (fireEvent 380 (setMdc n (fun c => { c with senseBad := true }) u)))) ∧
    (∀ x, c.senseIn = some x → x + 10000000000 ≤ u.now → exec (.senseValid t n) s = .next (setMdc n (fun c => { c with senseBad := false }) u)) ∧
    (∀ x, (mdc u ch).ovrSince = some x → x + 10000000 ≤ u.now → exec (.mtrOverrange t ch) s =
      .next (raiseError errOverrange ch (fireEvent 374 u))) ∧
    (4 ≤ ch → exec (.mtrOverrange t ch) s = .next (raiseError errOverrange ch (fireEvent 374 u))) ∧
    (∀ x, c.crossSince = some x → x + 1000000000 ≤ u.now → exec (.meterCrosscheckFail t n) s = .next (flushLgl (dcFails n u))) ∧
    (exec (.meterSelftest t dcs acs) s = .next (flushLgl (legalUpdate { selftestStep dcs acs u with
      mtr.selftestOk := (((List.range 4).all fun n => !dcOn u n || dcs.getD n true) && (List.range 2).all fun k => !acOn u k || acs.getD k true) }))) ∧
    (wideWindow u = true → exec (.mtrSnapCapture t) s = .next { u with mtr.snap := u.mtr.wide, mtr.snapDone := true }) ∧
    (exec (.wideWindowEnd t) s = .next (wideEvent u { u with mtr.window60 := false })) ∧
    (mtrRuns u = true → pairRuns u = true → exec (.lossBoundRecord t) s =
      .next { u with lgl.hiP := updAll u.lgl.hiP fun n x => max x (mdc u n).pk, lgl.hiAt := devTime u,
                     mtr.dc := updAll u.mtr.dc fun _ c => { c with pk := 0 } })

/-- A calibrated DC sample joins its channel's sums, and its energy unless it creeps. The weight steps as R339 says;
voltage, weighted current and power join the channel's sums; a creeping sample adds no energy; the test pulse output
then follows. (R338, R339, R340, R341, R342, 14_metering.md) -/
def Obligations.DcSampleSums : Prop :=
  ∀ (n : Nat) (cv cvs c1 c16 : Rat) (ovV ov1 ov16 : Bool) (w : Nat) (u : State), let c := mdc u n
    n < 4 → w = fadeStep u n c1 (ov16 || atScale c16 ((fs1Of u n : Rat) / 16)) c.w →
      (mdc (dcSum n cv cvs c1 c16 ovV ov1 ov16 u) n).w = w ∧ (mdc (dcSum n cv cvs c1 c16 ovV ov1 ov16 u) n).sumV = c.sumV + cv ∧
      (mdc (dcSum n cv cvs c1 c16 ovV ov1 ov16 u) n).sumI = c.sumI + dcAmps u n w c1 c16 ∧
      (mdc (dcSum n cv cvs c1 c16 ovV ov1 ov16 u) n).sumP = c.sumP + cv * dcAmps u n w c1 c16 ∧
      ((mdc (dcSum n cv cvs c1 c16 ovV ov1 ov16 u) n).creep = true → dcTake n cv cvs c1 c16 ovV ov1 ov16 u =
        tpFollow n (dcSum n cv cvs c1 c16 ovV ov1 ov16 u)) ∧
      ((mdc (dcSum n cv cvs c1 c16 ovV ov1 ov16 u) n).creep = false → dcTake n cv cvs c1 c16 ovV ov1 ov16 u = tpFollow n (addSample n
        (cv * dcAmps u n w c1 c16) (dcAmps u n w c1 c16) (inletOf u n cv cvs (dcAmps u n w c1 c16)) (dcSum n cv cvs c1 c16 ovV ov1 ov16 u)))

/-- The MTR commands answer, free events, stage and commit calibration and set pulse outputs. MTR_STATUS, MTR_READ and
MTR_HARM_READ answer; MTR_EVENT_READ frees the records its reference takes whole; MTR_EXTREME_RESET clears the
extremes; calibration is staged and handed to the legal pair only with the seal open, else LOCKED; MTR_TP_SET sets
an output's source. Forms it says complete, with exec answering their next state: mtrStatus, mtrRead, mtrHarmRead,
mtrEventRead, mtrExtremeReset, mtrCalWrite, mtrCalCommit, mtrTpSet. (R346, R347, R350, R354, R359, R363, R373, R501,
R508, 14_metering.md) -/
def Obligations.MeteringCommandsComplete : Prop :=
  ∀ (t line seq : Nat) (s : State) (c : Cmd), let u := s.at t; let a := c.param 8 1; let n := c.param 9 1; let w := c.param 10 1
    (Starts line seq 0x0A01 u c → exec (.mtrStatus t line seq) s = .next (doneOut c [] ((mtrStatusWords u).map (leBytes 4)).flatten u)) ∧
    (Starts line seq 0x0A02 u c → mtrReadIllegal c u = false → ¬40 ≤ a → ¬n < 1 → ¬40 < a + n → ¬1 < w →
      exec (.mtrRead t line seq) s = .next (doneOut c [] (leBytes 4 u.mtr.latchSeq ++ [0, 0, 0, 0] ++ leBytes 8 u.mtr.latchTime ++
        ((List.range n).map fun j => if w = 1 then leBytes 16 (get u.mtr.snap (a + j)) else leBytes 8 (get u.mtr.latched (a + j))).flatten) u)) ∧
    (Starts line seq 0x0A03 u c → ¬2 ≤ a → exec (.mtrHarmRead t line seq) s =
      .next (doneOut c [] (leBytes 8 (mac u a).harmEnd ++ leBytes 4 (mac u a).harmF ++ [0, 0, 0, 0] ++ ((List.range 7).map fun j =>
        ((fit 63 ((mac u a).harm.getD j ([], 0)).1).map (leBytes 4)).flatten ++ leBytes 4 ((mac u a).harm.getD j ([], 0)).2).flatten) u)) ∧
    (∀ l, l = (mac u a).evq.take n → Starts line seq 0x0A04 u c → ¬2 ≤ a → ¬n < 1 → ¬16 < n → exec (.mtrEventRead t line seq) s =
      .next (doneOut c [l.length] (l.map acEventBytes).flatten (setMac a (fun m =>
        { m with evq := m.evq.drop (min l.length ((respPart c (some (l.map acEventBytes).flatten)).length / 24)) }) u))) ∧
    (Starts line seq 0x0A05 u c → ¬4 ≤ a → exec (.mtrExtremeReset t line seq) s =
      .next (done c [] (setMdc a (fun m => { m with vMin := 0xFFFF, vMax := 0 }) u))) ∧
    (Starts line seq 0x0A06 u c → calBad c = none → u.lgl.sealOpen = false →
      exec (.mtrCalWrite t line seq) s = .next (finish c { status := stLocked } u)) ∧
    (∀ k, Starts line seq 0x0A06 u c → calBad c = none → u.lgl.sealOpen = true → k = (if a < 4 then 4 * a + n else 16 + 7 * (a - 4) + n) →
      exec (.mtrCalWrite t line seq) s = .next (done c [] { u with mtr.calNew := some (upd (u.mtr.calNew.getD u.mtr.cal) k fun p =>
        { gain := if bit w 0 then c.param 12 4 else p.gain, ofs := if bit w 1 then signed 32 (c.param 16 4) else p.ofs,
          tc1 := if bit w 2 then signed 32 (c.param 20 4) else p.tc1, tc2 := if bit w 3 then signed 32 (c.param 24 4) else p.tc2,
          phase := if bit w 4 then signed 16 (c.param 28 2) else p.phase }) })) ∧
    (Starts line seq 0x0A07 u c → noPendingCal c u = false → u.lgl.sealOpen = true →
      exec (.mtrCalCommit t line seq) s = .next (accept c [] (lglRequest (.calCommit line seq) u))) ∧
    (Starts line seq 0x0A08 u c → ¬6 ≤ a → ¬(if a < 4 then 6 else 8) ≤ n → ¬c.param 12 4 < 1 → ¬100000 < c.param 12 4 →
      exec (.mtrTpSet t line seq) s = .next (done c [] (setTp a (fun p => { p with srcSet := some (n, c.param 12 4) }) u)))

/-- Requests, time, heartbeats, restarts, the seal, the log, the display and the optical port of the legal pair take
effect. The running pair takes the request at the front of its ring, opens and closes sessions, loads parameters,
takes a calibration and a role, follows time information, keeps boundaries and saves, draws its display and answers
the optical port; a stalled, restarted or lost pair and a changed seal act as their rules say. Forms it says
complete, with exec answering their next state: sessionOpen, sessionClose, paramLoad, calCommit, roleRequest,
timeInfo, legalTimeCheck, legalBoundary, legalHeartbeat, legalHeartbeatStall, lglLost, legalRestartDone,
legalStartupDone, sealChange, logRetry, periodicSave, legalDisplayFrame, displayScreenAdvance, opticalSignOn,
opticalAck, opticalTimeout. (R356, R366, R367, R368, R369, R370, R373, R374, R379, R384, R390, 15_legal_billing.md) -/
def Obligations.LegalPairRowsComplete : Prop :=
  ∀ (t n proto reason line seq option rate : Nat) (data addr : List Nat) (sb synced : Bool) (ofs : Int) (rest : List LglReq) (s : State)
    , let u := s.at t; let w := fun q => { u with lgl.ring := rest, lgl.report := some (q, true) }; let r := rebase u
    (pairRuns u = true → u.lgl.ring = .sessionOpen n proto :: rest → (get u.lgl.sess n).isSome = false → ¬4 ≤ n →
      exec (.sessionOpen t) s = .next (settleLgl (openLegal n proto (w (.sessionOpen n proto))))) ∧
    (pairRuns u = true → u.lgl.ring = .sessionClose n reason :: rest → (get u.lgl.sess n).isNone = false →
      exec (.sessionClose t) s = .next (settleLgl (closeLegal n reason 0 0 (w (.sessionClose n reason))))) ∧
    (∀ a b, pairRuns u = true → u.lgl.ring = .paramLoad data line seq :: rest → a = writeParams data (w (.paramLoad data line seq)) →
      b = lglEvent 7 (leBytes 4 (legalPar a 8 4) ++ leBytes 4 a.lgl.gen ++ [if u.sys.mode == .m9 then 1 else 2]) a →
      exec (.paramLoad t) s = .next (settleLgl (finishAccepted line seq { result := leBytes 4 b.lgl.gen } (runBoundary false false b)))) ∧
    (∀ v, pairRuns u = true → u.lgl.ring = .calCommit line seq :: rest → u.mtr.calNew = some v → exec (.calCommit t) s =
      .next (settleLgl { w (.calCommit line seq) with mtr.calDue := some (v, (u.lgl.calSeq + 1) % 2 ^ 32, line, seq), mtr.calNew := none })) ∧
    (pairRuns u = true → u.lgl.ring = .role sb :: rest → u.lgl.standby ≠ sb →
      exec (.roleRequest t) s = .next (settleLgl (lglEvent 0xD [b2n sb] { w (.role sb) with lgl.standby := sb }))) ∧
    (pairRuns r = true → r.lgl.synced = false → exec (.timeInfo t ofs true) s = .next (settleLgl (runBoundary false false (timeCheck
      (lglEvent 0x10 (leBytes 8 (unsigned 64 (timeDiff { r with lgl.utcOfs := ofs, lgl.synced := true } / 1000000)))
        { r with lgl.utcOfs := ofs, lgl.synced := true }))))) ∧
    (pairRuns r = true → r.lgl.synced = true → exec (.timeInfo t ofs false) s = .next (settleLgl (runBoundary false false
      (lglEvent 0xF [] { r with lgl.utcOfs := ofs, lgl.synced := false, lgl.slew := 0 })))) ∧
    (pairRuns u = true → u.lgl.synced = true → exec (.legalTimeCheck t) s = .next (timeCheck u)) ∧
    (pairRuns u = true → exec (.legalBoundary t) s = .next (settleLgl (runBoundary false false u))) ∧
    (lglPowered u = true → exec (.legalHeartbeat t) s = .next (legalFound (settleLgl
      { u with lgl.hbAt := u.now, lgl.hbSince := if u.lgl.stalled then u.now else u.lgl.hbSince, lgl.stalled := false }))) ∧
    (lglPowered u = true → exec (.legalHeartbeatStall t) s = .next (settleLgl { u with lgl.stalled := true })) ∧
    (lglPowered u = true → exec (.lglLost t) s = .next (flushLgl (loseLegal { u with lgl.stalled := true }))) ∧
    (∀ a, u.lgl.restarting = true → u.lgl.startup = true → a = { u with
        lgl.restarting := false, lgl.stalled := false, lgl.hbAt := u.now, lgl.hbSince := u.now } →
      exec (.legalRestartDone t) s =
        .next (settleLgl (runBoundary false true (lglEvent 0xA [u.lgl.restartCause] (publish 0x15 1 u.lgl.restartCause a))))) ∧
    (∀ a, lglPowered u = true → 3 ≤ u.sys.mode.num → u.lgl.startup = false → 0x3FFFFF ≤ u.lgl.ringEnd → u.lgl.ringEnd < 0x10000000 →
      a = startRecords (startClock (chooseCopy (tailScan u))) → exec (.legalStartupDone t) s =
        .next (settleLgl { a with lgl.startup := true, lgl.closeAtRestart := none, lgl.pfwAt := none, lgl.stalled := false,
                                  lgl.hbAt := a.now, lgl.hbSince := a.now })) ∧
    (u.lgl.sealOpen = false → pairRuns { u with lgl.sealOpen := true } = true → u.sys.mode = .m9 →
      exec (.sealChange t true) s = .next (settleLgl { u with lgl.sealOpen := true })) ∧
    (∀ a, u.lgl.sealOpen = true → pairRuns { u with lgl.sealOpen := false } = true →
      a = settleLgl (lglEvent 5 [] { u with lgl.sealOpen := false }) → a.sys.mode = .m9 →
      exec (.sealChange t false) s = .next (toM3 a)) ∧
    (pairRuns u = true → exec (.logRetry t true) s = .next (settleLgl (logRetried u)) ∧ exec (.logRetry t false) s = .next (xsp1Err u)) ∧
    (pairRuns u = true → lglPowered u = true → u.lgl.emgDue = false →
      exec (.periodicSave t true) s = .next (settleLgl (periodicSave (logRetried u))) ∧
      exec (.periodicSave t false) s = .next (settleLgl (logFails (xsp1Err u)))) ∧
    (∀ k bs, pairRuns u = true → k = (screens u).getD ((u.lgl.screen - 1) % (screens u).length) (0, 0) →
      bs = [0x5A, u.lgl.screen] ++ ((screenLines u k.1 k.2).map line20).flatten →
      exec (.legalDisplayFrame t) s = .next (emit u .display 0 ((bs ++ [crc8 bs]).map Int.ofNat))) ∧
    (pairRuns u = true → exec (.displayScreenAdvance t) s =
      .next { u with lgl.screen := if (screens u).length ≤ u.lgl.screen then 1 else u.lgl.screen + 1 }) ∧
    (pairRuns u = true → u.lgl.optical = .waiting → addr = [] ∨ addr = optAddr u → exec (.opticalSignOn t addr) s =
      .next (emit { u with lgl.optical := .identified } .optical 0 ((asc "/SVB6BD4876\r\n").map Int.ofNat))) ∧
    (pairRuns u = true → u.lgl.optical = .identified → option = 0 → rate ≤ 6 → exec (.opticalAck t option rate) s =
      .next (emit { u with lgl.optical := .waiting } .optical rate ((dataBlock u).map Int.ofNat))) ∧
    (exec (.opticalTimeout t) s = .next { u with lgl.optical := .waiting })

/-- The LGL commands answer, hand over parameter sets, set credit and windows. LGL_STATUS and LGL_LOG_READ answer;
LGL_PARAM_LOAD of a valid signed set is accepted and handed to the pair; LGL_CREDIT_SET sets a port's account and
LGL_WINDOW_SET the protected windows. Forms it says complete, with exec answering their next state: lglStatus,
lglLogRead, lglParamLoad, lglCreditSet, lglWindowSet. (R385, R386, R389, R396, R398, R501, R508,
15_legal_billing.md) -/
def Obligations.LegalCommandsComplete : Prop :=
  ∀ (t line seq : Nat) (s : State) (c : Cmd), let u := s.at t; let d := c.data; let act := fld d 1752 8
    (Starts line seq 0x0B01 u c → exec (.lglStatus t line seq) s = .next (doneOut c [] (lglStatusBytes u) u)) ∧
    (∀ l, l = fitting (if c.refKind == 0 then 0 else c.refLen) ((u.lgl.index.filter fun r => decide (c.param 8 8 ≤ r.1)).take (c.param 16 4)) →
      Starts line seq 0x0B02 u c → exec (.lglLogRead t line seq) s =
        .next (doneOut c (leBytes 8 ((l.head?.map Prod.fst).getD 0) ++ leBytes 8 ((l.getLast?.map Prod.fst).getD 0) ++ leBytes 4 l.length)
          (l.map fun r => memBytes u.mem (0x90000000 + r.2.2.1) r.2.2.2).flatten u)) ∧
    (Starts line seq 0x0B03 u c → ¬d.length < 3456 → ¬(fld d 0 2 != 0x7EA8 || fld d 2 1 != 1 || fld d 3452 4 != crc32 (d.take 3452)) = true →
      paramRangesOk d = true → (act = 0 ∨ ¬act < legalMs u + 60000) → u.sys.mode = .m9 → u.lgl.sealOpen = true →
      exec (.lglParamLoad t line seq true) s = .next (accept c [] (lglRequest (.paramLoad d line seq) u))) ∧
    (Starts line seq 0x0B03 u c → ¬d.length < 3456 → ¬(fld d 0 2 != 0x7EA8 || fld d 2 1 != 1 || fld d 3452 4 != crc32 (d.take 3452)) = true →
      paramRangesOk d = true → ¬act < legalMs u + 60000 → u.sys.mode ≠ .m9 → onlyPassiveDiffers d u = true →
      exec (.lglParamLoad t line seq true) s = .next (accept c [] (lglRequest (.paramLoad d line seq) u))) ∧
    (Starts line seq 0x0B04 u c → creditIllegal c u = false → ¬4 ≤ c.param 8 1 → ¬2 ≤ c.param 9 1 → ¬100000 < c.param 20 4 → ¬100 < c.param 24 1 →
      exec (.lglCreditSet t line seq) s = .next (done c (leBytes 4 0 ++ leBytes 8 (unsigned 64
        (((get (creditSet c u).lgl.prepay (c.param 8 1)).getD {}).account / 1000))) (creditSet c u))) ∧
    (Starts line seq 0x0B05 u c → ¬8 < c.param 8 1 → ((List.range (c.param 8 1)).filterMap (windowFault c)).head? = none →
      exec (.lglWindowSet t line seq) s = .next (done c [] { u with lgl.windows := (List.range (c.param 8 1)).map (windowOf c) }))

/-- Masks, the crypto engine, the TRNG, service rights and the life cycle take effect. A re-mask gives every free slot a
fresh mask and waits for a busy one; a request that is allowed runs or queues, the legal pair ahead, and one that is
not is denied with its error; an operation's end starts the next; a TRNG failure and its recovery, the end of
service rights, and a life-cycle change act as their rules say. Forms it says complete, with exec answering their
next state: keyRemask, cryptoRequest, cryptoDone, keyTrngFail, trngStartupTest, svcRightsExpiry, keyLcSet. (R407,
R409, R410, R413, R414, R416, R417, R418, R420, 16_keys_lifecycle.md) -/
def Obligations.KeyRowsComplete : Prop :=
  ∀ (t line seq user n port target : Nat) (slot : Option Nat) (op : CryptoKind) (s : State) (c : Cmd), let u := s.at t
    let x : CryptoOp := { user := user, slot := slot }
    (∀ w, u.key.trngOk = true → u.key.running.bind (·.slot) = none → w = (List.range 64).foldl (fun a n => remaskSlot n a) u →
      exec (.keyRemask t) s = .next { w with key.remask := (w.key.remask + 1) % 65536 }) ∧
    (∀ w, u.key.trngOk = true → u.key.running.bind (·.slot) = some n →
      w = (List.range 64).foldl (fun a k => if some n == some k then a else remaskSlot k a) u →
      exec (.keyRemask t) s = .next { w with key.remaskDue := true }) ∧
    (slot = none → (needsRandom op && !u.key.trngOk) = false → u.key.running.isNone = true →
      exec (.cryptoRequest t user slot op) s = .next { u with key.running := some x }) ∧
    (slot = some n → n < 64 → (kslot u n).filled = true → userAllowed u user n = true → kindFits op (kslot u n).typ = true →
      (needsRandom op && !u.key.trngOk) = false → u.key.running.isNone = true →
      exec (.cryptoRequest t user slot op) s = .next { u with key.running := some x }) ∧
    (slot = none → (needsRandom op && !u.key.trngOk) = false → u.key.running.isNone = false → user = 5 →
      exec (.cryptoRequest t user slot op) s = .next { u with
        key.queue := u.key.queue.filter (fun (y : CryptoOp) => y.user == 5) ++ [x] ++ u.key.queue.filter fun (y : CryptoOp) => y.user != 5 }) ∧
    (slot = none → (needsRandom op && !u.key.trngOk) = false → u.key.running.isNone = false → user ≠ 5 →
      exec (.cryptoRequest t user slot op) s = .next { u with key.queue := u.key.queue ++ [x] }) ∧
    (slot = some n → userAllowed u user n = false → exec (.cryptoRequest t user slot op) s =
      .next (raiseError errUseDenied n (fireEvent 456 u))) ∧
    (∀ y, u.key.running = some y → (u.key.remaskDue && u.key.trngOk) = false → u.key.lcJob = none →
      exec (.cryptoDone t) s = .next { u with key.running := u.key.queue.head?, key.queue := u.key.queue.drop 1 }) ∧
    (∀ y, u.key.running = some y → (u.key.remaskDue && u.key.trngOk) = false → u.key.lcJob = some (target, line, seq) →
      exec (.cryptoDone t) s = .next (finishLc target { u with key.running := none })) ∧
    (¬u.sys.mode.num < 2 → u.key.lcJob = none → exec (.keyTrngFail t) s =
      .next (raiseError errTrngFail 0 (fireEvent 457 { u with key.trngOk := false, key.lcJob := none }))) ∧
    (¬u.sys.mode.num < 2 → u.key.lcJob = some (target, line, seq) → exec (.keyTrngFail t) s = .next (raiseError errTrngFail 0
      (fireEvent 457 (finishAccepted line seq { status := stIllegal } { u with key.trngOk := false, key.lcJob := none })))) ∧
    (∀ w, ¬u.sys.mode.num < 2 → w = errCleared 13 2 0 { u with key.trngOk := true } → (w.key.imageOk && w.cfg.loaded) = true →
      exec (.trngStartupTest t) s = .next (genMissing w)) ∧
    (get u.key.rights (port - 1) = true → exec (.svcRightsExpiry t port) s =
      .next (fireEvent 461 { u with key.rights := upd u.key.rights (port - 1) fun _ => false })) ∧
    (∀ w, target = c.param 8 1 → Starts line seq 0x0C06 u c → lcIllegal c u = false → target ≠ 4 → target ≠ 5 → (target = 2 → gradeOk u = true) →
      w = discardLines stFault 0 (fun l => linePort (accept c [] u) l != c.port) (accept c [] u) → w.key.running.isSome = false →
      exec (.keyLcSet t line seq false) s = .next (finishLc target w)) ∧
    (∀ w v, target = c.param 8 1 → v = leValue ((c.entry.drop 12).take 16) → Starts line seq 0x0C06 u c → lcIllegal c u = false →
      target = 4 ∨ target = 5 → ¬c.data.length < 96 → nonceValid u c.port v = true → (kslot u (target + 1)).filled = true →
      w = discardLines stFault 0 (fun l => linePort (accept c [] (useNonce v u)) l != c.port) (accept c [] (useNonce v u)) →
      w.key.running.isSome = true →
      exec (.keyLcSet t line seq true) s = .next { w with key.lcJob := some (target, line, seq) })

/-- The KEY commands answer, grant rights, write, destroy and attest. KEY_STATUS and KEY_PUB_READ answer; KEY_SVC_AUTH
with a good signature and nonce grants service rights; KEY_WRITE stages the slot until the image is written;
KEY_DESTROY empties a slot and commits; KEY_ATTEST answers with its statement and signature, the signature's value
free. Forms it says complete, with exec answering their next state: keyStatus, keyPubRead, keySvcAuth, keyWrite,
keyDestroy, keyAttest. (R407, R408, R410, R411, R412, R415, R422, R501, R508, 16_keys_lifecycle.md) -/
def Obligations.KeyCommandsComplete : Prop :=
  ∀ (t line seq : Nat) (s : State) (c : Cmd), let u := s.at t; let n := c.param 8 1; let typ := c.param 9 1; let users := c.param 10 1
    (Starts line seq 0x0C01 u c → exec (.keyStatus t line seq) s = .next (doneOut c []
      (([keyLcWord u, keyStatWord u, keyFillWord u 0, keyFillWord u 1].map (leBytes 4)).flatten ++
        ((List.range 64).map fun n => [slotClass n, (kslot u n).typ, (kslot u n).users, 0]).flatten) u)) ∧
    (Starts line seq 0x0C02 u c → pubIllegal c u = false → ¬64 ≤ n → exec (.keyPubRead t line seq) s =
      .next (doneOut c [(kslot u n).typ] (pubOf (kslot u n)) u)) ∧
    (∀ v w, v = leValue ((c.entry.drop 8).take 16) → w = { useNonce v u with
        key.rights := upd (useNonce v u).key.rights (c.port - 1) fun _ => true } → Starts line seq 0x0C03 u c → ¬c.data.length < 96 →
      nonceValid u c.port v = true → (kslot u 1).filled = true →
      (get u.key.rights (c.port - 1) = false → exec (.keySvcAuth t line seq true) s = .next (done c [] (fireEvent 461 w))) ∧
      (get u.key.rights (c.port - 1) = true → exec (.keySvcAuth t line seq true) s = .next (done c [] w))) ∧
    (∀ k, Starts line seq 0x0C04 u c → writeIllegal c u = false → ¬64 ≤ n → ¬(typ = 0 ∨ 6 < typ ∨ ((n == 1 || n == 2 || (8 ≤ n && n < 16)) && typ != 6) = true) →
      ¬64 ≤ users → ¬c.data.length < keyBytes typ → u.cfg.write.isSome = false →
      k = maskSlot typ users (leValue (c.data.take (heldBytes typ))) ((c.data.drop (heldBytes typ)).take (keyBytes typ - heldBytes typ)) u →
      exec (.keyWrite t line seq true) s = .next { k.2 with key.newSlot := some (n, k.1), cfg.write := some (.keyImage line seq) }) ∧
    (Starts line seq 0x0C05 u c → destroyIllegal c u = false → ¬64 ≤ n → exec (.keyDestroy t line seq) s =
      .next (done c [] (commitImage (setKeySlot n (fun _ => {}) u)))) ∧
    (∀ g, Starts line seq 0x0C07 u c → attestIllegal c u = false → g = drawFree u → exec (.keyAttest t line seq) s =
      .next (doneOut c [] (attestBody ((c.entry.drop 8).take 32) u.sys.boot.imgHash u ++ leBytes 96 g.1) g.2))

/-- Training, credits, frames, topology and the OZL commands take effect. A port trains, is refused or comes up, and
goes down with its error; credits return and are sent; a frame with a bad header is counted, one on a blocked link
only frees its buffer, any other is accepted; NAKs resend; topology records are taken, flooded, expire and bridge a
broken ring; a gateway forwards its datagrams; the OZL commands answer. Forms it says complete, with exec answering
their next state: trainSend, trainRecordRx, ozlLinkDown, creditBlockRx, creditBlockSend, nak, ozlFrameRx, topoFlood,
topo, topoEntryExpiry, ringBreak, gatewayDatagram, ozlStatus, ozlTopoRead, ozlPathRead, ozlPortRetrain. (R424, R426,
R428, R430, R432, R434, R435, R436, R437, R451, R509, 17_oluzel_time.md) -/
def Obligations.RelayComplete : Prop :=
  ∀ (t p src cls msg delay node member a b mac addr target line seq : Nat) (r : TrainRec) (f : OzFrame) (counts frame : List Nat)
    (ports : List TopoPort) (s : State) (c : Cmd), let u := s.at t; let o := ozp u p; let n := c.param 8 2; let q := c.param 8 1
    (o.up = false → ¬u.sys.mode.num < 3 → exec (.trainSend t p) s = .next (emit (setOz p (fun x => { x with trainIdx := (x.trainIdx + 1) % 4 }) u)
      .ozTrain p ((o.trainIdx :: ((trainRecord u p).drop (6 * o.trainIdx)).take 6).map Int.ofNat))) ∧
    (o.up = false → r.crcOk = true → ¬u.sys.mode.num < 3 → trainRefusal u p r = 0 → o.refuse = 0 → ¬50000 < delay → r.ack = true →
      exec (.trainRecordRx t p r delay) s = .next (portUp p r (setOz p (fun x => { x with longLink := false, refuse := 0, ackTx := true }) u))) ∧
    (∀ k, o.up = false → r.crcOk = true → ¬u.sys.mode.num < 3 → k = trainRefusal u p r → k ≠ 0 → k ≠ o.refuse →
      exec (.trainRecordRx t p r delay) s =
        .next (raiseRefusal p k (setOz p (fun x => { x with longLink := decide (50000 < delay), refuse := k, ackTx := true }) u))) ∧
    (o.up = true → exec (.ozlLinkDown t p) s = .next (portDown p u)) ∧
    (∀ w, o.up = true → w = setOz p (fun x =>
        { x with credit := Vector.ofFn fun i => get x.credit i.val + (counts.getD i.val 0 + 256 - get x.freedRx i.val) % 256,
                 freedRx := Vector.ofFn fun i => counts.getD i.val 0 }) u →
      exec (.creditBlockRx t p counts true) s = .next (flushPort p (ozp w p).wait.length w)) ∧
    (o.up = true → exec (.creditBlockSend t p) s = .next (sendCreditBlock p u)) ∧
    (exec (.nak t src cls msg) s = .next (resendFrom src cls msg u)) ∧
    (o.up = true → f.hcrcOk = false → exec (.ozlFrameRx t p f) s = .next (setOz p (fun x => { x with hcrc := (x.hcrc + 1) % 65536 }) u)) ∧
    (o.up = true → f.hcrcOk = true → portBlocked u p = true → exec (.ozlFrameRx t p f) s = .next (freeBuffer p f.tc u)) ∧
    (o.up = true → f.hcrcOk = true → portBlocked u p = false → exec (.ozlFrameRx t p f) s = .next (acceptOz p f u)) ∧
    (exec (.topoFlood t) s = .next (floodTopo u)) ∧
    (∀ e, (node == ownNode u && member == ownMember u) = false → e = { node := node, member := member, ports := ports, seen := u.now } →
      ((u.ozl.topo.find? fun e => e.node == node && e.member == member).map TopoEnt.ports ≠ some ports →
        exec (.topo t node member ports) s = .next (topoChanged { u with ozl.topo := insertEnt e u.ozl.topo })) ∧
      ((u.ozl.topo.find? fun e => e.node == node && e.member == member).map TopoEnt.ports = some ports →
        exec (.topo t node member ports) s = .next { u with ozl.topo := insertEnt e u.ozl.topo })) ∧
    ((u.ozl.topo.any fun e => e.node == node && e.member == member && decide (e.seen + 3000000000 ≤ u.now)) = true → exec (.topoEntryExpiry t node member) s =
      .next (topoChanged { u with ozl.topo := u.ozl.topo.filter fun e => !(e.node == node && e.member == member) })) ∧
    (∀ k, ((graphLinks (allEnts u)).find? fun k => k.lo == min a b && k.hi == max a b && !(u.ozl.blocked.contains k)) = some k →
      exec (.ringBreak t a b) s = .next (bridge k u)) ∧
    (param u pOZL_GATEWAY 0 = mac + 1 → exec (.gatewayDatagram t mac addr 0x4B77 target frame) s =
      .next (tcSend 3 .relayFrame target target frame
        { u with ozl.gateway := (target, addr) :: u.ozl.gateway.filter fun g => g.1 != target })) ∧
    (Starts line seq 0x0F01 u c → exec (.ozlStatus t line seq) s = .next (doneOut c []
      (([ozlCtrlWord u, ozlTopoWord u] ++ ((List.range 4).map (ozlPortWords u)).flatten).map (leBytes 4)).flatten u)) ∧
    (Starts line seq 0x0F02 u c → ¬4096 ≤ n → ¬(c.param 10 2 = 0 ∨ 1365 < c.param 10 2) → exec (.ozlTopoRead t line seq) s =
      .next (doneOut c [] (((((allEnts u).foldl (fun a e => insertEnt e a) []).filter fun e => decide (n ≤ e.node)).take
        (c.param 10 2)).map topoBytes).flatten u)) ∧
    (Starts line seq 0x0F03 u c → ¬4096 ≤ n → n ≠ ownNode u → routeTo u n = none → exec (.ozlPathRead t line seq) s =
      .next (done c (leBytes 4 0 ++ leBytes 2 0 ++ [0, 0]) u)) ∧
    (∀ e, Starts line seq 0x0F03 u c → ¬4096 ≤ n → n ≠ ownNode u → routeTo u n = some e → exec (.ozlPathRead t line seq) s =
      .next (done c (leBytes 4 e.us ++ leBytes 2 e.hops ++ [e.egress, 1]) u)) ∧
    (Starts line seq 0x0F04 u c → ¬4 ≤ q → (ozp u q).up = true → exec (.ozlPortRetrain t line seq) s = .next (done c [] (portDown q u))) ∧
    (Starts line seq 0x0F04 u c → ¬4 ≤ q → (ozp u q).up = false → exec (.ozlPortRetrain t line seq) s =
      .next (done c [] (fireEvent 398 (setOz q (fun o => { o with ackTx := false, refuse := 0 }) u))))

/-- Samples, holdover, the followed domain, peer delay, SYNC and PTP take effect. A sample steers its domain; a domain
without samples holds over and falls free, with its error where it is followed; the followed domain switches over
and back; peer delay is asked, answered and computed; the time root sends SYNC and others forward and take it; a PTP
port follows, answers and sends. Forms it says complete, with exec answering their next state: domainSample,
domainHoldover, domainFree, followSwitch, aonClockRefresh, peerDelayRequest, pdreq, pdresp, syncSend, sync,
ptpMessageRx, ptpSyncSend, ptpDelayReqSend. (R438, R440, R442, R443, R444, R445, R447, R448, 18_duplex_pair.md) -/
def Obligations.TimeRowsComplete : Prop :=
  ∀ (t d p seq t1 t2 t3 tnum root utc interval mac src hops msg : Nat) (source i2 turn t4 origin corr ratio rx : Int) (residence : List Nat)
    (better : Bool) (s : State), let u := s.at t; let o := ozp u p; let q := ptp u mac; let pref := rdf u baseTSU 0 1; let g := ptpDomain u mac
    let up := if o.up then freeBuffer p 0 u else u
    let setPort := fun r : Rat => setOz p (fun x =>
      { x with delay := (((t4 - (t1 : Int)) - turn) / 512 - ozAsym up p).toNat % 2 ^ 32, pdReq := none, pdLast := some (i2 + turn, t4), ratio := r }) up
    (domCfg u d 0 3 ≠ 0 → exec (.domainSample t d source utc interval) s = .next (domainSample d source interval (setDom d (fun x => { x with utc := utc }) u))) ∧
    (∀ w, (dom u d).st = 1 ∨ (dom u d).st = 2 → (dom u d).sampled.1 + 3 * (dom u d).sampled.2 ≤ u.now → w = setDomState d 3 u →
      exec (.domainHoldover t d) s = .next (if w.tsu.followed == d then raiseError errHoldover d w else w)) ∧
    (∀ w, (dom u d).st = 3 → (dom u d).heldAt + domCfg u d 23 8 * 10000000000 ≤ u.now → w = setDomState d 0 u →
      exec (.domainFree t d) s = .next (if w.tsu.followed == d then raiseError errTsuFree d (followDev w) else w)) ∧
    (∀ a, u.tsu.auto = true → u.tsu.followed = pref → (dom u (1 - pref)).lockedAt = some a → a + 1000000000 ≤ u.now →
      (dom u pref).st ≠ 2 → u.tsu.lostAt + 1000000000 ≤ u.now → exec (.followSwitch t) s = .next (switchTo (1 - pref) u)) ∧
    (∀ a, u.tsu.auto = true → u.tsu.followed ≠ pref → (dom u pref).lockedAt = some a → a + rdf u baseTSU 12 8 * 1000000000 ≤ u.now →
      exec (.followSwitch t) s = .next (switchTo pref u)) ∧
    (∀ w, ¬u.sys.mode.num < 2 → u.sys.mode ≠ .m11 → w = followDev u → exec (.aonClockRefresh t) s = .next { w with
      tsu.aon := devTime w * 32768 / 1000000000 * 1000000000 / 32768, tsu.aonAt := w.now + w.gap }) ∧
    (o.up = true → exec (.peerDelayRequest t p t1) s = .next (sendTc0 .pdReq false (tc0Payload 0x11 0 0 (get u.tsu.seq 1) 0 0 0 0 0) none [p]
      { setOz p (fun x => { x with pdReq := some (get u.tsu.seq 1, t1) }) u with tsu.seq := upd u.tsu.seq 1 fun k => (k + 1) % 2 ^ 32 })) ∧
    (o.up = true → exec (.pdreq t p seq t2 t3) s = .next (sendTc0 .pdResp false
      (tc0Payload 0x12 0 0 seq (t2 / 65536) (t2 % 65536) 0 ((t3 : Int) - t2) 0) none [p] (freeBuffer p 0 u))) ∧
    (o.pdReq = some (seq, t1) → o.pdLast = none → exec (.pdresp t p seq i2 turn t4) s = .next (setPort o.ratio)) ∧
    (∀ a b, o.pdReq = some (seq, t1) → o.pdLast = some (a, b) → (t4 == b) = false →
      exec (.pdresp t p seq i2 turn t4) s = .next (setPort (((i2 + turn - a : Int) : Rat) / ((t4 - b : Int) : Rat)))) ∧
    (∀ v, timeRoot u tnum = ownNode u → u.dpx.role ≠ 2 → 3 ≤ u.sys.mode.num → v = domTime u u.tsu.followed → exec (.syncSend t tnum) s =
      .next (sendTc0 .sync true (tc0Payload 0x10 tnum (dom u u.tsu.followed).st (get u.tsu.seq 0) (v / 2 ^ 32) (v / 2 ^ 16 % 65536)
        (dom u u.tsu.followed).utc 0 0) none (castPorts u) { u with tsu.seq := upd u.tsu.seq 0 fun n => (n + 1) % 2 ^ 32 })) ∧
    (∀ cum at', o.up = true → portBlocked u p = false → cum = (1 + (ratio : Rat) / 2199023255552) * o.ratio →
      at' = (origin + corr + (o.delay : Int) * 256) / 65536 → exec (.sync t p tnum seq root utc origin corr ratio rx residence src hops msg) s =
        .next (([0, 1] : List Nat).foldl (fun a d => if domCfg a d 0 3 == tnum + 1 then
          domainSample d (at' + ((devTime a : Int) - rx / 65536)) (syncInt a) (setDom d (fun x => { x with utc := utc }) a) else a)
            (forwardSync p tnum seq root utc origin corr cum residence src hops msg u))) ∧
    (q.master = false → exec (.ptpMessageRx t mac g (.sync seq true origin rx)) s = .next (ptpSample mac origin rx u)) ∧
    (q.master = false → exec (.ptpMessageRx t mac g (.sync seq false origin rx)) s =
      .next (setPtp mac (fun x => { x with sync := some (seq, origin, rx) }) u)) ∧
    (∀ z, q.master = false → q.sync = some (seq, z, rx) → exec (.ptpMessageRx t mac g (.followUp seq origin)) s = .next (ptpSample mac origin rx u)) ∧
    (∀ z : Int, q.req = some (seq, z) → peerProfile u mac = true → exec (.ptpMessageRx t mac g (.delayResp seq i2 turn rx)) s =
      .next (setPtp mac (fun x => { x with req := none, delay := ((rx - z) - turn) / 2 }) u)) ∧
    (∀ z ms : Int, q.req = some (seq, z) → peerProfile u mac = false → q.msDelay = some ms → exec (.ptpMessageRx t mac g (.delayResp seq i2 turn rx)) s =
      .next (setPtp mac (fun x => { x with req := none, delay := (ms + (i2 - z)) / 2 }) u)) ∧
    (q.master = true ∨ peerProfile u mac = true → exec (.ptpMessageRx t mac g (.delayReq seq rx)) s = .next (ptpSend mac [2, (seq : Int), rx] u)) ∧
    (exec (.ptpMessageRx t mac g (.announce false utc)) s = .next (setPtp mac (fun x => { x with master := masterOk u mac }) u)) ∧
    (q.master = true → exec (.ptpSyncSend t mac) s =
      .next (ptpSend mac [0, (q.seq : Int), domNs u u.tsu.followed] (setPtp mac (fun x => { x with seq := (x.seq + 1) % 65536 }) u))) ∧
    ((q.master && !peerProfile u mac) = false → exec (.ptpDelayReqSend t mac t3) s = .next (ptpSend mac [1, (q.seq : Int)] (setPtp mac (fun x =>
      { x with req := some (x.seq, (t3 : Int)), seq := (x.seq + 1) % 65536 }) u)))

/-- Compare and capture units and the TIM commands take effect. The owner's write arms a compare unit, which fires when
its target is reached; a selected edge is captured or overruns; a read of the high word frees the unit; the TIM
commands answer, follow a domain, arm a compare and read a capture. Forms it says complete, with exec answering
their next state: tsuCompareArm, tsuCompareFire, tsuCaptureEdge, tsuCaphiRead, timStatus, timFollowSet,
timCompareSet, timCaptureRead. (R438, R439, R440, R443, R446, R451, R509, 18_duplex_pair.md) -/
def Obligations.CompareCaptureAndTimeCommandsComplete : Prop :=
  ∀ (t k target time line seq : Nat) (m : Master) (s : State) (c : Cmd), let u := s.at t; let j := c.param 8 1
    (ccOwner u k m = true → ccCfg u k 0 1 = 0 → exec (.tsuCompareArm t m k target) s = .next (armCompare k target u)) ∧
    ((ccu u k).armed = true → 0 ≤ shortDiff u (ccu u k).target → exec (.tsuCompareFire t k) s = .next (fireCompare k u)) ∧
    (ccCfg u k 0 1 ≠ 0 → ccCfg u k 12 2 = 1 → (ccu u k).cap.isSome = false → exec (.tsuCaptureEdge t k true time) s =
      .next (fireEvent (416 + k) (setCc k (fun x => { x with cap := some time, last := time }) u))) ∧
    (ccCfg u k 0 1 ≠ 0 → ccCfg u k 12 2 = 2 → (ccu u k).cap.isSome = false → exec (.tsuCaptureEdge t k false time) s =
      .next (fireEvent (416 + k) (setCc k (fun x => { x with cap := some time, last := time }) u))) ∧
    (ccCfg u k 0 1 ≠ 0 → ccCfg u k 12 2 = 1 → (ccu u k).cap.isSome = true →
      exec (.tsuCaptureEdge t k true time) s = .next (setCc k (fun x => { x with ovr := true }) u)) ∧
    (exec (.tsuCaphiRead t m k) s = .next (emit (setCc k (fun x => { x with cap := none }) u) .readData (baseTSU + 0x408 + 0x10 * k)
      [(((ccu u k).last / 2 ^ 32 : Nat) : Int)])) ∧
    (∀ n, n = devTime u → Starts line seq 0x0E01 u c → exec (.timStatus t line seq) s = .next (doneOut c []
      ((([tsuCtrlWord u, n % 2 ^ 32, n / 2 ^ 32, n % 2 ^ 32, tsuStatWord u, sat32 (deltaNs u)] ++ tsuDomWords u 0 ++ tsuDomWords u 1
        ++ ((List.range 16).map (tsuCcWords u)).flatten).map (leBytes 4)).flatten) u)) ∧
    (Starts line seq 0x0E02 u c → ¬2 ≤ j → ¬2 ≤ c.param 9 1 → exec (.timFollowSet t line seq) s =
      .next (done c [] (switchTo j { u with tsu.auto := c.param 9 1 == 1 }))) ∧
    (Starts line seq 0x0E03 u c → ccIllegal 0 c u = false → ¬16 ≤ j → exec (.timCompareSet t line seq) s =
      .next (done c [] (armCompare j (c.param 12 4) u))) ∧
    (Starts line seq 0x0E04 u c → ccIllegal 1 c u = false → ¬16 ≤ j → exec (.timCaptureRead t line seq) s =
      .next (done c (leBytes 8 (ccu u j).last ++ [b2n (ccu u j).cap.isSome, b2n (ccu u j).ovr])
        (setCc j (fun x => { x with cap := none, ovr := false }) u)))

/-- Deciding, the claim stream, takeover, selection and the planned swap take effect. A member in M3 claims or stands
by; a good claim frame is decoded and deposes an older claim; a dead stream makes the standby take over; an expired
claim watchdog drops the gate; a change or loss of the selection, a failed takeover, and the steps of a planned swap
act as R461 to R473 say. Forms it says complete, with exec answering their next state: duplexRoleDecide,
claimFrameRx, claimStreamDead, dpxKick, claimWdExpiry, dpxSelNChange, dpxSelLost, dpxTakeoverFail, roleSend, role,
dpxPartnerSilent, dpxMirrorLost, swapReq, swapConfirm, dpxSwapFail, swapDue, dpxStatus, dpxSwap, dpxResync. (R44,
R452, R453, R459, R460, R461, R462, R465, R467, R468, R472, R473) -/
def Obligations.DuplexRolesComplete : Prop :=
  ∀ (t hb byte role mode st claim last ver dev line seq : Nat) (s : State) (c : Cmd), let u := s.at t; let d := u.dpx
    (u.sys.mode = .m3 → d.role = 3 → m8Holds u = false → ¬u.now < d.decideAt + listenTime u → d.pValid = true → versionsDiffer u = false →
      exec (.duplexRoleDecide t) s = .next (enterStandby 1 u)) ∧
    (u.sys.mode = .m3 → d.role = 3 → m8Holds u = false → ¬u.now < d.decideAt + listenTime u → d.pValid = false → (oz3Up u && dpxMember u == 3) = false →
      exec (.duplexRoleDecide t) s = .next (claimRole u)) ∧
    (exec (.claimFrameRx t hb byte true) s = .next (checkDeposed (claimFrame hb byte u))) ∧
    (exec (.claimFrameRx t hb byte false) s = .next u) ∧
    (∀ w, w = { u with dpx.pValid := false, dpx.known := false, dpx.run := 0, dpx.have4 := Vector.replicate 4 false } →
      (d.pValid = true → ¬u.now < d.frameAt + 6200 → d.role = 2 → u.sys.mode = .m7 → u.sys.powerWarn = false → exec (.claimStreamDead t) s = .next (takeover w)) ∧
      (d.role ≠ 2 → ¬u.now < d.frameAt + 6200 → exec (.claimStreamDead t) s = .next w)) ∧
    (exec (.dpxKick t) s = .next { u with dpx.kickAt := u.now }) ∧
    (d.claiming = true → d.kickAt + rdf u baseDPX 2 10 * 10000 ≤ u.now → exec (.claimWdExpiry t) s = .next (dropGate (stopClaim u))) ∧
    (exec (.dpxSelNChange t false) s = .next { u with dpx.selOk := false, dpx.selLowAt := some u.now }) ∧
    (∀ w, d.role = 1 → w = errCleared 12 5 0 (errCleared 12 6 0 { u with
        dpx.selOk := true, dpx.selLowAt := none, dpx.selSeen := true, dpx.takenAt := none }) → w.dpx.swap = none →
      exec (.dpxSelNChange t true) s = .next w) ∧
    (∀ w, d.role = 1 → w = errCleared 12 5 0 (errCleared 12 6 0 { u with
        dpx.selOk := true, dpx.selLowAt := none, dpx.selSeen := true, dpx.takenAt := none }) → w.dpx.swap = some none →
      exec (.dpxSelNChange t true) s = .next (fireEvent 453 (driveMirrored { w with
        dpx.swap := none, dpx.swaps := (w.dpx.swaps + 1) % 65536, dpx.swapAt := devTime w }))) ∧
    (∀ a, d.role = 1 → d.selSeen = true → d.selOk = false → d.swap.isNone = true → canDepose u = true → d.selLowAt = some a → a + 10000 ≤ u.now →
      exec (.dpxSelLost t) s = .next (raiseError errSelLost 0 (fireEvent 455 (giveUp 3 u)))) ∧
    (∀ a, d.role = 1 → d.selOk = false → d.takenAt = some a → a + 20000 ≤ u.now → exec (.dpxTakeoverFail t) s =
      .next (raiseError errTakeoverFail 0 (fireEvent 455 { u with dpx.takenAt := none }))) ∧
    (dpxMember u ≠ 0 → oz3Up u = true → 3 ≤ u.sys.mode.num → exec (.roleSend t) s = .next (mirrorSend 0x40
      ([roleCode u, u.sys.mode.num, d.st] ++ leBytes 4 d.claim ++ leBytes 4 d.lastClaim ++ leBytes 4 u.cfg.version
        ++ leBytes 16 u.sys.ident.deviceId) u)) ∧
    (dpxMember u ≠ 0 → u.sys.mode ≠ .m3 → exec (.role t role mode st claim last ver dev) s = .next (startResync u st { u with
      dpx.partner := some { role := role, mode := mode, st := st, claim := claim, lastClaim := last, cfgVersion := ver, deviceId := dev },
      dpx.roleUp := true, dpx.roleAt := u.now, dpx.lastClaim := max d.lastClaim (max claim last),
      dpx.mismatch := d.mismatch && d.partner.map (·.cfgVersion) == some ver && ver != u.cfg.version })) ∧
    (d.roleUp = true → d.roleAt + 1000000 ≤ u.now → exec (.dpxPartnerSilent t) s =
      .next (raiseError errPartnerSilent 0 (fireEvent 452 { u with dpx.roleUp := false }))) ∧
    (d.role = 2 → d.st ≠ 3 → d.roleAt + 1000000 ≤ u.now → exec (.dpxMirrorLost t) s = .next (raiseError errMirrorLost 0 (fireEvent 451 (setDpxSt 3 u)))) ∧
    (d.role = 2 → u.sys.mode = .m7 → d.st = 2 → claim + 1 < 2 ^ 32 → exec (.swapReq t claim) s = .next (setMode .m4 (startClaim (claim + 1)
      { u with dpx.swap := some none, lpe.standby := false, vcl.port := updAll u.vcl.port fun _ p => { p with rxOnly := false } }))) ∧
    (d.swap = some (some (line, seq)) → partnerSelected u = true → exec (.swapConfirm t) s =
      .next (finishAccepted line seq { result := [0] } (fireEvent 453 (relinquish 1 { u with
        dpx.swap := none, dpx.swaps := (d.swaps + 1) % 65536, dpx.swapAt := devTime u })))) ∧
    (d.swap = some (some (line, seq)) → partnerSelected u = false → d.swapFrom + 1000000 ≤ u.now → exec (.swapConfirm t) s =
      .next (finishAccepted line seq { result := [1] } { u with dpx.swap := none })) ∧
    (d.swap = some none → d.selOk = false → d.claimAt + 20000 ≤ u.now → exec (.dpxSwapFail t) s =
      .next (raiseError errSwapFail 0 (enterStandby 3 { u with dpx.swap := none }))) ∧
    (d.role = 1 → rdf u baseDPX 12 12 ≠ 0 → exec (.swapDue t) s = .next (fireEvent 454 u)) ∧
    (Starts line seq 0x0D01 u c → exec (.dpxStatus t line seq) s =
      .next (doneOut c [] (((dpxWords u).map (leBytes 4)).flatten ++ roleBytes u) u)) ∧
    (Starts line seq 0x0D02 u c → swapIllegal c u = false → exec (.dpxSwap t line seq) s =
      .next (accept c [] (mirrorSend 0x41 ([0, 0, 0] ++ leBytes 4 d.claim) { u with dpx.swap := some (some (line, seq)), dpx.swapFrom := u.now }))) ∧
    (Starts line seq 0x0D03 u c → resyncIllegal c u = false → exec (.dpxResync t line seq) s =
      .next (accept c [] (sendResync { u with dpx.resyncJob := some (line, seq) })))

/-- Mirror records act on the standby, and resynchronisation and acknowledgements on the active. On a standby a
checkpoint, a Sluice entry, a snapshot, a PWM, load, cable or prepayment record and a part of a resynchronisation
are stored; LEAVE ends the standby; an acknowledgement releases the held response; the active sends its PWM state;
the end of a resynchronisation completes it. Forms it says complete, with exec answering their next state:
checkpoint, ckptAck, slcMirror, lpeSnap, pwmStateSend, pwmState, loadState, cblState, prepay, leave, resync,
resyncDone. (R139, R241, R314, R315, R379, R454, R456, R457, R464, R465, R470, R501) -/
def Obligations.MirrorRecordsComplete : Prop :=
  ∀ (t n seq state proto msgNo time vTgt vOv flags round slot nsec release lswCmd pick mxpOn mxpEco cap pct mode line : Nat) (iReq out account
    emerg short : Int) (rest lastRsp node states duty pend : List Nat) (temps : List Int) (entries : List SlcEntry) (groups : List PwmGroupRec)
    (part : ResyncPart) (s : State), let u := s.at t; let p := prt u n
    (∀ c : Ckpt, c = ⟨seq, state, proto, msgNo, time, iReq, vTgt, vOv, flags, rest, lastRsp⟩ → u.dpx.role = 2 →
      exec (.checkpoint t n seq state proto msgNo time iReq vTgt vOv flags rest lastRsp) s =
        .next (mirrorSend 0x22 ([n, 0, 0] ++ leBytes 4 seq)
          (mirrorSession n proto ((p.ckpt.map (·.state)).getD 0) state (setPrt n (coverFrames c) u)))) ∧
    (u.dpx.role = 1 → p.ckptSeq = seq → exec (.ckptAck t n seq) s = .next (releaseRsp n (setPrt n (fun q => { q with desync := false }) u))) ∧
    (u.dpx.role = 2 → exec (.slcMirror t round node entries) s = .next (putEntries entries (takeNode round node u))) ∧
    (u.dpx.role = 2 → nsec = (slotSecs u slot).length → exec (.lpeSnap t slot nsec release out states) s =
      .next (putSnapshot slot release out states u)) ∧
    (u.dpx.role = 1 → exec (.pwmStateSend t) s = .next (mirrorSend 0x32 (pwmState u) u)) ∧
    (u.dpx.role = 2 → exec (.pwmState t groups) s = .next { u with dpx.pwmSt := groups.map fun r =>
      ({ valley := r.valley, per := r.per, switching := r.switching, excluded := r.excluded, u := r.u, mtxCmd := r.mtxCmd } : MirPg) }) ∧
    (u.dpx.role = 2 → exec (.loadState t lswCmd pick mxpOn mxpEco duty) s = .next { u with
      dpx.load := some { lswCmd := lswCmd, pickupDone := pick, mxpOn := mxpOn, mxpEco := mxpEco, duty := duty } }) ∧
    (u.dpx.role = 2 → exec (.cblState t n temps cap pend) s = .next { u with
      cbl.op := upd u.cbl.op n fun o => { o with
        temp := updAll o.temp fun k _ => ((temps.getD k 0 : Int) : Rat) / 1000, iCap := cap,
        pend := updAll o.pend fun k _ => ((pend.getD k 0 : Nat) : Rat) / 2 ^ 32 },
      slc.op := upd u.slc.op n fun o => { o with icap := cap } }) ∧
    (∀ wh old, wh = (emerg.toNat + 999) / 1000 → old = (get u.lgl.prepay n).getD {} → u.dpx.role = 2 →
      exec (.prepay t n account emerg short flags) s = .next { u with
        lgl.prepay := upd u.lgl.prepay n fun _ =>
          some { old with account := account, emergWh := wh, emerg := wh * 1000 - emerg.toNat, shortfall := short.toNat },
        slc.op := upd u.slc.op n fun o => { o with emergency := bit flags 0 } }) ∧
    (u.dpx.role = 2 → u.sys.mode = .m7 → mode = 3 ∨ mode = 9 ∨ mode = 10 → exec (.leave t mode) s =
      .next (fireEvent 450 (toM3 { u with
        dpx.left := true, lpe.standby := false, slc.joined := false, slc.joining := false, slc.leaseValid := false, slc.ramping := false }))) ∧
    (u.dpx.role = 2 → exec (.resync t (.slc entries) pct) s = .next (putEntries entries { u with dpx.resyncPct := pct })) ∧
    (u.dpx.role = 2 → exec (.resync t part pct) s = .next (storePart part { u with dpx.resyncPct := pct })) ∧
    (u.dpx.role = 2 → oz3Up u = true → exec (.resyncDone t) s = .next (setDpxSt 2 { u with dpx.resyncPct := 100 })) ∧
    (u.dpx.role ≠ 2 → u.dpx.resyncJob = some (line, seq) → exec (.resyncDone t) s =
      .next (finishAccepted line seq {} { u with dpx.resyncJob := none }))

/-- Beacons, tone maps, routes, frames and the FEN commands take effect. Zero crossings set the mains slots and beacons
spread them; soundings and tone maps are taken and expire; link metrics are sent and taken, routes change and
neighbours expire; a frame is counted, answered, checked and acted on; back-offs, acknowledgements and their
timeouts act on the frame in flight; the FEN commands answer. Forms it says complete, with exec answering their next
state: fenZeroCrossing, fenZcLost, beaconSend, beaconRx, beaconLost, soundingRx, toneMapRx, toneMapExpiry,
routeChange, linkMetricSend, linkMetricRx, neighbourExpiry, fenFrameRx, fenBackoffExpiry, sackRx, fenSackTimeout,
fenStatus, fenNeighRead, fenTonemapRead, fenResound. (R481, R483, R484, R485, R486, R487, R488, R489, R494, R495,
R509, 19_fenline.md) -/
def Obligations.FenlineComplete : Prop :=
  ∀ (t period netId gwTime ago tx slot node own hops bler line seq : Nat) (map : ToneMap) (f : FenFrame) (rows : List MetricRow)
    (failed : List Nat) (routed : Bool) (s : State) (c : Cmd), let u := s.at t; let n := c.param 8 2
    (fenRole u = 1 → u.fen.zcTimer = false → exec (.fenZeroCrossing t true period) s = .next { u with
      fen.zcTimer := false, fen.zcGood := 0, fen.zcAt := u.now, fen.half := period, fen.synced := true }) ∧
    (fenRole u = 1 → u.fen.zcTimer = true → u.fen.zcGood < 9 → exec (.fenZeroCrossing t true period) s =
      .next { u with fen.zcGood := u.fen.zcGood + 1 }) ∧
    (fenRole u = 1 → u.fen.zcTimer = false → ¬u.now < u.fen.zcAt + 3 * (if u.fen.half = 0 then halfNominal u else u.fen.half) →
      exec (.fenZcLost t) s = .next (raiseError errZcLost 0 (fireEvent 435
      { u with fen.zcTimer := true, fen.zcGood := 0, fen.half := halfNominal u, fen.synced := true }))) ∧
    (fenRole u = 1 → fenTalks u = true → u.fen.synced = true → exec (.beaconSend t) s = .next (emit { u with fen.fcnt := u.fen.fcnt + 1 } .beacon 0
      ([rdf u (baseFEN + 4) 16 16, u.now - u.fen.zcAt, devTime u, ownNode u, u.fen.fcnt, u.fen.epoch].map Int.ofNat))) ∧
    (fenRole u = 2 → fenOn u = true → netId = rdf u (baseFEN + 4) 16 16 → exec (.beaconRx t netId gwTime ago) s = .next { u with
      fen.synced := true, fen.beaconLost := false, fen.diff := (gwTime : Int) - devTime u, fen.zcAt := u.now - ago,
      fen.beaconAt := u.now,
      fen.half := if u.fen.half = 0 then halfNominal u else u.fen.half }) ∧
    (fenRole u = 2 → u.fen.beaconLost = false → u.fen.beaconAt + 32 * u.fen.half ≤ u.now → exec (.beaconLost t) s =
      .next (fireEvent 434 { u with fen.beaconLost := true, fen.synced := false })) ∧
    (fenOn u = true → (neighOf u tx).isSome = true → exec (.soundingRx t tx slot map) s =
      .next (fireEvent 433 (fenOwn tx 3 { kind := .toneMap, chan := tx, data := ([slot, map.rate] ++ map.loads).map Int.ofNat }
        (updRates tx (setNeigh tx (fun x =>
          { x with rx := upd x.rx slot fun _ => some map, resound := upd x.resound slot fun _ => false }) u))))) ∧
    (fenOn u = true → exec (.toneMapRx t tx slot map) s = .next (updRates tx (setNeigh tx (fun x =>
      { x with
      tx := upd x.tx slot fun _ => some map, low := upd x.low slot fun _ => false, used := upd x.used slot fun _ => u.now }) u))) ∧
    (∀ x, neighOf u node = some x → ¬u.now < get x.used slot + 30000000000 → exec (.toneMapExpiry t node slot) s =
      .next ((if x.resound.toList.any id then List.range 8 else []).foldl (fun a k => askSounding node k a) (updRates node (setNeigh node
        (fun x => { x with tx := upd x.tx slot fun _ => none, low := upd x.low slot fun _ => false }) u)))) ∧
    (∀ m since, u.fen.better = some (m, since) → since + 10000000000 ≤ u.now → exec (.routeChange t) s = .next (setRoute (neighOf u m) u)) ∧
    (∀ data, fenTalks u = true → data = [(u.fen.cost * 1000000).floor, (u.fen.hops : Int), ((b2n (fenRole u == 1 || u.fen.next.isSome) : Nat) : Int)]
        ++ (u.fen.neigh.map fun x => [(x.node : Int), (x.down : Int)]).flatten → exec (.linkMetricSend t) s =
      .next (fenQueue { src := ownNode u, typ := 5, prio := 2, bcast := true, msg := some { kind := .linkMetric, chan := 0, data := data } } u)) ∧
    (∀ up g, fenOn u = true → tx ≠ ownNode u → up = ((rows.find? fun r => r.node == ownNode u).map MetricRow.rate).getD (mapRate u none) →
      g = (fun (x : Neigh) => { x with up := up, bler := bler, cost := (own : Rat) / 1000000, hops := hops, routed := routed, seen := u.now }) →
      exec (.linkMetricRx t tx own hops routed bler rows) s = .next (chooseRoute
        (if (neighOf u tx).isSome then setNeigh tx g u else addNeigh (g { node := tx, down := mapRate u none }) u))) ∧
    (∀ x, neighOf u node = some x → x.seen + 5000000000 ≤ u.now → exec (.neighbourExpiry t node) s =
      .next (chooseRoute (fireEvent 436 { u with fen.neigh := u.fen.neigh.filter (fun y => y.node != node), fen.fullSaid := false }))) ∧
    (fenOn u = true → (f.bcast || f.next == ownNode u) = false → exec (.fenFrameRx t f) s = .next (countBlank f u)) ∧
    (fenOn u = true → (f.bcast || f.next == ownNode u) = true → failedBlocks f ≠ [] → exec (.fenFrameRx t f) s = .next (fenAnswer f u)) ∧
    (fenOn u = true → (f.bcast || f.next == ownNode u) = true → failedBlocks f = [] → f.tagOk = false →
      exec (.fenFrameRx t f) s = .next (dropAuth true (fenAnswer f u))) ∧
    (fenOn u = true → (f.bcast || f.next == ownNode u) = true → failedBlocks f = [] → f.tagOk = true → freshCount (fenAnswer f u) f = true →
      exec (.fenFrameRx t f) s = .next (fenAct f (fenNote f (fenAnswer f u)))) ∧
    (∀ x, fenTalks u = true → u.fen.flight.isSome = false → nextFen u.fen.queue = some x →
      exec (.fenBackoffExpiry t true) s = .next { u with fen.window := min 128 (2 * u.fen.window) } ∧
      exec (.fenBackoffExpiry t false) s = .next (askIfNone x (transmitFen x u))) ∧
    (∀ x, u.fen.flight = some x → exec (.sackRx t []) s =
      .next (setNeigh x.next (fun y => { y with drops := 0 }) { u with fen.flight := none, fen.window := 16 })) ∧
    (∀ x, u.fen.flight = some x → failed.isEmpty = false → exec (.sackRx t failed) s = .next (sendFailed x (some failed) u)) ∧
    (∀ x, u.fen.flight = some x → exec (.fenSackTimeout t) s = .next (sendFailed x none u)) ∧
    (Starts line seq 0x1001 u c → exec (.fenStatus t line seq) s = .next (doneOut c [] ((fenWords u).map (leBytes 4)).flatten u)) ∧
    (∀ b, b = (u.fen.neigh.map (neighBytes u)).flatten → Starts line seq 0x1002 u c → exec (.fenNeighRead t line seq) s =
      .next (doneOut c [] (b ++ List.replicate (1024 - b.length) 0) u)) ∧
    (∀ x, neighOf u n = some x → Starts line seq 0x1003 u c → exec (.fenTonemapRead t line seq) s =
      .next (doneOut c [] (x.tx.toList.map mapBytes).flatten u)) ∧
    (Starts line seq 0x1004 u c → (neighOf u n).isNone = false → exec (.fenResound t line seq) s =
      .next (done c [] ((List.range 8).foldl (fun a k => askSounding n k a) u)))

/-- The SYS and ROM commands take effect. SYS_IDENTIFY, SYS_COUNTERS and ROM_STATUS answer; SYS_MODE_SET on an edge of
R42 that may be taken takes it; SYS_RESET is accepted and resets; SYS_ERRQ_READ frees the records its reference
takes whole; firmware is staged, verified, preferred, loaded and booted. Forms it says complete, with exec answering
their next state: sysIdentify, sysModeSet, sysReset, sysErrqRead, sysCounters, sysFwStage, fwVerifyDone,
sysFwPrefer, romStatus, romLoad, romBoot. (R42, R44, R45, R67, R366, R417, R501, R502, R503, R504, R505,
02_modes_reset_boot.md) -/
def Obligations.SystemCommandsComplete : Prop :=
  ∀ (t fault version sha line seq : Nat) (s : State) (c : Cmd), let u := s.at t; let k := c.param 8 1; let ofs := c.param 8 4
    let total := c.param 12 4; let n := c.data.length; let j := 1 - u.sys.boot.slot
    (Starts line seq 0x0101 u c → exec (.sysIdentify t line seq) s = .next (done c (leBytes 16 u.sys.ident.deviceId ++
      [b2n u.sys.ident.gradeL, lifeCycle u, u.sys.mode.num, u.sys.boot.slot] ++ leBytes 4 (bootedVersion u) ++
        leBytes 4 (if u.cfg.loaded then u.cfg.version else 0)) u)) ∧
    (Starts line seq 0x0102 u c → modeSetIllegal c u = false → modeEdge u.sys.mode.num k = true →
      exec (.sysModeSet t line seq) s = .next (modeSet c u)) ∧
    (u.sys.mode = .m3 → k = 9 → modeSet c u = done c [0] (sealNoted (setMode .m9 (quit .m9 u)))) ∧
    (u.sys.mode = .m3 → k = 10 → modeSet c u = done c [0] (setMode .m10 (quit .m10 u))) ∧
    (u.sys.mode = .m4 → k = 3 → modeSet c u = accept c [] { u with cfg.modeJob := some (c.line, c.seq, 3) }) ∧
    (u.sys.mode = .m5 → k = 8 → modeSet c u = done c [0] (setCause .command u)) ∧
    (Starts line seq 0x0103 u c → exec (.sysReset t line seq) s = .next (resetControl .software (coldNow (accept c [] u)) (accept c [] u))) ∧
    (∀ l bytes, l = u.sys.errq.take k → bytes = (l.map fun r => errRecBytes (some r)).flatten → Starts line seq 0x0104 u c → ¬k < 1 → ¬32 < k →
      exec (.sysErrqRead t line seq) s = .next (doneOut c [l.length, u.sys.ovfCnt] bytes
        { freeRecords (min l.length ((respPart c (some bytes)).length / 16)) u with sys.ovfCnt := 0 })) ∧
    (Starts line seq 0x0107 u c → exec (.sysCounters t line seq) s =
      .next (doneOut c [] (leBytes 4 u.sys.accessCnt ++ leBytes 4 u.sys.firewallCnt ++ leBytes 4 u.sys.eccCnt) u)) ∧
    (Starts line seq 0x0105 u c → n ≠ 0 → ¬(total = 0 || 33554432 < total || total < ofs + n) = true → ofs = u.sys.fwStaged →
      (c.param 16 1 = 0 → exec (.sysFwStage t line seq true) s = .next (done c [0, 0, 0, 0, j] { writeFw j ofs c.data u with sys.fwStaged := ofs + n })) ∧
      (c.param 16 1 = 1 → exec (.sysFwStage t line seq true) s =
        .next (accept c [j] { writeFw j ofs c.data u with sys.fwStaged := ofs + n, sys.fwVerify := some j }))) ∧
    (∀ i d, u.sys.fwVerify = some i → runningCmd u 0x0105 = some d → fault ≠ 0 → exec (.fwVerifyDone t fault version sha) s =
      .next (finish d { status := fwStatus fault, detail := 52, result := [0, 0, 0, 0, i] }
        { slotReadErr fault { setFw i (fun _ => { version := version, fault := fault, legalSha := sha }) u with sys.fwVerify := none } with
          sys.fwStaged := 0 })) ∧
    (∀ i d, u.sys.fwVerify = some i → runningCmd u 0x0105 = some d → ¬version < u.sys.ident.fwMinVer →
      (sha % 2 ^ 64 != u.lgl.check && u.sys.mode != .m9) = false →
      exec (.fwVerifyDone t 0 version sha) s = .next {
        slotReadErr 0 { setFw i (fun _ => { version := version, fault := 0, legalSha := sha }) u with sys.fwVerify := none } with
          cfg.write := some (.fwHeader i .fallback d.line d.seq), sys.fwStaged := 0 }) ∧
    (Starts line seq 0x0106 u c → preferIllegal c u = false → ¬2 ≤ k → u.cfg.write.isSome = false → exec (.sysFwPrefer t line seq) s =
      .next { u with cfg.write := some (.fwHeader k .preferred c.line c.seq) }) ∧
    (Starts line seq 0x01F0 u c → romIllegal c u = false → exec (.romStatus t line seq) s =
      .next (done c (leBytes 4 (bootWord u) ++ [fwStateNum u.sys.fwA.st, fwStateNum u.sys.fwB.st]) u)) ∧
    (Starts line seq 0x01F1 u c → romIllegal c u = false → ¬2 ≤ k → c.data.isEmpty = false → ¬33554432 < total + n → total ≠ 0 →
      exec (.romLoad t line seq true) s = .next (done c [] (writeFw k total c.data u))) ∧
    (Starts line seq 0x01F2 u c → romIllegal c u = false → ¬2 ≤ k → ¬version < u.sys.ident.fwMinVer →
      exec (.romBoot t line seq 0 version sha) s = .next (startSlot k (done c [0] (slotReadErr 0 (setFw k (fun x =>
        { st := if x.st == .invalid then .fallback else x.st, version := version, fault := 0, legalSha := sha }) u))))) ∧
    (Starts line seq 0x01F2 u c → romIllegal c u = false → ¬2 ≤ k → fault ≠ 0 →
      exec (.romBoot t line seq fault version sha) s = .next (finish c { status := fwStatus fault, detail := 8, result := [fault] } (bootFails fault
        (slotReadErr fault (setFw k (fun x => { st := x.st, version := version, fault := fault, legalSha := sha }) u)))))

/-- The CFG commands, the partner's requests and writes of xSPI0 take effect. A chunk is staged, the last one validated;
staged images are discarded; status and images are read; a commit or rollback that its plan answers completes at
once, and one that goes on begins its write; the partner's request is executed and answered; the end of a write
commits, completes or fails with its error. Forms it says complete, with exec answering their next state: cfgStage,
cfgValidationDone, cfgDiscard, cfgStatus, cfgRead, cfgCommit, cfgRollback, cfgPartnerRequest, xsp0WriteDone. (R507,
R515, R516, R517, R518, R519, R520, R521, R522, 20_commands_configuration.md) -/
def Obligations.ConfigurationCommandsComplete : Prop :=
  ∀ (t line seq ps ofs total : Nat) (sigOk lst : Bool) (data : List Nat) (s : State) (c : Cmd), let u := s.at t
    let o := c.param 8 4; let tot := c.param 12 4; let k := c.param 8 1; let m := u.cfg.map
    (Starts line seq 0x0301 u c → standbyIllegal c u = false → mirrorUp u = false →
      (c.param 16 1 = 0 → chunkFault u o tot false c.data = none →
        exec (.cfgStage t line seq ps true) s = .next (done c (stageResult 0 {}) (writeChunk o tot c.data u))) ∧
      (c.param 16 1 = 1 → chunkFault u o tot true c.data = none → exec (.cfgStage t line seq ps true) s =
        .next (accept c [] { writeChunk o tot c.data u with cfg.validating := some (line, seq) }))) ∧
    (∀ d r, u.cfg.validating = some (line, seq) → findCmd u line seq = some d → r = judgeStaged sigOk { u with cfg.validating := none } →
      exec (.cfgValidationDone t sigOk) s = .next (finish d
        { status := r.1.status, detail := if r.1.status = 0 then 0 else 52, result := stageResult (memRead u.mem (areaAddr (stageArea u) + 8) 4) r.1 } r.2)) ∧
    (Starts line seq 0x0306 u c → standbyIllegal c u = false → mirrorUp u = false →
      exec (.cfgDiscard t line seq ps) s = .next (done c [] (discardStaged u))) ∧
    (Starts line seq 0x0304 u c → exec (.cfgStatus t line seq) s = .next (done c (leBytes 4 (areaVersion u m.active) ++
      leBytes 4 (areaVersion u m.previous) ++ leBytes 4 (areaVersion u m.staged) ++ leBytes 4 m.highest ++ [m.stagedState]) u)) ∧
    (∀ a, Starts line seq 0x0305 u c → k = 0 → m.active = some a → ¬areaLength u a < tot → exec (.cfgRead t line seq) s =
      .next (doneOut c [] (memBytes u.mem (areaAddr a + tot) (min 65536 (areaLength u a - tot))) u)) ∧
    (∀ st d, Starts line seq 0x0302 u c → planCommit o (c.param 12 1 % 2 == 1) false u = .answer st d → u.dpx.role ≠ 2 → st ≠ stDone →
      exec (.cfgCommit t line seq ps) s = .next (finish c { status := st, detail := d } u)) ∧
    (∀ mp ch, Starts line seq 0x0302 u c → planCommit o (c.param 12 1 % 2 == 1) false u = .go mp ch → u.dpx.role ≠ 2 → mirrorUp u = false →
      u.cfg.write.isSome = false → exec (.cfgCommit t line seq ps) s = .next (beginCommit c.line c.seq 0 mp ch false (accept c [] u))) ∧
    (∀ mp ch, Starts line seq 0x0303 u c → planCommit o (c.param 12 1 % 2 == 1) true u = .go mp ch → u.dpx.role ≠ 2 → mirrorUp u = false →
      u.cfg.write.isSome = false → exec (.cfgRollback t line seq ps) s = .next (beginCommit c.line c.seq 0 mp ch true (accept c [] u))) ∧
    (exec (.cfgPartnerRequest t .discard sigOk) s = .next (answerPartner stDone (discardStaged u))) ∧
    (chunkFault u ofs total false data = none → exec (.cfgPartnerRequest t (.stage ofs total false data) sigOk) s =
      .next (answerPartner stDone (writeChunk ofs total data u))) ∧
    (∀ mp ch, planCommit ofs lst false u = .go mp ch → u.cfg.write.isSome = false →
      exec (.cfgPartnerRequest t (.commit ofs lst) sigOk) s = .next (beginCommit partnerLine 0 1 mp ch false u)) ∧
    (∀ mp rb w, u.cfg.write = some (.slotMap mp line seq rb) → w = { u with cfg.write := none } → writeAlive u line seq = true →
      exec (.xsp0WriteDone t true) s = .next (commitPoint mp w)) ∧
    (∀ mp rb w, u.cfg.write = some (.slotMap mp line seq rb) → w = { u with cfg.write := none } → writeAlive u line seq = true →
      exec (.xsp0WriteDone t false) s = .next (finishCmd line seq { status := stFault } (xsp0WriteFail
        { w with cfg.job := none }))) ∧
    (u.cfg.write = some (.keyImage line seq) → writeAlive u line seq = true →
      exec (.xsp0WriteDone t true) s = .next (keyWriteDone line seq { u with cfg.write := none })) ∧
    (u.cfg.write = some (.fwHeader k .fallback line seq) → writeAlive u line seq = true → exec (.xsp0WriteDone t true) s =
      .next (finishCmd line seq { result := [0, 0, 0, 0, k] } (fireEvent 466 (setFw k (fun x => { x with st := .fallback }) { u with cfg.write := none }))))

/-- The diagnostic commands and the debug port take effect. A diagnostic read answers its words, in the completion or in
the response buffer; a diagnostic write merges its mask and answers what the register then reads; freeze requests
are made by command, pin and its fall; resume, reset, address, word and the test instructions of the debug port act
in their modes, the debug instructions elsewhere are refused, and a scan whose instruction is not loaded does
nothing. Forms it says complete, with exec answering their next state: diagRegRead, diagRegWrite, diagFreeze,
freezeRequest, dbgResume, heartbeatCheckResume, dbgReset, dbgAddr, dbgRead, tapInstructionLoad, tapReset. (R521,
R526, R528, R529, R530, R532, R533, R66, 20_commands_configuration.md, 21_freeze_debug.md) -/
def Obligations.DiagnosticsAndDebugComplete : Prop :=
  ∀ (t line seq addr code : Nat) (low dbl : Bool) (cells tdi : List Bool) (s : State) (c : Cmd), let u := s.at t
    let a := c.param 8 4; let n := c.param 12 2; let b := blockOf a; let v := if mayRead .sup u.dbg.addr then u else firewallCount u; let new := diagWord (readWord u a) (c.param 12 4) (c.param 16 4)
    (∀ l x, diagWords n a u = (l, x) → Starts line seq 0x1101 u c → a % 4 = 0 → ¬n < 1 → ¬16384 < n →
      (c.refLen = 0 → n ≤ 8 → exec (.diagRegRead t line seq) s = .next (done c ((l.map (leBytes 4)).flatten) x)) ∧
      (c.refLen ≠ 0 → exec (.diagRegRead t line seq) s = .next (doneOut c [] ((l.map (leBytes 4)).flatten) x))) ∧
    (Starts line seq 0x1102 u c → diagIllegal c u = false → diagOutOfRange b.1 b.2 (c.param 12 4) new = false →
      exec (.diagRegWrite t line seq) s = .next (done c (leBytes 4 (readWord (diagWrite b.1 b.2 new u) a)) (diagWrite b.1 b.2 new u))) ∧
    (Starts line seq 0x1103 u c → exec (.diagFreeze t line seq) s =
      .next (requestFreeze 2 { accept c [] u with dbg.job := some (c.line, c.seq) })) ∧
    (u.dbg.freezeNLow = false → exec (.freezeRequest t true) s = .next (requestFreeze 1 { u with dbg.freezeNLow := true })) ∧
    (u.dbg.freezeNLow = true → exec (.freezeRequest t true) s = .next { u with dbg.freezeNLow := true }) ∧
    (exec (.freezeRequest t false) s = .next { u with dbg.freezeNLow := false }) ∧
    (u.dbg.ir = 0x13 → u.sys.mode = .m11 → u.dbg.resumable = true → u.dbg.freezeNLow = false → exec (.dbgResume t) s = .next (resumeFreeze u)) ∧
    (u.dbg.ir = 0x13 → u.dbg.resumable = false → exec (.dbgResume t) s = .next (tapRefuse u)) ∧
    (u.dbg.ir ≠ 0x13 → exec (.dbgResume t) s = .next u) ∧
    (u.keeper.freezeReq = false → exec (.heartbeatCheckResume t) s = .next { u with keeper.hbCheck := true }) ∧
    (u.dbg.ir = 0x14 → u.sys.mode = .m10 ∨ u.sys.mode = .m11 → exec (.dbgReset t) s = .next (resetControl .debug (coldNow u) u)) ∧
    (u.dbg.ir = 0x11 → u.sys.mode = .m11 → exec (.dbgAddr t addr) s = .next { u with dbg.addr := addr }) ∧
    (u.dbg.ir = 0x12 → u.sys.mode = .m11 → dbgReadable u u.dbg.addr = true → exec (.dbgRead t dbl) s =
      .next (emit { v with dbg := { v.dbg with word := dbgWord u u.dbg.addr, blocked := false, eccDbl := dbl, addr := (u.dbg.addr + 4) % 2 ^ 32 } }
        .tap 0 [((dbgWord u u.dbg.addr : Nat) : Int), 0, ((b2n dbl : Nat) : Int)])) ∧
    (u.dbg.ir = 0x12 → u.sys.mode = .m11 → dbgReadable u u.dbg.addr = false → exec (.dbgRead t dbl) s =
      .next (emit { v with dbg := { v.dbg with word := 0, blocked := true, eccDbl := false, addr := (u.dbg.addr + 4) % 2 ^ 32 } } .tap 0 [0, 1, 0])) ∧
    (u.dbg.ir = 0x12 → u.sys.mode ≠ .m11 → exec (.dbgRead t dbl) s = .next (tapRefuse u)) ∧
    (drivesPins u.dbg.ir = false → exec (.tapInstructionLoad t 0x01 cells tdi) s =
      .next (emit { u with dbg := { u.dbg with ir := 0x01, refused := u.dbg.refused || false } } .tap 1 [0x048763A5])) ∧
    (drivesPins u.dbg.ir = false → code ∈ [0x11, 0x12, 0x13] → u.sys.mode = .m11 → exec (.tapInstructionLoad t code cells tdi) s =
      .next { u with dbg := { u.dbg with ir := code, refused := u.dbg.refused || false } }) ∧
    (drivesPins u.dbg.ir = false → code ∈ [0x11, 0x12, 0x13] → u.sys.mode ≠ .m11 → exec (.tapInstructionLoad t code cells tdi) s =
      .next { u with dbg := { u.dbg with ir := 0xFF, refused := u.dbg.refused || true } }) ∧
    (drivesPins u.dbg.ir = false → tdi ≠ [] → exec (.tapInstructionLoad t 0x02 cells tdi) s =
      .next (bndScan cells tdi { u with dbg := { u.dbg with ir := 0x02, refused := u.dbg.refused || false } })) ∧
    (u.sys.psOff = true → lifeCycle u ≠ 2 → exec (.tapInstructionLoad t 0x03 cells []) s =
      .next (extestLow { u with dbg := { u.dbg with ir := 0x03, refused := u.dbg.refused || false } })) ∧
    (drivesPins u.dbg.ir = false → exec (.tapReset t) s = .next { u with dbg := { u.dbg with ir := 1, refused := false } }) ∧
    (drivesPins u.dbg.ir = true → u.sys.mode ≠ .m11 → u.sys.mode ≠ .m0 → ∀ r, r = resetControl .debug (coldNow u) u →
      exec (.tapReset t) s = .next { r with dbg := { r.dbg with ir := 1, refused := false } })

/-- The register reads, writes and the SPI read take effect. A core's read that the access table allows reads, one that
it does not allow is blocked and reads 0; the host's reads and writes reach the windows of its bars, reads in M11
give all ones and writes have no effect; a core's write to memory it may write stores the word, a blocked one stores
nothing; the SPI read answers the status byte, the words and their CRC. Forms it says complete, with exec answering
their next state: regRead, regWrite, spiRead. (R28, R31, R93, R94, R108, 01_architecture.md, 03_host_interface.md) -/
def Obligations.RegisterPortsComplete : Prop :=
  ∀ (t addr word n : Nat) (m : Master) (s : State), let u := s.at t
    (m ≠ .pcie → mayRead m addr = true → exec (.regRead t m addr) s = .next (deviceRead m addr u)) ∧
    (m ≠ .pcie → mayRead m addr = false → exec (.regRead t m addr) s = .next (emit (firewallBlock u) .readData addr [0])) ∧
    (u.sys.mode = .m11 → exec (.regRead t .pcie addr) s = .next (emit u .readData addr [0xFFFFFFFF])) ∧
    (∀ x w v, u.sys.mode ≠ .m11 → barReal addr = some x → readStep .pcie x u = (w, v) →
      exec (.regRead t .pcie addr) s = .next (emit v .readData addr [((w : Nat) : Int)])) ∧
    (u.sys.mode ≠ .m11 → barReal addr = none → openWindow addr = false → exec (.regRead t .pcie addr) s = .next (emit u .readData addr [0])) ∧
    (m ≠ .pcie → mayWrite m addr u = false → exec (.regWrite t m addr word) s = .next (firewallBlock u)) ∧
    (m ≠ .pcie → mayWrite m addr u = true → regionOf addr ∈ [.queue, .staging, .frames, .retSup, .fwData, .legalRam, .legalExport] →
      exec (.regWrite t m addr word) s = .next (wrw u addr word)) ∧
    (m ≠ .pcie → mayWrite m addr u = true → regionOf addr = .periph →
      exec (.regWrite t m addr word) s = .next (blockWrite m ((addr - 0x40000000) / 0x10000) (addr % 0x10000) word u)) ∧
    (u.sys.mode = .m11 → exec (.regWrite t .pcie addr word) s = .next u) ∧
    (∀ x, u.sys.mode ≠ .m11 → barReal addr = some x → x < 0x40000000 → exec (.regWrite t .pcie addr word) s = .next (wrw u x word)) ∧
    (∀ l v b, spiReadWords n addr u = (l, v) → b = spiStatus u :: (l.map (leBytes 4)).flatten →
      exec (.spiRead t addr n) s = .next (emit v .readData 2 ((b ++ [crc8 b]).map Int.ofNat)))

/-- A mailbox command of another than the owner, or that its mode does not admit, is ignored. Each of the mailbox
commands named, next on its line with its opcode, completes with IGNORED_NOT_OWNER where its table asks for the
owner and another sent it; else, in a mode that its table does not allow, with IGNORED_MODE and the mode as DETAIL;
and has none of its effect. (R42, R78, R84, 03_host_interface.md, 20_commands_configuration.md) -/
def Obligations.CommandsOutOfTheirModesAreIgnored : Prop :=
  ∀ (t line seq ps x y z : Nat) (ok : Bool) (s : State) (c : Cmd) (i : CmdInfo) (p : Nat × Instr), let u := s.at t
    p ∈ ([
      (0x0101, .sysIdentify t line seq), (0x0102, .sysModeSet t line seq), (0x0103, .sysReset t line seq),
      (0x0104, .sysErrqRead t line seq), (0x0105, .sysFwStage t line seq ok), (0x0106, .sysFwPrefer t line seq),
      (0x0107, .sysCounters t line seq), (0x01F0, .romStatus t line seq), (0x01F1, .romLoad t line seq ok),
      (0x01F2, .romBoot t line seq x y z), (0x0201, .ownChallenge t line seq), (0x0202, .ownClaim t line seq ok),
      (0x0203, .ownHeartbeat t line seq), (0x0204, .ownHandover t line seq), (0x0205, .ownRelease t line seq),
      (0x0206, .ownStatus t line seq), (0x0301, .cfgStage t line seq ps ok), (0x0302, .cfgCommit t line seq ps),
      (0x0303, .cfgRollback t line seq ps), (0x0304, .cfgStatus t line seq), (0x0305, .cfgRead t line seq),
      (0x0306, .cfgDiscard t line seq ps), (0x0401, .slcStatus t line seq), (0x0402, .slcTableRead t line seq),
      (0x0403, .slcMapRead t line seq), (0x0404, .slcPlaceRead t line seq), (0x0405, .slcClassSet t line seq),
      (0x0501, .pwrStatus t line seq), (0x0502, .pwrFaultClear t line seq), (0x0503, .pwrLegExclude t line seq),
      (0x0504, .pwrMdatRead t line seq), (0x0505, .pwrLoopRead t line seq), (0x0506, .pwrLoopBudget t line seq),
      (0x0601, .cblStatus t line seq), (0x0602, .cblRecordRead t line seq), (0x0603, .cblAuth t line seq),
      (0x0604, .cblLifeFlush t line seq), (0x0701, .lswStatus t line seq), (0x0702, .lswSet t line seq),
      (0x0703, .lswClear t line seq), (0x0704, .mxpStatus t line seq), (0x0801, .vehStatus t line seq),
      (0x0802, .vehSessionRead t line seq), (0x0803, .vehAuthorize t line seq), (0x0804, .vehStop t line seq),
      (0x0805, .vehExportSet t line seq), (0x0806, .vehCertReply t line seq), (0x0807, .vehPortEnable t line seq),
      (0x0901, .canStatus t line seq), (0x0902, .canObjRead t line seq), (0x0903, .canObjWrite t line seq),
      (0x0904, .canTxCancel t line seq), (0x0905, .canRecover t line seq), (0x0A01, .mtrStatus t line seq),
      (0x0A02, .mtrRead t line seq), (0x0A03, .mtrHarmRead t line seq), (0x0A04, .mtrEventRead t line seq),
      (0x0A05, .mtrExtremeReset t line seq), (0x0A06, .mtrCalWrite t line seq), (0x0A07, .mtrCalCommit t line seq),
      (0x0A08, .mtrTpSet t line seq), (0x0B01, .lglStatus t line seq), (0x0B02, .lglLogRead t line seq),
      (0x0B03, .lglParamLoad t line seq ok), (0x0B04, .lglCreditSet t line seq), (0x0B05, .lglWindowSet t line seq),
      (0x0C01, .keyStatus t line seq), (0x0C02, .keyPubRead t line seq), (0x0C03, .keySvcAuth t line seq ok),
      (0x0C04, .keyWrite t line seq ok), (0x0C05, .keyDestroy t line seq), (0x0C06, .keyLcSet t line seq ok),
      (0x0C07, .keyAttest t line seq), (0x0D01, .dpxStatus t line seq), (0x0D02, .dpxSwap t line seq),
      (0x0D03, .dpxResync t line seq), (0x0E01, .timStatus t line seq), (0x0E02, .timFollowSet t line seq),
      (0x0E03, .timCompareSet t line seq), (0x0E04, .timCaptureRead t line seq), (0x0F01, .ozlStatus t line seq),
      (0x0F02, .ozlTopoRead t line seq), (0x0F03, .ozlPathRead t line seq), (0x0F04, .ozlPortRetrain t line seq),
      (0x1001, .fenStatus t line seq), (0x1002, .fenNeighRead t line seq), (0x1003, .fenTonemapRead t line seq),
      (0x1004, .fenResound t line seq), (0x1101, .diagRegRead t line seq), (0x1102, .diagRegWrite t line seq),
      (0x1103, .diagFreeze t line seq), (0x1201, .evgStatus t line seq), (0x1202, .evgSrcSet t line seq),
      (0x1203, .evgStormRelease t line seq), (0x1204, .evgWait t line seq)] : List (Nat × Instr)) →
    cmdInfo p.1 = some i → startCmd u line seq p.1 = some c →
    ((i.owner && !ownerOk u c) = true → exec p.2 s = .next (finish c { status := stNotOwner } u)) ∧
    ((i.owner && !ownerOk u c) = false → i.modes.contains u.sys.mode.num = false →
      exec p.2 s = .next (finish c { status := stMode, detail := u.sys.mode.num } u))

/-- A mailbox command that the state or the caller's rights forbid is ignored with IGNORED_ILLEGAL. Each of the mailbox
commands named, next on its line in a mode that admits it, completes with IGNORED_ILLEGAL and has none of its effect
where the test its table gives for the life-cycle state, the caller's rights or another state fails, or where a
failed boot admits the ROM commands alone. (R78, R84, R502, 03_host_interface.md, 20_commands_configuration.md) -/
def Obligations.ForbiddenCommandsAreIgnored : Prop :=
  ∀ (t line seq ps x y z : Nat) (ok : Bool) (s : State) (c : Cmd) (i : CmdInfo) (p : Nat × Instr × (Cmd → State → Bool)), let u := s.at t
    p ∈ ([
      (0x0102, .sysModeSet t line seq, modeSetIllegal), (0x0106, .sysFwPrefer t line seq, preferIllegal),
      (0x01F0, .romStatus t line seq, romIllegal), (0x01F1, .romLoad t line seq ok, romIllegal),
      (0x01F2, .romBoot t line seq x y z, romIllegal), (0x0201, .ownChallenge t line seq, noRandom),
      (0x0204, .ownHandover t line seq, handoverIllegal), (0x0301, .cfgStage t line seq ps ok, standbyIllegal),
      (0x0306, .cfgDiscard t line seq ps, standbyIllegal), (0x0502, .pwrFaultClear t line seq, clearRefused),
      (0x0604, .cblLifeFlush t line seq, flushIllegal), (0x0702, .lswSet t line seq, lswSetIllegal),
      (0x0703, .lswClear t line seq, lswClearIllegal), (0x0803, .vehAuthorize t line seq, authorizeIllegal),
      (0x0805, .vehExportSet t line seq, exportIllegal), (0x0807, .vehPortEnable t line seq, portEnableIllegal),
      (0x0A02, .mtrRead t line seq, mtrReadIllegal), (0x0A07, .mtrCalCommit t line seq, noPendingCal),
      (0x0B04, .lglCreditSet t line seq, creditIllegal), (0x0C02, .keyPubRead t line seq, pubIllegal),
      (0x0C04, .keyWrite t line seq ok, writeIllegal), (0x0C05, .keyDestroy t line seq, destroyIllegal),
      (0x0C06, .keyLcSet t line seq ok, lcIllegal), (0x0C07, .keyAttest t line seq, attestIllegal),
      (0x0D02, .dpxSwap t line seq, swapIllegal), (0x0D03, .dpxResync t line seq, resyncIllegal),
      (0x1102, .diagRegWrite t line seq, diagIllegal), (0x1202, .evgSrcSet t line seq, srcSetIllegal),
      (0x1203, .evgStormRelease t line seq, srcSetIllegal)] : List (Nat × Instr × (Cmd → State → Bool))) →
    cmdInfo p.1 = some i → startCmd u line seq p.1 = some c → (i.owner && !ownerOk u c) = false → i.modes.contains u.sys.mode.num = true →
    (recoveryBars u p.1 || p.2.2 c u) = true →
    exec p.2.1 s = .next (finish c { status := stIllegal } u)

/-- The status and read commands change nothing but their own answer. Each of the status and read commands named,
whether it runs or is turned away, leaves every block as it was but the mailboxes, the event gatherer, the ownership
(an owner's lapse that waited for the command), the messages sent, with what sending them over a management or
Oluzel port changes where some queue pair is such a port's, and leaves every byte of memory as it was but those of
the completion queues of lines with waiting commands and of its own reference; with no command waiting on the line
it changes nothing. (R71, R78, R83, R498, R499, 03_host_interface.md, 20_commands_configuration.md) -/
def Obligations.StatusCommandsOnlyAnswer : Prop :=
  ∀ (t line seq : Nat) (s v : State) (i : Instr), let u := s.at t
    i ∈ ([
      .canObjRead t line seq, .canStatus t line seq, .cblRecordRead t line seq, .cblStatus t line seq,
      .cfgStatus t line seq, .dpxStatus t line seq, .evgStatus t line seq, .fenNeighRead t line seq,
      .fenStatus t line seq, .keyPubRead t line seq, .keyStatus t line seq, .lglLogRead t line seq,
      .lglStatus t line seq, .lswStatus t line seq, .mtrHarmRead t line seq, .mtrRead t line seq,
      .mtrStatus t line seq, .mxpStatus t line seq, .ownStatus t line seq, .ozlStatus t line seq,
      .ozlTopoRead t line seq, .pwrLoopBudget t line seq, .pwrLoopRead t line seq, .pwrStatus t line seq,
      .romStatus t line seq, .slcMapRead t line seq, .slcPlaceRead t line seq, .slcStatus t line seq,
      .slcTableRead t line seq, .sysCounters t line seq, .sysIdentify t line seq, .timStatus t line seq,
      .vehSessionRead t line seq, .vehStatus t line seq] : List Instr) →
    exec i s = .next v → (firstOpen u line = none → v = u) ∧ ∀ c, firstOpen u line = some c → OnlyAnswers c u v

/-- An end of interrupt is accepted only for the latest accepted claim of its target. Where the source written is the
most recent accepted claim on the stack of the target, ACTIVE of it clears and the stack pops into the running
priority, and a level source whose input is asserted is PENDING again in the same step; any other write of the
target's own handler leaves every target's stack and running priority and every other source as they were, and sets
EOI_BAD in the target's and the gatherer's status. Forms it says complete, with exec answering their next state:
evgEoi. (R108) -/
def Obligations.EndOfInterruptFollowsTheStack : Prop :=
  ∀ (t tgt n : Nat) (m : Master) (s : State), let u := s.at t; let T := get u.evg.tgt tgt; let x := get u.evg.src n
    claimAllowed m tgt = true → tgt < 8 → n < 512 →
    (∀ prev rest, T.stack = (n, prev) :: rest → ∃ v, exec (.evgEoi t m tgt n) s = .next v ∧
      (get v.evg.src n).active = false ∧ (get v.evg.tgt tgt).stack = rest ∧ (get v.evg.tgt tgt).run = prev ∧
      (srcLevel u n = true → x.input = true → x.stormed = false → srcStormExp u n = 0 → (get v.evg.src n).pending = true)) ∧
    ((∀ prev rest, T.stack ≠ (n, prev) :: rest) → ∃ v, exec (.evgEoi t m tgt n) s = .next v ∧
      (get v.evg.tgt tgt).eoiBad = true ∧ v.evg.eoiBad = true ∧
      (∀ k, (get v.evg.tgt k).stack = (get u.evg.tgt k).stack ∧ (get v.evg.tgt k).run = (get u.evg.tgt k).run) ∧
      ∀ k, k ≠ 25 → get v.evg.src k = get u.evg.src k)

/-- Edges and asserted levels set PENDING, whatever the enable bit. An edge source that is not stormed and within its
storm limit is PENDING after each edge, enabled or not, and reads so in EVG_PEND_k; a further edge finds the one bit
set; a level source's asserted input sets PENDING where the source is not ACTIVE and not where it is; a stormed
source sets nothing. Forms it says complete, with exec answering their next state: eventSourceFire. (R105) -/
def Obligations.EdgesSetPending : Prop :=
  ∀ (t n : Nat) (level : Bool) (s : State), let u := s.at t; let x := get u.evg.src n
    n < 512 → reservedSrc n = false →
    (srcLevel u n = false → x.stormed = false → srcStormExp u n = 0 → ∃ v, exec (.eventSourceFire t n level) s = .next v ∧
      (get v.evg.src n).pending = true ∧ bit (readWord v (baseEVG + 0x100 + 4 * (n / 32))) (n % 32) = true ∧
      ∀ k, k ≠ n → get v.evg.src k = get u.evg.src k) ∧
    (srcLevel u n = false → x.stormed = true → exec (.eventSourceFire t n level) s = .next u) ∧
    (srcLevel u n = true → x.stormed = false → srcStormExp u n = 0 → x.active = false → x.input = false →
      ∃ v, exec (.eventSourceFire t n true) s = .next v ∧ (get v.evg.src n).pending = true) ∧
    (srcLevel u n = true → x.active = true → ∃ v, exec (.eventSourceFire t n true) s = .next v ∧
      (get v.evg.src n).pending = x.pending ∧ (get v.evg.src n).active = true) ∧
    (srcLevel u n = true → x.stormed = true → ∃ v, exec (.eventSourceFire t n true) s = .next v ∧ (get v.evg.src n).pending = x.pending)

/-- A management frame with a bad tag, epoch or sequence is dropped and counted. A management frame whose tag fails,
whose epoch is not the current one, or whose sequence is not above the last accepted from its port changes nothing
but MBX_DROP_CNT, which counts it, MBX_ERR, where FRAME_AUTH and the pair are set, and the events. (R92) -/
def Obligations.BadFramesAreDropped : Prop :=
  ∀ (t first head ofs len : Nat) (f : MgmtFrame) (entries : List (List Nat)) (data : List Nat) (s : State) (i : Instr), let u := s.at t
    (i, len) ∈ ([(.mgmtSubmit t f first entries, 4 + 64 * entries.length), (.mgmtHostCredit t f head, 4),
      (.mgmtData t f ofs data, 4 + data.length)] : List (Instr × Nat)) →
    f.tagOk = false ∨ f.epoch ≠ u.mbx.epoch ∨ f.fseq ≤ get u.mbx.fseqIn (f.port - 3) →
    (frameTaken f len u = false → exec i s = .next u) ∧
    (frameTaken f len u = true → ∃ v, exec i s = .next v ∧ { v with mbx := u.mbx, evg := u.evg, out := u.out } = u ∧
      v.mbx = { u.mbx with frameAuth := true, dropCnt := (u.mbx.dropCnt + 1) % 65536, errPair := f.pair % 16 })

/-- Only the legal core pair writes the Peat log window, and the supervisor may read it. A write of the legal pair to
the Peat log window is stored; one of any other master is blocked by the firewall, whatever the word; no BAR address
of the host leads to the window; a read of the supervisor gives the word. (R32) -/
def Obligations.OnlyTheLegalPairWritesThePeatLog : Prop :=
  ∀ (t a w : Nat) (s : State), let u := s.at t
    0x90000000 ≤ a → a < 0xA0000000 →
    exec (.regWrite t .legal a w) s = .next (wrw u a w) ∧ exec (.regRead t .sup a) s = .next (emit u .readData a [((rdw u a : Nat) : Int)]) ∧
      (∀ m, m ≠ .legal → m ≠ .pcie → exec (.regWrite t m a w) s = .next (firewallBlock u)) ∧ ∀ b, barReal b ≠ some a

/-- A write to plain memory stores its word little-endian and changes no other byte. A write that the access table
allows to a region of plain memory leaves every other block and every byte outside its word as it was, and, where
the memories are canonical, its four bytes hold the word, low byte first; the host's writes through BAR0 and BAR2 do
the same at the address they lead to. Forms it says complete, with exec answering their next state: regWrite. (R6,
R7, R28, R31, 01_architecture.md) -/
def Obligations.StoresChangeOnlyTheirWord : Prop :=
  ∀ (t a w : Nat) (m : Master) (s : State), let u := s.at t
    (m ≠ .pcie → mayWrite m a u = true → regionOf a ∈ [.codeRam, .queue, .staging, .frames, .retSup, .retLegal, .fwData, .legalRam, .legalExport, .peat] →
      ∃ v, exec (.regWrite t m a w) s = .next v ∧ { v with mem := u.mem } = u ∧ (∀ b, b < a ∨ a + 4 ≤ b → memGet v.mem b = memGet u.mem b) ∧
        (Memory.wf u.mem = true → rdw v a = w % 2 ^ 32)) ∧
    (∀ x, u.sys.mode ≠ .m11 → barReal a = some x → x < 0x40000000 →
      ∃ v, exec (.regWrite t .pcie a w) s = .next v ∧ { v with mem := u.mem } = u ∧ (∀ b, b < x ∨ x + 4 ≤ b → memGet v.mem b = memGet u.mem b) ∧
        (Memory.wf u.mem = true → rdw v x = w % 2 ^ 32))

/-- The registers whose reset value is not 0 hold it after reset. SYS_MODE, MBX_CAP, MBX_STAGE_FREE, MBX_Q0_IRQ,
EVG_T0_STAT, SLC_PG0_STAT, MTR_DC0_VEXT and TSU_STAT read the reset values their tables give; SYS_ERRQ_STAT,
SYS_M8_CAUSE and EVG_CTRL read 0. (02_modes_reset_boot.md, 03_host_interface.md, 04_event_gatherer.md,
06_sluice_engine.md, 14_metering.md, 17_oluzel_time.md) -/
def Obligations.ResetRegisterValues : Prop :=
  [0x40000010, 0x40020000, 0x40020004, 0x40020118, 0x40011008, 0x40040200, 0x40100114, 0x40120010, 0x40000020, 0x40000024,
    0x40010000].map (readWord State.reset) = [1, 0x00104010, 0xFFFF, 0x101, 0x200, 0x700, 0xFFFF, 4, 0, 0, 0]

/-- A reset that reaches every domain clears the memories and blocks, but not retention and storage. After a power-on,
pin, clock-loss, heartbeat-loss or debug reset the bytes of retention SRAM, of the storage windows and, while a VS
bank supplies the power die, of its channels' and generators' registers are as before and every other byte of
memory, the registers among them, reads as unwritten memory does (0: log entry 5); the Sluice engine, the power
stage, the loop engine, the ports, the CAN controllers, the relay and Fenline are at their reset values; the fuses
are as they were and GATE_EN is low. (R28, R29, R45, R48, 01_architecture.md, 02_modes_reset_boot.md) -/
def Obligations.FullResetsClearTheMemories : Prop :=
  ∀ (k : RstKind) (cold : Bool) (u : State), let v := resetControl k cold u
    k ∈ ([.powerOn, .pin, .clockLoss, .heartbeat, .debug] : List RstKind) →
    (∀ a, memGet v.mem a = if (0x0F000000 ≤ a ∧ a < 0x0F040000) ∨ 0x80000000 ≤ a ∨
        u.lsw.good.toList.any id = true ∧ 0x40080000 ≤ a ∧ a < 0x40090000 then memGet u.mem a else 0) ∧
      v.slc = State.reset.slc ∧ v.pwm = State.reset.pwm ∧ v.lpe = State.reset.lpe ∧ v.vcl = State.reset.vcl ∧ v.can = State.reset.can ∧
      v.ozl = State.reset.ozl ∧ v.fen = State.reset.fen ∧ FusesOnlyBurn u v ∧ v.keeper.gateEn = false
end

