-- ==== Sys2Proof/Laws/State.lean ====
section
/-! SUPPORT. What each named update of the state leaves as it was: one lemma per update and field, true by unfolding. -/

namespace Sys2Proof.Machine

@[simp] theorem setCan_now (c : Nat) (f : CanCtl → CanCtl) (s : State) : (setCan c f s).now = s.now := rfl
@[simp] theorem setCan_gap (c : Nat) (f : CanCtl → CanCtl) (s : State) : (setCan c f s).gap = s.gap := rfl
@[simp] theorem setCan_freeCtr (c : Nat) (f : CanCtl → CanCtl) (s : State) : (setCan c f s).freeCtr = s.freeCtr := rfl
@[simp] theorem setCan_out (c : Nat) (f : CanCtl → CanCtl) (s : State) : (setCan c f s).out = s.out := rfl
@[simp] theorem setCan_pending (c : Nat) (f : CanCtl → CanCtl) (s : State) : (setCan c f s).pending = s.pending := rfl
@[simp] theorem setCan_mem (c : Nat) (f : CanCtl → CanCtl) (s : State) : (setCan c f s).mem = s.mem := rfl
@[simp] theorem setCan_sys (c : Nat) (f : CanCtl → CanCtl) (s : State) : (setCan c f s).sys = s.sys := rfl
@[simp] theorem setCan_keeper (c : Nat) (f : CanCtl → CanCtl) (s : State) : (setCan c f s).keeper = s.keeper := rfl
@[simp] theorem setCan_mbx (c : Nat) (f : CanCtl → CanCtl) (s : State) : (setCan c f s).mbx = s.mbx := rfl
@[simp] theorem setCan_own (c : Nat) (f : CanCtl → CanCtl) (s : State) : (setCan c f s).own = s.own := rfl
@[simp] theorem setCan_evg (c : Nat) (f : CanCtl → CanCtl) (s : State) : (setCan c f s).evg = s.evg := rfl
@[simp] theorem setCan_cfg (c : Nat) (f : CanCtl → CanCtl) (s : State) : (setCan c f s).cfg = s.cfg := rfl
@[simp] theorem setCan_dbg (c : Nat) (f : CanCtl → CanCtl) (s : State) : (setCan c f s).dbg = s.dbg := rfl
@[simp] theorem setCan_ret (c : Nat) (f : CanCtl → CanCtl) (s : State) : (setCan c f s).ret = s.ret := rfl
@[simp] theorem setCan_slc (c : Nat) (f : CanCtl → CanCtl) (s : State) : (setCan c f s).slc = s.slc := rfl
@[simp] theorem setCan_pwm (c : Nat) (f : CanCtl → CanCtl) (s : State) : (setCan c f s).pwm = s.pwm := rfl
@[simp] theorem setCan_lpe (c : Nat) (f : CanCtl → CanCtl) (s : State) : (setCan c f s).lpe = s.lpe := rfl
@[simp] theorem setCan_cbl (c : Nat) (f : CanCtl → CanCtl) (s : State) : (setCan c f s).cbl = s.cbl := rfl
@[simp] theorem setCan_lsw (c : Nat) (f : CanCtl → CanCtl) (s : State) : (setCan c f s).lsw = s.lsw := rfl
@[simp] theorem setCan_vcl (c : Nat) (f : CanCtl → CanCtl) (s : State) : (setCan c f s).vcl = s.vcl := rfl
@[simp] theorem setCan_mtr (c : Nat) (f : CanCtl → CanCtl) (s : State) : (setCan c f s).mtr = s.mtr := rfl
@[simp] theorem setCan_lgl (c : Nat) (f : CanCtl → CanCtl) (s : State) : (setCan c f s).lgl = s.lgl := rfl
@[simp] theorem setCan_key (c : Nat) (f : CanCtl → CanCtl) (s : State) : (setCan c f s).key = s.key := rfl
@[simp] theorem setCan_ozl (c : Nat) (f : CanCtl → CanCtl) (s : State) : (setCan c f s).ozl = s.ozl := rfl
@[simp] theorem setCan_tsu (c : Nat) (f : CanCtl → CanCtl) (s : State) : (setCan c f s).tsu = s.tsu := rfl
@[simp] theorem setCan_dpx (c : Nat) (f : CanCtl → CanCtl) (s : State) : (setCan c f s).dpx = s.dpx := rfl
@[simp] theorem setCan_fen (c : Nat) (f : CanCtl → CanCtl) (s : State) : (setCan c f s).fen = s.fen := rfl

@[simp] theorem setCbl_now (n : Nat) (f : CblOp → CblOp) (s : State) : (setCbl n f s).now = s.now := rfl
@[simp] theorem setCbl_gap (n : Nat) (f : CblOp → CblOp) (s : State) : (setCbl n f s).gap = s.gap := rfl
@[simp] theorem setCbl_freeCtr (n : Nat) (f : CblOp → CblOp) (s : State) : (setCbl n f s).freeCtr = s.freeCtr := rfl
@[simp] theorem setCbl_out (n : Nat) (f : CblOp → CblOp) (s : State) : (setCbl n f s).out = s.out := rfl
@[simp] theorem setCbl_pending (n : Nat) (f : CblOp → CblOp) (s : State) : (setCbl n f s).pending = s.pending := rfl
@[simp] theorem setCbl_mem (n : Nat) (f : CblOp → CblOp) (s : State) : (setCbl n f s).mem = s.mem := rfl
@[simp] theorem setCbl_sys (n : Nat) (f : CblOp → CblOp) (s : State) : (setCbl n f s).sys = s.sys := rfl
@[simp] theorem setCbl_keeper (n : Nat) (f : CblOp → CblOp) (s : State) : (setCbl n f s).keeper = s.keeper := rfl
@[simp] theorem setCbl_mbx (n : Nat) (f : CblOp → CblOp) (s : State) : (setCbl n f s).mbx = s.mbx := rfl
@[simp] theorem setCbl_own (n : Nat) (f : CblOp → CblOp) (s : State) : (setCbl n f s).own = s.own := rfl
@[simp] theorem setCbl_evg (n : Nat) (f : CblOp → CblOp) (s : State) : (setCbl n f s).evg = s.evg := rfl
@[simp] theorem setCbl_cfg (n : Nat) (f : CblOp → CblOp) (s : State) : (setCbl n f s).cfg = s.cfg := rfl
@[simp] theorem setCbl_dbg (n : Nat) (f : CblOp → CblOp) (s : State) : (setCbl n f s).dbg = s.dbg := rfl
@[simp] theorem setCbl_ret (n : Nat) (f : CblOp → CblOp) (s : State) : (setCbl n f s).ret = s.ret := rfl
@[simp] theorem setCbl_slc (n : Nat) (f : CblOp → CblOp) (s : State) : (setCbl n f s).slc = s.slc := rfl
@[simp] theorem setCbl_pwm (n : Nat) (f : CblOp → CblOp) (s : State) : (setCbl n f s).pwm = s.pwm := rfl
@[simp] theorem setCbl_lpe (n : Nat) (f : CblOp → CblOp) (s : State) : (setCbl n f s).lpe = s.lpe := rfl
@[simp] theorem setCbl_lsw (n : Nat) (f : CblOp → CblOp) (s : State) : (setCbl n f s).lsw = s.lsw := rfl
@[simp] theorem setCbl_vcl (n : Nat) (f : CblOp → CblOp) (s : State) : (setCbl n f s).vcl = s.vcl := rfl
@[simp] theorem setCbl_can (n : Nat) (f : CblOp → CblOp) (s : State) : (setCbl n f s).can = s.can := rfl
@[simp] theorem setCbl_mtr (n : Nat) (f : CblOp → CblOp) (s : State) : (setCbl n f s).mtr = s.mtr := rfl
@[simp] theorem setCbl_lgl (n : Nat) (f : CblOp → CblOp) (s : State) : (setCbl n f s).lgl = s.lgl := rfl
@[simp] theorem setCbl_key (n : Nat) (f : CblOp → CblOp) (s : State) : (setCbl n f s).key = s.key := rfl
@[simp] theorem setCbl_ozl (n : Nat) (f : CblOp → CblOp) (s : State) : (setCbl n f s).ozl = s.ozl := rfl
@[simp] theorem setCbl_tsu (n : Nat) (f : CblOp → CblOp) (s : State) : (setCbl n f s).tsu = s.tsu := rfl
@[simp] theorem setCbl_dpx (n : Nat) (f : CblOp → CblOp) (s : State) : (setCbl n f s).dpx = s.dpx := rfl
@[simp] theorem setCbl_fen (n : Nat) (f : CblOp → CblOp) (s : State) : (setCbl n f s).fen = s.fen := rfl

@[simp] theorem setTgt_now (s : State) (t : Nat) (f : EvTarget → EvTarget) : (setTgt s t f).now = s.now := rfl
@[simp] theorem setTgt_gap (s : State) (t : Nat) (f : EvTarget → EvTarget) : (setTgt s t f).gap = s.gap := rfl
@[simp] theorem setTgt_freeCtr (s : State) (t : Nat) (f : EvTarget → EvTarget) : (setTgt s t f).freeCtr = s.freeCtr := rfl
@[simp] theorem setTgt_out (s : State) (t : Nat) (f : EvTarget → EvTarget) : (setTgt s t f).out = s.out := rfl
@[simp] theorem setTgt_pending (s : State) (t : Nat) (f : EvTarget → EvTarget) : (setTgt s t f).pending = s.pending := rfl
@[simp] theorem setTgt_mem (s : State) (t : Nat) (f : EvTarget → EvTarget) : (setTgt s t f).mem = s.mem := rfl
@[simp] theorem setTgt_sys (s : State) (t : Nat) (f : EvTarget → EvTarget) : (setTgt s t f).sys = s.sys := rfl
@[simp] theorem setTgt_keeper (s : State) (t : Nat) (f : EvTarget → EvTarget) : (setTgt s t f).keeper = s.keeper := rfl
@[simp] theorem setTgt_mbx (s : State) (t : Nat) (f : EvTarget → EvTarget) : (setTgt s t f).mbx = s.mbx := rfl
@[simp] theorem setTgt_own (s : State) (t : Nat) (f : EvTarget → EvTarget) : (setTgt s t f).own = s.own := rfl
@[simp] theorem setTgt_cfg (s : State) (t : Nat) (f : EvTarget → EvTarget) : (setTgt s t f).cfg = s.cfg := rfl
@[simp] theorem setTgt_dbg (s : State) (t : Nat) (f : EvTarget → EvTarget) : (setTgt s t f).dbg = s.dbg := rfl
@[simp] theorem setTgt_ret (s : State) (t : Nat) (f : EvTarget → EvTarget) : (setTgt s t f).ret = s.ret := rfl
@[simp] theorem setTgt_slc (s : State) (t : Nat) (f : EvTarget → EvTarget) : (setTgt s t f).slc = s.slc := rfl
@[simp] theorem setTgt_pwm (s : State) (t : Nat) (f : EvTarget → EvTarget) : (setTgt s t f).pwm = s.pwm := rfl
@[simp] theorem setTgt_lpe (s : State) (t : Nat) (f : EvTarget → EvTarget) : (setTgt s t f).lpe = s.lpe := rfl
@[simp] theorem setTgt_cbl (s : State) (t : Nat) (f : EvTarget → EvTarget) : (setTgt s t f).cbl = s.cbl := rfl
@[simp] theorem setTgt_lsw (s : State) (t : Nat) (f : EvTarget → EvTarget) : (setTgt s t f).lsw = s.lsw := rfl
@[simp] theorem setTgt_vcl (s : State) (t : Nat) (f : EvTarget → EvTarget) : (setTgt s t f).vcl = s.vcl := rfl
@[simp] theorem setTgt_can (s : State) (t : Nat) (f : EvTarget → EvTarget) : (setTgt s t f).can = s.can := rfl
@[simp] theorem setTgt_mtr (s : State) (t : Nat) (f : EvTarget → EvTarget) : (setTgt s t f).mtr = s.mtr := rfl
@[simp] theorem setTgt_lgl (s : State) (t : Nat) (f : EvTarget → EvTarget) : (setTgt s t f).lgl = s.lgl := rfl
@[simp] theorem setTgt_key (s : State) (t : Nat) (f : EvTarget → EvTarget) : (setTgt s t f).key = s.key := rfl
@[simp] theorem setTgt_ozl (s : State) (t : Nat) (f : EvTarget → EvTarget) : (setTgt s t f).ozl = s.ozl := rfl
@[simp] theorem setTgt_tsu (s : State) (t : Nat) (f : EvTarget → EvTarget) : (setTgt s t f).tsu = s.tsu := rfl
@[simp] theorem setTgt_dpx (s : State) (t : Nat) (f : EvTarget → EvTarget) : (setTgt s t f).dpx = s.dpx := rfl
@[simp] theorem setTgt_fen (s : State) (t : Nat) (f : EvTarget → EvTarget) : (setTgt s t f).fen = s.fen := rfl

@[simp] theorem setNeigh_now (k : Nat) (f : Neigh → Neigh) (s : State) : (setNeigh k f s).now = s.now := rfl
@[simp] theorem setNeigh_gap (k : Nat) (f : Neigh → Neigh) (s : State) : (setNeigh k f s).gap = s.gap := rfl
@[simp] theorem setNeigh_freeCtr (k : Nat) (f : Neigh → Neigh) (s : State) : (setNeigh k f s).freeCtr = s.freeCtr := rfl
@[simp] theorem setNeigh_out (k : Nat) (f : Neigh → Neigh) (s : State) : (setNeigh k f s).out = s.out := rfl
@[simp] theorem setNeigh_pending (k : Nat) (f : Neigh → Neigh) (s : State) : (setNeigh k f s).pending = s.pending := rfl
@[simp] theorem setNeigh_mem (k : Nat) (f : Neigh → Neigh) (s : State) : (setNeigh k f s).mem = s.mem := rfl
@[simp] theorem setNeigh_sys (k : Nat) (f : Neigh → Neigh) (s : State) : (setNeigh k f s).sys = s.sys := rfl
@[simp] theorem setNeigh_keeper (k : Nat) (f : Neigh → Neigh) (s : State) : (setNeigh k f s).keeper = s.keeper := rfl
@[simp] theorem setNeigh_mbx (k : Nat) (f : Neigh → Neigh) (s : State) : (setNeigh k f s).mbx = s.mbx := rfl
@[simp] theorem setNeigh_own (k : Nat) (f : Neigh → Neigh) (s : State) : (setNeigh k f s).own = s.own := rfl
@[simp] theorem setNeigh_evg (k : Nat) (f : Neigh → Neigh) (s : State) : (setNeigh k f s).evg = s.evg := rfl
@[simp] theorem setNeigh_cfg (k : Nat) (f : Neigh → Neigh) (s : State) : (setNeigh k f s).cfg = s.cfg := rfl
@[simp] theorem setNeigh_dbg (k : Nat) (f : Neigh → Neigh) (s : State) : (setNeigh k f s).dbg = s.dbg := rfl
@[simp] theorem setNeigh_ret (k : Nat) (f : Neigh → Neigh) (s : State) : (setNeigh k f s).ret = s.ret := rfl
@[simp] theorem setNeigh_slc (k : Nat) (f : Neigh → Neigh) (s : State) : (setNeigh k f s).slc = s.slc := rfl
@[simp] theorem setNeigh_pwm (k : Nat) (f : Neigh → Neigh) (s : State) : (setNeigh k f s).pwm = s.pwm := rfl
@[simp] theorem setNeigh_lpe (k : Nat) (f : Neigh → Neigh) (s : State) : (setNeigh k f s).lpe = s.lpe := rfl
@[simp] theorem setNeigh_cbl (k : Nat) (f : Neigh → Neigh) (s : State) : (setNeigh k f s).cbl = s.cbl := rfl
@[simp] theorem setNeigh_lsw (k : Nat) (f : Neigh → Neigh) (s : State) : (setNeigh k f s).lsw = s.lsw := rfl
@[simp] theorem setNeigh_vcl (k : Nat) (f : Neigh → Neigh) (s : State) : (setNeigh k f s).vcl = s.vcl := rfl
@[simp] theorem setNeigh_can (k : Nat) (f : Neigh → Neigh) (s : State) : (setNeigh k f s).can = s.can := rfl
@[simp] theorem setNeigh_mtr (k : Nat) (f : Neigh → Neigh) (s : State) : (setNeigh k f s).mtr = s.mtr := rfl
@[simp] theorem setNeigh_lgl (k : Nat) (f : Neigh → Neigh) (s : State) : (setNeigh k f s).lgl = s.lgl := rfl
@[simp] theorem setNeigh_key (k : Nat) (f : Neigh → Neigh) (s : State) : (setNeigh k f s).key = s.key := rfl
@[simp] theorem setNeigh_ozl (k : Nat) (f : Neigh → Neigh) (s : State) : (setNeigh k f s).ozl = s.ozl := rfl
@[simp] theorem setNeigh_tsu (k : Nat) (f : Neigh → Neigh) (s : State) : (setNeigh k f s).tsu = s.tsu := rfl
@[simp] theorem setNeigh_dpx (k : Nat) (f : Neigh → Neigh) (s : State) : (setNeigh k f s).dpx = s.dpx := rfl

@[simp] theorem setKeySlot_now (n : Nat) (f : KeySlot → KeySlot) (s : State) : (setKeySlot n f s).now = s.now := rfl
@[simp] theorem setKeySlot_gap (n : Nat) (f : KeySlot → KeySlot) (s : State) : (setKeySlot n f s).gap = s.gap := rfl
@[simp] theorem setKeySlot_freeCtr (n : Nat) (f : KeySlot → KeySlot) (s : State) : (setKeySlot n f s).freeCtr = s.freeCtr := rfl
@[simp] theorem setKeySlot_out (n : Nat) (f : KeySlot → KeySlot) (s : State) : (setKeySlot n f s).out = s.out := rfl
@[simp] theorem setKeySlot_pending (n : Nat) (f : KeySlot → KeySlot) (s : State) : (setKeySlot n f s).pending = s.pending := rfl
@[simp] theorem setKeySlot_mem (n : Nat) (f : KeySlot → KeySlot) (s : State) : (setKeySlot n f s).mem = s.mem := rfl
@[simp] theorem setKeySlot_sys (n : Nat) (f : KeySlot → KeySlot) (s : State) : (setKeySlot n f s).sys = s.sys := rfl
@[simp] theorem setKeySlot_keeper (n : Nat) (f : KeySlot → KeySlot) (s : State) : (setKeySlot n f s).keeper = s.keeper := rfl
@[simp] theorem setKeySlot_mbx (n : Nat) (f : KeySlot → KeySlot) (s : State) : (setKeySlot n f s).mbx = s.mbx := rfl
@[simp] theorem setKeySlot_own (n : Nat) (f : KeySlot → KeySlot) (s : State) : (setKeySlot n f s).own = s.own := rfl
@[simp] theorem setKeySlot_evg (n : Nat) (f : KeySlot → KeySlot) (s : State) : (setKeySlot n f s).evg = s.evg := rfl
@[simp] theorem setKeySlot_cfg (n : Nat) (f : KeySlot → KeySlot) (s : State) : (setKeySlot n f s).cfg = s.cfg := rfl
@[simp] theorem setKeySlot_dbg (n : Nat) (f : KeySlot → KeySlot) (s : State) : (setKeySlot n f s).dbg = s.dbg := rfl
@[simp] theorem setKeySlot_ret (n : Nat) (f : KeySlot → KeySlot) (s : State) : (setKeySlot n f s).ret = s.ret := rfl
@[simp] theorem setKeySlot_slc (n : Nat) (f : KeySlot → KeySlot) (s : State) : (setKeySlot n f s).slc = s.slc := rfl
@[simp] theorem setKeySlot_pwm (n : Nat) (f : KeySlot → KeySlot) (s : State) : (setKeySlot n f s).pwm = s.pwm := rfl
@[simp] theorem setKeySlot_lpe (n : Nat) (f : KeySlot → KeySlot) (s : State) : (setKeySlot n f s).lpe = s.lpe := rfl
@[simp] theorem setKeySlot_cbl (n : Nat) (f : KeySlot → KeySlot) (s : State) : (setKeySlot n f s).cbl = s.cbl := rfl
@[simp] theorem setKeySlot_lsw (n : Nat) (f : KeySlot → KeySlot) (s : State) : (setKeySlot n f s).lsw = s.lsw := rfl
@[simp] theorem setKeySlot_vcl (n : Nat) (f : KeySlot → KeySlot) (s : State) : (setKeySlot n f s).vcl = s.vcl := rfl
@[simp] theorem setKeySlot_can (n : Nat) (f : KeySlot → KeySlot) (s : State) : (setKeySlot n f s).can = s.can := rfl
@[simp] theorem setKeySlot_mtr (n : Nat) (f : KeySlot → KeySlot) (s : State) : (setKeySlot n f s).mtr = s.mtr := rfl
@[simp] theorem setKeySlot_lgl (n : Nat) (f : KeySlot → KeySlot) (s : State) : (setKeySlot n f s).lgl = s.lgl := rfl
@[simp] theorem setKeySlot_ozl (n : Nat) (f : KeySlot → KeySlot) (s : State) : (setKeySlot n f s).ozl = s.ozl := rfl
@[simp] theorem setKeySlot_tsu (n : Nat) (f : KeySlot → KeySlot) (s : State) : (setKeySlot n f s).tsu = s.tsu := rfl
@[simp] theorem setKeySlot_dpx (n : Nat) (f : KeySlot → KeySlot) (s : State) : (setKeySlot n f s).dpx = s.dpx := rfl
@[simp] theorem setKeySlot_fen (n : Nat) (f : KeySlot → KeySlot) (s : State) : (setKeySlot n f s).fen = s.fen := rfl

@[simp] theorem setOz_now (p : Nat) (f : OzPort → OzPort) (s : State) : (setOz p f s).now = s.now := rfl
@[simp] theorem setOz_gap (p : Nat) (f : OzPort → OzPort) (s : State) : (setOz p f s).gap = s.gap := rfl
@[simp] theorem setOz_freeCtr (p : Nat) (f : OzPort → OzPort) (s : State) : (setOz p f s).freeCtr = s.freeCtr := rfl
@[simp] theorem setOz_out (p : Nat) (f : OzPort → OzPort) (s : State) : (setOz p f s).out = s.out := rfl
@[simp] theorem setOz_pending (p : Nat) (f : OzPort → OzPort) (s : State) : (setOz p f s).pending = s.pending := rfl
@[simp] theorem setOz_mem (p : Nat) (f : OzPort → OzPort) (s : State) : (setOz p f s).mem = s.mem := rfl
@[simp] theorem setOz_sys (p : Nat) (f : OzPort → OzPort) (s : State) : (setOz p f s).sys = s.sys := rfl
@[simp] theorem setOz_keeper (p : Nat) (f : OzPort → OzPort) (s : State) : (setOz p f s).keeper = s.keeper := rfl
@[simp] theorem setOz_mbx (p : Nat) (f : OzPort → OzPort) (s : State) : (setOz p f s).mbx = s.mbx := rfl
@[simp] theorem setOz_own (p : Nat) (f : OzPort → OzPort) (s : State) : (setOz p f s).own = s.own := rfl
@[simp] theorem setOz_evg (p : Nat) (f : OzPort → OzPort) (s : State) : (setOz p f s).evg = s.evg := rfl
@[simp] theorem setOz_cfg (p : Nat) (f : OzPort → OzPort) (s : State) : (setOz p f s).cfg = s.cfg := rfl
@[simp] theorem setOz_dbg (p : Nat) (f : OzPort → OzPort) (s : State) : (setOz p f s).dbg = s.dbg := rfl
@[simp] theorem setOz_ret (p : Nat) (f : OzPort → OzPort) (s : State) : (setOz p f s).ret = s.ret := rfl
@[simp] theorem setOz_slc (p : Nat) (f : OzPort → OzPort) (s : State) : (setOz p f s).slc = s.slc := rfl
@[simp] theorem setOz_pwm (p : Nat) (f : OzPort → OzPort) (s : State) : (setOz p f s).pwm = s.pwm := rfl
@[simp] theorem setOz_lpe (p : Nat) (f : OzPort → OzPort) (s : State) : (setOz p f s).lpe = s.lpe := rfl
@[simp] theorem setOz_cbl (p : Nat) (f : OzPort → OzPort) (s : State) : (setOz p f s).cbl = s.cbl := rfl
@[simp] theorem setOz_lsw (p : Nat) (f : OzPort → OzPort) (s : State) : (setOz p f s).lsw = s.lsw := rfl
@[simp] theorem setOz_vcl (p : Nat) (f : OzPort → OzPort) (s : State) : (setOz p f s).vcl = s.vcl := rfl
@[simp] theorem setOz_can (p : Nat) (f : OzPort → OzPort) (s : State) : (setOz p f s).can = s.can := rfl
@[simp] theorem setOz_mtr (p : Nat) (f : OzPort → OzPort) (s : State) : (setOz p f s).mtr = s.mtr := rfl
@[simp] theorem setOz_lgl (p : Nat) (f : OzPort → OzPort) (s : State) : (setOz p f s).lgl = s.lgl := rfl
@[simp] theorem setOz_key (p : Nat) (f : OzPort → OzPort) (s : State) : (setOz p f s).key = s.key := rfl
@[simp] theorem setOz_tsu (p : Nat) (f : OzPort → OzPort) (s : State) : (setOz p f s).tsu = s.tsu := rfl
@[simp] theorem setOz_dpx (p : Nat) (f : OzPort → OzPort) (s : State) : (setOz p f s).dpx = s.dpx := rfl
@[simp] theorem setOz_fen (p : Nat) (f : OzPort → OzPort) (s : State) : (setOz p f s).fen = s.fen := rfl

@[simp] theorem setSlot_now (k : Nat) (f : Slot → Slot) (s : State) : (setSlot k f s).now = s.now := rfl
@[simp] theorem setSlot_gap (k : Nat) (f : Slot → Slot) (s : State) : (setSlot k f s).gap = s.gap := rfl
@[simp] theorem setSlot_freeCtr (k : Nat) (f : Slot → Slot) (s : State) : (setSlot k f s).freeCtr = s.freeCtr := rfl
@[simp] theorem setSlot_out (k : Nat) (f : Slot → Slot) (s : State) : (setSlot k f s).out = s.out := rfl
@[simp] theorem setSlot_pending (k : Nat) (f : Slot → Slot) (s : State) : (setSlot k f s).pending = s.pending := rfl
@[simp] theorem setSlot_mem (k : Nat) (f : Slot → Slot) (s : State) : (setSlot k f s).mem = s.mem := rfl
@[simp] theorem setSlot_sys (k : Nat) (f : Slot → Slot) (s : State) : (setSlot k f s).sys = s.sys := rfl
@[simp] theorem setSlot_keeper (k : Nat) (f : Slot → Slot) (s : State) : (setSlot k f s).keeper = s.keeper := rfl
@[simp] theorem setSlot_mbx (k : Nat) (f : Slot → Slot) (s : State) : (setSlot k f s).mbx = s.mbx := rfl
@[simp] theorem setSlot_own (k : Nat) (f : Slot → Slot) (s : State) : (setSlot k f s).own = s.own := rfl
@[simp] theorem setSlot_evg (k : Nat) (f : Slot → Slot) (s : State) : (setSlot k f s).evg = s.evg := rfl
@[simp] theorem setSlot_cfg (k : Nat) (f : Slot → Slot) (s : State) : (setSlot k f s).cfg = s.cfg := rfl
@[simp] theorem setSlot_dbg (k : Nat) (f : Slot → Slot) (s : State) : (setSlot k f s).dbg = s.dbg := rfl
@[simp] theorem setSlot_ret (k : Nat) (f : Slot → Slot) (s : State) : (setSlot k f s).ret = s.ret := rfl
@[simp] theorem setSlot_slc (k : Nat) (f : Slot → Slot) (s : State) : (setSlot k f s).slc = s.slc := rfl
@[simp] theorem setSlot_pwm (k : Nat) (f : Slot → Slot) (s : State) : (setSlot k f s).pwm = s.pwm := rfl
@[simp] theorem setSlot_cbl (k : Nat) (f : Slot → Slot) (s : State) : (setSlot k f s).cbl = s.cbl := rfl
@[simp] theorem setSlot_lsw (k : Nat) (f : Slot → Slot) (s : State) : (setSlot k f s).lsw = s.lsw := rfl
@[simp] theorem setSlot_vcl (k : Nat) (f : Slot → Slot) (s : State) : (setSlot k f s).vcl = s.vcl := rfl
@[simp] theorem setSlot_can (k : Nat) (f : Slot → Slot) (s : State) : (setSlot k f s).can = s.can := rfl
@[simp] theorem setSlot_mtr (k : Nat) (f : Slot → Slot) (s : State) : (setSlot k f s).mtr = s.mtr := rfl
@[simp] theorem setSlot_lgl (k : Nat) (f : Slot → Slot) (s : State) : (setSlot k f s).lgl = s.lgl := rfl
@[simp] theorem setSlot_key (k : Nat) (f : Slot → Slot) (s : State) : (setSlot k f s).key = s.key := rfl
@[simp] theorem setSlot_ozl (k : Nat) (f : Slot → Slot) (s : State) : (setSlot k f s).ozl = s.ozl := rfl
@[simp] theorem setSlot_tsu (k : Nat) (f : Slot → Slot) (s : State) : (setSlot k f s).tsu = s.tsu := rfl
@[simp] theorem setSlot_dpx (k : Nat) (f : Slot → Slot) (s : State) : (setSlot k f s).dpx = s.dpx := rfl
@[simp] theorem setSlot_fen (k : Nat) (f : Slot → Slot) (s : State) : (setSlot k f s).fen = s.fen := rfl

@[simp] theorem setMdc_now (n : Nat) (f : MtrDc → MtrDc) (s : State) : (setMdc n f s).now = s.now := rfl
@[simp] theorem setMdc_gap (n : Nat) (f : MtrDc → MtrDc) (s : State) : (setMdc n f s).gap = s.gap := rfl
@[simp] theorem setMdc_freeCtr (n : Nat) (f : MtrDc → MtrDc) (s : State) : (setMdc n f s).freeCtr = s.freeCtr := rfl
@[simp] theorem setMdc_out (n : Nat) (f : MtrDc → MtrDc) (s : State) : (setMdc n f s).out = s.out := rfl
@[simp] theorem setMdc_pending (n : Nat) (f : MtrDc → MtrDc) (s : State) : (setMdc n f s).pending = s.pending := rfl
@[simp] theorem setMdc_mem (n : Nat) (f : MtrDc → MtrDc) (s : State) : (setMdc n f s).mem = s.mem := rfl
@[simp] theorem setMdc_sys (n : Nat) (f : MtrDc → MtrDc) (s : State) : (setMdc n f s).sys = s.sys := rfl
@[simp] theorem setMdc_keeper (n : Nat) (f : MtrDc → MtrDc) (s : State) : (setMdc n f s).keeper = s.keeper := rfl
@[simp] theorem setMdc_mbx (n : Nat) (f : MtrDc → MtrDc) (s : State) : (setMdc n f s).mbx = s.mbx := rfl
@[simp] theorem setMdc_own (n : Nat) (f : MtrDc → MtrDc) (s : State) : (setMdc n f s).own = s.own := rfl
@[simp] theorem setMdc_evg (n : Nat) (f : MtrDc → MtrDc) (s : State) : (setMdc n f s).evg = s.evg := rfl
@[simp] theorem setMdc_cfg (n : Nat) (f : MtrDc → MtrDc) (s : State) : (setMdc n f s).cfg = s.cfg := rfl
@[simp] theorem setMdc_dbg (n : Nat) (f : MtrDc → MtrDc) (s : State) : (setMdc n f s).dbg = s.dbg := rfl
@[simp] theorem setMdc_ret (n : Nat) (f : MtrDc → MtrDc) (s : State) : (setMdc n f s).ret = s.ret := rfl
@[simp] theorem setMdc_slc (n : Nat) (f : MtrDc → MtrDc) (s : State) : (setMdc n f s).slc = s.slc := rfl
@[simp] theorem setMdc_pwm (n : Nat) (f : MtrDc → MtrDc) (s : State) : (setMdc n f s).pwm = s.pwm := rfl
@[simp] theorem setMdc_lpe (n : Nat) (f : MtrDc → MtrDc) (s : State) : (setMdc n f s).lpe = s.lpe := rfl
@[simp] theorem setMdc_cbl (n : Nat) (f : MtrDc → MtrDc) (s : State) : (setMdc n f s).cbl = s.cbl := rfl
@[simp] theorem setMdc_lsw (n : Nat) (f : MtrDc → MtrDc) (s : State) : (setMdc n f s).lsw = s.lsw := rfl
@[simp] theorem setMdc_vcl (n : Nat) (f : MtrDc → MtrDc) (s : State) : (setMdc n f s).vcl = s.vcl := rfl
@[simp] theorem setMdc_can (n : Nat) (f : MtrDc → MtrDc) (s : State) : (setMdc n f s).can = s.can := rfl
@[simp] theorem setMdc_lgl (n : Nat) (f : MtrDc → MtrDc) (s : State) : (setMdc n f s).lgl = s.lgl := rfl
@[simp] theorem setMdc_key (n : Nat) (f : MtrDc → MtrDc) (s : State) : (setMdc n f s).key = s.key := rfl
@[simp] theorem setMdc_ozl (n : Nat) (f : MtrDc → MtrDc) (s : State) : (setMdc n f s).ozl = s.ozl := rfl
@[simp] theorem setMdc_tsu (n : Nat) (f : MtrDc → MtrDc) (s : State) : (setMdc n f s).tsu = s.tsu := rfl
@[simp] theorem setMdc_dpx (n : Nat) (f : MtrDc → MtrDc) (s : State) : (setMdc n f s).dpx = s.dpx := rfl
@[simp] theorem setMdc_fen (n : Nat) (f : MtrDc → MtrDc) (s : State) : (setMdc n f s).fen = s.fen := rfl

@[simp] theorem setMac_now (k : Nat) (f : MtrAc → MtrAc) (s : State) : (setMac k f s).now = s.now := rfl
@[simp] theorem setMac_gap (k : Nat) (f : MtrAc → MtrAc) (s : State) : (setMac k f s).gap = s.gap := rfl
@[simp] theorem setMac_freeCtr (k : Nat) (f : MtrAc → MtrAc) (s : State) : (setMac k f s).freeCtr = s.freeCtr := rfl
@[simp] theorem setMac_out (k : Nat) (f : MtrAc → MtrAc) (s : State) : (setMac k f s).out = s.out := rfl
@[simp] theorem setMac_pending (k : Nat) (f : MtrAc → MtrAc) (s : State) : (setMac k f s).pending = s.pending := rfl
@[simp] theorem setMac_mem (k : Nat) (f : MtrAc → MtrAc) (s : State) : (setMac k f s).mem = s.mem := rfl
@[simp] theorem setMac_sys (k : Nat) (f : MtrAc → MtrAc) (s : State) : (setMac k f s).sys = s.sys := rfl
@[simp] theorem setMac_keeper (k : Nat) (f : MtrAc → MtrAc) (s : State) : (setMac k f s).keeper = s.keeper := rfl
@[simp] theorem setMac_mbx (k : Nat) (f : MtrAc → MtrAc) (s : State) : (setMac k f s).mbx = s.mbx := rfl
@[simp] theorem setMac_own (k : Nat) (f : MtrAc → MtrAc) (s : State) : (setMac k f s).own = s.own := rfl
@[simp] theorem setMac_evg (k : Nat) (f : MtrAc → MtrAc) (s : State) : (setMac k f s).evg = s.evg := rfl
@[simp] theorem setMac_cfg (k : Nat) (f : MtrAc → MtrAc) (s : State) : (setMac k f s).cfg = s.cfg := rfl
@[simp] theorem setMac_dbg (k : Nat) (f : MtrAc → MtrAc) (s : State) : (setMac k f s).dbg = s.dbg := rfl
@[simp] theorem setMac_ret (k : Nat) (f : MtrAc → MtrAc) (s : State) : (setMac k f s).ret = s.ret := rfl
@[simp] theorem setMac_slc (k : Nat) (f : MtrAc → MtrAc) (s : State) : (setMac k f s).slc = s.slc := rfl
@[simp] theorem setMac_pwm (k : Nat) (f : MtrAc → MtrAc) (s : State) : (setMac k f s).pwm = s.pwm := rfl
@[simp] theorem setMac_lpe (k : Nat) (f : MtrAc → MtrAc) (s : State) : (setMac k f s).lpe = s.lpe := rfl
@[simp] theorem setMac_cbl (k : Nat) (f : MtrAc → MtrAc) (s : State) : (setMac k f s).cbl = s.cbl := rfl
@[simp] theorem setMac_lsw (k : Nat) (f : MtrAc → MtrAc) (s : State) : (setMac k f s).lsw = s.lsw := rfl
@[simp] theorem setMac_vcl (k : Nat) (f : MtrAc → MtrAc) (s : State) : (setMac k f s).vcl = s.vcl := rfl
@[simp] theorem setMac_can (k : Nat) (f : MtrAc → MtrAc) (s : State) : (setMac k f s).can = s.can := rfl
@[simp] theorem setMac_lgl (k : Nat) (f : MtrAc → MtrAc) (s : State) : (setMac k f s).lgl = s.lgl := rfl
@[simp] theorem setMac_key (k : Nat) (f : MtrAc → MtrAc) (s : State) : (setMac k f s).key = s.key := rfl
@[simp] theorem setMac_ozl (k : Nat) (f : MtrAc → MtrAc) (s : State) : (setMac k f s).ozl = s.ozl := rfl
@[simp] theorem setMac_tsu (k : Nat) (f : MtrAc → MtrAc) (s : State) : (setMac k f s).tsu = s.tsu := rfl
@[simp] theorem setMac_dpx (k : Nat) (f : MtrAc → MtrAc) (s : State) : (setMac k f s).dpx = s.dpx := rfl
@[simp] theorem setMac_fen (k : Nat) (f : MtrAc → MtrAc) (s : State) : (setMac k f s).fen = s.fen := rfl

@[simp] theorem setTp_now (k : Nat) (f : TestPulse → TestPulse) (s : State) : (setTp k f s).now = s.now := rfl
@[simp] theorem setTp_gap (k : Nat) (f : TestPulse → TestPulse) (s : State) : (setTp k f s).gap = s.gap := rfl
@[simp] theorem setTp_freeCtr (k : Nat) (f : TestPulse → TestPulse) (s : State) : (setTp k f s).freeCtr = s.freeCtr := rfl
@[simp] theorem setTp_out (k : Nat) (f : TestPulse → TestPulse) (s : State) : (setTp k f s).out = s.out := rfl
@[simp] theorem setTp_pending (k : Nat) (f : TestPulse → TestPulse) (s : State) : (setTp k f s).pending = s.pending := rfl
@[simp] theorem setTp_mem (k : Nat) (f : TestPulse → TestPulse) (s : State) : (setTp k f s).mem = s.mem := rfl
@[simp] theorem setTp_sys (k : Nat) (f : TestPulse → TestPulse) (s : State) : (setTp k f s).sys = s.sys := rfl
@[simp] theorem setTp_keeper (k : Nat) (f : TestPulse → TestPulse) (s : State) : (setTp k f s).keeper = s.keeper := rfl
@[simp] theorem setTp_mbx (k : Nat) (f : TestPulse → TestPulse) (s : State) : (setTp k f s).mbx = s.mbx := rfl
@[simp] theorem setTp_own (k : Nat) (f : TestPulse → TestPulse) (s : State) : (setTp k f s).own = s.own := rfl
@[simp] theorem setTp_evg (k : Nat) (f : TestPulse → TestPulse) (s : State) : (setTp k f s).evg = s.evg := rfl
@[simp] theorem setTp_cfg (k : Nat) (f : TestPulse → TestPulse) (s : State) : (setTp k f s).cfg = s.cfg := rfl
@[simp] theorem setTp_dbg (k : Nat) (f : TestPulse → TestPulse) (s : State) : (setTp k f s).dbg = s.dbg := rfl
@[simp] theorem setTp_ret (k : Nat) (f : TestPulse → TestPulse) (s : State) : (setTp k f s).ret = s.ret := rfl
@[simp] theorem setTp_slc (k : Nat) (f : TestPulse → TestPulse) (s : State) : (setTp k f s).slc = s.slc := rfl
@[simp] theorem setTp_pwm (k : Nat) (f : TestPulse → TestPulse) (s : State) : (setTp k f s).pwm = s.pwm := rfl
@[simp] theorem setTp_lpe (k : Nat) (f : TestPulse → TestPulse) (s : State) : (setTp k f s).lpe = s.lpe := rfl
@[simp] theorem setTp_cbl (k : Nat) (f : TestPulse → TestPulse) (s : State) : (setTp k f s).cbl = s.cbl := rfl
@[simp] theorem setTp_lsw (k : Nat) (f : TestPulse → TestPulse) (s : State) : (setTp k f s).lsw = s.lsw := rfl
@[simp] theorem setTp_vcl (k : Nat) (f : TestPulse → TestPulse) (s : State) : (setTp k f s).vcl = s.vcl := rfl
@[simp] theorem setTp_can (k : Nat) (f : TestPulse → TestPulse) (s : State) : (setTp k f s).can = s.can := rfl
@[simp] theorem setTp_lgl (k : Nat) (f : TestPulse → TestPulse) (s : State) : (setTp k f s).lgl = s.lgl := rfl
@[simp] theorem setTp_key (k : Nat) (f : TestPulse → TestPulse) (s : State) : (setTp k f s).key = s.key := rfl
@[simp] theorem setTp_ozl (k : Nat) (f : TestPulse → TestPulse) (s : State) : (setTp k f s).ozl = s.ozl := rfl
@[simp] theorem setTp_tsu (k : Nat) (f : TestPulse → TestPulse) (s : State) : (setTp k f s).tsu = s.tsu := rfl
@[simp] theorem setTp_dpx (k : Nat) (f : TestPulse → TestPulse) (s : State) : (setTp k f s).dpx = s.dpx := rfl
@[simp] theorem setTp_fen (k : Nat) (f : TestPulse → TestPulse) (s : State) : (setTp k f s).fen = s.fen := rfl

@[simp] theorem setSrc_now (s : State) (n : Nat) (f : EvSrc → EvSrc) : (setSrc s n f).now = s.now := rfl
@[simp] theorem setSrc_gap (s : State) (n : Nat) (f : EvSrc → EvSrc) : (setSrc s n f).gap = s.gap := rfl
@[simp] theorem setSrc_freeCtr (s : State) (n : Nat) (f : EvSrc → EvSrc) : (setSrc s n f).freeCtr = s.freeCtr := rfl
@[simp] theorem setSrc_out (s : State) (n : Nat) (f : EvSrc → EvSrc) : (setSrc s n f).out = s.out := rfl
@[simp] theorem setSrc_pending (s : State) (n : Nat) (f : EvSrc → EvSrc) : (setSrc s n f).pending = s.pending := rfl
@[simp] theorem setSrc_mem (s : State) (n : Nat) (f : EvSrc → EvSrc) : (setSrc s n f).mem = s.mem := rfl
@[simp] theorem setSrc_sys (s : State) (n : Nat) (f : EvSrc → EvSrc) : (setSrc s n f).sys = s.sys := rfl
@[simp] theorem setSrc_keeper (s : State) (n : Nat) (f : EvSrc → EvSrc) : (setSrc s n f).keeper = s.keeper := rfl
@[simp] theorem setSrc_mbx (s : State) (n : Nat) (f : EvSrc → EvSrc) : (setSrc s n f).mbx = s.mbx := rfl
@[simp] theorem setSrc_own (s : State) (n : Nat) (f : EvSrc → EvSrc) : (setSrc s n f).own = s.own := rfl
@[simp] theorem setSrc_cfg (s : State) (n : Nat) (f : EvSrc → EvSrc) : (setSrc s n f).cfg = s.cfg := rfl
@[simp] theorem setSrc_dbg (s : State) (n : Nat) (f : EvSrc → EvSrc) : (setSrc s n f).dbg = s.dbg := rfl
@[simp] theorem setSrc_ret (s : State) (n : Nat) (f : EvSrc → EvSrc) : (setSrc s n f).ret = s.ret := rfl
@[simp] theorem setSrc_slc (s : State) (n : Nat) (f : EvSrc → EvSrc) : (setSrc s n f).slc = s.slc := rfl
@[simp] theorem setSrc_pwm (s : State) (n : Nat) (f : EvSrc → EvSrc) : (setSrc s n f).pwm = s.pwm := rfl
@[simp] theorem setSrc_lpe (s : State) (n : Nat) (f : EvSrc → EvSrc) : (setSrc s n f).lpe = s.lpe := rfl
@[simp] theorem setSrc_cbl (s : State) (n : Nat) (f : EvSrc → EvSrc) : (setSrc s n f).cbl = s.cbl := rfl
@[simp] theorem setSrc_lsw (s : State) (n : Nat) (f : EvSrc → EvSrc) : (setSrc s n f).lsw = s.lsw := rfl
@[simp] theorem setSrc_vcl (s : State) (n : Nat) (f : EvSrc → EvSrc) : (setSrc s n f).vcl = s.vcl := rfl
@[simp] theorem setSrc_can (s : State) (n : Nat) (f : EvSrc → EvSrc) : (setSrc s n f).can = s.can := rfl
@[simp] theorem setSrc_mtr (s : State) (n : Nat) (f : EvSrc → EvSrc) : (setSrc s n f).mtr = s.mtr := rfl
@[simp] theorem setSrc_lgl (s : State) (n : Nat) (f : EvSrc → EvSrc) : (setSrc s n f).lgl = s.lgl := rfl
@[simp] theorem setSrc_key (s : State) (n : Nat) (f : EvSrc → EvSrc) : (setSrc s n f).key = s.key := rfl
@[simp] theorem setSrc_ozl (s : State) (n : Nat) (f : EvSrc → EvSrc) : (setSrc s n f).ozl = s.ozl := rfl
@[simp] theorem setSrc_tsu (s : State) (n : Nat) (f : EvSrc → EvSrc) : (setSrc s n f).tsu = s.tsu := rfl
@[simp] theorem setSrc_dpx (s : State) (n : Nat) (f : EvSrc → EvSrc) : (setSrc s n f).dpx = s.dpx := rfl
@[simp] theorem setSrc_fen (s : State) (n : Nat) (f : EvSrc → EvSrc) : (setSrc s n f).fen = s.fen := rfl

@[simp] theorem setClaim_now (s : State) (p : Nat) (f : Claim → Claim) : (setClaim s p f).now = s.now := rfl
@[simp] theorem setClaim_gap (s : State) (p : Nat) (f : Claim → Claim) : (setClaim s p f).gap = s.gap := rfl
@[simp] theorem setClaim_freeCtr (s : State) (p : Nat) (f : Claim → Claim) : (setClaim s p f).freeCtr = s.freeCtr := rfl
@[simp] theorem setClaim_out (s : State) (p : Nat) (f : Claim → Claim) : (setClaim s p f).out = s.out := rfl
@[simp] theorem setClaim_pending (s : State) (p : Nat) (f : Claim → Claim) : (setClaim s p f).pending = s.pending := rfl
@[simp] theorem setClaim_mem (s : State) (p : Nat) (f : Claim → Claim) : (setClaim s p f).mem = s.mem := rfl
@[simp] theorem setClaim_sys (s : State) (p : Nat) (f : Claim → Claim) : (setClaim s p f).sys = s.sys := rfl
@[simp] theorem setClaim_keeper (s : State) (p : Nat) (f : Claim → Claim) : (setClaim s p f).keeper = s.keeper := rfl
@[simp] theorem setClaim_mbx (s : State) (p : Nat) (f : Claim → Claim) : (setClaim s p f).mbx = s.mbx := rfl
@[simp] theorem setClaim_evg (s : State) (p : Nat) (f : Claim → Claim) : (setClaim s p f).evg = s.evg := rfl
@[simp] theorem setClaim_cfg (s : State) (p : Nat) (f : Claim → Claim) : (setClaim s p f).cfg = s.cfg := rfl
@[simp] theorem setClaim_dbg (s : State) (p : Nat) (f : Claim → Claim) : (setClaim s p f).dbg = s.dbg := rfl
@[simp] theorem setClaim_ret (s : State) (p : Nat) (f : Claim → Claim) : (setClaim s p f).ret = s.ret := rfl
@[simp] theorem setClaim_slc (s : State) (p : Nat) (f : Claim → Claim) : (setClaim s p f).slc = s.slc := rfl
@[simp] theorem setClaim_pwm (s : State) (p : Nat) (f : Claim → Claim) : (setClaim s p f).pwm = s.pwm := rfl
@[simp] theorem setClaim_lpe (s : State) (p : Nat) (f : Claim → Claim) : (setClaim s p f).lpe = s.lpe := rfl
@[simp] theorem setClaim_cbl (s : State) (p : Nat) (f : Claim → Claim) : (setClaim s p f).cbl = s.cbl := rfl
@[simp] theorem setClaim_lsw (s : State) (p : Nat) (f : Claim → Claim) : (setClaim s p f).lsw = s.lsw := rfl
@[simp] theorem setClaim_vcl (s : State) (p : Nat) (f : Claim → Claim) : (setClaim s p f).vcl = s.vcl := rfl
@[simp] theorem setClaim_can (s : State) (p : Nat) (f : Claim → Claim) : (setClaim s p f).can = s.can := rfl
@[simp] theorem setClaim_mtr (s : State) (p : Nat) (f : Claim → Claim) : (setClaim s p f).mtr = s.mtr := rfl
@[simp] theorem setClaim_lgl (s : State) (p : Nat) (f : Claim → Claim) : (setClaim s p f).lgl = s.lgl := rfl
@[simp] theorem setClaim_key (s : State) (p : Nat) (f : Claim → Claim) : (setClaim s p f).key = s.key := rfl
@[simp] theorem setClaim_ozl (s : State) (p : Nat) (f : Claim → Claim) : (setClaim s p f).ozl = s.ozl := rfl
@[simp] theorem setClaim_tsu (s : State) (p : Nat) (f : Claim → Claim) : (setClaim s p f).tsu = s.tsu := rfl
@[simp] theorem setClaim_dpx (s : State) (p : Nat) (f : Claim → Claim) : (setClaim s p f).dpx = s.dpx := rfl
@[simp] theorem setClaim_fen (s : State) (p : Nat) (f : Claim → Claim) : (setClaim s p f).fen = s.fen := rfl

@[simp] theorem setLeg_now (k : Nat) (f : Leg → Leg) (s : State) : (setLeg k f s).now = s.now := rfl
@[simp] theorem setLeg_gap (k : Nat) (f : Leg → Leg) (s : State) : (setLeg k f s).gap = s.gap := rfl
@[simp] theorem setLeg_freeCtr (k : Nat) (f : Leg → Leg) (s : State) : (setLeg k f s).freeCtr = s.freeCtr := rfl
@[simp] theorem setLeg_out (k : Nat) (f : Leg → Leg) (s : State) : (setLeg k f s).out = s.out := rfl
@[simp] theorem setLeg_pending (k : Nat) (f : Leg → Leg) (s : State) : (setLeg k f s).pending = s.pending := rfl
@[simp] theorem setLeg_mem (k : Nat) (f : Leg → Leg) (s : State) : (setLeg k f s).mem = s.mem := rfl
@[simp] theorem setLeg_sys (k : Nat) (f : Leg → Leg) (s : State) : (setLeg k f s).sys = s.sys := rfl
@[simp] theorem setLeg_keeper (k : Nat) (f : Leg → Leg) (s : State) : (setLeg k f s).keeper = s.keeper := rfl
@[simp] theorem setLeg_mbx (k : Nat) (f : Leg → Leg) (s : State) : (setLeg k f s).mbx = s.mbx := rfl
@[simp] theorem setLeg_own (k : Nat) (f : Leg → Leg) (s : State) : (setLeg k f s).own = s.own := rfl
@[simp] theorem setLeg_evg (k : Nat) (f : Leg → Leg) (s : State) : (setLeg k f s).evg = s.evg := rfl
@[simp] theorem setLeg_cfg (k : Nat) (f : Leg → Leg) (s : State) : (setLeg k f s).cfg = s.cfg := rfl
@[simp] theorem setLeg_dbg (k : Nat) (f : Leg → Leg) (s : State) : (setLeg k f s).dbg = s.dbg := rfl
@[simp] theorem setLeg_ret (k : Nat) (f : Leg → Leg) (s : State) : (setLeg k f s).ret = s.ret := rfl
@[simp] theorem setLeg_slc (k : Nat) (f : Leg → Leg) (s : State) : (setLeg k f s).slc = s.slc := rfl
@[simp] theorem setLeg_lpe (k : Nat) (f : Leg → Leg) (s : State) : (setLeg k f s).lpe = s.lpe := rfl
@[simp] theorem setLeg_cbl (k : Nat) (f : Leg → Leg) (s : State) : (setLeg k f s).cbl = s.cbl := rfl
@[simp] theorem setLeg_lsw (k : Nat) (f : Leg → Leg) (s : State) : (setLeg k f s).lsw = s.lsw := rfl
@[simp] theorem setLeg_vcl (k : Nat) (f : Leg → Leg) (s : State) : (setLeg k f s).vcl = s.vcl := rfl
@[simp] theorem setLeg_can (k : Nat) (f : Leg → Leg) (s : State) : (setLeg k f s).can = s.can := rfl
@[simp] theorem setLeg_mtr (k : Nat) (f : Leg → Leg) (s : State) : (setLeg k f s).mtr = s.mtr := rfl
@[simp] theorem setLeg_lgl (k : Nat) (f : Leg → Leg) (s : State) : (setLeg k f s).lgl = s.lgl := rfl
@[simp] theorem setLeg_key (k : Nat) (f : Leg → Leg) (s : State) : (setLeg k f s).key = s.key := rfl
@[simp] theorem setLeg_ozl (k : Nat) (f : Leg → Leg) (s : State) : (setLeg k f s).ozl = s.ozl := rfl
@[simp] theorem setLeg_tsu (k : Nat) (f : Leg → Leg) (s : State) : (setLeg k f s).tsu = s.tsu := rfl
@[simp] theorem setLeg_dpx (k : Nat) (f : Leg → Leg) (s : State) : (setLeg k f s).dpx = s.dpx := rfl
@[simp] theorem setLeg_fen (k : Nat) (f : Leg → Leg) (s : State) : (setLeg k f s).fen = s.fen := rfl

@[simp] theorem setCh_now (n : Nat) (f : LswCh → LswCh) (s : State) : (setCh n f s).now = s.now := rfl
@[simp] theorem setCh_gap (n : Nat) (f : LswCh → LswCh) (s : State) : (setCh n f s).gap = s.gap := rfl
@[simp] theorem setCh_freeCtr (n : Nat) (f : LswCh → LswCh) (s : State) : (setCh n f s).freeCtr = s.freeCtr := rfl
@[simp] theorem setCh_out (n : Nat) (f : LswCh → LswCh) (s : State) : (setCh n f s).out = s.out := rfl
@[simp] theorem setCh_pending (n : Nat) (f : LswCh → LswCh) (s : State) : (setCh n f s).pending = s.pending := rfl
@[simp] theorem setCh_mem (n : Nat) (f : LswCh → LswCh) (s : State) : (setCh n f s).mem = s.mem := rfl
@[simp] theorem setCh_sys (n : Nat) (f : LswCh → LswCh) (s : State) : (setCh n f s).sys = s.sys := rfl
@[simp] theorem setCh_keeper (n : Nat) (f : LswCh → LswCh) (s : State) : (setCh n f s).keeper = s.keeper := rfl
@[simp] theorem setCh_mbx (n : Nat) (f : LswCh → LswCh) (s : State) : (setCh n f s).mbx = s.mbx := rfl
@[simp] theorem setCh_own (n : Nat) (f : LswCh → LswCh) (s : State) : (setCh n f s).own = s.own := rfl
@[simp] theorem setCh_evg (n : Nat) (f : LswCh → LswCh) (s : State) : (setCh n f s).evg = s.evg := rfl
@[simp] theorem setCh_cfg (n : Nat) (f : LswCh → LswCh) (s : State) : (setCh n f s).cfg = s.cfg := rfl
@[simp] theorem setCh_dbg (n : Nat) (f : LswCh → LswCh) (s : State) : (setCh n f s).dbg = s.dbg := rfl
@[simp] theorem setCh_ret (n : Nat) (f : LswCh → LswCh) (s : State) : (setCh n f s).ret = s.ret := rfl
@[simp] theorem setCh_slc (n : Nat) (f : LswCh → LswCh) (s : State) : (setCh n f s).slc = s.slc := rfl
@[simp] theorem setCh_pwm (n : Nat) (f : LswCh → LswCh) (s : State) : (setCh n f s).pwm = s.pwm := rfl
@[simp] theorem setCh_lpe (n : Nat) (f : LswCh → LswCh) (s : State) : (setCh n f s).lpe = s.lpe := rfl
@[simp] theorem setCh_cbl (n : Nat) (f : LswCh → LswCh) (s : State) : (setCh n f s).cbl = s.cbl := rfl
@[simp] theorem setCh_vcl (n : Nat) (f : LswCh → LswCh) (s : State) : (setCh n f s).vcl = s.vcl := rfl
@[simp] theorem setCh_can (n : Nat) (f : LswCh → LswCh) (s : State) : (setCh n f s).can = s.can := rfl
@[simp] theorem setCh_mtr (n : Nat) (f : LswCh → LswCh) (s : State) : (setCh n f s).mtr = s.mtr := rfl
@[simp] theorem setCh_lgl (n : Nat) (f : LswCh → LswCh) (s : State) : (setCh n f s).lgl = s.lgl := rfl
@[simp] theorem setCh_key (n : Nat) (f : LswCh → LswCh) (s : State) : (setCh n f s).key = s.key := rfl
@[simp] theorem setCh_ozl (n : Nat) (f : LswCh → LswCh) (s : State) : (setCh n f s).ozl = s.ozl := rfl
@[simp] theorem setCh_tsu (n : Nat) (f : LswCh → LswCh) (s : State) : (setCh n f s).tsu = s.tsu := rfl
@[simp] theorem setCh_dpx (n : Nat) (f : LswCh → LswCh) (s : State) : (setCh n f s).dpx = s.dpx := rfl
@[simp] theorem setCh_fen (n : Nat) (f : LswCh → LswCh) (s : State) : (setCh n f s).fen = s.fen := rfl

@[simp] theorem setPg_now (g : Nat) (f : PwmPg → PwmPg) (s : State) : (setPg g f s).now = s.now := rfl
@[simp] theorem setPg_gap (g : Nat) (f : PwmPg → PwmPg) (s : State) : (setPg g f s).gap = s.gap := rfl
@[simp] theorem setPg_freeCtr (g : Nat) (f : PwmPg → PwmPg) (s : State) : (setPg g f s).freeCtr = s.freeCtr := rfl
@[simp] theorem setPg_out (g : Nat) (f : PwmPg → PwmPg) (s : State) : (setPg g f s).out = s.out := rfl
@[simp] theorem setPg_pending (g : Nat) (f : PwmPg → PwmPg) (s : State) : (setPg g f s).pending = s.pending := rfl
@[simp] theorem setPg_mem (g : Nat) (f : PwmPg → PwmPg) (s : State) : (setPg g f s).mem = s.mem := rfl
@[simp] theorem setPg_sys (g : Nat) (f : PwmPg → PwmPg) (s : State) : (setPg g f s).sys = s.sys := rfl
@[simp] theorem setPg_keeper (g : Nat) (f : PwmPg → PwmPg) (s : State) : (setPg g f s).keeper = s.keeper := rfl
@[simp] theorem setPg_mbx (g : Nat) (f : PwmPg → PwmPg) (s : State) : (setPg g f s).mbx = s.mbx := rfl
@[simp] theorem setPg_own (g : Nat) (f : PwmPg → PwmPg) (s : State) : (setPg g f s).own = s.own := rfl
@[simp] theorem setPg_evg (g : Nat) (f : PwmPg → PwmPg) (s : State) : (setPg g f s).evg = s.evg := rfl
@[simp] theorem setPg_cfg (g : Nat) (f : PwmPg → PwmPg) (s : State) : (setPg g f s).cfg = s.cfg := rfl
@[simp] theorem setPg_dbg (g : Nat) (f : PwmPg → PwmPg) (s : State) : (setPg g f s).dbg = s.dbg := rfl
@[simp] theorem setPg_ret (g : Nat) (f : PwmPg → PwmPg) (s : State) : (setPg g f s).ret = s.ret := rfl
@[simp] theorem setPg_slc (g : Nat) (f : PwmPg → PwmPg) (s : State) : (setPg g f s).slc = s.slc := rfl
@[simp] theorem setPg_lpe (g : Nat) (f : PwmPg → PwmPg) (s : State) : (setPg g f s).lpe = s.lpe := rfl
@[simp] theorem setPg_cbl (g : Nat) (f : PwmPg → PwmPg) (s : State) : (setPg g f s).cbl = s.cbl := rfl
@[simp] theorem setPg_lsw (g : Nat) (f : PwmPg → PwmPg) (s : State) : (setPg g f s).lsw = s.lsw := rfl
@[simp] theorem setPg_vcl (g : Nat) (f : PwmPg → PwmPg) (s : State) : (setPg g f s).vcl = s.vcl := rfl
@[simp] theorem setPg_can (g : Nat) (f : PwmPg → PwmPg) (s : State) : (setPg g f s).can = s.can := rfl
@[simp] theorem setPg_mtr (g : Nat) (f : PwmPg → PwmPg) (s : State) : (setPg g f s).mtr = s.mtr := rfl
@[simp] theorem setPg_lgl (g : Nat) (f : PwmPg → PwmPg) (s : State) : (setPg g f s).lgl = s.lgl := rfl
@[simp] theorem setPg_key (g : Nat) (f : PwmPg → PwmPg) (s : State) : (setPg g f s).key = s.key := rfl
@[simp] theorem setPg_ozl (g : Nat) (f : PwmPg → PwmPg) (s : State) : (setPg g f s).ozl = s.ozl := rfl
@[simp] theorem setPg_tsu (g : Nat) (f : PwmPg → PwmPg) (s : State) : (setPg g f s).tsu = s.tsu := rfl
@[simp] theorem setPg_dpx (g : Nat) (f : PwmPg → PwmPg) (s : State) : (setPg g f s).dpx = s.dpx := rfl
@[simp] theorem setPg_fen (g : Nat) (f : PwmPg → PwmPg) (s : State) : (setPg g f s).fen = s.fen := rfl

@[simp] theorem setOut_now (n : Nat) (f : PwmOut → PwmOut) (s : State) : (setOut n f s).now = s.now := rfl
@[simp] theorem setOut_gap (n : Nat) (f : PwmOut → PwmOut) (s : State) : (setOut n f s).gap = s.gap := rfl
@[simp] theorem setOut_freeCtr (n : Nat) (f : PwmOut → PwmOut) (s : State) : (setOut n f s).freeCtr = s.freeCtr := rfl
@[simp] theorem setOut_out (n : Nat) (f : PwmOut → PwmOut) (s : State) : (setOut n f s).out = s.out := rfl
@[simp] theorem setOut_pending (n : Nat) (f : PwmOut → PwmOut) (s : State) : (setOut n f s).pending = s.pending := rfl
@[simp] theorem setOut_mem (n : Nat) (f : PwmOut → PwmOut) (s : State) : (setOut n f s).mem = s.mem := rfl
@[simp] theorem setOut_sys (n : Nat) (f : PwmOut → PwmOut) (s : State) : (setOut n f s).sys = s.sys := rfl
@[simp] theorem setOut_keeper (n : Nat) (f : PwmOut → PwmOut) (s : State) : (setOut n f s).keeper = s.keeper := rfl
@[simp] theorem setOut_mbx (n : Nat) (f : PwmOut → PwmOut) (s : State) : (setOut n f s).mbx = s.mbx := rfl
@[simp] theorem setOut_own (n : Nat) (f : PwmOut → PwmOut) (s : State) : (setOut n f s).own = s.own := rfl
@[simp] theorem setOut_evg (n : Nat) (f : PwmOut → PwmOut) (s : State) : (setOut n f s).evg = s.evg := rfl
@[simp] theorem setOut_cfg (n : Nat) (f : PwmOut → PwmOut) (s : State) : (setOut n f s).cfg = s.cfg := rfl
@[simp] theorem setOut_dbg (n : Nat) (f : PwmOut → PwmOut) (s : State) : (setOut n f s).dbg = s.dbg := rfl
@[simp] theorem setOut_ret (n : Nat) (f : PwmOut → PwmOut) (s : State) : (setOut n f s).ret = s.ret := rfl
@[simp] theorem setOut_slc (n : Nat) (f : PwmOut → PwmOut) (s : State) : (setOut n f s).slc = s.slc := rfl
@[simp] theorem setOut_lpe (n : Nat) (f : PwmOut → PwmOut) (s : State) : (setOut n f s).lpe = s.lpe := rfl
@[simp] theorem setOut_cbl (n : Nat) (f : PwmOut → PwmOut) (s : State) : (setOut n f s).cbl = s.cbl := rfl
@[simp] theorem setOut_lsw (n : Nat) (f : PwmOut → PwmOut) (s : State) : (setOut n f s).lsw = s.lsw := rfl
@[simp] theorem setOut_vcl (n : Nat) (f : PwmOut → PwmOut) (s : State) : (setOut n f s).vcl = s.vcl := rfl
@[simp] theorem setOut_can (n : Nat) (f : PwmOut → PwmOut) (s : State) : (setOut n f s).can = s.can := rfl
@[simp] theorem setOut_mtr (n : Nat) (f : PwmOut → PwmOut) (s : State) : (setOut n f s).mtr = s.mtr := rfl
@[simp] theorem setOut_lgl (n : Nat) (f : PwmOut → PwmOut) (s : State) : (setOut n f s).lgl = s.lgl := rfl
@[simp] theorem setOut_key (n : Nat) (f : PwmOut → PwmOut) (s : State) : (setOut n f s).key = s.key := rfl
@[simp] theorem setOut_ozl (n : Nat) (f : PwmOut → PwmOut) (s : State) : (setOut n f s).ozl = s.ozl := rfl
@[simp] theorem setOut_tsu (n : Nat) (f : PwmOut → PwmOut) (s : State) : (setOut n f s).tsu = s.tsu := rfl
@[simp] theorem setOut_dpx (n : Nat) (f : PwmOut → PwmOut) (s : State) : (setOut n f s).dpx = s.dpx := rfl
@[simp] theorem setOut_fen (n : Nat) (f : PwmOut → PwmOut) (s : State) : (setOut n f s).fen = s.fen := rfl

@[simp] theorem setDom_now (d : Nat) (f : Dom → Dom) (s : State) : (setDom d f s).now = s.now := rfl
@[simp] theorem setDom_gap (d : Nat) (f : Dom → Dom) (s : State) : (setDom d f s).gap = s.gap := rfl
@[simp] theorem setDom_freeCtr (d : Nat) (f : Dom → Dom) (s : State) : (setDom d f s).freeCtr = s.freeCtr := rfl
@[simp] theorem setDom_out (d : Nat) (f : Dom → Dom) (s : State) : (setDom d f s).out = s.out := rfl
@[simp] theorem setDom_pending (d : Nat) (f : Dom → Dom) (s : State) : (setDom d f s).pending = s.pending := rfl
@[simp] theorem setDom_mem (d : Nat) (f : Dom → Dom) (s : State) : (setDom d f s).mem = s.mem := rfl
@[simp] theorem setDom_sys (d : Nat) (f : Dom → Dom) (s : State) : (setDom d f s).sys = s.sys := rfl
@[simp] theorem setDom_keeper (d : Nat) (f : Dom → Dom) (s : State) : (setDom d f s).keeper = s.keeper := rfl
@[simp] theorem setDom_mbx (d : Nat) (f : Dom → Dom) (s : State) : (setDom d f s).mbx = s.mbx := rfl
@[simp] theorem setDom_own (d : Nat) (f : Dom → Dom) (s : State) : (setDom d f s).own = s.own := rfl
@[simp] theorem setDom_evg (d : Nat) (f : Dom → Dom) (s : State) : (setDom d f s).evg = s.evg := rfl
@[simp] theorem setDom_cfg (d : Nat) (f : Dom → Dom) (s : State) : (setDom d f s).cfg = s.cfg := rfl
@[simp] theorem setDom_dbg (d : Nat) (f : Dom → Dom) (s : State) : (setDom d f s).dbg = s.dbg := rfl
@[simp] theorem setDom_ret (d : Nat) (f : Dom → Dom) (s : State) : (setDom d f s).ret = s.ret := rfl
@[simp] theorem setDom_slc (d : Nat) (f : Dom → Dom) (s : State) : (setDom d f s).slc = s.slc := rfl
@[simp] theorem setDom_pwm (d : Nat) (f : Dom → Dom) (s : State) : (setDom d f s).pwm = s.pwm := rfl
@[simp] theorem setDom_lpe (d : Nat) (f : Dom → Dom) (s : State) : (setDom d f s).lpe = s.lpe := rfl
@[simp] theorem setDom_cbl (d : Nat) (f : Dom → Dom) (s : State) : (setDom d f s).cbl = s.cbl := rfl
@[simp] theorem setDom_lsw (d : Nat) (f : Dom → Dom) (s : State) : (setDom d f s).lsw = s.lsw := rfl
@[simp] theorem setDom_vcl (d : Nat) (f : Dom → Dom) (s : State) : (setDom d f s).vcl = s.vcl := rfl
@[simp] theorem setDom_can (d : Nat) (f : Dom → Dom) (s : State) : (setDom d f s).can = s.can := rfl
@[simp] theorem setDom_mtr (d : Nat) (f : Dom → Dom) (s : State) : (setDom d f s).mtr = s.mtr := rfl
@[simp] theorem setDom_lgl (d : Nat) (f : Dom → Dom) (s : State) : (setDom d f s).lgl = s.lgl := rfl
@[simp] theorem setDom_key (d : Nat) (f : Dom → Dom) (s : State) : (setDom d f s).key = s.key := rfl
@[simp] theorem setDom_ozl (d : Nat) (f : Dom → Dom) (s : State) : (setDom d f s).ozl = s.ozl := rfl
@[simp] theorem setDom_dpx (d : Nat) (f : Dom → Dom) (s : State) : (setDom d f s).dpx = s.dpx := rfl
@[simp] theorem setDom_fen (d : Nat) (f : Dom → Dom) (s : State) : (setDom d f s).fen = s.fen := rfl

@[simp] theorem setPtp_now (m : Nat) (f : Ptp → Ptp) (s : State) : (setPtp m f s).now = s.now := rfl
@[simp] theorem setPtp_gap (m : Nat) (f : Ptp → Ptp) (s : State) : (setPtp m f s).gap = s.gap := rfl
@[simp] theorem setPtp_freeCtr (m : Nat) (f : Ptp → Ptp) (s : State) : (setPtp m f s).freeCtr = s.freeCtr := rfl
@[simp] theorem setPtp_out (m : Nat) (f : Ptp → Ptp) (s : State) : (setPtp m f s).out = s.out := rfl
@[simp] theorem setPtp_pending (m : Nat) (f : Ptp → Ptp) (s : State) : (setPtp m f s).pending = s.pending := rfl
@[simp] theorem setPtp_mem (m : Nat) (f : Ptp → Ptp) (s : State) : (setPtp m f s).mem = s.mem := rfl
@[simp] theorem setPtp_sys (m : Nat) (f : Ptp → Ptp) (s : State) : (setPtp m f s).sys = s.sys := rfl
@[simp] theorem setPtp_keeper (m : Nat) (f : Ptp → Ptp) (s : State) : (setPtp m f s).keeper = s.keeper := rfl
@[simp] theorem setPtp_mbx (m : Nat) (f : Ptp → Ptp) (s : State) : (setPtp m f s).mbx = s.mbx := rfl
@[simp] theorem setPtp_own (m : Nat) (f : Ptp → Ptp) (s : State) : (setPtp m f s).own = s.own := rfl
@[simp] theorem setPtp_evg (m : Nat) (f : Ptp → Ptp) (s : State) : (setPtp m f s).evg = s.evg := rfl
@[simp] theorem setPtp_cfg (m : Nat) (f : Ptp → Ptp) (s : State) : (setPtp m f s).cfg = s.cfg := rfl
@[simp] theorem setPtp_dbg (m : Nat) (f : Ptp → Ptp) (s : State) : (setPtp m f s).dbg = s.dbg := rfl
@[simp] theorem setPtp_ret (m : Nat) (f : Ptp → Ptp) (s : State) : (setPtp m f s).ret = s.ret := rfl
@[simp] theorem setPtp_slc (m : Nat) (f : Ptp → Ptp) (s : State) : (setPtp m f s).slc = s.slc := rfl
@[simp] theorem setPtp_pwm (m : Nat) (f : Ptp → Ptp) (s : State) : (setPtp m f s).pwm = s.pwm := rfl
@[simp] theorem setPtp_lpe (m : Nat) (f : Ptp → Ptp) (s : State) : (setPtp m f s).lpe = s.lpe := rfl
@[simp] theorem setPtp_cbl (m : Nat) (f : Ptp → Ptp) (s : State) : (setPtp m f s).cbl = s.cbl := rfl
@[simp] theorem setPtp_lsw (m : Nat) (f : Ptp → Ptp) (s : State) : (setPtp m f s).lsw = s.lsw := rfl
@[simp] theorem setPtp_vcl (m : Nat) (f : Ptp → Ptp) (s : State) : (setPtp m f s).vcl = s.vcl := rfl
@[simp] theorem setPtp_can (m : Nat) (f : Ptp → Ptp) (s : State) : (setPtp m f s).can = s.can := rfl
@[simp] theorem setPtp_mtr (m : Nat) (f : Ptp → Ptp) (s : State) : (setPtp m f s).mtr = s.mtr := rfl
@[simp] theorem setPtp_lgl (m : Nat) (f : Ptp → Ptp) (s : State) : (setPtp m f s).lgl = s.lgl := rfl
@[simp] theorem setPtp_key (m : Nat) (f : Ptp → Ptp) (s : State) : (setPtp m f s).key = s.key := rfl
@[simp] theorem setPtp_ozl (m : Nat) (f : Ptp → Ptp) (s : State) : (setPtp m f s).ozl = s.ozl := rfl
@[simp] theorem setPtp_dpx (m : Nat) (f : Ptp → Ptp) (s : State) : (setPtp m f s).dpx = s.dpx := rfl
@[simp] theorem setPtp_fen (m : Nat) (f : Ptp → Ptp) (s : State) : (setPtp m f s).fen = s.fen := rfl

@[simp] theorem setCc_now (k : Nat) (f : CcUnit → CcUnit) (s : State) : (setCc k f s).now = s.now := rfl
@[simp] theorem setCc_gap (k : Nat) (f : CcUnit → CcUnit) (s : State) : (setCc k f s).gap = s.gap := rfl
@[simp] theorem setCc_freeCtr (k : Nat) (f : CcUnit → CcUnit) (s : State) : (setCc k f s).freeCtr = s.freeCtr := rfl
@[simp] theorem setCc_out (k : Nat) (f : CcUnit → CcUnit) (s : State) : (setCc k f s).out = s.out := rfl
@[simp] theorem setCc_pending (k : Nat) (f : CcUnit → CcUnit) (s : State) : (setCc k f s).pending = s.pending := rfl
@[simp] theorem setCc_mem (k : Nat) (f : CcUnit → CcUnit) (s : State) : (setCc k f s).mem = s.mem := rfl
@[simp] theorem setCc_sys (k : Nat) (f : CcUnit → CcUnit) (s : State) : (setCc k f s).sys = s.sys := rfl
@[simp] theorem setCc_keeper (k : Nat) (f : CcUnit → CcUnit) (s : State) : (setCc k f s).keeper = s.keeper := rfl
@[simp] theorem setCc_mbx (k : Nat) (f : CcUnit → CcUnit) (s : State) : (setCc k f s).mbx = s.mbx := rfl
@[simp] theorem setCc_own (k : Nat) (f : CcUnit → CcUnit) (s : State) : (setCc k f s).own = s.own := rfl
@[simp] theorem setCc_evg (k : Nat) (f : CcUnit → CcUnit) (s : State) : (setCc k f s).evg = s.evg := rfl
@[simp] theorem setCc_cfg (k : Nat) (f : CcUnit → CcUnit) (s : State) : (setCc k f s).cfg = s.cfg := rfl
@[simp] theorem setCc_dbg (k : Nat) (f : CcUnit → CcUnit) (s : State) : (setCc k f s).dbg = s.dbg := rfl
@[simp] theorem setCc_ret (k : Nat) (f : CcUnit → CcUnit) (s : State) : (setCc k f s).ret = s.ret := rfl
@[simp] theorem setCc_slc (k : Nat) (f : CcUnit → CcUnit) (s : State) : (setCc k f s).slc = s.slc := rfl
@[simp] theorem setCc_pwm (k : Nat) (f : CcUnit → CcUnit) (s : State) : (setCc k f s).pwm = s.pwm := rfl
@[simp] theorem setCc_lpe (k : Nat) (f : CcUnit → CcUnit) (s : State) : (setCc k f s).lpe = s.lpe := rfl
@[simp] theorem setCc_cbl (k : Nat) (f : CcUnit → CcUnit) (s : State) : (setCc k f s).cbl = s.cbl := rfl
@[simp] theorem setCc_lsw (k : Nat) (f : CcUnit → CcUnit) (s : State) : (setCc k f s).lsw = s.lsw := rfl
@[simp] theorem setCc_vcl (k : Nat) (f : CcUnit → CcUnit) (s : State) : (setCc k f s).vcl = s.vcl := rfl
@[simp] theorem setCc_can (k : Nat) (f : CcUnit → CcUnit) (s : State) : (setCc k f s).can = s.can := rfl
@[simp] theorem setCc_mtr (k : Nat) (f : CcUnit → CcUnit) (s : State) : (setCc k f s).mtr = s.mtr := rfl
@[simp] theorem setCc_lgl (k : Nat) (f : CcUnit → CcUnit) (s : State) : (setCc k f s).lgl = s.lgl := rfl
@[simp] theorem setCc_key (k : Nat) (f : CcUnit → CcUnit) (s : State) : (setCc k f s).key = s.key := rfl
@[simp] theorem setCc_ozl (k : Nat) (f : CcUnit → CcUnit) (s : State) : (setCc k f s).ozl = s.ozl := rfl
@[simp] theorem setCc_dpx (k : Nat) (f : CcUnit → CcUnit) (s : State) : (setCc k f s).dpx = s.dpx := rfl
@[simp] theorem setCc_fen (k : Nat) (f : CcUnit → CcUnit) (s : State) : (setCc k f s).fen = s.fen := rfl

@[simp] theorem setPrt_now (n : Nat) (f : Port → Port) (s : State) : (setPrt n f s).now = s.now := rfl
@[simp] theorem setPrt_gap (n : Nat) (f : Port → Port) (s : State) : (setPrt n f s).gap = s.gap := rfl
@[simp] theorem setPrt_freeCtr (n : Nat) (f : Port → Port) (s : State) : (setPrt n f s).freeCtr = s.freeCtr := rfl
@[simp] theorem setPrt_out (n : Nat) (f : Port → Port) (s : State) : (setPrt n f s).out = s.out := rfl
@[simp] theorem setPrt_pending (n : Nat) (f : Port → Port) (s : State) : (setPrt n f s).pending = s.pending := rfl
@[simp] theorem setPrt_mem (n : Nat) (f : Port → Port) (s : State) : (setPrt n f s).mem = s.mem := rfl
@[simp] theorem setPrt_sys (n : Nat) (f : Port → Port) (s : State) : (setPrt n f s).sys = s.sys := rfl
@[simp] theorem setPrt_keeper (n : Nat) (f : Port → Port) (s : State) : (setPrt n f s).keeper = s.keeper := rfl
@[simp] theorem setPrt_mbx (n : Nat) (f : Port → Port) (s : State) : (setPrt n f s).mbx = s.mbx := rfl
@[simp] theorem setPrt_own (n : Nat) (f : Port → Port) (s : State) : (setPrt n f s).own = s.own := rfl
@[simp] theorem setPrt_evg (n : Nat) (f : Port → Port) (s : State) : (setPrt n f s).evg = s.evg := rfl
@[simp] theorem setPrt_cfg (n : Nat) (f : Port → Port) (s : State) : (setPrt n f s).cfg = s.cfg := rfl
@[simp] theorem setPrt_dbg (n : Nat) (f : Port → Port) (s : State) : (setPrt n f s).dbg = s.dbg := rfl
@[simp] theorem setPrt_ret (n : Nat) (f : Port → Port) (s : State) : (setPrt n f s).ret = s.ret := rfl
@[simp] theorem setPrt_slc (n : Nat) (f : Port → Port) (s : State) : (setPrt n f s).slc = s.slc := rfl
@[simp] theorem setPrt_pwm (n : Nat) (f : Port → Port) (s : State) : (setPrt n f s).pwm = s.pwm := rfl
@[simp] theorem setPrt_lpe (n : Nat) (f : Port → Port) (s : State) : (setPrt n f s).lpe = s.lpe := rfl
@[simp] theorem setPrt_cbl (n : Nat) (f : Port → Port) (s : State) : (setPrt n f s).cbl = s.cbl := rfl
@[simp] theorem setPrt_lsw (n : Nat) (f : Port → Port) (s : State) : (setPrt n f s).lsw = s.lsw := rfl
@[simp] theorem setPrt_can (n : Nat) (f : Port → Port) (s : State) : (setPrt n f s).can = s.can := rfl
@[simp] theorem setPrt_mtr (n : Nat) (f : Port → Port) (s : State) : (setPrt n f s).mtr = s.mtr := rfl
@[simp] theorem setPrt_lgl (n : Nat) (f : Port → Port) (s : State) : (setPrt n f s).lgl = s.lgl := rfl
@[simp] theorem setPrt_key (n : Nat) (f : Port → Port) (s : State) : (setPrt n f s).key = s.key := rfl
@[simp] theorem setPrt_ozl (n : Nat) (f : Port → Port) (s : State) : (setPrt n f s).ozl = s.ozl := rfl
@[simp] theorem setPrt_tsu (n : Nat) (f : Port → Port) (s : State) : (setPrt n f s).tsu = s.tsu := rfl
@[simp] theorem setPrt_dpx (n : Nat) (f : Port → Port) (s : State) : (setPrt n f s).dpx = s.dpx := rfl
@[simp] theorem setPrt_fen (n : Nat) (f : Port → Port) (s : State) : (setPrt n f s).fen = s.fen := rfl

@[simp] theorem wrw_now (s : State) (a v : Nat) : (wrw s a v).now = s.now := rfl
@[simp] theorem wrw_gap (s : State) (a v : Nat) : (wrw s a v).gap = s.gap := rfl
@[simp] theorem wrw_freeCtr (s : State) (a v : Nat) : (wrw s a v).freeCtr = s.freeCtr := rfl
@[simp] theorem wrw_out (s : State) (a v : Nat) : (wrw s a v).out = s.out := rfl
@[simp] theorem wrw_pending (s : State) (a v : Nat) : (wrw s a v).pending = s.pending := rfl
@[simp] theorem wrw_sys (s : State) (a v : Nat) : (wrw s a v).sys = s.sys := rfl
@[simp] theorem wrw_keeper (s : State) (a v : Nat) : (wrw s a v).keeper = s.keeper := rfl
@[simp] theorem wrw_mbx (s : State) (a v : Nat) : (wrw s a v).mbx = s.mbx := rfl
@[simp] theorem wrw_own (s : State) (a v : Nat) : (wrw s a v).own = s.own := rfl
@[simp] theorem wrw_evg (s : State) (a v : Nat) : (wrw s a v).evg = s.evg := rfl
@[simp] theorem wrw_cfg (s : State) (a v : Nat) : (wrw s a v).cfg = s.cfg := rfl
@[simp] theorem wrw_dbg (s : State) (a v : Nat) : (wrw s a v).dbg = s.dbg := rfl
@[simp] theorem wrw_ret (s : State) (a v : Nat) : (wrw s a v).ret = s.ret := rfl
@[simp] theorem wrw_slc (s : State) (a v : Nat) : (wrw s a v).slc = s.slc := rfl
@[simp] theorem wrw_pwm (s : State) (a v : Nat) : (wrw s a v).pwm = s.pwm := rfl
@[simp] theorem wrw_lpe (s : State) (a v : Nat) : (wrw s a v).lpe = s.lpe := rfl
@[simp] theorem wrw_cbl (s : State) (a v : Nat) : (wrw s a v).cbl = s.cbl := rfl
@[simp] theorem wrw_lsw (s : State) (a v : Nat) : (wrw s a v).lsw = s.lsw := rfl
@[simp] theorem wrw_vcl (s : State) (a v : Nat) : (wrw s a v).vcl = s.vcl := rfl
@[simp] theorem wrw_can (s : State) (a v : Nat) : (wrw s a v).can = s.can := rfl
@[simp] theorem wrw_mtr (s : State) (a v : Nat) : (wrw s a v).mtr = s.mtr := rfl
@[simp] theorem wrw_lgl (s : State) (a v : Nat) : (wrw s a v).lgl = s.lgl := rfl
@[simp] theorem wrw_key (s : State) (a v : Nat) : (wrw s a v).key = s.key := rfl
@[simp] theorem wrw_ozl (s : State) (a v : Nat) : (wrw s a v).ozl = s.ozl := rfl
@[simp] theorem wrw_tsu (s : State) (a v : Nat) : (wrw s a v).tsu = s.tsu := rfl
@[simp] theorem wrw_dpx (s : State) (a v : Nat) : (wrw s a v).dpx = s.dpx := rfl
@[simp] theorem wrw_fen (s : State) (a v : Nat) : (wrw s a v).fen = s.fen := rfl

@[simp] theorem emit_now (s : State) (k : OutKind) (c : Nat) (d : List Int) : (emit s k c d).now = s.now := rfl
@[simp] theorem emit_gap (s : State) (k : OutKind) (c : Nat) (d : List Int) : (emit s k c d).gap = s.gap := rfl
@[simp] theorem emit_freeCtr (s : State) (k : OutKind) (c : Nat) (d : List Int) : (emit s k c d).freeCtr = s.freeCtr := rfl
@[simp] theorem emit_pending (s : State) (k : OutKind) (c : Nat) (d : List Int) : (emit s k c d).pending = s.pending := rfl
@[simp] theorem emit_mem (s : State) (k : OutKind) (c : Nat) (d : List Int) : (emit s k c d).mem = s.mem := rfl
@[simp] theorem emit_sys (s : State) (k : OutKind) (c : Nat) (d : List Int) : (emit s k c d).sys = s.sys := rfl
@[simp] theorem emit_keeper (s : State) (k : OutKind) (c : Nat) (d : List Int) : (emit s k c d).keeper = s.keeper := rfl
@[simp] theorem emit_mbx (s : State) (k : OutKind) (c : Nat) (d : List Int) : (emit s k c d).mbx = s.mbx := rfl
@[simp] theorem emit_own (s : State) (k : OutKind) (c : Nat) (d : List Int) : (emit s k c d).own = s.own := rfl
@[simp] theorem emit_evg (s : State) (k : OutKind) (c : Nat) (d : List Int) : (emit s k c d).evg = s.evg := rfl
@[simp] theorem emit_cfg (s : State) (k : OutKind) (c : Nat) (d : List Int) : (emit s k c d).cfg = s.cfg := rfl
@[simp] theorem emit_dbg (s : State) (k : OutKind) (c : Nat) (d : List Int) : (emit s k c d).dbg = s.dbg := rfl
@[simp] theorem emit_ret (s : State) (k : OutKind) (c : Nat) (d : List Int) : (emit s k c d).ret = s.ret := rfl
@[simp] theorem emit_slc (s : State) (k : OutKind) (c : Nat) (d : List Int) : (emit s k c d).slc = s.slc := rfl
@[simp] theorem emit_pwm (s : State) (k : OutKind) (c : Nat) (d : List Int) : (emit s k c d).pwm = s.pwm := rfl
@[simp] theorem emit_lpe (s : State) (k : OutKind) (c : Nat) (d : List Int) : (emit s k c d).lpe = s.lpe := rfl
@[simp] theorem emit_cbl (s : State) (k : OutKind) (c : Nat) (d : List Int) : (emit s k c d).cbl = s.cbl := rfl
@[simp] theorem emit_lsw (s : State) (k : OutKind) (c : Nat) (d : List Int) : (emit s k c d).lsw = s.lsw := rfl
@[simp] theorem emit_vcl (s : State) (k : OutKind) (c : Nat) (d : List Int) : (emit s k c d).vcl = s.vcl := rfl
@[simp] theorem emit_can (s : State) (k : OutKind) (c : Nat) (d : List Int) : (emit s k c d).can = s.can := rfl
@[simp] theorem emit_mtr (s : State) (k : OutKind) (c : Nat) (d : List Int) : (emit s k c d).mtr = s.mtr := rfl
@[simp] theorem emit_lgl (s : State) (k : OutKind) (c : Nat) (d : List Int) : (emit s k c d).lgl = s.lgl := rfl
@[simp] theorem emit_key (s : State) (k : OutKind) (c : Nat) (d : List Int) : (emit s k c d).key = s.key := rfl
@[simp] theorem emit_ozl (s : State) (k : OutKind) (c : Nat) (d : List Int) : (emit s k c d).ozl = s.ozl := rfl
@[simp] theorem emit_tsu (s : State) (k : OutKind) (c : Nat) (d : List Int) : (emit s k c d).tsu = s.tsu := rfl
@[simp] theorem emit_dpx (s : State) (k : OutKind) (c : Nat) (d : List Int) : (emit s k c d).dpx = s.dpx := rfl
@[simp] theorem emit_fen (s : State) (k : OutKind) (c : Nat) (d : List Int) : (emit s k c d).fen = s.fen := rfl

@[simp] theorem popPending_now (s : State) (r : List Instr) : (s.popPending r).now = s.now := rfl
@[simp] theorem popPending_gap (s : State) (r : List Instr) : (s.popPending r).gap = s.gap := rfl
@[simp] theorem popPending_freeCtr (s : State) (r : List Instr) : (s.popPending r).freeCtr = s.freeCtr := rfl
@[simp] theorem popPending_out (s : State) (r : List Instr) : (s.popPending r).out = s.out := rfl
@[simp] theorem popPending_mem (s : State) (r : List Instr) : (s.popPending r).mem = s.mem := rfl
@[simp] theorem popPending_sys (s : State) (r : List Instr) : (s.popPending r).sys = s.sys := rfl
@[simp] theorem popPending_keeper (s : State) (r : List Instr) : (s.popPending r).keeper = s.keeper := rfl
@[simp] theorem popPending_mbx (s : State) (r : List Instr) : (s.popPending r).mbx = s.mbx := rfl
@[simp] theorem popPending_own (s : State) (r : List Instr) : (s.popPending r).own = s.own := rfl
@[simp] theorem popPending_evg (s : State) (r : List Instr) : (s.popPending r).evg = s.evg := rfl
@[simp] theorem popPending_cfg (s : State) (r : List Instr) : (s.popPending r).cfg = s.cfg := rfl
@[simp] theorem popPending_dbg (s : State) (r : List Instr) : (s.popPending r).dbg = s.dbg := rfl
@[simp] theorem popPending_ret (s : State) (r : List Instr) : (s.popPending r).ret = s.ret := rfl
@[simp] theorem popPending_slc (s : State) (r : List Instr) : (s.popPending r).slc = s.slc := rfl
@[simp] theorem popPending_pwm (s : State) (r : List Instr) : (s.popPending r).pwm = s.pwm := rfl
@[simp] theorem popPending_lpe (s : State) (r : List Instr) : (s.popPending r).lpe = s.lpe := rfl
@[simp] theorem popPending_cbl (s : State) (r : List Instr) : (s.popPending r).cbl = s.cbl := rfl
@[simp] theorem popPending_lsw (s : State) (r : List Instr) : (s.popPending r).lsw = s.lsw := rfl
@[simp] theorem popPending_vcl (s : State) (r : List Instr) : (s.popPending r).vcl = s.vcl := rfl
@[simp] theorem popPending_can (s : State) (r : List Instr) : (s.popPending r).can = s.can := rfl
@[simp] theorem popPending_mtr (s : State) (r : List Instr) : (s.popPending r).mtr = s.mtr := rfl
@[simp] theorem popPending_lgl (s : State) (r : List Instr) : (s.popPending r).lgl = s.lgl := rfl
@[simp] theorem popPending_key (s : State) (r : List Instr) : (s.popPending r).key = s.key := rfl
@[simp] theorem popPending_ozl (s : State) (r : List Instr) : (s.popPending r).ozl = s.ozl := rfl
@[simp] theorem popPending_tsu (s : State) (r : List Instr) : (s.popPending r).tsu = s.tsu := rfl
@[simp] theorem popPending_dpx (s : State) (r : List Instr) : (s.popPending r).dpx = s.dpx := rfl
@[simp] theorem popPending_fen (s : State) (r : List Instr) : (s.popPending r).fen = s.fen := rfl

@[simp] theorem setV1_now (s : State) (l : Nat) (f : V1 → V1) : (setV1 s l f).now = s.now := by unfold setV1; split <;> rfl
@[simp] theorem setV1_gap (s : State) (l : Nat) (f : V1 → V1) : (setV1 s l f).gap = s.gap := by unfold setV1; split <;> rfl
@[simp] theorem setV1_freeCtr (s : State) (l : Nat) (f : V1 → V1) : (setV1 s l f).freeCtr = s.freeCtr := by unfold setV1; split <;> rfl
@[simp] theorem setV1_out (s : State) (l : Nat) (f : V1 → V1) : (setV1 s l f).out = s.out := by unfold setV1; split <;> rfl
@[simp] theorem setV1_pending (s : State) (l : Nat) (f : V1 → V1) : (setV1 s l f).pending = s.pending := by unfold setV1; split <;> rfl
@[simp] theorem setV1_mem (s : State) (l : Nat) (f : V1 → V1) : (setV1 s l f).mem = s.mem := by unfold setV1; split <;> rfl
@[simp] theorem setV1_sys (s : State) (l : Nat) (f : V1 → V1) : (setV1 s l f).sys = s.sys := by unfold setV1; split <;> rfl
@[simp] theorem setV1_keeper (s : State) (l : Nat) (f : V1 → V1) : (setV1 s l f).keeper = s.keeper := by unfold setV1; split <;> rfl
@[simp] theorem setV1_own (s : State) (l : Nat) (f : V1 → V1) : (setV1 s l f).own = s.own := by unfold setV1; split <;> rfl
@[simp] theorem setV1_evg (s : State) (l : Nat) (f : V1 → V1) : (setV1 s l f).evg = s.evg := by unfold setV1; split <;> rfl
@[simp] theorem setV1_cfg (s : State) (l : Nat) (f : V1 → V1) : (setV1 s l f).cfg = s.cfg := by unfold setV1; split <;> rfl
@[simp] theorem setV1_dbg (s : State) (l : Nat) (f : V1 → V1) : (setV1 s l f).dbg = s.dbg := by unfold setV1; split <;> rfl
@[simp] theorem setV1_ret (s : State) (l : Nat) (f : V1 → V1) : (setV1 s l f).ret = s.ret := by unfold setV1; split <;> rfl
@[simp] theorem setV1_slc (s : State) (l : Nat) (f : V1 → V1) : (setV1 s l f).slc = s.slc := by unfold setV1; split <;> rfl
@[simp] theorem setV1_pwm (s : State) (l : Nat) (f : V1 → V1) : (setV1 s l f).pwm = s.pwm := by unfold setV1; split <;> rfl
@[simp] theorem setV1_lpe (s : State) (l : Nat) (f : V1 → V1) : (setV1 s l f).lpe = s.lpe := by unfold setV1; split <;> rfl
@[simp] theorem setV1_cbl (s : State) (l : Nat) (f : V1 → V1) : (setV1 s l f).cbl = s.cbl := by unfold setV1; split <;> rfl
@[simp] theorem setV1_lsw (s : State) (l : Nat) (f : V1 → V1) : (setV1 s l f).lsw = s.lsw := by unfold setV1; split <;> rfl
@[simp] theorem setV1_vcl (s : State) (l : Nat) (f : V1 → V1) : (setV1 s l f).vcl = s.vcl := by unfold setV1; split <;> rfl
@[simp] theorem setV1_can (s : State) (l : Nat) (f : V1 → V1) : (setV1 s l f).can = s.can := by unfold setV1; split <;> rfl
@[simp] theorem setV1_mtr (s : State) (l : Nat) (f : V1 → V1) : (setV1 s l f).mtr = s.mtr := by unfold setV1; split <;> rfl
@[simp] theorem setV1_lgl (s : State) (l : Nat) (f : V1 → V1) : (setV1 s l f).lgl = s.lgl := by unfold setV1; split <;> rfl
@[simp] theorem setV1_key (s : State) (l : Nat) (f : V1 → V1) : (setV1 s l f).key = s.key := by unfold setV1; split <;> rfl
@[simp] theorem setV1_ozl (s : State) (l : Nat) (f : V1 → V1) : (setV1 s l f).ozl = s.ozl := by unfold setV1; split <;> rfl
@[simp] theorem setV1_tsu (s : State) (l : Nat) (f : V1 → V1) : (setV1 s l f).tsu = s.tsu := by unfold setV1; split <;> rfl
@[simp] theorem setV1_dpx (s : State) (l : Nat) (f : V1 → V1) : (setV1 s l f).dpx = s.dpx := by unfold setV1; split <;> rfl
@[simp] theorem setV1_fen (s : State) (l : Nat) (f : V1 → V1) : (setV1 s l f).fen = s.fen := by unfold setV1; split <;> rfl
@[simp] theorem at_freeCtr (s : State) (t : Nat) : (s.at t).freeCtr = s.freeCtr := by unfold State.at; split <;> rfl
@[simp] theorem at_out (s : State) (t : Nat) : (s.at t).out = s.out := by unfold State.at; split <;> rfl
@[simp] theorem at_pending (s : State) (t : Nat) : (s.at t).pending = s.pending := by unfold State.at; split <;> rfl
@[simp] theorem at_mem (s : State) (t : Nat) : (s.at t).mem = s.mem := by unfold State.at; split <;> rfl
@[simp] theorem at_sys (s : State) (t : Nat) : (s.at t).sys = s.sys := by unfold State.at; split <;> rfl
@[simp] theorem at_keeper (s : State) (t : Nat) : (s.at t).keeper = s.keeper := by unfold State.at; split <;> rfl
@[simp] theorem at_mbx (s : State) (t : Nat) : (s.at t).mbx = s.mbx := by unfold State.at; split <;> rfl
@[simp] theorem at_own (s : State) (t : Nat) : (s.at t).own = s.own := by unfold State.at; split <;> rfl
@[simp] theorem at_evg (s : State) (t : Nat) : (s.at t).evg = s.evg := by unfold State.at; split <;> rfl
@[simp] theorem at_cfg (s : State) (t : Nat) : (s.at t).cfg = s.cfg := by unfold State.at; split <;> rfl
@[simp] theorem at_dbg (s : State) (t : Nat) : (s.at t).dbg = s.dbg := by unfold State.at; split <;> rfl
@[simp] theorem at_ret (s : State) (t : Nat) : (s.at t).ret = s.ret := by unfold State.at; split <;> rfl
@[simp] theorem at_slc (s : State) (t : Nat) : (s.at t).slc = s.slc := by unfold State.at; split <;> rfl
@[simp] theorem at_pwm (s : State) (t : Nat) : (s.at t).pwm = s.pwm := by unfold State.at; split <;> rfl
@[simp] theorem at_lpe (s : State) (t : Nat) : (s.at t).lpe = s.lpe := by unfold State.at; split <;> rfl
@[simp] theorem at_cbl (s : State) (t : Nat) : (s.at t).cbl = s.cbl := by unfold State.at; split <;> rfl
@[simp] theorem at_lsw (s : State) (t : Nat) : (s.at t).lsw = s.lsw := by unfold State.at; split <;> rfl
@[simp] theorem at_vcl (s : State) (t : Nat) : (s.at t).vcl = s.vcl := by unfold State.at; split <;> rfl
@[simp] theorem at_can (s : State) (t : Nat) : (s.at t).can = s.can := by unfold State.at; split <;> rfl
@[simp] theorem at_mtr (s : State) (t : Nat) : (s.at t).mtr = s.mtr := by unfold State.at; split <;> rfl
@[simp] theorem at_lgl (s : State) (t : Nat) : (s.at t).lgl = s.lgl := by unfold State.at; split <;> rfl
@[simp] theorem at_key (s : State) (t : Nat) : (s.at t).key = s.key := by unfold State.at; split <;> rfl
@[simp] theorem at_ozl (s : State) (t : Nat) : (s.at t).ozl = s.ozl := by unfold State.at; split <;> rfl
@[simp] theorem at_tsu (s : State) (t : Nat) : (s.at t).tsu = s.tsu := by unfold State.at; split <;> rfl
@[simp] theorem at_dpx (s : State) (t : Nat) : (s.at t).dpx = s.dpx := by unfold State.at; split <;> rfl
@[simp] theorem at_fen (s : State) (t : Nat) : (s.at t).fen = s.fen := by unfold State.at; split <;> rfl

/-! ### Updates of one entry of a list -/

theorem get_upd_same {α : Type} [Inhabited α] {k : Nat} (v : Vector α k) (n : Nat) (f : α → α) (h : n < k) :
    get (upd v n f) n = f (get v n) := by
  simp [get, upd, h]

theorem get_upd_other {α : Type} [Inhabited α] {k : Nat} (v : Vector α k) {n m : Nat} (f : α → α) (h : n ≠ m) :
    get (upd v n f) m = get v m := by
  unfold get
  by_cases hm : m < k
  · rw [dif_pos hm, dif_pos hm]
    unfold upd
    split
    · rw [Vector.getElem_set_ne _ _ h]
    · rfl
  · rw [dif_neg hm, dif_neg hm]

theorem get_upd {α : Type} [Inhabited α] {k : Nat} (v : Vector α k) (n m : Nat) (f : α → α) :
    get (upd v n f) m = if n = m ∧ n < k then f (get v m) else get v m := by
  by_cases e : n = m
  · subst e
    by_cases h : n < k
    · simp [get_upd_same, h]
    · simp [upd, h]
  · simp [get_upd_other, e]

end Sys2Proof.Machine
end

