-- ==== Sys2Proof/Laws/Events.lean ====
section
/-! SUPPORT. Firing an event source touches the event gatherer and the messages sent, and nothing else. -/

namespace Sys2Proof.Machine

@[simp] theorem sendVector_now (v : Nat) (s : State) : (sendVector v s).now = s.now := by
  unfold sendVector; split <;> rfl
@[simp] theorem sendVector_gap (v : Nat) (s : State) : (sendVector v s).gap = s.gap := by
  unfold sendVector; split <;> rfl
@[simp] theorem sendVector_freeCtr (v : Nat) (s : State) : (sendVector v s).freeCtr = s.freeCtr := by
  unfold sendVector; split <;> rfl
@[simp] theorem sendVector_pending (v : Nat) (s : State) : (sendVector v s).pending = s.pending := by
  unfold sendVector; split <;> rfl
@[simp] theorem sendVector_mem (v : Nat) (s : State) : (sendVector v s).mem = s.mem := by
  unfold sendVector; split <;> rfl
@[simp] theorem sendVector_sys (v : Nat) (s : State) : (sendVector v s).sys = s.sys := by
  unfold sendVector; split <;> rfl
@[simp] theorem sendVector_keeper (v : Nat) (s : State) : (sendVector v s).keeper = s.keeper := by
  unfold sendVector; split <;> rfl
@[simp] theorem sendVector_mbx (v : Nat) (s : State) : (sendVector v s).mbx = s.mbx := by
  unfold sendVector; split <;> rfl
@[simp] theorem sendVector_own (v : Nat) (s : State) : (sendVector v s).own = s.own := by
  unfold sendVector; split <;> rfl
@[simp] theorem sendVector_cfg (v : Nat) (s : State) : (sendVector v s).cfg = s.cfg := by
  unfold sendVector; split <;> rfl
@[simp] theorem sendVector_dbg (v : Nat) (s : State) : (sendVector v s).dbg = s.dbg := by
  unfold sendVector; split <;> rfl
@[simp] theorem sendVector_ret (v : Nat) (s : State) : (sendVector v s).ret = s.ret := by
  unfold sendVector; split <;> rfl
@[simp] theorem sendVector_slc (v : Nat) (s : State) : (sendVector v s).slc = s.slc := by
  unfold sendVector; split <;> rfl
@[simp] theorem sendVector_pwm (v : Nat) (s : State) : (sendVector v s).pwm = s.pwm := by
  unfold sendVector; split <;> rfl
@[simp] theorem sendVector_lpe (v : Nat) (s : State) : (sendVector v s).lpe = s.lpe := by
  unfold sendVector; split <;> rfl
@[simp] theorem sendVector_cbl (v : Nat) (s : State) : (sendVector v s).cbl = s.cbl := by
  unfold sendVector; split <;> rfl
@[simp] theorem sendVector_lsw (v : Nat) (s : State) : (sendVector v s).lsw = s.lsw := by
  unfold sendVector; split <;> rfl
@[simp] theorem sendVector_vcl (v : Nat) (s : State) : (sendVector v s).vcl = s.vcl := by
  unfold sendVector; split <;> rfl
@[simp] theorem sendVector_can (v : Nat) (s : State) : (sendVector v s).can = s.can := by
  unfold sendVector; split <;> rfl
@[simp] theorem sendVector_mtr (v : Nat) (s : State) : (sendVector v s).mtr = s.mtr := by
  unfold sendVector; split <;> rfl
@[simp] theorem sendVector_lgl (v : Nat) (s : State) : (sendVector v s).lgl = s.lgl := by
  unfold sendVector; split <;> rfl
@[simp] theorem sendVector_key (v : Nat) (s : State) : (sendVector v s).key = s.key := by
  unfold sendVector; split <;> rfl
@[simp] theorem sendVector_ozl (v : Nat) (s : State) : (sendVector v s).ozl = s.ozl := by
  unfold sendVector; split <;> rfl
@[simp] theorem sendVector_tsu (v : Nat) (s : State) : (sendVector v s).tsu = s.tsu := by
  unfold sendVector; split <;> rfl
@[simp] theorem sendVector_dpx (v : Nat) (s : State) : (sendVector v s).dpx = s.dpx := by
  unfold sendVector; split <;> rfl
@[simp] theorem sendVector_fen (v : Nat) (s : State) : (sendVector v s).fen = s.fen := by
  unfold sendVector; split <;> rfl

@[simp] theorem notifySource_now (b s : State) (n : Nat) : (notifySource b s n).now = s.now := by
  unfold notifySource; dsimp only; split <;> simp
@[simp] theorem notifySource_gap (b s : State) (n : Nat) : (notifySource b s n).gap = s.gap := by
  unfold notifySource; dsimp only; split <;> simp
@[simp] theorem notifySource_freeCtr (b s : State) (n : Nat) : (notifySource b s n).freeCtr = s.freeCtr := by
  unfold notifySource; dsimp only; split <;> simp
@[simp] theorem notifySource_pending (b s : State) (n : Nat) : (notifySource b s n).pending = s.pending := by
  unfold notifySource; dsimp only; split <;> simp
@[simp] theorem notifySource_mem (b s : State) (n : Nat) : (notifySource b s n).mem = s.mem := by
  unfold notifySource; dsimp only; split <;> simp
@[simp] theorem notifySource_sys (b s : State) (n : Nat) : (notifySource b s n).sys = s.sys := by
  unfold notifySource; dsimp only; split <;> simp
@[simp] theorem notifySource_keeper (b s : State) (n : Nat) : (notifySource b s n).keeper = s.keeper := by
  unfold notifySource; dsimp only; split <;> simp
@[simp] theorem notifySource_mbx (b s : State) (n : Nat) : (notifySource b s n).mbx = s.mbx := by
  unfold notifySource; dsimp only; split <;> simp
@[simp] theorem notifySource_own (b s : State) (n : Nat) : (notifySource b s n).own = s.own := by
  unfold notifySource; dsimp only; split <;> simp
@[simp] theorem notifySource_cfg (b s : State) (n : Nat) : (notifySource b s n).cfg = s.cfg := by
  unfold notifySource; dsimp only; split <;> simp
@[simp] theorem notifySource_dbg (b s : State) (n : Nat) : (notifySource b s n).dbg = s.dbg := by
  unfold notifySource; dsimp only; split <;> simp
@[simp] theorem notifySource_ret (b s : State) (n : Nat) : (notifySource b s n).ret = s.ret := by
  unfold notifySource; dsimp only; split <;> simp
@[simp] theorem notifySource_slc (b s : State) (n : Nat) : (notifySource b s n).slc = s.slc := by
  unfold notifySource; dsimp only; split <;> simp
@[simp] theorem notifySource_pwm (b s : State) (n : Nat) : (notifySource b s n).pwm = s.pwm := by
  unfold notifySource; dsimp only; split <;> simp
@[simp] theorem notifySource_lpe (b s : State) (n : Nat) : (notifySource b s n).lpe = s.lpe := by
  unfold notifySource; dsimp only; split <;> simp
@[simp] theorem notifySource_cbl (b s : State) (n : Nat) : (notifySource b s n).cbl = s.cbl := by
  unfold notifySource; dsimp only; split <;> simp
@[simp] theorem notifySource_lsw (b s : State) (n : Nat) : (notifySource b s n).lsw = s.lsw := by
  unfold notifySource; dsimp only; split <;> simp
@[simp] theorem notifySource_vcl (b s : State) (n : Nat) : (notifySource b s n).vcl = s.vcl := by
  unfold notifySource; dsimp only; split <;> simp
@[simp] theorem notifySource_can (b s : State) (n : Nat) : (notifySource b s n).can = s.can := by
  unfold notifySource; dsimp only; split <;> simp
@[simp] theorem notifySource_mtr (b s : State) (n : Nat) : (notifySource b s n).mtr = s.mtr := by
  unfold notifySource; dsimp only; split <;> simp
@[simp] theorem notifySource_lgl (b s : State) (n : Nat) : (notifySource b s n).lgl = s.lgl := by
  unfold notifySource; dsimp only; split <;> simp
@[simp] theorem notifySource_key (b s : State) (n : Nat) : (notifySource b s n).key = s.key := by
  unfold notifySource; dsimp only; split <;> simp
@[simp] theorem notifySource_ozl (b s : State) (n : Nat) : (notifySource b s n).ozl = s.ozl := by
  unfold notifySource; dsimp only; split <;> simp
@[simp] theorem notifySource_tsu (b s : State) (n : Nat) : (notifySource b s n).tsu = s.tsu := by
  unfold notifySource; dsimp only; split <;> simp
@[simp] theorem notifySource_dpx (b s : State) (n : Nat) : (notifySource b s n).dpx = s.dpx := by
  unfold notifySource; dsimp only; split <;> simp
@[simp] theorem notifySource_fen (b s : State) (n : Nat) : (notifySource b s n).fen = s.fen := by
  unfold notifySource; dsimp only; split <;> simp

@[simp] theorem wakeCore_now (b : State) (n : Nat) (s : State) : (wakeCore b n s).now = s.now := by
  unfold wakeCore; dsimp only; split <;> rfl
@[simp] theorem wakeCore_gap (b : State) (n : Nat) (s : State) : (wakeCore b n s).gap = s.gap := by
  unfold wakeCore; dsimp only; split <;> rfl
@[simp] theorem wakeCore_freeCtr (b : State) (n : Nat) (s : State) : (wakeCore b n s).freeCtr = s.freeCtr := by
  unfold wakeCore; dsimp only; split <;> rfl
@[simp] theorem wakeCore_pending (b : State) (n : Nat) (s : State) : (wakeCore b n s).pending = s.pending := by
  unfold wakeCore; dsimp only; split <;> rfl
@[simp] theorem wakeCore_mem (b : State) (n : Nat) (s : State) : (wakeCore b n s).mem = s.mem := by
  unfold wakeCore; dsimp only; split <;> rfl
@[simp] theorem wakeCore_sys (b : State) (n : Nat) (s : State) : (wakeCore b n s).sys = s.sys := by
  unfold wakeCore; dsimp only; split <;> rfl
@[simp] theorem wakeCore_keeper (b : State) (n : Nat) (s : State) : (wakeCore b n s).keeper = s.keeper := by
  unfold wakeCore; dsimp only; split <;> rfl
@[simp] theorem wakeCore_mbx (b : State) (n : Nat) (s : State) : (wakeCore b n s).mbx = s.mbx := by
  unfold wakeCore; dsimp only; split <;> rfl
@[simp] theorem wakeCore_own (b : State) (n : Nat) (s : State) : (wakeCore b n s).own = s.own := by
  unfold wakeCore; dsimp only; split <;> rfl
@[simp] theorem wakeCore_cfg (b : State) (n : Nat) (s : State) : (wakeCore b n s).cfg = s.cfg := by
  unfold wakeCore; dsimp only; split <;> rfl
@[simp] theorem wakeCore_dbg (b : State) (n : Nat) (s : State) : (wakeCore b n s).dbg = s.dbg := by
  unfold wakeCore; dsimp only; split <;> rfl
@[simp] theorem wakeCore_ret (b : State) (n : Nat) (s : State) : (wakeCore b n s).ret = s.ret := by
  unfold wakeCore; dsimp only; split <;> rfl
@[simp] theorem wakeCore_slc (b : State) (n : Nat) (s : State) : (wakeCore b n s).slc = s.slc := by
  unfold wakeCore; dsimp only; split <;> rfl
@[simp] theorem wakeCore_pwm (b : State) (n : Nat) (s : State) : (wakeCore b n s).pwm = s.pwm := by
  unfold wakeCore; dsimp only; split <;> rfl
@[simp] theorem wakeCore_lpe (b : State) (n : Nat) (s : State) : (wakeCore b n s).lpe = s.lpe := by
  unfold wakeCore; dsimp only; split <;> rfl
@[simp] theorem wakeCore_cbl (b : State) (n : Nat) (s : State) : (wakeCore b n s).cbl = s.cbl := by
  unfold wakeCore; dsimp only; split <;> rfl
@[simp] theorem wakeCore_lsw (b : State) (n : Nat) (s : State) : (wakeCore b n s).lsw = s.lsw := by
  unfold wakeCore; dsimp only; split <;> rfl
@[simp] theorem wakeCore_vcl (b : State) (n : Nat) (s : State) : (wakeCore b n s).vcl = s.vcl := by
  unfold wakeCore; dsimp only; split <;> rfl
@[simp] theorem wakeCore_can (b : State) (n : Nat) (s : State) : (wakeCore b n s).can = s.can := by
  unfold wakeCore; dsimp only; split <;> rfl
@[simp] theorem wakeCore_mtr (b : State) (n : Nat) (s : State) : (wakeCore b n s).mtr = s.mtr := by
  unfold wakeCore; dsimp only; split <;> rfl
@[simp] theorem wakeCore_lgl (b : State) (n : Nat) (s : State) : (wakeCore b n s).lgl = s.lgl := by
  unfold wakeCore; dsimp only; split <;> rfl
@[simp] theorem wakeCore_key (b : State) (n : Nat) (s : State) : (wakeCore b n s).key = s.key := by
  unfold wakeCore; dsimp only; split <;> rfl
@[simp] theorem wakeCore_ozl (b : State) (n : Nat) (s : State) : (wakeCore b n s).ozl = s.ozl := by
  unfold wakeCore; dsimp only; split <;> rfl
@[simp] theorem wakeCore_tsu (b : State) (n : Nat) (s : State) : (wakeCore b n s).tsu = s.tsu := by
  unfold wakeCore; dsimp only; split <;> rfl
@[simp] theorem wakeCore_dpx (b : State) (n : Nat) (s : State) : (wakeCore b n s).dpx = s.dpx := by
  unfold wakeCore; dsimp only; split <;> rfl
@[simp] theorem wakeCore_fen (b : State) (n : Nat) (s : State) : (wakeCore b n s).fen = s.fen := by
  unfold wakeCore; dsimp only; split <;> rfl

@[simp] theorem pendRaw_now (s : State) (n : Nat) : (pendRaw s n).now = s.now := by
  simp [pendRaw, setSrc]
@[simp] theorem pendRaw_gap (s : State) (n : Nat) : (pendRaw s n).gap = s.gap := by
  simp [pendRaw, setSrc]
@[simp] theorem pendRaw_freeCtr (s : State) (n : Nat) : (pendRaw s n).freeCtr = s.freeCtr := by
  simp [pendRaw, setSrc]
@[simp] theorem pendRaw_pending (s : State) (n : Nat) : (pendRaw s n).pending = s.pending := by
  simp [pendRaw, setSrc]
@[simp] theorem pendRaw_mem (s : State) (n : Nat) : (pendRaw s n).mem = s.mem := by
  simp [pendRaw, setSrc]
@[simp] theorem pendRaw_sys (s : State) (n : Nat) : (pendRaw s n).sys = s.sys := by
  simp [pendRaw, setSrc]
@[simp] theorem pendRaw_keeper (s : State) (n : Nat) : (pendRaw s n).keeper = s.keeper := by
  simp [pendRaw, setSrc]
@[simp] theorem pendRaw_mbx (s : State) (n : Nat) : (pendRaw s n).mbx = s.mbx := by
  simp [pendRaw, setSrc]
@[simp] theorem pendRaw_own (s : State) (n : Nat) : (pendRaw s n).own = s.own := by
  simp [pendRaw, setSrc]
@[simp] theorem pendRaw_cfg (s : State) (n : Nat) : (pendRaw s n).cfg = s.cfg := by
  simp [pendRaw, setSrc]
@[simp] theorem pendRaw_dbg (s : State) (n : Nat) : (pendRaw s n).dbg = s.dbg := by
  simp [pendRaw, setSrc]
@[simp] theorem pendRaw_ret (s : State) (n : Nat) : (pendRaw s n).ret = s.ret := by
  simp [pendRaw, setSrc]
@[simp] theorem pendRaw_slc (s : State) (n : Nat) : (pendRaw s n).slc = s.slc := by
  simp [pendRaw, setSrc]
@[simp] theorem pendRaw_pwm (s : State) (n : Nat) : (pendRaw s n).pwm = s.pwm := by
  simp [pendRaw, setSrc]
@[simp] theorem pendRaw_lpe (s : State) (n : Nat) : (pendRaw s n).lpe = s.lpe := by
  simp [pendRaw, setSrc]
@[simp] theorem pendRaw_cbl (s : State) (n : Nat) : (pendRaw s n).cbl = s.cbl := by
  simp [pendRaw, setSrc]
@[simp] theorem pendRaw_lsw (s : State) (n : Nat) : (pendRaw s n).lsw = s.lsw := by
  simp [pendRaw, setSrc]
@[simp] theorem pendRaw_vcl (s : State) (n : Nat) : (pendRaw s n).vcl = s.vcl := by
  simp [pendRaw, setSrc]
@[simp] theorem pendRaw_can (s : State) (n : Nat) : (pendRaw s n).can = s.can := by
  simp [pendRaw, setSrc]
@[simp] theorem pendRaw_mtr (s : State) (n : Nat) : (pendRaw s n).mtr = s.mtr := by
  simp [pendRaw, setSrc]
@[simp] theorem pendRaw_lgl (s : State) (n : Nat) : (pendRaw s n).lgl = s.lgl := by
  simp [pendRaw, setSrc]
@[simp] theorem pendRaw_key (s : State) (n : Nat) : (pendRaw s n).key = s.key := by
  simp [pendRaw, setSrc]
@[simp] theorem pendRaw_ozl (s : State) (n : Nat) : (pendRaw s n).ozl = s.ozl := by
  simp [pendRaw, setSrc]
@[simp] theorem pendRaw_tsu (s : State) (n : Nat) : (pendRaw s n).tsu = s.tsu := by
  simp [pendRaw, setSrc]
@[simp] theorem pendRaw_dpx (s : State) (n : Nat) : (pendRaw s n).dpx = s.dpx := by
  simp [pendRaw, setSrc]
@[simp] theorem pendRaw_fen (s : State) (n : Nat) : (pendRaw s n).fen = s.fen := by
  simp [pendRaw, setSrc]

@[simp] theorem fireEvent_now (n : Nat) (s : State) : (fireEvent n s).now = s.now := by
  unfold fireEvent; dsimp only; split; · rfl
  split <;> simp [setSrc]
@[simp] theorem fireEvent_gap (n : Nat) (s : State) : (fireEvent n s).gap = s.gap := by
  unfold fireEvent; dsimp only; split; · rfl
  split <;> simp [setSrc]
@[simp] theorem fireEvent_freeCtr (n : Nat) (s : State) : (fireEvent n s).freeCtr = s.freeCtr := by
  unfold fireEvent; dsimp only; split; · rfl
  split <;> simp [setSrc]
@[simp] theorem fireEvent_pending (n : Nat) (s : State) : (fireEvent n s).pending = s.pending := by
  unfold fireEvent; dsimp only; split; · rfl
  split <;> simp [setSrc]
@[simp] theorem fireEvent_mem (n : Nat) (s : State) : (fireEvent n s).mem = s.mem := by
  unfold fireEvent; dsimp only; split; · rfl
  split <;> simp [setSrc]
@[simp] theorem fireEvent_sys (n : Nat) (s : State) : (fireEvent n s).sys = s.sys := by
  unfold fireEvent; dsimp only; split; · rfl
  split <;> simp [setSrc]
@[simp] theorem fireEvent_keeper (n : Nat) (s : State) : (fireEvent n s).keeper = s.keeper := by
  unfold fireEvent; dsimp only; split; · rfl
  split <;> simp [setSrc]
@[simp] theorem fireEvent_mbx (n : Nat) (s : State) : (fireEvent n s).mbx = s.mbx := by
  unfold fireEvent; dsimp only; split; · rfl
  split <;> simp [setSrc]
@[simp] theorem fireEvent_own (n : Nat) (s : State) : (fireEvent n s).own = s.own := by
  unfold fireEvent; dsimp only; split; · rfl
  split <;> simp [setSrc]
@[simp] theorem fireEvent_cfg (n : Nat) (s : State) : (fireEvent n s).cfg = s.cfg := by
  unfold fireEvent; dsimp only; split; · rfl
  split <;> simp [setSrc]
@[simp] theorem fireEvent_dbg (n : Nat) (s : State) : (fireEvent n s).dbg = s.dbg := by
  unfold fireEvent; dsimp only; split; · rfl
  split <;> simp [setSrc]
@[simp] theorem fireEvent_ret (n : Nat) (s : State) : (fireEvent n s).ret = s.ret := by
  unfold fireEvent; dsimp only; split; · rfl
  split <;> simp [setSrc]
@[simp] theorem fireEvent_slc (n : Nat) (s : State) : (fireEvent n s).slc = s.slc := by
  unfold fireEvent; dsimp only; split; · rfl
  split <;> simp [setSrc]
@[simp] theorem fireEvent_pwm (n : Nat) (s : State) : (fireEvent n s).pwm = s.pwm := by
  unfold fireEvent; dsimp only; split; · rfl
  split <;> simp [setSrc]
@[simp] theorem fireEvent_lpe (n : Nat) (s : State) : (fireEvent n s).lpe = s.lpe := by
  unfold fireEvent; dsimp only; split; · rfl
  split <;> simp [setSrc]
@[simp] theorem fireEvent_cbl (n : Nat) (s : State) : (fireEvent n s).cbl = s.cbl := by
  unfold fireEvent; dsimp only; split; · rfl
  split <;> simp [setSrc]
@[simp] theorem fireEvent_lsw (n : Nat) (s : State) : (fireEvent n s).lsw = s.lsw := by
  unfold fireEvent; dsimp only; split; · rfl
  split <;> simp [setSrc]
@[simp] theorem fireEvent_vcl (n : Nat) (s : State) : (fireEvent n s).vcl = s.vcl := by
  unfold fireEvent; dsimp only; split; · rfl
  split <;> simp [setSrc]
@[simp] theorem fireEvent_can (n : Nat) (s : State) : (fireEvent n s).can = s.can := by
  unfold fireEvent; dsimp only; split; · rfl
  split <;> simp [setSrc]
@[simp] theorem fireEvent_mtr (n : Nat) (s : State) : (fireEvent n s).mtr = s.mtr := by
  unfold fireEvent; dsimp only; split; · rfl
  split <;> simp [setSrc]
@[simp] theorem fireEvent_lgl (n : Nat) (s : State) : (fireEvent n s).lgl = s.lgl := by
  unfold fireEvent; dsimp only; split; · rfl
  split <;> simp [setSrc]
@[simp] theorem fireEvent_key (n : Nat) (s : State) : (fireEvent n s).key = s.key := by
  unfold fireEvent; dsimp only; split; · rfl
  split <;> simp [setSrc]
@[simp] theorem fireEvent_ozl (n : Nat) (s : State) : (fireEvent n s).ozl = s.ozl := by
  unfold fireEvent; dsimp only; split; · rfl
  split <;> simp [setSrc]
@[simp] theorem fireEvent_tsu (n : Nat) (s : State) : (fireEvent n s).tsu = s.tsu := by
  unfold fireEvent; dsimp only; split; · rfl
  split <;> simp [setSrc]
@[simp] theorem fireEvent_dpx (n : Nat) (s : State) : (fireEvent n s).dpx = s.dpx := by
  unfold fireEvent; dsimp only; split; · rfl
  split <;> simp [setSrc]
@[simp] theorem fireEvent_fen (n : Nat) (s : State) : (fireEvent n s).fen = s.fen := by
  unfold fireEvent; dsimp only; split; · rfl
  split <;> simp [setSrc]

@[simp] theorem evgError_now (s : State) : (evgError s).now = s.now := by
  simp [evgError]
@[simp] theorem evgError_gap (s : State) : (evgError s).gap = s.gap := by
  simp [evgError]
@[simp] theorem evgError_freeCtr (s : State) : (evgError s).freeCtr = s.freeCtr := by
  simp [evgError]
@[simp] theorem evgError_pending (s : State) : (evgError s).pending = s.pending := by
  simp [evgError]
@[simp] theorem evgError_mem (s : State) : (evgError s).mem = s.mem := by
  simp [evgError]
@[simp] theorem evgError_sys (s : State) : (evgError s).sys = s.sys := by
  simp [evgError]
@[simp] theorem evgError_keeper (s : State) : (evgError s).keeper = s.keeper := by
  simp [evgError]
@[simp] theorem evgError_mbx (s : State) : (evgError s).mbx = s.mbx := by
  simp [evgError]
@[simp] theorem evgError_own (s : State) : (evgError s).own = s.own := by
  simp [evgError]
@[simp] theorem evgError_cfg (s : State) : (evgError s).cfg = s.cfg := by
  simp [evgError]
@[simp] theorem evgError_dbg (s : State) : (evgError s).dbg = s.dbg := by
  simp [evgError]
@[simp] theorem evgError_ret (s : State) : (evgError s).ret = s.ret := by
  simp [evgError]
@[simp] theorem evgError_slc (s : State) : (evgError s).slc = s.slc := by
  simp [evgError]
@[simp] theorem evgError_pwm (s : State) : (evgError s).pwm = s.pwm := by
  simp [evgError]
@[simp] theorem evgError_lpe (s : State) : (evgError s).lpe = s.lpe := by
  simp [evgError]
@[simp] theorem evgError_cbl (s : State) : (evgError s).cbl = s.cbl := by
  simp [evgError]
@[simp] theorem evgError_lsw (s : State) : (evgError s).lsw = s.lsw := by
  simp [evgError]
@[simp] theorem evgError_vcl (s : State) : (evgError s).vcl = s.vcl := by
  simp [evgError]
@[simp] theorem evgError_can (s : State) : (evgError s).can = s.can := by
  simp [evgError]
@[simp] theorem evgError_mtr (s : State) : (evgError s).mtr = s.mtr := by
  simp [evgError]
@[simp] theorem evgError_lgl (s : State) : (evgError s).lgl = s.lgl := by
  simp [evgError]
@[simp] theorem evgError_key (s : State) : (evgError s).key = s.key := by
  simp [evgError]
@[simp] theorem evgError_ozl (s : State) : (evgError s).ozl = s.ozl := by
  simp [evgError]
@[simp] theorem evgError_tsu (s : State) : (evgError s).tsu = s.tsu := by
  simp [evgError]
@[simp] theorem evgError_dpx (s : State) : (evgError s).dpx = s.dpx := by
  simp [evgError]
@[simp] theorem evgError_fen (s : State) : (evgError s).fen = s.fen := by
  simp [evgError]

@[simp] theorem setLevel_now (n : Nat) (v : Bool) (s : State) : (setLevel n v s).now = s.now := by
  unfold setLevel; dsimp only; split <;> simp [setSrc]
@[simp] theorem setLevel_gap (n : Nat) (v : Bool) (s : State) : (setLevel n v s).gap = s.gap := by
  unfold setLevel; dsimp only; split <;> simp [setSrc]
@[simp] theorem setLevel_freeCtr (n : Nat) (v : Bool) (s : State) : (setLevel n v s).freeCtr = s.freeCtr := by
  unfold setLevel; dsimp only; split <;> simp [setSrc]
@[simp] theorem setLevel_pending (n : Nat) (v : Bool) (s : State) : (setLevel n v s).pending = s.pending := by
  unfold setLevel; dsimp only; split <;> simp [setSrc]
@[simp] theorem setLevel_mem (n : Nat) (v : Bool) (s : State) : (setLevel n v s).mem = s.mem := by
  unfold setLevel; dsimp only; split <;> simp [setSrc]
@[simp] theorem setLevel_sys (n : Nat) (v : Bool) (s : State) : (setLevel n v s).sys = s.sys := by
  unfold setLevel; dsimp only; split <;> simp [setSrc]
@[simp] theorem setLevel_keeper (n : Nat) (v : Bool) (s : State) : (setLevel n v s).keeper = s.keeper := by
  unfold setLevel; dsimp only; split <;> simp [setSrc]
@[simp] theorem setLevel_mbx (n : Nat) (v : Bool) (s : State) : (setLevel n v s).mbx = s.mbx := by
  unfold setLevel; dsimp only; split <;> simp [setSrc]
@[simp] theorem setLevel_own (n : Nat) (v : Bool) (s : State) : (setLevel n v s).own = s.own := by
  unfold setLevel; dsimp only; split <;> simp [setSrc]
@[simp] theorem setLevel_cfg (n : Nat) (v : Bool) (s : State) : (setLevel n v s).cfg = s.cfg := by
  unfold setLevel; dsimp only; split <;> simp [setSrc]
@[simp] theorem setLevel_dbg (n : Nat) (v : Bool) (s : State) : (setLevel n v s).dbg = s.dbg := by
  unfold setLevel; dsimp only; split <;> simp [setSrc]
@[simp] theorem setLevel_ret (n : Nat) (v : Bool) (s : State) : (setLevel n v s).ret = s.ret := by
  unfold setLevel; dsimp only; split <;> simp [setSrc]
@[simp] theorem setLevel_slc (n : Nat) (v : Bool) (s : State) : (setLevel n v s).slc = s.slc := by
  unfold setLevel; dsimp only; split <;> simp [setSrc]
@[simp] theorem setLevel_pwm (n : Nat) (v : Bool) (s : State) : (setLevel n v s).pwm = s.pwm := by
  unfold setLevel; dsimp only; split <;> simp [setSrc]
@[simp] theorem setLevel_lpe (n : Nat) (v : Bool) (s : State) : (setLevel n v s).lpe = s.lpe := by
  unfold setLevel; dsimp only; split <;> simp [setSrc]
@[simp] theorem setLevel_cbl (n : Nat) (v : Bool) (s : State) : (setLevel n v s).cbl = s.cbl := by
  unfold setLevel; dsimp only; split <;> simp [setSrc]
@[simp] theorem setLevel_lsw (n : Nat) (v : Bool) (s : State) : (setLevel n v s).lsw = s.lsw := by
  unfold setLevel; dsimp only; split <;> simp [setSrc]
@[simp] theorem setLevel_vcl (n : Nat) (v : Bool) (s : State) : (setLevel n v s).vcl = s.vcl := by
  unfold setLevel; dsimp only; split <;> simp [setSrc]
@[simp] theorem setLevel_can (n : Nat) (v : Bool) (s : State) : (setLevel n v s).can = s.can := by
  unfold setLevel; dsimp only; split <;> simp [setSrc]
@[simp] theorem setLevel_mtr (n : Nat) (v : Bool) (s : State) : (setLevel n v s).mtr = s.mtr := by
  unfold setLevel; dsimp only; split <;> simp [setSrc]
@[simp] theorem setLevel_lgl (n : Nat) (v : Bool) (s : State) : (setLevel n v s).lgl = s.lgl := by
  unfold setLevel; dsimp only; split <;> simp [setSrc]
@[simp] theorem setLevel_key (n : Nat) (v : Bool) (s : State) : (setLevel n v s).key = s.key := by
  unfold setLevel; dsimp only; split <;> simp [setSrc]
@[simp] theorem setLevel_ozl (n : Nat) (v : Bool) (s : State) : (setLevel n v s).ozl = s.ozl := by
  unfold setLevel; dsimp only; split <;> simp [setSrc]
@[simp] theorem setLevel_tsu (n : Nat) (v : Bool) (s : State) : (setLevel n v s).tsu = s.tsu := by
  unfold setLevel; dsimp only; split <;> simp [setSrc]
@[simp] theorem setLevel_dpx (n : Nat) (v : Bool) (s : State) : (setLevel n v s).dpx = s.dpx := by
  unfold setLevel; dsimp only; split <;> simp [setSrc]
@[simp] theorem setLevel_fen (n : Nat) (v : Bool) (s : State) : (setLevel n v s).fen = s.fen := by
  unfold setLevel; dsimp only; split <;> simp [setSrc]

end Sys2Proof.Machine
end

