-- ==== Sys2Proof/Laws/Memory.lean ====
section
/-! SUPPORT. The memory operations: every one keeps the canonical form, a read after a write gives what was written, and a
write leaves every other byte alone. -/

namespace Sys2Proof.Machine

theorem Memory.wf_nil : Memory.wf [] = true := rfl

/-- The form of a list with a first entry: that entry is listed rightly, it lies below the next, and the rest has the form. -/
theorem Memory.wf_cons (a : Nat) (v : BitVec 8) (m : Memory) :
    Memory.wf ((a, v) :: m) = true ↔ v.toNat ≠ unlistedByte ∧ (∀ b w, (b, w) ∈ m → a < b) ∧ Memory.wf m = true := by
  induction m generalizing a v with
  | nil => simp [Memory.wf]
  | cons c r ih =>
    obtain ⟨b, w⟩ := c
    have e : Memory.wf ((a, v) :: (b, w) :: r) = (v.toNat != unlistedByte && decide (a < b) && Memory.wf ((b, w) :: r)) := rfl
    rw [e, Bool.and_eq_true, Bool.and_eq_true, bne_iff_ne, decide_eq_true_eq]
    refine ⟨fun h => ⟨h.1.1, ?_, h.2⟩, fun h => ⟨⟨h.1, h.2.1 b w List.mem_cons_self⟩, h.2.2⟩⟩
    intro x y hx
    rcases List.mem_cons.1 hx with hx | hx
    · cases hx; exact h.1.2
    · exact h.1.2.trans (((ih b w).1 h.2).2.1 x y hx)

theorem Memory.wf_tail {c : Host.Cell} {m : Memory} (h : Memory.wf (c :: m) = true) : Memory.wf m = true :=
  ((Memory.wf_cons c.1 c.2 m).1 h).2.2

/-- Part of a list in the form has the form. -/
theorem Memory.wf_sublist {l m : Memory} (s : l.Sublist m) (h : Memory.wf m = true) : Memory.wf l = true := by
  induction s with
  | slnil => rfl
  | cons a _ ih => exact ih (Memory.wf_tail h)
  | cons_cons a s ih =>
    obtain ⟨x, v⟩ := a
    have k := (Memory.wf_cons x v _).1 h
    exact (Memory.wf_cons x v _).2 ⟨k.1, fun b w hb => k.2.1 b w (s.subset hb), ih k.2.2⟩

theorem Memory.wf_filter {m : Memory} (p : Host.Cell → Bool) (h : Memory.wf m = true) : Memory.wf (m.filter p) = true :=
  Memory.wf_sublist List.filter_sublist h

/-- Entries of a list in the form, some left out and the values of others changed, have the form where no value becomes the
one of an unlisted byte. -/
theorem Memory.wf_filterMap {m : Memory} (f : Host.Cell → Option Host.Cell)
    (hf : ∀ c d, f c = some d → d.1 = c.1 ∧ d.2.toNat ≠ unlistedByte) (h : Memory.wf m = true) :
    Memory.wf (m.filterMap f) = true := by
  induction m with
  | nil => rfl
  | cons c r ih =>
    obtain ⟨x, v⟩ := c
    have k := (Memory.wf_cons x v r).1 h
    rcases e : f (x, v) with _ | ⟨y, w⟩
    · rw [List.filterMap_cons_none e]; exact ih k.2.2
    · rw [List.filterMap_cons_some e]
      have q := hf _ _ e
      refine (Memory.wf_cons y w _).2 ⟨q.2, fun b u hb => ?_, ih k.2.2⟩
      obtain ⟨d, hd, ed⟩ := List.mem_filterMap.1 hb
      have z := (hf _ _ ed).1
      dsimp only at z q
      rw [q.1, z]
      exact k.2.1 d.1 d.2 hd

/-- An entry of memory after a byte is written is that byte or was there before. -/
theorem memSet_mem {m : Memory} {a v : Nat} {c : Host.Cell} (h : c ∈ memSet m a v) : c.1 = a ∨ c ∈ m := by
  induction m with
  | nil =>
    simp only [memSet] at h
    split at h
    · simp at h
    · simp only [List.mem_singleton] at h; subst h; exact .inl rfl
  | cons d r ih =>
    obtain ⟨b, w⟩ := d
    simp only [memSet] at h
    split at h
    · split at h
      · exact .inr h
      · rcases List.mem_cons.1 h with h | h
        · subst h; exact .inl rfl
        · exact .inr h
    · split at h
      · split at h
        · exact .inr (List.mem_cons_of_mem _ h)
        · rcases List.mem_cons.1 h with h | h
          · subst h; exact .inl rfl
          · exact .inr (List.mem_cons_of_mem _ h)
      · rcases List.mem_cons.1 h with h | h
        · exact .inr (h ▸ List.mem_cons_self)
        · exact (ih h).imp id (List.mem_cons_of_mem _)

theorem listed_ne {v : Nat} (h : ¬ v % 256 = unlistedByte) : (BitVec.ofNat 8 v).toNat ≠ unlistedByte := by
  simpa [BitVec.toNat_ofNat] using h

/-- Writing a byte keeps the form. -/
theorem memSet_wf {m : Memory} (a v : Nat) (h : Memory.wf m = true) : Memory.wf (memSet m a v) = true := by
  induction m with
  | nil =>
    simp only [memSet]
    split
    · rfl
    · rename_i hv
      exact (Memory.wf_cons _ _ _).2 ⟨listed_ne hv, by simp, rfl⟩
  | cons d r ih =>
    obtain ⟨b, w⟩ := d
    have k := (Memory.wf_cons b w r).1 h
    simp only [memSet]
    split
    · rename_i hab
      split
      · exact h
      · rename_i hv
        refine (Memory.wf_cons _ _ _).2 ⟨listed_ne hv, fun x y hx => ?_, h⟩
        rcases List.mem_cons.1 hx with hx | hx
        · cases hx; exact hab
        · exact hab.trans (k.2.1 x y hx)
    · split
      · rename_i hab
        subst hab
        split
        · exact k.2.2
        · rename_i hv
          exact (Memory.wf_cons _ _ _).2 ⟨listed_ne hv, k.2.1, k.2.2⟩
      · rename_i h1 h2
        refine (Memory.wf_cons _ _ _).2 ⟨k.1, fun x y hx => ?_, ih k.2.2⟩
        rcases memSet_mem hx with hx | hx
        · simp only at hx; omega
        · exact k.2.1 x y hx

/-- Writing a value of `n` bytes keeps the form. -/
theorem memWrite_wf {m : Memory} (a n v : Nat) (h : Memory.wf m = true) : Memory.wf (memWrite m a n v) = true := by
  induction n generalizing m a v with
  | zero => exact h
  | succ n ih => exact ih _ _ (memSet_wf _ _ h)

/-- Writing a list of bytes keeps the form. -/
theorem memWriteBytes_wf {m : Memory} (a : Nat) (l : List Nat) (h : Memory.wf m = true) :
    Memory.wf (memWriteBytes m a l) = true := by
  induction l generalizing m a with
  | nil => exact h
  | cons b l ih => exact ih _ (memSet_wf _ _ h)

/-- A byte just written reads as written. -/
theorem memGet_memSet_same (m : Memory) (a v : Nat) (h : Memory.wf m = true) : memGet (memSet m a v) a = v % 256 := by
  induction m with
  | nil => simp only [memSet]; split <;> simp_all [memGet]
  | cons d r ih =>
    obtain ⟨b, w⟩ := d
    have k := (Memory.wf_cons b w r).1 h
    have unlisted : ∀ (l : Memory), (∀ x y, (x, y) ∈ l → a < x) → memGet l a = unlistedByte := by
      intro l hl
      induction l with
      | nil => rfl
      | cons e l il =>
        obtain ⟨x, y⟩ := e
        have := hl x y List.mem_cons_self
        simp only [memGet]
        rw [if_neg (by omega)]
        exact il fun p q hp => hl p q (List.mem_cons_of_mem _ hp)
    simp only [memSet]
    split
    · rename_i hab
      split
      · rename_i hv
        rw [hv]
        exact unlisted _ fun x y hx => by
          rcases List.mem_cons.1 hx with hx | hx
          · cases hx; exact hab
          · exact hab.trans (k.2.1 x y hx)
      · simp [memGet, BitVec.toNat_ofNat]
    · split
      · rename_i hab
        subst hab
        split
        · rename_i hv
          rw [hv]; exact unlisted _ k.2.1
        · simp [memGet, BitVec.toNat_ofNat]
      · simp only [memGet]
        rw [if_neg (by omega)]
        exact ih k.2.2

/-- A byte not written reads as before. -/
theorem memGet_memSet_other (m : Memory) {a b : Nat} (v : Nat) (h : b ≠ a) : memGet (memSet m a v) b = memGet m b := by
  induction m with
  | nil => simp only [memSet]; split <;> simp [memGet, Ne.symm h]
  | cons d r ih =>
    obtain ⟨c, w⟩ := d
    simp only [memSet]
    split
    · split
      · rfl
      · simp [memGet, Ne.symm h]
    · split
      · rename_i hc
        subst hc
        split <;> simp [memGet, Ne.symm h]
      · simp only [memGet, ih]

/-- Bytes outside a value written read as before. -/
theorem memGet_memWrite_other (m : Memory) {a n b : Nat} (v : Nat) (h : b < a ∨ a + n ≤ b) :
    memGet (memWrite m a n v) b = memGet m b := by
  induction n generalizing m a v with
  | zero => rfl
  | succ n ih =>
    simp only [memWrite]
    rw [ih _ _ (by omega), memGet_memSet_other _ _ (by omega)]

/-- Bytes outside a list written read as before. -/
theorem memGet_memWriteBytes_other (m : Memory) {a b : Nat} (l : List Nat) (h : b < a ∨ a + l.length ≤ b) :
    memGet (memWriteBytes m a l) b = memGet m b := by
  induction l generalizing m a with
  | nil => rfl
  | cons x l ih =>
    simp only [List.length_cons] at h
    simp only [memWriteBytes]
    rw [ih _ (by omega), memGet_memSet_other _ _ (by omega)]

/-- Reading outside the bytes written. -/
theorem memRead_memWrite_other (m : Memory) {a n b k : Nat} (v : Nat) (h : b + k ≤ a ∨ a + n ≤ b) :
    memRead (memWrite m a n v) b k = memRead m b k := by
  induction k generalizing b with
  | zero => rfl
  | succ k ih =>
    simp only [memRead]
    rw [memGet_memWrite_other _ _ (by omega), ih (by omega)]

/-- A value read back from where it was written. -/
theorem memRead_memWrite_same (m : Memory) (a n v : Nat) (h : Memory.wf m = true) :
    memRead (memWrite m a n v) a n = v % 256 ^ n := by
  induction n generalizing m a v with
  | zero => simp [memRead, Nat.mod_one]
  | succ n ih =>
    simp only [memRead, memWrite]
    rw [ih _ _ _ (memSet_wf _ _ h), memGet_memWrite_other _ _ (by omega), memGet_memSet_same _ _ _ h, Nat.pow_succ, Nat.mul_comm (256 ^ n)]
    rw [Nat.mod_mul]; simp

theorem wrw_mem (s : State) (a v : Nat) : (wrw s a v).mem = memWrite s.mem a 4 v := rfl
theorem wrf_mem (s : State) (a lo w v : Nat) : (wrf s a lo w v).mem = memWrite s.mem a 4 (setBits (rdw s a) lo w v) := rfl
theorem ramPut_mem (s : State) (a : Nat) (f : Fld) (v : Nat) : (ramPut s a f v).mem = memWrite s.mem (a + f.ofs) f.width v := rfl

/-- A register word reads back what was written to it. -/
theorem rdw_wrw_same (s : State) (a v : Nat) (h : Memory.wf s.mem = true) : rdw (wrw s a v) a = v % 2 ^ 32 :=
  memRead_memWrite_same s.mem a 4 v h

/-- A register word reads as before where another was written. -/
theorem rdw_wrw_other (s : State) {a b : Nat} (v : Nat) (h : b + 4 ≤ a ∨ a + 4 ≤ b) : rdw (wrw s a v) b = rdw s b :=
  memRead_memWrite_other s.mem v h

end Sys2Proof.Machine
end

