-- ==== Sys2Proof/Laws/Frame.lean ====
section
/-! SUPPORT. What answering mailbox commands leaves alone: every block but the mailboxes, the event gatherer, the ownership and
what sends management frames, and every byte outside the completion queues of the lines that wait and the command's reference. -/

namespace Sys2Proof.Machine

/-- From `b` to `s` only the mailboxes, events, ownership, messages, what sends management frames and the bytes at places `P`
changed; the queues kept their depths and ports, and no line has a command that had none. -/
structure Ans (P : Nat → Prop) (b s : State) : Prop where
  rest : { s with mbx := b.mbx, evg := b.evg, own := b.own, out := b.out, mem := b.mem, freeCtr := b.freeCtr, ozl := b.ozl, fen := b.fen } = b
  depth : ∀ n, (get s.mbx.pairs n).depth = (get b.mbx.pairs n).depth
  port : ∀ n, (get s.mbx.pairs n).port = (get b.mbx.pairs n).port
  lines : ∀ c ∈ s.mbx.cmds, ∃ d ∈ b.mbx.cmds, d.line = c.line
  free : (∀ n, (get b.mbx.pairs n).port < 3) → s.freeCtr = b.freeCtr
  link : (∀ n, (get b.mbx.pairs n).port ≠ 5) → s.ozl = b.ozl ∧ s.fen = b.fen
  mem : ∀ a, ¬P a → memGet s.mem a = memGet b.mem a

theorem Ans.refl (P : Nat → Prop) (b : State) : Ans P b b :=
  ⟨rfl, fun _ => rfl, fun _ => rfl, fun c h => ⟨c, h, rfl⟩, fun _ => rfl, fun _ => ⟨rfl, rfl⟩, fun _ _ => rfl⟩

theorem ans_mbx {P : Nat → Prop} {b x : State} (h : Ans P b x) (m : Mbx)
    (hd : ∀ n, (get m.pairs n).depth = (get x.mbx.pairs n).depth) (hp : ∀ n, (get m.pairs n).port = (get x.mbx.pairs n).port)
    (hl : ∀ c ∈ m.cmds, ∃ d ∈ x.mbx.cmds, d.line = c.line) : Ans P b { x with mbx := m } :=
  ⟨h.rest, fun n => (hd n).trans (h.depth n), fun n => (hp n).trans (h.port n),
    fun c hc => let ⟨d, hd, e⟩ := hl c hc; let ⟨d', hd', e'⟩ := h.lines d hd; ⟨d', hd', e'.trans e⟩, h.free, h.link, h.mem⟩

/-- A change of the mailboxes that touches neither the queues nor the commands. -/
theorem ans_box {P : Nat → Prop} {b x : State} (h : Ans P b x) (m : Mbx) (hp : m.pairs = x.mbx.pairs) (hc : m.cmds = x.mbx.cmds) :
    Ans P b { x with mbx := m } :=
  ans_mbx h m (fun n => by rw [hp]) (fun n => by rw [hp]) fun c k => ⟨c, hc ▸ k, rfl⟩

theorem ans_own {P : Nat → Prop} {b x : State} (h : Ans P b x) (o : Own) : Ans P b { x with own := o } :=
  ⟨h.rest, h.depth, h.port, h.lines, h.free, h.link, h.mem⟩

theorem ans_out {P : Nat → Prop} {b x : State} (h : Ans P b x) (k : OutKind) (n : Nat) (d : List Int) : Ans P b (emit x k n d) :=
  ⟨h.rest, h.depth, h.port, h.lines, h.free, h.link, h.mem⟩

theorem ans_fire {P : Nat → Prop} {b x : State} (h : Ans P b x) (n : Nat) : Ans P b (fireEvent n x) := by
  refine ⟨?_, ?_, ?_, ?_, ?_, ?_, ?_⟩
  · simpa using h.rest
  · simpa using h.depth
  · simpa using h.port
  · simpa using h.lines
  · simpa using h.free
  · simpa using h.link
  · simpa using h.mem

/-- A change of one queue pair that keeps a value of it. -/
theorem pair_upd {α : Type} (g : Pair → α) {k : Nat} (v : Vector Pair k) (i : Nat) (f : Pair → Pair) (hf : ∀ p, g (f p) = g p) (n : Nat) :
    g (get (upd v i f) n) = g (get v n) := by
  by_cases hn : i = n
  · subst hn
    by_cases hk : i < k
    · rw [get_upd_same _ _ _ hk, hf]
    · simp [get, hk]
  · rw [get_upd_other _ _ hn]

theorem ans_pair {P : Nat → Prop} {b x : State} (h : Ans P b x) (i : Nat) (f : Pair → Pair) (hf : ∀ p, (f p).depth = p.depth)
    (hp : ∀ p, (f p).port = p.port) : Ans P b { x with mbx.pairs := upd x.mbx.pairs i f } :=
  ans_mbx h _ (pair_upd (·.depth) _ _ _ hf) (pair_upd (·.port) _ _ _ hp) fun c k => ⟨c, k, rfl⟩

theorem ans_v1 {P : Nat → Prop} {b x : State} (h : Ans P b x) (line : Nat) (f : V1 → V1) : Ans P b (setV1 x line f) := by
  unfold setV1
  split <;> exact ans_box h _ rfl rfl

theorem ans_cqSignal {P : Nat → Prop} {b x : State} (h : Ans P b x) (n : Nat) : Ans P b (cqSignal n x) := by
  unfold cqSignal
  refine ans_fire ?_ _
  refine ans_pair h n _ ?_ ?_
  · intro p
    rfl
  · intro p
    rfl

theorem ans_cqModerate {P : Nat → Prop} {b x : State} (h : Ans P b x) (n : Nat) : Ans P b (cqModerate n x) := by
  unfold cqModerate
  dsimp only
  split
  · exact ans_cqSignal h n
  · exact ans_pair h _ _ (fun _ => rfl) fun _ => rfl

/-- Only Oluzel, Fenline and the messages sent changed. -/
def LinkOnly (x y : State) : Prop := { y with ozl := x.ozl, fen := x.fen, out := x.out } = x

theorem LinkOnly.refl (x : State) : LinkOnly x x := rfl

theorem link_ozl {x y : State} (h : LinkOnly x y) (o : Ozl) : LinkOnly x { y with ozl := o } := h

theorem link_fen {x y : State} (h : LinkOnly x y) (o : Fen) : LinkOnly x { y with fen := o } := h

theorem link_out {x y : State} (h : LinkOnly x y) (o : List Out) : LinkOnly x { y with out := o } := h

theorem link_ite {p : Prop} [Decidable p] {x y z : State} (h : LinkOnly x y) (k : LinkOnly x z) : LinkOnly x (if p then y else z) := by
  split <;> assumption

theorem link_sendFrom {x y : State} (h : LinkOnly x y) (p : Nat) (w : WaitFrame) : LinkOnly x (sendFrom p w y) := by
  unfold sendFrom setOz
  dsimp only
  split <;> exact h

theorem link_queueFrame {x y : State} (h : LinkOnly x y) (p : Nat) (w : WaitFrame) : LinkOnly x (queueFrame p w y) := by
  unfold queueFrame
  exact link_ite (link_sendFrom h p w) (link_ozl h _)

theorem link_fenSend {x y : State} (h : LinkOnly x y) (cls src dst : Nat) (bc : Bool) (m : Out) : LinkOnly x (fenSend cls src dst bc m y) := by
  unfold fenSend
  refine link_ite h ?_
  split
  · exact link_fen h _
  · exact h

theorem link_numberMsg {x y : State} (h : LinkOnly x y) (cls dst : Nat) (ws : List WaitFrame) : LinkOnly x (numberMsg cls dst ws y) := by
  unfold numberMsg
  exact link_ite (link_ozl h _) (link_ozl h _)

theorem link_foldl {α : Type} {x : State} (l : List α) (f : State → α → State) (hf : ∀ y a, LinkOnly x y → LinkOnly x (f y a))
    {y : State} (h : LinkOnly x y) : LinkOnly x (l.foldl f y) := by
  induction l generalizing y with
  | nil => exact h
  | cons a l ih => exact ih (hf y a h)

theorem link_queueAll {x y : State} (h : LinkOnly x y) (p : Nat) (ws : List WaitFrame) : LinkOnly x (queueAll p ws y) :=
  link_foldl _ _ (fun _ w hz => link_queueFrame hz p w) h

theorem link_fenAll {x y : State} (h : LinkOnly x y) (cls dst : Nat) (ws : List WaitFrame) : LinkOnly x (fenAll cls dst ws y) :=
  link_foldl _ _ (fun _ _ hz => link_fenSend hz _ _ _ _ _) h

/-- A message that leaves over a link changes Oluzel, Fenline and the messages sent alone. -/
theorem link_tcSend {x y : State} (h : LinkOnly x y) (cls : Nat) (k : OutKind) (dst chan : Nat) (payload : List Nat) :
    LinkOnly x (tcSend cls k dst chan payload y) := by
  unfold tcSend
  dsimp only
  have hn : ∀ ws, LinkOnly x (if (k == .ozNak) = true then y else numberMsg cls dst ws y) := fun ws => link_ite h (link_numberMsg h _ _ _)
  refine link_ite (link_ite (link_queueAll (hn _) _ _) h) (link_ite (link_out h _) (link_ite (link_fenAll (hn _) _ _ _) ?_))
  split
  · exact hn _
  · exact link_ite (link_queueAll (hn _) _ _) (link_fenAll (hn _) _ _ _)

theorem ans_link {P : Nat → Prop} {b x y : State} (h : Ans P b x) (k : LinkOnly x y) (hp : ∃ n, (get b.mbx.pairs n).port = 5) : Ans P b y := by
  unfold LinkOnly at k
  have e1 : y.mbx = x.mbx := by
    have := congrArg State.mbx k
    exact this
  have e2 : y.mem = x.mem := by
    have := congrArg State.mem k
    exact this
  have e3 : y.freeCtr = x.freeCtr := by
    have := congrArg State.freeCtr k
    exact this
  refine ⟨?_, by rw [e1]; exact h.depth, by rw [e1]; exact h.port, by rw [e1]; exact h.lines, by rw [e3]; exact h.free, fun z => ?_,
    by rw [e2]; exact h.mem⟩
  · have := h.rest
    rw [← k] at this
    exact this
  · obtain ⟨n, hn⟩ := hp
    exact absurd hn (z n)

theorem ans_drawFree {P : Nat → Prop} {b x : State} (h : Ans P b x) (hp : ∃ n, 3 ≤ (get b.mbx.pairs n).port) : Ans P b (drawFree x).2 :=
  ⟨h.rest, h.depth, h.port, h.lines, fun z => hp.elim fun n hn => absurd (z n) (by omega), h.link, h.mem⟩

theorem ans_sendFrame {P : Nat → Prop} {b x : State} (h : Ans P b x) (port n : Nat) (k : OutKind) (l : List Nat)
    (h3 : 3 ≤ port) (hp : ∃ m, (get b.mbx.pairs m).port = port) : Ans P b (sendFrame port n k l x) := by
  have h1 := ans_drawFree (ans_box h { x.mbx with fseqOut := upd x.mbx.fseqOut (port - 3) fun _ => get x.mbx.fseqOut (port - 3) + 1 } rfl rfl)
    (hp.imp fun m e => by omega)
  unfold sendFrame
  dsimp only
  split
  · rename_i e
    exact ans_link h1 (link_tcSend (LinkOnly.refl _) _ _ _ _ _) (hp.imp fun m k => k.trans (by simpa using e))
  · exact ans_out h1 _ _ _

theorem ans_foldl {α : Type} {P : Nat → Prop} {b : State} (l : List α) (f : State → α → State) (hf : ∀ x a, Ans P b x → Ans P b (f x a))
    {x : State} (h : Ans P b x) : Ans P b (l.foldl f x) := by
  induction l generalizing x with
  | nil => exact h
  | cons a l ih => exact ih (hf x a h)

theorem ans_sendComplete {P : Nat → Prop} {b x : State} (h : Ans P b x) (n ctr : Nat) (h3 : 3 ≤ (get x.mbx.pairs n).port) :
    Ans P b (sendComplete n ctr x) := by
  have hp : ∃ m, (get b.mbx.pairs m).port = (get x.mbx.pairs n).port := ⟨n, (h.port n).symm⟩
  unfold sendComplete
  dsimp only
  refine ans_sendFrame ?_ _ _ _ _ h3 hp
  split
  · unfold sendData
    exact ans_foldl _ _ (fun y a hy => ans_sendFrame hy _ _ _ _ h3 hp) h
  · exact h

theorem length_leBytes (n v : Nat) : (leBytes n v).length = n := by
  induction n generalizing v with
  | zero => rfl
  | succ n ih => simp [leBytes, ih]

/-- A completion entry is 64 bytes (R78). -/
theorem length_complBytes (c : Compl) : (complBytes c).length = 64 := by
  simp only [complBytes, List.length_append, length_leBytes, List.length_cons, List.length_nil, List.length_take,
    List.length_replicate]
  omega

/-- Bytes written at places of `P`, beside a change of one queue pair. -/
theorem ans_queue {P : Nat → Prop} {b x : State} (h : Ans P b x) (n : Nat) (f : Pair → Pair) (hf : ∀ p, (f p).depth = p.depth)
    (hq : ∀ p, (f p).port = p.port) (a : Nat) (l : List Nat) (hp : ∀ z, a ≤ z → z < a + l.length → P z) :
    Ans P b { x with mem := memWriteBytes x.mem a l, mbx.pairs := upd x.mbx.pairs n f } := by
  have k := ans_pair h n f hf hq
  refine ⟨k.rest, k.depth, k.port, k.lines, k.free, k.link, fun z hz => ?_⟩
  rw [← h.mem z hz]
  refine memGet_memWriteBytes_other _ _ ?_
  by_contra hc
  exact hz (hp z (by omega) (by omega))

theorem ans_cqPut {P : Nat → Prop} {b x : State} (h : Ans P b x) {n : Nat} (c : Compl) (hn : n < 16)
    (hd : 0 < (get x.mbx.pairs n).depth) (hP : ∀ a, CqPlace b n a → P a) : Ans P b (cqPut n c x) := by
  unfold cqPut
  refine ans_queue h n (Pair.completed c) (fun p => rfl) (fun p => rfl) _ _ ?_
  intro z h1 h2
  rw [length_complBytes] at h2
  have := Nat.mod_lt (get x.mbx.pairs n).cqTail hd
  have e := h.depth n
  unfold cqSlotAddr at h1 h2
  exact hP z ⟨hn, by omega, by omega⟩

theorem ans_cqWrite {P : Nat → Prop} {b x : State} (h : Ans P b x) {n : Nat} (c : Compl) (hn : n < 16)
    (hd : 0 < (get x.mbx.pairs n).depth) (hP : ∀ a, CqPlace b n a → P a) : Ans P b (cqWrite n c x) := by
  have h1 := ans_cqModerate (ans_cqPut h c hn hd hP) n
  unfold cqWrite
  dsimp only
  split
  · rename_i h3
    refine ans_sendComplete h1 n _ ?_
    rw [h1.port n, ← h.port n]
    exact h3
  · exact h1

theorem ans_deliver {P : Nat → Prop} {b x : State} (h : Ans P b x) (n : Nat) (c : Compl) (hP : ∀ a, CqPlace b n a → P a) :
    Ans P b (deliver n c x) := by
  unfold deliver
  dsimp only
  split
  · rename_i hn
    split
    · rename_i hf
      refine ans_cqWrite h c hn ?_ hP
      simp only [Bool.and_eq_true, decide_eq_true_eq] at hf
      have := hf.2
      unfold cqFree at this
      omega
    · exact ans_pair h _ _ (fun _ => rfl) fun _ => rfl
  · split
    · exact ans_v1 h _ _
    · exact ans_fire (ans_v1 h _ _) _

theorem ans_writeResp {P : Nat → Prop} {b x : State} (h : Ans P b x) (c : Cmd) (l : List Nat)
    (hP : l ≠ [] → l.length ≤ c.refLen ∧ ∀ a, RefPlace c a → P a) : Ans P b (writeResp c l x) := by
  unfold writeResp
  split
  · exact h
  · rename_i hl
    obtain ⟨hlen, hp⟩ := hP (by simpa using hl)
    split
    · exact ans_out h _ _ _
    · split
      · rename_i hline
        refine ⟨h.rest, h.depth, h.port, h.lines, h.free, h.link, fun a ha => ?_⟩
        rw [← h.mem a ha]
        refine memGet_memWriteBytes_other _ _ ?_
        by_contra hc
        exact ha (hp a ⟨hline, by omega, by omega⟩)
      · exact ans_v1 h _ _

theorem ans_countIgnored {P : Nat → Prop} {b x : State} (h : Ans P b x) (st : Nat) : Ans P b (countIgnored st x) := by
  unfold countIgnored
  split
  · exact ans_box h _ rfl rfl
  · split
    · exact ans_box h _ rfl rfl
    · split
      · exact ans_box h _ rfl rfl
      · exact h

theorem respPart_length (c : Cmd) (r : Option (List Nat)) (h : respPart c r ≠ []) : (respPart c r).length ≤ c.refLen := by
  unfold respPart at h ⊢
  split
  · simp at h
  · split
    · simp
    · exact List.length_take_le _ _

theorem ans_openElection {P : Nat → Prop} {b x : State} (h : Ans P b x) : Ans P b (openElection x) := by
  unfold openElection
  split
  · exact ans_fire (ans_own h _) _
  · exact h

theorem ans_vacateOwner {P : Nat → Prop} {b x : State} (h : Ans P b x) : Ans P b (vacateOwner x) := by
  have h1 : Ans P b { x with mbx.cmds := x.mbx.cmds.map (Cmd.keep x.own.owner) } := by
    refine ans_mbx h _ (fun _ => rfl) (fun _ => rfl) ?_
    intro c hc
    obtain ⟨d, hd, rfl⟩ := List.mem_map.mp hc
    exact ⟨d, hd, rfl⟩
  exact ans_openElection (ans_fire (ans_own h1 _) _)

theorem ans_lapseOwner {P : Nat → Prop} {b x : State} (h : Ans P b x) : Ans P b (lapseOwner x) := ans_vacateOwner (ans_own h _)

theorem ans_dropCmd {P : Nat → Prop} {b x : State} (h : Ans P b x) (line seq slots : Nat) : Ans P b (dropCmd x line seq slots) := by
  unfold dropCmd
  refine ans_mbx h _ (pair_upd (·.depth) _ _ _ fun _ => rfl) (pair_upd (·.port) _ _ _ fun _ => rfl) ?_
  intro c hc
  exact ⟨c, (List.mem_filter.mp hc).1, rfl⟩

theorem ans_answerCmd {P : Nat → Prop} {b x : State} (h : Ans P b x) (c : Cmd) (a : Answer)
    (hc : ∀ z, CqPlace b c.line z → P z) (hr : a.resp ≠ none → ∀ z, RefPlace c z → P z) : Ans P b (answerCmd c a x) := by
  have h1 : Ans P b (writeResp c (respPart c a.resp) (countIgnored a.status x)) := by
    refine ans_writeResp (ans_countIgnored h _) c _ fun hne => ⟨respPart_length c _ hne, hr ?_⟩
    rintro e
    rw [e] at hne
    exact hne rfl
  have h2 := ans_deliver (ans_dropCmd h1 c.line c.seq (if c.accepted then 1 else c.slots)) c.line (answerCompl c a true) hc
  unfold answerCmd
  dsimp only
  split
  · exact ans_v1 h2 _ _
  · exact h2

theorem ans_finishOne {P : Nat → Prop} {b x : State} (h : Ans P b x) (c : Cmd) (a : Answer)
    (hc : ∀ z, CqPlace b c.line z → P z) (hr : a.resp ≠ none → ∀ z, RefPlace c z → P z) : Ans P b (finishOne c a x) := by
  have h1 := ans_answerCmd h c a hc hr
  unfold finishOne
  dsimp only
  split
  · exact ans_lapseOwner h1
  · exact h1

theorem firstOpen_line {s : State} {line : Nat} {c : Cmd} (h : firstOpen s line = some c) : c.line = line := by
  have := List.find?_some h
  simp only [Bool.and_eq_true, beq_iff_eq] at this
  exact this.1

theorem startFails_resp {s : State} {c : Cmd} {a : Answer} (h : startFails s c = some a) : a.resp = none := by
  unfold startFails at h
  split at h
  · cases h; rfl
  · split at h
    · cases h; rfl
    · cases h

theorem ans_flushFailed {P : Nat → Prop} {b : State} {line : Nat} (hc : ∀ z, CqPlace b line z → P z) (n : Nat) {x : State}
    (h : Ans P b x) : Ans P b (flushFailed line n x) := by
  induction n generalizing x with
  | zero => exact h
  | succ n ih =>
    unfold flushFailed
    split
    · rename_i c e
      split
      · rename_i a e'
        exact ih (ans_finishOne h c a (firstOpen_line e ▸ hc) fun k => absurd (startFails_resp e') k)
      · exact h
    · exact h

/-- The commands that fail as soon as they may start, line by line. -/
theorem ans_flushAll {P : Nat → Prop} {b x : State} (h : Ans P b x) (hc : ∀ d ∈ b.mbx.cmds, ∀ z, CqPlace b d.line z → P z) :
    Ans P b (flushAll x) := by
  have key : ∀ (l : List Nat) (y : State), (∀ n ∈ l, ∃ d ∈ b.mbx.cmds, d.line = n) → Ans P b y →
      Ans P b (l.foldl (fun a n => flushFailed n a.mbx.cmds.length a) y) := by
    intro l
    induction l with
    | nil => exact fun y _ k => k
    | cons n l ih =>
      intro y hl k
      obtain ⟨d, hd, e⟩ := hl n (.head _)
      exact ih _ (fun m hm => hl m (.tail _ hm)) (ans_flushFailed (e ▸ hc d hd) _ k)
  refine key _ x (fun n hn => ?_) h
  obtain ⟨c, hm, rfl⟩ := List.mem_map.mp hn
  exact h.lines c hm

/-- Everything the final completion of a command changes. -/
theorem ans_finish {P : Nat → Prop} {b x : State} (h : Ans P b x) (c : Cmd) (a : Answer) (hm : ∃ d ∈ b.mbx.cmds, d.line = c.line)
    (hc : ∀ d ∈ b.mbx.cmds, ∀ z, CqPlace b d.line z → P z) (hr : ∀ z, RefPlace c z → P z) : Ans P b (finish c a x) := by
  obtain ⟨d, hd, e⟩ := hm
  exact ans_flushAll (ans_finishOne h c a (e ▸ hc d hd) fun _ => hr) hc

/-- A body of which both branches only answer only answers. -/
theorem answers_ite {c : Cmd} {s x y : State} {p : Prop} [Decidable p] (hx : ∃ a, x = finish c a s) (hy : ∃ a, y = finish c a s) :
    ∃ a, (if p then x else y) = finish c a s := by split <;> assumption

theorem answers_done (c : Cmd) (r : List Nat) (s : State) : ∃ a, done c r s = finish c a s := ⟨_, rfl⟩

theorem answers_doneOut (c : Cmd) (r b : List Nat) (s : State) : ∃ a, doneOut c r b s = finish c a s := ⟨_, rfl⟩

theorem answers_rejectRange (c : Cmd) (n : Nat) (s : State) : ∃ a, rejectRange c n s = finish c a s := ⟨_, rfl⟩

/-- A command that starts, or is turned away, with a body that only answers changes nothing else. -/
theorem runCmd_onlyAnswers {line seq op : Nat} {illegal : Cmd → State → Bool} {body : Cmd → State → State} {s : State} {c : Cmd}
    (h : firstOpen s line = some c) (hb : ∃ a, body c s = finish c a s) :
    OnlyAnswers c s (runCmd line seq op illegal body s) := by
  have hf : ∀ a, OnlyAnswers c s (finish c a s) := fun a => by
    have := ans_finish (P := fun z => (∃ x ∈ s.mbx.cmds, CqPlace s x.line z) ∨ RefPlace c z) (Ans.refl _ s) c a
      ⟨c, List.mem_of_find?_eq_some h, rfl⟩ (fun d hd z hz => .inl ⟨d, hd, hz⟩) (fun z hz => .inr hz)
    exact ⟨this.rest, this.free, this.link, fun z h1 h2 => this.mem z (fun k => k.elim (fun ⟨x, hx, k⟩ => h1 x hx k) h2)⟩
  have h0 : OnlyAnswers c s s := ⟨rfl, fun _ => rfl, fun _ => ⟨rfl, rfl⟩, fun _ _ _ => rfl⟩
  obtain ⟨a, ha⟩ := hb
  unfold runCmd startCmd
  rw [h]
  dsimp only
  split
  · rename_i d i hd hi
    split at hd
    · cases hd
      split
      · exact hf _
      · split
        · exact hf _
        · split
          · exact hf _
          · split
            · exact hf _
            · rw [ha]; exact hf a
    · cases hd
  · exact h0

/-- Where no command waits on the line, nothing happens. -/
theorem runCmd_idle {line seq op : Nat} {illegal : Cmd → State → Bool} {body : Cmd → State → State} {s : State}
    (h : firstOpen s line = none) : runCmd line seq op illegal body s = s := by
  unfold runCmd startCmd
  rw [h]

/-- A stored time at least `d` back is due; stated for a variable `d`, so that no proof unfolds a large literal. -/
theorem any_due {x n d : Nat} (h : x + d ≤ n) : (some x).any (fun a => decide (a + d ≤ n)) = true := by
  simp only [Option.any_some, decide_eq_true h]

end Sys2Proof.Machine
end

