-- ==== Sys2Proof/Laws/Keeps.lean ====
section
/-! SUPPORT. What every operation of the block keeps: the form of its memories, the queue of waiting commands, time, free values
and messages that only grow, GATE_EN, the error queue and the fuses. -/

set_option linter.unusedTactic false
set_option linter.unreachableTactic false

namespace Sys2Proof.Machine

/-- A state the block reaches from `b` by its own operations: the memories keep their form, the queue of waiting commands
is untouched, time, the draws of free values and the messages sent only grow, GATE_EN is high in the run modes only if it was,
the error queue keeps its bound, and fuses stay burned. -/
structure Keeps (b s : State) : Prop where
  pending : s.pending = b.pending
  mem : Memory.wf b.mem = true → Memory.wf s.mem = true
  v1p : Memory.wf b.mbx.v1p.buf = true → Memory.wf s.mbx.v1p.buf = true
  v1s : Memory.wf b.mbx.v1s.buf = true → Memory.wf s.mbx.v1s.buf = true
  now : b.now ≤ s.now
  ctr : b.freeCtr ≤ s.freeCtr
  out : b.out <+: s.out
  gates : GatesOk b → GatesOk s
  errs : ErrsOk b → ErrsOk s
  fuses : FusesOnlyBurn b s
  low : b.keeper.gateEn = false → s.keeper.gateEn = false

/-- What a whole command keeps: the same, where the keeper may raise GATE_EN in a run mode. -/
structure Reaches (b s : State) : Prop where
  pending : s.pending = b.pending
  mem : Memory.wf b.mem = true → Memory.wf s.mem = true
  v1p : Memory.wf b.mbx.v1p.buf = true → Memory.wf s.mbx.v1p.buf = true
  v1s : Memory.wf b.mbx.v1s.buf = true → Memory.wf s.mbx.v1s.buf = true
  now : b.now ≤ s.now
  ctr : b.freeCtr ≤ s.freeCtr
  out : b.out <+: s.out
  gates : GatesOk b → GatesOk s
  errs : ErrsOk b → ErrsOk s
  fuses : FusesOnlyBurn b s

theorem Keeps.reaches {b s : State} (h : Keeps b s) : Reaches b s :=
  ⟨h.pending, h.mem, h.v1p, h.v1s, h.now, h.ctr, h.out, h.gates, h.errs, h.fuses⟩

/-- An outcome whose next state, if it is one, is reached from `b`. -/
structure KeepsO (b : State) (o : Host.Outcome State Fault Refusal) : Prop where
  next : ∀ s, o = .next s → Reaches b s

theorem FusesOnlyBurn.refl (b : State) : FusesOnlyBurn b b := ⟨id, id, id, id, le_rfl⟩

theorem FusesOnlyBurn.trans {a b c : State} (h : FusesOnlyBurn a b) (k : FusesOnlyBurn b c) : FusesOnlyBurn a c :=
  ⟨fun x => k.1 (h.1 x), fun x => k.2.1 (h.2.1 x), fun x => k.2.2.1 (h.2.2.1 x), fun x => k.2.2.2.1 (h.2.2.2.1 x),
    h.2.2.2.2.trans k.2.2.2.2⟩

theorem Keeps.refl (b : State) : Keeps b b :=
  ⟨rfl, id, id, id, le_rfl, le_rfl, List.prefix_rfl, id, id, FusesOnlyBurn.refl b, id⟩

theorem Keeps.trans {a b c : State} (h : Keeps a b) (k : Keeps b c) : Keeps a c :=
  ⟨k.pending.trans h.pending, fun x => k.mem (h.mem x), fun x => k.v1p (h.v1p x), fun x => k.v1s (h.v1s x), h.now.trans k.now,
    h.ctr.trans k.ctr, h.out.trans k.out, fun x => k.gates (h.gates x), fun x => k.errs (h.errs x), h.fuses.trans k.fuses,
    fun x => k.low (h.low x)⟩

/-- What of two states `Keeps` compares directly: the mode, the gates, the error queues, the fuses. -/
abbrev keptOf (sys : Sys) (keeper : Keeper) (ret : Retention) (key : Key) :
    Mode × Bool × List ErrRec × List ErrRec × Bool × Bool × Bool × Bool × Nat :=
  (sys.mode, keeper.gateEn, sys.errq, ret.errq, key.fProv, key.fField, key.fReturn, key.fEnd, key.svcCnt)

theorem keptOf_gates {x y : State} (e : keptOf y.sys y.keeper y.ret y.key = keptOf x.sys x.keeper x.ret x.key) :
    GatesOk x → GatesOk y := by
  simp only [Prod.mk.injEq] at e
  unfold GatesOk
  rw [e.1, e.2.1]
  exact id

theorem keptOf_low {x y : State} (e : keptOf y.sys y.keeper y.ret y.key = keptOf x.sys x.keeper x.ret x.key) :
    x.keeper.gateEn = false → y.keeper.gateEn = false := by
  simp only [Prod.mk.injEq] at e
  rw [e.2.1]
  exact id

theorem keptOf_errs {x y : State} (e : keptOf y.sys y.keeper y.ret y.key = keptOf x.sys x.keeper x.ret x.key) :
    ErrsOk x → ErrsOk y := by
  simp only [Prod.mk.injEq] at e
  unfold ErrsOk
  rw [e.2.2.1, e.2.2.2.1]
  exact id

theorem keptOf_fuses {b x y : State} (e : keptOf y.sys y.keeper y.ret y.key = keptOf x.sys x.keeper x.ret x.key) :
    FusesOnlyBurn b x → FusesOnlyBurn b y := by
  simp only [Prod.mk.injEq] at e
  unfold FusesOnlyBurn
  rw [e.2.2.2.2.1, e.2.2.2.2.2.1, e.2.2.2.2.2.2.1, e.2.2.2.2.2.2.2.1, e.2.2.2.2.2.2.2.2]
  exact id

/-- A state record over a state reached, with what `Keeps` compares as it was. -/
theorem keeps_same {b x : State} {gap sys keeper mbx own evg cfg dbg ret slc pwm lpe cbl lsw vcl can mtr lgl key ozl tsu dpx fen}
    (h : Keeps b x) (v : mbx.v1p.buf = x.mbx.v1p.buf) (w : mbx.v1s.buf = x.mbx.v1s.buf)
    (e : keptOf sys keeper ret key = keptOf x.sys x.keeper x.ret x.key) :
    Keeps b (State.mk x.now gap x.freeCtr x.out x.pending x.mem sys keeper mbx own evg cfg dbg ret slc pwm lpe cbl lsw vcl can mtr lgl key ozl tsu dpx fen) :=
  ⟨h.pending, h.mem, fun k => v ▸ h.v1p k, fun k => w ▸ h.v1s k, h.now, h.ctr, h.out,
    fun z => keptOf_gates e (h.gates z), fun z => keptOf_errs e (h.errs z), keptOf_fuses e h.fuses, fun z => keptOf_low e (h.low z)⟩

/-- The same with a memory in its form. -/
theorem keeps_mem {b x : State} {mem} {gap sys keeper mbx own evg cfg dbg ret slc pwm lpe cbl lsw vcl can mtr lgl key ozl tsu dpx fen}
    (h : Keeps b x) (v : mbx.v1p.buf = x.mbx.v1p.buf) (w : mbx.v1s.buf = x.mbx.v1s.buf)
    (e : keptOf sys keeper ret key = keptOf x.sys x.keeper x.ret x.key)
    (m : Memory.wf x.mem = true → Memory.wf mem = true) :
    Keeps b (State.mk x.now gap x.freeCtr x.out x.pending mem sys keeper mbx own evg cfg dbg ret slc pwm lpe cbl lsw vcl can mtr lgl key ozl tsu dpx fen) :=
  ⟨h.pending, fun k => m (h.mem k), fun k => v ▸ h.v1p k, fun k => w ▸ h.v1s k, h.now, h.ctr, h.out,
    fun z => keptOf_gates e (h.gates z), fun z => keptOf_errs e (h.errs z), keptOf_fuses e h.fuses, fun z => keptOf_low e (h.low z)⟩

/-- The same with messages sent. -/
theorem keeps_out {b x : State} {l} {gap sys keeper mbx own evg cfg dbg ret slc pwm lpe cbl lsw vcl can mtr lgl key ozl tsu dpx fen}
    (h : Keeps b x) (v : mbx.v1p.buf = x.mbx.v1p.buf) (w : mbx.v1s.buf = x.mbx.v1s.buf)
    (e : keptOf sys keeper ret key = keptOf x.sys x.keeper x.ret x.key) :
    Keeps b (State.mk x.now gap x.freeCtr (x.out ++ l) x.pending x.mem sys keeper mbx own evg cfg dbg ret slc pwm lpe cbl lsw vcl can mtr lgl key ozl tsu dpx fen) :=
  ⟨h.pending, h.mem, fun k => v ▸ h.v1p k, fun k => w ▸ h.v1s k, h.now, h.ctr, h.out.trans (List.prefix_append _ _),
    fun z => keptOf_gates e (h.gates z), fun z => keptOf_errs e (h.errs z), keptOf_fuses e h.fuses, fun z => keptOf_low e (h.low z)⟩

/-- A state record over a state reached, whose v1 buffers are empty as after a reset. -/
theorem keeps_new {b x : State} {gap sys keeper mbx own evg cfg dbg ret slc pwm lpe cbl lsw vcl can mtr lgl key ozl tsu dpx fen}
    (h : Keeps b x) (v : mbx.v1p.buf = []) (w : mbx.v1s.buf = [])
    (e : keptOf sys keeper ret key = keptOf x.sys x.keeper x.ret x.key) :
    Keeps b (State.mk x.now gap x.freeCtr x.out x.pending x.mem sys keeper mbx own evg cfg dbg ret slc pwm lpe cbl lsw vcl can mtr lgl key ozl tsu dpx fen) :=
  ⟨h.pending, h.mem, fun _ => v ▸ rfl, fun _ => w ▸ rfl, h.now, h.ctr, h.out,
    fun z => keptOf_gates e (h.gates z), fun z => keptOf_errs e (h.errs z), keptOf_fuses e h.fuses, fun z => keptOf_low e (h.low z)⟩

theorem keepsO_next {b s : State} (h : Keeps b s) : KeepsO b (.next s) := ⟨fun _ e => by cases e; exact h.reaches⟩

/-- The state of a pair is reached. -/
theorem keeps_pair {α : Type} {b s : State} {v : α} {p : α × State} (e : p = (v, s)) (h : Keeps b p.2) : Keeps b s := by
  subst e; exact h

theorem keeps_ite {b x y : State} {c : Prop} [Decidable c] (h : Keeps b x) (k : Keeps b y) :
    Keeps b (if c then x else y) := by split <;> assumption

theorem keeps_ite2 {α : Type} {b : State} {x y : α × State} {c : Prop} [Decidable c] (h : Keeps b x.2) (k : Keeps b y.2) :
    Keeps b (if c then x else y).2 := by split <;> assumption

theorem keepsO_ite {b : State} {x y : Host.Outcome State Fault Refusal} {c : Prop} [Decidable c] (h : KeepsO b x)
    (k : KeepsO b y) : KeepsO b (if c then x else y) := by split <;> assumption

theorem keeps_foldl {α : Type} {b s : State} {l : List α} {f : State → α → State} (h : Keeps b s)
    (k : ∀ x a, Keeps b x → Keeps b (f x a)) : Keeps b (l.foldl f s) := by
  induction l generalizing s with
  | nil => exact h
  | cons a l ih => exact ih (k _ _ h)

end Sys2Proof.Machine
end

