-- ==== Sys2Proof/Laws/KeepsShared.lean ====
section
/-! SUPPORT. Every operation of Operands.lean, Event.lean, Link.lean, Ops.lean, Legal.lean, Switch.lean, Target.lean, Stop.lean, Modes.lean, Fire.lean keeps what `Keeps` says. -/

set_option linter.unusedTactic false
set_option linter.unreachableTactic false

namespace Sys2Proof.Machine

/-! ### Operands.lean -/

theorem wrw_keeps {b0 : State} (s : State) (a : Nat) (v : Nat) (h : Keeps b0 s) :
    Keeps b0 (wrw s a v) := by
  unfold wrw
  with_reducible
    try conv => arg 2; whnf
    iterate 40 all_goals try ((
      first
        | assumption | intro _ | refine memWrite_wf _ _ _ ?_ | refine memWriteBytes_wf _ _ ?_
        | refine Memory.wf_filter _ ?_ | refine keeps_same ?_ rfl rfl rfl | refine keeps_mem ?_ rfl rfl rfl ?_)
      <;> try conv => arg 2; whnf)

theorem wrf_keeps {b0 : State} (s : State) (a : Nat) (lo : Nat) (w : Nat) (v : Nat) (h : Keeps b0 s) :
    Keeps b0 (wrf s a lo w v) := by
  unfold wrf
  with_reducible
    try conv => arg 2; whnf
    iterate 40 all_goals try ((
      first
        | assumption | apply wrw_keeps)
      <;> try conv => arg 2; whnf)

theorem ramPut_keeps {b0 : State} (s : State) (base : Nat) (f : Fld) (v : Nat) (h : Keeps b0 s) :
    Keeps b0 (ramPut s base f v) := by
  unfold ramPut
  with_reducible
    try conv => arg 2; whnf
    iterate 40 all_goals try ((
      first
        | assumption | intro _ | refine memWrite_wf _ _ _ ?_ | refine memWriteBytes_wf _ _ ?_
        | refine Memory.wf_filter _ ?_ | refine keeps_same ?_ rfl rfl rfl | refine keeps_mem ?_ rfl rfl rfl ?_)
      <;> try conv => arg 2; whnf)

/-! ### Event.lean -/

theorem emit_keeps {b : State} (s : State) (kind : OutKind) (chan : Nat) (data : List Int) (h : Keeps b s) :
    Keeps b (emit s kind chan data) :=
  ⟨h.pending, h.mem, h.v1p, h.v1s, h.now, h.ctr, h.out.trans (List.prefix_append _ _), h.gates, h.errs, h.fuses, h.low⟩

theorem sendVector_keeps {b0 : State} (v : Nat) (s : State) (h : Keeps b0 s) :
    Keeps b0 (sendVector v s) := by
  unfold sendVector
  with_reducible
    try conv => arg 2; whnf
    iterate 40 all_goals try ((
      first
        | assumption | intro _ | apply emit_keeps | apply keeps_ite | refine keeps_same ?_ rfl rfl rfl)
      <;> try conv => arg 2; whnf)

theorem notifySource_keeps {b0 : State} (before : State) (s : State) (n : Nat) (h : Keeps b0 s) :
    Keeps b0 (notifySource before s n) := by
  unfold notifySource
  with_reducible
    try conv => arg 2; whnf
    iterate 40 all_goals try ((
      first
        | assumption | apply sendVector_keeps | apply keeps_ite)
      <;> try conv => arg 2; whnf)

theorem setSrc_keeps {b0 : State} (s : State) (n : Nat) (f : EvSrc → EvSrc) (h : Keeps b0 s) :
    Keeps b0 (setSrc s n f) := by
  unfold setSrc
  with_reducible
    try conv => arg 2; whnf
    iterate 40 all_goals try ((
      first
        | assumption | intro _ | refine keeps_same ?_ rfl rfl rfl)
      <;> try conv => arg 2; whnf)

theorem wakeCore_keeps {b0 : State} (before : State) (n : Nat) (s : State) (h : Keeps b0 s) :
    Keeps b0 (wakeCore before n s) := by
  unfold wakeCore
  with_reducible
    try conv => arg 2; whnf
    iterate 40 all_goals try ((
      first
        | assumption | apply emit_keeps | apply keeps_ite)
      <;> try conv => arg 2; whnf)

theorem pendRaw_keeps {b0 : State} (s : State) (n : Nat) (h : Keeps b0 s) :
    Keeps b0 (pendRaw s n) := by
  unfold pendRaw
  with_reducible
    try conv => arg 2; whnf
    iterate 40 all_goals try ((
      first
        | assumption | intro _ | apply notifySource_keeps | apply setSrc_keeps | apply wakeCore_keeps
        | refine keeps_same ?_ rfl rfl rfl)
      <;> try conv => arg 2; whnf)

theorem fireEvent_keeps {b0 : State} (n : Nat) (s : State) (h : Keeps b0 s) :
    Keeps b0 (fireEvent n s) := by
  unfold fireEvent
  with_reducible
    try conv => arg 2; whnf
    iterate 40 all_goals try ((
      first
        | assumption | intro _ | apply pendRaw_keeps | apply setSrc_keeps | apply keeps_ite
        | refine keeps_same ?_ rfl rfl rfl)
      <;> try conv => arg 2; whnf)

theorem drawFree_keeps {b : State} (s : State) (h : Keeps b s) : Keeps b (drawFree s).2 :=
  ⟨h.pending, h.mem, h.v1p, h.v1s, h.now, h.ctr.trans (Nat.le_succ _), h.out, h.gates, h.errs, h.fuses, h.low⟩

theorem setClaim_keeps {b0 : State} (s : State) (port : Nat) (f : Claim → Claim) (h : Keeps b0 s) :
    Keeps b0 (setClaim s port f) := by
  unfold setClaim
  with_reducible
    try conv => arg 2; whnf
    iterate 40 all_goals try ((
      first
        | assumption | intro _ | refine keeps_same ?_ rfl rfl rfl)
      <;> try conv => arg 2; whnf)

theorem openElection_keeps {b0 : State} (s : State) (h : Keeps b0 s) :
    Keeps b0 (openElection s) := by
  unfold openElection
  with_reducible
    try conv => arg 2; whnf
    iterate 40 all_goals try ((
      first
        | assumption | intro _ | apply fireEvent_keeps | apply keeps_ite | refine keeps_same ?_ rfl rfl rfl)
      <;> try conv => arg 2; whnf)

theorem vacateOwner_keeps {b0 : State} (s : State) (h : Keeps b0 s) :
    Keeps b0 (vacateOwner s) := by
  unfold vacateOwner
  with_reducible
    try conv => arg 2; whnf
    iterate 40 all_goals try ((
      first
        | assumption | intro _ | apply fireEvent_keeps | apply openElection_keeps | refine keeps_same ?_ rfl rfl rfl)
      <;> try conv => arg 2; whnf)

theorem lapseOwner_keeps {b0 : State} (s : State) (h : Keeps b0 s) :
    Keeps b0 (lapseOwner s) := by
  unfold lapseOwner
  with_reducible
    try conv => arg 2; whnf
    iterate 40 all_goals try ((
      first
        | assumption | apply setClaim_keeps | apply vacateOwner_keeps)
      <;> try conv => arg 2; whnf)

theorem dropRights_keeps {b0 : State} (s : State) (h : Keeps b0 s) :
    Keeps b0 (dropRights s) := by
  unfold dropRights
  with_reducible
    try conv => arg 2; whnf
    iterate 40 all_goals try ((
      first
        | assumption | intro _ | apply fireEvent_keeps | apply keeps_ite | refine keeps_same ?_ rfl rfl rfl)
      <;> try conv => arg 2; whnf)

theorem wideEvent_keeps {b0 : State} (before : State) (s : State) (h : Keeps b0 s) :
    Keeps b0 (wideEvent before s) := by
  unfold wideEvent
  with_reducible
    try conv => arg 2; whnf
    iterate 40 all_goals try ((
      first
        | assumption | apply fireEvent_keeps | apply keeps_ite)
      <;> try conv => arg 2; whnf)

theorem at_keeps {b : State} (s : State) (t : Nat) (h : Keeps b s) : Keeps b (s.at t) := by
  unfold State.at
  split
  · exact keeps_same h rfl rfl rfl
  · exact ⟨h.pending, h.mem, h.v1p, h.v1s, h.now.trans (le_max_left _ _), h.ctr, h.out, h.gates, h.errs, h.fuses, h.low⟩

theorem drawFreeInt_keeps {b : State} (s : State) (h : Keeps b s) : Keeps b (drawFreeInt s).2 :=
  ⟨h.pending, h.mem, h.v1p, h.v1s, h.now, h.ctr.trans (Nat.le_succ _), h.out, h.gates, h.errs, h.fuses, h.low⟩

theorem drawTrng_keeps {b : State} (s : State) (h : Keeps b s) : Keeps b (drawTrng s).2 :=
  ⟨h.pending, h.mem, h.v1p, h.v1s, h.now, h.ctr.trans (Nat.le_succ _), h.out, h.gates, h.errs, h.fuses, h.low⟩

theorem setLevel_keeps {b0 : State} (n : Nat) (v : Bool) (s : State) (h : Keeps b0 s) :
    Keeps b0 (setLevel n v s) := by
  unfold setLevel
  with_reducible
    try conv => arg 2; whnf
    iterate 40 all_goals try ((
      first
        | assumption | intro _ | apply fireEvent_keeps | apply setSrc_keeps | apply keeps_ite
        | refine keeps_same ?_ rfl rfl rfl)
      <;> try conv => arg 2; whnf)

theorem dinLevel_keeps {b0 : State} (n : Nat) (s : State) (h : Keeps b0 s) :
    Keeps b0 (dinLevel n s) := by
  unfold dinLevel
  with_reducible
    try conv => arg 2; whnf
    iterate 40 all_goals try ((
      first
        | assumption | apply setLevel_keeps)
      <;> try conv => arg 2; whnf)

theorem notifyVectors_keeps {b0 : State} (before : State) (s : State) (h : Keeps b0 s) :
    Keeps b0 (notifyVectors before s) := by
  unfold notifyVectors
  with_reducible
    try conv => arg 2; whnf
    iterate 40 all_goals try ((
      first
        | assumption | intro _ | apply sendVector_keeps | apply keeps_foldl | apply keeps_ite)
      <;> try conv => arg 2; whnf)

theorem sourcesLoaded_keeps {b0 : State} (before : State) (s : State) (h : Keeps b0 s) :
    Keeps b0 (sourcesLoaded before s) := by
  unfold sourcesLoaded
  with_reducible
    try conv => arg 2; whnf
    iterate 40 all_goals try ((
      first
        | assumption | intro _ | apply dinLevel_keeps | apply emit_keeps | apply notifyVectors_keeps
        | apply keeps_foldl | apply keeps_ite)
      <;> try conv => arg 2; whnf)

theorem evgError_keeps {b0 : State} (s : State) (h : Keeps b0 s) :
    Keeps b0 (evgError s) := by
  unfold evgError
  with_reducible
    try conv => arg 2; whnf
    iterate 40 all_goals try ((
      first
        | assumption | apply pendRaw_keeps)
      <;> try conv => arg 2; whnf)

theorem clearTarget_keeps {b0 : State} (t : Nat) (s : State) (h : Keeps b0 s) :
    Keeps b0 (clearTarget t s) := by
  unfold clearTarget
  with_reducible
    try conv => arg 2; whnf
    iterate 40 all_goals try ((
      first
        | assumption | intro _ | apply notifyVectors_keeps | apply setSrc_keeps | apply keeps_foldl | apply keeps_ite
        | refine keeps_same ?_ rfl rfl rfl)
      <;> try conv => arg 2; whnf)

theorem clearHostTargets_keeps {b0 : State} (s : State) (h : Keeps b0 s) :
    Keeps b0 (clearHostTargets s) := by
  unfold clearHostTargets
  with_reducible
    try conv => arg 2; whnf
    iterate 40 all_goals try ((
      first
        | assumption | apply clearTarget_keeps)
      <;> try conv => arg 2; whnf)

theorem bumpEpoch_keeps {b0 : State} (s : State) (h : Keeps b0 s) :
    Keeps b0 (bumpEpoch s) := by
  unfold bumpEpoch
  with_reducible
    try conv => arg 2; whnf
    iterate 40 all_goals try ((
      first
        | assumption | intro _ | apply clearHostTargets_keeps | apply dropRights_keeps | apply fireEvent_keeps
        | refine keeps_same ?_ rfl rfl rfl)
      <;> try conv => arg 2; whnf)

/-! ### Link.lean -/

theorem fenQueue_keeps {b0 : State} (f : FenTx) (s : State) (h : Keeps b0 s) :
    Keeps b0 (fenQueue f s) := by
  unfold fenQueue
  with_reducible
    try conv => arg 2; whnf
    iterate 40 all_goals try ((
      first
        | assumption | intro _ | refine keeps_same ?_ rfl rfl rfl)
      <;> try conv => arg 2; whnf)

theorem fenSend_keeps {b0 : State} (cls : Nat) (src : Nat) (dst : Nat) (bcast : Bool) (m : Out) (s : State) (h : Keeps b0 s) :
    Keeps b0 (fenSend cls src dst bcast m s) := by
  unfold fenSend
  with_reducible
    try conv => arg 2; whnf
    iterate 40 all_goals try ((
      first
        | assumption | intro _ | apply fenQueue_keeps | apply keeps_ite | split | refine keeps_pair (by assumption) ?_
        | refine keeps_same ?_ rfl rfl rfl)
      <;> try conv => arg 2; whnf)

theorem fenAll_keeps {b0 : State} (cls : Nat) (dst : Nat) (ws : List WaitFrame) (s : State) (h : Keeps b0 s) :
    Keeps b0 (fenAll cls dst ws s) := by
  unfold fenAll
  with_reducible
    try conv => arg 2; whnf
    iterate 40 all_goals try ((
      first
        | assumption | intro _ | apply fenSend_keeps | apply keeps_foldl)
      <;> try conv => arg 2; whnf)

theorem numberMsg_keeps {b0 : State} (cls : Nat) (dst : Nat) (ws : List WaitFrame) (s : State) (h : Keeps b0 s) :
    Keeps b0 (numberMsg cls dst ws s) := by
  unfold numberMsg
  with_reducible
    try conv => arg 2; whnf
    iterate 40 all_goals try ((
      first
        | assumption | intro _ | apply keeps_ite | refine keeps_same ?_ rfl rfl rfl)
      <;> try conv => arg 2; whnf)

theorem sendCreditBlock_keeps {b0 : State} (p : Nat) (s : State) (h : Keeps b0 s) :
    Keeps b0 (sendCreditBlock p s) := by
  unfold sendCreditBlock
  with_reducible
    try conv => arg 2; whnf
    iterate 40 all_goals try ((
      first
        | assumption | apply emit_keeps)
      <;> try conv => arg 2; whnf)

theorem setOz_keeps {b0 : State} (p : Nat) (f : OzPort → OzPort) (s : State) (h : Keeps b0 s) :
    Keeps b0 (setOz p f s) := by
  unfold setOz
  with_reducible
    try conv => arg 2; whnf
    iterate 40 all_goals try ((
      first
        | assumption | intro _ | refine keeps_same ?_ rfl rfl rfl)
      <;> try conv => arg 2; whnf)

theorem freeBuffer_keeps {b0 : State} (p : Nat) (cls : Nat) (s : State) (h : Keeps b0 s) :
    Keeps b0 (freeBuffer p cls s) := by
  unfold freeBuffer
  with_reducible
    try conv => arg 2; whnf
    iterate 40 all_goals try ((
      first
        | assumption | intro _ | apply sendCreditBlock_keeps | apply setOz_keeps | refine keeps_same ?_ rfl rfl rfl)
      <;> try conv => arg 2; whnf)

theorem sendFrom_keeps {b0 : State} (p : Nat) (w : WaitFrame) (s : State) (h : Keeps b0 s) :
    Keeps b0 (sendFrom p w s) := by
  unfold sendFrom
  with_reducible
    try conv => arg 2; whnf
    iterate 40 all_goals try ((
      first
        | assumption | intro _ | apply freeBuffer_keeps | apply setOz_keeps | apply keeps_ite | split
        | refine keeps_pair (by assumption) ?_ | refine keeps_same ?_ rfl rfl rfl | refine keeps_out ?_ rfl rfl rfl)
      <;> try conv => arg 2; whnf)

theorem queueFrame_keeps {b0 : State} (p : Nat) (w : WaitFrame) (s : State) (h : Keeps b0 s) :
    Keeps b0 (queueFrame p w s) := by
  unfold queueFrame
  with_reducible
    try conv => arg 2; whnf
    iterate 40 all_goals try ((
      first
        | assumption | intro _ | apply sendFrom_keeps | apply setOz_keeps | apply keeps_ite
        | refine keeps_same ?_ rfl rfl rfl)
      <;> try conv => arg 2; whnf)

theorem queueAll_keeps {b0 : State} (p : Nat) (ws : List WaitFrame) (s : State) (h : Keeps b0 s) :
    Keeps b0 (queueAll p ws s) := by
  unfold queueAll
  with_reducible
    try conv => arg 2; whnf
    iterate 40 all_goals try ((
      first
        | assumption | intro _ | apply queueFrame_keeps | apply keeps_foldl)
      <;> try conv => arg 2; whnf)

theorem tcSend_keeps {b0 : State} (cls : Nat) (kind : OutKind) (dst : Nat) (chan : Nat) (payload : List Nat) (s : State) (h : Keeps b0 s) :
    Keeps b0 (tcSend cls kind dst chan payload s) := by
  unfold tcSend
  with_reducible
    try conv => arg 2; whnf
    iterate 40 all_goals try ((
      first
        | assumption | intro _ | apply emit_keeps | apply fenAll_keeps | apply numberMsg_keeps | apply queueAll_keeps
        | apply keeps_ite | split | refine keeps_pair (by assumption) ?_ | refine keeps_same ?_ rfl rfl rfl)
      <;> try conv => arg 2; whnf)

theorem mirrorSend_keeps {b0 : State} (typ : Nat) (body : List Nat) (s : State) (h : Keeps b0 s) :
    Keeps b0 (mirrorSend typ body s) := by
  unfold mirrorSend
  with_reducible
    try conv => arg 2; whnf
    iterate 40 all_goals try ((
      first
        | assumption | apply tcSend_keeps)
      <;> try conv => arg 2; whnf)

theorem dropWaiting_keeps {b0 : State} (p : Nat) (s : State) (h : Keeps b0 s) :
    Keeps b0 (dropWaiting p s) := by
  unfold dropWaiting
  with_reducible
    try conv => arg 2; whnf
    iterate 40 all_goals try ((
      first
        | assumption | intro _ | apply freeBuffer_keeps | apply setOz_keeps | apply keeps_foldl | apply keeps_ite
        | split | refine keeps_pair (by assumption) ?_ | refine keeps_same ?_ rfl rfl rfl)
      <;> try conv => arg 2; whnf)

theorem queueCast_keeps {b0 : State} (cls : Nat) (len : Nat) (msg : Nat → Out) (inp : Option Nat) (ports : List Nat) (s : State) (h : Keeps b0 s) :
    Keeps b0 (queueCast cls len msg inp ports s) := by
  unfold queueCast
  with_reducible
    try conv => arg 2; whnf
    iterate 40 all_goals try ((
      first
        | assumption | intro _ | apply freeBuffer_keeps | apply queueFrame_keeps | apply keeps_foldl | split
        | refine keeps_pair (by assumption) ?_ | refine keeps_same ?_ rfl rfl rfl)
      <;> try conv => arg 2; whnf)

theorem sendTc0_keeps {b0 : State} (kind : OutKind) (bcast : Bool) (payload : List Nat) (inp : Option Nat) (ports : List Nat) (s : State) (h : Keeps b0 s) :
    Keeps b0 (sendTc0 kind bcast payload inp ports s) := by
  unfold sendTc0
  with_reducible
    try conv => arg 2; whnf
    iterate 40 all_goals try ((
      first
        | assumption | intro _ | apply queueCast_keeps | apply keeps_ite | refine keeps_same ?_ rfl rfl rfl)
      <;> try conv => arg 2; whnf)

theorem flushPort_keeps {b0 : State} (p : Nat) (x0_ : Nat) (x1_ : State) (h : Keeps b0 x1_) :
    Keeps b0 (flushPort p x0_ x1_) := by
  induction x0_ generalizing x1_ with
  | zero => exact h
  | succ _ ih =>
    unfold flushPort
    with_reducible
      try conv => arg 2; whnf
      iterate 40 all_goals try ((
        first
          | assumption | intro _ | apply ih | apply sendFrom_keeps | apply setOz_keeps | split
          | refine keeps_pair (by assumption) ?_ | refine keeps_same ?_ rfl rfl rfl)
        <;> try conv => arg 2; whnf)

/-! ### Ops.lean -/

theorem countIgnored_keeps {b0 : State} (st : Nat) (s : State) (h : Keeps b0 s) :
    Keeps b0 (countIgnored st s) := by
  unfold countIgnored
  with_reducible
    try conv => arg 2; whnf
    iterate 40 all_goals try ((
      first
        | assumption | intro _ | apply keeps_ite | refine keeps_same ?_ rfl rfl rfl)
      <;> try conv => arg 2; whnf)

theorem cqSignal_keeps {b0 : State} (n : Nat) (s : State) (h : Keeps b0 s) :
    Keeps b0 (cqSignal n s) := by
  unfold cqSignal
  with_reducible
    try conv => arg 2; whnf
    iterate 40 all_goals try ((
      first
        | assumption | intro _ | apply fireEvent_keeps | refine keeps_same ?_ rfl rfl rfl)
      <;> try conv => arg 2; whnf)

theorem cqModerate_keeps {b0 : State} (n : Nat) (s : State) (h : Keeps b0 s) :
    Keeps b0 (cqModerate n s) := by
  unfold cqModerate
  with_reducible
    try conv => arg 2; whnf
    iterate 40 all_goals try ((
      first
        | assumption | intro _ | apply cqSignal_keeps | apply keeps_ite | refine keeps_same ?_ rfl rfl rfl)
      <;> try conv => arg 2; whnf)

theorem cqPut_keeps {b0 : State} (n : Nat) (c : Compl) (s : State) (h : Keeps b0 s) :
    Keeps b0 (cqPut n c s) := by
  unfold cqPut
  with_reducible
    try conv => arg 2; whnf
    iterate 40 all_goals try ((
      first
        | assumption | intro _ | refine memWrite_wf _ _ _ ?_ | refine memWriteBytes_wf _ _ ?_
        | refine Memory.wf_filter _ ?_ | refine keeps_same ?_ rfl rfl rfl | refine keeps_mem ?_ rfl rfl rfl ?_)
      <;> try conv => arg 2; whnf)

theorem sendFrame_keeps {b0 : State} (port : Nat) (pair : Nat) (kind : OutKind) (body : List Nat) (s : State) (h : Keeps b0 s) :
    Keeps b0 (sendFrame port pair kind body s) := by
  unfold sendFrame
  with_reducible
    try conv => arg 2; whnf
    iterate 40 all_goals try ((
      first
        | assumption | intro _ | apply drawFree_keeps | apply emit_keeps | apply tcSend_keeps | apply keeps_ite
        | refine keeps_same ?_ rfl rfl rfl)
      <;> try conv => arg 2; whnf)

theorem sendData_keeps {b0 : State} (port : Nat) (n : Nat) (ofs : Nat) (len : Nat) (s : State) (h : Keeps b0 s) :
    Keeps b0 (sendData port n ofs len s) := by
  unfold sendData
  with_reducible
    try conv => arg 2; whnf
    iterate 40 all_goals try ((
      first
        | assumption | intro _ | apply sendFrame_keeps | apply keeps_foldl | refine memWrite_wf _ _ _ ?_
        | refine memWriteBytes_wf _ _ ?_ | refine Memory.wf_filter _ ?_)
      <;> try conv => arg 2; whnf)

theorem sendComplete_keeps {b0 : State} (n : Nat) (ctr : Nat) (s : State) (h : Keeps b0 s) :
    Keeps b0 (sendComplete n ctr s) := by
  unfold sendComplete
  with_reducible
    try conv => arg 2; whnf
    iterate 40 all_goals try ((
      first
        | assumption | intro _ | apply sendData_keeps | apply sendFrame_keeps | refine memWrite_wf _ _ _ ?_
        | refine memWriteBytes_wf _ _ ?_ | refine Memory.wf_filter _ ?_ | split | refine keeps_pair (by assumption) ?_
        | refine keeps_same ?_ rfl rfl rfl)
      <;> try conv => arg 2; whnf)

theorem cqWrite_keeps {b0 : State} (n : Nat) (c : Compl) (s : State) (h : Keeps b0 s) :
    Keeps b0 (cqWrite n c s) := by
  unfold cqWrite
  with_reducible
    try conv => arg 2; whnf
    iterate 40 all_goals try ((
      first
        | assumption | apply cqModerate_keeps | apply cqPut_keeps | apply sendComplete_keeps | apply keeps_ite)
      <;> try conv => arg 2; whnf)

theorem setV1_keeps {b0 : State} (s : State) (line : Nat) (f : V1 → V1) (hf : ∀ v, Memory.wf v.buf = true → Memory.wf (f v).buf = true) (h : Keeps b0 s) :
    Keeps b0 (setV1 s line f) := by
  unfold setV1
  split
  · exact ⟨h.pending, h.mem, fun k => hf _ (h.v1p k), h.v1s, h.now, h.ctr, h.out, h.gates, h.errs, h.fuses, h.low⟩
  · exact ⟨h.pending, h.mem, h.v1p, fun k => hf _ (h.v1s k), h.now, h.ctr, h.out, h.gates, h.errs, h.fuses, h.low⟩

theorem v1Write_keeps {b0 : State} (line : Nat) (c : Compl) (s : State) (h : Keeps b0 s) :
    Keeps b0 (v1Write line c s) := by
  unfold v1Write
  with_reducible
    try conv => arg 2; whnf
    iterate 40 all_goals try ((
      first
        | assumption | intro _ | apply fireEvent_keeps | apply setV1_keeps | apply keeps_ite
        | refine keeps_same ?_ rfl rfl rfl)
      <;> try conv => arg 2; whnf)

theorem deliver_keeps {b0 : State} (line : Nat) (c : Compl) (s : State) (h : Keeps b0 s) :
    Keeps b0 (deliver line c s) := by
  unfold deliver
  with_reducible
    try conv => arg 2; whnf
    iterate 40 all_goals try ((
      first
        | assumption | intro _ | apply cqWrite_keeps | apply setV1_keeps | apply v1Write_keeps | apply keeps_ite
        | refine keeps_same ?_ rfl rfl rfl)
      <;> try conv => arg 2; whnf)

theorem dropCmd_keeps {b0 : State} (s : State) (line : Nat) (seq : Nat) (slots : Nat) (h : Keeps b0 s) :
    Keeps b0 (dropCmd s line seq slots) := by
  unfold dropCmd
  with_reducible
    try conv => arg 2; whnf
    iterate 40 all_goals try ((
      first
        | assumption | intro _ | refine keeps_same ?_ rfl rfl rfl)
      <;> try conv => arg 2; whnf)

theorem writeResp_keeps {b0 : State} (c : Cmd) (bytes : List Nat) (s : State) (h : Keeps b0 s) :
    Keeps b0 (writeResp c bytes s) := by
  unfold writeResp
  with_reducible
    try conv => arg 2; whnf
    iterate 40 all_goals try ((
      first
        | assumption | intro _ | apply emit_keeps | apply setV1_keeps | apply keeps_ite | refine memWrite_wf _ _ _ ?_
        | refine memWriteBytes_wf _ _ ?_ | refine Memory.wf_filter _ ?_ | refine keeps_same ?_ rfl rfl rfl
        | refine keeps_mem ?_ rfl rfl rfl ?_)
      <;> try conv => arg 2; whnf)

theorem answerCmd_keeps {b0 : State} (c : Cmd) (a : Answer) (s : State) (h : Keeps b0 s) :
    Keeps b0 (answerCmd c a s) := by
  unfold answerCmd
  with_reducible
    try conv => arg 2; whnf
    iterate 40 all_goals try ((
      first
        | assumption | intro _ | apply countIgnored_keeps | apply deliver_keeps | apply dropCmd_keeps
        | apply setV1_keeps | apply writeResp_keeps | apply keeps_ite | refine keeps_same ?_ rfl rfl rfl)
      <;> try conv => arg 2; whnf)

theorem finishOne_keeps {b0 : State} (c : Cmd) (a : Answer) (s : State) (h : Keeps b0 s) :
    Keeps b0 (finishOne c a s) := by
  unfold finishOne
  with_reducible
    try conv => arg 2; whnf
    iterate 40 all_goals try ((
      first
        | assumption | apply answerCmd_keeps | apply lapseOwner_keeps | apply keeps_ite)
      <;> try conv => arg 2; whnf)

theorem discardCmd_keeps {b0 : State} (st : Nat) (detail : Nat) (s : State) (c : Cmd) (h : Keeps b0 s) :
    Keeps b0 (discardCmd st detail s c) := by
  unfold discardCmd
  with_reducible
    try conv => arg 2; whnf
    iterate 40 all_goals try ((
      first
        | assumption | apply finishOne_keeps)
      <;> try conv => arg 2; whnf)

theorem discardGo_keeps {b0 : State} (st : Nat) (detail : Nat) (line : Nat) (s : State) (h : Keeps b0 s) :
    Keeps b0 (discardGo st detail line s) := by
  unfold discardGo
  with_reducible
    try conv => arg 2; whnf
    iterate 40 all_goals try ((
      first
        | assumption | intro _ | apply deliver_keeps | apply setV1_keeps | apply keeps_ite
        | refine keeps_same ?_ rfl rfl rfl)
      <;> try conv => arg 2; whnf)

theorem discardQueued_keeps {b0 : State} (st : Nat) (detail : Nat) (n : Nat) (x0_ : Nat) (x1_ : State) (h : Keeps b0 x1_) :
    Keeps b0 (discardQueued st detail n x0_ x1_) := by
  induction x0_ generalizing x1_ with
  | zero => exact h
  | succ _ ih =>
    unfold discardQueued
    with_reducible
      try conv => arg 2; whnf
      iterate 40 all_goals try ((
        first
          | assumption | intro _ | apply ih | apply deliver_keeps | apply keeps_ite | refine keeps_same ?_ rfl rfl rfl)
        <;> try conv => arg 2; whnf)

theorem discardLines_keeps {b0 : State} (st : Nat) (detail : Nat) (sel : Nat → Bool) (s : State) (h : Keeps b0 s) :
    Keeps b0 (discardLines st detail sel s) := by
  unfold discardLines
  with_reducible
    try conv => arg 2; whnf
    iterate 40 all_goals try ((
      first
        | assumption | intro _ | apply discardCmd_keeps | apply discardGo_keeps | apply discardQueued_keeps
        | apply keeps_foldl | apply keeps_ite)
      <;> try conv => arg 2; whnf)

theorem discardAll_keeps {b0 : State} (st : Nat) (detail : Nat) (s : State) (h : Keeps b0 s) :
    Keeps b0 (discardAll st detail s) := by
  unfold discardAll
  with_reducible
    try conv => arg 2; whnf
    iterate 40 all_goals try ((
      first
        | assumption | apply discardLines_keeps)
      <;> try conv => arg 2; whnf)

theorem flushFailed_keeps {b0 : State} (line : Nat) (x0_ : Nat) (x1_ : State) (h : Keeps b0 x1_) :
    Keeps b0 (flushFailed line x0_ x1_) := by
  induction x0_ generalizing x1_ with
  | zero => exact h
  | succ _ ih =>
    unfold flushFailed
    with_reducible
      try conv => arg 2; whnf
      iterate 40 all_goals try ((
        first
          | assumption | intro _ | apply ih | apply finishOne_keeps | split | refine keeps_pair (by assumption) ?_
          | refine keeps_same ?_ rfl rfl rfl)
        <;> try conv => arg 2; whnf)

theorem flushAll_keeps {b0 : State} (s : State) (h : Keeps b0 s) :
    Keeps b0 (flushAll s) := by
  unfold flushAll
  with_reducible
    try conv => arg 2; whnf
    iterate 40 all_goals try ((
      first
        | assumption | intro _ | apply flushFailed_keeps | apply keeps_foldl)
      <;> try conv => arg 2; whnf)

theorem finish_keeps {b0 : State} (c : Cmd) (a : Answer) (s : State) (h : Keeps b0 s) :
    Keeps b0 (finish c a s) := by
  unfold finish
  with_reducible
    try conv => arg 2; whnf
    iterate 40 all_goals try ((
      first
        | assumption | apply finishOne_keeps | apply flushAll_keeps)
      <;> try conv => arg 2; whnf)

theorem finishAccepted_keeps {b0 : State} (line : Nat) (seq : Nat) (a : Answer) (s : State) (h : Keeps b0 s) :
    Keeps b0 (finishAccepted line seq a s) := by
  unfold finishAccepted
  with_reducible
    try conv => arg 2; whnf
    iterate 40 all_goals try ((
      first
        | assumption | intro _ | apply finish_keeps | apply keeps_ite | split | refine keeps_pair (by assumption) ?_
        | refine keeps_same ?_ rfl rfl rfl)
      <;> try conv => arg 2; whnf)

theorem doneOut_keeps {b0 : State} (c : Cmd) (result : List Nat) (resp : List Nat) (s : State) (h : Keeps b0 s) :
    Keeps b0 (doneOut c result resp s) := by
  unfold doneOut
  with_reducible
    try conv => arg 2; whnf
    iterate 40 all_goals try ((
      first
        | assumption | apply finish_keeps)
      <;> try conv => arg 2; whnf)

theorem runCmd_keeps {b0 : State} (line : Nat) (seq : Nat) (op : Nat) (illegal : Cmd → State → Bool) (body : Cmd → State → State) (s : State) (hbody : ∀ c x, Keeps b0 x → Keeps b0 (body c x)) (h : Keeps b0 s) :
    Keeps b0 (runCmd line seq op illegal body s) := by
  unfold runCmd
  with_reducible
    try conv => arg 2; whnf
    iterate 40 all_goals try ((
      first
        | assumption | intro _ | apply finish_keeps | apply hbody | apply keeps_ite | split
        | refine keeps_pair (by assumption) ?_ | refine keeps_same ?_ rfl rfl rfl)
      <;> try conv => arg 2; whnf)

theorem rejectRange_keeps {b0 : State} (c : Cmd) (ofs : Nat) (s : State) (h : Keeps b0 s) :
    Keeps b0 (rejectRange c ofs s) := by
  unfold rejectRange
  with_reducible
    try conv => arg 2; whnf
    iterate 40 all_goals try ((
      first
        | assumption | apply finish_keeps)
      <;> try conv => arg 2; whnf)

theorem done_keeps {b0 : State} (c : Cmd) (result : List Nat) (s : State) (h : Keeps b0 s) :
    Keeps b0 (done c result s) := by
  unfold done
  with_reducible
    try conv => arg 2; whnf
    iterate 40 all_goals try ((
      first
        | assumption | apply finish_keeps)
      <;> try conv => arg 2; whnf)

theorem rejectFormat_keeps {b0 : State} (c : Cmd) (ofs : Nat) (s : State) (h : Keeps b0 s) :
    Keeps b0 (rejectFormat c ofs s) := by
  unfold rejectFormat
  with_reducible
    try conv => arg 2; whnf
    iterate 40 all_goals try ((
      first
        | assumption | apply finish_keeps)
      <;> try conv => arg 2; whnf)

theorem rejectIllegal_keeps {b0 : State} (c : Cmd) (s : State) (h : Keeps b0 s) :
    Keeps b0 (rejectIllegal c s) := by
  unfold rejectIllegal
  with_reducible
    try conv => arg 2; whnf
    iterate 40 all_goals try ((
      first
        | assumption | apply finish_keeps)
      <;> try conv => arg 2; whnf)

theorem accept_keeps {b0 : State} (c : Cmd) (result : List Nat) (s : State) (h : Keeps b0 s) :
    Keeps b0 (accept c result s) := by
  unfold accept
  with_reducible
    try conv => arg 2; whnf
    iterate 40 all_goals try ((
      first
        | assumption | intro _ | apply deliver_keeps | apply flushFailed_keeps | apply setV1_keeps | apply keeps_ite
        | refine keeps_same ?_ rfl rfl rfl)
      <;> try conv => arg 2; whnf)

theorem rejectAuth_keeps {b0 : State} (c : Cmd) (ofs : Nat) (s : State) (h : Keeps b0 s) :
    Keeps b0 (rejectAuth c ofs s) := by
  unfold rejectAuth
  with_reducible
    try conv => arg 2; whnf
    iterate 40 all_goals try ((
      first
        | assumption | apply finish_keeps)
      <;> try conv => arg 2; whnf)

theorem mbxErr_keeps {b0 : State} (pair : Nat) (f : Mbx → Mbx) (s : State) (hf : ∀ m, (f m).v1p.buf = m.v1p.buf ∧ (f m).v1s.buf = m.v1s.buf) (h : Keeps b0 s) :
    Keeps b0 (mbxErr pair f s) := by
  unfold mbxErr
  apply fireEvent_keeps
  exact keeps_same h (hf _).1 (hf _).2 rfl

theorem flushOwed_keeps {b0 : State} (n : Nat) (x0_ : Nat) (x1_ : State) (h : Keeps b0 x1_) :
    Keeps b0 (flushOwed n x0_ x1_) := by
  induction x0_ generalizing x1_ with
  | zero => exact h
  | succ _ ih =>
    unfold flushOwed
    with_reducible
      try conv => arg 2; whnf
      iterate 40 all_goals try ((
        first
          | assumption | intro _ | apply ih | apply cqWrite_keeps | apply keeps_ite | split
          | refine keeps_pair (by assumption) ?_ | refine keeps_same ?_ rfl rfl rfl)
        <;> try conv => arg 2; whnf)

theorem takeEntry_keeps {b0 : State} (line : Nat) (host : List Nat) (poisoned : Bool) (s : State) (h : Keeps b0 s) :
    Keeps b0 (takeEntry line host poisoned s) := by
  unfold takeEntry
  with_reducible
    try conv => arg 2; whnf
    iterate 40 all_goals try ((
      first
        | assumption | intro _ | apply flushFailed_keeps | apply setV1_keeps | apply keeps_ite
        | refine keeps_same ?_ rfl rfl rfl)
      <;> try conv => arg 2; whnf)

/-! ### Legal.lean -/

/-- A fold over a state with a value beside it. -/
theorem keeps_foldl_fst {α β : Type} {b0 : State} {l : List α} {f : State × β → α → State × β} {p : State × β} (h : Keeps b0 p.1)
    (k : ∀ q a, Keeps b0 q.1 → Keeps b0 (f q a).1) : Keeps b0 (l.foldl f p).1 := by
  induction l generalizing p with
  | nil => exact h
  | cons a l ih => exact ih (k _ _ h)

theorem addTariff1_keeps {b0 : State} (s : State) (n : Nat) (h : Keeps b0 s) :
    Keeps b0 (addTariff1 s n) := by
  unfold addTariff1
  with_reducible
    try conv => arg 2; whnf
    iterate 40 all_goals try ((
      first
        | assumption | intro _ | apply keeps_ite | refine keeps_same ?_ rfl rfl rfl)
      <;> try conv => arg 2; whnf)

theorem addTariff_keeps {b0 : State} (s : State) (h : Keeps b0 s) :
    Keeps b0 (addTariff s) := by
  unfold addTariff
  with_reducible
    try conv => arg 2; whnf
    iterate 40 all_goals try ((
      first
        | assumption | intro _ | apply addTariff1_keeps | apply keeps_foldl | refine keeps_same ?_ rfl rfl rfl)
      <;> try conv => arg 2; whnf)

theorem publish_keeps {b0 : State} (code : Nat) (cls : Nat) (arg : Nat) (s : State) (h : Keeps b0 s) :
    Keeps b0 (publish code cls arg s) := by
  unfold publish
  with_reducible
    try conv => arg 2; whnf
    iterate 40 all_goals try ((
      first
        | assumption | intro _ | refine keeps_same ?_ rfl rfl rfl)
      <;> try conv => arg 2; whnf)

theorem logFails_keeps {b0 : State} (s : State) (h : Keeps b0 s) :
    Keeps b0 (logFails s) := by
  unfold logFails
  with_reducible
    try conv => arg 2; whnf
    iterate 40 all_goals try ((
      first
        | assumption | intro _ | apply publish_keeps | apply keeps_ite | refine keeps_same ?_ rfl rfl rfl)
      <;> try conv => arg 2; whnf)

theorem checkLogFull_keeps {b0 : State} (s : State) (h : Keeps b0 s) :
    Keeps b0 (checkLogFull s) := by
  unfold checkLogFull
  with_reducible
    try conv => arg 2; whnf
    iterate 40 all_goals try ((
      first
        | assumption | intro _ | apply publish_keeps | apply keeps_ite | refine keeps_same ?_ rfl rfl rfl)
      <;> try conv => arg 2; whnf)

theorem writeLogHeader_keeps {b0 : State} (s : State) (h : Keeps b0 s) :
    Keeps b0 (writeLogHeader s) := by
  unfold writeLogHeader
  with_reducible
    try conv => arg 2; whnf
    iterate 40 all_goals try ((
      first
        | assumption | intro _ | refine memWrite_wf _ _ _ ?_ | refine memWriteBytes_wf _ _ ?_
        | refine Memory.wf_filter _ ?_ | split | refine keeps_pair (by assumption) ?_
        | refine keeps_same ?_ rfl rfl rfl | refine keeps_mem ?_ rfl rfl rfl ?_)
      <;> try conv => arg 2; whnf)

theorem placeRecord_keeps {b0 : State} (lseq : Nat) (ltime : Nat) (bs : List Nat) (s : State) (h : Keeps b0 s) :
    Keeps b0 (placeRecord lseq ltime bs s) := by
  unfold placeRecord
  with_reducible
    try conv => arg 2; whnf
    iterate 40 all_goals try ((
      first
        | assumption | intro _ | apply checkLogFull_keeps | apply writeLogHeader_keeps | apply keeps_ite
        | refine memWrite_wf _ _ _ ?_ | refine memWriteBytes_wf _ _ ?_ | refine Memory.wf_filter _ ?_
        | refine keeps_same ?_ rfl rfl rfl | refine keeps_mem ?_ rfl rfl rfl ?_)
      <;> try conv => arg 2; whnf)

theorem ringPut_keeps {b0 : State} (typ : Nat) (flags : Nat) (ltime : Nat) (body : List Nat) (s : State) (h : Keeps b0 s) :
    Keeps b0 (ringPut typ flags ltime body s) := by
  unfold ringPut
  with_reducible
    try conv => arg 2; whnf
    iterate 40 all_goals try ((
      first
        | assumption | intro _ | apply logFails_keeps | apply placeRecord_keeps | apply keeps_ite
        | refine keeps_same ?_ rfl rfl rfl)
      <;> try conv => arg 2; whnf)

theorem ringAppend_keeps {b0 : State} (typ : Nat) (flags : Nat) (ltime : Nat) (body : List Nat) (s : State) (h : Keeps b0 s) :
    Keeps b0 (ringAppend typ flags ltime body s) := by
  unfold ringAppend
  with_reducible
    try conv => arg 2; whnf
    iterate 40 all_goals try ((
      first
        | assumption | apply ringPut_keeps | apply keeps_ite)
      <;> try conv => arg 2; whnf)

theorem closeLegal_keeps {b0 : State} (n : Nat) (stop : Nat) (extra : Nat) (loss : Nat) (s : State) (h : Keeps b0 s) :
    Keeps b0 (closeLegal n stop extra loss s) := by
  unfold closeLegal
  with_reducible
    try conv => arg 2; whnf
    iterate 40 all_goals try ((
      first
        | assumption | intro _ | apply addTariff_keeps | apply drawFree_keeps | apply ringAppend_keeps | split
        | refine keeps_pair (by assumption) ?_ | refine keeps_same ?_ rfl rfl rfl)
      <;> try conv => arg 2; whnf)

theorem closeAllLegal_keeps {b0 : State} (stop : Nat) (extra : Nat) (s : State) (h : Keeps b0 s) :
    Keeps b0 (closeAllLegal stop extra s) := by
  unfold closeAllLegal
  with_reducible
    try conv => arg 2; whnf
    iterate 40 all_goals try ((
      first
        | assumption | intro _ | apply closeLegal_keeps | apply keeps_foldl | split
        | refine keeps_pair (by assumption) ?_ | refine keeps_same ?_ rfl rfl rfl)
      <;> try conv => arg 2; whnf)

theorem lglRequest_keeps {b0 : State} (r : LglReq) (s : State) (h : Keeps b0 s) :
    Keeps b0 (lglRequest r s) := by
  unfold lglRequest
  with_reducible
    try conv => arg 2; whnf
    iterate 40 all_goals try ((
      first
        | assumption | intro _ | refine keeps_same ?_ rfl rfl rfl)
      <;> try conv => arg 2; whnf)

theorem legalUpdate_keeps {b0 : State} (s : State) (h : Keeps b0 s) :
    Keeps b0 (legalUpdate s) := by
  unfold legalUpdate
  with_reducible
    try conv => arg 2; whnf
    iterate 40 all_goals try ((
      first
        | assumption | intro _ | apply publish_keeps | apply keeps_ite | refine keeps_same ?_ rfl rfl rfl)
      <;> try conv => arg 2; whnf)

theorem lglEvent_keeps {b0 : State} (code : Nat) (data : List Nat) (s : State) (h : Keeps b0 s) :
    Keeps b0 (lglEvent code data s) := by
  unfold lglEvent
  with_reducible
    try conv => arg 2; whnf
    iterate 40 all_goals try ((
      first
        | assumption | apply ringAppend_keeps)
      <;> try conv => arg 2; whnf)

theorem activateCalendar_keeps {b0 : State} (s : State) (h : Keeps b0 s) :
    Keeps b0 (activateCalendar s) := by
  unfold activateCalendar
  with_reducible
    try conv => arg 2; whnf
    iterate 40 all_goals try ((
      first
        | assumption | intro _ | apply lglEvent_keeps | refine memWrite_wf _ _ _ ?_ | refine memWriteBytes_wf _ _ ?_
        | refine Memory.wf_filter _ ?_ | split | refine keeps_pair (by assumption) ?_
        | refine keeps_same ?_ rfl rfl rfl | refine keeps_mem ?_ rfl rfl rfl ?_)
      <;> try conv => arg 2; whnf)

theorem calInForce_keeps {b0 : State} (s : State) (h : Keeps b0 s) :
    Keeps b0 (calInForce s) := by
  unfold calInForce
  with_reducible
    try conv => arg 2; whnf
    iterate 40 all_goals try ((
      first
        | assumption | intro _ | apply drawFree_keeps | apply finishAccepted_keeps | apply fireEvent_keeps
        | apply lglEvent_keeps | split | refine keeps_pair (by assumption) ?_ | refine keeps_same ?_ rfl rfl rfl)
      <;> try conv => arg 2; whnf)

theorem closeInterval_keeps {b0 : State} (flags : Nat) (recovered : Bool) (endL : Nat) (s : State) (h : Keeps b0 s) :
    Keeps b0 (closeInterval flags recovered endL s) := by
  unfold closeInterval
  with_reducible
    try conv => arg 2; whnf
    iterate 40 all_goals try ((
      first
        | assumption | apply ringAppend_keeps)
      <;> try conv => arg 2; whnf)

theorem openInterval_keeps {b0 : State} (flags : Nat) (ltime : Nat) (s : State) (h : Keeps b0 s) :
    Keeps b0 (openInterval flags ltime s) := by
  unfold openInterval
  with_reducible
    try conv => arg 2; whnf
    iterate 40 all_goals try ((
      first
        | assumption | intro _ | refine keeps_same ?_ rfl rfl rfl)
      <;> try conv => arg 2; whnf)

theorem rebase_keeps {b0 : State} (s : State) (h : Keeps b0 s) :
    Keeps b0 (rebase s) := by
  unfold rebase
  with_reducible
    try conv => arg 2; whnf
    iterate 40 all_goals try ((
      first
        | assumption | intro _ | refine keeps_same ?_ rfl rfl rfl)
      <;> try conv => arg 2; whnf)

theorem doBoundary_keeps {b0 : State} (c : BCauses) (recovered : Bool) (ltime : Nat) (s0 : State) (h : Keeps b0 s0) :
    Keeps b0 (doBoundary c recovered ltime s0) := by
  unfold doBoundary
  with_reducible
    try conv => arg 2; whnf
    iterate 40 all_goals try ((
      first
        | assumption | intro _ | apply activateCalendar_keeps | apply addTariff_keeps | apply calInForce_keeps
        | apply closeInterval_keeps | apply lglEvent_keeps | apply openInterval_keeps | apply publish_keeps
        | apply rebase_keeps | apply ringAppend_keeps | apply keeps_ite | split | refine keeps_pair (by assumption) ?_
        | refine keeps_same ?_ rfl rfl rfl)
      <;> try conv => arg 2; whnf)

theorem writeKept_keeps {b0 : State} (s : State) (h : Keeps b0 s) :
    Keeps b0 (writeKept s) := by
  unfold writeKept
  refine keeps_same (keeps_foldl_fst h fun q a hq => ?_) rfl rfl rfl
  split
  · exact placeRecord_keeps _ _ _ _ hq
  · exact hq

theorem runBoundary_keeps {b0 : State} (powerFail : Bool) (recovered : Bool) (s : State) (h : Keeps b0 s) :
    Keeps b0 (runBoundary powerFail recovered s) := by
  unfold runBoundary
  with_reducible
    try conv => arg 2; whnf
    iterate 40 all_goals try ((
      first
        | assumption | intro _ | apply doBoundary_keeps | apply keeps_ite | refine keeps_same ?_ rfl rfl rfl)
      <;> try conv => arg 2; whnf)

theorem openLegal_keeps {b0 : State} (n : Nat) (proto : Nat) (s : State) (h : Keeps b0 s) :
    Keeps b0 (openLegal n proto s) := by
  unfold openLegal
  with_reducible
    try conv => arg 2; whnf
    iterate 40 all_goals try ((
      first
        | assumption | intro _ | apply keeps_ite | refine keeps_same ?_ rfl rfl rfl)
      <;> try conv => arg 2; whnf)

theorem emergencySave_keeps {b0 : State} (s : State) (h : Keeps b0 s) :
    Keeps b0 (emergencySave s) := by
  unfold emergencySave
  with_reducible
    try conv => arg 2; whnf
    iterate 40 all_goals try ((
      first
        | assumption | intro _ | apply writeLogHeader_keeps | refine memWrite_wf _ _ _ ?_
        | refine memWriteBytes_wf _ _ ?_ | refine Memory.wf_filter _ ?_ | refine keeps_same ?_ rfl rfl rfl
        | refine keeps_mem ?_ rfl rfl rfl ?_)
      <;> try conv => arg 2; whnf)

theorem periodicSave_keeps {b0 : State} (s : State) (h : Keeps b0 s) :
    Keeps b0 (periodicSave s) := by
  unfold periodicSave
  with_reducible
    try conv => arg 2; whnf
    iterate 40 all_goals try ((
      first
        | assumption | intro _ | apply writeLogHeader_keeps | refine memWrite_wf _ _ _ ?_
        | refine memWriteBytes_wf _ _ ?_ | refine Memory.wf_filter _ ?_ | refine keeps_same ?_ rfl rfl rfl
        | refine keeps_mem ?_ rfl rfl rfl ?_)
      <;> try conv => arg 2; whnf)

/-! ### Switch.lean -/

theorem keepHtr_keeps {b0 : State} (n : Nat) (v : Bool) (s : State) (h : Keeps b0 s) :
    Keeps b0 (keepHtr n v s) := by
  unfold keepHtr
  with_reducible
    try conv => arg 2; whnf
    iterate 40 all_goals try ((
      first
        | assumption | intro _ | apply keeps_ite | refine keeps_same ?_ rfl rfl rfl)
      <;> try conv => arg 2; whnf)

theorem mirrorLoad_keeps {b0 : State} (before : State) (s : State) (h : Keeps b0 s) :
    Keeps b0 (mirrorLoad before s) := by
  unfold mirrorLoad
  with_reducible
    try conv => arg 2; whnf
    iterate 40 all_goals try ((
      first
        | assumption | apply mirrorSend_keeps | apply keeps_ite)
      <;> try conv => arg 2; whnf)

theorem setCh_keeps {b0 : State} (n : Nat) (f : LswCh → LswCh) (s : State) (h : Keeps b0 s) :
    Keeps b0 (setCh n f s) := by
  unfold setCh
  with_reducible
    try conv => arg 2; whnf
    iterate 40 all_goals try ((
      first
        | assumption | intro _ | refine keeps_same ?_ rfl rfl rfl)
      <;> try conv => arg 2; whnf)

theorem turnOff_keeps {b0 : State} (n : Nat) (s : State) (h : Keeps b0 s) :
    Keeps b0 (turnOff n s) := by
  unfold turnOff
  with_reducible
    try conv => arg 2; whnf
    iterate 40 all_goals try ((
      first
        | assumption | intro _ | apply setCh_keeps | refine keeps_same ?_ rfl rfl rfl)
      <;> try conv => arg 2; whnf)

theorem turnOn_keeps {b0 : State} (n : Nat) (s : State) (h : Keeps b0 s) :
    Keeps b0 (turnOn n s) := by
  unfold turnOn
  with_reducible
    try conv => arg 2; whnf
    iterate 40 all_goals try ((
      first
        | assumption | intro _ | apply setCh_keeps | refine keeps_same ?_ rfl rfl rfl)
      <;> try conv => arg 2; whnf)

theorem lswDrive_keeps {b0 : State} (n : Nat) (v : Bool) (s : State) (h : Keeps b0 s) :
    Keeps b0 (lswDrive n v s) := by
  unfold lswDrive
  with_reducible
    try conv => arg 2; whnf
    iterate 40 all_goals try ((
      first
        | assumption | intro _ | apply keepHtr_keeps | apply mirrorLoad_keeps | apply setCh_keeps
        | apply turnOff_keeps | apply turnOn_keeps | apply keeps_ite | refine keeps_same ?_ rfl rfl rfl)
      <;> try conv => arg 2; whnf)

theorem setOut_keeps {b0 : State} (n : Nat) (f : PwmOut → PwmOut) (s : State) (h : Keeps b0 s) :
    Keeps b0 (setOut n f s) := by
  unfold setOut
  with_reducible
    try conv => arg 2; whnf
    iterate 40 all_goals try ((
      first
        | assumption | intro _ | refine keeps_same ?_ rfl rfl rfl | refine keeps_out ?_ rfl rfl rfl)
      <;> try conv => arg 2; whnf)

theorem ctrDrive_keeps {b0 : State} (n : Nat) (v : Bool) (s : State) (h : Keeps b0 s) :
    Keeps b0 (ctrDrive n v s) := by
  unfold ctrDrive
  with_reducible
    try conv => arg 2; whnf
    iterate 40 all_goals try ((
      first
        | assumption | intro _ | apply lswDrive_keeps | apply setOut_keeps | refine keeps_same ?_ rfl rfl rfl)
      <;> try conv => arg 2; whnf)

theorem mxpDrive_keeps {b0 : State} (k : Nat) (v : Bool) (s : State) (h : Keeps b0 s) :
    Keeps b0 (mxpDrive k v s) := by
  unfold mxpDrive
  with_reducible
    try conv => arg 2; whnf
    iterate 40 all_goals try ((
      first
        | assumption | intro _ | apply mirrorLoad_keeps | apply keeps_ite | refine keeps_same ?_ rfl rfl rfl)
      <;> try conv => arg 2; whnf)

theorem setPg_keeps {b0 : State} (g : Nat) (f : PwmPg → PwmPg) (s : State) (h : Keeps b0 s) :
    Keeps b0 (setPg g f s) := by
  unfold setPg
  with_reducible
    try conv => arg 2; whnf
    iterate 40 all_goals try ((
      first
        | assumption | intro _ | refine keeps_same ?_ rfl rfl rfl)
      <;> try conv => arg 2; whnf)

theorem mtxDrive_keeps {b0 : State} (g : Nat) (n : Nat) (v : Bool) (s : State) (h : Keeps b0 s) :
    Keeps b0 (mtxDrive g n v s) := by
  unfold mtxDrive
  with_reducible
    try conv => arg 2; whnf
    iterate 40 all_goals try ((
      first
        | assumption | intro _ | apply mxpDrive_keeps | apply setPg_keeps | refine keeps_same ?_ rfl rfl rfl)
      <;> try conv => arg 2; whnf)

/-! ### Target.lean -/

theorem abortShed_keeps {b0 : State} (n : Nat) (s : State) (h : Keeps b0 s) :
    Keeps b0 (abortShed n s) := by
  unfold abortShed
  with_reducible
    try conv => arg 2; whnf
    iterate 40 all_goals try ((
      first
        | assumption | intro _ | apply fireEvent_keeps | refine keeps_same ?_ rfl rfl rfl)
      <;> try conv => arg 2; whnf)

theorem checkShed_keeps {b0 : State} (n : Nat) (s : State) (h : Keeps b0 s) :
    Keeps b0 (checkShed n s) := by
  unfold checkShed
  with_reducible
    try conv => arg 2; whnf
    iterate 40 all_goals try ((
      first
        | assumption | intro _ | apply abortShed_keeps | apply keeps_ite | split
        | refine keeps_pair (by assumption) ?_ | refine keeps_same ?_ rfl rfl rfl)
      <;> try conv => arg 2; whnf)

theorem drawFloat_keeps {b0 : State} (n : Nat) (s : State) (h : Keeps b0 s) :
    Keeps b0 (drawFloat n s) := by
  unfold drawFloat
  with_reducible
    try conv => arg 2; whnf
    iterate 40 all_goals try ((
      first
        | assumption | intro _ | refine keeps_same ?_ rfl rfl rfl)
      <;> try conv => arg 2; whnf)

theorem scaleShares_keeps {b0 : State} (n : Nat) (old : Nat) (new : Nat) (s : State) (h : Keeps b0 s) :
    Keeps b0 (scaleShares n old new s) := by
  unfold scaleShares
  with_reducible
    try conv => arg 2; whnf
    iterate 40 all_goals try ((
      first
        | assumption | intro _ | apply keeps_ite | refine keeps_same ?_ rfl rfl rfl)
      <;> try conv => arg 2; whnf)

theorem recompute_keeps {b0 : State} (n : Nat) (s : State) (h : Keeps b0 s) :
    Keeps b0 (recompute n s) := by
  unfold recompute
  with_reducible
    try conv => arg 2; whnf
    iterate 40 all_goals try ((
      first
        | assumption | intro _ | apply checkShed_keeps | apply drawFloat_keeps | apply scaleShares_keeps
        | apply keeps_ite | refine keeps_same ?_ rfl rfl rfl)
      <;> try conv => arg 2; whnf)

theorem postRequest_keeps {b0 : State} (n : Nat) (ma : Nat) (s : State) (h : Keeps b0 s) :
    Keeps b0 (postRequest n ma s) := by
  unfold postRequest
  with_reducible
    try conv => arg 2; whnf
    iterate 40 all_goals try ((
      first
        | assumption | intro _ | apply recompute_keeps | refine keeps_same ?_ rfl rfl rfl)
      <;> try conv => arg 2; whnf)

theorem postCap_keeps {b0 : State} (n : Nat) (ma : Nat) (s : State) (h : Keeps b0 s) :
    Keeps b0 (postCap n ma s) := by
  unfold postCap
  with_reducible
    try conv => arg 2; whnf
    iterate 40 all_goals try ((
      first
        | assumption | intro _ | apply recompute_keeps | refine keeps_same ?_ rfl rfl rfl)
      <;> try conv => arg 2; whnf)

theorem recomputeAll_keeps {b0 : State} (s : State) (h : Keeps b0 s) :
    Keeps b0 (recomputeAll s) := by
  unfold recomputeAll
  with_reducible
    try conv => arg 2; whnf
    iterate 40 all_goals try ((
      first
        | assumption | intro _ | apply recompute_keeps | apply keeps_foldl)
      <;> try conv => arg 2; whnf)

theorem ndPut_keeps {b0 : State} (f : Fld) (v : Nat) (s : State) (h : Keeps b0 s) :
    Keeps b0 (ndPut f v s) := by
  unfold ndPut
  with_reducible
    try conv => arg 2; whnf
    iterate 40 all_goals try ((
      first
        | assumption | apply ramPut_keeps)
      <;> try conv => arg 2; whnf)

theorem splitGrant_keeps {b0 : State} (s : State) (h : Keeps b0 s) :
    Keeps b0 (splitGrant s) := by
  unfold splitGrant
  with_reducible
    try conv => arg 2; whnf
    iterate 40 all_goals try ((
      first
        | assumption | intro _ | apply ndPut_keeps | apply recomputeAll_keeps | apply keeps_foldl | apply keeps_ite
        | refine keeps_same ?_ rfl rfl rfl)
      <;> try conv => arg 2; whnf)

theorem resplit_keeps {b0 : State} (s : State) (h : Keeps b0 s) :
    Keeps b0 (resplit s) := by
  unfold resplit
  with_reducible
    try conv => arg 2; whnf
    iterate 40 all_goals try ((
      first
        | assumption | apply splitGrant_keeps | apply keeps_ite)
      <;> try conv => arg 2; whnf)

/-! ### Stop.lean -/

theorem gateLow_keeps {b0 : State} (s : State) (h : Keeps b0 s) : Keeps b0 (gateLow s) :=
  ⟨h.pending, h.mem, h.v1p, h.v1s, h.now, h.ctr, h.out, fun _ => .inr rfl, h.errs, h.fuses, fun _ => rfl⟩

theorem keeperReset_keeps {b0 : State} (s : State) (h : Keeps b0 s) :
    Keeps b0 (keeperReset s) := by
  unfold keeperReset
  with_reducible
    try conv => arg 2; whnf
    iterate 40 all_goals try ((
      first
        | assumption | intro _ | apply gateLow_keeps | apply keeps_ite | refine keeps_same ?_ rfl rfl rfl)
      <;> try conv => arg 2; whnf)

theorem stopClaim_keeps {b0 : State} (s : State) (h : Keeps b0 s) :
    Keeps b0 (stopClaim s) := by
  unfold stopClaim
  with_reducible
    try conv => arg 2; whnf
    iterate 40 all_goals try ((
      first
        | assumption | intro _ | apply emit_keeps | apply keeps_ite | refine keeps_same ?_ rfl rfl rfl)
      <;> try conv => arg 2; whnf)

theorem resetBlocks_keeps {b0 : State} (keepLegal : Bool) (powerOn : Bool) (s : State) (h : Keeps b0 s) :
    Keeps b0 (resetBlocks keepLegal powerOn s) := by
  unfold resetBlocks
  with_reducible
    try conv => arg 2; whnf
    iterate 40 all_goals try ((
      first
        | assumption | intro _ | apply closeAllLegal_keeps | apply stopClaim_keeps | apply keeps_ite
        | refine memWrite_wf _ _ _ ?_ | refine memWriteBytes_wf _ _ ?_ | refine Memory.wf_filter _ ?_
        | refine keeps_same ?_ rfl rfl rfl | refine keeps_mem ?_ rfl rfl rfl ?_)
      <;> try conv => arg 2; whnf)

theorem cancelTracking_keeps {b0 : State} (g : Nat) (s : State) (h : Keeps b0 s) :
    Keeps b0 (cancelTracking g s) := by
  unfold cancelTracking
  with_reducible
    try conv => arg 2; whnf
    iterate 40 all_goals try ((
      first
        | assumption | intro _ | apply ctrDrive_keeps | apply mtxDrive_keeps | apply setPg_keeps | apply keeps_ite
        | split | refine keeps_pair (by assumption) ?_ | refine keeps_same ?_ rfl rfl rfl)
      <;> try conv => arg 2; whnf)

theorem dropGate_keeps {b0 : State} (s : State) (h : Keeps b0 s) :
    Keeps b0 (dropGate s) := by
  unfold dropGate
  with_reducible
    try conv => arg 2; whnf
    iterate 40 all_goals try ((
      first
        | assumption | intro _ | apply cancelTracking_keeps | apply gateLow_keeps | apply keeps_foldl
        | apply keeps_ite | refine keeps_same ?_ rfl rfl rfl)
      <;> try conv => arg 2; whnf)

theorem chipSend_keeps {b0 : State} (n : Nat) (bytes : List Nat) (s : State) (h : Keeps b0 s) :
    Keeps b0 (chipSend n bytes s) := by
  unfold chipSend
  with_reducible
    try conv => arg 2; whnf
    iterate 40 all_goals try ((
      first
        | assumption | apply emit_keeps)
      <;> try conv => arg 2; whnf)

theorem lifeBegin_keeps {b0 : State} (n : Nat) (s : State) (h : Keeps b0 s) :
    Keeps b0 (lifeBegin n s) := by
  unfold lifeBegin
  with_reducible
    try conv => arg 2; whnf
    iterate 40 all_goals try ((
      first
        | assumption | intro _ | apply chipSend_keeps | apply keeps_foldl | apply keeps_ite
        | refine keeps_same ?_ rfl rfl rfl)
      <;> try conv => arg 2; whnf)

theorem sessEnter_keeps {b0 : State} (n : Nat) (st : Nat) (s : State) (h : Keeps b0 s) :
    Keeps b0 (sessEnter n st s) := by
  unfold sessEnter
  with_reducible
    try conv => arg 2; whnf
    iterate 40 all_goals try ((
      first
        | assumption | intro _ | apply fireEvent_keeps | apply lglRequest_keeps | apply lifeBegin_keeps
        | apply keeps_ite | refine keeps_same ?_ rfl rfl rfl)
      <;> try conv => arg 2; whnf)

theorem ctrOpened_keeps {b0 : State} (n : Nat) (s : State) (h : Keeps b0 s) :
    Keeps b0 (ctrOpened n s) := by
  unfold ctrOpened
  with_reducible
    try conv => arg 2; whnf
    iterate 40 all_goals try ((
      first
        | assumption | intro _ | apply recompute_keeps | apply sessEnter_keeps | apply setOut_keeps | apply keeps_ite
        | refine keeps_same ?_ rfl rfl rfl)
      <;> try conv => arg 2; whnf)

theorem openOut_keeps {b0 : State} (n : Nat) (s : State) (h : Keeps b0 s) :
    Keeps b0 (openOut n s) := by
  unfold openOut
  with_reducible
    try conv => arg 2; whnf
    iterate 40 all_goals try ((
      first
        | assumption | intro _ | apply ctrDrive_keeps | apply ctrOpened_keeps | apply fireEvent_keeps
        | apply setOut_keeps | apply keeps_ite | refine keeps_same ?_ rfl rfl rfl)
      <;> try conv => arg 2; whnf)

theorem sessUnlockOrEnd_keeps {b0 : State} (n : Nat) (s : State) (h : Keeps b0 s) :
    Keeps b0 (sessUnlockOrEnd n s) := by
  unfold sessUnlockOrEnd
  with_reducible
    try conv => arg 2; whnf
    iterate 40 all_goals try ((
      first
        | assumption | apply sessEnter_keeps | apply keeps_ite)
      <;> try conv => arg 2; whnf)

theorem groupLegsStop_keeps {b0 : State} (g : Nat) (s : State) (h : Keeps b0 s) :
    Keeps b0 (groupLegsStop g s) := by
  unfold groupLegsStop
  with_reducible
    try conv => arg 2; whnf
    iterate 40 all_goals try ((
      first
        | assumption | intro _ | apply keeps_ite | refine keeps_same ?_ rfl rfl rfl)
      <;> try conv => arg 2; whnf)

theorem endTracking_keeps {b0 : State} (n : Nat) (s : State) (h : Keeps b0 s) :
    Keeps b0 (endTracking n s) := by
  unfold endTracking
  with_reducible
    try conv => arg 2; whnf
    iterate 40 all_goals try ((
      first
        | assumption | intro _ | apply cancelTracking_keeps | apply groupLegsStop_keeps | apply setOut_keeps
        | apply keeps_foldl | refine keeps_same ?_ rfl rfl rfl)
      <;> try conv => arg 2; whnf)

theorem startOpening_keeps {b0 : State} (c : CtrRef) (s : State) (h : Keeps b0 s) :
    Keeps b0 (startOpening c s) := by
  unfold startOpening
  with_reducible
    try conv => arg 2; whnf
    iterate 40 all_goals try ((
      first
        | assumption | intro _ | apply ctrOpened_keeps | apply endTracking_keeps | apply setOut_keeps
        | apply setPg_keeps | apply keeps_ite | split | refine keeps_pair (by assumption) ?_
        | refine keeps_same ?_ rfl rfl rfl)
      <;> try conv => arg 2; whnf)

theorem tellStop_keeps {b0 : State} (n : Nat) (s : State) (h : Keeps b0 s) :
    Keeps b0 (tellStop n s) := by
  unfold tellStop
  with_reducible
    try conv => arg 2; whnf
    iterate 40 all_goals try ((
      first
        | assumption | apply emit_keeps | apply keeps_ite)
      <;> try conv => arg 2; whnf)

theorem stopSession_keeps {b0 : State} (n : Nat) (reason : Nat) (portErr : Bool) (s : State) (h : Keeps b0 s) :
    Keeps b0 (stopSession n reason portErr s) := by
  unfold stopSession
  with_reducible
    try conv => arg 2; whnf
    iterate 40 all_goals try ((
      first
        | assumption | intro _ | apply fireEvent_keeps | apply postRequest_keeps | apply sessEnter_keeps
        | apply sessUnlockOrEnd_keeps | apply startOpening_keeps | apply tellStop_keeps | apply keeps_ite
        | refine keeps_same ?_ rfl rfl rfl)
      <;> try conv => arg 2; whnf)

theorem stopAllSessions_keeps {b0 : State} (reason : Nat) (s : State) (h : Keeps b0 s) :
    Keeps b0 (stopAllSessions reason s) := by
  unfold stopAllSessions
  with_reducible
    try conv => arg 2; whnf
    iterate 40 all_goals try ((
      first
        | assumption | intro _ | apply stopSession_keeps | apply keeps_foldl)
      <;> try conv => arg 2; whnf)

theorem enterSafeHold_keeps {b0 : State} (s : State) (h : Keeps b0 s) :
    Keeps b0 (enterSafeHold s) := by
  unfold enterSafeHold
  with_reducible
    try conv => arg 2; whnf
    iterate 40 all_goals try ((
      first
        | assumption | intro _ | apply dropGate_keeps | apply mtxDrive_keeps | apply openOut_keeps | apply setPg_keeps
        | apply stopAllSessions_keeps | apply keeps_foldl | apply keeps_ite | split
        | refine keeps_pair (by assumption) ?_ | refine keeps_same ?_ rfl rfl rfl)
      <;> try conv => arg 2; whnf)

theorem keepPending_keeps {b0 : State} (s : State) (h : Keeps b0 s) :
    Keeps b0 (keepPending s) := by
  unfold keepPending
  with_reducible
    try conv => arg 2; whnf
    iterate 40 all_goals try ((
      first
        | assumption | intro _ | refine keeps_same ?_ rfl rfl rfl)
      <;> try conv => arg 2; whnf)

theorem setLeg_keeps {b0 : State} (k : Nat) (f : Leg → Leg) (s : State) (h : Keeps b0 s) :
    Keeps b0 (setLeg k f s) := by
  unfold setLeg
  with_reducible
    try conv => arg 2; whnf
    iterate 40 all_goals try ((
      first
        | assumption | intro _ | refine keeps_same ?_ rfl rfl rfl)
      <;> try conv => arg 2; whnf)

theorem emptyGroup_keeps {b0 : State} (g : Nat) (s : State) (h : Keeps b0 s) :
    Keeps b0 (emptyGroup g s) := by
  unfold emptyGroup
  with_reducible
    try conv => arg 2; whnf
    iterate 40 all_goals try ((
      first
        | assumption | intro _ | refine keeps_same ?_ rfl rfl rfl)
      <;> try conv => arg 2; whnf)

theorem clearSharing_keeps {b0 : State} (f : Nat → Bool) (s : State) (h : Keeps b0 s) :
    Keeps b0 (clearSharing f s) := by
  unfold clearSharing
  with_reducible
    try conv => arg 2; whnf
    iterate 40 all_goals try ((
      first
        | assumption | intro _ | refine keeps_same ?_ rfl rfl rfl)
      <;> try conv => arg 2; whnf)

theorem groupLegsOff_keeps {b0 : State} (g : Nat) (s : State) (h : Keeps b0 s) :
    Keeps b0 (groupLegsOff g s) := by
  unfold groupLegsOff
  with_reducible
    try conv => arg 2; whnf
    iterate 40 all_goals try ((
      first
        | assumption | intro _ | apply clearSharing_keeps | apply keeps_ite | refine keeps_same ?_ rfl rfl rfl)
      <;> try conv => arg 2; whnf)

/-! ### Modes.lean -/

theorem writeRecord_keeps {b0 : State} (k : ErrTask) (superseded : Bool) (s : State) (h : Keeps b0 s) :
    Keeps b0 (writeRecord k superseded s) := by
  unfold writeRecord
  split
  · rename_i hl
    exact fireEvent_keeps 1 _ ⟨h.pending, h.mem, h.v1p, h.v1s, h.now, h.ctr, h.out, h.gates,
      fun z => ⟨by simpa using hl, (h.errs z).2⟩, h.fuses, h.low⟩
  · exact keeps_same h rfl rfl rfl

theorem flushWaiting_keeps {b0 : State} (s : State) (h : Keeps b0 s) :
    Keeps b0 (flushWaiting s) := by
  unfold flushWaiting
  with_reducible
    try conv => arg 2; whnf
    iterate 40 all_goals try ((
      first
        | assumption | intro _ | apply writeRecord_keeps | apply keeps_foldl | refine keeps_same ?_ rfl rfl rfl)
      <;> try conv => arg 2; whnf)

theorem saveRetention_keeps {b0 : State} (s : State) (h : Keeps b0 s) : Keeps b0 (saveRetention s) :=
  ⟨h.pending, h.mem, h.v1p, h.v1s, h.now, h.ctr, h.out, h.gates, fun z => ⟨(h.errs z).1, (h.errs z).1⟩, h.fuses, h.low⟩

theorem keeperReset_low (s : State) : (keeperReset s).keeper.gateEn = false := by
  unfold keeperReset
  dsimp only
  split
  · rfl
  · split <;> rfl

theorem resetControl_keeps {b0 : State} (k : RstKind) (cold : Bool) (s : State) (h : Keeps b0 s) :
    Keeps b0 (resetControl k cold s) := by
  unfold resetControl
  extract_lets keepLegal s0 rst down prior s1 s2
  have h0 : Keeps b0 s0 := keeps_ite h (saveRetention_keeps _ (flushWaiting_keeps _ h))
  have h1 : Keeps b0 s1 := keeperReset_keeps _ h0
  have h2 : Keeps b0 s2 := resetBlocks_keeps _ _ _ h1
  have hl : s2.keeper.gateEn = false :=
    (resetBlocks_keeps keepLegal (k == .powerOn) s1 (Keeps.refl s1)).low (keeperReset_low s0)
  exact ⟨h2.pending, h2.mem, fun _ => rfl, fun _ => rfl, h2.now, h2.ctr, h2.out, fun _ => .inr hl,
    fun z => ⟨(h0.errs z).2, (h2.errs z).2⟩, h2.fuses, fun _ => hl⟩

theorem enterM3_keeps {b0 : State} (s : State) (h : Keeps b0 s) :
    Keeps b0 (enterM3 s) := by
  unfold enterM3
  with_reducible
    try conv => arg 2; whnf
    iterate 40 all_goals try ((
      first
        | assumption | intro _ | refine keeps_same ?_ rfl rfl rfl)
      <;> try conv => arg 2; whnf)

theorem enterM4_keeps {b0 : State} (s : State) (h : Keeps b0 s) :
    Keeps b0 (enterM4 s) := by
  unfold enterM4
  with_reducible
    try conv => arg 2; whnf
    iterate 40 all_goals try ((
      first
        | assumption | intro _ | refine keeps_same ?_ rfl rfl rfl)
      <;> try conv => arg 2; whnf)

theorem leaveTest_keeps {b0 : State} (old : Mode) (s : State) (h : Keeps b0 s) :
    Keeps b0 (leaveTest old s) := by
  unfold leaveTest
  with_reducible
    try conv => arg 2; whnf
    iterate 40 all_goals try ((
      first
        | assumption | intro _ | apply keeps_ite | refine keeps_same ?_ rfl rfl rfl)
      <;> try conv => arg 2; whnf)

theorem modeHooks_keeps {b0 : State} (old : Mode) (new : Mode) (s : State) (h : Keeps b0 s) :
    Keeps b0 (modeHooks old new s) := by
  unfold modeHooks
  with_reducible
    try conv => arg 2; whnf
    iterate 40 all_goals try ((
      first
        | assumption | apply dropGate_keeps | apply dropRights_keeps | apply enterM3_keeps | apply enterM4_keeps
        | apply leaveTest_keeps | apply stopAllSessions_keeps | apply keeps_ite)
      <;> try conv => arg 2; whnf)

theorem dropGate_low (s : State) : (dropGate s).keeper.gateEn = false := by
  have hk : Keeps (gateLow s) ((List.range 6).foldl (fun a g => cancelTracking g a) (gateLow s)) :=
    keeps_foldl (Keeps.refl _) fun _ _ hx => cancelTracking_keeps _ _ hx
  unfold dropGate
  dsimp only
  generalize (List.range 6).foldl (fun a g => cancelTracking g a) (gateLow s) = s1 at hk ⊢
  split
  · have hl := hk.low rfl
    exact hl
  · rename_i hg
    simp only [Bool.or_eq_true, not_or, Bool.not_eq_true] at hg
    exact hg.1

theorem modeHooks_gates {b0 : State} (old new : Mode) (s : State) (h : Keeps b0 s) (hb : new = .m5 ∨ new = .m6 → GatesOk b0) :
    GatesOk (modeHooks old new s) := by
  have hk := modeHooks_keeps old new s h
  unfold modeHooks at hk ⊢
  dsimp only at hk ⊢
  split
  · rename_i hn
    rw [if_pos hn] at hk
    exact hk.gates (hb (by simpa using hn))
  · exact .inr (dropGate_low _)

theorem setMode_keeps {b0 : State} (m : Mode) (s : State) (h : Keeps b0 s) : Keeps b0 (setMode m s) := by
  let x : State := { s with sys.prevMode := s.sys.mode, sys.mode := m, cfg.autoReady := s.cfg.autoReady && m == .m3 }
  have h0 : Keeps x (wideEvent s (fireEvent 0 x)) := wideEvent_keeps _ _ (fireEvent_keeps _ _ (Keeps.refl x))
  have h1 : Keeps x (modeHooks s.sys.mode m (wideEvent s (fireEvent 0 x))) := modeHooks_keeps _ _ _ h0
  have h2 : Keeps b0 (modeHooks s.sys.mode m (wideEvent s (fireEvent 0 x))) :=
    ⟨h1.pending.trans h.pending, fun z => h1.mem (h.mem z), fun z => h1.v1p (h.v1p z), fun z => h1.v1s (h.v1s z),
      h.now.trans h1.now, h.ctr.trans h1.ctr, h.out.trans h1.out, fun _ => modeHooks_gates _ _ _ h0 (fun hm => .inl hm),
      fun z => h1.errs (h.errs z), h.fuses.trans h1.fuses, fun z => h1.low (h.low z)⟩
  unfold setMode
  dsimp only
  split
  · split <;> exact finishAccepted_keeps _ _ _ _ (keeps_same h2 rfl rfl rfl)
  · exact h2

theorem setCause_keeps {b0 : State} (k : Cause) (s : State) (h : Keeps b0 s) :
    Keeps b0 (setCause k s) := by
  unfold setCause
  with_reducible
    try conv => arg 2; whnf
    iterate 40 all_goals try ((
      first
        | assumption | intro _ | apply enterSafeHold_keeps | apply setMode_keeps | apply keeps_ite
        | refine keeps_same ?_ rfl rfl rfl)
      <;> try conv => arg 2; whnf)

theorem leaveM6_keeps {b0 : State} (s : State) (h : Keeps b0 s) :
    Keeps b0 (leaveM6 s) := by
  unfold leaveM6
  with_reducible
    try conv => arg 2; whnf
    iterate 40 all_goals try ((
      first
        | assumption | apply setMode_keeps | apply keeps_ite)
      <;> try conv => arg 2; whnf)

theorem clearLim_keeps {b0 : State} (l : Lim) (s : State) (h : Keeps b0 s) :
    Keeps b0 (clearLim l s) := by
  unfold clearLim
  with_reducible
    try conv => arg 2; whnf
    iterate 40 all_goals try ((
      first
        | assumption | intro _ | apply leaveM6_keeps | refine keeps_same ?_ rfl rfl rfl)
      <;> try conv => arg 2; whnf)

theorem raiseLim_keeps {b0 : State} (l : Lim) (s : State) (h : Keeps b0 s) :
    Keeps b0 (raiseLim l s) := by
  unfold raiseLim
  with_reducible
    try conv => arg 2; whnf
    iterate 40 all_goals try ((
      first
        | assumption | intro _ | apply setMode_keeps | apply keeps_ite | refine keeps_same ?_ rfl rfl rfl)
      <;> try conv => arg 2; whnf)

theorem setLim_keeps {b0 : State} (l : Lim) (v : Bool) (s : State) (h : Keeps b0 s) :
    Keeps b0 (setLim l v s) := by
  unfold setLim
  with_reducible
    try conv => arg 2; whnf
    iterate 40 all_goals try ((
      first
        | assumption | apply clearLim_keeps | apply raiseLim_keeps | apply keeps_ite)
      <;> try conv => arg 2; whnf)

theorem updHandling_keeps {b0 : State} (s : State) (h : Keeps b0 s) :
    Keeps b0 (updHandling s) := by
  unfold updHandling
  with_reducible
    try conv => arg 2; whnf
    iterate 40 all_goals try ((
      first
        | assumption | apply setLim_keeps)
      <;> try conv => arg 2; whnf)

theorem beginTask_keeps {b0 : State} (k : ErrTask) (s : State) (h : Keeps b0 s) :
    Keeps b0 (beginTask k s) := by
  unfold beginTask
  with_reducible
    try conv => arg 2; whnf
    iterate 40 all_goals try ((
      first
        | assumption | intro _ | apply discardAll_keeps | apply resetControl_keeps | apply setCause_keeps
        | apply updHandling_keeps | apply writeRecord_keeps | apply keeps_ite | refine keeps_same ?_ rfl rfl rfl)
      <;> try conv => arg 2; whnf)

theorem markRecord_keeps {b0 : State} (seq : Option Nat) (f : ErrRec → ErrRec) (s : State) (h : Keeps b0 s) :
    Keeps b0 (markRecord seq f s) := by
  unfold markRecord
  split
  · exact h
  · exact ⟨h.pending, h.mem, h.v1p, h.v1s, h.now, h.ctr, h.out, h.gates,
      fun z => ⟨by simpa using (h.errs z).1, (h.errs z).2⟩, h.fuses, h.low⟩

theorem preempt_keeps {b0 : State} (eff : Nat) (s : State) (h : Keeps b0 s) :
    Keeps b0 (preempt eff s) := by
  unfold preempt
  with_reducible
    try conv => arg 2; whnf
    iterate 40 all_goals try ((
      first
        | assumption | intro _ | apply markRecord_keeps | apply keeps_ite | split
        | refine keeps_pair (by assumption) ?_ | refine keeps_same ?_ rfl rfl rfl)
      <;> try conv => arg 2; whnf)

theorem raiseError_keeps {b0 : State} (e : ErrSpec) (arg : Nat) (s : State) (h : Keeps b0 s) :
    Keeps b0 (raiseError e arg s) := by
  unfold raiseError
  with_reducible
    try conv => arg 2; whnf
    iterate 40 all_goals try ((
      first
        | assumption | intro _ | apply beginTask_keeps | apply preempt_keeps | apply keeps_ite | split
        | refine keeps_pair (by assumption) ?_ | refine keeps_same ?_ rfl rfl rfl)
      <;> try conv => arg 2; whnf)

theorem clearCause_keeps {b0 : State} (k : Cause) (s : State) (h : Keeps b0 s) :
    Keeps b0 (clearCause k s) := by
  unfold clearCause
  with_reducible
    try conv => arg 2; whnf
    iterate 40 all_goals try ((
      first
        | assumption | intro _ | refine keeps_same ?_ rfl rfl rfl)
      <;> try conv => arg 2; whnf)

theorem evalSafe_keeps {b0 : State} (s : State) (h : Keeps b0 s) :
    Keeps b0 (evalSafe s) := by
  unfold evalSafe
  with_reducible
    try conv => arg 2; whnf
    iterate 40 all_goals try ((
      first
        | assumption | intro _ | apply clearCause_keeps | apply keeps_ite | refine keeps_same ?_ rfl rfl rfl)
      <;> try conv => arg 2; whnf)

theorem errCleared_keeps {b0 : State} (subsys : Nat) (code : Nat) (arg : Nat) (s : State) (h : Keeps b0 s) :
    Keeps b0 (errCleared subsys code arg s) := by
  unfold errCleared
  with_reducible
    try conv => arg 2; whnf
    iterate 40 all_goals try ((
      first
        | assumption | intro _ | apply evalSafe_keeps | apply keeps_ite | refine keeps_same ?_ rfl rfl rfl)
      <;> try conv => arg 2; whnf)

theorem xsp0WriteFail_keeps {b0 : State} (s : State) (h : Keeps b0 s) :
    Keeps b0 (xsp0WriteFail s) := by
  unfold xsp0WriteFail
  with_reducible
    try conv => arg 2; whnf
    iterate 40 all_goals try ((
      first
        | assumption | apply fireEvent_keeps | apply raiseError_keeps)
      <;> try conv => arg 2; whnf)

theorem xsp0ReadErr_keeps {b0 : State} (s : State) (h : Keeps b0 s) :
    Keeps b0 (xsp0ReadErr s) := by
  unfold xsp0ReadErr
  with_reducible
    try conv => arg 2; whnf
    iterate 40 all_goals try ((
      first
        | assumption | apply fireEvent_keeps | apply raiseError_keeps)
      <;> try conv => arg 2; whnf)

theorem dropTrigger_keeps {b0 : State} (s : State) (h : Keeps b0 s) :
    Keeps b0 (dropTrigger s) := by
  unfold dropTrigger
  with_reducible
    try conv => arg 2; whnf
    iterate 40 all_goals try ((
      first
        | assumption | apply raiseError_keeps)
      <;> try conv => arg 2; whnf)

theorem xsp1Err_keeps {b0 : State} (s : State) (h : Keeps b0 s) :
    Keeps b0 (xsp1Err s) := by
  unfold xsp1Err
  with_reducible
    try conv => arg 2; whnf
    iterate 40 all_goals try ((
      first
        | assumption | apply fireEvent_keeps | apply raiseError_keeps)
      <;> try conv => arg 2; whnf)

theorem beginWaiting_keeps {b0 : State} (x0_ : Nat) (x1_ : State) (h : Keeps b0 x1_) :
    Keeps b0 (beginWaiting x0_ x1_) := by
  induction x0_ generalizing x1_ with
  | zero => exact h
  | succ _ ih =>
    unfold beginWaiting
    with_reducible
      try conv => arg 2; whnf
      iterate 40 all_goals try ((
        first
          | assumption | intro _ | apply ih | apply beginTask_keeps | split | refine keeps_pair (by assumption) ?_
          | refine keeps_same ?_ rfl rfl rfl)
        <;> try conv => arg 2; whnf)

theorem closeWindow_keeps {b0 : State} (id : Nat) (s : State) (h : Keeps b0 s) :
    Keeps b0 (closeWindow id s) := by
  unfold closeWindow
  with_reducible
    try conv => arg 2; whnf
    iterate 40 all_goals try ((
      first
        | assumption | intro _ | apply beginWaiting_keeps | apply evalSafe_keeps | apply updHandling_keeps
        | apply keeps_ite | split | refine keeps_pair (by assumption) ?_ | refine keeps_same ?_ rfl rfl rfl)
      <;> try conv => arg 2; whnf)

theorem slotReadErr_keeps {b0 : State} (fault : Nat) (s : State) (h : Keeps b0 s) :
    Keeps b0 (slotReadErr fault s) := by
  unfold slotReadErr
  with_reducible
    try conv => arg 2; whnf
    iterate 40 all_goals try ((
      first
        | assumption | apply xsp0ReadErr_keeps | apply keeps_ite)
      <;> try conv => arg 2; whnf)

/-! ### Fire.lean -/

theorem firewallCount_keeps {b0 : State} (s : State) (h : Keeps b0 s) :
    Keeps b0 (firewallCount s) := by
  unfold firewallCount
  with_reducible
    try conv => arg 2; whnf
    iterate 40 all_goals try ((
      first
        | assumption | intro _ | apply fireEvent_keeps | refine keeps_same ?_ rfl rfl rfl)
      <;> try conv => arg 2; whnf)

theorem firewallBlock_keeps {b0 : State} (s : State) (h : Keeps b0 s) :
    Keeps b0 (firewallBlock s) := by
  unfold firewallBlock
  with_reducible
    try conv => arg 2; whnf
    iterate 40 all_goals try ((
      first
        | assumption | intro _ | apply firewallCount_keeps | apply raiseError_keeps | apply keeps_ite
        | refine keeps_same ?_ rfl rfl rfl)
      <;> try conv => arg 2; whnf)

theorem countAccess_keeps {b0 : State} (s : State) (h : Keeps b0 s) :
    Keeps b0 (countAccess s) := by
  unfold countAccess
  with_reducible
    try conv => arg 2; whnf
    iterate 40 all_goals try ((
      first
        | assumption | intro _ | refine keeps_same ?_ rfl rfl rfl)
      <;> try conv => arg 2; whnf)

end Sys2Proof.Machine
end

