-- ==== Sys2Proof/Laws/KeepsFamilies1.lean ====
section
/-! SUPPORT. Every operation of Can.lean, Mbx.lean, CfgLoad.lean, Pwm.lean keeps what `Keeps` says. -/

set_option linter.unusedTactic false
set_option linter.unreachableTactic false

namespace Sys2Proof.Machine

/-! ### Can.lean -/

theorem setCan_keeps {b0 : State} (c : Nat) (f : CanCtl → CanCtl) (s : State) (h : Keeps b0 s) :
    Keeps b0 (setCan c f s) := by
  unfold setCan
  with_reducible
    try conv => arg 2; whnf
    iterate 40 all_goals try ((
      first
        | assumption | intro _ | refine keeps_same ?_ rfl rfl rfl)
      <;> try conv => arg 2; whnf)

theorem objPut_keeps {b0 : State} (c : Nat) (m : Nat) (i : Nat) (v : Bool) (s : State) (h : Keeps b0 s) :
    Keeps b0 (objPut c m i v s) := by
  unfold objPut
  with_reducible
    try conv => arg 2; whnf
    iterate 40 all_goals try ((
      first
        | assumption | apply wrf_keeps)
      <;> try conv => arg 2; whnf)

theorem canEvent_keeps {b0 : State} (c : Nat) (e : Nat) (s : State) (h : Keeps b0 s) :
    Keeps b0 (canEvent c e s) := by
  unfold canEvent
  with_reducible
    try conv => arg 2; whnf
    iterate 40 all_goals try ((
      first
        | assumption | apply fireEvent_keeps)
      <;> try conv => arg 2; whnf)

theorem storeFrame_keeps {b0 : State} (c : Nat) (m : Nat) (f : CanFrame) (s : State) (h : Keeps b0 s) :
    Keeps b0 (storeFrame c m f s) := by
  unfold storeFrame
  with_reducible
    try conv => arg 2; whnf
    iterate 40 all_goals try ((
      first
        | assumption | intro _ | apply canEvent_keeps | apply setCan_keeps | apply wrw_keeps | apply keeps_ite
        | refine memWrite_wf _ _ _ ?_ | refine memWriteBytes_wf _ _ ?_ | refine Memory.wf_filter _ ?_
        | refine keeps_same ?_ rfl rfl rfl | refine keeps_mem ?_ rfl rfl rfl ?_)
      <;> try conv => arg 2; whnf)

theorem placeFrame_keeps {b0 : State} (c : Nat) (f : CanFrame) (s : State) (h : Keeps b0 s) :
    Keeps b0 (placeFrame c f s) := by
  unfold placeFrame
  with_reducible
    try conv => arg 2; whnf
    iterate 40 all_goals try ((
      first
        | assumption | intro _ | apply canEvent_keeps | apply raiseError_keeps | apply setCan_keeps
        | apply storeFrame_keeps | apply keeps_ite | split | refine keeps_pair (by assumption) ?_
        | refine keeps_same ?_ rfl rfl rfl)
      <;> try conv => arg 2; whnf)

theorem drainHold_keeps {b0 : State} (c : Nat) (s : State) (h : Keeps b0 s) :
    Keeps b0 (drainHold c s) := by
  unfold drainHold
  with_reducible
    try conv => arg 2; whnf
    iterate 40 all_goals try ((
      first
        | assumption | intro _ | apply setCan_keeps | apply storeFrame_keeps | apply keeps_foldl | split
        | refine keeps_pair (by assumption) ?_ | refine keeps_same ?_ rfl rfl rfl)
      <;> try conv => arg 2; whnf)

theorem cancelNow_keeps {b0 : State} (c : Nat) (m : Nat) (s : State) (h : Keeps b0 s) :
    Keeps b0 (cancelNow c m s) := by
  unfold cancelNow
  with_reducible
    try conv => arg 2; whnf
    iterate 40 all_goals try ((
      first
        | assumption | intro _ | apply canEvent_keeps | apply objPut_keeps | apply setCan_keeps
        | refine keeps_same ?_ rfl rfl rfl)
      <;> try conv => arg 2; whnf)

theorem answerCancel_keeps {b0 : State} (c : Nat) (m : Nat) (outcome : Nat) (s : State) (h : Keeps b0 s) :
    Keeps b0 (answerCancel c m outcome s) := by
  unfold answerCancel
  with_reducible
    try conv => arg 2; whnf
    iterate 40 all_goals try ((
      first
        | assumption | intro _ | apply finish_keeps | apply setCan_keeps | apply keeps_ite | split
        | refine keeps_pair (by assumption) ?_ | refine keeps_same ?_ rfl rfl rfl)
      <;> try conv => arg 2; whnf)

theorem endAttempt_keeps {b0 : State} (c : Nat) (cancel : Bool) (s : State) (h : Keeps b0 s) :
    Keeps b0 (endAttempt c cancel s) := by
  unfold endAttempt
  with_reducible
    try conv => arg 2; whnf
    iterate 40 all_goals try ((
      first
        | assumption | intro _ | apply answerCancel_keeps | apply cancelNow_keeps | apply objPut_keeps
        | apply setCan_keeps | apply keeps_ite | split | refine keeps_pair (by assumption) ?_
        | refine keeps_same ?_ rfl rfl rfl)
      <;> try conv => arg 2; whnf)

theorem cancelAll_keeps {b0 : State} (c : Nat) (s : State) (h : Keeps b0 s) :
    Keeps b0 (cancelAll c s) := by
  unfold cancelAll
  with_reducible
    try conv => arg 2; whnf
    iterate 40 all_goals try ((
      first
        | assumption | intro _ | apply cancelNow_keeps | apply keeps_foldl)
      <;> try conv => arg 2; whnf)

theorem enterBusoff_keeps {b0 : State} (c : Nat) (s : State) (h : Keeps b0 s) :
    Keeps b0 (enterBusoff c s) := by
  unfold enterBusoff
  with_reducible
    try conv => arg 2; whnf
    iterate 40 all_goals try ((
      first
        | assumption | intro _ | apply canEvent_keeps | apply cancelAll_keeps | apply endAttempt_keeps
        | apply raiseError_keeps | apply setCan_keeps | apply stopSession_keeps | apply keeps_ite
        | refine keeps_same ?_ rfl rfl rfl)
      <;> try conv => arg 2; whnf)

theorem confine_keeps {b0 : State} (c : Nat) (s : State) (h : Keeps b0 s) :
    Keeps b0 (confine c s) := by
  unfold confine
  with_reducible
    try conv => arg 2; whnf
    iterate 40 all_goals try ((
      first
        | assumption | intro _ | apply canEvent_keeps | apply enterBusoff_keeps | apply raiseError_keeps
        | apply setCan_keeps | apply keeps_ite | refine keeps_same ?_ rfl rfl rfl)
      <;> try conv => arg 2; whnf)

theorem endLone_keeps {b0 : State} (c : Nat) (s : State) (h : Keeps b0 s) :
    Keeps b0 (endLone c s) := by
  unfold endLone
  with_reducible
    try conv => arg 2; whnf
    iterate 40 all_goals try ((
      first
        | assumption | intro _ | apply setCan_keeps | refine keeps_same ?_ rfl rfl rfl)
      <;> try conv => arg 2; whnf)

theorem goodRx_keeps {b0 : State} (c : Nat) (s : State) (h : Keeps b0 s) :
    Keeps b0 (goodRx c s) := by
  unfold goodRx
  with_reducible
    try conv => arg 2; whnf
    iterate 40 all_goals try ((
      first
        | assumption | intro _ | apply confine_keeps | apply drawFree_keeps | apply endLone_keeps | apply setCan_keeps
        | apply keeps_ite | refine keeps_same ?_ rfl rfl rfl)
      <;> try conv => arg 2; whnf)

theorem rxError_keeps {b0 : State} (c : Nat) (lec : Nat) (by8 : Bool) (s : State) (h : Keeps b0 s) :
    Keeps b0 (rxError c lec by8 s) := by
  unfold rxError
  with_reducible
    try conv => arg 2; whnf
    iterate 40 all_goals try ((
      first
        | assumption | intro _ | apply confine_keeps | apply setCan_keeps | apply keeps_ite
        | refine keeps_same ?_ rfl rfl rfl)
      <;> try conv => arg 2; whnf)

theorem execCanFrameRx_keeps {b0 : State} (t : Nat) (c : Nat) (f : CanFrame) (s : State) (h : Keeps b0 s) :
    KeepsO b0 (execCanFrameRx t c f s) := by
  unfold execCanFrameRx
  with_reducible
    try conv => arg 2; whnf
    iterate 40 all_goals try ((
      first
        | assumption | intro _ | apply goodRx_keeps | apply placeFrame_keeps | apply rxError_keeps
        | apply setCan_keeps | apply at_keeps | apply keepsO_next | apply keeps_ite | apply keepsO_ite
        | refine keeps_same ?_ rfl rfl rfl)
      <;> try conv => arg 2; whnf)

theorem lockRead_keeps {b0 : State} (m : Master) (c : Nat) (obj : Nat) (ofs : Nat) (s : State) (h : Keeps b0 s) :
    Keeps b0 (lockRead m c obj ofs s) := by
  unfold lockRead
  with_reducible
    try conv => arg 2; whnf
    iterate 40 all_goals try ((
      first
        | assumption | apply emit_keeps | apply objPut_keeps | apply keeps_ite)
      <;> try conv => arg 2; whnf)

theorem execCanObjLockRead_keeps {b0 : State} (t : Nat) (m : Master) (c : Nat) (obj : Nat) (ofs : Nat) (s : State) (h : Keeps b0 s) :
    KeepsO b0 (execCanObjLockRead t m c obj ofs s) := by
  unfold execCanObjLockRead
  with_reducible
    try conv => arg 2; whnf
    iterate 40 all_goals try ((
      first
        | assumption | apply lockRead_keeps | apply at_keeps | apply keepsO_next)
      <;> try conv => arg 2; whnf)

theorem rxinfoRead_keeps {b0 : State} (m : Master) (c : Nat) (obj : Nat) (s : State) (h : Keeps b0 s) :
    Keeps b0 (rxinfoRead m c obj s) := by
  unfold rxinfoRead
  with_reducible
    try conv => arg 2; whnf
    iterate 40 all_goals try ((
      first
        | assumption | apply drainHold_keeps | apply emit_keeps | apply objPut_keeps | apply keeps_ite)
      <;> try conv => arg 2; whnf)

theorem execCanRxinfoRead_keeps {b0 : State} (t : Nat) (m : Master) (c : Nat) (obj : Nat) (s : State) (h : Keeps b0 s) :
    KeepsO b0 (execCanRxinfoRead t m c obj s) := by
  unfold execCanRxinfoRead
  with_reducible
    try conv => arg 2; whnf
    iterate 40 all_goals try ((
      first
        | assumption | apply rxinfoRead_keeps | apply at_keeps | apply keepsO_next)
      <;> try conv => arg 2; whnf)

theorem execCanLockTo_keeps {b0 : State} (t : Nat) (c : Nat) (obj : Nat) (s : State) (h : Keeps b0 s) :
    KeepsO b0 (execCanLockTo t c obj s) := by
  unfold execCanLockTo
  with_reducible
    try conv => arg 2; whnf
    iterate 40 all_goals try ((
      first
        | assumption | apply canEvent_keeps | apply drainHold_keeps | apply objPut_keeps | apply raiseError_keeps
        | apply at_keeps | apply keepsO_next | apply keeps_ite | apply keepsO_ite)
      <;> try conv => arg 2; whnf)

theorem beginSof_keeps {b0 : State} (c : Nat) (sof : Option Nat) (s : State) (h : Keeps b0 s) :
    Keeps b0 (beginSof c sof s) := by
  unfold beginSof
  with_reducible
    try conv => arg 2; whnf
    iterate 40 all_goals try ((
      first
        | assumption | intro _ | apply objPut_keeps | apply setCan_keeps | apply keeps_ite | split
        | refine keeps_pair (by assumption) ?_ | refine keeps_same ?_ rfl rfl rfl)
      <;> try conv => arg 2; whnf)

theorem requestSend_keeps {b0 : State} (c : Nat) (m : Nat) (s : State) (h : Keeps b0 s) :
    Keeps b0 (requestSend c m s) := by
  unfold requestSend
  with_reducible
    try conv => arg 2; whnf
    iterate 40 all_goals try ((
      first
        | assumption | apply objPut_keeps | apply keeps_ite)
      <;> try conv => arg 2; whnf)

theorem cancelObj_keeps {b0 : State} (c : Nat) (m : Nat) (s : State) (h : Keeps b0 s) :
    Keeps b0 (cancelObj c m s) := by
  unfold cancelObj
  with_reducible
    try conv => arg 2; whnf
    iterate 40 all_goals try ((
      first
        | assumption | intro _ | apply answerCancel_keeps | apply cancelNow_keeps | apply setCan_keeps
        | apply keeps_ite | refine keeps_same ?_ rfl rfl rfl)
      <;> try conv => arg 2; whnf)

theorem txcancelWrite_keeps {b0 : State} (m : Master) (c : Nat) (k : Nat) (word : Nat) (s : State) (h : Keeps b0 s) :
    Keeps b0 (txcancelWrite m c k word s) := by
  unfold txcancelWrite
  with_reducible
    try conv => arg 2; whnf
    iterate 40 all_goals try ((
      first
        | assumption | intro _ | apply cancelObj_keeps | apply firewallBlock_keeps | apply setCan_keeps
        | apply keeps_foldl | apply keeps_ite | refine keeps_same ?_ rfl rfl rfl)
      <;> try conv => arg 2; whnf)

theorem requestOrCancel_keeps {b0 : State} (c : Nat) (m : Nat) (s : State) (h : Keeps b0 s) :
    Keeps b0 (requestOrCancel c m s) := by
  unfold requestOrCancel
  with_reducible
    try conv => arg 2; whnf
    iterate 40 all_goals try ((
      first
        | assumption | apply cancelObj_keeps | apply requestSend_keeps | apply keeps_ite)
      <;> try conv => arg 2; whnf)

theorem txreqWrite_keeps {b0 : State} (m : Master) (c : Nat) (k : Nat) (word : Nat) (s : State) (h : Keeps b0 s) :
    Keeps b0 (txreqWrite m c k word s) := by
  unfold txreqWrite
  with_reducible
    try conv => arg 2; whnf
    iterate 40 all_goals try ((
      first
        | assumption | intro _ | apply firewallBlock_keeps | apply requestOrCancel_keeps | apply keeps_foldl
        | apply keeps_ite)
      <;> try conv => arg 2; whnf)

theorem execCanTxreq_keeps {b0 : State} (t : Nat) (m : Master) (c : Nat) (k : Nat) (word : Nat) (sof : Option Nat) (s : State) (h : Keeps b0 s) :
    KeepsO b0 (execCanTxreq t m c k word sof s) := by
  unfold execCanTxreq
  with_reducible
    try conv => arg 2; whnf
    iterate 40 all_goals try ((
      first
        | assumption | apply beginSof_keeps | apply txreqWrite_keeps | apply at_keeps | apply keepsO_next)
      <;> try conv => arg 2; whnf)

theorem execCanTxcancel_keeps {b0 : State} (t : Nat) (m : Master) (c : Nat) (k : Nat) (word : Nat) (sof : Option Nat) (s : State) (h : Keeps b0 s) :
    KeepsO b0 (execCanTxcancel t m c k word sof s) := by
  unfold execCanTxcancel
  with_reducible
    try conv => arg 2; whnf
    iterate 40 all_goals try ((
      first
        | assumption | apply beginSof_keeps | apply txcancelWrite_keeps | apply at_keeps | apply keepsO_next)
      <;> try conv => arg 2; whnf)

theorem execCanTxDone_keeps {b0 : State} (t : Nat) (c : Nat) (obj : Nat) (sof : Nat) (next : Option Nat) (s : State) (h : Keeps b0 s) :
    KeepsO b0 (execCanTxDone t c obj sof next s) := by
  unfold execCanTxDone
  with_reducible
    try conv => arg 2; whnf
    iterate 40 all_goals try ((
      first
        | assumption | intro _ | apply answerCancel_keeps | apply beginSof_keeps | apply canEvent_keeps
        | apply confine_keeps | apply endLone_keeps | apply objPut_keeps | apply placeFrame_keeps | apply setCan_keeps
        | apply at_keeps | apply keepsO_next | apply keeps_ite | apply keepsO_ite | refine memWrite_wf _ _ _ ?_
        | refine memWriteBytes_wf _ _ ?_ | refine Memory.wf_filter _ ?_ | refine keeps_same ?_ rfl rfl rfl
        | refine keeps_mem ?_ rfl rfl rfl ?_)
      <;> try conv => arg 2; whnf)

theorem ackError_keeps {b0 : State} (c : Nat) (s : State) (h : Keeps b0 s) :
    Keeps b0 (ackError c s) := by
  unfold ackError
  with_reducible
    try conv => arg 2; whnf
    iterate 40 all_goals try ((
      first
        | assumption | intro _ | apply canEvent_keeps | apply confine_keeps | apply endAttempt_keeps
        | apply raiseError_keeps | apply setCan_keeps | apply keeps_ite | refine keeps_same ?_ rfl rfl rfl)
      <;> try conv => arg 2; whnf)

theorem execCanBusError_keeps {b0 : State} (t : Nat) (c : Nat) (e : CanErr) (sof : Option Nat) (s : State) (h : Keeps b0 s) :
    KeepsO b0 (execCanBusError t c e sof s) := by
  unfold execCanBusError
  with_reducible
    try conv => arg 2; whnf
    iterate 40 all_goals try ((
      first
        | assumption | intro _ | apply ackError_keeps | apply beginSof_keeps | apply confine_keeps
        | apply endAttempt_keeps | apply rxError_keeps | apply setCan_keeps | apply at_keeps | apply keepsO_next
        | apply keeps_ite | apply keepsO_ite | split | refine keeps_pair (by assumption) ?_
        | refine keeps_same ?_ rfl rfl rfl)
      <;> try conv => arg 2; whnf)

theorem startRecovery_keeps {b0 : State} (c : Nat) (s : State) (h : Keeps b0 s) :
    Keeps b0 (startRecovery c s) := by
  unfold startRecovery
  with_reducible
    try conv => arg 2; whnf
    iterate 40 all_goals try ((
      first
        | assumption | intro _ | apply setCan_keeps | apply keeps_ite | refine keeps_same ?_ rfl rfl rfl)
      <;> try conv => arg 2; whnf)

theorem execCanCtrlRecover_keeps {b0 : State} (t : Nat) (m : Master) (c : Nat) (s : State) (h : Keeps b0 s) :
    KeepsO b0 (execCanCtrlRecover t m c s) := by
  unfold execCanCtrlRecover
  with_reducible
    try conv => arg 2; whnf
    iterate 40 all_goals try ((
      first
        | assumption | apply firewallBlock_keeps | apply startRecovery_keeps | apply at_keeps | apply keepsO_next
        | apply keeps_ite | apply keepsO_ite)
      <;> try conv => arg 2; whnf)

theorem execCanRecoveryDone_keeps {b0 : State} (t : Nat) (c : Nat) (s : State) (h : Keeps b0 s) :
    KeepsO b0 (execCanRecoveryDone t c s) := by
  unfold execCanRecoveryDone
  with_reducible
    try conv => arg 2; whnf
    iterate 40 all_goals try ((
      first
        | assumption | intro _ | apply canEvent_keeps | apply setCan_keeps | apply at_keeps | apply keepsO_next
        | apply keeps_ite | apply keepsO_ite | refine keeps_same ?_ rfl rfl rfl)
      <;> try conv => arg 2; whnf)

theorem execCanProtocolException_keeps {b0 : State} (t : Nat) (c : Nat) (s : State) (h : Keeps b0 s) :
    KeepsO b0 (execCanProtocolException t c s) := by
  unfold execCanProtocolException
  with_reducible
    try conv => arg 2; whnf
    iterate 40 all_goals try ((
      first
        | assumption | intro _ | apply canEvent_keeps | apply setCan_keeps | apply at_keeps | apply keepsO_next
        | apply keeps_ite | apply keepsO_ite | refine keeps_same ?_ rfl rfl rfl)
      <;> try conv => arg 2; whnf)

theorem execCanBusIntegration_keeps {b0 : State} (t : Nat) (c : Nat) (s : State) (h : Keeps b0 s) :
    KeepsO b0 (execCanBusIntegration t c s) := by
  unfold execCanBusIntegration
  with_reducible
    try conv => arg 2; whnf
    iterate 40 all_goals try ((
      first
        | assumption | intro _ | apply setCan_keeps | apply at_keeps | apply keepsO_next
        | refine keeps_same ?_ rfl rfl rfl)
      <;> try conv => arg 2; whnf)

theorem emptySends_keeps {b0 : State} (c : Nat) (s : State) (h : Keeps b0 s) :
    Keeps b0 (emptySends c s) := by
  unfold emptySends
  with_reducible
    try conv => arg 2; whnf
    iterate 40 all_goals try ((
      first
        | assumption | intro _ | apply keeps_foldl | apply keeps_ite | refine memWrite_wf _ _ _ ?_
        | refine memWriteBytes_wf _ _ ?_ | refine Memory.wf_filter _ ?_ | refine keeps_same ?_ rfl rfl rfl
        | refine keeps_mem ?_ rfl rfl rfl ?_)
      <;> try conv => arg 2; whnf)

theorem canStandby_keeps {b0 : State} (s : State) (h : Keeps b0 s) :
    Keeps b0 (canStandby s) := by
  unfold canStandby
  with_reducible
    try conv => arg 2; whnf
    iterate 40 all_goals try ((
      first
        | assumption | intro _ | apply wrf_keeps | apply keeps_foldl | refine keeps_same ?_ rfl rfl rfl)
      <;> try conv => arg 2; whnf)

theorem canTakeover_keeps {b0 : State} (s : State) (h : Keeps b0 s) :
    Keeps b0 (canTakeover s) := by
  unfold canTakeover
  with_reducible
    try conv => arg 2; whnf
    iterate 40 all_goals try ((
      first
        | assumption | intro _ | refine keeps_same ?_ rfl rfl rfl)
      <;> try conv => arg 2; whnf)

theorem execCanModeSwitch_keeps {b0 : State} (t : Nat) (c : Nat) (s : State) (h : Keeps b0 s) :
    KeepsO b0 (execCanModeSwitch t c s) := by
  unfold execCanModeSwitch
  with_reducible
    try conv => arg 2; whnf
    iterate 40 all_goals try ((
      first
        | assumption | apply emptySends_keeps | apply setCan_keeps | apply wrf_keeps | apply at_keeps
        | apply keepsO_next | apply keeps_ite | apply keepsO_ite)
      <;> try conv => arg 2; whnf)

theorem execCanStatus_keeps {b0 : State} (t : Nat) (line : Nat) (seq : Nat) (s : State) (h : Keeps b0 s) :
    KeepsO b0 (execCanStatus t line seq s) := by
  unfold execCanStatus
  with_reducible
    try conv => arg 2; whnf
    iterate 40 all_goals try ((
      first
        | assumption | intro _ | apply doneOut_keeps | apply runCmd_keeps | apply at_keeps | apply keepsO_next
        | apply keeps_foldl | apply keeps_ite | apply keeps_ite2 | apply keepsO_ite | refine memWrite_wf _ _ _ ?_
        | refine memWriteBytes_wf _ _ ?_ | refine Memory.wf_filter _ ?_ | split | exact ⟨rfl, rfl⟩ | rfl
        | refine keeps_pair (by assumption) ?_ | refine keeps_same ?_ rfl rfl rfl | refine keeps_out ?_ rfl rfl rfl
        | refine keeps_new ?_ rfl rfl rfl | refine keeps_mem ?_ rfl rfl rfl ?_)
      <;> try conv => arg 2; whnf)

theorem execCanObjRead_keeps {b0 : State} (t : Nat) (line : Nat) (seq : Nat) (s : State) (h : Keeps b0 s) :
    KeepsO b0 (execCanObjRead t line seq s) := by
  unfold execCanObjRead
  with_reducible
    try conv => arg 2; whnf
    iterate 40 all_goals try ((
      first
        | assumption | intro _ | apply doneOut_keeps | apply rejectRange_keeps | apply runCmd_keeps | apply at_keeps
        | apply keepsO_next | apply keeps_ite | apply keepsO_ite | refine memWrite_wf _ _ _ ?_
        | refine memWriteBytes_wf _ _ ?_ | refine Memory.wf_filter _ ?_)
      <;> try conv => arg 2; whnf)

theorem writeObject_keeps {b0 : State} (c : Nat) (m : Nat) (image : List Nat) (s : State) (h : Keeps b0 s) :
    Keeps b0 (writeObject c m image s) := by
  unfold writeObject
  with_reducible
    try conv => arg 2; whnf
    iterate 40 all_goals try ((
      first
        | assumption | intro _ | apply setCan_keeps | apply keeps_ite | refine memWrite_wf _ _ _ ?_
        | refine memWriteBytes_wf _ _ ?_ | refine Memory.wf_filter _ ?_ | refine keeps_same ?_ rfl rfl rfl
        | refine keeps_mem ?_ rfl rfl rfl ?_)
      <;> try conv => arg 2; whnf)

theorem execCanObjWrite_keeps {b0 : State} (t : Nat) (line : Nat) (seq : Nat) (s : State) (h : Keeps b0 s) :
    KeepsO b0 (execCanObjWrite t line seq s) := by
  unfold execCanObjWrite
  with_reducible
    try conv => arg 2; whnf
    iterate 40 all_goals try ((
      first
        | assumption | intro _ | apply done_keeps | apply rejectFormat_keeps | apply rejectRange_keeps
        | apply requestSend_keeps | apply runCmd_keeps | apply writeObject_keeps | apply at_keeps | apply keepsO_next
        | apply keeps_foldl | apply keeps_ite | apply keeps_ite2 | apply keepsO_ite | refine memWrite_wf _ _ _ ?_
        | refine memWriteBytes_wf _ _ ?_ | refine Memory.wf_filter _ ?_ | split | exact ⟨rfl, rfl⟩ | rfl
        | refine keeps_pair (by assumption) ?_ | refine keeps_same ?_ rfl rfl rfl | refine keeps_out ?_ rfl rfl rfl
        | refine keeps_new ?_ rfl rfl rfl | refine keeps_mem ?_ rfl rfl rfl ?_)
      <;> try conv => arg 2; whnf)

theorem execCanTxCancel_keeps {b0 : State} (t : Nat) (line : Nat) (seq : Nat) (s : State) (h : Keeps b0 s) :
    KeepsO b0 (execCanTxCancel t line seq s) := by
  unfold execCanTxCancel
  with_reducible
    try conv => arg 2; whnf
    iterate 40 all_goals try ((
      first
        | assumption | intro _ | apply cancelObj_keeps | apply done_keeps | apply rejectIllegal_keeps
        | apply rejectRange_keeps | apply runCmd_keeps | apply setCan_keeps | apply at_keeps | apply keepsO_next
        | apply keeps_ite | apply keepsO_ite | refine keeps_same ?_ rfl rfl rfl)
      <;> try conv => arg 2; whnf)

theorem execCanRecover_keeps {b0 : State} (t : Nat) (line : Nat) (seq : Nat) (s : State) (h : Keeps b0 s) :
    KeepsO b0 (execCanRecover t line seq s) := by
  unfold execCanRecover
  with_reducible
    try conv => arg 2; whnf
    iterate 40 all_goals try ((
      first
        | assumption | intro _ | apply done_keeps | apply rejectRange_keeps | apply runCmd_keeps
        | apply startRecovery_keeps | apply at_keeps | apply keepsO_next | apply keeps_foldl | apply keeps_ite
        | apply keeps_ite2 | apply keepsO_ite | refine memWrite_wf _ _ _ ?_ | refine memWriteBytes_wf _ _ ?_
        | refine Memory.wf_filter _ ?_ | split | exact ⟨rfl, rfl⟩ | rfl | refine keeps_pair (by assumption) ?_
        | refine keeps_same ?_ rfl rfl rfl | refine keeps_out ?_ rfl rfl rfl | refine keeps_new ?_ rfl rfl rfl
        | refine keeps_mem ?_ rfl rfl rfl ?_)
      <;> try conv => arg 2; whnf)

/-! ### Mbx.lean -/

theorem createErr_keeps {b0 : State} (n : Nat) (code : Nat) (s : State) (h : Keeps b0 s) :
    Keeps b0 (createErr n code s) := by
  unfold createErr
  with_reducible
    try conv => arg 2; whnf
    iterate 40 all_goals try ((
      first
        | assumption | intro _ | refine keeps_same ?_ rfl rfl rfl)
      <;> try conv => arg 2; whnf)

theorem markQuanta_keeps {b0 : State} (first : Nat) (n : Nat) (v : Bool) (s : State) (h : Keeps b0 s) :
    Keeps b0 (markQuanta first n v s) := by
  unfold markQuanta
  with_reducible
    try conv => arg 2; whnf
    iterate 40 all_goals try ((
      first
        | assumption | intro _ | apply keeps_ite | refine keeps_same ?_ rfl rfl rfl)
      <;> try conv => arg 2; whnf)

theorem makePair_keeps {b0 : State} (n : Nat) (port : Nat) (depth : Nat) (quanta : Nat) (first : Nat) (bound : Bool) (s : State) (h : Keeps b0 s) :
    Keeps b0 (makePair n port depth quanta first bound s) := by
  unfold makePair
  with_reducible
    try conv => arg 2; whnf
    iterate 40 all_goals try ((
      first
        | assumption | intro _ | apply markQuanta_keeps | refine keeps_same ?_ rfl rfl rfl)
      <;> try conv => arg 2; whnf)

theorem replayPrior_keeps {b0 : State} (n : Nat) (s : State) (h : Keeps b0 s) :
    Keeps b0 (replayPrior n s) := by
  unfold replayPrior
  with_reducible
    try conv => arg 2; whnf
    iterate 40 all_goals try ((
      first
        | assumption | intro _ | apply deliver_keeps | apply keeps_foldl | refine keeps_same ?_ rfl rfl rfl)
      <;> try conv => arg 2; whnf)

theorem v1Advance_keeps {b0 : State} (line : Nat) (s : State) (h : Keeps b0 s) :
    Keeps b0 (v1Advance line s) := by
  unfold v1Advance
  with_reducible
    try conv => arg 2; whnf
    iterate 40 all_goals try ((
      first
        | assumption | intro _ | apply setV1_keeps | refine keeps_same ?_ rfl rfl rfl)
      <;> try conv => arg 2; whnf)

theorem vacatePcie_keeps {b0 : State} (s : State) (h : Keeps b0 s) :
    Keeps b0 (vacatePcie s) := by
  unfold vacatePcie
  with_reducible
    try conv => arg 2; whnf
    iterate 40 all_goals try ((
      first
        | assumption | apply vacateOwner_keeps | apply keeps_ite)
      <;> try conv => arg 2; whnf)

theorem pcieDown_keeps {b0 : State} (s : State) (h : Keeps b0 s) :
    Keeps b0 (pcieDown s) := by
  unfold pcieDown
  with_reducible
    try conv => arg 2; whnf
    iterate 40 all_goals try ((
      first
        | assumption | intro _ | apply clearHostTargets_keeps | apply discardLines_keeps | apply vacatePcie_keeps
        | refine keeps_same ?_ rfl rfl rfl)
      <;> try conv => arg 2; whnf)

theorem execPcieLinkDown_keeps {b0 : State} (t : Nat) (s : State) (h : Keeps b0 s) :
    KeepsO b0 (execPcieLinkDown t s) := by
  unfold execPcieLinkDown
  with_reducible
    try conv => arg 2; whnf
    iterate 40 all_goals try ((
      first
        | assumption | apply pcieDown_keeps | apply at_keeps | apply keepsO_next)
      <;> try conv => arg 2; whnf)

theorem execPcieHotReset_keeps {b0 : State} (t : Nat) (s : State) (h : Keeps b0 s) :
    KeepsO b0 (execPcieHotReset t s) := by
  unfold execPcieHotReset
  with_reducible
    try conv => arg 2; whnf
    iterate 40 all_goals try ((
      first
        | assumption | apply clearHostTargets_keeps | apply discardLines_keeps | apply at_keeps | apply keepsO_next)
      <;> try conv => arg 2; whnf)

theorem execPcieRefclkLoss_keeps {b0 : State} (t : Nat) (s : State) (h : Keeps b0 s) :
    KeepsO b0 (execPcieRefclkLoss t s) := by
  unfold execPcieRefclkLoss
  with_reducible
    try conv => arg 2; whnf
    iterate 40 all_goals try ((
      first
        | assumption | apply pcieDown_keeps | apply at_keeps | apply keepsO_next)
      <;> try conv => arg 2; whnf)

theorem queueCfgWrite_keeps {b0 : State} (n : Nat) (word : Nat) (s : State) (h : Keeps b0 s) :
    Keeps b0 (queueCfgWrite n word s) := by
  unfold queueCfgWrite
  with_reducible
    try conv => arg 2; whnf
    iterate 40 all_goals try ((
      first
        | assumption | intro _ | apply createErr_keeps | apply makePair_keeps | apply mbxErr_keeps
        | apply replayPrior_keeps | apply keeps_ite | exact ⟨rfl, rfl⟩ | refine keeps_same ?_ rfl rfl rfl)
      <;> try conv => arg 2; whnf)

theorem execQueueCreate_keeps {b0 : State} (t : Nat) (n : Nat) (word : Nat) (s : State) (h : Keeps b0 s) :
    KeepsO b0 (execQueueCreate t n word s) := by
  unfold execQueueCreate
  with_reducible
    try conv => arg 2; whnf
    iterate 40 all_goals try ((
      first
        | assumption | apply queueCfgWrite_keeps | apply at_keeps | apply keepsO_next)
      <;> try conv => arg 2; whnf)

theorem execQueueRundown_keeps {b0 : State} (t : Nat) (n : Nat) (s : State) (h : Keeps b0 s) :
    KeepsO b0 (execQueueRundown t n s) := by
  unfold execQueueRundown
  with_reducible
    try conv => arg 2; whnf
    iterate 40 all_goals try ((
      first
        | assumption | apply queueCfgWrite_keeps | apply at_keeps | apply keepsO_next)
      <;> try conv => arg 2; whnf)

theorem rundownDone_keeps {b0 : State} (n : Nat) (s : State) (h : Keeps b0 s) :
    Keeps b0 (rundownDone n s) := by
  unfold rundownDone
  with_reducible
    try conv => arg 2; whnf
    iterate 40 all_goals try ((
      first
        | assumption | intro _ | apply markQuanta_keeps | refine keeps_same ?_ rfl rfl rfl)
      <;> try conv => arg 2; whnf)

theorem execQueueRundownDone_keeps {b0 : State} (t : Nat) (n : Nat) (s : State) (h : Keeps b0 s) :
    KeepsO b0 (execQueueRundownDone t n s) := by
  unfold execQueueRundownDone
  with_reducible
    try conv => arg 2; whnf
    iterate 40 all_goals try ((
      first
        | assumption | apply rundownDone_keeps | apply at_keeps | apply keepsO_next | apply keeps_ite
        | apply keepsO_ite)
      <;> try conv => arg 2; whnf)

theorem sqDoorbell_keeps {b0 : State} (n : Nat) (port : Nat) (tail : Nat) (s : State) (h : Keeps b0 s) :
    Keeps b0 (sqDoorbell n port tail s) := by
  unfold sqDoorbell
  with_reducible
    try conv => arg 2; whnf
    iterate 40 all_goals try ((
      first
        | assumption | intro _ | apply mbxErr_keeps | apply keeps_ite | exact ⟨rfl, rfl⟩
        | refine keeps_same ?_ rfl rfl rfl)
      <;> try conv => arg 2; whnf)

theorem execSqDoorbell_keeps {b0 : State} (t : Nat) (n : Nat) (tail : Nat) (s : State) (h : Keeps b0 s) :
    KeepsO b0 (execSqDoorbell t n tail s) := by
  unfold execSqDoorbell
  with_reducible
    try conv => arg 2; whnf
    iterate 40 all_goals try ((
      first
        | assumption | apply sqDoorbell_keeps | apply at_keeps | apply keepsO_next)
      <;> try conv => arg 2; whnf)

theorem cqDoorbell_keeps {b0 : State} (n : Nat) (port : Nat) (head : Nat) (s : State) (h : Keeps b0 s) :
    Keeps b0 (cqDoorbell n port head s) := by
  unfold cqDoorbell
  with_reducible
    try conv => arg 2; whnf
    iterate 40 all_goals try ((
      first
        | assumption | intro _ | apply flushOwed_keeps | apply mbxErr_keeps | apply keeps_ite | exact ⟨rfl, rfl⟩
        | refine keeps_same ?_ rfl rfl rfl)
      <;> try conv => arg 2; whnf)

theorem execCqDoorbell_keeps {b0 : State} (t : Nat) (n : Nat) (head : Nat) (s : State) (h : Keeps b0 s) :
    KeepsO b0 (execCqDoorbell t n head s) := by
  unfold execCqDoorbell
  with_reducible
    try conv => arg 2; whnf
    iterate 40 all_goals try ((
      first
        | assumption | apply cqDoorbell_keeps | apply at_keeps | apply keepsO_next)
      <;> try conv => arg 2; whnf)

theorem eccCorrected_keeps {b0 : State} (s : State) (h : Keeps b0 s) :
    Keeps b0 (eccCorrected s) := by
  unfold eccCorrected
  with_reducible
    try conv => arg 2; whnf
    iterate 40 all_goals try ((
      first
        | assumption | intro _ | apply fireEvent_keeps | apply raiseError_keeps | apply keeps_ite | split
        | refine keeps_pair (by assumption) ?_ | refine keeps_same ?_ rfl rfl rfl)
      <;> try conv => arg 2; whnf)

theorem execEntryConsume_keeps {b0 : State} (t : Nat) (ecc : Nat) (host : List Nat) (s : State) (h : Keeps b0 s) :
    KeepsO b0 (execEntryConsume t ecc host s) := by
  unfold execEntryConsume
  with_reducible
    try conv => arg 2; whnf
    iterate 40 all_goals try ((
      first
        | assumption | intro _ | apply eccCorrected_keeps | apply raiseError_keeps | apply takeEntry_keeps
        | apply at_keeps | apply keepsO_next | apply keeps_ite | apply keepsO_ite | split
        | refine keeps_pair (by assumption) ?_ | refine keeps_same ?_ rfl rfl rfl)
      <;> try conv => arg 2; whnf)

theorem irqWrite_keeps {b0 : State} (n : Nat) (word : Nat) (s : State) (h : Keeps b0 s) :
    Keeps b0 (irqWrite n word s) := by
  unfold irqWrite
  with_reducible
    try conv => arg 2; whnf
    iterate 40 all_goals try ((
      first
        | assumption | intro _ | apply cqModerate_keeps | apply mbxErr_keeps | apply notifyVectors_keeps
        | apply keeps_ite | exact ⟨rfl, rfl⟩ | refine keeps_same ?_ rfl rfl rfl)
      <;> try conv => arg 2; whnf)

theorem execMbxIrqWrite_keeps {b0 : State} (t : Nat) (n : Nat) (word : Nat) (s : State) (h : Keeps b0 s) :
    KeepsO b0 (execMbxIrqWrite t n word s) := by
  unfold execMbxIrqWrite
  with_reducible
    try conv => arg 2; whnf
    iterate 40 all_goals try ((
      first
        | assumption | apply irqWrite_keeps | apply at_keeps | apply keepsO_next)
      <;> try conv => arg 2; whnf)

theorem execCqIrqTimer_keeps {b0 : State} (t : Nat) (n : Nat) (s : State) (h : Keeps b0 s) :
    KeepsO b0 (execCqIrqTimer t n s) := by
  unfold execCqIrqTimer
  with_reducible
    try conv => arg 2; whnf
    iterate 40 all_goals try ((
      first
        | assumption | apply cqSignal_keeps | apply at_keeps | apply keepsO_next | apply keeps_ite | apply keepsO_ite)
      <;> try conv => arg 2; whnf)

theorem execHostSleepSet_keeps {b0 : State} (t : Nat) (spi : Bool) (asleep : Bool) (s : State) (h : Keeps b0 s) :
    KeepsO b0 (execHostSleepSet t spi asleep s) := by
  unfold execHostSleepSet
  with_reducible
    try conv => arg 2; whnf
    iterate 40 all_goals try ((
      first
        | assumption | intro _ | apply setV1_keeps | apply at_keeps | apply keepsO_next | apply keeps_ite
        | apply keepsO_ite | refine keeps_same ?_ rfl rfl rfl)
      <;> try conv => arg 2; whnf)

theorem dropFrame_keeps {b0 : State} (f : MgmtFrame) (s : State) (h : Keeps b0 s) :
    Keeps b0 (dropFrame f s) := by
  unfold dropFrame
  with_reducible
    try conv => arg 2; whnf
    iterate 40 all_goals try ((
      first
        | assumption | intro _ | apply mbxErr_keeps | exact ⟨rfl, rfl⟩ | refine keeps_same ?_ rfl rfl rfl)
      <;> try conv => arg 2; whnf)

theorem acceptFrame_keeps {b0 : State} (f : MgmtFrame) (s : State) (h : Keeps b0 s) :
    Keeps b0 (acceptFrame f s) := by
  unfold acceptFrame
  with_reducible
    try conv => arg 2; whnf
    iterate 40 all_goals try ((
      first
        | assumption | intro _ | refine keeps_same ?_ rfl rfl rfl)
      <;> try conv => arg 2; whnf)

theorem onFrame_keeps {b0 : State} (f : MgmtFrame) (len : Nat) (body : State → State) (s : State) (hbody : ∀ x, Keeps b0 x → Keeps b0 (body x)) (h : Keeps b0 s) :
    Keeps b0 (onFrame f len body s) := by
  unfold onFrame
  with_reducible
    try conv => arg 2; whnf
    iterate 40 all_goals try ((
      first
        | assumption | intro _ | apply acceptFrame_keeps | apply dropFrame_keeps | apply hbody | apply keeps_ite)
      <;> try conv => arg 2; whnf)

theorem sendCredit_keeps {b0 : State} (n : Nat) (s : State) (h : Keeps b0 s) :
    Keeps b0 (sendCredit n s) := by
  unfold sendCredit
  with_reducible
    try conv => arg 2; whnf
    iterate 40 all_goals try ((
      first
        | assumption | apply sendFrame_keeps)
      <;> try conv => arg 2; whnf)

theorem submitEntries_keeps {b0 : State} (n : Nat) (x0_ : List (List Nat)) (x1_ : Nat) (x2_ : State) (h : Keeps b0 x2_) :
    Keeps b0 (submitEntries n x0_ x1_ x2_) := by
  induction x0_ generalizing x1_ x2_ with
  | nil => exact h
  | cons _ _ ih =>
    unfold submitEntries
    with_reducible
      try conv => arg 2; whnf
      iterate 40 all_goals try ((
        first
          | assumption | intro _ | apply ih | apply keeps_ite | refine memWrite_wf _ _ _ ?_
          | refine memWriteBytes_wf _ _ ?_ | refine Memory.wf_filter _ ?_ | refine keeps_same ?_ rfl rfl rfl
          | refine keeps_mem ?_ rfl rfl rfl ?_)
        <;> try conv => arg 2; whnf)

theorem execMgmtSubmit_keeps {b0 : State} (t : Nat) (f : MgmtFrame) (first : Nat) (entries : List (List Nat)) (s : State) (h : Keeps b0 s) :
    KeepsO b0 (execMgmtSubmit t f first entries s) := by
  unfold execMgmtSubmit
  with_reducible
    try conv => arg 2; whnf
    iterate 40 all_goals try ((
      first
        | assumption | intro _ | apply mbxErr_keeps | apply onFrame_keeps | apply sendCredit_keeps
        | apply submitEntries_keeps | apply at_keeps | apply keepsO_next | apply keeps_ite | apply keepsO_ite
        | exact ⟨rfl, rfl⟩ | refine keeps_same ?_ rfl rfl rfl)
      <;> try conv => arg 2; whnf)

theorem execMgmtHostCredit_keeps {b0 : State} (t : Nat) (f : MgmtFrame) (head : Nat) (s : State) (h : Keeps b0 s) :
    KeepsO b0 (execMgmtHostCredit t f head s) := by
  unfold execMgmtHostCredit
  with_reducible
    try conv => arg 2; whnf
    iterate 40 all_goals try ((
      first
        | assumption | apply cqDoorbell_keeps | apply onFrame_keeps | apply at_keeps | apply keepsO_next)
      <;> try conv => arg 2; whnf)

theorem execMgmtData_keeps {b0 : State} (t : Nat) (f : MgmtFrame) (ofs : Nat) (data : List Nat) (s : State) (h : Keeps b0 s) :
    KeepsO b0 (execMgmtData t f ofs data s) := by
  unfold execMgmtData
  with_reducible
    try conv => arg 2; whnf
    iterate 40 all_goals try ((
      first
        | assumption | intro _ | apply mbxErr_keeps | apply onFrame_keeps | apply at_keeps | apply keepsO_next
        | apply keeps_ite | apply keepsO_ite | refine memWrite_wf _ _ _ ?_ | refine memWriteBytes_wf _ _ ?_
        | refine Memory.wf_filter _ ?_ | exact ⟨rfl, rfl⟩ | refine keeps_same ?_ rfl rfl rfl
        | refine keeps_mem ?_ rfl rfl rfl ?_)
      <;> try conv => arg 2; whnf)

theorem execMgmtCreditTimer_keeps {b0 : State} (t : Nat) (n : Nat) (s : State) (h : Keeps b0 s) :
    KeepsO b0 (execMgmtCreditTimer t n s) := by
  unfold execMgmtCreditTimer
  with_reducible
    try conv => arg 2; whnf
    iterate 40 all_goals try ((
      first
        | assumption | apply sendCredit_keeps | apply at_keeps | apply keepsO_next | apply keeps_ite
        | apply keepsO_ite)
      <;> try conv => arg 2; whnf)

theorem execMgmtResendTimer_keeps {b0 : State} (t : Nat) (n : Nat) (s : State) (h : Keeps b0 s) :
    KeepsO b0 (execMgmtResendTimer t n s) := by
  unfold execMgmtResendTimer
  with_reducible
    try conv => arg 2; whnf
    iterate 40 all_goals try ((
      first
        | assumption | intro _ | apply sendComplete_keeps | apply at_keeps | apply keepsO_next | apply keeps_foldl
        | apply keeps_ite | apply keepsO_ite)
      <;> try conv => arg 2; whnf)

theorem execArpRequest_keeps {b0 : State} (t : Nat) (mac : Nat) (addr : Nat) (s : State) (h : Keeps b0 s) :
    KeepsO b0 (execArpRequest t mac addr s) := by
  unfold execArpRequest
  with_reducible
    try conv => arg 2; whnf
    iterate 40 all_goals try ((
      first
        | assumption | apply emit_keeps | apply at_keeps | apply keepsO_next | apply keeps_ite | apply keepsO_ite)
      <;> try conv => arg 2; whnf)

theorem execIcmpEcho_keeps {b0 : State} (t : Nat) (mac : Nat) (addr : Nat) (data : List Nat) (s : State) (h : Keeps b0 s) :
    KeepsO b0 (execIcmpEcho t mac addr data s) := by
  unfold execIcmpEcho
  with_reducible
    try conv => arg 2; whnf
    iterate 40 all_goals try ((
      first
        | assumption | apply emit_keeps | apply at_keeps | apply keepsO_next | apply keeps_ite | apply keepsO_ite)
      <;> try conv => arg 2; whnf)

theorem replayPriorV1_keeps {b0 : State} (line : Nat) (s : State) (h : Keeps b0 s) :
    Keeps b0 (replayPriorV1 line s) := by
  unfold replayPriorV1
  with_reducible
    try conv => arg 2; whnf
    iterate 40 all_goals try ((
      first
        | assumption | intro _ | apply deliver_keeps | apply keeps_foldl | refine keeps_same ?_ rfl rfl rfl)
      <;> try conv => arg 2; whnf)

theorem v1Go_keeps {b0 : State} (line : Nat) (s : State) (h : Keeps b0 s) :
    Keeps b0 (v1Go line s) := by
  unfold v1Go
  with_reducible
    try conv => arg 2; whnf
    iterate 40 all_goals try ((
      first
        | assumption | intro _ | apply mbxErr_keeps | apply replayPriorV1_keeps | apply setV1_keeps
        | apply takeEntry_keeps | apply keeps_ite | exact ⟨rfl, rfl⟩ | refine keeps_same ?_ rfl rfl rfl)
      <;> try conv => arg 2; whnf)

theorem execV1Go_keeps {b0 : State} (t : Nat) (spi : Bool) (s : State) (h : Keeps b0 s) :
    KeepsO b0 (execV1Go t spi s) := by
  unfold execV1Go
  with_reducible
    try conv => arg 2; whnf
    iterate 40 all_goals try ((
      first
        | assumption | apply v1Go_keeps | apply at_keeps | apply keepsO_next | apply keeps_ite | apply keepsO_ite)
      <;> try conv => arg 2; whnf)

theorem v1DoneClear_keeps {b0 : State} (line : Nat) (s : State) (h : Keeps b0 s) :
    Keeps b0 (v1DoneClear line s) := by
  unfold v1DoneClear
  with_reducible
    try conv => arg 2; whnf
    iterate 40 all_goals try ((
      first
        | assumption | intro _ | apply done_keeps | apply setV1_keeps | apply v1Write_keeps | split
        | refine keeps_pair (by assumption) ?_ | refine keeps_same ?_ rfl rfl rfl)
      <;> try conv => arg 2; whnf)

theorem execV1DoneClear_keeps {b0 : State} (t : Nat) (spi : Bool) (s : State) (h : Keeps b0 s) :
    KeepsO b0 (execV1DoneClear t spi s) := by
  unfold execV1DoneClear
  with_reducible
    try conv => arg 2; whnf
    iterate 40 all_goals try ((
      first
        | assumption | apply v1DoneClear_keeps | apply at_keeps | apply keepsO_next | apply keeps_ite
        | apply keepsO_ite)
      <;> try conv => arg 2; whnf)

theorem v1DataWrite_keeps {b0 : State} (line : Nat) (word : Nat) (s : State) (h : Keeps b0 s) :
    Keeps b0 (v1DataWrite line word s) := by
  unfold v1DataWrite
  with_reducible
    try conv => arg 2; whnf
    iterate 40 all_goals try ((
      first
        | assumption | intro _ | apply setV1_keeps | apply v1Advance_keeps | refine memWrite_wf _ _ _ ?_
        | refine memWriteBytes_wf _ _ ?_ | refine Memory.wf_filter _ ?_ | refine keeps_same ?_ rfl rfl rfl)
      <;> try conv => arg 2; whnf)

theorem execV1DdataAccess_keeps {b0 : State} (t : Nat) (spi : Bool) (write : Bool) (word : Nat) (s : State) (h : Keeps b0 s) :
    KeepsO b0 (execV1DdataAccess t spi write word s) := by
  unfold execV1DdataAccess
  with_reducible
    try conv => arg 2; whnf
    iterate 40 all_goals try ((
      first
        | assumption | apply emit_keeps | apply v1Advance_keeps | apply v1DataWrite_keeps | apply at_keeps
        | apply keepsO_next | apply keeps_ite | apply keepsO_ite)
      <;> try conv => arg 2; whnf)

theorem v1RegWrite_keeps {b0 : State} (line : Nat) (ofs : Nat) (word : Nat) (s : State) (h : Keeps b0 s) :
    Keeps b0 (v1RegWrite line ofs word s) := by
  unfold v1RegWrite
  with_reducible
    try conv => arg 2; whnf
    iterate 40 all_goals try ((
      first
        | assumption | intro _ | apply setV1_keeps | apply v1DataWrite_keeps | apply v1DoneClear_keeps
        | apply v1Go_keeps | apply keeps_ite | refine keeps_same ?_ rfl rfl rfl)
      <;> try conv => arg 2; whnf)

theorem spiWords_keeps {b0 : State} (x0_ : List Nat) (x1_ : Nat) (x2_ : State) (h : Keeps b0 x2_) :
    Keeps b0 (spiWords x0_ x1_ x2_) := by
  induction x0_ generalizing x1_ x2_ with
  | nil => exact h
  | cons _ _ ih =>
    unfold spiWords
    with_reducible
      try conv => arg 2; whnf
      iterate 40 all_goals try ((
        first
          | assumption | apply ih | apply countAccess_keeps | apply v1RegWrite_keeps | apply keeps_ite)
        <;> try conv => arg 2; whnf)

theorem execSpiWrite_keeps {b0 : State} (t : Nat) (addr : Nat) (words : List Nat) (crc : Nat) (s : State) (h : Keeps b0 s) :
    KeepsO b0 (execSpiWrite t addr words crc s) := by
  unfold execSpiWrite
  with_reducible
    try conv => arg 2; whnf
    iterate 40 all_goals try ((
      first
        | assumption | intro _ | apply spiWords_keeps | apply at_keeps | apply keepsO_next | apply keeps_ite
        | apply keepsO_ite | refine keeps_same ?_ rfl rfl rfl)
      <;> try conv => arg 2; whnf)

/-! ### CfgLoad.lean -/

theorem Memory.wf_foldl {α : Type} {l : List α} {f : Memory → α → Memory} {m : Memory} (h : Memory.wf m = true)
    (k : ∀ x a, Memory.wf x = true → Memory.wf (f x a) = true) : Memory.wf (l.foldl f m) = true := by
  induction l generalizing m with
  | nil => exact h
  | cons a l ih => exact ih (k _ _ h)

theorem loadWord_wf {m : Memory} (sec tgt ofs v : Nat) (h : Memory.wf m = true) :
    Memory.wf (loadWord sec tgt ofs v m) = true := memWrite_wf _ _ _ h

theorem loadByte_wf {m : Memory} (sec tgt ofs v mb cb : Nat) (h : Memory.wf m = true) :
    Memory.wf (loadByte sec tgt ofs v mb cb m) = true := by
  unfold loadByte
  dsimp only
  split
  · exact h
  · exact memSet_wf _ _ h

/-- Clearing the CFG bits of a byte leaves the memory in its form. -/
theorem clearCfg_wf {m : Memory} (h : Memory.wf m = true) : Memory.wf (clearCfg m) = true := by
  refine Memory.wf_filterMap _ (fun c d e => ?_) h
  dsimp only at e
  split at e
  · cases e
  · rename_i hv
    cases e
    refine ⟨rfl, ?_⟩
    have : c.2.toNat - (c.2.toNat &&& cfgByteMask c.1) < 256 := lt_of_le_of_lt (Nat.sub_le _ _) c.2.isLt
    rw [BitVec.toNat_ofNat, Nat.mod_eq_of_lt this]
    exact hv

/-- An entry that restarts leaves the memory in its form. -/
theorem restartEntry_wf (s : State) (ofs : Nat) {m : Memory} (h : Memory.wf m = true) : Memory.wf (restartEntry s ofs m) = true := by
  have h1 := Memory.wf_foldl (l := List.range 128) (f := fun x k => memSet x (0x50000000 + ofs + k)
    (memGet x (0x50000000 + ofs + k) &&& (ramMask 0x10 0x100 (ofs + k) ||| ramMask 0x11 0x100 (ofs + k)))) h
    fun _ _ hx => memSet_wf _ _ hx
  unfold restartEntry
  dsimp only
  split
  · exact memWrite_wf _ _ _ (memWrite_wf _ _ _ (memSet_wf _ _ h1))
  · split
    · exact h1
    · exact h

theorem loadRec_keeps {b0 : State} (src : Memory) (mb : Nat) (cb : Nat) (s : State) (r : CfgRec) (h : Keeps b0 s) :
    Keeps b0 (loadRec src mb cb s r) := by
  unfold loadRec
  with_reducible
    try conv => arg 2; whnf
    iterate 40 all_goals try ((
      first
        | assumption | intro _ | apply Memory.wf_foldl | apply loadWord_wf | apply loadByte_wf | apply clearCfg_wf
        | apply restartEntry_wf | apply keeps_foldl | apply keeps_ite | refine memWrite_wf _ _ _ ?_
        | refine memWriteBytes_wf _ _ ?_ | refine Memory.wf_filter _ ?_ | refine keeps_same ?_ rfl rfl rfl
        | refine keeps_mem ?_ rfl rfl rfl ?_)
      <;> try conv => arg 2; whnf)

theorem slotComputed_keeps {b0 : State} (s : State) (h : Keeps b0 s) :
    Keeps b0 (slotComputed s) := by
  unfold slotComputed
  with_reducible
    try conv => arg 2; whnf
    iterate 40 all_goals try ((
      first
        | assumption | intro _ | apply Memory.wf_foldl | apply loadWord_wf | apply loadByte_wf | apply clearCfg_wf
        | apply restartEntry_wf | apply keeps_foldl | apply keeps_ite | apply keeps_ite2 | refine memWrite_wf _ _ _ ?_
        | refine memWriteBytes_wf _ _ ?_ | refine Memory.wf_filter _ ?_ | split | exact ⟨rfl, rfl⟩ | rfl
        | refine keeps_pair (by assumption) ?_ | refine keeps_same ?_ rfl rfl rfl | refine keeps_out ?_ rfl rfl rfl
        | refine keeps_new ?_ rfl rfl rfl | refine keeps_mem ?_ rfl rfl rfl ?_)
      <;> try conv => arg 2; whnf)

theorem dfltField_keeps {b0 : State} (rs : List CfgRec) (ofs : Nat) (width : Nat) (v : Nat) (s : State) (h : Keeps b0 s) :
    Keeps b0 (dfltField rs ofs width v s) := by
  unfold dfltField
  with_reducible
    try conv => arg 2; whnf
    iterate 40 all_goals try ((
      first
        | assumption | intro _ | apply Memory.wf_foldl | apply loadWord_wf | apply loadByte_wf | apply clearCfg_wf
        | apply restartEntry_wf | apply keeps_ite | refine memWrite_wf _ _ _ ?_ | refine memWriteBytes_wf _ _ ?_
        | refine Memory.wf_filter _ ?_ | refine keeps_same ?_ rfl rfl rfl | refine keeps_mem ?_ rfl rfl rfl ?_)
      <;> try conv => arg 2; whnf)

theorem dfltMap_keeps {b0 : State} (rs : List CfgRec) (mb : Nat) (ofs : Nat) (width : Nat) (v : Nat) (s : State) (h : Keeps b0 s) :
    Keeps b0 (dfltMap rs mb ofs width v s) := by
  unfold dfltMap
  with_reducible
    try conv => arg 2; whnf
    iterate 40 all_goals try ((
      first
        | assumption | intro _ | apply Memory.wf_foldl | apply loadWord_wf | apply loadByte_wf | apply clearCfg_wf
        | apply restartEntry_wf | apply keeps_ite | refine memWrite_wf _ _ _ ?_ | refine memWriteBytes_wf _ _ ?_
        | refine Memory.wf_filter _ ?_ | refine keeps_same ?_ rfl rfl rfl | refine keeps_mem ?_ rfl rfl rfl ?_)
      <;> try conv => arg 2; whnf)

theorem sluiceDefaults_keeps {b0 : State} (rs : List CfgRec) (ids : List Nat) (mb : Nat) (s : State) (h : Keeps b0 s) :
    Keeps b0 (sluiceDefaults rs ids mb s) := by
  unfold sluiceDefaults
  with_reducible
    try conv => arg 2; whnf
    iterate 40 all_goals try ((
      first
        | assumption | intro _ | apply dfltField_keeps | apply dfltMap_keeps | apply Memory.wf_foldl
        | apply loadWord_wf | apply loadByte_wf | apply clearCfg_wf | apply restartEntry_wf | apply keeps_foldl
        | apply keeps_ite | refine memWrite_wf _ _ _ ?_ | refine memWriteBytes_wf _ _ ?_
        | refine Memory.wf_filter _ ?_ | refine keeps_same ?_ rfl rfl rfl | refine keeps_mem ?_ rfl rfl rfl ?_)
      <;> try conv => arg 2; whnf)

theorem applySections_keeps {b0 : State} (ids : List Nat) (mb : Nat) (cb : Nat) (s : State) (h : Keeps b0 s) :
    Keeps b0 (applySections ids mb cb s) := by
  unfold applySections
  with_reducible
    try conv => arg 2; whnf
    iterate 40 all_goals try ((
      first
        | assumption | intro _ | apply loadRec_keeps | apply slotComputed_keeps | apply sluiceDefaults_keeps
        | apply Memory.wf_foldl | apply loadWord_wf | apply loadByte_wf | apply clearCfg_wf | apply restartEntry_wf
        | apply keeps_foldl | refine memWrite_wf _ _ _ ?_ | refine memWriteBytes_wf _ _ ?_
        | refine Memory.wf_filter _ ?_ | split | refine keeps_pair (by assumption) ?_
        | refine keeps_same ?_ rfl rfl rfl)
      <;> try conv => arg 2; whnf)

theorem keepWords_keeps {b0 : State} (addrs : List Nat) (old : State) (new : State) (h : Keeps b0 new) :
    Keeps b0 (keepWords addrs old new) := by
  unfold keepWords
  with_reducible
    try conv => arg 2; whnf
    iterate 40 all_goals try ((
      first
        | assumption | intro _ | apply wrw_keeps | apply Memory.wf_foldl | apply loadWord_wf | apply loadByte_wf
        | apply clearCfg_wf | apply restartEntry_wf | apply keeps_foldl)
      <;> try conv => arg 2; whnf)

theorem applyDue_keeps {b0 : State} (ids : List Nat) (s : State) (h : Keeps b0 s) :
    Keeps b0 (applyDue ids s) := by
  unfold applyDue
  with_reducible
    try conv => arg 2; whnf
    iterate 40 all_goals try ((
      first
        | assumption | intro _ | apply applySections_keeps | apply keepWords_keeps | apply Memory.wf_foldl
        | apply loadWord_wf | apply loadByte_wf | apply clearCfg_wf | apply restartEntry_wf | apply keeps_ite
        | refine keeps_same ?_ rfl rfl rfl)
      <;> try conv => arg 2; whnf)

theorem endNeutral_keeps {b0 : State} (s : State) (h : Keeps b0 s) :
    Keeps b0 (endNeutral s) := by
  unfold endNeutral
  with_reducible
    try conv => arg 2; whnf
    iterate 40 all_goals try ((
      first
        | assumption | intro _ | apply finishAccepted_keeps | apply Memory.wf_foldl | apply loadWord_wf
        | apply loadByte_wf | apply clearCfg_wf | apply restartEntry_wf | apply keeps_ite | split
        | refine keeps_pair (by assumption) ?_ | refine keeps_same ?_ rfl rfl rfl)
      <;> try conv => arg 2; whnf)

theorem takeNeutral_keeps {b0 : State} (ids : List Nat) (s : State) (h : Keeps b0 s) :
    Keeps b0 (takeNeutral ids s) := by
  unfold takeNeutral
  with_reducible
    try conv => arg 2; whnf
    iterate 40 all_goals try ((
      first
        | assumption | intro _ | apply applyDue_keeps | apply endNeutral_keeps | apply Memory.wf_foldl
        | apply loadWord_wf | apply loadByte_wf | apply clearCfg_wf | apply restartEntry_wf | apply keeps_ite | split
        | refine keeps_pair (by assumption) ?_ | refine keeps_same ?_ rfl rfl rfl)
      <;> try conv => arg 2; whnf)

theorem putMap_keeps {b0 : State} (m : SlotMap) (s : State) (h : Keeps b0 s) :
    Keeps b0 (putMap m s) := by
  unfold putMap
  with_reducible
    try conv => arg 2; whnf
    iterate 40 all_goals try ((
      first
        | assumption | intro _ | apply fireEvent_keeps | apply Memory.wf_foldl | apply loadWord_wf | apply loadByte_wf
        | apply clearCfg_wf | apply restartEntry_wf | refine memWrite_wf _ _ _ ?_ | refine memWriteBytes_wf _ _ ?_
        | refine Memory.wf_filter _ ?_ | refine keeps_same ?_ rfl rfl rfl | refine keeps_mem ?_ rfl rfl rfl ?_)
      <;> try conv => arg 2; whnf)

theorem coefDone_keeps {b0 : State} (s : State) (h : Keeps b0 s) :
    Keeps b0 (coefDone s) := by
  unfold coefDone
  with_reducible
    try conv => arg 2; whnf
    iterate 40 all_goals try ((
      first
        | assumption | intro _ | apply endNeutral_keeps | apply Memory.wf_foldl | apply loadWord_wf
        | apply loadByte_wf | apply clearCfg_wf | apply restartEntry_wf | apply keeps_ite | split
        | refine keeps_pair (by assumption) ?_ | refine keeps_same ?_ rfl rfl rfl)
      <;> try conv => arg 2; whnf)

theorem switchOver_keeps {b0 : State} (s : State) (h : Keeps b0 s) :
    Keeps b0 (switchOver s) := by
  unfold switchOver
  with_reducible
    try conv => arg 2; whnf
    iterate 40 all_goals try ((
      first
        | assumption | intro _ | apply fireEvent_keeps | apply Memory.wf_foldl | apply loadWord_wf | apply loadByte_wf
        | apply clearCfg_wf | apply restartEntry_wf | apply keeps_ite | refine keeps_same ?_ rfl rfl rfl)
      <;> try conv => arg 2; whnf)

theorem startCoef_keeps {b0 : State} (s : State) (h : Keeps b0 s) :
    Keeps b0 (startCoef s) := by
  unfold startCoef
  with_reducible
    try conv => arg 2; whnf
    iterate 40 all_goals try ((
      first
        | assumption | intro _ | apply applySections_keeps | apply coefDone_keeps | apply switchOver_keeps
        | apply Memory.wf_foldl | apply loadWord_wf | apply loadByte_wf | apply clearCfg_wf | apply restartEntry_wf
        | apply keeps_ite | split | refine keeps_pair (by assumption) ?_ | refine keeps_same ?_ rfl rfl rfl)
      <;> try conv => arg 2; whnf)

theorem takeIdle_keeps {b0 : State} (s : State) (h : Keeps b0 s) :
    Keeps b0 (takeIdle s) := by
  unfold takeIdle
  with_reducible
    try conv => arg 2; whnf
    iterate 40 all_goals try ((
      first
        | assumption | apply startCoef_keeps | apply takeNeutral_keeps | apply Memory.wf_foldl | apply loadWord_wf
        | apply loadByte_wf | apply clearCfg_wf | apply restartEntry_wf | apply keeps_ite)
      <;> try conv => arg 2; whnf)

theorem loadDefaults_keeps {b0 : State} (s : State) (h : Keeps b0 s) :
    Keeps b0 (loadDefaults s) := by
  unfold loadDefaults
  with_reducible
    try conv => arg 2; whnf
    iterate 40 all_goals try ((
      first
        | assumption | intro _ | apply wrf_keeps | apply Memory.wf_foldl | apply loadWord_wf | apply loadByte_wf
        | apply clearCfg_wf | apply restartEntry_wf | apply keeps_foldl)
      <;> try conv => arg 2; whnf)

theorem loadImage_keeps {b0 : State} (base : Nat) (s : State) (h : Keeps b0 s) :
    Keeps b0 (loadImage base s) := by
  unfold loadImage
  with_reducible
    try conv => arg 2; whnf
    iterate 40 all_goals try ((
      first
        | assumption | intro _ | apply loadDefaults_keeps | apply loadRec_keeps | apply slotComputed_keeps
        | apply sluiceDefaults_keeps | apply Memory.wf_foldl | apply loadWord_wf | apply loadByte_wf
        | apply clearCfg_wf | apply restartEntry_wf | apply keeps_foldl | refine memWrite_wf _ _ _ ?_
        | refine memWriteBytes_wf _ _ ?_ | refine Memory.wf_filter _ ?_ | refine keeps_same ?_ rfl rfl rfl
        | refine keeps_mem ?_ rfl rfl rfl ?_)
      <;> try conv => arg 2; whnf)

theorem bindPairs_keeps {b0 : State} (s : State) (h : Keeps b0 s) :
    Keeps b0 (bindPairs s) := by
  unfold bindPairs
  with_reducible
    try conv => arg 2; whnf
    iterate 40 all_goals try ((
      first
        | assumption | intro _ | apply createErr_keeps | apply makePair_keeps | apply replayPrior_keeps
        | apply Memory.wf_foldl | apply loadWord_wf | apply loadByte_wf | apply clearCfg_wf | apply restartEntry_wf
        | apply keeps_foldl | apply keeps_ite | split | refine keeps_pair (by assumption) ?_
        | refine keeps_same ?_ rfl rfl rfl)
      <;> try conv => arg 2; whnf)

theorem reclaimHtr_keeps {b0 : State} (s : State) (h : Keeps b0 s) :
    Keeps b0 (reclaimHtr s) := by
  unfold reclaimHtr
  with_reducible
    try conv => arg 2; whnf
    iterate 40 all_goals try ((
      first
        | assumption | intro _ | apply Memory.wf_foldl | apply loadWord_wf | apply loadByte_wf | apply clearCfg_wf
        | apply restartEntry_wf | apply keeps_ite | refine keeps_same ?_ rfl rfl rfl)
      <;> try conv => arg 2; whnf)

theorem applyLoaded_keeps {b0 : State} (s : State) (h : Keeps b0 s) :
    Keeps b0 (applyLoaded s) := by
  unfold applyLoaded
  with_reducible
    try conv => arg 2; whnf
    iterate 40 all_goals try ((
      first
        | assumption | intro _ | apply wrf_keeps | apply Memory.wf_foldl | apply loadWord_wf | apply loadByte_wf
        | apply clearCfg_wf | apply restartEntry_wf | apply keeps_ite | refine keeps_same ?_ rfl rfl rfl)
      <;> try conv => arg 2; whnf)

theorem imageReadErr_keeps {b0 : State} (a : Nat) (s : State) (h : Keeps b0 s) :
    Keeps b0 (imageReadErr a s) := by
  unfold imageReadErr
  with_reducible
    try conv => arg 2; whnf
    iterate 40 all_goals try ((
      first
        | assumption | intro _ | apply xsp0ReadErr_keeps | apply Memory.wf_foldl | apply loadWord_wf
        | apply loadByte_wf | apply clearCfg_wf | apply restartEntry_wf | apply keeps_ite
        | refine memWrite_wf _ _ _ ?_ | refine memWriteBytes_wf _ _ ?_ | refine Memory.wf_filter _ ?_)
      <;> try conv => arg 2; whnf)

theorem loadConfig_keeps {b0 : State} (okA : Bool) (okP : Bool) (s : State) (h : Keeps b0 s) :
    Keeps b0 (loadConfig okA okP s) := by
  unfold loadConfig
  with_reducible
    try conv => arg 2; whnf
    iterate 40 all_goals try ((
      first
        | assumption | intro _ | apply applyLoaded_keeps | apply bindPairs_keeps | apply imageReadErr_keeps
        | apply loadDefaults_keeps | apply loadImage_keeps | apply putMap_keeps | apply raiseError_keeps
        | apply reclaimHtr_keeps | apply Memory.wf_foldl | apply loadWord_wf | apply loadByte_wf | apply clearCfg_wf
        | apply restartEntry_wf | apply keeps_ite | refine memWrite_wf _ _ _ ?_ | refine memWriteBytes_wf _ _ ?_
        | refine Memory.wf_filter _ ?_ | split | refine keeps_pair (by assumption) ?_
        | refine keeps_same ?_ rfl rfl rfl | refine keeps_mem ?_ rfl rfl rfl ?_)
      <;> try conv => arg 2; whnf)

theorem startDeciding_keeps {b0 : State} (s : State) (h : Keeps b0 s) :
    Keeps b0 (startDeciding s) := by
  unfold startDeciding
  with_reducible
    try conv => arg 2; whnf
    iterate 40 all_goals try ((
      first
        | assumption | intro _ | apply stopClaim_keeps | apply Memory.wf_foldl | apply loadWord_wf | apply loadByte_wf
        | apply clearCfg_wf | apply restartEntry_wf | apply keeps_ite | refine keeps_same ?_ rfl rfl rfl)
      <;> try conv => arg 2; whnf)

theorem finishSwap_keeps {b0 : State} (s : State) (h : Keeps b0 s) :
    Keeps b0 (finishSwap s) := by
  unfold finishSwap
  with_reducible
    try conv => arg 2; whnf
    iterate 40 all_goals try ((
      first
        | assumption | apply coefDone_keeps | apply startCoef_keeps | apply switchOver_keeps | apply Memory.wf_foldl
        | apply loadWord_wf | apply loadByte_wf | apply clearCfg_wf | apply restartEntry_wf)
      <;> try conv => arg 2; whnf)

theorem settleJob_keeps {b0 : State} (s : State) (h : Keeps b0 s) :
    Keeps b0 (settleJob s) := by
  unfold settleJob
  with_reducible
    try conv => arg 2; whnf
    iterate 40 all_goals try ((
      first
        | assumption | intro _ | apply endNeutral_keeps | apply Memory.wf_foldl | apply loadWord_wf
        | apply loadByte_wf | apply clearCfg_wf | apply restartEntry_wf | apply keeps_ite | split
        | refine keeps_pair (by assumption) ?_ | refine keeps_same ?_ rfl rfl rfl)
      <;> try conv => arg 2; whnf)

theorem legalOff_keeps {b0 : State} (s : State) (h : Keeps b0 s) :
    Keeps b0 (legalOff s) := by
  unfold legalOff
  with_reducible
    try conv => arg 2; whnf
    iterate 40 all_goals try ((
      first
        | assumption | intro _ | apply clearCause_keeps | apply errCleared_keeps | apply Memory.wf_foldl
        | apply loadWord_wf | apply loadByte_wf | apply clearCfg_wf | apply restartEntry_wf | apply keeps_ite
        | refine keeps_same ?_ rfl rfl rfl)
      <;> try conv => arg 2; whnf)

theorem cfgEvents_keeps {b0 : State} (before : State) (s : State) (h : Keeps b0 s) :
    Keeps b0 (cfgEvents before s) := by
  unfold cfgEvents
  with_reducible
    try conv => arg 2; whnf
    iterate 40 all_goals try ((
      first
        | assumption | apply fireEvent_keeps | apply Memory.wf_foldl | apply loadWord_wf | apply loadByte_wf
        | apply clearCfg_wf | apply restartEntry_wf | apply keeps_ite)
      <;> try conv => arg 2; whnf)

theorem enterConfig_keeps {b0 : State} (okA : Bool) (okP : Bool) (s : State) (h : Keeps b0 s) :
    Keeps b0 (enterConfig okA okP s) := by
  unfold enterConfig
  with_reducible
    try conv => arg 2; whnf
    iterate 40 all_goals try ((
      first
        | assumption | apply cfgEvents_keeps | apply legalOff_keeps | apply loadConfig_keeps | apply settleJob_keeps
        | apply sourcesLoaded_keeps | apply startDeciding_keeps | apply Memory.wf_foldl | apply loadWord_wf
        | apply loadByte_wf | apply clearCfg_wf | apply restartEntry_wf)
      <;> try conv => arg 2; whnf)

theorem toM3_keeps {b0 : State} (s : State) (h : Keeps b0 s) :
    Keeps b0 (toM3 s) := by
  unfold toM3
  with_reducible
    try conv => arg 2; whnf
    iterate 40 all_goals try ((
      first
        | assumption | apply enterConfig_keeps | apply setMode_keeps | apply Memory.wf_foldl | apply loadWord_wf
        | apply loadByte_wf | apply clearCfg_wf | apply restartEntry_wf)
      <;> try conv => arg 2; whnf)

theorem reloadSluice_keeps {b0 : State} (s : State) (h : Keeps b0 s) :
    Keeps b0 (reloadSluice s) := by
  unfold reloadSluice
  with_reducible
    try conv => arg 2; whnf
    iterate 40 all_goals try ((
      first
        | assumption | intro _ | apply Memory.wf_foldl | apply loadWord_wf | apply loadByte_wf | apply clearCfg_wf
        | apply restartEntry_wf | apply keeps_foldl | apply keeps_ite | apply keeps_ite2 | refine memWrite_wf _ _ _ ?_
        | refine memWriteBytes_wf _ _ ?_ | refine Memory.wf_filter _ ?_ | split | exact ⟨rfl, rfl⟩ | rfl
        | refine keeps_pair (by assumption) ?_ | refine keeps_same ?_ rfl rfl rfl | refine keeps_out ?_ rfl rfl rfl
        | refine keeps_new ?_ rfl rfl rfl | refine keeps_mem ?_ rfl rfl rfl ?_)
      <;> try conv => arg 2; whnf)

/-! ### Pwm.lean -/

theorem markSet_keeps {b0 : State} (g : Nat) (s : State) (h : Keeps b0 s) :
    Keeps b0 (markSet g s) := by
  unfold markSet
  with_reducible
    try conv => arg 2; whnf
    iterate 40 all_goals try ((
      first
        | assumption | intro _ | apply setPg_keeps | refine keeps_same ?_ rfl rfl rfl)
      <;> try conv => arg 2; whnf)

theorem requestGate_keeps {b0 : State} (s : State) (h : Keeps b0 s) :
    Keeps b0 (requestGate s) := by
  unfold requestGate
  with_reducible
    try conv => arg 2; whnf
    iterate 40 all_goals try ((
      first
        | assumption | intro _ | apply setMode_keeps | apply keeps_ite | refine keeps_same ?_ rfl rfl rfl)
      <;> try conv => arg 2; whnf)

theorem runEnd_keeps {b0 : State} (s : State) (h : Keeps b0 s) :
    Keeps b0 (runEnd s) := by
  unfold runEnd
  with_reducible
    try conv => arg 2; whnf
    iterate 40 all_goals try ((
      first
        | assumption | apply setMode_keeps | apply keeps_ite)
      <;> try conv => arg 2; whnf)

theorem sumOutputs_keeps {b0 : State} (s : State) (h : Keeps b0 s) :
    Keeps b0 (sumOutputs s) := by
  unfold sumOutputs
  with_reducible
    try conv => arg 2; whnf
    iterate 40 all_goals try ((
      first
        | assumption | intro _ | apply keeps_foldl | refine keeps_same ?_ rfl rfl rfl
        | refine keeps_out ?_ rfl rfl rfl)
      <;> try conv => arg 2; whnf)

theorem updStage_keeps {b0 : State} (s : State) (h : Keeps b0 s) :
    Keeps b0 (updStage s) := by
  unfold updStage
  with_reducible
    try conv => arg 2; whnf
    iterate 40 all_goals try ((
      first
        | assumption | apply setLim_keeps)
      <;> try conv => arg 2; whnf)

theorem tripGroup_keeps {b0 : State} (g : Nat) (cause : Nat) (s : State) (h : Keeps b0 s) :
    Keeps b0 (tripGroup g cause s) := by
  unfold tripGroup
  with_reducible
    try conv => arg 2; whnf
    iterate 40 all_goals try ((
      first
        | assumption | intro _ | apply cancelTracking_keeps | apply emptyGroup_keeps | apply fireEvent_keeps
        | apply groupLegsOff_keeps | apply setPg_keeps | apply startOpening_keeps | apply updStage_keeps
        | apply keeps_ite | split | refine keeps_pair (by assumption) ?_ | refine keeps_same ?_ rfl rfl rfl)
      <;> try conv => arg 2; whnf)

theorem readMain_keeps {b0 : State} (c : Nat) (bits : List Bool) (s : State) (h : Keeps b0 s) :
    Keeps b0 (readMain c bits s) := by
  unfold readMain
  with_reducible
    try conv => arg 2; whnf
    iterate 40 all_goals try ((
      first
        | assumption | intro _ | refine keeps_same ?_ rfl rfl rfl)
      <;> try conv => arg 2; whnf)

theorem settle_keeps {b0 : State} (s : State) (h : Keeps b0 s) :
    Keeps b0 (settle s) := by
  unfold settle
  with_reducible
    try conv => arg 2; whnf
    iterate 40 all_goals try ((
      first
        | assumption | apply runEnd_keeps | apply keeps_ite)
      <;> try conv => arg 2; whnf)

theorem unplaceLeg_keeps {b0 : State} (k : Nat) (s : State) (h : Keeps b0 s) :
    Keeps b0 (unplaceLeg k s) := by
  unfold unplaceLeg
  with_reducible
    try conv => arg 2; whnf
    iterate 40 all_goals try ((
      first
        | assumption | intro _ | refine keeps_same ?_ rfl rfl rfl)
      <;> try conv => arg 2; whnf)

theorem legOff_keeps {b0 : State} (k : Nat) (s : State) (h : Keeps b0 s) :
    Keeps b0 (legOff k s) := by
  unfold legOff
  with_reducible
    try conv => arg 2; whnf
    iterate 40 all_goals try ((
      first
        | assumption | apply clearSharing_keeps | apply markSet_keeps | apply setLeg_keeps | apply unplaceLeg_keeps)
      <;> try conv => arg 2; whnf)

theorem reSpread_keeps {b0 : State} (g : Nat) (s : State) (h : Keeps b0 s) :
    Keeps b0 (reSpread g s) := by
  unfold reSpread
  with_reducible
    try conv => arg 2; whnf
    iterate 40 all_goals try ((
      first
        | assumption | intro _ | apply clearSharing_keeps | apply setLeg_keeps | apply setPg_keeps
        | apply unplaceLeg_keeps | apply keeps_foldl | apply keeps_ite | refine keeps_same ?_ rfl rfl rfl)
      <;> try conv => arg 2; whnf)

theorem trackValley_keeps {b0 : State} (g : Nat) (s : State) (h : Keeps b0 s) :
    Keeps b0 (trackValley g s) := by
  unfold trackValley
  with_reducible
    try conv => arg 2; whnf
    iterate 40 all_goals try ((
      first
        | assumption | intro _ | apply ctrDrive_keeps | apply mtxDrive_keeps | apply setPg_keeps | apply keeps_ite
        | split | refine keeps_pair (by assumption) ?_ | refine keeps_same ?_ rfl rfl rfl)
      <;> try conv => arg 2; whnf)

theorem brakeLegs_keeps {b0 : State} (n : Nat) (s : State) (h : Keeps b0 s) :
    Keeps b0 (brakeLegs n s) := by
  unfold brakeLegs
  with_reducible
    try conv => arg 2; whnf
    iterate 40 all_goals try ((
      first
        | assumption | intro _ | apply keeps_ite | refine keeps_same ?_ rfl rfl rfl)
      <;> try conv => arg 2; whnf)

theorem startBrake_keeps {b0 : State} (n : Nat) (byVoltage : Bool) (s : State) (h : Keeps b0 s) :
    Keeps b0 (startBrake n byVoltage s) := by
  unfold startBrake
  with_reducible
    try conv => arg 2; whnf
    iterate 40 all_goals try ((
      first
        | assumption | intro _ | apply brakeLegs_keeps | apply fireEvent_keeps | apply setOut_keeps | apply keeps_ite
        | refine keeps_same ?_ rfl rfl rfl)
      <;> try conv => arg 2; whnf)

theorem brakeCheck_keeps {b0 : State} (g : Nat) (s : State) (h : Keeps b0 s) :
    Keeps b0 (brakeCheck g s) := by
  unfold brakeCheck
  with_reducible
    try conv => arg 2; whnf
    iterate 40 all_goals try ((
      first
        | assumption | intro _ | apply setOut_keeps | apply startBrake_keeps | apply keeps_foldl | apply keeps_ite
        | refine keeps_same ?_ rfl rfl rfl)
      <;> try conv => arg 2; whnf)

theorem checkDischarged_keeps {b0 : State} (g : Nat) (s : State) (h : Keeps b0 s) :
    Keeps b0 (checkDischarged g s) := by
  unfold checkDischarged
  with_reducible
    try conv => arg 2; whnf
    iterate 40 all_goals try ((
      first
        | assumption | intro _ | apply groupLegsStop_keeps | apply setOut_keeps | apply setPg_keeps
        | apply keeps_foldl | apply keeps_ite | refine keeps_same ?_ rfl rfl rfl)
      <;> try conv => arg 2; whnf)

theorem countTrigger_keeps {b0 : State} (g : Nat) (s : State) (h : Keeps b0 s) :
    Keeps b0 (countTrigger g s) := by
  unfold countTrigger
  with_reducible
    try conv => arg 2; whnf
    iterate 40 all_goals try ((
      first
        | assumption | intro _ | apply setPg_keeps | apply keeps_ite | refine keeps_same ?_ rfl rfl rfl)
      <;> try conv => arg 2; whnf)

theorem takeValley_keeps {b0 : State} (g : Nat) (vg : List Bool) (s0 : State) (h : Keeps b0 s0) :
    Keeps b0 (takeValley g vg s0) := by
  unfold takeValley
  with_reducible
    try conv => arg 2; whnf
    iterate 40 all_goals try ((
      first
        | assumption | intro _ | apply readMain_keeps | apply setPg_keeps | refine keeps_same ?_ rfl rfl rfl)
      <;> try conv => arg 2; whnf)

theorem groupValley_keeps {b0 : State} (g : Nat) (vg : List Bool) (s : State) (h : Keeps b0 s) :
    Keeps b0 (groupValley g vg s) := by
  unfold groupValley
  with_reducible
    try conv => arg 2; whnf
    iterate 40 all_goals try ((
      first
        | assumption | apply brakeCheck_keeps | apply checkDischarged_keeps | apply countTrigger_keeps
        | apply reSpread_keeps | apply settle_keeps | apply sumOutputs_keeps | apply takeValley_keeps
        | apply trackValley_keeps | apply keeps_ite)
      <;> try conv => arg 2; whnf)

theorem execGroupValley_keeps {b0 : State} (t : Nat) (g : Nat) (vg : List Bool) (s : State) (h : Keeps b0 s) :
    KeepsO b0 (execGroupValley t g vg s) := by
  unfold execGroupValley
  with_reducible
    try conv => arg 2; whnf
    iterate 40 all_goals try ((
      first
        | assumption | apply groupValley_keeps | apply at_keeps | apply keepsO_next | apply keeps_ite
        | apply keepsO_ite)
      <;> try conv => arg 2; whnf)

theorem execRespreadDone_keeps {b0 : State} (t : Nat) (g : Nat) (s : State) (h : Keeps b0 s) :
    KeepsO b0 (execRespreadDone t g s) := by
  unfold execRespreadDone
  with_reducible
    try conv => arg 2; whnf
    iterate 40 all_goals try ((
      first
        | assumption | intro _ | apply fireEvent_keeps | apply setPg_keeps | apply at_keeps | apply keepsO_next
        | apply keeps_ite | apply keepsO_ite | refine keeps_same ?_ rfl rfl rfl)
      <;> try conv => arg 2; whnf)

theorem computeDg_keeps {b0 : State} (g : Nat) (s : State) (h : Keeps b0 s) :
    Keeps b0 (computeDg g s) := by
  unfold computeDg
  with_reducible
    try conv => arg 2; whnf
    iterate 40 all_goals try ((
      first
        | assumption | intro _ | apply drawFree_keeps | apply fireEvent_keeps | apply raiseError_keeps
        | apply setPg_keeps | apply keeps_foldl | apply keeps_ite | apply keeps_ite2 | refine memWrite_wf _ _ _ ?_
        | refine memWriteBytes_wf _ _ ?_ | refine Memory.wf_filter _ ?_ | split | exact ⟨rfl, rfl⟩ | rfl
        | refine keeps_pair (by assumption) ?_ | refine keeps_same ?_ rfl rfl rfl | refine keeps_out ?_ rfl rfl rfl
        | refine keeps_new ?_ rfl rfl rfl | refine keeps_mem ?_ rfl rfl rfl ?_)
      <;> try conv => arg 2; whnf)

theorem legValley_keeps {b0 : State} (k : Nat) (s : State) (h : Keeps b0 s) :
    Keeps b0 (legValley k s) := by
  unfold legValley
  with_reducible
    try conv => arg 2; whnf
    iterate 40 all_goals try ((
      first
        | assumption | intro _ | apply setLeg_keeps | apply keeps_ite | refine keeps_same ?_ rfl rfl rfl)
      <;> try conv => arg 2; whnf)

theorem takeLegValley_keeps {b0 : State} (k : Nat) (current : List Bool) (s : State) (h : Keeps b0 s) :
    Keeps b0 (takeLegValley k current s) := by
  unfold takeLegValley
  with_reducible
    try conv => arg 2; whnf
    iterate 40 all_goals try ((
      first
        | assumption | intro _ | apply legOff_keeps | apply legValley_keeps | apply readMain_keeps
        | apply setLeg_keeps | apply settle_keeps | apply keeps_ite | refine keeps_same ?_ rfl rfl rfl)
      <;> try conv => arg 2; whnf)

theorem loadLeg_keeps {b0 : State} (k : Nat) (s : State) (h : Keeps b0 s) :
    Keeps b0 (loadLeg k s) := by
  unfold loadLeg
  with_reducible
    try conv => arg 2; whnf
    iterate 40 all_goals try ((
      first
        | assumption | intro _ | apply computeDg_keeps | apply setLeg_keeps | refine keeps_same ?_ rfl rfl rfl)
      <;> try conv => arg 2; whnf)

theorem execPwmLoadPoint_keeps {b0 : State} (t : Nat) (leg : Nat) (peak : Bool) (current : List Bool) (s : State) (h : Keeps b0 s) :
    KeepsO b0 (execPwmLoadPoint t leg peak current s) := by
  unfold execPwmLoadPoint
  with_reducible
    try conv => arg 2; whnf
    iterate 40 all_goals try ((
      first
        | assumption | apply loadLeg_keeps | apply takeLegValley_keeps | apply at_keeps | apply keepsO_next
        | apply keeps_ite | apply keepsO_ite)
      <;> try conv => arg 2; whnf)

theorem linkTrip_keeps {b0 : State} (k : Nat) (cause : Nat) (ev : Nat) (e : ErrSpec) (since : Option Nat) (s : State) (h : Keeps b0 s) :
    Keeps b0 (linkTrip k cause ev e since s) := by
  unfold linkTrip
  with_reducible
    try conv => arg 2; whnf
    iterate 40 all_goals try ((
      first
        | assumption | intro _ | apply fireEvent_keeps | apply raiseError_keeps | apply tripGroup_keeps
        | apply keeps_foldl | apply keeps_ite | split | refine keeps_pair (by assumption) ?_
        | refine keeps_same ?_ rfl rfl rfl)
      <;> try conv => arg 2; whnf)

theorem linkCheck_keeps {b0 : State} (k : Nat) (v : Int) (s : State) (h : Keeps b0 s) :
    Keeps b0 (linkCheck k v s) := by
  unfold linkCheck
  with_reducible
    try conv => arg 2; whnf
    iterate 40 all_goals try ((
      first
        | assumption | intro _ | apply errCleared_keeps | apply linkTrip_keeps | apply keeps_ite
        | refine keeps_same ?_ rfl rfl rfl)
      <;> try conv => arg 2; whnf)

theorem readAllMain_keeps {b0 : State} (chans : List (List Bool)) (s : State) (h : Keeps b0 s) :
    Keeps b0 (readAllMain chans s) := by
  unfold readAllMain
  with_reducible
    try conv => arg 2; whnf
    iterate 40 all_goals try ((
      first
        | assumption | intro _ | refine keeps_same ?_ rfl rfl rfl)
      <;> try conv => arg 2; whnf)

theorem execDclinkCheck_keeps {b0 : State} (t : Nat) (chans : List (List Bool)) (s : State) (h : Keeps b0 s) :
    KeepsO b0 (execDclinkCheck t chans s) := by
  unfold execDclinkCheck
  with_reducible
    try conv => arg 2; whnf
    iterate 40 all_goals try ((
      first
        | assumption | apply linkCheck_keeps | apply readAllMain_keeps | apply at_keeps | apply keepsO_next)
      <;> try conv => arg 2; whnf)

theorem limitPeriod_keeps {b0 : State} (k : Nat) (high : Bool) (s : State) (h : Keeps b0 s) :
    Keeps b0 (limitPeriod k high s) := by
  unfold limitPeriod
  with_reducible
    try conv => arg 2; whnf
    iterate 40 all_goals try ((
      first
        | assumption | intro _ | apply setLeg_keeps | apply keeps_ite | refine keeps_same ?_ rfl rfl rfl)
      <;> try conv => arg 2; whnf)

theorem execLegOcLimit_keeps {b0 : State} (t : Nat) (leg : Nat) (fast : List Bool) (s : State) (h : Keeps b0 s) :
    KeepsO b0 (execLegOcLimit t leg fast s) := by
  unfold execLegOcLimit
  with_reducible
    try conv => arg 2; whnf
    iterate 40 all_goals try ((
      first
        | assumption | apply limitPeriod_keeps | apply at_keeps | apply keepsO_next | apply keeps_ite
        | apply keepsO_ite)
      <;> try conv => arg 2; whnf)

theorem crowbarLegEnd_keeps {b0 : State} (k : Nat) (s : State) (h : Keeps b0 s) :
    Keeps b0 (crowbarLegEnd k s) := by
  unfold crowbarLegEnd
  with_reducible
    try conv => arg 2; whnf
    iterate 40 all_goals try ((
      first
        | assumption | apply legOff_keeps | apply keeps_ite)
      <;> try conv => arg 2; whnf)

theorem execLegOcNeg_keeps {b0 : State} (t : Nat) (leg : Nat) (fast : List Bool) (s : State) (h : Keeps b0 s) :
    KeepsO b0 (execLegOcNeg t leg fast s) := by
  unfold execLegOcNeg
  with_reducible
    try conv => arg 2; whnf
    iterate 40 all_goals try ((
      first
        | assumption | apply crowbarLegEnd_keeps | apply limitPeriod_keeps | apply at_keeps | apply keepsO_next
        | apply keeps_ite | apply keepsO_ite)
      <;> try conv => arg 2; whnf)

theorem latchLeg_keeps {b0 : State} (k : Nat) (st : LegState) (seen : Bool) (e : ErrSpec) (s : State) (h : Keeps b0 s) :
    Keeps b0 (latchLeg k st seen e s) := by
  unfold latchLeg
  with_reducible
    try conv => arg 2; whnf
    iterate 40 all_goals try ((
      first
        | assumption | intro _ | apply fireEvent_keeps | apply legOff_keeps | apply raiseError_keeps
        | apply setLeg_keeps | apply updStage_keeps | refine keeps_same ?_ rfl rfl rfl)
      <;> try conv => arg 2; whnf)

theorem latchOc_keeps {b0 : State} (k : Nat) (trip : Bool) (s : State) (h : Keeps b0 s) :
    Keeps b0 (latchOc k trip s) := by
  unfold latchOc
  with_reducible
    try conv => arg 2; whnf
    iterate 40 all_goals try ((
      first
        | assumption | intro _ | apply latchLeg_keeps | apply setLeg_keeps | apply keeps_ite | split
        | refine keeps_pair (by assumption) ?_ | refine keeps_same ?_ rfl rfl rfl)
      <;> try conv => arg 2; whnf)

theorem execLegOcTrip_keeps {b0 : State} (t : Nat) (leg : Nat) (fast : List Bool) (s : State) (h : Keeps b0 s) :
    KeepsO b0 (execLegOcTrip t leg fast s) := by
  unfold execLegOcTrip
  with_reducible
    try conv => arg 2; whnf
    iterate 40 all_goals try ((
      first
        | assumption | intro _ | apply latchOc_keeps | apply legOff_keeps | apply setLeg_keeps | apply at_keeps
        | apply keepsO_next | apply keeps_ite | apply keepsO_ite | refine keeps_same ?_ rfl rfl rfl)
      <;> try conv => arg 2; whnf)

theorem execLegOcLatch_keeps {b0 : State} (t : Nat) (leg : Nat) (s : State) (h : Keeps b0 s) :
    KeepsO b0 (execLegOcLatch t leg s) := by
  unfold execLegOcLatch
  with_reducible
    try conv => arg 2; whnf
    iterate 40 all_goals try ((
      first
        | assumption | apply latchOc_keeps | apply at_keeps | apply keepsO_next | apply keeps_ite | apply keepsO_ite)
      <;> try conv => arg 2; whnf)

theorem latchGate_keeps {b0 : State} (k : Nat) (s : State) (h : Keeps b0 s) :
    Keeps b0 (latchGate k s) := by
  unfold latchGate
  with_reducible
    try conv => arg 2; whnf
    iterate 40 all_goals try ((
      first
        | assumption | apply latchLeg_keeps | apply tripGroup_keeps | apply keeps_ite)
      <;> try conv => arg 2; whnf)

theorem execGfltFault_keeps {b0 : State} (t : Nat) (leg : Nat) (low : Bool) (s : State) (h : Keeps b0 s) :
    KeepsO b0 (execGfltFault t leg low s) := by
  unfold execGfltFault
  with_reducible
    try conv => arg 2; whnf
    iterate 40 all_goals try ((
      first
        | assumption | intro _ | apply errCleared_keeps | apply latchGate_keeps | apply setLeg_keeps | apply at_keeps
        | apply keepsO_next | apply keeps_ite | apply keepsO_ite | refine keeps_same ?_ rfl rfl rfl)
      <;> try conv => arg 2; whnf)

theorem gateRise_keeps {b0 : State} (s : State) (h : Keeps b0 s) :
    Keeps b0 (gateRise s) := by
  unfold gateRise
  with_reducible
    try conv => arg 2; whnf
    iterate 40 all_goals try ((
      first
        | assumption | intro _ | apply latchGate_keeps | apply keeps_foldl | apply keeps_ite)
      <;> try conv => arg 2; whnf)

end Sys2Proof.Machine
end

