-- ==== Sys2Proof/Laws/KeepsFamilies2.lean ====
section
/-! SUPPORT. Every operation of Cbl.lean, Evg.lean, Contactor.lean, Trans.lean, PwrCmd.lean, Lpe.lean keeps what `Keeps` says. -/

set_option linter.unusedTactic false
set_option linter.unreachableTactic false

namespace Sys2Proof.Machine

/-! ### Cbl.lean -/

theorem setCbl_keeps {b0 : State} (n : Nat) (f : CblOp → CblOp) (s : State) (h : Keeps b0 s) :
    Keeps b0 (setCbl n f s) := by
  unfold setCbl
  with_reducible
    try conv => arg 2; whnf
    iterate 40 all_goals try ((
      first
        | assumption | intro _ | refine keeps_same ?_ rfl rfl rfl)
      <;> try conv => arg 2; whnf)

theorem cblEvent_keeps {b0 : State} (n : Nat) (e : Nat) (s : State) (h : Keeps b0 s) :
    Keeps b0 (cblEvent n e s) := by
  unfold cblEvent
  with_reducible
    try conv => arg 2; whnf
    iterate 40 all_goals try ((
      first
        | assumption | apply fireEvent_keeps)
      <;> try conv => arg 2; whnf)

theorem updThermal_keeps {b0 : State} (s : State) (h : Keeps b0 s) :
    Keeps b0 (updThermal s) := by
  unfold updThermal
  with_reducible
    try conv => arg 2; whnf
    iterate 40 all_goals try ((
      first
        | assumption | apply setLim_keeps)
      <;> try conv => arg 2; whnf)

theorem setCap_keeps {b0 : State} (n : Nat) (ma : Nat) (s : State) (h : Keeps b0 s) :
    Keeps b0 (setCap n ma s) := by
  unfold setCap
  with_reducible
    try conv => arg 2; whnf
    iterate 40 all_goals try ((
      first
        | assumption | intro _ | apply cblEvent_keeps | apply postCap_keeps | apply setCbl_keeps | apply keeps_ite
        | refine keeps_same ?_ rfl rfl rfl)
      <;> try conv => arg 2; whnf)

theorem checkSensors_keeps {b0 : State} (n : Nat) (s : State) (h : Keeps b0 s) :
    Keeps b0 (checkSensors n s) := by
  unfold checkSensors
  with_reducible
    try conv => arg 2; whnf
    iterate 40 all_goals try ((
      first
        | assumption | intro _ | apply cblEvent_keeps | apply errCleared_keeps | apply raiseError_keeps
        | apply setCbl_keeps | apply updThermal_keeps | apply keeps_ite | refine keeps_same ?_ rfl rfl rfl)
      <;> try conv => arg 2; whnf)

theorem checkHot_keeps {b0 : State} (n : Nat) (hot : Bool) (s : State) (h : Keeps b0 s) :
    Keeps b0 (checkHot n hot s) := by
  unfold checkHot
  with_reducible
    try conv => arg 2; whnf
    iterate 40 all_goals try ((
      first
        | assumption | intro _ | apply cblEvent_keeps | apply errCleared_keeps | apply raiseError_keeps
        | apply setCbl_keeps | apply updThermal_keeps | apply keeps_ite | refine keeps_same ?_ rfl rfl rfl)
      <;> try conv => arg 2; whnf)

theorem checkTrip_keeps {b0 : State} (n : Nat) (s : State) (h : Keeps b0 s) :
    Keeps b0 (checkTrip n s) := by
  unfold checkTrip
  with_reducible
    try conv => arg 2; whnf
    iterate 40 all_goals try ((
      first
        | assumption | intro _ | apply cblEvent_keeps | apply errCleared_keeps | apply raiseError_keeps
        | apply setCap_keeps | apply setCbl_keeps | apply updThermal_keeps | apply keeps_ite
        | refine keeps_same ?_ rfl rfl rfl)
      <;> try conv => arg 2; whnf)

theorem execRtdConversion_keeps {b0 : State} (t : Nat) (ts : List Int) (bad : List Nat) (s : State) (h : Keeps b0 s) :
    KeepsO b0 (execRtdConversion t ts bad s) := by
  unfold execRtdConversion
  with_reducible
    try conv => arg 2; whnf
    iterate 40 all_goals try ((
      first
        | assumption | intro _ | apply checkSensors_keeps | apply checkTrip_keeps | apply at_keeps | apply keepsO_next
        | apply keeps_foldl | apply keeps_ite | apply keepsO_ite | refine keeps_same ?_ rfl rfl rfl)
      <;> try conv => arg 2; whnf)

theorem execFlowLost_keeps {b0 : State} (t : Nat) (k : Nat) (s : State) (h : Keeps b0 s) :
    KeepsO b0 (execFlowLost t k s) := by
  unfold execFlowLost
  with_reducible
    try conv => arg 2; whnf
    iterate 40 all_goals try ((
      first
        | assumption | intro _ | apply checkSensors_keeps | apply at_keeps | apply keepsO_next | apply keeps_foldl
        | apply keeps_ite | apply keepsO_ite | refine keeps_same ?_ rfl rfl rfl)
      <;> try conv => arg 2; whnf)

theorem execCblFlow_keeps {b0 : State} (t : Nat) (n : Nat) (s : State) (h : Keeps b0 s) :
    KeepsO b0 (execCblFlow t n s) := by
  unfold execCblFlow
  with_reducible
    try conv => arg 2; whnf
    iterate 40 all_goals try ((
      first
        | assumption | intro _ | apply raiseError_keeps | apply setCbl_keeps | apply updThermal_keeps | apply at_keeps
        | apply keepsO_next | apply keeps_ite | apply keepsO_ite | refine keeps_same ?_ rfl rfl rfl)
      <;> try conv => arg 2; whnf)

theorem judgeLife_keeps {b0 : State} (n : Nat) (s : State) (h : Keeps b0 s) :
    Keeps b0 (judgeLife n s) := by
  unfold judgeLife
  with_reducible
    try conv => arg 2; whnf
    iterate 40 all_goals try ((
      first
        | assumption | intro _ | apply cblEvent_keeps | apply chipSend_keeps | apply raiseError_keeps
        | apply setCbl_keeps | apply keeps_ite | refine keeps_same ?_ rfl rfl rfl)
      <;> try conv => arg 2; whnf)

theorem lifeFinish_keeps {b0 : State} (n : Nat) (a : State) (h : Keeps b0 a) :
    Keeps b0 (lifeFinish n a) := by
  unfold lifeFinish
  with_reducible
    try conv => arg 2; whnf
    iterate 40 all_goals try ((
      first
        | assumption | intro _ | apply finishAccepted_keeps | apply setCbl_keeps | split
        | refine keeps_pair (by assumption) ?_ | refine keeps_same ?_ rfl rfl rfl)
      <;> try conv => arg 2; whnf)

theorem lifeStore_keeps {b0 : State} (n : Nat) (acked : List Bool) (ctr : List Nat) (s : State) (h : Keeps b0 s) :
    Keeps b0 (lifeStore n acked ctr s) := by
  unfold lifeStore
  with_reducible
    try conv => arg 2; whnf
    iterate 40 all_goals try ((
      first
        | assumption | intro _ | apply cblEvent_keeps | apply chipSend_keeps | apply judgeLife_keeps
        | apply raiseError_keeps | apply setCbl_keeps | apply keeps_ite | refine keeps_same ?_ rfl rfl rfl)
      <;> try conv => arg 2; whnf)

theorem execLifeWrite_keeps {b0 : State} (t : Nat) (n : Nat) (present : Bool) (acked : List Bool) (ctr : List Nat) (s : State) (h : Keeps b0 s) :
    KeepsO b0 (execLifeWrite t n present acked ctr s) := by
  unfold execLifeWrite
  with_reducible
    try conv => arg 2; whnf
    iterate 40 all_goals try ((
      first
        | assumption | intro _ | apply cblEvent_keeps | apply lifeFinish_keeps | apply lifeStore_keeps
        | apply raiseError_keeps | apply setCbl_keeps | apply at_keeps | apply keepsO_next | apply keeps_ite
        | apply keepsO_ite | refine keeps_same ?_ rfl rfl rfl)
      <;> try conv => arg 2; whnf)

theorem execLifeHourly_keeps {b0 : State} (t : Nat) (n : Nat) (s : State) (h : Keeps b0 s) :
    KeepsO b0 (execLifeHourly t n s) := by
  unfold execLifeHourly
  with_reducible
    try conv => arg 2; whnf
    iterate 40 all_goals try ((
      first
        | assumption | apply lifeBegin_keeps | apply at_keeps | apply keepsO_next | apply keeps_ite | apply keepsO_ite)
      <;> try conv => arg 2; whnf)

theorem execLifePendingSave_keeps {b0 : State} (t : Nat) (s : State) (h : Keeps b0 s) :
    KeepsO b0 (execLifePendingSave t s) := by
  unfold execLifePendingSave
  with_reducible
    try conv => arg 2; whnf
    iterate 40 all_goals try ((
      first
        | assumption | apply keepPending_keeps | apply at_keeps | apply keepsO_next)
      <;> try conv => arg 2; whnf)

theorem ambientTemp_keeps {b0 : State} (s : State) (n : Nat) (h : Keeps b0 s) :
    Keeps b0 (ambientTemp s n).2 := by
  unfold ambientTemp
  with_reducible
    try conv => arg 2; whnf
    iterate 40 all_goals try ((
      first
        | assumption | intro _ | apply drawFreeInt_keeps | apply keeps_foldl | apply keeps_ite | apply keeps_ite2
        | refine memWrite_wf _ _ _ ?_ | refine memWriteBytes_wf _ _ ?_ | refine Memory.wf_filter _ ?_ | split
        | exact ⟨rfl, rfl⟩ | rfl | refine keeps_pair (by assumption) ?_ | refine keeps_same ?_ rfl rfl rfl
        | refine keeps_out ?_ rfl rfl rfl | refine keeps_new ?_ rfl rfl rfl | refine keeps_mem ?_ rfl rfl rfl ?_)
      <;> try conv => arg 2; whnf)

theorem searchFlow_keeps {b0 : State} (s : State) (n : Nat) (h : Keeps b0 s) :
    Keeps b0 (searchFlow s n).2 := by
  unfold searchFlow
  with_reducible
    try conv => arg 2; whnf
    iterate 40 all_goals try ((
      first
        | assumption | apply drawFree_keeps)
      <;> try conv => arg 2; whnf)

theorem riseCap_keeps {b0 : State} (n : Nat) (iS : Nat) (s : State) (h : Keeps b0 s) :
    Keeps b0 (riseCap n iS s) := by
  unfold riseCap
  with_reducible
    try conv => arg 2; whnf
    iterate 40 all_goals try ((
      first
        | assumption | apply setCap_keeps | apply keeps_ite)
      <;> try conv => arg 2; whnf)

theorem searchStep_keeps {b0 : State} (n : Nat) (tin : Rat) (s : State) (h : Keeps b0 s) :
    Keeps b0 (searchStep n tin s) := by
  unfold searchStep
  with_reducible
    try conv => arg 2; whnf
    iterate 40 all_goals try ((
      first
        | assumption | intro _ | apply ambientTemp_keeps | apply checkHot_keeps | apply searchFlow_keeps
        | apply setCbl_keeps | refine keeps_same ?_ rfl rfl rfl)
      <;> try conv => arg 2; whnf)

theorem mirrorCable_keeps {b0 : State} (n : Nat) (s : State) (h : Keeps b0 s) :
    Keeps b0 (mirrorCable n s) := by
  unfold mirrorCable
  with_reducible
    try conv => arg 2; whnf
    iterate 40 all_goals try ((
      first
        | assumption | apply mirrorSend_keeps | apply keeps_ite)
      <;> try conv => arg 2; whnf)

theorem modelStep_keeps {b0 : State} (n : Nat) (s : State) (h : Keeps b0 s) :
    Keeps b0 (modelStep n s) := by
  unfold modelStep
  with_reducible
    try conv => arg 2; whnf
    iterate 40 all_goals try ((
      first
        | assumption | intro _ | apply ambientTemp_keeps | apply mirrorCable_keeps | apply riseCap_keeps
        | apply searchStep_keeps | apply setCbl_keeps | apply stopSession_keeps | apply keeps_ite
        | refine keeps_same ?_ rfl rfl rfl)
      <;> try conv => arg 2; whnf)

theorem flowBack_keeps {b0 : State} (n : Nat) (b : State) (h : Keeps b0 b) :
    Keeps b0 (flowBack n b) := by
  unfold flowBack
  with_reducible
    try conv => arg 2; whnf
    iterate 40 all_goals try ((
      first
        | assumption | intro _ | apply errCleared_keeps | apply setCbl_keeps | apply updThermal_keeps
        | apply keeps_ite | refine keeps_same ?_ rfl rfl rfl)
      <;> try conv => arg 2; whnf)

theorem execCableModelStep_keeps {b0 : State} (t : Nat) (flow : List Nat) (s : State) (h : Keeps b0 s) :
    KeepsO b0 (execCableModelStep t flow s) := by
  unfold execCableModelStep
  with_reducible
    try conv => arg 2; whnf
    iterate 40 all_goals try ((
      first
        | assumption | intro _ | apply checkSensors_keeps | apply flowBack_keeps | apply modelStep_keeps
        | apply takeNeutral_keeps | apply at_keeps | apply keepsO_next | apply keeps_foldl | apply keeps_ite
        | apply keepsO_ite | refine keeps_same ?_ rfl rfl rfl)
      <;> try conv => arg 2; whnf)

theorem endAuth_keeps {b0 : State} (n : Nat) (outcome : Nat) (s : State) (h : Keeps b0 s) :
    Keeps b0 (endAuth n outcome s) := by
  unfold endAuth
  with_reducible
    try conv => arg 2; whnf
    iterate 40 all_goals try ((
      first
        | assumption | intro _ | apply done_keeps | apply setCbl_keeps | split | refine keeps_pair (by assumption) ?_
        | refine keeps_same ?_ rfl rfl rfl)
      <;> try conv => arg 2; whnf)

theorem takePending_keeps {b0 : State} (n : Nat) (s : State) (h : Keeps b0 s) :
    Keeps b0 (takePending n s) := by
  unfold takePending
  with_reducible
    try conv => arg 2; whnf
    iterate 40 all_goals try ((
      first
        | assumption | intro _ | apply raiseError_keeps | apply setCbl_keeps | apply keeps_ite | split
        | refine keeps_pair (by assumption) ?_ | refine keeps_same ?_ rfl rfl rfl)
      <;> try conv => arg 2; whnf)

theorem authDone_keeps {b0 : State} (n : Nat) (s : State) (h : Keeps b0 s) :
    Keeps b0 (authDone n s) := by
  unfold authDone
  with_reducible
    try conv => arg 2; whnf
    iterate 40 all_goals try ((
      first
        | assumption | intro _ | apply cblEvent_keeps | apply checkSensors_keeps | apply endAuth_keeps
        | apply judgeLife_keeps | apply lifeBegin_keeps | apply searchStep_keeps | apply sessEnter_keeps
        | apply setCap_keeps | apply setCbl_keeps | apply takePending_keeps | apply keeps_ite
        | refine keeps_same ?_ rfl rfl rfl)
      <;> try conv => arg 2; whnf)

theorem readRecord_keeps {b0 : State} (n : Nat) (s : State) (h : Keeps b0 s) :
    Keeps b0 (readRecord n s) := by
  unfold readRecord
  with_reducible
    try conv => arg 2; whnf
    iterate 40 all_goals try ((
      first
        | assumption | intro _ | apply chipSend_keeps | apply keeps_foldl)
      <;> try conv => arg 2; whnf)

theorem challengeChip_keeps {b0 : State} (n : Nat) (s : State) (h : Keeps b0 s) :
    Keeps b0 (challengeChip n s) := by
  unfold challengeChip
  with_reducible
    try conv => arg 2; whnf
    iterate 40 all_goals try ((
      first
        | assumption | apply chipSend_keeps | apply drawTrng_keeps)
      <;> try conv => arg 2; whnf)

theorem execCableAuthComplete_keeps {b0 : State} (t : Nat) (n : Nat) (present : Bool) (sigOk : Bool) (chalOk : Bool) (record : List Nat) (ctr : List Nat) (s : State) (h : Keeps b0 s) :
    KeepsO b0 (execCableAuthComplete t n present sigOk chalOk record ctr s) := by
  unfold execCableAuthComplete
  with_reducible
    try conv => arg 2; whnf
    iterate 40 all_goals try ((
      first
        | assumption | intro _ | apply authDone_keeps | apply cblEvent_keeps | apply challengeChip_keeps
        | apply endAuth_keeps | apply raiseError_keeps | apply readRecord_keeps | apply setCbl_keeps | apply at_keeps
        | apply keepsO_next | apply keeps_ite | apply keepsO_ite | refine keeps_same ?_ rfl rfl rfl)
      <;> try conv => arg 2; whnf)

theorem coolSend_keeps {b0 : State} (c : Nat) (m : Nat) (v : Nat) (s : State) (h : Keeps b0 s) :
    Keeps b0 (coolSend c m v s) := by
  unfold coolSend
  with_reducible
    try conv => arg 2; whnf
    iterate 40 all_goals try ((
      first
        | assumption | intro _ | apply requestSend_keeps | apply keeps_ite | refine memWrite_wf _ _ _ ?_
        | refine memWriteBytes_wf _ _ ?_ | refine Memory.wf_filter _ ?_ | refine keeps_same ?_ rfl rfl rfl
        | refine keeps_mem ?_ rfl rfl rfl ?_)
      <;> try conv => arg 2; whnf)

theorem coolCommand_keeps {b0 : State} (k : Nat) (v : Nat) (s : State) (h : Keeps b0 s) :
    Keeps b0 (coolCommand k v s) := by
  unfold coolCommand
  with_reducible
    try conv => arg 2; whnf
    iterate 40 all_goals try ((
      first
        | assumption | intro _ | apply coolSend_keeps | apply lswDrive_keeps | apply keeps_ite | split
        | refine keeps_pair (by assumption) ?_ | refine keeps_same ?_ rfl rfl rfl)
      <;> try conv => arg 2; whnf)

theorem execCoolCanResend_keeps {b0 : State} (t : Nat) (k : Nat) (s : State) (h : Keeps b0 s) :
    KeepsO b0 (execCoolCanResend t k s) := by
  unfold execCoolCanResend
  with_reducible
    try conv => arg 2; whnf
    iterate 40 all_goals try ((
      first
        | assumption | apply coolSend_keeps | apply at_keeps | apply keepsO_next | apply keeps_ite | apply keepsO_ite)
      <;> try conv => arg 2; whnf)

theorem execCblStatus_keeps {b0 : State} (t : Nat) (line : Nat) (seq : Nat) (s : State) (h : Keeps b0 s) :
    KeepsO b0 (execCblStatus t line seq s) := by
  unfold execCblStatus
  with_reducible
    try conv => arg 2; whnf
    iterate 40 all_goals try ((
      first
        | assumption | intro _ | apply doneOut_keeps | apply runCmd_keeps | apply at_keeps | apply keepsO_next
        | apply keeps_foldl | apply keeps_ite | apply keeps_ite2 | apply keepsO_ite | refine memWrite_wf _ _ _ ?_
        | refine memWriteBytes_wf _ _ ?_ | refine Memory.wf_filter _ ?_ | split | exact ⟨rfl, rfl⟩ | rfl
        | refine keeps_pair (by assumption) ?_ | refine keeps_same ?_ rfl rfl rfl | refine keeps_out ?_ rfl rfl rfl
        | refine keeps_new ?_ rfl rfl rfl | refine keeps_mem ?_ rfl rfl rfl ?_)
      <;> try conv => arg 2; whnf)

theorem execCblRecordRead_keeps {b0 : State} (t : Nat) (line : Nat) (seq : Nat) (s : State) (h : Keeps b0 s) :
    KeepsO b0 (execCblRecordRead t line seq s) := by
  unfold execCblRecordRead
  with_reducible
    try conv => arg 2; whnf
    iterate 40 all_goals try ((
      first
        | assumption | intro _ | apply doneOut_keeps | apply rejectRange_keeps | apply runCmd_keeps | apply at_keeps
        | apply keepsO_next | apply keeps_foldl | apply keeps_ite | apply keeps_ite2 | apply keepsO_ite
        | refine memWrite_wf _ _ _ ?_ | refine memWriteBytes_wf _ _ ?_ | refine Memory.wf_filter _ ?_ | split
        | exact ⟨rfl, rfl⟩ | rfl | refine keeps_pair (by assumption) ?_ | refine keeps_same ?_ rfl rfl rfl
        | refine keeps_out ?_ rfl rfl rfl | refine keeps_new ?_ rfl rfl rfl | refine keeps_mem ?_ rfl rfl rfl ?_)
      <;> try conv => arg 2; whnf)

theorem execCblAuth_keeps {b0 : State} (t : Nat) (line : Nat) (seq : Nat) (s : State) (h : Keeps b0 s) :
    KeepsO b0 (execCblAuth t line seq s) := by
  unfold execCblAuth
  with_reducible
    try conv => arg 2; whnf
    iterate 40 all_goals try ((
      first
        | assumption | intro _ | apply rejectRange_keeps | apply runCmd_keeps | apply setCbl_keeps | apply at_keeps
        | apply keepsO_next | apply keeps_ite | apply keepsO_ite | refine keeps_same ?_ rfl rfl rfl)
      <;> try conv => arg 2; whnf)

theorem execCblLifeFlush_keeps {b0 : State} (t : Nat) (line : Nat) (seq : Nat) (s : State) (h : Keeps b0 s) :
    KeepsO b0 (execCblLifeFlush t line seq s) := by
  unfold execCblLifeFlush
  with_reducible
    try conv => arg 2; whnf
    iterate 40 all_goals try ((
      first
        | assumption | intro _ | apply accept_keeps | apply lifeBegin_keeps | apply rejectRange_keeps
        | apply runCmd_keeps | apply setCbl_keeps | apply at_keeps | apply keepsO_next | apply keeps_ite
        | apply keepsO_ite | refine keeps_same ?_ rfl rfl rfl)
      <;> try conv => arg 2; whnf)

/-! ### Evg.lean -/

theorem dinEdge_keeps {b0 : State} (n : Nat) (old : Bool) (s : State) (h : Keeps b0 s) :
    Keeps b0 (dinEdge n old s) := by
  unfold dinEdge
  with_reducible
    try conv => arg 2; whnf
    iterate 40 all_goals try ((
      first
        | assumption | apply fireEvent_keeps | apply keeps_ite)
      <;> try conv => arg 2; whnf)

theorem dinDrive_keeps {b0 : State} (n : Nat) (old : Bool) (s : State) (h : Keeps b0 s) :
    Keeps b0 (dinDrive n old s) := by
  unfold dinDrive
  with_reducible
    try conv => arg 2; whnf
    iterate 40 all_goals try ((
      first
        | assumption | apply dinEdge_keeps | apply dinLevel_keeps | apply keeps_ite)
      <;> try conv => arg 2; whnf)

theorem dinChange_keeps {b0 : State} (n : Nat) (level : Bool) (s : State) (h : Keeps b0 s) :
    Keeps b0 (dinChange n level s) := by
  unfold dinChange
  with_reducible
    try conv => arg 2; whnf
    iterate 40 all_goals try ((
      first
        | assumption | intro _ | apply dinDrive_keeps | refine keeps_same ?_ rfl rfl rfl)
      <;> try conv => arg 2; whnf)

theorem setTgt_keeps {b0 : State} (s : State) (t : Nat) (f : EvTarget → EvTarget) (h : Keeps b0 s) :
    Keeps b0 (setTgt s t f) := by
  unfold setTgt
  with_reducible
    try conv => arg 2; whnf
    iterate 40 all_goals try ((
      first
        | assumption | intro _ | refine keeps_same ?_ rfl rfl rfl)
      <;> try conv => arg 2; whnf)

theorem acceptClaim_keeps {b0 : State} (t : Nat) (n : Nat) (s : State) (h : Keeps b0 s) :
    Keeps b0 (acceptClaim t n s) := by
  unfold acceptClaim
  with_reducible
    try conv => arg 2; whnf
    iterate 40 all_goals try ((
      first
        | assumption | intro _ | apply setSrc_keeps | apply setTgt_keeps | refine keeps_same ?_ rfl rfl rfl)
      <;> try conv => arg 2; whnf)

theorem refuseClaim_keeps {b0 : State} (t : Nat) (res : Nat) (s : State) (h : Keeps b0 s) :
    Keeps b0 (refuseClaim t res s) := by
  unfold refuseClaim
  with_reducible
    try conv => arg 2; whnf
    iterate 40 all_goals try ((
      first
        | assumption | intro _ | apply evgError_keeps | apply setTgt_keeps | refine keeps_same ?_ rfl rfl rfl)
      <;> try conv => arg 2; whnf)

theorem claimWrite_keeps {b0 : State} (m : Master) (tgt : Nat) (src : Nat) (s : State) (h : Keeps b0 s) :
    Keeps b0 (claimWrite m tgt src s) := by
  unfold claimWrite
  with_reducible
    try conv => arg 2; whnf
    iterate 40 all_goals try ((
      first
        | assumption | intro _ | apply acceptClaim_keeps | apply evgError_keeps | apply refuseClaim_keeps
        | apply keeps_ite | refine keeps_same ?_ rfl rfl rfl)
      <;> try conv => arg 2; whnf)

theorem allowedBits_keeps {b0 : State} (m : Master) (k : Nat) (word : Nat) (s : State) (h : Keeps b0 s) :
    Keeps b0 (allowedBits m k word s).2 := by
  unfold allowedBits
  with_reducible
    try conv => arg 2; whnf
    iterate 40 all_goals try ((
      first
        | assumption | intro _ | apply evgError_keeps | apply keeps_ite | split | refine keeps_pair (by assumption) ?_
        | refine keeps_same ?_ rfl rfl rfl)
      <;> try conv => arg 2; whnf)

theorem clearPending_keeps {b0 : State} (n : Nat) (s : State) (h : Keeps b0 s) :
    Keeps b0 (clearPending n s) := by
  unfold clearPending
  with_reducible
    try conv => arg 2; whnf
    iterate 40 all_goals try ((
      first
        | assumption | intro _ | apply pendRaw_keeps | apply setSrc_keeps | apply keeps_ite
        | refine keeps_same ?_ rfl rfl rfl)
      <;> try conv => arg 2; whnf)

theorem clrpendWrite_keeps {b0 : State} (m : Master) (k : Nat) (word : Nat) (s : State) (h : Keeps b0 s) :
    Keeps b0 (clrpendWrite m k word s) := by
  unfold clrpendWrite
  with_reducible
    try conv => arg 2; whnf
    iterate 40 all_goals try ((
      first
        | assumption | intro _ | apply allowedBits_keeps | apply clearPending_keeps | apply keeps_foldl)
      <;> try conv => arg 2; whnf)

theorem acceptEoi_keeps {b0 : State} (t : Nat) (n : Nat) (prev : Option Nat) (rest : List (Nat × Option Nat)) (s : State) (h : Keeps b0 s) :
    Keeps b0 (acceptEoi t n prev rest s) := by
  unfold acceptEoi
  with_reducible
    try conv => arg 2; whnf
    iterate 40 all_goals try ((
      first
        | assumption | intro _ | apply fireEvent_keeps | apply notifyVectors_keeps | apply setSrc_keeps
        | apply setTgt_keeps | apply keeps_ite | refine keeps_same ?_ rfl rfl rfl)
      <;> try conv => arg 2; whnf)

theorem refuseEoi_keeps {b0 : State} (t : Nat) (s : State) (h : Keeps b0 s) :
    Keeps b0 (refuseEoi t s) := by
  unfold refuseEoi
  with_reducible
    try conv => arg 2; whnf
    iterate 40 all_goals try ((
      first
        | assumption | intro _ | apply evgError_keeps | apply setTgt_keeps | refine keeps_same ?_ rfl rfl rfl)
      <;> try conv => arg 2; whnf)

theorem eoiWrite_keeps {b0 : State} (m : Master) (tgt : Nat) (src : Nat) (s : State) (h : Keeps b0 s) :
    Keeps b0 (eoiWrite m tgt src s) := by
  unfold eoiWrite
  with_reducible
    try conv => arg 2; whnf
    iterate 40 all_goals try ((
      first
        | assumption | intro _ | apply acceptEoi_keeps | apply evgError_keeps | apply refuseEoi_keeps
        | apply keeps_ite | split | refine keeps_pair (by assumption) ?_ | refine keeps_same ?_ rfl rfl rfl)
      <;> try conv => arg 2; whnf)

theorem srcCfgWrite_keeps {b0 : State} (n : Nat) (word : Nat) (s : State) (h : Keeps b0 s) :
    Keeps b0 (srcCfgWrite n word s) := by
  unfold srcCfgWrite
  with_reducible
    try conv => arg 2; whnf
    iterate 40 all_goals try ((
      first
        | assumption | intro _ | apply evgError_keeps | apply notifySource_keeps | apply wakeCore_keeps
        | apply wrw_keeps | apply keeps_ite | refine keeps_same ?_ rfl rfl rfl)
      <;> try conv => arg 2; whnf)

theorem masterCfgWrite_keeps {b0 : State} (m : Master) (src : Nat) (word : Nat) (s : State) (h : Keeps b0 s) :
    Keeps b0 (masterCfgWrite m src word s) := by
  unfold masterCfgWrite
  with_reducible
    try conv => arg 2; whnf
    iterate 40 all_goals try ((
      first
        | assumption | intro _ | apply evgError_keeps | apply srcCfgWrite_keeps | apply keeps_ite | split
        | refine keeps_pair (by assumption) ?_ | refine keeps_same ?_ rfl rfl rfl)
      <;> try conv => arg 2; whnf)

theorem setpendWrite_keeps {b0 : State} (m : Master) (k : Nat) (word : Nat) (s : State) (h : Keeps b0 s) :
    Keeps b0 (setpendWrite m k word s) := by
  unfold setpendWrite
  with_reducible
    try conv => arg 2; whnf
    iterate 40 all_goals try ((
      first
        | assumption | intro _ | apply allowedBits_keeps | apply fireEvent_keeps | apply keeps_foldl)
      <;> try conv => arg 2; whnf)

theorem releaseStorm_keeps {b0 : State} (n : Nat) (s : State) (h : Keeps b0 s) :
    Keeps b0 (releaseStorm n s) := by
  unfold releaseStorm
  with_reducible
    try conv => arg 2; whnf
    iterate 40 all_goals try ((
      first
        | assumption | intro _ | apply fireEvent_keeps | apply setSrc_keeps | apply keeps_ite
        | refine keeps_same ?_ rfl rfl rfl)
      <;> try conv => arg 2; whnf)

theorem stormedWrite_keeps {b0 : State} (m : Master) (k : Nat) (word : Nat) (s : State) (h : Keeps b0 s) :
    Keeps b0 (stormedWrite m k word s) := by
  unfold stormedWrite
  with_reducible
    try conv => arg 2; whnf
    iterate 40 all_goals try ((
      first
        | assumption | intro _ | apply allowedBits_keeps | apply releaseStorm_keeps | apply keeps_foldl)
      <;> try conv => arg 2; whnf)

theorem execEventSourceFire_keeps {b0 : State} (t : Nat) (src : Nat) (level : Bool) (s : State) (h : Keeps b0 s) :
    KeepsO b0 (execEventSourceFire t src level s) := by
  unfold execEventSourceFire
  with_reducible
    try conv => arg 2; whnf
    iterate 40 all_goals try ((
      first
        | assumption | apply fireEvent_keeps | apply setLevel_keeps | apply at_keeps | apply keepsO_next
        | apply keeps_ite | apply keepsO_ite)
      <;> try conv => arg 2; whnf)

theorem execStormWindow_keeps {b0 : State} (t : Nat) (s : State) (h : Keeps b0 s) :
    KeepsO b0 (execStormWindow t s) := by
  unfold execStormWindow
  with_reducible
    try conv => arg 2; whnf
    iterate 40 all_goals try ((
      first
        | assumption | intro _ | apply at_keeps | apply keepsO_next | refine keeps_same ?_ rfl rfl rfl)
      <;> try conv => arg 2; whnf)

theorem execEvgClaim_keeps {b0 : State} (t : Nat) (m : Master) (tgt : Nat) (src : Nat) (s : State) (h : Keeps b0 s) :
    KeepsO b0 (execEvgClaim t m tgt src s) := by
  unfold execEvgClaim
  with_reducible
    try conv => arg 2; whnf
    iterate 40 all_goals try ((
      first
        | assumption | apply claimWrite_keeps | apply at_keeps | apply keepsO_next)
      <;> try conv => arg 2; whnf)

theorem execEvgEoi_keeps {b0 : State} (t : Nat) (m : Master) (tgt : Nat) (src : Nat) (s : State) (h : Keeps b0 s) :
    KeepsO b0 (execEvgEoi t m tgt src s) := by
  unfold execEvgEoi
  with_reducible
    try conv => arg 2; whnf
    iterate 40 all_goals try ((
      first
        | assumption | apply eoiWrite_keeps | apply at_keeps | apply keepsO_next)
      <;> try conv => arg 2; whnf)

theorem execEvgSetpend_keeps {b0 : State} (t : Nat) (m : Master) (k : Nat) (word : Nat) (s : State) (h : Keeps b0 s) :
    KeepsO b0 (execEvgSetpend t m k word s) := by
  unfold execEvgSetpend
  with_reducible
    try conv => arg 2; whnf
    iterate 40 all_goals try ((
      first
        | assumption | apply setpendWrite_keeps | apply at_keeps | apply keepsO_next)
      <;> try conv => arg 2; whnf)

theorem execEvgClrpend_keeps {b0 : State} (t : Nat) (m : Master) (k : Nat) (word : Nat) (s : State) (h : Keeps b0 s) :
    KeepsO b0 (execEvgClrpend t m k word s) := by
  unfold execEvgClrpend
  with_reducible
    try conv => arg 2; whnf
    iterate 40 all_goals try ((
      first
        | assumption | apply clrpendWrite_keeps | apply at_keeps | apply keepsO_next)
      <;> try conv => arg 2; whnf)

theorem execEvgSrcCfgWrite_keeps {b0 : State} (t : Nat) (m : Master) (src : Nat) (word : Nat) (s : State) (h : Keeps b0 s) :
    KeepsO b0 (execEvgSrcCfgWrite t m src word s) := by
  unfold execEvgSrcCfgWrite
  with_reducible
    try conv => arg 2; whnf
    iterate 40 all_goals try ((
      first
        | assumption | apply masterCfgWrite_keeps | apply at_keeps | apply keepsO_next)
      <;> try conv => arg 2; whnf)

theorem execEvgStormedWrite_keeps {b0 : State} (t : Nat) (m : Master) (k : Nat) (word : Nat) (s : State) (h : Keeps b0 s) :
    KeepsO b0 (execEvgStormedWrite t m k word s) := by
  unfold execEvgStormedWrite
  with_reducible
    try conv => arg 2; whnf
    iterate 40 all_goals try ((
      first
        | assumption | apply stormedWrite_keeps | apply at_keeps | apply keepsO_next)
      <;> try conv => arg 2; whnf)

theorem execWakeLatchEdge_keeps {b0 : State} (t : Nat) (src : Nat) (stopped : Bool) (masked : Bool) (s : State) (h : Keeps b0 s) :
    KeepsO b0 (execWakeLatchEdge t src stopped masked s) := by
  unfold execWakeLatchEdge
  with_reducible
    try conv => arg 2; whnf
    iterate 40 all_goals try ((
      first
        | assumption | intro _ | apply emit_keeps | apply fireEvent_keeps | apply setSrc_keeps | apply at_keeps
        | apply keepsO_next | apply keeps_ite | apply keepsO_ite | refine keeps_same ?_ rfl rfl rfl)
      <;> try conv => arg 2; whnf)

theorem execEvgStatus_keeps {b0 : State} (t : Nat) (line : Nat) (seq : Nat) (s : State) (h : Keeps b0 s) :
    KeepsO b0 (execEvgStatus t line seq s) := by
  unfold execEvgStatus
  with_reducible
    try conv => arg 2; whnf
    iterate 40 all_goals try ((
      first
        | assumption | intro _ | apply doneOut_keeps | apply runCmd_keeps | apply at_keeps | apply keepsO_next
        | apply keeps_foldl | apply keeps_ite | apply keeps_ite2 | apply keepsO_ite | refine memWrite_wf _ _ _ ?_
        | refine memWriteBytes_wf _ _ ?_ | refine Memory.wf_filter _ ?_ | split | exact ⟨rfl, rfl⟩ | rfl
        | refine keeps_pair (by assumption) ?_ | refine keeps_same ?_ rfl rfl rfl | refine keeps_out ?_ rfl rfl rfl
        | refine keeps_new ?_ rfl rfl rfl | refine keeps_mem ?_ rfl rfl rfl ?_)
      <;> try conv => arg 2; whnf)

theorem execEvgSrcSet_keeps {b0 : State} (t : Nat) (line : Nat) (seq : Nat) (s : State) (h : Keeps b0 s) :
    KeepsO b0 (execEvgSrcSet t line seq s) := by
  unfold execEvgSrcSet
  with_reducible
    try conv => arg 2; whnf
    iterate 40 all_goals try ((
      first
        | assumption | intro _ | apply done_keeps | apply rejectRange_keeps | apply runCmd_keeps
        | apply srcCfgWrite_keeps | apply at_keeps | apply keepsO_next | apply keeps_foldl | apply keeps_ite
        | apply keeps_ite2 | apply keepsO_ite | refine memWrite_wf _ _ _ ?_ | refine memWriteBytes_wf _ _ ?_
        | refine Memory.wf_filter _ ?_ | split | exact ⟨rfl, rfl⟩ | rfl | refine keeps_pair (by assumption) ?_
        | refine keeps_same ?_ rfl rfl rfl | refine keeps_out ?_ rfl rfl rfl | refine keeps_new ?_ rfl rfl rfl
        | refine keeps_mem ?_ rfl rfl rfl ?_)
      <;> try conv => arg 2; whnf)

theorem execEvgStormRelease_keeps {b0 : State} (t : Nat) (line : Nat) (seq : Nat) (s : State) (h : Keeps b0 s) :
    KeepsO b0 (execEvgStormRelease t line seq s) := by
  unfold execEvgStormRelease
  with_reducible
    try conv => arg 2; whnf
    iterate 40 all_goals try ((
      first
        | assumption | intro _ | apply done_keeps | apply rejectRange_keeps | apply releaseStorm_keeps
        | apply runCmd_keeps | apply at_keeps | apply keepsO_next | apply keeps_foldl | apply keeps_ite
        | apply keeps_ite2 | apply keepsO_ite | refine memWrite_wf _ _ _ ?_ | refine memWriteBytes_wf _ _ ?_
        | refine Memory.wf_filter _ ?_ | split | exact ⟨rfl, rfl⟩ | rfl | refine keeps_pair (by assumption) ?_
        | refine keeps_same ?_ rfl rfl rfl | refine keeps_out ?_ rfl rfl rfl | refine keeps_new ?_ rfl rfl rfl
        | refine keeps_mem ?_ rfl rfl rfl ?_)
      <;> try conv => arg 2; whnf)

theorem execEvgWait_keeps {b0 : State} (t : Nat) (line : Nat) (seq : Nat) (s : State) (h : Keeps b0 s) :
    KeepsO b0 (execEvgWait t line seq s) := by
  unfold execEvgWait
  with_reducible
    try conv => arg 2; whnf
    iterate 40 all_goals try ((
      first
        | assumption | intro _ | apply accept_keeps | apply rejectRange_keeps | apply runCmd_keeps | apply at_keeps
        | apply keepsO_next | apply keeps_ite | apply keepsO_ite | refine keeps_same ?_ rfl rfl rfl)
      <;> try conv => arg 2; whnf)

theorem execEvgWaitEnd_keeps {b0 : State} (t : Nat) (line : Nat) (seq : Nat) (timeout : Bool) (s : State) (h : Keeps b0 s) :
    KeepsO b0 (execEvgWaitEnd t line seq timeout s) := by
  unfold execEvgWaitEnd
  with_reducible
    try conv => arg 2; whnf
    iterate 40 all_goals try ((
      first
        | assumption | intro _ | apply finishAccepted_keeps | apply at_keeps | apply keepsO_next | apply keeps_ite
        | apply keepsO_ite | split | refine keeps_pair (by assumption) ?_ | refine keeps_same ?_ rfl rfl rfl)
      <;> try conv => arg 2; whnf)

/-! ### Contactor.lean -/

theorem ctrSeenOpen_keeps {b0 : State} (c : CtrRef) (s : State) (h : Keeps b0 s) :
    Keeps b0 (ctrSeenOpen c s) := by
  unfold ctrSeenOpen
  with_reducible
    try conv => arg 2; whnf
    iterate 40 all_goals try ((
      first
        | assumption | apply errCleared_keeps)
      <;> try conv => arg 2; whnf)

theorem startLegs_keeps {b0 : State} (g : Nat) (k : Nat) (s : State) (h : Keeps b0 s) :
    Keeps b0 (startLegs g k s) := by
  unfold startLegs
  with_reducible
    try conv => arg 2; whnf
    iterate 40 all_goals try ((
      first
        | assumption | intro _ | apply markSet_keeps | refine keeps_same ?_ rfl rfl rfl)
      <;> try conv => arg 2; whnf)

theorem startGroup_keeps {b0 : State} (g : Nat) (s : State) (h : Keeps b0 s) :
    Keeps b0 (startGroup g s) := by
  unfold startGroup
  with_reducible
    try conv => arg 2; whnf
    iterate 40 all_goals try ((
      first
        | assumption | apply startLegs_keeps)
      <;> try conv => arg 2; whnf)

theorem trackDone_keeps {b0 : State} (g : Nat) (s : State) (h : Keeps b0 s) :
    Keeps b0 (trackDone g s) := by
  unfold trackDone
  with_reducible
    try conv => arg 2; whnf
    iterate 40 all_goals try ((
      first
        | assumption | intro _ | apply fireEvent_keeps | apply setPg_keeps | refine keeps_same ?_ rfl rfl rfl)
      <;> try conv => arg 2; whnf)

theorem outTaken_keeps {b0 : State} (g : Nat) (n : Nat) (s : State) (h : Keeps b0 s) :
    Keeps b0 (outTaken g n s) := by
  unfold outTaken
  with_reducible
    try conv => arg 2; whnf
    iterate 40 all_goals try ((
      first
        | assumption | intro _ | apply recompute_keeps | apply sessEnter_keeps | apply setOut_keeps
        | apply trackDone_keeps | apply keeps_ite | refine keeps_same ?_ rfl rfl rfl)
      <;> try conv => arg 2; whnf)

theorem ctrClosed_keeps {b0 : State} (n : Nat) (s : State) (h : Keeps b0 s) :
    Keeps b0 (ctrClosed n s) := by
  unfold ctrClosed
  with_reducible
    try conv => arg 2; whnf
    iterate 40 all_goals try ((
      first
        | assumption | intro _ | apply fireEvent_keeps | apply outTaken_keeps | apply requestGate_keeps
        | apply setOut_keeps | apply setPg_keeps | apply startGroup_keeps | apply keeps_ite | split
        | refine keeps_pair (by assumption) ?_ | refine keeps_same ?_ rfl rfl rfl)
      <;> try conv => arg 2; whnf)

theorem ctrOpen_keeps {b0 : State} (n : Nat) (s : State) (h : Keeps b0 s) :
    Keeps b0 (ctrOpen n s) := by
  unfold ctrOpen
  with_reducible
    try conv => arg 2; whnf
    iterate 40 all_goals try ((
      first
        | assumption | intro _ | apply ctrOpened_keeps | apply ctrSeenOpen_keeps | apply fireEvent_keeps
        | apply runEnd_keeps | apply setOut_keeps | apply keeps_ite | refine keeps_same ?_ rfl rfl rfl)
      <;> try conv => arg 2; whnf)

theorem ctrReadback_keeps {b0 : State} (n : Nat) (closed : Bool) (s : State) (h : Keeps b0 s) :
    Keeps b0 (ctrReadback n closed s) := by
  unfold ctrReadback
  with_reducible
    try conv => arg 2; whnf
    iterate 40 all_goals try ((
      first
        | assumption | apply ctrClosed_keeps | apply ctrOpen_keeps | apply keeps_ite)
      <;> try conv => arg 2; whnf)

theorem mtxReadback_keeps {b0 : State} (g : Nat) (n : Nat) (closed : Bool) (s : State) (h : Keeps b0 s) :
    Keeps b0 (mtxReadback g n closed s) := by
  unfold mtxReadback
  with_reducible
    try conv => arg 2; whnf
    iterate 40 all_goals try ((
      first
        | assumption | intro _ | apply ctrSeenOpen_keeps | apply setOut_keeps | apply setPg_keeps
        | apply sumOutputs_keeps | apply trackDone_keeps | apply keeps_ite | refine keeps_same ?_ rfl rfl rfl)
      <;> try conv => arg 2; whnf)

theorem dinReadback_keeps {b0 : State} (din : Nat) (level : Bool) (s : State) (h : Keeps b0 s) :
    Keeps b0 (dinReadback din level s) := by
  unfold dinReadback
  with_reducible
    try conv => arg 2; whnf
    iterate 40 all_goals try ((
      first
        | assumption | intro _ | apply ctrReadback_keeps | apply keeps_foldl | apply keeps_ite | split
        | refine keeps_pair (by assumption) ?_ | refine keeps_same ?_ rfl rfl rfl)
      <;> try conv => arg 2; whnf)

theorem execDinDebounceExpiry_keeps {b0 : State} (t : Nat) (din : Nat) (level : Bool) (s : State) (h : Keeps b0 s) :
    KeepsO b0 (execDinDebounceExpiry t din level s) := by
  unfold execDinDebounceExpiry
  with_reducible
    try conv => arg 2; whnf
    iterate 40 all_goals try ((
      first
        | assumption | apply dinChange_keeps | apply dinReadback_keeps | apply at_keeps | apply keepsO_next)
      <;> try conv => arg 2; whnf)

theorem interlock_keeps {b0 : State} (g : Nat) (n : Nat) (s : State) (h : Keeps b0 s) :
    Keeps b0 (interlock g n s) := by
  unfold interlock
  with_reducible
    try conv => arg 2; whnf
    iterate 40 all_goals try ((
      first
        | assumption | apply fireEvent_keeps | apply raiseError_keeps)
      <;> try conv => arg 2; whnf)

theorem execMatrixCloseRequest_keeps {b0 : State} (t : Nat) (g : Nat) (n : Nat) (s : State) (h : Keeps b0 s) :
    KeepsO b0 (execMatrixCloseRequest t g n s) := by
  unfold execMatrixCloseRequest
  with_reducible
    try conv => arg 2; whnf
    iterate 40 all_goals try ((
      first
        | assumption | apply interlock_keeps | apply mtxDrive_keeps | apply at_keeps | apply keepsO_next
        | apply keeps_ite | apply keepsO_ite)
      <;> try conv => arg 2; whnf)

theorem ctrFail_keeps {b0 : State} (c : CtrRef) (s : State) (h : Keeps b0 s) :
    Keeps b0 (ctrFail c s) := by
  unfold ctrFail
  with_reducible
    try conv => arg 2; whnf
    iterate 40 all_goals try ((
      first
        | assumption | intro _ | apply cancelTracking_keeps | apply ctrDrive_keeps | apply endTracking_keeps
        | apply fireEvent_keeps | apply groupLegsStop_keeps | apply mtxDrive_keeps | apply raiseError_keeps
        | apply setOut_keeps | apply setPg_keeps | apply updStage_keeps | apply keeps_ite | split
        | refine keeps_pair (by assumption) ?_ | refine keeps_same ?_ rfl rfl rfl)
      <;> try conv => arg 2; whnf)

theorem execContactorCloseTimeout_keeps {b0 : State} (t : Nat) (c : CtrRef) (s : State) (h : Keeps b0 s) :
    KeepsO b0 (execContactorCloseTimeout t c s) := by
  unfold execContactorCloseTimeout
  with_reducible
    try conv => arg 2; whnf
    iterate 40 all_goals try ((
      first
        | assumption | intro _ | apply ctrClosed_keeps | apply ctrFail_keeps | apply at_keeps | apply keepsO_next
        | apply keeps_ite | apply keepsO_ite | split | refine keeps_pair (by assumption) ?_
        | refine keeps_same ?_ rfl rfl rfl)
      <;> try conv => arg 2; whnf)

theorem openAtZero_keeps {b0 : State} (c : CtrRef) (s : State) (h : Keeps b0 s) :
    Keeps b0 (openAtZero c s) := by
  unfold openAtZero
  with_reducible
    try conv => arg 2; whnf
    iterate 40 all_goals try ((
      first
        | assumption | intro _ | apply mtxDrive_keeps | apply openOut_keeps | apply runEnd_keeps | apply setOut_keeps
        | apply setPg_keeps | apply keeps_foldl | apply keeps_ite | split | refine keeps_pair (by assumption) ?_
        | refine keeps_same ?_ rfl rfl rfl)
      <;> try conv => arg 2; whnf)

theorem execContactorOpenRequest_keeps {b0 : State} (t : Nat) (c : CtrRef) (s : State) (h : Keeps b0 s) :
    KeepsO b0 (execContactorOpenRequest t c s) := by
  unfold execContactorOpenRequest
  with_reducible
    try conv => arg 2; whnf
    iterate 40 all_goals try ((
      first
        | assumption | apply startOpening_keeps | apply at_keeps | apply keepsO_next | apply keeps_ite
        | apply keepsO_ite)
      <;> try conv => arg 2; whnf)

theorem execContactorZeroReached_keeps {b0 : State} (t : Nat) (c : CtrRef) (s : State) (h : Keeps b0 s) :
    KeepsO b0 (execContactorZeroReached t c s) := by
  unfold execContactorZeroReached
  with_reducible
    try conv => arg 2; whnf
    iterate 40 all_goals try ((
      first
        | assumption | apply errCleared_keeps | apply openAtZero_keeps | apply at_keeps | apply keepsO_next
        | apply keeps_ite | apply keepsO_ite)
      <;> try conv => arg 2; whnf)

theorem execOpenNotZero_keeps {b0 : State} (t : Nat) (c : CtrRef) (s : State) (h : Keeps b0 s) :
    KeepsO b0 (execOpenNotZero t c s) := by
  unfold execOpenNotZero
  with_reducible
    try conv => arg 2; whnf
    iterate 40 all_goals try ((
      first
        | assumption | apply errCleared_keeps | apply fireEvent_keeps | apply raiseError_keeps | apply at_keeps
        | apply keepsO_next | apply keeps_ite | apply keepsO_ite)
      <;> try conv => arg 2; whnf)

theorem excludeReach_keeps {b0 : State} (n : Nat) (s : State) (h : Keeps b0 s) :
    Keeps b0 (excludeReach n s) := by
  unfold excludeReach
  with_reducible
    try conv => arg 2; whnf
    iterate 40 all_goals try ((
      first
        | assumption | intro _ | apply keeps_ite | refine keeps_same ?_ rfl rfl rfl)
      <;> try conv => arg 2; whnf)

theorem weldFound_keeps {b0 : State} (c : CtrRef) (s : State) (h : Keeps b0 s) :
    Keeps b0 (weldFound c s) := by
  unfold weldFound
  with_reducible
    try conv => arg 2; whnf
    iterate 40 all_goals try ((
      first
        | assumption | intro _ | apply excludeReach_keeps | apply fireEvent_keeps | apply raiseError_keeps
        | apply setOut_keeps | apply setPg_keeps | apply updStage_keeps | split | refine keeps_pair (by assumption) ?_
        | refine keeps_same ?_ rfl rfl rfl)
      <;> try conv => arg 2; whnf)

theorem startWeldTest_keeps {b0 : State} (n : Nat) (s : State) (h : Keeps b0 s) :
    Keeps b0 (startWeldTest n s) := by
  unfold startWeldTest
  with_reducible
    try conv => arg 2; whnf
    iterate 40 all_goals try ((
      first
        | assumption | intro _ | apply requestGate_keeps | apply runEnd_keeps | apply setOut_keeps | apply setPg_keeps
        | apply startGroup_keeps | apply keeps_ite | split | refine keeps_pair (by assumption) ?_
        | refine keeps_same ?_ rfl rfl rfl)
      <;> try conv => arg 2; whnf)

theorem execContactorWeld_keeps {b0 : State} (t : Nat) (c : CtrRef) (s : State) (h : Keeps b0 s) :
    KeepsO b0 (execContactorWeld t c s) := by
  unfold execContactorWeld
  with_reducible
    try conv => arg 2; whnf
    iterate 40 all_goals try ((
      first
        | assumption | intro _ | apply startWeldTest_keeps | apply weldFound_keeps | apply at_keeps
        | apply keepsO_next | apply keeps_ite | apply keepsO_ite | split | refine keeps_pair (by assumption) ?_
        | refine keeps_same ?_ rfl rfl rfl)
      <;> try conv => arg 2; whnf)

theorem execBusBleedExpiry_keeps {b0 : State} (t : Nat) (n : Nat) (s : State) (h : Keeps b0 s) :
    KeepsO b0 (execBusBleedExpiry t n s) := by
  unfold execBusBleedExpiry
  with_reducible
    try conv => arg 2; whnf
    iterate 40 all_goals try ((
      first
        | assumption | intro _ | apply setOut_keeps | apply at_keeps | apply keepsO_next | apply keeps_ite
        | apply keepsO_ite | refine keeps_same ?_ rfl rfl rfl)
      <;> try conv => arg 2; whnf)

/-! ### Trans.lean -/

theorem beginTracking_keeps {b0 : State} (g : Nat) (n : Nat) (k : Nat) (m : TrkMode) (s : State) (h : Keeps b0 s) :
    Keeps b0 (beginTracking g n k m s) := by
  unfold beginTracking
  with_reducible
    try conv => arg 2; whnf
    iterate 40 all_goals try ((
      first
        | assumption | intro _ | apply requestGate_keeps | apply setPg_keeps | apply startLegs_keeps
        | refine keeps_same ?_ rfl rfl rfl)
      <;> try conv => arg 2; whnf)

theorem trackRequest_keeps {b0 : State} (g : Nat) (n : Nat) (mode : TrkReq) (s : State) (h : Keeps b0 s) :
    Keeps b0 (trackRequest g n mode s) := by
  unfold trackRequest
  with_reducible
    try conv => arg 2; whnf
    iterate 40 all_goals try ((
      first
        | assumption | apply beginTracking_keeps | apply interlock_keeps | apply keeps_ite)
      <;> try conv => arg 2; whnf)

theorem putShare_keeps {b0 : State} (g : Nat) (v : Nat) (s : State) (h : Keeps b0 s) :
    Keeps b0 (putShare g v s) := by
  unfold putShare
  with_reducible
    try conv => arg 2; whnf
    iterate 40 all_goals try ((
      first
        | assumption | intro _ | refine keeps_same ?_ rfl rfl rfl)
      <;> try conv => arg 2; whnf)

theorem rampJoin_keeps {b0 : State} (n : Nat) (up : Nat) (g : Nat) (s : State) (h : Keeps b0 s) :
    Keeps b0 (rampJoin n up g s) := by
  unfold rampJoin
  with_reducible
    try conv => arg 2; whnf
    iterate 40 all_goals try ((
      first
        | assumption | intro _ | apply putShare_keeps | apply setPg_keeps | apply keeps_ite
        | refine keeps_same ?_ rfl rfl rfl)
      <;> try conv => arg 2; whnf)

theorem rampLeave_keeps {b0 : State} (down : Nat) (g : Nat) (s : State) (h : Keeps b0 s) :
    Keeps b0 (rampLeave down g s) := by
  unfold rampLeave
  with_reducible
    try conv => arg 2; whnf
    iterate 40 all_goals try ((
      first
        | assumption | apply groupLegsStop_keeps | apply putShare_keeps | apply keeps_ite)
      <;> try conv => arg 2; whnf)

theorem shareStep_keeps {b0 : State} (n : Nat) (up : Nat) (down : Nat) (s : State) (h : Keeps b0 s) :
    Keeps b0 (shareStep n up down s) := by
  unfold shareStep
  with_reducible
    try conv => arg 2; whnf
    iterate 40 all_goals try ((
      first
        | assumption | intro _ | apply rampJoin_keeps | apply rampLeave_keeps | apply keeps_foldl | apply keeps_ite
        | refine keeps_same ?_ rfl rfl rfl)
      <;> try conv => arg 2; whnf)

theorem restartOwned_keeps {b0 : State} (kind : Nat) (idx : Nat) (s : State) (h : Keeps b0 s) :
    Keeps b0 (restartOwned kind idx s) := by
  unfold restartOwned
  with_reducible
    try conv => arg 2; whnf
    iterate 40 all_goals try ((
      first
        | assumption | intro _ | apply keeps_ite | refine keeps_same ?_ rfl rfl rfl)
      <;> try conv => arg 2; whnf)

theorem slewRefs_keeps {b0 : State} (n : Nat) (ts : Nat) (s : State) (h : Keeps b0 s) :
    Keeps b0 (slewRefs n ts s) := by
  unfold slewRefs
  with_reducible
    try conv => arg 2; whnf
    iterate 40 all_goals try ((
      first
        | assumption | intro _ | apply fireEvent_keeps | apply setOut_keeps | apply keeps_ite
        | refine keeps_same ?_ rfl rfl rfl)
      <;> try conv => arg 2; whnf)

theorem openingRamp_keeps {b0 : State} (n : Nat) (s : State) (h : Keeps b0 s) :
    Keeps b0 (openingRamp n s) := by
  unfold openingRamp
  with_reducible
    try conv => arg 2; whnf
    iterate 40 all_goals try ((
      first
        | assumption | intro _ | apply groupLegsStop_keeps | apply putShare_keeps | apply keeps_foldl
        | apply keeps_ite)
      <;> try conv => arg 2; whnf)

theorem readVout_keeps {b0 : State} (n : Nat) (vout : List Bool) (s : State) (h : Keeps b0 s) :
    Keeps b0 (readVout n vout s) := by
  unfold readVout
  with_reducible
    try conv => arg 2; whnf
    iterate 40 all_goals try ((
      first
        | assumption | intro _ | apply readMain_keeps | apply setOut_keeps | refine keeps_same ?_ rfl rfl rfl)
      <;> try conv => arg 2; whnf)

theorem execOutputLoopSample_keeps {b0 : State} (t : Nat) (n : Nat) (ts : Nat) (vout : List Bool) (s : State) (h : Keeps b0 s) :
    KeepsO b0 (execOutputLoopSample t n ts vout s) := by
  unfold execOutputLoopSample
  with_reducible
    try conv => arg 2; whnf
    iterate 40 all_goals try ((
      first
        | assumption | apply openingRamp_keeps | apply readVout_keeps | apply resplit_keeps | apply shareStep_keeps
        | apply slewRefs_keeps | apply at_keeps | apply keepsO_next | apply keeps_ite | apply keepsO_ite)
      <;> try conv => arg 2; whnf)

theorem execTrackingRequest_keeps {b0 : State} (t : Nat) (g : Nat) (n : Nat) (mode : TrkReq) (s : State) (h : Keeps b0 s) :
    KeepsO b0 (execTrackingRequest t g n mode s) := by
  unfold execTrackingRequest
  with_reducible
    try conv => arg 2; whnf
    iterate 40 all_goals try ((
      first
        | assumption | apply trackRequest_keeps | apply at_keeps | apply keepsO_next)
      <;> try conv => arg 2; whnf)

theorem execTrackDwellExpiry_keeps {b0 : State} (t : Nat) (g : Nat) (s : State) (h : Keeps b0 s) :
    KeepsO b0 (execTrackDwellExpiry t g s) := by
  unfold execTrackDwellExpiry
  with_reducible
    try conv => arg 2; whnf
    iterate 40 all_goals try ((
      first
        | assumption | intro _ | apply ctrDrive_keeps | apply fireEvent_keeps | apply interlock_keeps
        | apply mtxDrive_keeps | apply setOut_keeps | apply setPg_keeps | apply at_keeps | apply keepsO_next
        | apply keeps_ite | apply keepsO_ite | split | refine keeps_pair (by assumption) ?_
        | refine keeps_same ?_ rfl rfl rfl)
      <;> try conv => arg 2; whnf)

theorem execTrackFail_keeps {b0 : State} (t : Nat) (g : Nat) (s : State) (h : Keeps b0 s) :
    KeepsO b0 (execTrackFail t g s) := by
  unfold execTrackFail
  with_reducible
    try conv => arg 2; whnf
    iterate 40 all_goals try ((
      first
        | assumption | intro _ | apply ctrDrive_keeps | apply groupLegsStop_keeps | apply mtxDrive_keeps
        | apply raiseError_keeps | apply setOut_keeps | apply setPg_keeps | apply at_keeps | apply keepsO_next
        | apply keeps_ite | apply keepsO_ite | split | refine keeps_pair (by assumption) ?_
        | refine keeps_same ?_ rfl rfl rfl)
      <;> try conv => arg 2; whnf)

theorem insRequest_keeps {b0 : State} (n : Nat) (g : Nat) (vrref : Nat) (s : State) (h : Keeps b0 s) :
    Keeps b0 (insRequest n g vrref s) := by
  unfold insRequest
  with_reducible
    try conv => arg 2; whnf
    iterate 40 all_goals try ((
      first
        | assumption | intro _ | apply ctrDrive_keeps | apply emptyGroup_keeps | apply groupLegsOff_keeps
        | apply setOut_keeps | apply keeps_foldl | apply keeps_ite | refine keeps_same ?_ rfl rfl rfl)
      <;> try conv => arg 2; whnf)

theorem execInsulationCheckRequest_keeps {b0 : State} (t : Nat) (n : Nat) (g : Nat) (vrref : Nat) (s : State) (h : Keeps b0 s) :
    KeepsO b0 (execInsulationCheckRequest t n g vrref s) := by
  unfold execInsulationCheckRequest
  with_reducible
    try conv => arg 2; whnf
    iterate 40 all_goals try ((
      first
        | assumption | apply insRequest_keeps | apply at_keeps | apply keepsO_next)
      <;> try conv => arg 2; whnf)

theorem execInsulationCheckEnd_keeps {b0 : State} (t : Nat) (n : Nat) (s : State) (h : Keeps b0 s) :
    KeepsO b0 (execInsulationCheckEnd t n s) := by
  unfold execInsulationCheckEnd
  with_reducible
    try conv => arg 2; whnf
    iterate 40 all_goals try ((
      first
        | assumption | intro _ | apply setOut_keeps | apply at_keeps | apply keepsO_next | apply keeps_ite
        | apply keepsO_ite | refine keeps_same ?_ rfl rfl rfl)
      <;> try conv => arg 2; whnf)

theorem endWeldTest_keeps {b0 : State} (n : Nat) (s : State) (h : Keeps b0 s) :
    Keeps b0 (endWeldTest n s) := by
  unfold endWeldTest
  with_reducible
    try conv => arg 2; whnf
    iterate 40 all_goals try ((
      first
        | assumption | intro _ | apply setOut_keeps | refine keeps_same ?_ rfl rfl rfl)
      <;> try conv => arg 2; whnf)

theorem execWeldTestEnd_keeps {b0 : State} (t : Nat) (n : Nat) (s : State) (h : Keeps b0 s) :
    KeepsO b0 (execWeldTestEnd t n s) := by
  unfold execWeldTestEnd
  with_reducible
    try conv => arg 2; whnf
    iterate 40 all_goals try ((
      first
        | assumption | apply endWeldTest_keeps | apply at_keeps | apply keepsO_next | apply keeps_ite
        | apply keepsO_ite)
      <;> try conv => arg 2; whnf)

theorem startCrowbar_keeps {b0 : State} (n : Nat) (s : State) (h : Keeps b0 s) :
    Keeps b0 (startCrowbar n s) := by
  unfold startCrowbar
  with_reducible
    try conv => arg 2; whnf
    iterate 40 all_goals try ((
      first
        | assumption | intro _ | apply cancelTracking_keeps | apply clearSharing_keeps | apply emptyGroup_keeps
        | apply fireEvent_keeps | apply raiseError_keeps | apply setOut_keeps | apply updStage_keeps
        | apply keeps_foldl | apply keeps_ite | refine keeps_same ?_ rfl rfl rfl)
      <;> try conv => arg 2; whnf)

theorem execCrowbarLegOff_keeps {b0 : State} (t : Nat) (leg : Nat) (s : State) (h : Keeps b0 s) :
    KeepsO b0 (execCrowbarLegOff t leg s) := by
  unfold execCrowbarLegOff
  with_reducible
    try conv => arg 2; whnf
    iterate 40 all_goals try ((
      first
        | assumption | apply crowbarLegEnd_keeps | apply at_keeps | apply keepsO_next)
      <;> try conv => arg 2; whnf)

theorem weldByVoltage_keeps {b0 : State} (n : Nat) (s : State) (h : Keeps b0 s) :
    Keeps b0 (weldByVoltage n s) := by
  unfold weldByVoltage
  with_reducible
    try conv => arg 2; whnf
    iterate 40 all_goals try ((
      first
        | assumption | intro _ | apply endWeldTest_keeps | apply excludeReach_keeps | apply raiseError_keeps
        | apply setOut_keeps | apply updStage_keeps | refine keeps_same ?_ rfl rfl rfl)
      <;> try conv => arg 2; whnf)

theorem weldCheckDone_keeps {b0 : State} (n : Nat) (s : State) (h : Keeps b0 s) :
    Keeps b0 (weldCheckDone n s) := by
  unfold weldCheckDone
  with_reducible
    try conv => arg 2; whnf
    iterate 40 all_goals try ((
      first
        | assumption | apply sessUnlockOrEnd_keeps | apply keeps_ite)
      <;> try conv => arg 2; whnf)

theorem takeVout_keeps {b0 : State} (n : Nat) (vout : List Bool) (vgs : List (List Bool)) (s0 : State) (h : Keeps b0 s0) :
    Keeps b0 (takeVout n vout vgs s0) := by
  unfold takeVout
  with_reducible
    try conv => arg 2; whnf
    iterate 40 all_goals try ((
      first
        | assumption | intro _ | apply readMain_keeps | apply readVout_keeps | apply setOut_keeps | apply keeps_foldl
        | refine keeps_same ?_ rfl rfl rfl)
      <;> try conv => arg 2; whnf)

theorem judgeVout_keeps {b0 : State} (n : Nat) (s1 : State) (h : Keeps b0 s1) :
    Keeps b0 (judgeVout n s1) := by
  unfold judgeVout
  with_reducible
    try conv => arg 2; whnf
    iterate 40 all_goals try ((
      first
        | assumption | intro _ | apply errCleared_keeps | apply setOut_keeps | apply startBrake_keeps
        | apply startCrowbar_keeps | apply weldByVoltage_keeps | apply weldCheckDone_keeps | apply keeps_ite
        | refine keeps_same ?_ rfl rfl rfl)
      <;> try conv => arg 2; whnf)

theorem execOutputVoltageRead_keeps {b0 : State} (t : Nat) (n : Nat) (vout : List Bool) (vgs : List (List Bool)) (s : State) (h : Keeps b0 s) :
    KeepsO b0 (execOutputVoltageRead t n vout vgs s) := by
  unfold execOutputVoltageRead
  with_reducible
    try conv => arg 2; whnf
    iterate 40 all_goals try ((
      first
        | assumption | apply judgeVout_keeps | apply takeVout_keeps | apply at_keeps | apply keepsO_next)
      <;> try conv => arg 2; whnf)

theorem endBrake_keeps {b0 : State} (n : Nat) (s : State) (h : Keeps b0 s) :
    Keeps b0 (endBrake n s) := by
  unfold endBrake
  with_reducible
    try conv => arg 2; whnf
    iterate 40 all_goals try ((
      first
        | assumption | intro _ | apply restartOwned_keeps | apply setOut_keeps | apply keeps_foldl
        | refine keeps_same ?_ rfl rfl rfl)
      <;> try conv => arg 2; whnf)

theorem execBrakeEnd_keeps {b0 : State} (t : Nat) (n : Nat) (s : State) (h : Keeps b0 s) :
    KeepsO b0 (execBrakeEnd t n s) := by
  unfold execBrakeEnd
  with_reducible
    try conv => arg 2; whnf
    iterate 40 all_goals try ((
      first
        | assumption | apply endBrake_keeps | apply at_keeps | apply keepsO_next | apply keeps_ite | apply keepsO_ite)
      <;> try conv => arg 2; whnf)

theorem execBrakeLong_keeps {b0 : State} (t : Nat) (n : Nat) (s : State) (h : Keeps b0 s) :
    KeepsO b0 (execBrakeLong t n s) := by
  unfold execBrakeLong
  with_reducible
    try conv => arg 2; whnf
    iterate 40 all_goals try ((
      first
        | assumption | apply endBrake_keeps | apply raiseError_keeps | apply at_keeps | apply keepsO_next
        | apply keeps_ite | apply keepsO_ite)
      <;> try conv => arg 2; whnf)

theorem fbAction_keeps {b0 : State} (c : Nat) (s : State) (h : Keeps b0 s) :
    Keeps b0 (fbAction c s) := by
  unfold fbAction
  with_reducible
    try conv => arg 2; whnf
    iterate 40 all_goals try ((
      first
        | assumption | intro _ | apply emptyGroup_keeps | apply endTracking_keeps | apply groupLegsOff_keeps
        | apply legOff_keeps | apply setLeg_keeps | apply setOut_keeps | apply tripGroup_keeps | apply keeps_foldl
        | apply keeps_ite | refine keeps_same ?_ rfl rfl rfl)
      <;> try conv => arg 2; whnf)

theorem fbFlag_keeps {b0 : State} (c : Nat) (frozen : Bool) (s : State) (h : Keeps b0 s) :
    Keeps b0 (fbFlag c frozen s) := by
  unfold fbFlag
  with_reducible
    try conv => arg 2; whnf
    iterate 40 all_goals try ((
      first
        | assumption | intro _ | apply fbAction_keeps | apply keeps_ite | refine keeps_same ?_ rfl rfl rfl)
      <;> try conv => arg 2; whnf)

theorem notGood_keeps {b0 : State} (ch : Nat) (s : State) (h : Keeps b0 s) :
    Keeps b0 (notGood ch s) := by
  unfold notGood
  with_reducible
    try conv => arg 2; whnf
    iterate 40 all_goals try ((
      first
        | assumption | intro _ | refine keeps_same ?_ rfl rfl rfl)
      <;> try conv => arg 2; whnf)

theorem execFbLost_keeps {b0 : State} (t : Nat) (ch : Nat) (s : State) (h : Keeps b0 s) :
    KeepsO b0 (execFbLost t ch s) := by
  unfold execFbLost
  with_reducible
    try conv => arg 2; whnf
    iterate 40 all_goals try ((
      first
        | assumption | apply fbFlag_keeps | apply notGood_keeps | apply raiseError_keeps | apply updStage_keeps
        | apply at_keeps | apply keepsO_next | apply keeps_ite | apply keepsO_ite)
      <;> try conv => arg 2; whnf)

theorem execMclkLost_keeps {b0 : State} (t : Nat) (k : Nat) (s : State) (h : Keeps b0 s) :
    KeepsO b0 (execMclkLost t k s) := by
  unfold execMclkLost
  with_reducible
    try conv => arg 2; whnf
    iterate 40 all_goals try ((
      first
        | assumption | intro _ | apply fbFlag_keeps | apply notGood_keeps | apply raiseError_keeps
        | apply updStage_keeps | apply at_keeps | apply keepsO_next | apply keeps_foldl | apply keeps_ite
        | apply keepsO_ite | refine keeps_same ?_ rfl rfl rfl)
      <;> try conv => arg 2; whnf)

theorem execFbFrozen_keeps {b0 : State} (t : Nat) (ch : Nat) (s : State) (h : Keeps b0 s) :
    KeepsO b0 (execFbFrozen t ch s) := by
  unfold execFbFrozen
  with_reducible
    try conv => arg 2; whnf
    iterate 40 all_goals try ((
      first
        | assumption | apply fbFlag_keeps | apply notGood_keeps | apply raiseError_keeps | apply updStage_keeps
        | apply at_keeps | apply keepsO_next | apply keeps_ite | apply keepsO_ite)
      <;> try conv => arg 2; whnf)

theorem execFbClear_keeps {b0 : State} (t : Nat) (ch : Nat) (s : State) (h : Keeps b0 s) :
    KeepsO b0 (execFbClear t ch s) := by
  unfold execFbClear
  with_reducible
    try conv => arg 2; whnf
    iterate 40 all_goals try ((
      first
        | assumption | intro _ | apply errCleared_keeps | apply at_keeps | apply keepsO_next | apply keeps_ite
        | apply keepsO_ite | refine keeps_same ?_ rfl rfl rfl)
      <;> try conv => arg 2; whnf)

/-! ### PwrCmd.lean -/

theorem execPwrStatus_keeps {b0 : State} (t : Nat) (line : Nat) (seq : Nat) (s : State) (h : Keeps b0 s) :
    KeepsO b0 (execPwrStatus t line seq s) := by
  unfold execPwrStatus
  with_reducible
    try conv => arg 2; whnf
    iterate 40 all_goals try ((
      first
        | assumption | intro _ | apply doneOut_keeps | apply runCmd_keeps | apply at_keeps | apply keepsO_next
        | apply keeps_foldl | apply keeps_ite | apply keeps_ite2 | apply keepsO_ite | refine memWrite_wf _ _ _ ?_
        | refine memWriteBytes_wf _ _ ?_ | refine Memory.wf_filter _ ?_ | split | exact ⟨rfl, rfl⟩ | rfl
        | refine keeps_pair (by assumption) ?_ | refine keeps_same ?_ rfl rfl rfl | refine keeps_out ?_ rfl rfl rfl
        | refine keeps_new ?_ rfl rfl rfl | refine keeps_mem ?_ rfl rfl rfl ?_)
      <;> try conv => arg 2; whnf)

theorem execPwrMdatRead_keeps {b0 : State} (t : Nat) (line : Nat) (seq : Nat) (s : State) (h : Keeps b0 s) :
    KeepsO b0 (execPwrMdatRead t line seq s) := by
  unfold execPwrMdatRead
  with_reducible
    try conv => arg 2; whnf
    iterate 40 all_goals try ((
      first
        | assumption | intro _ | apply doneOut_keeps | apply runCmd_keeps | apply at_keeps | apply keepsO_next
        | refine keeps_same ?_ rfl rfl rfl)
      <;> try conv => arg 2; whnf)

theorem excludeLeg_keeps {b0 : State} (k : Nat) (ex : Bool) (s : State) (h : Keeps b0 s) :
    Keeps b0 (excludeLeg k ex s) := by
  unfold excludeLeg
  with_reducible
    try conv => arg 2; whnf
    iterate 40 all_goals try ((
      first
        | assumption | intro _ | apply markSet_keeps | apply setLeg_keeps | apply unplaceLeg_keeps | apply keeps_ite
        | refine keeps_same ?_ rfl rfl rfl)
      <;> try conv => arg 2; whnf)

theorem execPwrLegExclude_keeps {b0 : State} (t : Nat) (line : Nat) (seq : Nat) (s : State) (h : Keeps b0 s) :
    KeepsO b0 (execPwrLegExclude t line seq s) := by
  unfold execPwrLegExclude
  with_reducible
    try conv => arg 2; whnf
    iterate 40 all_goals try ((
      first
        | assumption | intro _ | apply done_keeps | apply excludeLeg_keeps | apply rejectRange_keeps
        | apply runCmd_keeps | apply at_keeps | apply keepsO_next | apply keeps_foldl | apply keeps_ite
        | apply keeps_ite2 | apply keepsO_ite | refine memWrite_wf _ _ _ ?_ | refine memWriteBytes_wf _ _ ?_
        | refine Memory.wf_filter _ ?_ | split | exact ⟨rfl, rfl⟩ | rfl | refine keeps_pair (by assumption) ?_
        | refine keeps_same ?_ rfl rfl rfl | refine keeps_out ?_ rfl rfl rfl | refine keeps_new ?_ rfl rfl rfl
        | refine keeps_mem ?_ rfl rfl rfl ?_)
      <;> try conv => arg 2; whnf)

theorem clearFb_keeps {b0 : State} (c : Nat) (s : State) (h : Keeps b0 s) :
    Keeps b0 (clearFb c s) := by
  unfold clearFb
  with_reducible
    try conv => arg 2; whnf
    iterate 40 all_goals try ((
      first
        | assumption | intro _ | apply errCleared_keeps | apply keeps_ite | refine keeps_same ?_ rfl rfl rfl)
      <;> try conv => arg 2; whnf)

theorem clearLeg_keeps {b0 : State} (k : Nat) (s : State) (h : Keeps b0 s) :
    Keeps b0 (clearLeg k s) := by
  unfold clearLeg
  with_reducible
    try conv => arg 2; whnf
    iterate 40 all_goals try ((
      first
        | assumption | intro _ | apply clearFb_keeps | apply errCleared_keeps | apply setLeg_keeps | apply keeps_ite
        | refine keeps_same ?_ rfl rfl rfl)
      <;> try conv => arg 2; whnf)

theorem clearOutFb_keeps {b0 : State} (n : Nat) (s : State) (h : Keeps b0 s) :
    Keeps b0 (clearOutFb n s) := by
  unfold clearOutFb
  with_reducible
    try conv => arg 2; whnf
    iterate 40 all_goals try ((
      first
        | assumption | intro _ | apply clearFb_keeps | apply setOut_keeps | apply keeps_ite
        | refine keeps_same ?_ rfl rfl rfl)
      <;> try conv => arg 2; whnf)

theorem readmitReach_keeps {b0 : State} (n : Nat) (s : State) (h : Keeps b0 s) :
    Keeps b0 (readmitReach n s) := by
  unfold readmitReach
  with_reducible
    try conv => arg 2; whnf
    iterate 40 all_goals try ((
      first
        | assumption | intro _ | apply keeps_ite | refine keeps_same ?_ rfl rfl rfl)
      <;> try conv => arg 2; whnf)

theorem clearGroup_keeps {b0 : State} (g : Nat) (s : State) (h : Keeps b0 s) :
    Keeps b0 (clearGroup g s) := by
  unfold clearGroup
  with_reducible
    try conv => arg 2; whnf
    iterate 40 all_goals try ((
      first
        | assumption | intro _ | apply clearFb_keeps | apply clearOutFb_keeps | apply errCleared_keeps
        | apply readmitReach_keeps | apply restartOwned_keeps | apply setPg_keeps | apply keeps_foldl
        | apply keeps_ite | refine keeps_same ?_ rfl rfl rfl)
      <;> try conv => arg 2; whnf)

theorem clearPos_keeps {b0 : State} (g : Nat) (n : Nat) (s : State) (h : Keeps b0 s) :
    Keeps b0 (clearPos g n s) := by
  unfold clearPos
  with_reducible
    try conv => arg 2; whnf
    iterate 40 all_goals try ((
      first
        | assumption | intro _ | apply errCleared_keeps | apply readmitReach_keeps | apply setPg_keeps
        | refine keeps_same ?_ rfl rfl rfl)
      <;> try conv => arg 2; whnf)

theorem clearCtr_keeps {b0 : State} (n : Nat) (s : State) (h : Keeps b0 s) :
    Keeps b0 (clearCtr n s) := by
  unfold clearCtr
  with_reducible
    try conv => arg 2; whnf
    iterate 40 all_goals try ((
      first
        | assumption | intro _ | apply clearOutFb_keeps | apply errCleared_keeps | apply readmitReach_keeps
        | apply setOut_keeps | apply keeps_ite | refine keeps_same ?_ rfl rfl rfl)
      <;> try conv => arg 2; whnf)

theorem clearCrowbar_keeps {b0 : State} (n : Nat) (s : State) (h : Keeps b0 s) :
    Keeps b0 (clearCrowbar n s) := by
  unfold clearCrowbar
  with_reducible
    try conv => arg 2; whnf
    iterate 40 all_goals try ((
      first
        | assumption | intro _ | apply errCleared_keeps | apply readmitReach_keeps | apply setOut_keeps
        | refine keeps_same ?_ rfl rfl rfl)
      <;> try conv => arg 2; whnf)

theorem clearItem_keeps {b0 : State} (c : Cmd) (s : State) (h : Keeps b0 s) :
    Keeps b0 (clearItem c s) := by
  unfold clearItem
  with_reducible
    try conv => arg 2; whnf
    iterate 40 all_goals try ((
      first
        | assumption | intro _ | apply clearCrowbar_keeps | apply clearCtr_keeps | apply clearGroup_keeps
        | apply clearLeg_keeps | apply clearPos_keeps | split | refine keeps_pair (by assumption) ?_
        | refine keeps_same ?_ rfl rfl rfl)
      <;> try conv => arg 2; whnf)

theorem execPwrFaultClear_keeps {b0 : State} (t : Nat) (line : Nat) (seq : Nat) (s : State) (h : Keeps b0 s) :
    KeepsO b0 (execPwrFaultClear t line seq s) := by
  unfold execPwrFaultClear
  with_reducible
    try conv => arg 2; whnf
    iterate 40 all_goals try ((
      first
        | assumption | intro _ | apply clearItem_keeps | apply done_keeps | apply rejectRange_keeps
        | apply runCmd_keeps | apply updStage_keeps | apply at_keeps | apply keepsO_next | split
        | refine keeps_pair (by assumption) ?_ | refine keeps_same ?_ rfl rfl rfl)
      <;> try conv => arg 2; whnf)

/-! ### Lpe.lean -/

theorem requestSwap_keeps {b0 : State} (s : State) (h : Keeps b0 s) :
    Keeps b0 (requestSwap s) := by
  unfold requestSwap
  with_reducible
    try conv => arg 2; whnf
    iterate 40 all_goals try ((
      first
        | assumption | intro _ | apply finishSwap_keeps | apply keeps_ite | refine keeps_same ?_ rfl rfl rfl)
      <;> try conv => arg 2; whnf)

theorem putSec_keeps {b0 : State} (base : Nat) (k : Nat) (x : SecState) (s : State) (h : Keeps b0 s) :
    Keeps b0 (putSec base k x s) := by
  unfold putSec
  with_reducible
    try conv => arg 2; whnf
    iterate 40 all_goals try ((
      first
        | assumption | intro _ | refine memWrite_wf _ _ _ ?_ | refine memWriteBytes_wf _ _ ?_
        | refine Memory.wf_filter _ ?_ | refine keeps_same ?_ rfl rfl rfl | refine keeps_mem ?_ rfl rfl rfl ?_)
      <;> try conv => arg 2; whnf)

theorem setSlot_keeps {b0 : State} (k : Nat) (f : Slot → Slot) (s : State) (h : Keeps b0 s) :
    Keeps b0 (setSlot k f s) := by
  unfold setSlot
  with_reducible
    try conv => arg 2; whnf
    iterate 40 all_goals try ((
      first
        | assumption | intro _ | refine keeps_same ?_ rfl rfl rfl)
      <;> try conv => arg 2; whnf)

theorem putOvrRun_keeps {b0 : State} (k : Nat) (v : Nat) (s : State) (h : Keeps b0 s) :
    Keeps b0 (putOvrRun k v s) := by
  unfold putOvrRun
  with_reducible
    try conv => arg 2; whnf
    iterate 40 all_goals try ((
      first
        | assumption | intro _ | refine memWrite_wf _ _ _ ?_ | refine memWriteBytes_wf _ _ ?_
        | refine Memory.wf_filter _ ?_ | refine keeps_same ?_ rfl rfl rfl | refine keeps_mem ?_ rfl rfl rfl ?_)
      <;> try conv => arg 2; whnf)

theorem formRefs_keeps {b0 : State} (s : State) (h : Keeps b0 s) :
    Keeps b0 (formRefs s) := by
  unfold formRefs
  with_reducible
    try conv => arg 2; whnf
    iterate 40 all_goals try ((
      first
        | assumption | intro _ | split | refine keeps_pair (by assumption) ?_ | refine keeps_same ?_ rfl rfl rfl)
      <;> try conv => arg 2; whnf)

theorem writeDest_keeps {b0 : State} (dst : Nat) (v : Int) (s : State) (h : Keeps b0 s) :
    Keeps b0 (writeDest dst v s) := by
  unfold writeDest
  with_reducible
    try conv => arg 2; whnf
    iterate 40 all_goals try ((
      first
        | assumption | intro _ | apply coolCommand_keeps | apply formRefs_keeps | apply setLeg_keeps
        | apply setPg_keeps | apply keeps_ite | split | refine keeps_pair (by assumption) ?_
        | refine keeps_same ?_ rfl rfl rfl)
      <;> try conv => arg 2; whnf)

theorem loadSnapshot_keeps {b0 : State} (k : Nat) (s : State) (h : Keeps b0 s) :
    Keeps b0 (loadSnapshot k s) := by
  unfold loadSnapshot
  with_reducible
    try conv => arg 2; whnf
    iterate 40 all_goals try ((
      first
        | assumption | intro _ | apply putSec_keeps | apply setSlot_keeps | apply keeps_foldl
        | refine memWrite_wf _ _ _ ?_ | refine memWriteBytes_wf _ _ ?_ | refine Memory.wf_filter _ ?_
        | refine keeps_same ?_ rfl rfl rfl | refine keeps_out ?_ rfl rfl rfl)
      <;> try conv => arg 2; whnf)

theorem warmStart_keeps {b0 : State} (k : Nat) (s : State) (h : Keeps b0 s) :
    Keeps b0 (warmStart k s) := by
  unfold warmStart
  with_reducible
    try conv => arg 2; whnf
    iterate 40 all_goals try ((
      first
        | assumption | intro _ | apply fireEvent_keeps | apply loadSnapshot_keeps | apply raiseError_keeps
        | apply setSlot_keeps | apply keeps_ite | refine memWrite_wf _ _ _ ?_ | refine memWriteBytes_wf _ _ ?_
        | refine Memory.wf_filter _ ?_ | refine keeps_same ?_ rfl rfl rfl)
      <;> try conv => arg 2; whnf)

theorem clearSections_keeps {b0 : State} (k : Nat) (s : State) (h : Keeps b0 s) :
    Keeps b0 (clearSections k s) := by
  unfold clearSections
  with_reducible
    try conv => arg 2; whnf
    iterate 40 all_goals try ((
      first
        | assumption | intro _ | apply putSec_keeps | apply setSlot_keeps | apply keeps_foldl | apply keeps_ite
        | refine keeps_same ?_ rfl rfl rfl | refine keeps_out ?_ rfl rfl rfl)
      <;> try conv => arg 2; whnf)

theorem releaseSlot_keeps {b0 : State} (k : Nat) (ain : List Int) (s0 : State) (h : Keeps b0 s0) :
    Keeps b0 (releaseSlot k ain s0) := by
  unfold releaseSlot
  with_reducible
    try conv => arg 2; whnf
    iterate 40 all_goals try ((
      first
        | assumption | intro _ | apply clearSections_keeps | apply setSlot_keeps | apply warmStart_keeps
        | apply keeps_ite | refine keeps_same ?_ rfl rfl rfl)
      <;> try conv => arg 2; whnf)

theorem tripSlot_keeps {b0 : State} (k : Nat) (e : ErrSpec) (s : State) (h : Keeps b0 s) :
    Keeps b0 (tripSlot k e s) := by
  unfold tripSlot
  with_reducible
    try conv => arg 2; whnf
    iterate 40 all_goals try ((
      first
        | assumption | intro _ | apply fireEvent_keeps | apply raiseError_keeps | apply setSlot_keeps
        | apply tripGroup_keeps | apply updStage_keeps | apply writeDest_keeps | apply keeps_foldl | apply keeps_ite
        | split | refine keeps_pair (by assumption) ?_ | refine keeps_same ?_ rfl rfl rfl
        | refine keeps_out ?_ rfl rfl rfl)
      <;> try conv => arg 2; whnf)

theorem overrunSlot_keeps {b0 : State} (k : Nat) (s : State) (h : Keeps b0 s) :
    Keeps b0 (overrunSlot k s) := by
  unfold overrunSlot
  with_reducible
    try conv => arg 2; whnf
    iterate 40 all_goals try ((
      first
        | assumption | intro _ | apply fireEvent_keeps | apply putOvrRun_keeps | apply setSlot_keeps
        | apply tripSlot_keeps | apply keeps_ite | refine keeps_same ?_ rfl rfl rfl)
      <;> try conv => arg 2; whnf)

theorem readVolts_keeps {b0 : State} (volts : List (List Bool)) (s : State) (h : Keeps b0 s) :
    Keeps b0 (readVolts volts s) := by
  unfold readVolts
  with_reducible
    try conv => arg 2; whnf
    iterate 40 all_goals try ((
      first
        | assumption | intro _ | apply readMain_keeps | apply keeps_foldl)
      <;> try conv => arg 2; whnf)

theorem execSlotRelease_keeps {b0 : State} (t : Nat) (slot : Nat) (ain : List Int) (volts : List (List Bool)) (s : State) (h : Keeps b0 s) :
    KeepsO b0 (execSlotRelease t slot ain volts s) := by
  unfold execSlotRelease
  with_reducible
    try conv => arg 2; whnf
    iterate 40 all_goals try ((
      first
        | assumption | intro _ | apply overrunSlot_keeps | apply readVolts_keeps | apply releaseSlot_keeps
        | apply setSlot_keeps | apply at_keeps | apply keepsO_next | apply keeps_ite | apply keepsO_ite
        | refine keeps_same ?_ rfl rfl rfl)
      <;> try conv => arg 2; whnf)

theorem execSlotDeadline_keeps {b0 : State} (t : Nat) (slot : Nat) (s : State) (h : Keeps b0 s) :
    KeepsO b0 (execSlotDeadline t slot s) := by
  unfold execSlotDeadline
  with_reducible
    try conv => arg 2; whnf
    iterate 40 all_goals try ((
      first
        | assumption | apply overrunSlot_keeps | apply at_keeps | apply keepsO_next | apply keeps_ite
        | apply keepsO_ite)
      <;> try conv => arg 2; whnf)

theorem finishWarm_keeps {b0 : State} (before : State) (s : State) (h : Keeps b0 s) :
    Keeps b0 (finishWarm before s) := by
  unfold finishWarm
  with_reducible
    try conv => arg 2; whnf
    iterate 40 all_goals try ((
      first
        | assumption | apply fireEvent_keeps | apply keeps_ite)
      <;> try conv => arg 2; whnf)

theorem takeSnapshot_keeps {b0 : State} (k : Nat) (cp : Capture) (s : State) (h : Keeps b0 s) :
    Keeps b0 (takeSnapshot k cp s) := by
  unfold takeSnapshot
  with_reducible
    try conv => arg 2; whnf
    iterate 40 all_goals try ((
      first
        | assumption | intro _ | apply mirrorSend_keeps | apply setSlot_keeps | apply keeps_ite
        | refine keeps_same ?_ rfl rfl rfl)
      <;> try conv => arg 2; whnf)

theorem completeSlot_keeps {b0 : State} (k : Nat) (lat : Nat) (cp : Capture) (s : State) (h : Keeps b0 s) :
    Keeps b0 (completeSlot k lat cp s) := by
  unfold completeSlot
  with_reducible
    try conv => arg 2; whnf
    iterate 40 all_goals try ((
      first
        | assumption | intro _ | apply finishSwap_keeps | apply finishWarm_keeps | apply fireEvent_keeps
        | apply putOvrRun_keeps | apply putSec_keeps | apply raiseError_keeps | apply setSlot_keeps
        | apply takeSnapshot_keeps | apply writeDest_keeps | apply keeps_foldl | apply keeps_ite
        | refine keeps_same ?_ rfl rfl rfl | refine keeps_out ?_ rfl rfl rfl)
      <;> try conv => arg 2; whnf)

theorem execSlotComplete_keeps {b0 : State} (t : Nat) (slot : Nat) (lat : Nat) (eccDbl : Bool) (s : State) (h : Keeps b0 s) :
    KeepsO b0 (execSlotComplete t slot lat eccDbl s) := by
  unfold execSlotComplete
  with_reducible
    try conv => arg 2; whnf
    iterate 40 all_goals try ((
      first
        | assumption | intro _ | apply completeSlot_keeps | apply putOvrRun_keeps | apply setSlot_keeps
        | apply tripSlot_keeps | apply at_keeps | apply keepsO_next | apply keeps_ite | apply keepsO_ite | split
        | refine keeps_pair (by assumption) ?_ | refine keeps_same ?_ rfl rfl rfl)
      <;> try conv => arg 2; whnf)

theorem execLpeOvrClear_keeps {b0 : State} (t : Nat) (slot : Nat) (s : State) (h : Keeps b0 s) :
    KeepsO b0 (execLpeOvrClear t slot s) := by
  unfold execLpeOvrClear
  with_reducible
    try conv => arg 2; whnf
    iterate 40 all_goals try ((
      first
        | assumption | intro _ | apply errCleared_keeps | apply setSlot_keeps | apply updStage_keeps | apply at_keeps
        | apply keepsO_next | apply keeps_ite | apply keepsO_ite | refine keeps_same ?_ rfl rfl rfl)
      <;> try conv => arg 2; whnf)

theorem execLpeSwapReq_keeps {b0 : State} (t : Nat) (m : Master) (s : State) (h : Keeps b0 s) :
    KeepsO b0 (execLpeSwapReq t m s) := by
  unfold execLpeSwapReq
  with_reducible
    try conv => arg 2; whnf
    iterate 40 all_goals try ((
      first
        | assumption | apply firewallBlock_keeps | apply requestSwap_keeps | apply at_keeps | apply keepsO_next
        | apply keeps_ite | apply keepsO_ite)
      <;> try conv => arg 2; whnf)

theorem writeSlotWord_keeps {b0 : State} (a : Nat) (v : Nat) (s : State) (h : Keeps b0 s) :
    Keeps b0 (writeSlotWord a v s) := by
  unfold writeSlotWord
  with_reducible
    try conv => arg 2; whnf
    iterate 40 all_goals try ((
      first
        | assumption | intro _ | apply setSlot_keeps | apply slotComputed_keeps | apply wrw_keeps | apply keeps_ite
        | refine keeps_same ?_ rfl rfl rfl)
      <;> try conv => arg 2; whnf)

theorem reedbedWrite_keeps {b0 : State} (addr : Nat) (word : Nat) (s : State) (h : Keeps b0 s) :
    Keeps b0 (reedbedWrite addr word s) := by
  unfold reedbedWrite
  with_reducible
    try conv => arg 2; whnf
    iterate 40 all_goals try ((
      first
        | assumption | intro _ | apply writeSlotWord_keeps | apply wrw_keeps | apply keeps_ite
        | refine keeps_same ?_ rfl rfl rfl)
      <;> try conv => arg 2; whnf)

theorem execReedbedRamWrite_keeps {b0 : State} (t : Nat) (addr : Nat) (word : Nat) (s : State) (h : Keeps b0 s) :
    KeepsO b0 (execReedbedRamWrite t addr word s) := by
  unfold execReedbedRamWrite
  with_reducible
    try conv => arg 2; whnf
    iterate 40 all_goals try ((
      first
        | assumption | apply reedbedWrite_keeps | apply at_keeps | apply keepsO_next)
      <;> try conv => arg 2; whnf)

theorem execPwrLoopRead_keeps {b0 : State} (t : Nat) (line : Nat) (seq : Nat) (s : State) (h : Keeps b0 s) :
    KeepsO b0 (execPwrLoopRead t line seq s) := by
  unfold execPwrLoopRead
  with_reducible
    try conv => arg 2; whnf
    iterate 40 all_goals try ((
      first
        | assumption | intro _ | apply doneOut_keeps | apply rejectRange_keeps | apply runCmd_keeps | apply at_keeps
        | apply keepsO_next | apply keeps_foldl | apply keeps_ite | apply keeps_ite2 | apply keepsO_ite
        | refine memWrite_wf _ _ _ ?_ | refine memWriteBytes_wf _ _ ?_ | refine Memory.wf_filter _ ?_ | split
        | exact ⟨rfl, rfl⟩ | rfl | refine keeps_pair (by assumption) ?_ | refine keeps_same ?_ rfl rfl rfl
        | refine keeps_out ?_ rfl rfl rfl | refine keeps_new ?_ rfl rfl rfl | refine keeps_mem ?_ rfl rfl rfl ?_)
      <;> try conv => arg 2; whnf)

theorem execPwrLoopBudget_keeps {b0 : State} (t : Nat) (line : Nat) (seq : Nat) (s : State) (h : Keeps b0 s) :
    KeepsO b0 (execPwrLoopBudget t line seq s) := by
  unfold execPwrLoopBudget
  with_reducible
    try conv => arg 2; whnf
    iterate 40 all_goals try ((
      first
        | assumption | intro _ | apply doneOut_keeps | apply runCmd_keeps | apply at_keeps | apply keepsO_next
        | apply keeps_foldl | apply keeps_ite | apply keeps_ite2 | apply keepsO_ite | refine memWrite_wf _ _ _ ?_
        | refine memWriteBytes_wf _ _ ?_ | refine Memory.wf_filter _ ?_ | split | exact ⟨rfl, rfl⟩ | rfl
        | refine keeps_pair (by assumption) ?_ | refine keeps_same ?_ rfl rfl rfl | refine keeps_out ?_ rfl rfl rfl
        | refine keeps_new ?_ rfl rfl rfl | refine keeps_mem ?_ rfl rfl rfl ?_)
      <;> try conv => arg 2; whnf)

end Sys2Proof.Machine
end

