-- ==== Sys2Proof/Laws/KeepsFamilies3.lean ====
section
/-! SUPPORT. Every operation of Lsw.lean, Mtr.lean, Slc.lean, Vcl.lean keeps what `Keeps` says. -/

set_option linter.unusedTactic false
set_option linter.unreachableTactic false

namespace Sys2Proof.Machine

/-! ### Lsw.lean -/

theorem lswReturn_keeps {b0 : State} (n : Nat) (s : State) (h : Keeps b0 s) :
    Keeps b0 (lswReturn n s) := by
  unfold lswReturn
  with_reducible
    try conv => arg 2; whnf
    iterate 40 all_goals try ((
      first
        | assumption | apply turnOn_keeps | apply keeps_ite)
      <;> try conv => arg 2; whnf)

theorem raiseRun_keeps {b0 : State} (e : ErrSpec) (arg : Nat) (s : State) (h : Keeps b0 s) :
    Keeps b0 (raiseRun e arg s) := by
  unfold raiseRun
  with_reducible
    try conv => arg 2; whnf
    iterate 40 all_goals try ((
      first
        | assumption | apply raiseError_keeps | apply keeps_ite)
      <;> try conv => arg 2; whnf)

theorem sweepLsw_keeps {b0 : State} (s : State) (h : Keeps b0 s) :
    Keeps b0 (sweepLsw s) := by
  unfold sweepLsw
  with_reducible
    try conv => arg 2; whnf
    iterate 40 all_goals try ((
      first
        | assumption | intro _ | apply evalSafe_keeps | apply keeps_ite | refine keeps_same ?_ rfl rfl rfl)
      <;> try conv => arg 2; whnf)

theorem lswEvent_keeps {b0 : State} (n : Nat) (s : State) (h : Keeps b0 s) :
    Keeps b0 (lswEvent n s) := by
  unfold lswEvent
  with_reducible
    try conv => arg 2; whnf
    iterate 40 all_goals try ((
      first
        | assumption | apply fireEvent_keeps)
      <;> try conv => arg 2; whnf)

theorem ctrLost_keeps {b0 : State} (n : Nat) (wasOn : Bool) (s : State) (h : Keeps b0 s) :
    Keeps b0 (ctrLost n wasOn s) := by
  unfold ctrLost
  with_reducible
    try conv => arg 2; whnf
    iterate 40 all_goals try ((
      first
        | assumption | apply raiseRun_keeps | apply keeps_ite)
      <;> try conv => arg 2; whnf)

theorem lswRestart_keeps {b0 : State} (n : Nat) (s : State) (h : Keeps b0 s) :
    Keeps b0 (lswRestart n s) := by
  unfold lswRestart
  with_reducible
    try conv => arg 2; whnf
    iterate 40 all_goals try ((
      first
        | assumption | intro _ | apply lswReturn_keeps | apply setCh_keeps | apply keeps_ite
        | refine keeps_same ?_ rfl rfl rfl)
      <;> try conv => arg 2; whnf)

theorem keeperLost_keeps {b0 : State} (s : State) (h : Keeps b0 s) :
    Keeps b0 (keeperLost s) := by
  unfold keeperLost
  with_reducible
    try conv => arg 2; whnf
    iterate 40 all_goals try ((
      first
        | assumption | intro _ | apply gateLow_keeps | refine keeps_same ?_ rfl rfl rfl)
      <;> try conv => arg 2; whnf)

theorem execBankUndervoltage_keeps {b0 : State} (t : Nat) (bank : Nat) (s : State) (h : Keeps b0 s) :
    KeepsO b0 (execBankUndervoltage t bank s) := by
  unfold execBankUndervoltage
  with_reducible
    try conv => arg 2; whnf
    iterate 40 all_goals try ((
      first
        | assumption | intro _ | apply ctrLost_keeps | apply keeperLost_keeps | apply raiseLim_keeps
        | apply raiseRun_keeps | apply sweepLsw_keeps | apply turnOff_keeps | apply at_keeps | apply keepsO_next
        | apply keeps_foldl | apply keeps_ite | apply keepsO_ite | refine keeps_same ?_ rfl rfl rfl)
      <;> try conv => arg 2; whnf)

theorem execBankRecovery_keeps {b0 : State} (t : Nat) (bank : Nat) (s : State) (h : Keeps b0 s) :
    KeepsO b0 (execBankRecovery t bank s) := by
  unfold execBankRecovery
  with_reducible
    try conv => arg 2; whnf
    iterate 40 all_goals try ((
      first
        | assumption | intro _ | apply lswRestart_keeps | apply lswReturn_keeps | apply setLim_keeps
        | apply sweepLsw_keeps | apply at_keeps | apply keepsO_next | apply keeps_foldl | apply keeps_ite
        | apply keepsO_ite | refine keeps_same ?_ rfl rfl rfl)
      <;> try conv => arg 2; whnf)

theorem execLswCommand_keeps {b0 : State} (t : Nat) (ch : Nat) (owner : Nat) (on : Bool) (s : State) (h : Keeps b0 s) :
    KeepsO b0 (execLswCommand t ch owner on s) := by
  unfold execLswCommand
  with_reducible
    try conv => arg 2; whnf
    iterate 40 all_goals try ((
      first
        | assumption | apply lswDrive_keeps | apply sweepLsw_keeps | apply at_keeps | apply keepsO_next
        | apply keeps_ite | apply keepsO_ite)
      <;> try conv => arg 2; whnf)

theorem execLswCurrentLimit_keeps {b0 : State} (t : Nat) (ch : Nat) (limiting : Bool) (ma : Nat) (s : State) (h : Keeps b0 s) :
    KeepsO b0 (execLswCurrentLimit t ch limiting ma s) := by
  unfold execLswCurrentLimit
  with_reducible
    try conv => arg 2; whnf
    iterate 40 all_goals try ((
      first
        | assumption | intro _ | apply lswEvent_keeps | apply setCh_keeps | apply at_keeps | apply keepsO_next
        | apply keeps_ite | apply keepsO_ite | refine keeps_same ?_ rfl rfl rfl)
      <;> try conv => arg 2; whnf)

theorem execLswThermalShutdown_keeps {b0 : State} (t : Nat) (ch : Nat) (s : State) (h : Keeps b0 s) :
    KeepsO b0 (execLswThermalShutdown t ch s) := by
  unfold execLswThermalShutdown
  with_reducible
    try conv => arg 2; whnf
    iterate 40 all_goals try ((
      first
        | assumption | intro _ | apply ctrLost_keeps | apply lswEvent_keeps | apply raiseRun_keeps | apply setCh_keeps
        | apply sweepLsw_keeps | apply turnOff_keeps | apply at_keeps | apply keepsO_next | apply keeps_ite
        | apply keepsO_ite | refine keeps_same ?_ rfl rfl rfl)
      <;> try conv => arg 2; whnf)

theorem execLswThermalRelease_keeps {b0 : State} (t : Nat) (ch : Nat) (s : State) (h : Keeps b0 s) :
    KeepsO b0 (execLswThermalRelease t ch s) := by
  unfold execLswThermalRelease
  with_reducible
    try conv => arg 2; whnf
    iterate 40 all_goals try ((
      first
        | assumption | intro _ | apply lswEvent_keeps | apply lswRestart_keeps | apply lswReturn_keeps
        | apply setCh_keeps | apply sweepLsw_keeps | apply at_keeps | apply keepsO_next | apply keeps_ite
        | apply keepsO_ite | refine keeps_same ?_ rfl rfl rfl)
      <;> try conv => arg 2; whnf)

theorem execLswRetry_keeps {b0 : State} (t : Nat) (ch : Nat) (s : State) (h : Keeps b0 s) :
    KeepsO b0 (execLswRetry t ch s) := by
  unfold execLswRetry
  with_reducible
    try conv => arg 2; whnf
    iterate 40 all_goals try ((
      first
        | assumption | apply lswRestart_keeps | apply sweepLsw_keeps | apply at_keeps | apply keepsO_next)
      <;> try conv => arg 2; whnf)

theorem execLswRetryCountReset_keeps {b0 : State} (t : Nat) (ch : Nat) (s : State) (h : Keeps b0 s) :
    KeepsO b0 (execLswRetryCountReset t ch s) := by
  unfold execLswRetryCountReset
  with_reducible
    try conv => arg 2; whnf
    iterate 40 all_goals try ((
      first
        | assumption | intro _ | apply setCh_keeps | apply at_keeps | apply keepsO_next | apply keeps_ite
        | apply keepsO_ite | refine keeps_same ?_ rfl rfl rfl)
      <;> try conv => arg 2; whnf)

theorem execLswOpenLoad_keeps {b0 : State} (t : Nat) (ch : Nat) (s : State) (h : Keeps b0 s) :
    KeepsO b0 (execLswOpenLoad t ch s) := by
  unfold execLswOpenLoad
  with_reducible
    try conv => arg 2; whnf
    iterate 40 all_goals try ((
      first
        | assumption | intro _ | apply lswEvent_keeps | apply raiseRun_keeps | apply setCh_keeps | apply at_keeps
        | apply keepsO_next | apply keeps_ite | apply keepsO_ite | refine keeps_same ?_ rfl rfl rfl)
      <;> try conv => arg 2; whnf)

theorem execLswOpenLoadClear_keeps {b0 : State} (t : Nat) (ch : Nat) (s : State) (h : Keeps b0 s) :
    KeepsO b0 (execLswOpenLoadClear t ch s) := by
  unfold execLswOpenLoadClear
  with_reducible
    try conv => arg 2; whnf
    iterate 40 all_goals try ((
      first
        | assumption | intro _ | apply lswEvent_keeps | apply setCh_keeps | apply at_keeps | apply keepsO_next
        | apply keeps_ite | apply keepsO_ite | refine keeps_same ?_ rfl rfl rfl)
      <;> try conv => arg 2; whnf)

theorem execLswTurnOffClamp_keeps {b0 : State} (t : Nat) (ch : Nat) (energy : Nat) (s : State) (h : Keeps b0 s) :
    KeepsO b0 (execLswTurnOffClamp t ch energy s) := by
  unfold execLswTurnOffClamp
  with_reducible
    try conv => arg 2; whnf
    iterate 40 all_goals try ((
      first
        | assumption | intro _ | apply ctrLost_keeps | apply lswEvent_keeps | apply raiseRun_keeps | apply setCh_keeps
        | apply sweepLsw_keeps | apply turnOff_keeps | apply at_keeps | apply keepsO_next | apply keeps_ite
        | apply keepsO_ite | refine keeps_same ?_ rfl rfl rfl)
      <;> try conv => arg 2; whnf)

theorem execPgenPeriodStart_keeps {b0 : State} (t : Nat) (p : Nat) (s : State) (h : Keeps b0 s) :
    KeepsO b0 (execPgenPeriodStart t p s) := by
  unfold execPgenPeriodStart
  with_reducible
    try conv => arg 2; whnf
    iterate 40 all_goals try ((
      first
        | assumption | intro _ | apply at_keeps | apply keepsO_next | refine keeps_same ?_ rfl rfl rfl)
      <;> try conv => arg 2; whnf)

theorem execPickupEnd_keeps {b0 : State} (t : Nat) (ch : Nat) (s : State) (h : Keeps b0 s) :
    KeepsO b0 (execPickupEnd t ch s) := by
  unfold execPickupEnd
  with_reducible
    try conv => arg 2; whnf
    iterate 40 all_goals try ((
      first
        | assumption | intro _ | apply fireEvent_keeps | apply mirrorLoad_keeps | apply setCh_keeps | apply at_keeps
        | apply keepsO_next | apply keeps_ite | apply keepsO_ite | refine keeps_same ?_ rfl rfl rfl)
      <;> try conv => arg 2; whnf)

theorem takeReadback_keeps {b0 : State} (st : Nat) (w : Nat) (s : State) (h : Keeps b0 s) :
    Keeps b0 (takeReadback st w s) := by
  unfold takeReadback
  with_reducible
    try conv => arg 2; whnf
    iterate 40 all_goals try ((
      first
        | assumption | intro _ | apply keeps_ite | refine keeps_same ?_ rfl rfl rfl)
      <;> try conv => arg 2; whnf)

theorem badReadback_keeps {b0 : State} (st : Nat) (s : State) (h : Keeps b0 s) :
    Keeps b0 (badReadback st s) := by
  unfold badReadback
  with_reducible
    try conv => arg 2; whnf
    iterate 40 all_goals try ((
      first
        | assumption | intro _ | apply fireEvent_keeps | apply raiseRun_keeps | refine keeps_same ?_ rfl rfl rfl)
      <;> try conv => arg 2; whnf)

theorem coilFails_keeps {b0 : State} (st : Nat) (before : State) (s : State) (h : Keeps b0 s) :
    Keeps b0 (coilFails st before s) := by
  unfold coilFails
  with_reducible
    try conv => arg 2; whnf
    iterate 40 all_goals try ((
      first
        | assumption | intro _ | apply fireEvent_keeps | apply raiseRun_keeps | apply keeps_foldl | apply keeps_ite)
      <;> try conv => arg 2; whnf)

theorem judgeStation_keeps {b0 : State} (active : Bool) (s : State) (x : Nat × Option Nat) (h : Keeps b0 s) :
    Keeps b0 (judgeStation active s x) := by
  unfold judgeStation
  with_reducible
    try conv => arg 2; whnf
    iterate 40 all_goals try ((
      first
        | assumption | intro _ | apply badReadback_keeps | apply coilFails_keeps | apply takeReadback_keeps
        | apply keeps_ite | split | refine keeps_pair (by assumption) ?_ | refine keeps_same ?_ rfl rfl rfl)
      <;> try conv => arg 2; whnf)

theorem mtxReadbacks_keeps {b0 : State} (s : State) (h : Keeps b0 s) :
    Keeps b0 (mtxReadbacks s) := by
  unfold mtxReadbacks
  with_reducible
    try conv => arg 2; whnf
    iterate 40 all_goals try ((
      first
        | assumption | intro _ | apply mtxReadback_keeps | apply keeps_foldl | apply keeps_ite)
      <;> try conv => arg 2; whnf)

theorem judgeFrame_keeps {b0 : State} (active : Bool) (words : List Nat) (s : State) (h : Keeps b0 s) :
    Keeps b0 (judgeFrame active words s) := by
  unfold judgeFrame
  with_reducible
    try conv => arg 2; whnf
    iterate 40 all_goals try ((
      first
        | assumption | intro _ | apply fireEvent_keeps | apply judgeStation_keeps | apply mtxReadbacks_keeps
        | apply keeps_foldl | apply keeps_ite | refine keeps_same ?_ rfl rfl rfl)
      <;> try conv => arg 2; whnf)

theorem sendMxp_keeps {b0 : State} (s : State) (h : Keeps b0 s) :
    Keeps b0 (sendMxp s) := by
  unfold sendMxp
  with_reducible
    try conv => arg 2; whnf
    iterate 40 all_goals try ((
      first
        | assumption | apply emit_keeps)
      <;> try conv => arg 2; whnf)

theorem countBadFrame_keeps {b0 : State} (s : State) (h : Keeps b0 s) :
    Keeps b0 (countBadFrame s) := by
  unfold countBadFrame
  with_reducible
    try conv => arg 2; whnf
    iterate 40 all_goals try ((
      first
        | assumption | intro _ | apply fireEvent_keeps | apply raiseRun_keeps | apply keeps_ite
        | refine keeps_same ?_ rfl rfl rfl)
      <;> try conv => arg 2; whnf)

theorem execMxpFrame_keeps {b0 : State} (t : Nat) (words : List Nat) (s : State) (h : Keeps b0 s) :
    KeepsO b0 (execMxpFrame t words s) := by
  unfold execMxpFrame
  with_reducible
    try conv => arg 2; whnf
    iterate 40 all_goals try ((
      first
        | assumption | intro _ | apply countBadFrame_keeps | apply judgeFrame_keeps | apply sendMxp_keeps
        | apply sweepLsw_keeps | apply at_keeps | apply keepsO_next | apply keeps_ite | apply keepsO_ite
        | refine keeps_same ?_ rfl rfl rfl)
      <;> try conv => arg 2; whnf)

theorem execMxpPickupEnd_keeps {b0 : State} (t : Nat) (ch : Nat) (s : State) (h : Keeps b0 s) :
    KeepsO b0 (execMxpPickupEnd t ch s) := by
  unfold execMxpPickupEnd
  with_reducible
    try conv => arg 2; whnf
    iterate 40 all_goals try ((
      first
        | assumption | intro _ | apply mirrorLoad_keeps | apply at_keeps | apply keepsO_next | apply keeps_ite
        | apply keepsO_ite | refine keeps_same ?_ rfl rfl rfl)
      <;> try conv => arg 2; whnf)

theorem execLswStatus_keeps {b0 : State} (t : Nat) (line : Nat) (seq : Nat) (s : State) (h : Keeps b0 s) :
    KeepsO b0 (execLswStatus t line seq s) := by
  unfold execLswStatus
  with_reducible
    try conv => arg 2; whnf
    iterate 40 all_goals try ((
      first
        | assumption | intro _ | apply doneOut_keeps | apply runCmd_keeps | apply at_keeps | apply keepsO_next
        | apply keeps_foldl | apply keeps_ite | apply keeps_ite2 | apply keepsO_ite | refine memWrite_wf _ _ _ ?_
        | refine memWriteBytes_wf _ _ ?_ | refine Memory.wf_filter _ ?_ | split | exact ⟨rfl, rfl⟩ | rfl
        | refine keeps_pair (by assumption) ?_ | refine keeps_same ?_ rfl rfl rfl | refine keeps_out ?_ rfl rfl rfl
        | refine keeps_new ?_ rfl rfl rfl | refine keeps_mem ?_ rfl rfl rfl ?_)
      <;> try conv => arg 2; whnf)

theorem execLswSet_keeps {b0 : State} (t : Nat) (line : Nat) (seq : Nat) (s : State) (h : Keeps b0 s) :
    KeepsO b0 (execLswSet t line seq s) := by
  unfold execLswSet
  with_reducible
    try conv => arg 2; whnf
    iterate 40 all_goals try ((
      first
        | assumption | intro _ | apply done_keeps | apply lswDrive_keeps | apply runCmd_keeps | apply sweepLsw_keeps
        | apply at_keeps | apply keepsO_next | apply keeps_foldl | apply keeps_ite | apply keepsO_ite)
      <;> try conv => arg 2; whnf)

theorem execLswClear_keeps {b0 : State} (t : Nat) (line : Nat) (seq : Nat) (s : State) (h : Keeps b0 s) :
    KeepsO b0 (execLswClear t line seq s) := by
  unfold execLswClear
  with_reducible
    try conv => arg 2; whnf
    iterate 40 all_goals try ((
      first
        | assumption | intro _ | apply done_keeps | apply lswEvent_keeps | apply lswReturn_keeps
        | apply rejectRange_keeps | apply runCmd_keeps | apply setCh_keeps | apply sweepLsw_keeps | apply at_keeps
        | apply keepsO_next | apply keeps_ite | apply keepsO_ite | refine keeps_same ?_ rfl rfl rfl)
      <;> try conv => arg 2; whnf)

theorem execMxpStatus_keeps {b0 : State} (t : Nat) (line : Nat) (seq : Nat) (s : State) (h : Keeps b0 s) :
    KeepsO b0 (execMxpStatus t line seq s) := by
  unfold execMxpStatus
  with_reducible
    try conv => arg 2; whnf
    iterate 40 all_goals try ((
      first
        | assumption | intro _ | apply doneOut_keeps | apply runCmd_keeps | apply at_keeps | apply keepsO_next
        | apply keeps_foldl | apply keeps_ite | apply keeps_ite2 | apply keepsO_ite | refine memWrite_wf _ _ _ ?_
        | refine memWriteBytes_wf _ _ ?_ | refine Memory.wf_filter _ ?_ | split | exact ⟨rfl, rfl⟩ | rfl
        | refine keeps_pair (by assumption) ?_ | refine keeps_same ?_ rfl rfl rfl | refine keeps_out ?_ rfl rfl rfl
        | refine keeps_new ?_ rfl rfl rfl | refine keeps_mem ?_ rfl rfl rfl ?_)
      <;> try conv => arg 2; whnf)

/-! ### Mtr.lean -/

theorem captureWide_keeps {b0 : State} (s : State) (h : Keeps b0 s) :
    Keeps b0 (captureWide s) := by
  unfold captureWide
  with_reducible
    try conv => arg 2; whnf
    iterate 40 all_goals try ((
      first
        | assumption | intro _ | apply keeps_ite | refine keeps_same ?_ rfl rfl rfl)
      <;> try conv => arg 2; whnf)

theorem setTp_keeps {b0 : State} (k : Nat) (f : TestPulse → TestPulse) (s : State) (h : Keeps b0 s) :
    Keeps b0 (setTp k f s) := by
  unfold setTp
  with_reducible
    try conv => arg 2; whnf
    iterate 40 all_goals try ((
      first
        | assumption | intro _ | refine keeps_same ?_ rfl rfl rfl)
      <;> try conv => arg 2; whnf)

theorem startPulse_keeps {b0 : State} (k : Nat) (us : Nat) (s : State) (h : Keeps b0 s) :
    Keeps b0 (startPulse k us s) := by
  unfold startPulse
  with_reducible
    try conv => arg 2; whnf
    iterate 40 all_goals try ((
      first
        | assumption | intro _ | apply emit_keeps | apply setTp_keeps | refine keeps_same ?_ rfl rfl rfl)
      <;> try conv => arg 2; whnf)

theorem pulseDue_keeps {b0 : State} (k : Nat) (s : State) (h : Keeps b0 s) :
    Keeps b0 (pulseDue k s) := by
  unfold pulseDue
  with_reducible
    try conv => arg 2; whnf
    iterate 40 all_goals try ((
      first
        | assumption | intro _ | apply setTp_keeps | apply startPulse_keeps | apply keeps_ite | split
        | refine keeps_pair (by assumption) ?_ | refine keeps_same ?_ rfl rfl rfl)
      <;> try conv => arg 2; whnf)

theorem tpFollow_keeps {b0 : State} (k : Nat) (s : State) (h : Keeps b0 s) :
    Keeps b0 (tpFollow k s) := by
  unfold tpFollow
  with_reducible
    try conv => arg 2; whnf
    iterate 40 all_goals try ((
      first
        | assumption | intro _ | apply pulseDue_keeps | apply setTp_keeps | apply takeNeutral_keeps
        | apply keeps_foldl | apply keeps_ite | refine keeps_same ?_ rfl rfl rfl)
      <;> try conv => arg 2; whnf)

theorem loseLegal_keeps {b0 : State} (s : State) (h : Keeps b0 s) :
    Keeps b0 (loseLegal s) := by
  unfold loseLegal
  with_reducible
    try conv => arg 2; whnf
    iterate 40 all_goals try ((
      first
        | assumption | intro _ | apply legalUpdate_keeps | apply raiseError_keeps | apply setCause_keeps
        | apply keeps_ite | refine keeps_same ?_ rfl rfl rfl)
      <;> try conv => arg 2; whnf)

theorem flushLgl_keeps {b0 : State} (s : State) (h : Keeps b0 s) :
    Keeps b0 (flushLgl s) := by
  unfold flushLgl
  with_reducible
    try conv => arg 2; whnf
    iterate 40 all_goals try ((
      first
        | assumption | intro _ | apply loseLegal_keeps | apply raiseError_keeps | apply keeps_foldl | apply keeps_ite
        | refine keeps_same ?_ rfl rfl rfl)
      <;> try conv => arg 2; whnf)

theorem setMac_keeps {b0 : State} (k : Nat) (f : MtrAc → MtrAc) (s : State) (h : Keeps b0 s) :
    Keeps b0 (setMac k f s) := by
  unfold setMac
  with_reducible
    try conv => arg 2; whnf
    iterate 40 all_goals try ((
      first
        | assumption | intro _ | refine keeps_same ?_ rfl rfl rfl)
      <;> try conv => arg 2; whnf)

theorem setMdc_keeps {b0 : State} (n : Nat) (f : MtrDc → MtrDc) (s : State) (h : Keeps b0 s) :
    Keeps b0 (setMdc n f s) := by
  unfold setMdc
  with_reducible
    try conv => arg 2; whnf
    iterate 40 all_goals try ((
      first
        | assumption | intro _ | refine keeps_same ?_ rfl rfl rfl)
      <;> try conv => arg 2; whnf)

theorem addAcc_keeps {b0 : State} (a : Nat) (x : Rat) (s : State) (h : Keeps b0 s) :
    Keeps b0 (addAcc a x s) := by
  unfold addAcc
  with_reducible
    try conv => arg 2; whnf
    iterate 40 all_goals try ((
      first
        | assumption | intro _ | refine keeps_same ?_ rfl rfl rfl)
      <;> try conv => arg 2; whnf)

theorem execTestPulseEnd_keeps {b0 : State} (t : Nat) (k : Nat) (s : State) (h : Keeps b0 s) :
    KeepsO b0 (execTestPulseEnd t k s) := by
  unfold execTestPulseEnd
  with_reducible
    try conv => arg 2; whnf
    iterate 40 all_goals try ((
      first
        | assumption | intro _ | apply emit_keeps | apply setTp_keeps | apply at_keeps | apply keepsO_next
        | apply keeps_ite | apply keepsO_ite | refine keeps_same ?_ rfl rfl rfl)
      <;> try conv => arg 2; whnf)

theorem execTestPulseGapEnd_keeps {b0 : State} (t : Nat) (k : Nat) (s : State) (h : Keeps b0 s) :
    KeepsO b0 (execTestPulseGapEnd t k s) := by
  unfold execTestPulseGapEnd
  with_reducible
    try conv => arg 2; whnf
    iterate 40 all_goals try ((
      first
        | assumption | intro _ | apply setTp_keeps | apply startPulse_keeps | apply at_keeps | apply keepsO_next
        | apply keeps_ite | apply keepsO_ite | split | refine keeps_pair (by assumption) ?_
        | refine keeps_same ?_ rfl rfl rfl)
      <;> try conv => arg 2; whnf)

theorem addSample_keeps {b0 : State} (n : Nat) (p : Rat) (i : Rat) (inl : Rat × Nat) (s : State) (h : Keeps b0 s) :
    Keeps b0 (addSample n p i inl s) := by
  unfold addSample
  with_reducible
    try conv => arg 2; whnf
    iterate 40 all_goals try ((
      first
        | assumption | apply addAcc_keeps | apply keeps_ite)
      <;> try conv => arg 2; whnf)

theorem dcSum_keeps {b0 : State} (n : Nat) (cv : Rat) (cvs : Rat) (c1 : Rat) (c16 : Rat) (ovV : Bool) (ov1 : Bool) (ov16 : Bool) (s : State) (h : Keeps b0 s) :
    Keeps b0 (dcSum n cv cvs c1 c16 ovV ov1 ov16 s) := by
  unfold dcSum
  with_reducible
    try conv => arg 2; whnf
    iterate 40 all_goals try ((
      first
        | assumption | intro _ | apply setMdc_keeps | apply keeps_ite | refine keeps_same ?_ rfl rfl rfl)
      <;> try conv => arg 2; whnf)

theorem dcTake_keeps {b0 : State} (n : Nat) (cv : Rat) (cvs : Rat) (c1 : Rat) (c16 : Rat) (ovV : Bool) (ov1 : Bool) (ov16 : Bool) (s : State) (h : Keeps b0 s) :
    Keeps b0 (dcTake n cv cvs c1 c16 ovV ov1 ov16 s) := by
  unfold dcTake
  with_reducible
    try conv => arg 2; whnf
    iterate 40 all_goals try ((
      first
        | assumption | apply addSample_keeps | apply dcSum_keeps | apply tpFollow_keeps | apply keeps_ite)
      <;> try conv => arg 2; whnf)

theorem execDcMeterSample_keeps {b0 : State} (t : Nat) (n : Nat) (v : Int) (vs : Int) (i1 : Int) (i16 : Int) (tdie : Int) (ovV : Bool) (ov1 : Bool) (ov16 : Bool) (s : State) (h : Keeps b0 s) :
    KeepsO b0 (execDcMeterSample t n v vs i1 i16 tdie ovV ov1 ov16 s) := by
  unfold execDcMeterSample
  with_reducible
    try conv => arg 2; whnf
    iterate 40 all_goals try ((
      first
        | assumption | apply dcTake_keeps | apply at_keeps | apply keepsO_next | apply keeps_ite | apply keepsO_ite)
      <;> try conv => arg 2; whnf)

theorem execSenseInvalid_keeps {b0 : State} (t : Nat) (n : Nat) (s : State) (h : Keeps b0 s) :
    KeepsO b0 (execSenseInvalid t n s) := by
  unfold execSenseInvalid
  with_reducible
    try conv => arg 2; whnf
    iterate 40 all_goals try ((
      first
        | assumption | intro _ | apply fireEvent_keeps | apply raiseError_keeps | apply setMdc_keeps | apply at_keeps
        | apply keepsO_next | apply keeps_ite | apply keepsO_ite | refine keeps_same ?_ rfl rfl rfl)
      <;> try conv => arg 2; whnf)

theorem execSenseValid_keeps {b0 : State} (t : Nat) (n : Nat) (s : State) (h : Keeps b0 s) :
    KeepsO b0 (execSenseValid t n s) := by
  unfold execSenseValid
  with_reducible
    try conv => arg 2; whnf
    iterate 40 all_goals try ((
      first
        | assumption | intro _ | apply setMdc_keeps | apply at_keeps | apply keepsO_next | apply keeps_ite
        | apply keepsO_ite | refine keeps_same ?_ rfl rfl rfl)
      <;> try conv => arg 2; whnf)

theorem execMtrOverrange_keeps {b0 : State} (t : Nat) (ch : Nat) (s : State) (h : Keeps b0 s) :
    KeepsO b0 (execMtrOverrange t ch s) := by
  unfold execMtrOverrange
  with_reducible
    try conv => arg 2; whnf
    iterate 40 all_goals try ((
      first
        | assumption | apply fireEvent_keeps | apply raiseError_keeps | apply at_keeps | apply keepsO_next
        | apply keeps_ite | apply keepsO_ite)
      <;> try conv => arg 2; whnf)

theorem dcFails_keeps {b0 : State} (n : Nat) (s : State) (h : Keeps b0 s) :
    Keeps b0 (dcFails n s) := by
  unfold dcFails
  with_reducible
    try conv => arg 2; whnf
    iterate 40 all_goals try ((
      first
        | assumption | intro _ | apply fireEvent_keeps | apply legalUpdate_keeps | apply lglEvent_keeps
        | apply raiseError_keeps | apply setMdc_keeps | apply keeps_ite | refine keeps_same ?_ rfl rfl rfl)
      <;> try conv => arg 2; whnf)

theorem acFails_keeps {b0 : State} (k : Nat) (s : State) (h : Keeps b0 s) :
    Keeps b0 (acFails k s) := by
  unfold acFails
  with_reducible
    try conv => arg 2; whnf
    iterate 40 all_goals try ((
      first
        | assumption | intro _ | apply fireEvent_keeps | apply legalUpdate_keeps | apply lglEvent_keeps
        | apply raiseError_keeps | apply setMac_keeps | apply keeps_ite | refine keeps_same ?_ rfl rfl rfl)
      <;> try conv => arg 2; whnf)

theorem execMeterCrosscheckFail_keeps {b0 : State} (t : Nat) (n : Nat) (s : State) (h : Keeps b0 s) :
    KeepsO b0 (execMeterCrosscheckFail t n s) := by
  unfold execMeterCrosscheckFail
  with_reducible
    try conv => arg 2; whnf
    iterate 40 all_goals try ((
      first
        | assumption | apply dcFails_keeps | apply flushLgl_keeps | apply at_keeps | apply keepsO_next
        | apply keeps_ite | apply keepsO_ite)
      <;> try conv => arg 2; whnf)

theorem selftestStep_keeps {b0 : State} (dc : List Bool) (ac : List Bool) (s : State) (h : Keeps b0 s) :
    Keeps b0 (selftestStep dc ac s) := by
  unfold selftestStep
  with_reducible
    try conv => arg 2; whnf
    iterate 40 all_goals try ((
      first
        | assumption | intro _ | apply acFails_keeps | apply dcFails_keeps | apply errCleared_keeps
        | apply setMac_keeps | apply setMdc_keeps | apply keeps_foldl | apply keeps_ite
        | refine keeps_same ?_ rfl rfl rfl)
      <;> try conv => arg 2; whnf)

theorem execMeterSelftest_keeps {b0 : State} (t : Nat) (dc : List Bool) (ac : List Bool) (s : State) (h : Keeps b0 s) :
    KeepsO b0 (execMeterSelftest t dc ac s) := by
  unfold execMeterSelftest
  with_reducible
    try conv => arg 2; whnf
    iterate 40 all_goals try ((
      first
        | assumption | intro _ | apply flushLgl_keeps | apply legalUpdate_keeps | apply selftestStep_keeps
        | apply at_keeps | apply keepsO_next | refine keeps_same ?_ rfl rfl rfl)
      <;> try conv => arg 2; whnf)

theorem loseSync_keeps {b0 : State} (s : State) (h : Keeps b0 s) :
    Keeps b0 (loseSync s) := by
  unfold loseSync
  with_reducible
    try conv => arg 2; whnf
    iterate 40 all_goals try ((
      first
        | assumption | intro _ | apply fireEvent_keeps | apply raiseError_keeps | apply keeps_ite
        | refine keeps_same ?_ rfl rfl rfl)
      <;> try conv => arg 2; whnf)

theorem syncCycle_keeps {b0 : State} (k : Nat) (good : Bool) (s : State) (h : Keeps b0 s) :
    Keeps b0 (syncCycle k good s) := by
  unfold syncCycle
  with_reducible
    try conv => arg 2; whnf
    iterate 40 all_goals try ((
      first
        | assumption | intro _ | apply loseSync_keeps | apply keeps_ite | refine keeps_same ?_ rfl rfl rfl)
      <;> try conv => arg 2; whnf)

theorem acEnergy_keeps {b0 : State} (k : Nat) (period : Nat) (p : Rat) (q : Rat) (sv : Rat) (s : State) (h : Keeps b0 s) :
    Keeps b0 (acEnergy k period p q sv s) := by
  unfold acEnergy
  with_reducible
    try conv => arg 2; whnf
    iterate 40 all_goals try ((
      first
        | assumption | apply addAcc_keeps | apply keeps_ite)
      <;> try conv => arg 2; whnf)

theorem execAcCycle_keeps {b0 : State} (t : Nat) (k : Nat) (period : Nat) (valid : Bool) (v : List (List Int)) (vq : List (List Int)) (i : List (List Int)) (tdie : Int) (s : State) (h : Keeps b0 s) :
    KeepsO b0 (execAcCycle t k period valid v vq i tdie s) := by
  unfold execAcCycle
  with_reducible
    try conv => arg 2; whnf
    iterate 40 all_goals try ((
      first
        | assumption | intro _ | apply acEnergy_keeps | apply setMac_keeps | apply syncCycle_keeps
        | apply tpFollow_keeps | apply at_keeps | apply keepsO_next | apply keeps_ite | apply keepsO_ite
        | refine keeps_same ?_ rfl rfl rfl)
      <;> try conv => arg 2; whnf)

theorem writeAcEvent_keeps {b0 : State} (k : Nat) (e : AcEvent) (s : State) (h : Keeps b0 s) :
    Keeps b0 (writeAcEvent k e s) := by
  unfold writeAcEvent
  with_reducible
    try conv => arg 2; whnf
    iterate 40 all_goals try ((
      first
        | assumption | intro _ | apply fireEvent_keeps | apply raiseError_keeps | apply setMac_keeps | apply keeps_ite
        | refine keeps_same ?_ rfl rfl rfl)
      <;> try conv => arg 2; whnf)

theorem sagStep_keeps {b0 : State} (k : Nat) (din : Nat) (sag : Nat) (int : Nat) (hyst : Nat) (u : List Nat) (s : State) (h : Keeps b0 s) :
    Keeps b0 (sagStep k din sag int hyst u s) := by
  unfold sagStep
  with_reducible
    try conv => arg 2; whnf
    iterate 40 all_goals try ((
      first
        | assumption | intro _ | apply fireEvent_keeps | apply setMac_keeps | apply writeAcEvent_keeps
        | apply keeps_foldl | apply keeps_ite | split | refine keeps_pair (by assumption) ?_
        | refine keeps_same ?_ rfl rfl rfl)
      <;> try conv => arg 2; whnf)

theorem swellStep_keeps {b0 : State} (k : Nat) (din : Nat) (swell : Nat) (hyst : Nat) (u : List Nat) (s : State) (h : Keeps b0 s) :
    Keeps b0 (swellStep k din swell hyst u s) := by
  unfold swellStep
  with_reducible
    try conv => arg 2; whnf
    iterate 40 all_goals try ((
      first
        | assumption | intro _ | apply fireEvent_keeps | apply setMac_keeps | apply writeAcEvent_keeps
        | apply keeps_foldl | apply keeps_ite | split | refine keeps_pair (by assumption) ?_
        | refine keeps_same ?_ rfl rfl rfl)
      <;> try conv => arg 2; whnf)

theorem acRefresh_keeps {b0 : State} (k : Nat) (u : List Nat) (s : State) (h : Keeps b0 s) :
    Keeps b0 (acRefresh k u s) := by
  unfold acRefresh
  with_reducible
    try conv => arg 2; whnf
    iterate 40 all_goals try ((
      first
        | assumption | intro _ | apply sagStep_keeps | apply setMac_keeps | apply swellStep_keeps
        | refine keeps_same ?_ rfl rfl rfl)
      <;> try conv => arg 2; whnf)

theorem execAcHalfCycle_keeps {b0 : State} (t : Nat) (k : Nat) (u : List Nat) (s : State) (h : Keeps b0 s) :
    KeepsO b0 (execAcHalfCycle t k u s) := by
  unfold execAcHalfCycle
  with_reducible
    try conv => arg 2; whnf
    iterate 40 all_goals try ((
      first
        | assumption | apply acRefresh_keeps | apply takeNeutral_keeps | apply at_keeps | apply keepsO_next
        | apply keeps_ite | apply keepsO_ite)
      <;> try conv => arg 2; whnf)

theorem thdOf_keeps {b0 : State} (g : List Nat) (s : State) (h : Keeps b0 s) :
    Keeps b0 (thdOf g s).2 := by
  unfold thdOf
  with_reducible
    try conv => arg 2; whnf
    iterate 40 all_goals try ((
      first
        | assumption | intro _ | apply drawFree_keeps | apply keeps_foldl | apply keeps_ite | apply keeps_ite2
        | refine memWrite_wf _ _ _ ?_ | refine memWriteBytes_wf _ _ ?_ | refine Memory.wf_filter _ ?_ | split
        | exact ⟨rfl, rfl⟩ | rfl | refine keeps_pair (by assumption) ?_ | refine keeps_same ?_ rfl rfl rfl
        | refine keeps_out ?_ rfl rfl rfl | refine keeps_new ?_ rfl rfl rfl | refine keeps_mem ?_ rfl rfl rfl ?_)
      <;> try conv => arg 2; whnf)

theorem harmAll_keeps {b0 : State} (x0_ : List (List Nat)) (x1_ : State) (h : Keeps b0 x1_) :
    Keeps b0 (harmAll x0_ x1_).2 := by
  induction x0_ generalizing x1_ with
  | nil => exact h
  | cons _ _ ih =>
    unfold harmAll
    with_reducible
      try conv => arg 2; whnf
      iterate 40 all_goals try ((
        first
          | assumption | apply ih | apply thdOf_keeps)
        <;> try conv => arg 2; whnf)

theorem execHarmonicWindow_keeps {b0 : State} (t : Nat) (k : Nat) (groups : List (List Nat)) (s : State) (h : Keeps b0 s) :
    KeepsO b0 (execHarmonicWindow t k groups s) := by
  unfold execHarmonicWindow
  with_reducible
    try conv => arg 2; whnf
    iterate 40 all_goals try ((
      first
        | assumption | intro _ | apply fireEvent_keeps | apply harmAll_keeps | apply setMac_keeps | apply at_keeps
        | apply keepsO_next | apply keeps_foldl | apply keeps_ite | apply keepsO_ite
        | refine keeps_same ?_ rfl rfl rfl)
      <;> try conv => arg 2; whnf)

theorem setEmergency_keeps {b0 : State} (n : Nat) (v : Bool) (s : State) (h : Keeps b0 s) :
    Keeps b0 (setEmergency n v s) := by
  unfold setEmergency
  with_reducible
    try conv => arg 2; whnf
    iterate 40 all_goals try ((
      first
        | assumption | intro _ | refine keeps_same ?_ rfl rfl rfl)
      <;> try conv => arg 2; whnf)

theorem mirrorPrepay_keeps {b0 : State} (n : Nat) (p : Prepay) (s : State) (h : Keeps b0 s) :
    Keeps b0 (mirrorPrepay n p s) := by
  unfold mirrorPrepay
  with_reducible
    try conv => arg 2; whnf
    iterate 40 all_goals try ((
      first
        | assumption | apply mirrorSend_keeps | apply keeps_ite)
      <;> try conv => arg 2; whnf)

theorem creditTick_keeps {b0 : State} (n : Nat) (s : State) (h : Keeps b0 s) :
    Keeps b0 (creditTick n s) := by
  unfold creditTick
  with_reducible
    try conv => arg 2; whnf
    iterate 40 all_goals try ((
      first
        | assumption | intro _ | apply mirrorPrepay_keeps | apply setEmergency_keeps | apply stopSession_keeps
        | apply keeps_ite | split | refine keeps_pair (by assumption) ?_ | refine keeps_same ?_ rfl rfl rfl)
      <;> try conv => arg 2; whnf)

theorem sessTick_keeps {b0 : State} (n : Nat) (s : State) (h : Keeps b0 s) :
    Keeps b0 (sessTick n s) := by
  unfold sessTick
  with_reducible
    try conv => arg 2; whnf
    iterate 40 all_goals try ((
      first
        | assumption | intro _ | apply keeps_ite | refine keeps_same ?_ rfl rfl rfl)
      <;> try conv => arg 2; whnf)

theorem latchAll_keeps {b0 : State} (s : State) (h : Keeps b0 s) :
    Keeps b0 (latchAll s) := by
  unfold latchAll
  with_reducible
    try conv => arg 2; whnf
    iterate 40 all_goals try ((
      first
        | assumption | intro _ | apply fireEvent_keeps | refine keeps_same ?_ rfl rfl rfl)
      <;> try conv => arg 2; whnf)

theorem pairTick_keeps {b0 : State} (s : State) (h : Keeps b0 s) :
    Keeps b0 (pairTick s) := by
  unfold pairTick
  with_reducible
    try conv => arg 2; whnf
    iterate 40 all_goals try ((
      first
        | assumption | intro _ | apply addTariff_keeps | apply calInForce_keeps | apply doBoundary_keeps
        | apply sessTick_keeps | apply keeps_foldl | apply keeps_ite | refine keeps_same ?_ rfl rfl rfl)
      <;> try conv => arg 2; whnf)

theorem execLatchTick_keeps {b0 : State} (t : Nat) (s : State) (h : Keeps b0 s) :
    KeepsO b0 (execLatchTick t s) := by
  unfold execLatchTick
  with_reducible
    try conv => arg 2; whnf
    iterate 40 all_goals try ((
      first
        | assumption | intro _ | apply creditTick_keeps | apply flushLgl_keeps | apply latchAll_keeps
        | apply pairTick_keeps | apply at_keeps | apply keepsO_next | apply keeps_foldl | apply keeps_ite
        | apply keepsO_ite)
      <;> try conv => arg 2; whnf)

theorem execMtrSnapCapture_keeps {b0 : State} (t : Nat) (s : State) (h : Keeps b0 s) :
    KeepsO b0 (execMtrSnapCapture t s) := by
  unfold execMtrSnapCapture
  with_reducible
    try conv => arg 2; whnf
    iterate 40 all_goals try ((
      first
        | assumption | apply captureWide_keeps | apply at_keeps | apply keepsO_next)
      <;> try conv => arg 2; whnf)

theorem execWideWindowEnd_keeps {b0 : State} (t : Nat) (s : State) (h : Keeps b0 s) :
    KeepsO b0 (execWideWindowEnd t s) := by
  unfold execWideWindowEnd
  with_reducible
    try conv => arg 2; whnf
    iterate 40 all_goals try ((
      first
        | assumption | intro _ | apply wideEvent_keeps | apply at_keeps | apply keepsO_next
        | refine keeps_same ?_ rfl rfl rfl)
      <;> try conv => arg 2; whnf)

theorem execLossBoundRecord_keeps {b0 : State} (t : Nat) (s : State) (h : Keeps b0 s) :
    KeepsO b0 (execLossBoundRecord t s) := by
  unfold execLossBoundRecord
  with_reducible
    try conv => arg 2; whnf
    iterate 40 all_goals try ((
      first
        | assumption | intro _ | apply at_keeps | apply keepsO_next | apply keeps_ite | apply keepsO_ite
        | refine keeps_same ?_ rfl rfl rfl)
      <;> try conv => arg 2; whnf)

theorem execMtrStatus_keeps {b0 : State} (t : Nat) (line : Nat) (seq : Nat) (s : State) (h : Keeps b0 s) :
    KeepsO b0 (execMtrStatus t line seq s) := by
  unfold execMtrStatus
  with_reducible
    try conv => arg 2; whnf
    iterate 40 all_goals try ((
      first
        | assumption | intro _ | apply doneOut_keeps | apply runCmd_keeps | apply at_keeps | apply keepsO_next
        | apply keeps_foldl | apply keeps_ite | apply keeps_ite2 | apply keepsO_ite | refine memWrite_wf _ _ _ ?_
        | refine memWriteBytes_wf _ _ ?_ | refine Memory.wf_filter _ ?_ | split | exact ⟨rfl, rfl⟩ | rfl
        | refine keeps_pair (by assumption) ?_ | refine keeps_same ?_ rfl rfl rfl | refine keeps_out ?_ rfl rfl rfl
        | refine keeps_new ?_ rfl rfl rfl | refine keeps_mem ?_ rfl rfl rfl ?_)
      <;> try conv => arg 2; whnf)

theorem execMtrRead_keeps {b0 : State} (t : Nat) (line : Nat) (seq : Nat) (s : State) (h : Keeps b0 s) :
    KeepsO b0 (execMtrRead t line seq s) := by
  unfold execMtrRead
  with_reducible
    try conv => arg 2; whnf
    iterate 40 all_goals try ((
      first
        | assumption | intro _ | apply doneOut_keeps | apply rejectRange_keeps | apply runCmd_keeps | apply at_keeps
        | apply keepsO_next | apply keeps_foldl | apply keeps_ite | apply keeps_ite2 | apply keepsO_ite
        | refine memWrite_wf _ _ _ ?_ | refine memWriteBytes_wf _ _ ?_ | refine Memory.wf_filter _ ?_ | split
        | exact ⟨rfl, rfl⟩ | rfl | refine keeps_pair (by assumption) ?_ | refine keeps_same ?_ rfl rfl rfl
        | refine keeps_out ?_ rfl rfl rfl | refine keeps_new ?_ rfl rfl rfl | refine keeps_mem ?_ rfl rfl rfl ?_)
      <;> try conv => arg 2; whnf)

theorem execMtrHarmRead_keeps {b0 : State} (t : Nat) (line : Nat) (seq : Nat) (s : State) (h : Keeps b0 s) :
    KeepsO b0 (execMtrHarmRead t line seq s) := by
  unfold execMtrHarmRead
  with_reducible
    try conv => arg 2; whnf
    iterate 40 all_goals try ((
      first
        | assumption | intro _ | apply doneOut_keeps | apply rejectRange_keeps | apply runCmd_keeps | apply at_keeps
        | apply keepsO_next | apply keeps_foldl | apply keeps_ite | apply keeps_ite2 | apply keepsO_ite
        | refine memWrite_wf _ _ _ ?_ | refine memWriteBytes_wf _ _ ?_ | refine Memory.wf_filter _ ?_ | split
        | exact ⟨rfl, rfl⟩ | rfl | refine keeps_pair (by assumption) ?_ | refine keeps_same ?_ rfl rfl rfl
        | refine keeps_out ?_ rfl rfl rfl | refine keeps_new ?_ rfl rfl rfl | refine keeps_mem ?_ rfl rfl rfl ?_)
      <;> try conv => arg 2; whnf)

theorem execMtrEventRead_keeps {b0 : State} (t : Nat) (line : Nat) (seq : Nat) (s : State) (h : Keeps b0 s) :
    KeepsO b0 (execMtrEventRead t line seq s) := by
  unfold execMtrEventRead
  with_reducible
    try conv => arg 2; whnf
    iterate 40 all_goals try ((
      first
        | assumption | intro _ | apply doneOut_keeps | apply rejectRange_keeps | apply runCmd_keeps
        | apply setMac_keeps | apply at_keeps | apply keepsO_next | apply keeps_ite | apply keepsO_ite
        | refine keeps_same ?_ rfl rfl rfl)
      <;> try conv => arg 2; whnf)

theorem execMtrExtremeReset_keeps {b0 : State} (t : Nat) (line : Nat) (seq : Nat) (s : State) (h : Keeps b0 s) :
    KeepsO b0 (execMtrExtremeReset t line seq s) := by
  unfold execMtrExtremeReset
  with_reducible
    try conv => arg 2; whnf
    iterate 40 all_goals try ((
      first
        | assumption | intro _ | apply done_keeps | apply rejectRange_keeps | apply runCmd_keeps | apply setMdc_keeps
        | apply at_keeps | apply keepsO_next | apply keeps_ite | apply keepsO_ite | refine keeps_same ?_ rfl rfl rfl)
      <;> try conv => arg 2; whnf)

theorem execMtrCalWrite_keeps {b0 : State} (t : Nat) (line : Nat) (seq : Nat) (s : State) (h : Keeps b0 s) :
    KeepsO b0 (execMtrCalWrite t line seq s) := by
  unfold execMtrCalWrite
  with_reducible
    try conv => arg 2; whnf
    iterate 40 all_goals try ((
      first
        | assumption | intro _ | apply done_keeps | apply finish_keeps | apply rejectRange_keeps | apply runCmd_keeps
        | apply at_keeps | apply keepsO_next | apply keeps_ite | apply keepsO_ite | split
        | refine keeps_pair (by assumption) ?_ | refine keeps_same ?_ rfl rfl rfl)
      <;> try conv => arg 2; whnf)

theorem execMtrCalCommit_keeps {b0 : State} (t : Nat) (line : Nat) (seq : Nat) (s : State) (h : Keeps b0 s) :
    KeepsO b0 (execMtrCalCommit t line seq s) := by
  unfold execMtrCalCommit
  with_reducible
    try conv => arg 2; whnf
    iterate 40 all_goals try ((
      first
        | assumption | intro _ | apply accept_keeps | apply finish_keeps | apply lglRequest_keeps | apply runCmd_keeps
        | apply at_keeps | apply keepsO_next | apply keeps_foldl | apply keeps_ite | apply keeps_ite2
        | apply keepsO_ite | refine memWrite_wf _ _ _ ?_ | refine memWriteBytes_wf _ _ ?_
        | refine Memory.wf_filter _ ?_ | split | exact ⟨rfl, rfl⟩ | rfl | refine keeps_pair (by assumption) ?_
        | refine keeps_same ?_ rfl rfl rfl | refine keeps_out ?_ rfl rfl rfl | refine keeps_new ?_ rfl rfl rfl
        | refine keeps_mem ?_ rfl rfl rfl ?_)
      <;> try conv => arg 2; whnf)

theorem execMtrTpSet_keeps {b0 : State} (t : Nat) (line : Nat) (seq : Nat) (s : State) (h : Keeps b0 s) :
    KeepsO b0 (execMtrTpSet t line seq s) := by
  unfold execMtrTpSet
  with_reducible
    try conv => arg 2; whnf
    iterate 40 all_goals try ((
      first
        | assumption | intro _ | apply done_keeps | apply rejectRange_keeps | apply runCmd_keeps | apply setTp_keeps
        | apply at_keeps | apply keepsO_next | apply keeps_ite | apply keepsO_ite | refine keeps_same ?_ rfl rfl rfl)
      <;> try conv => arg 2; whnf)

/-! ### Slc.lean -/

theorem updLink_keeps {b0 : State} (s : State) (h : Keeps b0 s) :
    Keeps b0 (updLink s) := by
  unfold updLink
  with_reducible
    try conv => arg 2; whnf
    iterate 40 all_goals try ((
      first
        | assumption | apply setLim_keeps)
      <;> try conv => arg 2; whnf)

theorem slcError_keeps {b0 : State} (e : ErrSpec) (arg : Nat) (s : State) (h : Keeps b0 s) :
    Keeps b0 (slcError e arg s) := by
  unfold slcError
  with_reducible
    try conv => arg 2; whnf
    iterate 40 all_goals try ((
      first
        | assumption | apply fireEvent_keeps | apply raiseError_keeps)
      <;> try conv => arg 2; whnf)

theorem checkFen_keeps {b0 : State} (i : Nat) (s : State) (h : Keeps b0 s) :
    Keeps b0 (checkFen i s) := by
  unfold checkFen
  with_reducible
    try conv => arg 2; whnf
    iterate 40 all_goals try ((
      first
        | assumption | intro _ | apply slcError_keeps | apply keeps_ite | refine keeps_same ?_ rfl rfl rfl)
      <;> try conv => arg 2; whnf)

theorem recheckFen_keeps {b0 : State} (s : State) (h : Keeps b0 s) :
    Keeps b0 (recheckFen s) := by
  unfold recheckFen
  with_reducible
    try conv => arg 2; whnf
    iterate 40 all_goals try ((
      first
        | assumption | intro _ | apply checkFen_keeps | apply keeps_foldl)
      <;> try conv => arg 2; whnf)

theorem rlPut_keeps {b0 : State} (r : Nat) (f : Fld) (v : Nat) (s : State) (h : Keeps b0 s) :
    Keeps b0 (rlPut r f v s) := by
  unfold rlPut
  with_reducible
    try conv => arg 2; whnf
    iterate 40 all_goals try ((
      first
        | assumption | apply ramPut_keeps)
      <;> try conv => arg 2; whnf)

theorem checkRtt_keeps {b0 : State} (r : Nat) (s : State) (h : Keeps b0 s) :
    Keeps b0 (checkRtt r s) := by
  unfold checkRtt
  with_reducible
    try conv => arg 2; whnf
    iterate 40 all_goals try ((
      first
        | assumption | intro _ | apply rlPut_keeps | apply slcError_keeps | apply updLink_keeps | apply keeps_ite
        | refine keeps_same ?_ rfl rfl rfl)
      <;> try conv => arg 2; whnf)

theorem refreshBounds_keeps {b0 : State} (r : Nat) (s : State) (h : Keeps b0 s) :
    Keeps b0 (refreshBounds r s) := by
  unfold refreshBounds
  with_reducible
    try conv => arg 2; whnf
    iterate 40 all_goals try ((
      first
        | assumption | apply checkRtt_keeps | apply rlPut_keeps | apply keeps_ite)
      <;> try conv => arg 2; whnf)

theorem alPut_keeps {b0 : State} (i : Nat) (f : Fld) (v : Nat) (s : State) (h : Keeps b0 s) :
    Keeps b0 (alPut i f v s) := by
  unfold alPut
  with_reducible
    try conv => arg 2; whnf
    iterate 40 all_goals try ((
      first
        | assumption | apply ramPut_keeps)
      <;> try conv => arg 2; whnf)

theorem alSetBit_keeps {b0 : State} (i : Nat) (b : Nat) (v : Bool) (s : State) (h : Keeps b0 s) :
    Keeps b0 (alSetBit i b v s) := by
  unfold alSetBit
  with_reducible
    try conv => arg 2; whnf
    iterate 40 all_goals try ((
      first
        | assumption | apply alPut_keeps)
      <;> try conv => arg 2; whnf)

theorem holdChild_keeps {b0 : State} (i : Nat) (s : State) (h : Keeps b0 s) :
    Keeps b0 (holdChild i s) := by
  unfold holdChild
  with_reducible
    try conv => arg 2; whnf
    iterate 40 all_goals try ((
      first
        | assumption | apply alPut_keeps | apply alSetBit_keeps | apply keeps_ite)
      <;> try conv => arg 2; whnf)

theorem missChild_keeps {b0 : State} (s : State) (i : Nat) (h : Keeps b0 s) :
    Keeps b0 (missChild s i) := by
  unfold missChild
  with_reducible
    try conv => arg 2; whnf
    iterate 40 all_goals try ((
      first
        | assumption | apply alPut_keeps | apply alSetBit_keeps | apply holdChild_keeps | apply slcError_keeps
        | apply keeps_ite)
      <;> try conv => arg 2; whnf)

theorem formRole_keeps {b0 : State} (r : Nat) (s : State) (h : Keeps b0 s) :
    Keeps b0 (formRole r s) := by
  unfold formRole
  with_reducible
    try conv => arg 2; whnf
    iterate 40 all_goals try ((
      first
        | assumption | intro _ | apply checkRtt_keeps | apply missChild_keeps | apply rlPut_keeps | apply tcSend_keeps
        | apply keeps_foldl | apply keeps_ite | refine keeps_same ?_ rfl rfl rfl)
      <;> try conv => arg 2; whnf)

theorem sendGrant_keeps {b0 : State} (r : Nat) (i : Nat) (g : Nat) (renewal : Bool) (fallback : Bool) (steps : List Nat) (s : State) (h : Keeps b0 s) :
    Keeps b0 (sendGrant r i g renewal fallback steps s) := by
  unfold sendGrant
  with_reducible
    try conv => arg 2; whnf
    iterate 40 all_goals try ((
      first
        | assumption | intro _ | apply alPut_keeps | apply alSetBit_keeps | apply tcSend_keeps | apply keeps_foldl
        | apply keeps_ite)
      <;> try conv => arg 2; whnf)

theorem mirrorSlc_keeps {b0 : State} (entries : List (Nat × Bool)) (s : State) (h : Keeps b0 s) :
    Keeps b0 (mirrorSlc entries s) := by
  unfold mirrorSlc
  with_reducible
    try conv => arg 2; whnf
    iterate 40 all_goals try ((
      first
        | assumption | apply mirrorSend_keeps | apply keeps_ite)
      <;> try conv => arg 2; whnf)

theorem grantChild_keeps {b0 : State} (r : Nat) (s0 : State) (fell : Bool) (st : State) (c : PassChild) (h : Keeps b0 st) :
    Keeps b0 (grantChild r s0 fell st c) := by
  unfold grantChild
  with_reducible
    try conv => arg 2; whnf
    iterate 40 all_goals try ((
      first
        | assumption | intro _ | apply alPut_keeps | apply sendGrant_keeps | apply keeps_ite | split
        | refine keeps_pair (by assumption) ?_ | refine keeps_same ?_ rfl rfl rfl)
      <;> try conv => arg 2; whnf)

theorem runPass_keeps {b0 : State} (r : Nat) (a : Nat) (s : State) (h : Keeps b0 s) :
    Keeps b0 (runPass r a s) := by
  unfold runPass
  with_reducible
    try conv => arg 2; whnf
    iterate 40 all_goals try ((
      first
        | assumption | intro _ | apply grantChild_keeps | apply mirrorSlc_keeps | apply rlPut_keeps
        | apply slcError_keeps | apply keeps_foldl | apply keeps_ite | refine keeps_same ?_ rfl rfl rfl)
      <;> try conv => arg 2; whnf)

theorem closeIntake_keeps {b0 : State} (s : State) (h : Keeps b0 s) :
    Keeps b0 (closeIntake s) := by
  unfold closeIntake
  with_reducible
    try conv => arg 2; whnf
    iterate 40 all_goals try ((
      first
        | assumption | intro _ | apply slcError_keeps | apply keeps_foldl | apply keeps_ite
        | refine keeps_same ?_ rfl rfl rfl)
      <;> try conv => arg 2; whnf)

theorem guardLimit_keeps {b0 : State} (r : Nat) (s : State) (h : Keeps b0 s) :
    Keeps b0 (guardLimit r s) := by
  unfold guardLimit
  with_reducible
    try conv => arg 2; whnf
    iterate 40 all_goals try ((
      first
        | assumption | intro _ | apply closeIntake_keeps | apply slcError_keeps | apply keeps_foldl | apply keeps_ite
        | split | refine keeps_pair (by assumption) ?_ | refine keeps_same ?_ rfl rfl rfl)
      <;> try conv => arg 2; whnf)

theorem roleRoundStart_keeps {b0 : State} (r : Nat) (s : State) (h : Keeps b0 s) :
    Keeps b0 (roleRoundStart r s) := by
  unfold roleRoundStart
  with_reducible
    try conv => arg 2; whnf
    iterate 40 all_goals try ((
      first
        | assumption | apply rlPut_keeps | apply keeps_ite)
      <;> try conv => arg 2; whnf)

theorem childRoundStart_keeps {b0 : State} (i : Nat) (s : State) (h : Keeps b0 s) :
    Keeps b0 (childRoundStart i s) := by
  unfold childRoundStart
  with_reducible
    try conv => arg 2; whnf
    iterate 40 all_goals try ((
      first
        | assumption | apply alPut_keeps | apply alSetBit_keeps | apply keeps_ite)
      <;> try conv => arg 2; whnf)

theorem lapse_keeps {b0 : State} (s : State) (h : Keeps b0 s) :
    Keeps b0 (lapse s) := by
  unfold lapse
  with_reducible
    try conv => arg 2; whnf
    iterate 40 all_goals try ((
      first
        | assumption | intro _ | apply ndPut_keeps | apply raiseLim_keeps | apply slcError_keeps
        | refine keeps_same ?_ rfl rfl rfl)
      <;> try conv => arg 2; whnf)

theorem nodeRoundStart_keeps {b0 : State} (s : State) (h : Keeps b0 s) :
    Keeps b0 (nodeRoundStart s) := by
  unfold nodeRoundStart
  with_reducible
    try conv => arg 2; whnf
    iterate 40 all_goals try ((
      first
        | assumption | apply clearLim_keeps | apply lapse_keeps | apply ndPut_keeps | apply keeps_ite)
      <;> try conv => arg 2; whnf)

theorem sendDemand_keeps {b0 : State} (draw : Int) (s : State) (h : Keeps b0 s) :
    Keeps b0 (sendDemand draw s) := by
  unfold sendDemand
  with_reducible
    try conv => arg 2; whnf
    iterate 40 all_goals try ((
      first
        | assumption | intro _ | apply tcSend_keeps | apply keeps_ite | refine keeps_same ?_ rfl rfl rfl)
      <;> try conv => arg 2; whnf)

theorem leaveSluice_keeps {b0 : State} (s : State) (h : Keeps b0 s) :
    Keeps b0 (leaveSluice s) := by
  unfold leaveSluice
  with_reducible
    try conv => arg 2; whnf
    iterate 40 all_goals try ((
      first
        | assumption | intro _ | apply tcSend_keeps | apply keeps_ite | refine keeps_same ?_ rfl rfl rfl)
      <;> try conv => arg 2; whnf)

theorem sendLeave_keeps {b0 : State} (m : Mode) (s : State) (h : Keeps b0 s) :
    Keeps b0 (sendLeave m s) := by
  unfold sendLeave
  with_reducible
    try conv => arg 2; whnf
    iterate 40 all_goals try ((
      first
        | assumption | apply mirrorSend_keeps | apply keeps_ite)
      <;> try conv => arg 2; whnf)

theorem leaveAtRound_keeps {b0 : State} (s : State) (h : Keeps b0 s) :
    Keeps b0 (leaveAtRound s) := by
  unfold leaveAtRound
  with_reducible
    try conv => arg 2; whnf
    iterate 40 all_goals try ((
      first
        | assumption | intro _ | apply leaveSluice_keeps | apply sendLeave_keeps | apply toM3_keeps | apply keeps_ite
        | split | refine keeps_pair (by assumption) ?_ | refine keeps_same ?_ rfl rfl rfl)
      <;> try conv => arg 2; whnf)

theorem sendIntake_keeps {b0 : State} (w : List Nat) (s : State) (h : Keeps b0 s) :
    Keeps b0 (sendIntake w s) := by
  unfold sendIntake
  with_reducible
    try conv => arg 2; whnf
    iterate 40 all_goals try ((
      first
        | assumption | intro _ | apply tcSend_keeps | apply keeps_foldl | apply keeps_ite | split
        | refine keeps_pair (by assumption) ?_ | refine keeps_same ?_ rfl rfl rfl)
      <;> try conv => arg 2; whnf)

theorem takeGuard_keeps {b0 : State} (s : State) (h : Keeps b0 s) :
    Keeps b0 (takeGuard s) := by
  unfold takeGuard
  with_reducible
    try conv => arg 2; whnf
    iterate 40 all_goals try ((
      first
        | assumption | apply takeNeutral_keeps | apply keeps_ite)
      <;> try conv => arg 2; whnf)

theorem autoJoin_keeps {b0 : State} (s : State) (h : Keeps b0 s) :
    Keeps b0 (autoJoin s) := by
  unfold autoJoin
  with_reducible
    try conv => arg 2; whnf
    iterate 40 all_goals try ((
      first
        | assumption | intro _ | apply keeps_ite | refine keeps_same ?_ rfl rfl rfl)
      <;> try conv => arg 2; whnf)

theorem roundBegin_keeps {b0 : State} (paux : Nat) (s : State) (h : Keeps b0 s) :
    Keeps b0 (roundBegin paux s) := by
  unfold roundBegin
  with_reducible
    try conv => arg 2; whnf
    iterate 40 all_goals try ((
      first
        | assumption | intro _ | apply autoJoin_keeps | apply leaveAtRound_keeps | refine keeps_same ?_ rfl rfl rfl)
      <;> try conv => arg 2; whnf)

theorem endRejoin_keeps {b0 : State} (s : State) (h : Keeps b0 s) :
    Keeps b0 (endRejoin s) := by
  unfold endRejoin
  with_reducible
    try conv => arg 2; whnf
    iterate 40 all_goals try ((
      first
        | assumption | intro _ | apply rlPut_keeps | apply keeps_foldl | refine keeps_same ?_ rfl rfl rfl)
      <;> try conv => arg 2; whnf)

theorem rolesRoundStart_keeps {b0 : State} (s : State) (h : Keeps b0 s) :
    Keeps b0 (rolesRoundStart s) := by
  unfold rolesRoundStart
  with_reducible
    try conv => arg 2; whnf
    iterate 40 all_goals try ((
      first
        | assumption | intro _ | apply childRoundStart_keeps | apply endRejoin_keeps | apply roleRoundStart_keeps
        | apply keeps_foldl)
      <;> try conv => arg 2; whnf)

theorem guardRoot_keeps {b0 : State} (s : State) (h : Keeps b0 s) :
    Keeps b0 (guardRoot s) := by
  unfold guardRoot
  with_reducible
    try conv => arg 2; whnf
    iterate 40 all_goals try ((
      first
        | assumption | intro _ | apply guardLimit_keeps | apply keeps_ite | split
        | refine keeps_pair (by assumption) ?_ | refine keeps_same ?_ rfl rfl rfl)
      <;> try conv => arg 2; whnf)

theorem execRoundStart_keeps {b0 : State} (t : Nat) (paux : Nat) (draw : Int) (intake0 : Nat) (intake1 : Nat) (s : State) (h : Keeps b0 s) :
    KeepsO b0 (execRoundStart t paux draw intake0 intake1 s) := by
  unfold execRoundStart
  with_reducible
    try conv => arg 2; whnf
    iterate 40 all_goals try ((
      first
        | assumption | apply fireEvent_keeps | apply guardRoot_keeps | apply nodeRoundStart_keeps
        | apply reloadSluice_keeps | apply rolesRoundStart_keeps | apply roundBegin_keeps | apply sendDemand_keeps
        | apply sendIntake_keeps | apply splitGrant_keeps | apply takeGuard_keeps | apply takeNeutral_keeps
        | apply at_keeps | apply keepsO_next | apply keeps_ite | apply keepsO_ite)
      <;> try conv => arg 2; whnf)

theorem execLeafRoundStart_keeps {b0 : State} (t : Nat) (paux : Nat) (draw : Int) (s : State) (h : Keeps b0 s) :
    KeepsO b0 (execLeafRoundStart t paux draw s) := by
  unfold execLeafRoundStart
  with_reducible
    try conv => arg 2; whnf
    iterate 40 all_goals try ((
      first
        | assumption | intro _ | apply autoJoin_keeps | apply nodeRoundStart_keeps | apply sendDemand_keeps
        | apply splitGrant_keeps | apply at_keeps | apply keepsO_next | apply keeps_ite | apply keepsO_ite
        | refine keeps_same ?_ rfl rfl rfl)
      <;> try conv => arg 2; whnf)

theorem dropTc1_keeps {b0 : State} (s : State) (h : Keeps b0 s) :
    Keeps b0 (dropTc1 s) := by
  unfold dropTc1
  with_reducible
    try conv => arg 2; whnf
    iterate 40 all_goals try ((
      first
        | assumption | intro _ | refine keeps_same ?_ rfl rfl rfl)
      <;> try conv => arg 2; whnf)

theorem storeDemand_keeps {b0 : State} (i : Nat) (m : DemandMsg) (s : State) (h : Keeps b0 s) :
    Keeps b0 (storeDemand i m s) := by
  unfold storeDemand
  with_reducible
    try conv => arg 2; whnf
    iterate 40 all_goals try ((
      first
        | assumption | intro _ | apply alPut_keeps | apply keeps_foldl | apply keeps_ite)
      <;> try conv => arg 2; whnf)

theorem noteRejoin_keeps {b0 : State} (i : Nat) (s : State) (h : Keeps b0 s) :
    Keeps b0 (noteRejoin i s) := by
  unfold noteRejoin
  with_reducible
    try conv => arg 2; whnf
    iterate 40 all_goals try ((
      first
        | assumption | intro _ | apply keeps_ite | refine keeps_same ?_ rfl rfl rfl)
      <;> try conv => arg 2; whnf)

theorem admitChild_keeps {b0 : State} (r : Nat) (i : Nat) (m : DemandMsg) (s : State) (h : Keeps b0 s) :
    Keeps b0 (admitChild r i m s) := by
  unfold admitChild
  with_reducible
    try conv => arg 2; whnf
    iterate 40 all_goals try ((
      first
        | assumption | apply alPut_keeps | apply alSetBit_keeps | apply checkFen_keeps | apply noteRejoin_keeps
        | apply slcError_keeps | apply storeDemand_keeps | apply tcSend_keeps | apply keeps_ite)
      <;> try conv => arg 2; whnf)

theorem childLeaves_keeps {b0 : State} (i : Nat) (m : DemandMsg) (s : State) (h : Keeps b0 s) :
    Keeps b0 (childLeaves i m s) := by
  unfold childLeaves
  with_reducible
    try conv => arg 2; whnf
    iterate 40 all_goals try ((
      first
        | assumption | apply alPut_keeps | apply alSetBit_keeps | apply storeDemand_keeps)
      <;> try conv => arg 2; whnf)

theorem formIfIn_keeps {b0 : State} (r : Nat) (s : State) (h : Keeps b0 s) :
    Keeps b0 (formIfIn r s) := by
  unfold formIfIn
  with_reducible
    try conv => arg 2; whnf
    iterate 40 all_goals try ((
      first
        | assumption | apply formRole_keeps | apply keeps_ite)
      <;> try conv => arg 2; whnf)

theorem takeDemand_keeps {b0 : State} (r : Nat) (i : Nat) (m : DemandMsg) (late : Bool) (s : State) (h : Keeps b0 s) :
    Keeps b0 (takeDemand r i m late s) := by
  unfold takeDemand
  with_reducible
    try conv => arg 2; whnf
    iterate 40 all_goals try ((
      first
        | assumption | intro _ | apply admitChild_keeps | apply formIfIn_keeps | apply refreshBounds_keeps
        | apply keeps_ite | refine keeps_same ?_ rfl rfl rfl)
      <;> try conv => arg 2; whnf)

theorem execDemand_keeps {b0 : State} (t : Nat) (m : DemandMsg) (s : State) (h : Keeps b0 s) :
    KeepsO b0 (execDemand t m s) := by
  unfold execDemand
  with_reducible
    try conv => arg 2; whnf
    iterate 40 all_goals try ((
      first
        | assumption | intro _ | apply childLeaves_keeps | apply dropTc1_keeps | apply formIfIn_keeps
        | apply takeDemand_keeps | apply at_keeps | apply keepsO_next | apply keeps_ite | apply keepsO_ite | split
        | refine keeps_pair (by assumption) ?_ | refine keeps_same ?_ rfl rfl rfl)
      <;> try conv => arg 2; whnf)

theorem execRoleWaitExpiry_keeps {b0 : State} (t : Nat) (role : Nat) (s : State) (h : Keeps b0 s) :
    KeepsO b0 (execRoleWaitExpiry t role s) := by
  unfold execRoleWaitExpiry
  with_reducible
    try conv => arg 2; whnf
    iterate 40 all_goals try ((
      first
        | assumption | apply formRole_keeps | apply at_keeps | apply keepsO_next | apply keeps_ite | apply keepsO_ite)
      <;> try conv => arg 2; whnf)

theorem execRootPass_keeps {b0 : State} (t : Nat) (role : Nat) (s : State) (h : Keeps b0 s) :
    KeepsO b0 (execRootPass t role s) := by
  unfold execRootPass
  with_reducible
    try conv => arg 2; whnf
    iterate 40 all_goals try ((
      first
        | assumption | apply rlPut_keeps | apply runPass_keeps | apply at_keeps | apply keepsO_next | apply keeps_ite
        | apply keepsO_ite)
      <;> try conv => arg 2; whnf)

theorem clampGrant_keeps {b0 : State} (limit : Nat) (g : Nat) (arg : Nat) (s : State) (h : Keeps b0 s) :
    Keeps b0 (clampGrant limit g arg s).2 := by
  unfold clampGrant
  with_reducible
    try conv => arg 2; whnf
    iterate 40 all_goals try ((
      first
        | assumption | intro _ | apply slcError_keeps | apply keeps_foldl | apply keeps_ite | apply keeps_ite2
        | refine memWrite_wf _ _ _ ?_ | refine memWriteBytes_wf _ _ ?_ | refine Memory.wf_filter _ ?_ | split
        | exact ⟨rfl, rfl⟩ | rfl | refine keeps_pair (by assumption) ?_ | refine keeps_same ?_ rfl rfl rfl
        | refine keeps_out ?_ rfl rfl rfl | refine keeps_new ?_ rfl rfl rfl | refine keeps_mem ?_ rfl rfl rfl ?_)
      <;> try conv => arg 2; whnf)

theorem staleNotice_keeps {b0 : State} (m : GrantMsg) (arg : Nat) (s : State) (h : Keeps b0 s) :
    Keeps b0 (staleNotice m arg s) := by
  unfold staleNotice
  with_reducible
    try conv => arg 2; whnf
    iterate 40 all_goals try ((
      first
        | assumption | apply slcError_keeps | apply keeps_ite)
      <;> try conv => arg 2; whnf)

theorem grantNotice_keeps {b0 : State} (late : Bool) (m : GrantMsg) (arg : Nat) (s : State) (h : Keeps b0 s) :
    Keeps b0 (grantNotice late m arg s) := by
  unfold grantNotice
  with_reducible
    try conv => arg 2; whnf
    iterate 40 all_goals try ((
      first
        | assumption | apply slcError_keeps | apply staleNotice_keeps | apply keeps_ite)
      <;> try conv => arg 2; whnf)

theorem roleTake_keeps {b0 : State} (late : Bool) (r : Nat) (m : GrantMsg) (s0 : State) (h : Keeps b0 s0) :
    Keeps b0 (roleTake late r m s0) := by
  unfold roleTake
  with_reducible
    try conv => arg 2; whnf
    iterate 40 all_goals try ((
      first
        | assumption | intro _ | apply clampGrant_keeps | apply rlPut_keeps | apply runPass_keeps | apply keeps_ite
        | split | refine keeps_pair (by assumption) ?_)
      <;> try conv => arg 2; whnf)

theorem roleGrant_keeps {b0 : State} (r : Nat) (m : GrantMsg) (s : State) (h : Keeps b0 s) :
    Keeps b0 (roleGrant r m s) := by
  unfold roleGrant
  exact roleTake_keeps _ _ _ _ (grantNotice_keeps _ _ _ _ h)

theorem enterOnGrant_keeps {b0 : State} (s : State) (h : Keeps b0 s) :
    Keeps b0 (enterOnGrant s) := by
  unfold enterOnGrant
  with_reducible
    try conv => arg 2; whnf
    iterate 40 all_goals try ((
      first
        | assumption | intro _ | apply setMode_keeps | apply keeps_ite | refine keeps_same ?_ rfl rfl rfl)
      <;> try conv => arg 2; whnf)

theorem grantValue_keeps {b0 : State} (g : Nat) (late : Bool) (renews : Bool) (s1 : State) (h : Keeps b0 s1) :
    Keeps b0 (grantValue g late renews s1) := by
  unfold grantValue
  with_reducible
    try conv => arg 2; whnf
    iterate 40 all_goals try ((
      first
        | assumption | intro _ | apply ndPut_keeps | apply keeps_ite | refine keeps_same ?_ rfl rfl rfl)
      <;> try conv => arg 2; whnf)

theorem grantLease_keeps {b0 : State} (m : GrantMsg) (renews : Bool) (s2 : State) (h : Keeps b0 s2) :
    Keeps b0 (grantLease m renews s2) := by
  unfold grantLease
  with_reducible
    try conv => arg 2; whnf
    iterate 40 all_goals try ((
      first
        | assumption | intro _ | apply ndPut_keeps | apply keeps_ite | refine keeps_same ?_ rfl rfl rfl)
      <;> try conv => arg 2; whnf)

theorem nodeTake_keeps {b0 : State} (late : Bool) (m : GrantMsg) (s0 : State) (h : Keeps b0 s0) :
    Keeps b0 (nodeTake late m s0) := by
  unfold nodeTake
  with_reducible
    try conv => arg 2; whnf
    iterate 40 all_goals try ((
      first
        | assumption | apply clampGrant_keeps | apply enterOnGrant_keeps | apply grantLease_keeps
        | apply grantValue_keeps | apply mirrorSlc_keeps | apply splitGrant_keeps)
      <;> try conv => arg 2; whnf)

theorem nodeGrant_keeps {b0 : State} (m : GrantMsg) (s : State) (h : Keeps b0 s) :
    Keeps b0 (nodeGrant m s) := by
  unfold nodeGrant
  exact nodeTake_keeps _ _ _ (grantNotice_keeps _ _ _ _ h)

theorem execGrant_keeps {b0 : State} (t : Nat) (m : GrantMsg) (s : State) (h : Keeps b0 s) :
    KeepsO b0 (execGrant t m s) := by
  unfold execGrant
  with_reducible
    try conv => arg 2; whnf
    iterate 40 all_goals try ((
      first
        | assumption | intro _ | apply dropTc1_keeps | apply fireEvent_keeps | apply nodeGrant_keeps
        | apply roleGrant_keeps | apply at_keeps | apply keepsO_next | apply keeps_ite | apply keepsO_ite | split
        | refine keeps_pair (by assumption) ?_ | refine keeps_same ?_ rfl rfl rfl)
      <;> try conv => arg 2; whnf)

theorem execJoinTimeout_keeps {b0 : State} (t : Nat) (s : State) (h : Keeps b0 s) :
    KeepsO b0 (execJoinTimeout t s) := by
  unfold execJoinTimeout
  with_reducible
    try conv => arg 2; whnf
    iterate 40 all_goals try ((
      first
        | assumption | intro _ | apply finishAccepted_keeps | apply leaveSluice_keeps | apply at_keeps
        | apply keepsO_next | apply keeps_ite | apply keepsO_ite | split | refine keeps_pair (by assumption) ?_
        | refine keeps_same ?_ rfl rfl rfl)
      <;> try conv => arg 2; whnf)

theorem execIntake_keeps {b0 : State} (t : Nat) (m : IntakeMsg) (s : State) (h : Keeps b0 s) :
    KeepsO b0 (execIntake t m s) := by
  unfold execIntake
  with_reducible
    try conv => arg 2; whnf
    iterate 40 all_goals try ((
      first
        | assumption | intro _ | apply dropTc1_keeps | apply at_keeps | apply keepsO_next | apply keeps_ite
        | apply keepsO_ite | split | refine keeps_pair (by assumption) ?_ | refine keeps_same ?_ rfl rfl rfl)
      <;> try conv => arg 2; whnf)

theorem execSlcStatus_keeps {b0 : State} (t : Nat) (line : Nat) (seq : Nat) (s : State) (h : Keeps b0 s) :
    KeepsO b0 (execSlcStatus t line seq s) := by
  unfold execSlcStatus
  with_reducible
    try conv => arg 2; whnf
    iterate 40 all_goals try ((
      first
        | assumption | intro _ | apply done_keeps | apply runCmd_keeps | apply at_keeps | apply keepsO_next
        | apply keeps_foldl | apply keeps_ite | apply keeps_ite2 | apply keepsO_ite | refine memWrite_wf _ _ _ ?_
        | refine memWriteBytes_wf _ _ ?_ | refine Memory.wf_filter _ ?_ | split | exact ⟨rfl, rfl⟩ | rfl
        | refine keeps_pair (by assumption) ?_ | refine keeps_same ?_ rfl rfl rfl | refine keeps_out ?_ rfl rfl rfl
        | refine keeps_new ?_ rfl rfl rfl | refine keeps_mem ?_ rfl rfl rfl ?_)
      <;> try conv => arg 2; whnf)

theorem execSlcTableRead_keeps {b0 : State} (t : Nat) (line : Nat) (seq : Nat) (s : State) (h : Keeps b0 s) :
    KeepsO b0 (execSlcTableRead t line seq s) := by
  unfold execSlcTableRead
  with_reducible
    try conv => arg 2; whnf
    iterate 40 all_goals try ((
      first
        | assumption | intro _ | apply doneOut_keeps | apply rejectRange_keeps | apply runCmd_keeps | apply at_keeps
        | apply keepsO_next | apply keeps_ite | apply keepsO_ite | refine memWrite_wf _ _ _ ?_
        | refine memWriteBytes_wf _ _ ?_ | refine Memory.wf_filter _ ?_)
      <;> try conv => arg 2; whnf)

theorem execSlcMapRead_keeps {b0 : State} (t : Nat) (line : Nat) (seq : Nat) (s : State) (h : Keeps b0 s) :
    KeepsO b0 (execSlcMapRead t line seq s) := by
  unfold execSlcMapRead
  with_reducible
    try conv => arg 2; whnf
    iterate 40 all_goals try ((
      first
        | assumption | intro _ | apply doneOut_keeps | apply runCmd_keeps | apply at_keeps | apply keepsO_next
        | refine memWrite_wf _ _ _ ?_ | refine memWriteBytes_wf _ _ ?_ | refine Memory.wf_filter _ ?_)
      <;> try conv => arg 2; whnf)

theorem execSlcClassSet_keeps {b0 : State} (t : Nat) (line : Nat) (seq : Nat) (s : State) (h : Keeps b0 s) :
    KeepsO b0 (execSlcClassSet t line seq s) := by
  unfold execSlcClassSet
  with_reducible
    try conv => arg 2; whnf
    iterate 40 all_goals try ((
      first
        | assumption | intro _ | apply done_keeps | apply rejectRange_keeps | apply runCmd_keeps | apply at_keeps
        | apply keepsO_next | apply keeps_ite | apply keepsO_ite | refine keeps_same ?_ rfl rfl rfl)
      <;> try conv => arg 2; whnf)

/-! ### Vcl.lean -/

theorem setPrt_keeps {b0 : State} (n : Nat) (f : Port → Port) (s : State) (h : Keeps b0 s) :
    Keeps b0 (setPrt n f s) := by
  unfold setPrt
  with_reducible
    try conv => arg 2; whnf
    iterate 40 all_goals try ((
      first
        | assumption | intro _ | refine keeps_same ?_ rfl rfl rfl)
      <;> try conv => arg 2; whnf)

theorem vclEvent_keeps {b0 : State} (n : Nat) (e : Nat) (s : State) (h : Keeps b0 s) :
    Keeps b0 (vclEvent n e s) := by
  unfold vclEvent
  with_reducible
    try conv => arg 2; whnf
    iterate 40 all_goals try ((
      first
        | assumption | apply fireEvent_keeps)
      <;> try conv => arg 2; whnf)

theorem setPilot_keeps {b0 : State} (n : Nat) (st : Nat) (s : State) (h : Keeps b0 s) :
    Keeps b0 (setPilot n st s) := by
  unfold setPilot
  with_reducible
    try conv => arg 2; whnf
    iterate 40 all_goals try ((
      first
        | assumption | intro _ | apply setPrt_keeps | apply vclEvent_keeps | apply keeps_ite
        | refine keeps_same ?_ rfl rfl rfl)
      <;> try conv => arg 2; whnf)

theorem setDuty_keeps {b0 : State} (n : Nat) (duty : Nat) (s : State) (h : Keeps b0 s) :
    Keeps b0 (setDuty n duty s) := by
  unfold setDuty
  with_reducible
    try conv => arg 2; whnf
    iterate 40 all_goals try ((
      first
        | assumption | intro _ | apply mirrorLoad_keeps | apply setPilot_keeps | apply setPrt_keeps | apply keeps_ite
        | refine keeps_same ?_ rfl rfl rfl)
      <;> try conv => arg 2; whnf)

theorem loadCkpt_keeps {b0 : State} (n : Nat) (c : Ckpt) (s : State) (h : Keeps b0 s) :
    Keeps b0 (loadCkpt n c s) := by
  unfold loadCkpt
  with_reducible
    try conv => arg 2; whnf
    iterate 40 all_goals try ((
      first
        | assumption | intro _ | apply postRequest_keeps | apply setOut_keeps | apply setPrt_keeps
        | refine keeps_same ?_ rfl rfl rfl)
      <;> try conv => arg 2; whnf)

theorem sendCkpt_keeps {b0 : State} (n : Nat) (s : State) (h : Keeps b0 s) :
    Keeps b0 (sendCkpt n s) := by
  unfold sendCkpt
  with_reducible
    try conv => arg 2; whnf
    iterate 40 all_goals try ((
      first
        | assumption | intro _ | apply mirrorSend_keeps | apply setPrt_keeps | refine keeps_same ?_ rfl rfl rfl)
      <;> try conv => arg 2; whnf)

theorem respond_keeps {b0 : State} (n : Nat) (rsp : List Nat) (s : State) (h : Keeps b0 s) :
    Keeps b0 (respond n rsp s) := by
  unfold respond
  with_reducible
    try conv => arg 2; whnf
    iterate 40 all_goals try ((
      first
        | assumption | intro _ | apply emit_keeps | apply sendCkpt_keeps | apply setPrt_keeps | apply keeps_ite
        | refine keeps_same ?_ rfl rfl rfl)
      <;> try conv => arg 2; whnf)

theorem askCableCheck_keeps {b0 : State} (n : Nat) (s : State) (h : Keeps b0 s) :
    Keeps b0 (askCableCheck n s) := by
  unfold askCableCheck
  with_reducible
    try conv => arg 2; whnf
    iterate 40 all_goals try ((
      first
        | assumption | apply lswDrive_keeps | apply sessEnter_keeps | apply keeps_ite)
      <;> try conv => arg 2; whnf)

theorem askPrecharge_keeps {b0 : State} (n : Nat) (g : Nat) (s : State) (h : Keeps b0 s) :
    Keeps b0 (askPrecharge n g s) := by
  unfold askPrecharge
  with_reducible
    try conv => arg 2; whnf
    iterate 40 all_goals try ((
      first
        | assumption | apply sessEnter_keeps | apply trackRequest_keeps | apply keeps_ite)
      <;> try conv => arg 2; whnf)

theorem chargeLoop_keeps {b0 : State} (n : Nat) (iReq : Int) (vTgt : Nat) (s : State) (h : Keeps b0 s) :
    Keeps b0 (chargeLoop n iReq vTgt s) := by
  unfold chargeLoop
  with_reducible
    try conv => arg 2; whnf
    iterate 40 all_goals try ((
      first
        | assumption | intro _ | apply postRequest_keeps | apply setOut_keeps | apply setPrt_keeps | apply keeps_ite
        | refine keeps_same ?_ rfl rfl rfl)
      <;> try conv => arg 2; whnf)

theorem chooseProto_keeps {b0 : State} (n : Nat) (p : Nat) (s : State) (h : Keeps b0 s) :
    Keeps b0 (chooseProto n p s) := by
  unfold chooseProto
  with_reducible
    try conv => arg 2; whnf
    iterate 40 all_goals try ((
      first
        | assumption | intro _ | apply sessEnter_keeps | apply setPrt_keeps | apply vclEvent_keeps
        | refine keeps_same ?_ rfl rfl rfl)
      <;> try conv => arg 2; whnf)

theorem vclError_keeps {b0 : State} (e : ErrSpec) (n : Nat) (s : State) (h : Keeps b0 s) :
    Keeps b0 (vclError e n s) := by
  unfold vclError
  with_reducible
    try conv => arg 2; whnf
    iterate 40 all_goals try ((
      first
        | assumption | intro _ | apply raiseError_keeps | apply setPrt_keeps | refine keeps_same ?_ rfl rfl rfl)
      <;> try conv => arg 2; whnf)

theorem noProtocol_keeps {b0 : State} (n : Nat) (s : State) (h : Keeps b0 s) :
    Keeps b0 (noProtocol n s) := by
  unfold noProtocol
  with_reducible
    try conv => arg 2; whnf
    iterate 40 all_goals try ((
      first
        | assumption | apply stopSession_keeps | apply vclError_keeps)
      <;> try conv => arg 2; whnf)

theorem vehicleAct_keeps {b0 : State} (n : Nat) (req : VehReq) (s : State) (h : Keeps b0 s) :
    Keeps b0 (vehicleAct n req s) := by
  unfold vehicleAct
  with_reducible
    try conv => arg 2; whnf
    iterate 40 all_goals try ((
      first
        | assumption | intro _ | apply askCableCheck_keeps | apply askPrecharge_keeps | apply chargeLoop_keeps
        | apply chooseProto_keeps | apply noProtocol_keeps | apply setPrt_keeps | apply stopSession_keeps
        | apply vclError_keeps | apply keeps_ite | split | refine keeps_pair (by assumption) ?_
        | refine keeps_same ?_ rfl rfl rfl)
      <;> try conv => arg 2; whnf)

theorem vehicleMsg_keeps {b0 : State} (n : Nat) (req : VehReq) (stack : List Nat) (rsp : List Nat) (s : State) (h : Keeps b0 s) :
    Keeps b0 (vehicleMsg n req stack rsp s) := by
  unfold vehicleMsg
  with_reducible
    try conv => arg 2; whnf
    iterate 40 all_goals try ((
      first
        | assumption | intro _ | apply respond_keeps | apply setPrt_keeps | apply vehicleAct_keeps
        | refine keeps_same ?_ rfl rfl rfl)
      <;> try conv => arg 2; whnf)

theorem takeSession_keeps {b0 : State} (n : Nat) (s : State) (h : Keeps b0 s) :
    Keeps b0 (takeSession n s) := by
  unfold takeSession
  with_reducible
    try conv => arg 2; whnf
    iterate 40 all_goals try ((
      first
        | assumption | intro _ | apply loadCkpt_keeps | apply setPrt_keeps | apply stopSession_keeps
        | apply vclEvent_keeps | apply vehicleMsg_keeps | apply keeps_foldl | apply keeps_ite | split
        | refine keeps_pair (by assumption) ?_ | refine keeps_same ?_ rfl rfl rfl)
      <;> try conv => arg 2; whnf)

theorem releaseRsp_keeps {b0 : State} (n : Nat) (s : State) (h : Keeps b0 s) :
    Keeps b0 (releaseRsp n s) := by
  unfold releaseRsp
  with_reducible
    try conv => arg 2; whnf
    iterate 40 all_goals try ((
      first
        | assumption | intro _ | apply emit_keeps | apply setPrt_keeps | split | refine keeps_pair (by assumption) ?_
        | refine keeps_same ?_ rfl rfl rfl)
      <;> try conv => arg 2; whnf)

theorem execCpDutySet_keeps {b0 : State} (t : Nat) (n : Nat) (duty : Nat) (s : State) (h : Keeps b0 s) :
    KeepsO b0 (execCpDutySet t n duty s) := by
  unfold execCpDutySet
  with_reducible
    try conv => arg 2; whnf
    iterate 40 all_goals try ((
      first
        | assumption | apply setDuty_keeps | apply at_keeps | apply keepsO_next)
      <;> try conv => arg 2; whnf)

theorem pilotGuard_keeps {b0 : State} (n : Nat) (s : State) (h : Keeps b0 s) :
    Keeps b0 (pilotGuard n s) := by
  unfold pilotGuard
  with_reducible
    try conv => arg 2; whnf
    iterate 40 all_goals try ((
      first
        | assumption | apply stopSession_keeps | apply keeps_ite)
      <;> try conv => arg 2; whnf)

theorem highSample_keeps {b0 : State} (n : Nat) (mv : Int) (s : State) (h : Keeps b0 s) :
    Keeps b0 (highSample n mv s) := by
  unfold highSample
  with_reducible
    try conv => arg 2; whnf
    iterate 40 all_goals try ((
      first
        | assumption | intro _ | apply pilotGuard_keeps | apply setPilot_keeps | apply setPrt_keeps
        | apply vclError_keeps | apply keeps_ite | refine keeps_same ?_ rfl rfl rfl)
      <;> try conv => arg 2; whnf)

theorem lowSample_keeps {b0 : State} (n : Nat) (mv : Int) (s : State) (h : Keeps b0 s) :
    Keeps b0 (lowSample n mv s) := by
  unfold lowSample
  with_reducible
    try conv => arg 2; whnf
    iterate 40 all_goals try ((
      first
        | assumption | intro _ | apply pilotGuard_keeps | apply setPrt_keeps | apply vclError_keeps | apply keeps_ite
        | refine keeps_same ?_ rfl rfl rfl)
      <;> try conv => arg 2; whnf)

theorem execCpSample_keeps {b0 : State} (t : Nat) (n : Nat) (high : Bool) (mv : Int) (s : State) (h : Keeps b0 s) :
    KeepsO b0 (execCpSample t n high mv s) := by
  unfold execCpSample
  with_reducible
    try conv => arg 2; whnf
    iterate 40 all_goals try ((
      first
        | assumption | apply highSample_keeps | apply lowSample_keeps | apply at_keeps | apply keepsO_next
        | apply keeps_ite | apply keepsO_ite)
      <;> try conv => arg 2; whnf)

theorem proximityGuard_keeps {b0 : State} (n : Nat) (s : State) (h : Keeps b0 s) :
    Keeps b0 (proximityGuard n s) := by
  unfold proximityGuard
  with_reducible
    try conv => arg 2; whnf
    iterate 40 all_goals try ((
      first
        | assumption | apply stopSession_keeps | apply keeps_ite)
      <;> try conv => arg 2; whnf)

theorem execPpConversion_keeps {b0 : State} (t : Nat) (n : Nat) (mv : Nat) (s : State) (h : Keeps b0 s) :
    KeepsO b0 (execPpConversion t n mv s) := by
  unfold execPpConversion
  with_reducible
    try conv => arg 2; whnf
    iterate 40 all_goals try ((
      first
        | assumption | intro _ | apply proximityGuard_keeps | apply setPrt_keeps | apply at_keeps | apply keepsO_next
        | apply keeps_ite | apply keepsO_ite | refine keeps_same ?_ rfl rfl rfl)
      <;> try conv => arg 2; whnf)

theorem beginSession_keeps {b0 : State} (n : Nat) (s : State) (h : Keeps b0 s) :
    Keeps b0 (beginSession n s) := by
  unfold beginSession
  with_reducible
    try conv => arg 2; whnf
    iterate 40 all_goals try ((
      first
        | assumption | intro _ | apply sessEnter_keeps | apply setPrt_keeps | apply keeps_ite
        | refine keeps_same ?_ rfl rfl rfl)
      <;> try conv => arg 2; whnf)

theorem ppConnected_keeps {b0 : State} (n : Nat) (s : State) (h : Keeps b0 s) :
    Keeps b0 (ppConnected n s) := by
  unfold ppConnected
  with_reducible
    try conv => arg 2; whnf
    iterate 40 all_goals try ((
      first
        | assumption | intro _ | apply beginSession_keeps | apply setCbl_keeps | apply keeps_ite
        | refine keeps_same ?_ rfl rfl rfl)
      <;> try conv => arg 2; whnf)

theorem ppNone_keeps {b0 : State} (n : Nat) (s : State) (h : Keeps b0 s) :
    Keeps b0 (ppNone n s) := by
  unfold ppNone
  with_reducible
    try conv => arg 2; whnf
    iterate 40 all_goals try ((
      first
        | assumption | apply sessEnter_keeps | apply stopSession_keeps | apply keeps_ite)
      <;> try conv => arg 2; whnf)

theorem execPpBandAccept_keeps {b0 : State} (t : Nat) (n : Nat) (s : State) (h : Keeps b0 s) :
    KeepsO b0 (execPpBandAccept t n s) := by
  unfold execPpBandAccept
  with_reducible
    try conv => arg 2; whnf
    iterate 40 all_goals try ((
      first
        | assumption | intro _ | apply ppConnected_keeps | apply ppNone_keeps | apply proximityGuard_keeps
        | apply setPrt_keeps | apply vclEvent_keeps | apply at_keeps | apply keepsO_next | apply keeps_ite
        | apply keepsO_ite | refine keeps_same ?_ rfl rfl rfl)
      <;> try conv => arg 2; whnf)

theorem execSlacMessage_keeps {b0 : State} (t : Nat) (n : Nat) (msg : SlacMsg) (s : State) (h : Keeps b0 s) :
    KeepsO b0 (execSlacMessage t n msg s) := by
  unfold execSlacMessage
  with_reducible
    try conv => arg 2; whnf
    iterate 40 all_goals try ((
      first
        | assumption | intro _ | apply drawFree_keeps | apply drawTrng_keeps | apply setPrt_keeps
        | apply vclEvent_keeps | apply at_keeps | apply keepsO_next | apply keeps_ite | apply keepsO_ite | split
        | refine keeps_pair (by assumption) ?_ | refine keeps_same ?_ rfl rfl rfl)
      <;> try conv => arg 2; whnf)

theorem execVclSlacFail_keeps {b0 : State} (t : Nat) (n : Nat) (s : State) (h : Keeps b0 s) :
    KeepsO b0 (execVclSlacFail t n s) := by
  unfold execVclSlacFail
  with_reducible
    try conv => arg 2; whnf
    iterate 40 all_goals try ((
      first
        | assumption | intro _ | apply setDuty_keeps | apply setPrt_keeps | apply stopSession_keeps
        | apply vclError_keeps | apply vclEvent_keeps | apply at_keeps | apply keepsO_next | apply keeps_ite
        | apply keepsO_ite | refine keeps_same ?_ rfl rfl rfl)
      <;> try conv => arg 2; whnf)

theorem execSlacRetry_keeps {b0 : State} (t : Nat) (n : Nat) (s : State) (h : Keeps b0 s) :
    KeepsO b0 (execSlacRetry t n s) := by
  unfold execSlacRetry
  with_reducible
    try conv => arg 2; whnf
    iterate 40 all_goals try ((
      first
        | assumption | intro _ | apply setDuty_keeps | apply setPrt_keeps | apply at_keeps | apply keepsO_next
        | apply keeps_ite | apply keepsO_ite | refine keeps_same ?_ rfl rfl rfl)
      <;> try conv => arg 2; whnf)

theorem execCkptAckTimeout_keeps {b0 : State} (t : Nat) (n : Nat) (s : State) (h : Keeps b0 s) :
    KeepsO b0 (execCkptAckTimeout t n s) := by
  unfold execCkptAckTimeout
  with_reducible
    try conv => arg 2; whnf
    iterate 40 all_goals try ((
      first
        | assumption | intro _ | apply releaseRsp_keeps | apply setPrt_keeps | apply vclError_keeps
        | apply vclEvent_keeps | apply at_keeps | apply keepsO_next | apply keeps_ite | apply keepsO_ite
        | refine keeps_same ?_ rfl rfl rfl)
      <;> try conv => arg 2; whnf)

theorem execAppProtocolRequest_keeps {b0 : State} (t : Nat) (n : Nat) (offers : List (Nat × Nat)) (s : State) (h : Keeps b0 s) :
    KeepsO b0 (execAppProtocolRequest t n offers s) := by
  unfold execAppProtocolRequest
  with_reducible
    try conv => arg 2; whnf
    iterate 40 all_goals try ((
      first
        | assumption | intro _ | apply chooseProto_keeps | apply noProtocol_keeps | apply respond_keeps
        | apply at_keeps | apply keepsO_next | apply keeps_ite | apply keepsO_ite | split
        | refine keeps_pair (by assumption) ?_ | refine keeps_same ?_ rfl rfl rfl)
      <;> try conv => arg 2; whnf)

theorem execCableCheckRequest_keeps {b0 : State} (t : Nat) (n : Nat) (s : State) (h : Keeps b0 s) :
    KeepsO b0 (execCableCheckRequest t n s) := by
  unfold execCableCheckRequest
  with_reducible
    try conv => arg 2; whnf
    iterate 40 all_goals try ((
      first
        | assumption | apply askCableCheck_keeps | apply at_keeps | apply keepsO_next)
      <;> try conv => arg 2; whnf)

theorem execPrechargeRequest_keeps {b0 : State} (t : Nat) (n : Nat) (g : Nat) (s : State) (h : Keeps b0 s) :
    KeepsO b0 (execPrechargeRequest t n g s) := by
  unfold execPrechargeRequest
  with_reducible
    try conv => arg 2; whnf
    iterate 40 all_goals try ((
      first
        | assumption | apply askPrecharge_keeps | apply at_keeps | apply keepsO_next)
      <;> try conv => arg 2; whnf)

theorem lockFail_keeps {b0 : State} (n : Nat) (s : State) (h : Keeps b0 s) :
    Keeps b0 (lockFail n s) := by
  unfold lockFail
  with_reducible
    try conv => arg 2; whnf
    iterate 40 all_goals try ((
      first
        | assumption | apply stopSession_keeps | apply vclError_keeps)
      <;> try conv => arg 2; whnf)

theorem execLockFeedback_keeps {b0 : State} (t : Nat) (n : Nat) (closed : Bool) (s : State) (h : Keeps b0 s) :
    KeepsO b0 (execLockFeedback t n closed s) := by
  unfold execLockFeedback
  with_reducible
    try conv => arg 2; whnf
    iterate 40 all_goals try ((
      first
        | assumption | intro _ | apply errCleared_keeps | apply lockFail_keeps | apply sessEnter_keeps
        | apply setPrt_keeps | apply at_keeps | apply keepsO_next | apply keeps_ite | apply keepsO_ite
        | refine keeps_same ?_ rfl rfl rfl)
      <;> try conv => arg 2; whnf)

theorem execLockTimeout_keeps {b0 : State} (t : Nat) (n : Nat) (s : State) (h : Keeps b0 s) :
    KeepsO b0 (execLockTimeout t n s) := by
  unfold execLockTimeout
  with_reducible
    try conv => arg 2; whnf
    iterate 40 all_goals try ((
      first
        | assumption | apply lockFail_keeps | apply at_keeps | apply keepsO_next | apply keeps_ite | apply keepsO_ite)
      <;> try conv => arg 2; whnf)

theorem execWaitReadyMet_keeps {b0 : State} (t : Nat) (n : Nat) (g : Nat) (vrref : Nat) (s : State) (h : Keeps b0 s) :
    KeepsO b0 (execWaitReadyMet t n g vrref s) := by
  unfold execWaitReadyMet
  with_reducible
    try conv => arg 2; whnf
    iterate 40 all_goals try ((
      first
        | assumption | apply insRequest_keeps | apply lglRequest_keeps | apply sessEnter_keeps | apply at_keeps
        | apply keepsO_next | apply keeps_ite | apply keepsO_ite)
      <;> try conv => arg 2; whnf)

theorem execVclWaitTimeout_keeps {b0 : State} (t : Nat) (n : Nat) (s : State) (h : Keeps b0 s) :
    KeepsO b0 (execVclWaitTimeout t n s) := by
  unfold execVclWaitTimeout
  with_reducible
    try conv => arg 2; whnf
    iterate 40 all_goals try ((
      first
        | assumption | apply stopSession_keeps | apply vclError_keeps | apply at_keeps | apply keepsO_next
        | apply keeps_ite | apply keepsO_ite)
      <;> try conv => arg 2; whnf)

theorem execCertRelay_keeps {b0 : State} (t : Nat) (n : Nat) (body : List Nat) (s : State) (h : Keeps b0 s) :
    KeepsO b0 (execCertRelay t n body s) := by
  unfold execCertRelay
  with_reducible
    try conv => arg 2; whnf
    iterate 40 all_goals try ((
      first
        | assumption | intro _ | apply setPrt_keeps | apply vclEvent_keeps | apply at_keeps | apply keepsO_next
        | apply keeps_ite | apply keepsO_ite | refine keeps_same ?_ rfl rfl rfl)
      <;> try conv => arg 2; whnf)

theorem answerRelay_keeps {b0 : State} (n : Nat) (ok : Bool) (reply : List Nat) (s : State) (h : Keeps b0 s) :
    Keeps b0 (answerRelay n ok reply s) := by
  unfold answerRelay
  with_reducible
    try conv => arg 2; whnf
    iterate 40 all_goals try ((
      first
        | assumption | intro _ | apply emit_keeps | apply setPrt_keeps | refine keeps_same ?_ rfl rfl rfl)
      <;> try conv => arg 2; whnf)

theorem execCertReplyTimeout_keeps {b0 : State} (t : Nat) (n : Nat) (s : State) (h : Keeps b0 s) :
    KeepsO b0 (execCertReplyTimeout t n s) := by
  unfold execCertReplyTimeout
  with_reducible
    try conv => arg 2; whnf
    iterate 40 all_goals try ((
      first
        | assumption | apply answerRelay_keeps | apply at_keeps | apply keepsO_next | apply keeps_ite
        | apply keepsO_ite)
      <;> try conv => arg 2; whnf)

theorem execVclTimeout_keeps {b0 : State} (t : Nat) (n : Nat) (s : State) (h : Keeps b0 s) :
    KeepsO b0 (execVclTimeout t n s) := by
  unfold execVclTimeout
  with_reducible
    try conv => arg 2; whnf
    iterate 40 all_goals try ((
      first
        | assumption | apply stopSession_keeps | apply vclError_keeps | apply at_keeps | apply keepsO_next
        | apply keeps_ite | apply keepsO_ite)
      <;> try conv => arg 2; whnf)

theorem execLockRelease_keeps {b0 : State} (t : Nat) (n : Nat) (s : State) (h : Keeps b0 s) :
    KeepsO b0 (execLockRelease t n s) := by
  unfold execLockRelease
  with_reducible
    try conv => arg 2; whnf
    iterate 40 all_goals try ((
      first
        | assumption | apply lswDrive_keeps | apply sessEnter_keeps | apply at_keeps | apply keepsO_next
        | apply keeps_ite | apply keepsO_ite)
      <;> try conv => arg 2; whnf)

theorem execCapZeroTimeout_keeps {b0 : State} (t : Nat) (n : Nat) (s : State) (h : Keeps b0 s) :
    KeepsO b0 (execCapZeroTimeout t n s) := by
  unfold execCapZeroTimeout
  with_reducible
    try conv => arg 2; whnf
    iterate 40 all_goals try ((
      first
        | assumption | intro _ | apply stopSession_keeps | apply at_keeps | apply keepsO_next | apply keeps_ite
        | apply keepsO_ite | split | refine keeps_pair (by assumption) ?_ | refine keeps_same ?_ rfl rfl rfl)
      <;> try conv => arg 2; whnf)

theorem execVehicleMessage_keeps {b0 : State} (t : Nat) (n : Nat) (req : VehReq) (again : Bool) (stack : List Nat) (rsp : List Nat) (s : State) (h : Keeps b0 s) :
    KeepsO b0 (execVehicleMessage t n req again stack rsp s) := by
  unfold execVehicleMessage
  with_reducible
    try conv => arg 2; whnf
    iterate 40 all_goals try ((
      first
        | assumption | apply emit_keeps | apply vehicleMsg_keeps | apply at_keeps | apply keepsO_next
        | apply keeps_ite | apply keepsO_ite)
      <;> try conv => arg 2; whnf)

theorem execVehicleFrameBuffer_keeps {b0 : State} (t : Nat) (n : Nat) (req : VehReq) (len : Nat) (stack : List Nat) (rsp : List Nat) (s : State) (h : Keeps b0 s) :
    KeepsO b0 (execVehicleFrameBuffer t n req len stack rsp s) := by
  unfold execVehicleFrameBuffer
  with_reducible
    try conv => arg 2; whnf
    iterate 40 all_goals try ((
      first
        | assumption | intro _ | apply setPrt_keeps | apply at_keeps | apply keepsO_next | apply keeps_foldl
        | apply keeps_ite | apply keepsO_ite | refine keeps_same ?_ rfl rfl rfl)
      <;> try conv => arg 2; whnf)

theorem execVehStatus_keeps {b0 : State} (t : Nat) (line : Nat) (seq : Nat) (s : State) (h : Keeps b0 s) :
    KeepsO b0 (execVehStatus t line seq s) := by
  unfold execVehStatus
  with_reducible
    try conv => arg 2; whnf
    iterate 40 all_goals try ((
      first
        | assumption | intro _ | apply doneOut_keeps | apply runCmd_keeps | apply at_keeps | apply keepsO_next
        | apply keeps_foldl | apply keeps_ite | apply keeps_ite2 | apply keepsO_ite | refine memWrite_wf _ _ _ ?_
        | refine memWriteBytes_wf _ _ ?_ | refine Memory.wf_filter _ ?_ | split | exact ⟨rfl, rfl⟩ | rfl
        | refine keeps_pair (by assumption) ?_ | refine keeps_same ?_ rfl rfl rfl | refine keeps_out ?_ rfl rfl rfl
        | refine keeps_new ?_ rfl rfl rfl | refine keeps_mem ?_ rfl rfl rfl ?_)
      <;> try conv => arg 2; whnf)

theorem execVehSessionRead_keeps {b0 : State} (t : Nat) (line : Nat) (seq : Nat) (s : State) (h : Keeps b0 s) :
    KeepsO b0 (execVehSessionRead t line seq s) := by
  unfold execVehSessionRead
  with_reducible
    try conv => arg 2; whnf
    iterate 40 all_goals try ((
      first
        | assumption | intro _ | apply doneOut_keeps | apply rejectRange_keeps | apply runCmd_keeps | apply at_keeps
        | apply keepsO_next | apply keeps_foldl | apply keeps_ite | apply keeps_ite2 | apply keepsO_ite
        | refine memWrite_wf _ _ _ ?_ | refine memWriteBytes_wf _ _ ?_ | refine Memory.wf_filter _ ?_ | split
        | exact ⟨rfl, rfl⟩ | rfl | refine keeps_pair (by assumption) ?_ | refine keeps_same ?_ rfl rfl rfl
        | refine keeps_out ?_ rfl rfl rfl | refine keeps_new ?_ rfl rfl rfl | refine keeps_mem ?_ rfl rfl rfl ?_)
      <;> try conv => arg 2; whnf)

theorem execVehAuthorize_keeps {b0 : State} (t : Nat) (line : Nat) (seq : Nat) (s : State) (h : Keeps b0 s) :
    KeepsO b0 (execVehAuthorize t line seq s) := by
  unfold execVehAuthorize
  with_reducible
    try conv => arg 2; whnf
    iterate 40 all_goals try ((
      first
        | assumption | intro _ | apply done_keeps | apply rejectRange_keeps | apply runCmd_keeps | apply setPrt_keeps
        | apply stopSession_keeps | apply at_keeps | apply keepsO_next | apply keeps_ite | apply keepsO_ite
        | refine keeps_same ?_ rfl rfl rfl)
      <;> try conv => arg 2; whnf)

theorem execVehStop_keeps {b0 : State} (t : Nat) (line : Nat) (seq : Nat) (s : State) (h : Keeps b0 s) :
    KeepsO b0 (execVehStop t line seq s) := by
  unfold execVehStop
  with_reducible
    try conv => arg 2; whnf
    iterate 40 all_goals try ((
      first
        | assumption | intro _ | apply done_keeps | apply rejectRange_keeps | apply runCmd_keeps
        | apply stopSession_keeps | apply at_keeps | apply keepsO_next | apply keeps_foldl | apply keeps_ite
        | apply keeps_ite2 | apply keepsO_ite | refine memWrite_wf _ _ _ ?_ | refine memWriteBytes_wf _ _ ?_
        | refine Memory.wf_filter _ ?_ | split | exact ⟨rfl, rfl⟩ | rfl | refine keeps_pair (by assumption) ?_
        | refine keeps_same ?_ rfl rfl rfl | refine keeps_out ?_ rfl rfl rfl | refine keeps_new ?_ rfl rfl rfl
        | refine keeps_mem ?_ rfl rfl rfl ?_)
      <;> try conv => arg 2; whnf)

theorem execVehExportSet_keeps {b0 : State} (t : Nat) (line : Nat) (seq : Nat) (s : State) (h : Keeps b0 s) :
    KeepsO b0 (execVehExportSet t line seq s) := by
  unfold execVehExportSet
  with_reducible
    try conv => arg 2; whnf
    iterate 40 all_goals try ((
      first
        | assumption | intro _ | apply done_keeps | apply rejectRange_keeps | apply runCmd_keeps | apply setPrt_keeps
        | apply at_keeps | apply keepsO_next | apply keeps_ite | apply keepsO_ite | refine keeps_same ?_ rfl rfl rfl)
      <;> try conv => arg 2; whnf)

theorem execVehCertReply_keeps {b0 : State} (t : Nat) (line : Nat) (seq : Nat) (s : State) (h : Keeps b0 s) :
    KeepsO b0 (execVehCertReply t line seq s) := by
  unfold execVehCertReply
  with_reducible
    try conv => arg 2; whnf
    iterate 40 all_goals try ((
      first
        | assumption | intro _ | apply answerRelay_keeps | apply done_keeps | apply rejectRange_keeps
        | apply runCmd_keeps | apply at_keeps | apply keepsO_next | apply keeps_foldl | apply keeps_ite
        | apply keeps_ite2 | apply keepsO_ite | refine memWrite_wf _ _ _ ?_ | refine memWriteBytes_wf _ _ ?_
        | refine Memory.wf_filter _ ?_ | split | exact ⟨rfl, rfl⟩ | rfl | refine keeps_pair (by assumption) ?_
        | refine keeps_same ?_ rfl rfl rfl | refine keeps_out ?_ rfl rfl rfl | refine keeps_new ?_ rfl rfl rfl
        | refine keeps_mem ?_ rfl rfl rfl ?_)
      <;> try conv => arg 2; whnf)

theorem execVehPortEnable_keeps {b0 : State} (t : Nat) (line : Nat) (seq : Nat) (s : State) (h : Keeps b0 s) :
    KeepsO b0 (execVehPortEnable t line seq s) := by
  unfold execVehPortEnable
  with_reducible
    try conv => arg 2; whnf
    iterate 40 all_goals try ((
      first
        | assumption | intro _ | apply done_keeps | apply rejectRange_keeps | apply runCmd_keeps | apply setDuty_keeps
        | apply setPrt_keeps | apply at_keeps | apply keepsO_next | apply keeps_ite | apply keepsO_ite
        | refine keeps_same ?_ rfl rfl rfl)
      <;> try conv => arg 2; whnf)

end Sys2Proof.Machine
end

