-- ==== Sys2Proof/Laws/KeepsFamilies4.lean ====
section
/-! SUPPORT. Every operation of Dpx.lean, Lgl.lean, Own.lean, Key.lean, Topo.lean keeps what `Keeps` says. -/

set_option linter.unusedTactic false
set_option linter.unreachableTactic false

namespace Sys2Proof.Machine

/-! ### Dpx.lean -/

theorem setRole_keeps {b0 : State} (r : Nat) (st : Nat) (s : State) (h : Keeps b0 s) :
    Keeps b0 (setRole r st s) := by
  unfold setRole
  with_reducible
    try conv => arg 2; whnf
    iterate 40 all_goals try ((
      first
        | assumption | intro _ | apply fireEvent_keeps | apply lglRequest_keeps | apply keeps_ite
        | refine keeps_same ?_ rfl rfl rfl)
      <;> try conv => arg 2; whnf)

theorem setDpxSt_keeps {b0 : State} (st : Nat) (s : State) (h : Keeps b0 s) :
    Keeps b0 (setDpxSt st s) := by
  unfold setDpxSt
  with_reducible
    try conv => arg 2; whnf
    iterate 40 all_goals try ((
      first
        | assumption | apply setRole_keeps)
      <;> try conv => arg 2; whnf)

theorem startClaim_keeps {b0 : State} (c : Nat) (s : State) (h : Keeps b0 s) :
    Keeps b0 (startClaim c s) := by
  unfold startClaim
  with_reducible
    try conv => arg 2; whnf
    iterate 40 all_goals try ((
      first
        | assumption | intro _ | apply emit_keeps | apply setRole_keeps | refine keeps_same ?_ rfl rfl rfl)
      <;> try conv => arg 2; whnf)

theorem claimRole_keeps {b0 : State} (s : State) (h : Keeps b0 s) :
    Keeps b0 (claimRole s) := by
  unfold claimRole
  with_reducible
    try conv => arg 2; whnf
    iterate 40 all_goals try ((
      first
        | assumption | apply fireEvent_keeps | apply raiseError_keeps | apply startClaim_keeps | apply keeps_ite)
      <;> try conv => arg 2; whnf)

theorem enterStandby_keeps {b0 : State} (st : Nat) (s : State) (h : Keeps b0 s) :
    Keeps b0 (enterStandby st s) := by
  unfold enterStandby
  with_reducible
    try conv => arg 2; whnf
    iterate 40 all_goals try ((
      first
        | assumption | intro _ | apply canStandby_keeps | apply dropGate_keeps | apply setMode_keeps
        | apply setRole_keeps | apply stopClaim_keeps | refine keeps_same ?_ rfl rfl rfl
        | refine keeps_out ?_ rfl rfl rfl)
      <;> try conv => arg 2; whnf)

theorem execDuplexRoleDecide_keeps {b0 : State} (t : Nat) (s : State) (h : Keeps b0 s) :
    KeepsO b0 (execDuplexRoleDecide t s) := by
  unfold execDuplexRoleDecide
  with_reducible
    try conv => arg 2; whnf
    iterate 40 all_goals try ((
      first
        | assumption | apply claimRole_keeps | apply enterStandby_keeps | apply at_keeps | apply keepsO_next
        | apply keeps_ite | apply keepsO_ite)
      <;> try conv => arg 2; whnf)

theorem relinquish_keeps {b0 : State} (st : Nat) (s : State) (h : Keeps b0 s) :
    Keeps b0 (relinquish st s) := by
  unfold relinquish
  with_reducible
    try conv => arg 2; whnf
    iterate 40 all_goals try ((
      first
        | assumption | intro _ | apply enterStandby_keeps | apply finishAccepted_keeps | split
        | refine keeps_pair (by assumption) ?_ | refine keeps_same ?_ rfl rfl rfl)
      <;> try conv => arg 2; whnf)

theorem giveUp_keeps {b0 : State} (st : Nat) (s : State) (h : Keeps b0 s) :
    Keeps b0 (giveUp st s) := by
  unfold giveUp
  with_reducible
    try conv => arg 2; whnf
    iterate 40 all_goals try ((
      first
        | assumption | apply relinquish_keeps | apply startDeciding_keeps | apply keeps_ite)
      <;> try conv => arg 2; whnf)

theorem checkDeposed_keeps {b0 : State} (s : State) (h : Keeps b0 s) :
    Keeps b0 (checkDeposed s) := by
  unfold checkDeposed
  with_reducible
    try conv => arg 2; whnf
    iterate 40 all_goals try ((
      first
        | assumption | apply fireEvent_keeps | apply giveUp_keeps | apply raiseError_keeps | apply keeps_ite)
      <;> try conv => arg 2; whnf)

theorem claimFrame_keeps {b0 : State} (hb : Nat) (byte : Nat) (s : State) (h : Keeps b0 s) :
    Keeps b0 (claimFrame hb byte s) := by
  unfold claimFrame
  with_reducible
    try conv => arg 2; whnf
    iterate 40 all_goals try ((
      first
        | assumption | intro _ | apply keeps_ite | refine keeps_same ?_ rfl rfl rfl)
      <;> try conv => arg 2; whnf)

theorem execClaimFrameRx_keeps {b0 : State} (t : Nat) (hb : Nat) (byte : Nat) (crcOk : Bool) (s : State) (h : Keeps b0 s) :
    KeepsO b0 (execClaimFrameRx t hb byte crcOk s) := by
  unfold execClaimFrameRx
  with_reducible
    try conv => arg 2; whnf
    iterate 40 all_goals try ((
      first
        | assumption | apply checkDeposed_keeps | apply claimFrame_keeps | apply at_keeps | apply keepsO_next
        | apply keeps_ite | apply keepsO_ite)
      <;> try conv => arg 2; whnf)

theorem driveMirrored_keeps {b0 : State} (s : State) (h : Keeps b0 s) :
    Keeps b0 (driveMirrored s) := by
  unfold driveMirrored
  with_reducible
    try conv => arg 2; whnf
    iterate 40 all_goals try ((
      first
        | assumption | intro _ | apply lswReturn_keeps | apply setCh_keeps | apply setDuty_keeps | apply keeps_foldl
        | split | refine keeps_pair (by assumption) ?_ | refine keeps_same ?_ rfl rfl rfl)
      <;> try conv => arg 2; whnf)

theorem stageMirrored_keeps {b0 : State} (s : State) (h : Keeps b0 s) :
    Keeps b0 (stageMirrored s) := by
  unfold stageMirrored
  with_reducible
    try conv => arg 2; whnf
    iterate 40 all_goals try ((
      first
        | assumption | intro _ | apply markSet_keeps | apply setOut_keeps | apply setPg_keeps | apply keeps_foldl
        | apply keeps_ite | refine keeps_same ?_ rfl rfl rfl)
      <;> try conv => arg 2; whnf)

theorem slotsMirrored_keeps {b0 : State} (s : State) (h : Keeps b0 s) :
    Keeps b0 (slotsMirrored s) := by
  unfold slotsMirrored
  with_reducible
    try conv => arg 2; whnf
    iterate 40 all_goals try ((
      first
        | assumption | intro _ | apply keeps_ite | refine keeps_same ?_ rfl rfl rfl)
      <;> try conv => arg 2; whnf)

theorem sessionsMirrored_keeps {b0 : State} (s : State) (h : Keeps b0 s) :
    Keeps b0 (sessionsMirrored s) := by
  unfold sessionsMirrored
  with_reducible
    try conv => arg 2; whnf
    iterate 40 all_goals try ((
      first
        | assumption | intro _ | apply emit_keeps | apply setPrt_keeps | apply takeSession_keeps | apply keeps_foldl
        | apply keeps_ite | refine keeps_same ?_ rfl rfl rfl)
      <;> try conv => arg 2; whnf)

theorem resume_keeps {b0 : State} (s : State) (h : Keeps b0 s) :
    Keeps b0 (resume s) := by
  unfold resume
  with_reducible
    try conv => arg 2; whnf
    iterate 40 all_goals try ((
      first
        | assumption | intro _ | apply canTakeover_keeps | apply driveMirrored_keeps | apply recomputeAll_keeps
        | apply sessionsMirrored_keeps | apply slotsMirrored_keeps | apply stageMirrored_keeps
        | refine keeps_same ?_ rfl rfl rfl)
      <;> try conv => arg 2; whnf)

theorem takeover_keeps {b0 : State} (s : State) (h : Keeps b0 s) :
    Keeps b0 (takeover s) := by
  unfold takeover
  with_reducible
    try conv => arg 2; whnf
    iterate 40 all_goals try ((
      first
        | assumption | intro _ | apply claimRole_keeps | apply discardAll_keeps | apply fireEvent_keeps
        | apply raiseError_keeps | apply resume_keeps | apply setMode_keeps | apply keeps_ite
        | refine keeps_same ?_ rfl rfl rfl)
      <;> try conv => arg 2; whnf)

theorem notAllowed_keeps {b0 : State} (s : State) (h : Keeps b0 s) :
    Keeps b0 (notAllowed s) := by
  unfold notAllowed
  with_reducible
    try conv => arg 2; whnf
    iterate 40 all_goals try ((
      first
        | assumption | apply dropTrigger_keeps | apply keeps_ite)
      <;> try conv => arg 2; whnf)

theorem execClaimStreamDead_keeps {b0 : State} (t : Nat) (s : State) (h : Keeps b0 s) :
    KeepsO b0 (execClaimStreamDead t s) := by
  unfold execClaimStreamDead
  with_reducible
    try conv => arg 2; whnf
    iterate 40 all_goals try ((
      first
        | assumption | intro _ | apply notAllowed_keeps | apply takeover_keeps | apply at_keeps | apply keepsO_next
        | apply keeps_ite | apply keepsO_ite | refine keeps_same ?_ rfl rfl rfl)
      <;> try conv => arg 2; whnf)

theorem kickWrite_keeps {b0 : State} (s : State) (h : Keeps b0 s) :
    Keeps b0 (kickWrite s) := by
  unfold kickWrite
  with_reducible
    try conv => arg 2; whnf
    iterate 40 all_goals try ((
      first
        | assumption | intro _ | refine keeps_same ?_ rfl rfl rfl)
      <;> try conv => arg 2; whnf)

theorem execDpxKick_keeps {b0 : State} (t : Nat) (s : State) (h : Keeps b0 s) :
    KeepsO b0 (execDpxKick t s) := by
  unfold execDpxKick
  with_reducible
    try conv => arg 2; whnf
    iterate 40 all_goals try ((
      first
        | assumption | apply kickWrite_keeps | apply at_keeps | apply keepsO_next)
      <;> try conv => arg 2; whnf)

theorem execClaimWdExpiry_keeps {b0 : State} (t : Nat) (s : State) (h : Keeps b0 s) :
    KeepsO b0 (execClaimWdExpiry t s) := by
  unfold execClaimWdExpiry
  with_reducible
    try conv => arg 2; whnf
    iterate 40 all_goals try ((
      first
        | assumption | apply dropGate_keeps | apply stopClaim_keeps | apply at_keeps | apply keepsO_next
        | apply keeps_ite | apply keepsO_ite)
      <;> try conv => arg 2; whnf)

theorem execDpxSelNChange_keeps {b0 : State} (t : Nat) (high : Bool) (s : State) (h : Keeps b0 s) :
    KeepsO b0 (execDpxSelNChange t high s) := by
  unfold execDpxSelNChange
  with_reducible
    try conv => arg 2; whnf
    iterate 40 all_goals try ((
      first
        | assumption | intro _ | apply driveMirrored_keeps | apply errCleared_keeps | apply fireEvent_keeps
        | apply at_keeps | apply keepsO_next | apply keeps_ite | apply keepsO_ite | refine keeps_same ?_ rfl rfl rfl)
      <;> try conv => arg 2; whnf)

theorem execDpxSelLost_keeps {b0 : State} (t : Nat) (s : State) (h : Keeps b0 s) :
    KeepsO b0 (execDpxSelLost t s) := by
  unfold execDpxSelLost
  with_reducible
    try conv => arg 2; whnf
    iterate 40 all_goals try ((
      first
        | assumption | apply fireEvent_keeps | apply giveUp_keeps | apply raiseError_keeps | apply at_keeps
        | apply keepsO_next | apply keeps_ite | apply keepsO_ite)
      <;> try conv => arg 2; whnf)

theorem execDpxTakeoverFail_keeps {b0 : State} (t : Nat) (s : State) (h : Keeps b0 s) :
    KeepsO b0 (execDpxTakeoverFail t s) := by
  unfold execDpxTakeoverFail
  with_reducible
    try conv => arg 2; whnf
    iterate 40 all_goals try ((
      first
        | assumption | intro _ | apply fireEvent_keeps | apply raiseError_keeps | apply at_keeps | apply keepsO_next
        | apply keeps_ite | apply keepsO_ite | refine keeps_same ?_ rfl rfl rfl)
      <;> try conv => arg 2; whnf)

theorem execRoleSend_keeps {b0 : State} (t : Nat) (s : State) (h : Keeps b0 s) :
    KeepsO b0 (execRoleSend t s) := by
  unfold execRoleSend
  with_reducible
    try conv => arg 2; whnf
    iterate 40 all_goals try ((
      first
        | assumption | apply mirrorSend_keeps | apply at_keeps | apply keepsO_next | apply keeps_ite
        | apply keepsO_ite)
      <;> try conv => arg 2; whnf)

theorem sendResync_keeps {b0 : State} (s : State) (h : Keeps b0 s) :
    Keeps b0 (sendResync s) := by
  unfold sendResync
  with_reducible
    try conv => arg 2; whnf
    iterate 40 all_goals try ((
      first
        | assumption | intro _ | apply mirrorSend_keeps | apply keeps_foldl)
      <;> try conv => arg 2; whnf)

theorem startResync_keeps {b0 : State} (before : State) (st : Nat) (s : State) (h : Keeps b0 s) :
    Keeps b0 (startResync before st s) := by
  unfold startResync
  with_reducible
    try conv => arg 2; whnf
    iterate 40 all_goals try ((
      first
        | assumption | apply sendResync_keeps | apply keeps_ite)
      <;> try conv => arg 2; whnf)

theorem execRole_keeps {b0 : State} (t : Nat) (role : Nat) (mode : Nat) (st : Nat) (claim : Nat) (lastClaim : Nat) (cfgVersion : Nat) (deviceId : Nat) (s : State) (h : Keeps b0 s) :
    KeepsO b0 (execRole t role mode st claim lastClaim cfgVersion deviceId s) := by
  unfold execRole
  with_reducible
    try conv => arg 2; whnf
    iterate 40 all_goals try ((
      first
        | assumption | intro _ | apply raiseError_keeps | apply startResync_keeps | apply at_keeps | apply keepsO_next
        | apply keeps_ite | apply keepsO_ite | refine keeps_same ?_ rfl rfl rfl)
      <;> try conv => arg 2; whnf)

theorem execDpxPartnerSilent_keeps {b0 : State} (t : Nat) (s : State) (h : Keeps b0 s) :
    KeepsO b0 (execDpxPartnerSilent t s) := by
  unfold execDpxPartnerSilent
  with_reducible
    try conv => arg 2; whnf
    iterate 40 all_goals try ((
      first
        | assumption | intro _ | apply fireEvent_keeps | apply raiseError_keeps | apply at_keeps | apply keepsO_next
        | apply keeps_ite | apply keepsO_ite | refine keeps_same ?_ rfl rfl rfl)
      <;> try conv => arg 2; whnf)

theorem execDpxMirrorLost_keeps {b0 : State} (t : Nat) (s : State) (h : Keeps b0 s) :
    KeepsO b0 (execDpxMirrorLost t s) := by
  unfold execDpxMirrorLost
  with_reducible
    try conv => arg 2; whnf
    iterate 40 all_goals try ((
      first
        | assumption | apply fireEvent_keeps | apply raiseError_keeps | apply setDpxSt_keeps | apply at_keeps
        | apply keepsO_next | apply keeps_ite | apply keepsO_ite)
      <;> try conv => arg 2; whnf)

theorem onStandby_keeps {b0 : State} (f : State → State) (s : State) (hf : ∀ x, Keeps b0 x → Keeps b0 (f x)) (h : Keeps b0 s) :
    Keeps b0 (onStandby f s) := by
  unfold onStandby
  with_reducible
    try conv => arg 2; whnf
    iterate 40 all_goals try ((
      first
        | assumption | intro _ | apply hf | apply keeps_ite)
      <;> try conv => arg 2; whnf)

theorem mirrorSession_keeps {b0 : State} (n : Nat) (proto : Nat) (old : Nat) (new : Nat) (s : State) (h : Keeps b0 s) :
    Keeps b0 (mirrorSession n proto old new s) := by
  unfold mirrorSession
  with_reducible
    try conv => arg 2; whnf
    iterate 40 all_goals try ((
      first
        | assumption | apply lglRequest_keeps | apply keeps_ite)
      <;> try conv => arg 2; whnf)

theorem storeCkpt_keeps {b0 : State} (n : Nat) (c : Ckpt) (s : State) (h : Keeps b0 s) :
    Keeps b0 (storeCkpt n c s) := by
  unfold storeCkpt
  with_reducible
    try conv => arg 2; whnf
    iterate 40 all_goals try ((
      first
        | assumption | apply mirrorSession_keeps | apply setPrt_keeps)
      <;> try conv => arg 2; whnf)

theorem ackCkpt_keeps {b0 : State} (n : Nat) (seq : Nat) (s : State) (h : Keeps b0 s) :
    Keeps b0 (ackCkpt n seq s) := by
  unfold ackCkpt
  with_reducible
    try conv => arg 2; whnf
    iterate 40 all_goals try ((
      first
        | assumption | apply mirrorSend_keeps)
      <;> try conv => arg 2; whnf)

theorem execCheckpoint_keeps {b0 : State} (t : Nat) (n : Nat) (seq : Nat) (state : Nat) (proto : Nat) (msgNo : Nat) (time : Nat) (iReq : Int) (vTgt : Nat) (vOv : Nat) (flags : Nat) (rest : List Nat) (lastRsp : List Nat) (s : State) (h : Keeps b0 s) :
    KeepsO b0 (execCheckpoint t n seq state proto msgNo time iReq vTgt vOv flags rest lastRsp s) := by
  unfold execCheckpoint
  with_reducible
    try conv => arg 2; whnf
    iterate 40 all_goals try ((
      first
        | assumption | intro _ | apply ackCkpt_keeps | apply onStandby_keeps | apply storeCkpt_keeps | apply at_keeps
        | apply keepsO_next | apply keeps_foldl | apply keeps_ite | apply keeps_ite2 | apply keepsO_ite
        | refine memWrite_wf _ _ _ ?_ | refine memWriteBytes_wf _ _ ?_ | refine Memory.wf_filter _ ?_ | split
        | exact ⟨rfl, rfl⟩ | rfl | refine keeps_pair (by assumption) ?_ | refine keeps_same ?_ rfl rfl rfl
        | refine keeps_out ?_ rfl rfl rfl | refine keeps_new ?_ rfl rfl rfl | refine keeps_mem ?_ rfl rfl rfl ?_)
      <;> try conv => arg 2; whnf)

theorem execCkptAck_keeps {b0 : State} (t : Nat) (n : Nat) (seq : Nat) (s : State) (h : Keeps b0 s) :
    KeepsO b0 (execCkptAck t n seq s) := by
  unfold execCkptAck
  with_reducible
    try conv => arg 2; whnf
    iterate 40 all_goals try ((
      first
        | assumption | intro _ | apply releaseRsp_keeps | apply setPrt_keeps | apply at_keeps | apply keepsO_next
        | apply keeps_ite | apply keepsO_ite | refine keeps_same ?_ rfl rfl rfl)
      <;> try conv => arg 2; whnf)

theorem putEntries_keeps {b0 : State} (entries : List SlcEntry) (s : State) (h : Keeps b0 s) :
    Keeps b0 (putEntries entries s) := by
  unfold putEntries
  with_reducible
    try conv => arg 2; whnf
    iterate 40 all_goals try ((
      first
        | assumption | intro _ | apply keeps_foldl | apply keeps_ite | refine memWrite_wf _ _ _ ?_
        | refine memWriteBytes_wf _ _ ?_ | refine Memory.wf_filter _ ?_ | refine keeps_same ?_ rfl rfl rfl
        | refine keeps_mem ?_ rfl rfl rfl ?_)
      <;> try conv => arg 2; whnf)

theorem takeNode_keeps {b0 : State} (round : Nat) (node : List Nat) (s : State) (h : Keeps b0 s) :
    Keeps b0 (takeNode round node s) := by
  unfold takeNode
  with_reducible
    try conv => arg 2; whnf
    iterate 40 all_goals try ((
      first
        | assumption | intro _ | refine memWrite_wf _ _ _ ?_ | refine memWriteBytes_wf _ _ ?_
        | refine Memory.wf_filter _ ?_ | refine keeps_same ?_ rfl rfl rfl | refine keeps_mem ?_ rfl rfl rfl ?_)
      <;> try conv => arg 2; whnf)

theorem execSlcMirror_keeps {b0 : State} (t : Nat) (round : Nat) (node : List Nat) (entries : List SlcEntry) (s : State) (h : Keeps b0 s) :
    KeepsO b0 (execSlcMirror t round node entries s) := by
  unfold execSlcMirror
  with_reducible
    try conv => arg 2; whnf
    iterate 40 all_goals try ((
      first
        | assumption | intro _ | apply onStandby_keeps | apply putEntries_keeps | apply takeNode_keeps
        | apply at_keeps | apply keepsO_next | apply keeps_foldl | apply keeps_ite | apply keeps_ite2
        | apply keepsO_ite | refine memWrite_wf _ _ _ ?_ | refine memWriteBytes_wf _ _ ?_
        | refine Memory.wf_filter _ ?_ | split | exact ⟨rfl, rfl⟩ | rfl | refine keeps_pair (by assumption) ?_
        | refine keeps_same ?_ rfl rfl rfl | refine keeps_out ?_ rfl rfl rfl | refine keeps_new ?_ rfl rfl rfl
        | refine keeps_mem ?_ rfl rfl rfl ?_)
      <;> try conv => arg 2; whnf)

theorem putSnapshot_keeps {b0 : State} (slot : Nat) (release : Nat) (out : Int) (states : List Nat) (s : State) (h : Keeps b0 s) :
    Keeps b0 (putSnapshot slot release out states s) := by
  unfold putSnapshot
  with_reducible
    try conv => arg 2; whnf
    iterate 40 all_goals try ((
      first
        | assumption | intro _ | apply putSec_keeps | apply keeps_foldl | refine memWrite_wf _ _ _ ?_
        | refine memWriteBytes_wf _ _ ?_ | refine Memory.wf_filter _ ?_ | refine keeps_same ?_ rfl rfl rfl
        | refine keeps_mem ?_ rfl rfl rfl ?_)
      <;> try conv => arg 2; whnf)

theorem execLpeSnap_keeps {b0 : State} (t : Nat) (slot : Nat) (nsec : Nat) (release : Nat) (out : Int) (states : List Nat) (s : State) (h : Keeps b0 s) :
    KeepsO b0 (execLpeSnap t slot nsec release out states s) := by
  unfold execLpeSnap
  with_reducible
    try conv => arg 2; whnf
    iterate 40 all_goals try ((
      first
        | assumption | intro _ | apply onStandby_keeps | apply putSnapshot_keeps | apply at_keeps | apply keepsO_next
        | apply keeps_foldl | apply keeps_ite | apply keeps_ite2 | apply keepsO_ite | refine memWrite_wf _ _ _ ?_
        | refine memWriteBytes_wf _ _ ?_ | refine Memory.wf_filter _ ?_ | split | exact ⟨rfl, rfl⟩ | rfl
        | refine keeps_pair (by assumption) ?_ | refine keeps_same ?_ rfl rfl rfl | refine keeps_out ?_ rfl rfl rfl
        | refine keeps_new ?_ rfl rfl rfl | refine keeps_mem ?_ rfl rfl rfl ?_)
      <;> try conv => arg 2; whnf)

theorem execPwmStateSend_keeps {b0 : State} (t : Nat) (s : State) (h : Keeps b0 s) :
    KeepsO b0 (execPwmStateSend t s) := by
  unfold execPwmStateSend
  with_reducible
    try conv => arg 2; whnf
    iterate 40 all_goals try ((
      first
        | assumption | apply mirrorSend_keeps | apply at_keeps | apply keepsO_next | apply keeps_ite
        | apply keepsO_ite)
      <;> try conv => arg 2; whnf)

theorem storePwm_keeps {b0 : State} (groups : List PwmGroupRec) (s : State) (h : Keeps b0 s) :
    Keeps b0 (storePwm groups s) := by
  unfold storePwm
  with_reducible
    try conv => arg 2; whnf
    iterate 40 all_goals try ((
      first
        | assumption | intro _ | refine keeps_same ?_ rfl rfl rfl)
      <;> try conv => arg 2; whnf)

theorem execPwmState_keeps {b0 : State} (t : Nat) (groups : List PwmGroupRec) (s : State) (h : Keeps b0 s) :
    KeepsO b0 (execPwmState t groups s) := by
  unfold execPwmState
  with_reducible
    try conv => arg 2; whnf
    iterate 40 all_goals try ((
      first
        | assumption | apply onStandby_keeps | apply storePwm_keeps | apply at_keeps | apply keepsO_next)
      <;> try conv => arg 2; whnf)

theorem storeLoad_keeps {b0 : State} (lswCmd : Nat) (pickupDone : Nat) (mxpOn : Nat) (mxpEco : Nat) (duty : List Nat) (s : State) (h : Keeps b0 s) :
    Keeps b0 (storeLoad lswCmd pickupDone mxpOn mxpEco duty s) := by
  unfold storeLoad
  with_reducible
    try conv => arg 2; whnf
    iterate 40 all_goals try ((
      first
        | assumption | intro _ | refine keeps_same ?_ rfl rfl rfl)
      <;> try conv => arg 2; whnf)

theorem execLoadState_keeps {b0 : State} (t : Nat) (lswCmd : Nat) (pickupDone : Nat) (mxpOn : Nat) (mxpEco : Nat) (duty : List Nat) (s : State) (h : Keeps b0 s) :
    KeepsO b0 (execLoadState t lswCmd pickupDone mxpOn mxpEco duty s) := by
  unfold execLoadState
  with_reducible
    try conv => arg 2; whnf
    iterate 40 all_goals try ((
      first
        | assumption | apply onStandby_keeps | apply storeLoad_keeps | apply at_keeps | apply keepsO_next)
      <;> try conv => arg 2; whnf)

theorem storeCable_keeps {b0 : State} (n : Nat) (temps : List Int) (iCap : Nat) (pend : List Nat) (s : State) (h : Keeps b0 s) :
    Keeps b0 (storeCable n temps iCap pend s) := by
  unfold storeCable
  with_reducible
    try conv => arg 2; whnf
    iterate 40 all_goals try ((
      first
        | assumption | intro _ | refine keeps_same ?_ rfl rfl rfl)
      <;> try conv => arg 2; whnf)

theorem execCblState_keeps {b0 : State} (t : Nat) (n : Nat) (temps : List Int) (iCap : Nat) (pend : List Nat) (s : State) (h : Keeps b0 s) :
    KeepsO b0 (execCblState t n temps iCap pend s) := by
  unfold execCblState
  with_reducible
    try conv => arg 2; whnf
    iterate 40 all_goals try ((
      first
        | assumption | apply onStandby_keeps | apply storeCable_keeps | apply at_keeps | apply keepsO_next)
      <;> try conv => arg 2; whnf)

theorem storePrepay_keeps {b0 : State} (n : Nat) (account : Int) (emerg : Int) (shortfall : Int) (flags : Nat) (s : State) (h : Keeps b0 s) :
    Keeps b0 (storePrepay n account emerg shortfall flags s) := by
  unfold storePrepay
  with_reducible
    try conv => arg 2; whnf
    iterate 40 all_goals try ((
      first
        | assumption | intro _ | refine keeps_same ?_ rfl rfl rfl)
      <;> try conv => arg 2; whnf)

theorem execPrepay_keeps {b0 : State} (t : Nat) (n : Nat) (account : Int) (emerg : Int) (shortfall : Int) (flags : Nat) (s : State) (h : Keeps b0 s) :
    KeepsO b0 (execPrepay t n account emerg shortfall flags s) := by
  unfold execPrepay
  with_reducible
    try conv => arg 2; whnf
    iterate 40 all_goals try ((
      first
        | assumption | apply onStandby_keeps | apply storePrepay_keeps | apply at_keeps | apply keepsO_next)
      <;> try conv => arg 2; whnf)

theorem execLeave_keeps {b0 : State} (t : Nat) (mode : Nat) (s : State) (h : Keeps b0 s) :
    KeepsO b0 (execLeave t mode s) := by
  unfold execLeave
  with_reducible
    try conv => arg 2; whnf
    iterate 40 all_goals try ((
      first
        | assumption | intro _ | apply fireEvent_keeps | apply notAllowed_keeps | apply onStandby_keeps
        | apply toM3_keeps | apply at_keeps | apply keepsO_next | apply keeps_ite | apply keepsO_ite
        | refine keeps_same ?_ rfl rfl rfl)
      <;> try conv => arg 2; whnf)

theorem storePart_keeps {b0 : State} (part : ResyncPart) (s : State) (h : Keeps b0 s) :
    Keeps b0 (storePart part s) := by
  unfold storePart
  with_reducible
    try conv => arg 2; whnf
    iterate 40 all_goals try ((
      first
        | assumption | intro _ | apply putEntries_keeps | apply putSnapshot_keeps | apply storeCable_keeps
        | apply storeCkpt_keeps | apply storeLoad_keeps | apply storePrepay_keeps | apply storePwm_keeps
        | apply keeps_ite | split | refine keeps_pair (by assumption) ?_ | refine keeps_same ?_ rfl rfl rfl)
      <;> try conv => arg 2; whnf)

theorem execResync_keeps {b0 : State} (t : Nat) (part : ResyncPart) (pct : Nat) (s : State) (h : Keeps b0 s) :
    KeepsO b0 (execResync t part pct s) := by
  unfold execResync
  with_reducible
    try conv => arg 2; whnf
    iterate 40 all_goals try ((
      first
        | assumption | intro _ | apply onStandby_keeps | apply storePart_keeps | apply at_keeps | apply keepsO_next
        | refine keeps_same ?_ rfl rfl rfl)
      <;> try conv => arg 2; whnf)

theorem execResyncDone_keeps {b0 : State} (t : Nat) (s : State) (h : Keeps b0 s) :
    KeepsO b0 (execResyncDone t s) := by
  unfold execResyncDone
  with_reducible
    try conv => arg 2; whnf
    iterate 40 all_goals try ((
      first
        | assumption | intro _ | apply finishAccepted_keeps | apply setDpxSt_keeps | apply at_keeps
        | apply keepsO_next | apply keeps_ite | apply keepsO_ite | split | refine keeps_pair (by assumption) ?_
        | refine keeps_same ?_ rfl rfl rfl)
      <;> try conv => arg 2; whnf)

theorem execSwapReq_keeps {b0 : State} (t : Nat) (claim : Nat) (s : State) (h : Keeps b0 s) :
    KeepsO b0 (execSwapReq t claim s) := by
  unfold execSwapReq
  with_reducible
    try conv => arg 2; whnf
    iterate 40 all_goals try ((
      first
        | assumption | intro _ | apply notAllowed_keeps | apply onStandby_keeps | apply setMode_keeps
        | apply startClaim_keeps | apply at_keeps | apply keepsO_next | apply keeps_ite | apply keepsO_ite
        | refine keeps_same ?_ rfl rfl rfl)
      <;> try conv => arg 2; whnf)

theorem execSwapConfirm_keeps {b0 : State} (t : Nat) (s : State) (h : Keeps b0 s) :
    KeepsO b0 (execSwapConfirm t s) := by
  unfold execSwapConfirm
  with_reducible
    try conv => arg 2; whnf
    iterate 40 all_goals try ((
      first
        | assumption | intro _ | apply finishAccepted_keeps | apply fireEvent_keeps | apply relinquish_keeps
        | apply at_keeps | apply keepsO_next | apply keeps_ite | apply keepsO_ite | split
        | refine keeps_pair (by assumption) ?_ | refine keeps_same ?_ rfl rfl rfl)
      <;> try conv => arg 2; whnf)

theorem execDpxSwapFail_keeps {b0 : State} (t : Nat) (s : State) (h : Keeps b0 s) :
    KeepsO b0 (execDpxSwapFail t s) := by
  unfold execDpxSwapFail
  with_reducible
    try conv => arg 2; whnf
    iterate 40 all_goals try ((
      first
        | assumption | intro _ | apply enterStandby_keeps | apply raiseError_keeps | apply at_keeps
        | apply keepsO_next | apply keeps_ite | apply keepsO_ite | refine keeps_same ?_ rfl rfl rfl)
      <;> try conv => arg 2; whnf)

theorem execSwapDue_keeps {b0 : State} (t : Nat) (s : State) (h : Keeps b0 s) :
    KeepsO b0 (execSwapDue t s) := by
  unfold execSwapDue
  with_reducible
    try conv => arg 2; whnf
    iterate 40 all_goals try ((
      first
        | assumption | apply fireEvent_keeps | apply at_keeps | apply keepsO_next | apply keeps_ite | apply keepsO_ite)
      <;> try conv => arg 2; whnf)

theorem execDpxStatus_keeps {b0 : State} (t : Nat) (line : Nat) (seq : Nat) (s : State) (h : Keeps b0 s) :
    KeepsO b0 (execDpxStatus t line seq s) := by
  unfold execDpxStatus
  with_reducible
    try conv => arg 2; whnf
    iterate 40 all_goals try ((
      first
        | assumption | intro _ | apply doneOut_keeps | apply runCmd_keeps | apply at_keeps | apply keepsO_next
        | apply keeps_foldl | apply keeps_ite | apply keeps_ite2 | apply keepsO_ite | refine memWrite_wf _ _ _ ?_
        | refine memWriteBytes_wf _ _ ?_ | refine Memory.wf_filter _ ?_ | split | exact ⟨rfl, rfl⟩ | rfl
        | refine keeps_pair (by assumption) ?_ | refine keeps_same ?_ rfl rfl rfl | refine keeps_out ?_ rfl rfl rfl
        | refine keeps_new ?_ rfl rfl rfl | refine keeps_mem ?_ rfl rfl rfl ?_)
      <;> try conv => arg 2; whnf)

theorem sendSwapReq_keeps {b0 : State} (s : State) (h : Keeps b0 s) :
    Keeps b0 (sendSwapReq s) := by
  unfold sendSwapReq
  with_reducible
    try conv => arg 2; whnf
    iterate 40 all_goals try ((
      first
        | assumption | apply mirrorSend_keeps)
      <;> try conv => arg 2; whnf)

theorem execDpxSwap_keeps {b0 : State} (t : Nat) (line : Nat) (seq : Nat) (s : State) (h : Keeps b0 s) :
    KeepsO b0 (execDpxSwap t line seq s) := by
  unfold execDpxSwap
  with_reducible
    try conv => arg 2; whnf
    iterate 40 all_goals try ((
      first
        | assumption | intro _ | apply accept_keeps | apply runCmd_keeps | apply sendSwapReq_keeps | apply at_keeps
        | apply keepsO_next | refine keeps_same ?_ rfl rfl rfl)
      <;> try conv => arg 2; whnf)

theorem execDpxResync_keeps {b0 : State} (t : Nat) (line : Nat) (seq : Nat) (s : State) (h : Keeps b0 s) :
    KeepsO b0 (execDpxResync t line seq s) := by
  unfold execDpxResync
  with_reducible
    try conv => arg 2; whnf
    iterate 40 all_goals try ((
      first
        | assumption | intro _ | apply accept_keeps | apply runCmd_keeps | apply sendResync_keeps | apply at_keeps
        | apply keepsO_next | refine keeps_same ?_ rfl rfl rfl)
      <;> try conv => arg 2; whnf)

/-! ### Lgl.lean -/

theorem recoverUpTo_keeps {b0 : State} (x0_ : Nat) (x1_ : Nat) (x2_ : Nat) (x3_ : State) (h : Keeps b0 x3_) :
    Keeps b0 (recoverUpTo x0_ x1_ x2_ x3_) := by
  induction x0_ generalizing x3_ x2_ x1_ with
  | zero => exact h
  | succ _ ih =>
    unfold recoverUpTo
    with_reducible
      try conv => arg 2; whnf
      iterate 40 all_goals try ((
        first
          | assumption | apply ih | apply doBoundary_keeps | apply keeps_ite)
        <;> try conv => arg 2; whnf)

theorem runReady_keeps {b0 : State} (s : State) (h : Keeps b0 s) :
    Keeps b0 (runReady s) := by
  unfold runReady
  with_reducible
    try conv => arg 2; whnf
    iterate 40 all_goals try ((
      first
        | assumption | apply leaveM6_keeps | apply requestGate_keeps | apply keeps_ite)
      <;> try conv => arg 2; whnf)

theorem settleLgl_keeps {b0 : State} (s : State) (h : Keeps b0 s) :
    Keeps b0 (settleLgl s) := by
  unfold settleLgl
  with_reducible
    try conv => arg 2; whnf
    iterate 40 all_goals try ((
      first
        | assumption | apply flushLgl_keeps | apply legalUpdate_keeps | apply runReady_keeps)
      <;> try conv => arg 2; whnf)

theorem restoreFrom_keeps {b0 : State} (a : Nat) (s : State) (h : Keeps b0 s) :
    Keeps b0 (restoreFrom a s) := by
  unfold restoreFrom
  with_reducible
    try conv => arg 2; whnf
    iterate 40 all_goals try ((
      first
        | assumption | intro _ | refine memWrite_wf _ _ _ ?_ | refine memWriteBytes_wf _ _ ?_
        | refine Memory.wf_filter _ ?_ | refine keeps_same ?_ rfl rfl rfl)
      <;> try conv => arg 2; whnf)

theorem requeueEvents_keeps {b0 : State} (k : Nat) (s : State) (h : Keeps b0 s) :
    Keeps b0 (requeueEvents k s) := by
  unfold requeueEvents
  with_reducible
    try conv => arg 2; whnf
    iterate 40 all_goals try ((
      first
        | assumption | intro _ | apply fireEvent_keeps | apply raiseError_keeps | apply setMac_keeps
        | apply keeps_foldl | apply keeps_ite | refine keeps_same ?_ rfl rfl rfl)
      <;> try conv => arg 2; whnf)

theorem restoreMtr_keeps {b0 : State} (s : State) (h : Keeps b0 s) :
    Keeps b0 (restoreMtr s) := by
  unfold restoreMtr
  with_reducible
    try conv => arg 2; whnf
    iterate 40 all_goals try ((
      first
        | assumption | intro _ | apply fireEvent_keeps | apply raiseError_keeps | apply requeueEvents_keeps
        | apply restoreFrom_keeps | apply wideEvent_keeps | apply keeps_ite | split
        | refine keeps_pair (by assumption) ?_ | refine keeps_same ?_ rfl rfl rfl)
      <;> try conv => arg 2; whnf)

theorem refuse_keeps {b0 : State} (arg : Nat) (s : State) (h : Keeps b0 s) :
    Keeps b0 (refuse arg s) := by
  unfold refuse
  with_reducible
    try conv => arg 2; whnf
    iterate 40 all_goals try ((
      first
        | assumption | intro _ | apply publish_keeps | refine keeps_same ?_ rfl rfl rfl)
      <;> try conv => arg 2; whnf)

theorem takeRequest_keeps {b0 : State} (f : LglReq → Option (State → State)) (s : State) (hf : ∀ r g, f r = some g → ∀ x, Keeps b0 x → Keeps b0 (g x)) (h : Keeps b0 s) :
    Keeps b0 (takeRequest f s) := by
  unfold takeRequest
  with_reducible
    try conv => arg 2; whnf
    iterate 40 all_goals try ((
      first
        | assumption | intro _ | apply settleLgl_keeps | refine hf _ _ (by assumption) _ ?_ | apply keeps_ite | split
        | refine keeps_pair (by assumption) ?_ | refine keeps_same ?_ rfl rfl rfl)
      <;> try conv => arg 2; whnf)

theorem execSessionOpen_keeps {b0 : State} (t : Nat) (s : State) (h : Keeps b0 s) :
    KeepsO b0 (execSessionOpen t s) := by
  unfold execSessionOpen
  refine keepsO_next (takeRequest_keeps _ _ (fun r g e x hx => ?_) (at_keeps _ _ h))
  try dsimp only at e
  split at e <;> cases e
  with_reducible
    all_goals try conv => arg 2; whnf
    iterate 40 all_goals try ((
      first
        | assumption | intro _ | apply openLegal_keeps | apply refuse_keeps | apply takeRequest_keeps | apply at_keeps
        | apply keepsO_next | apply keeps_ite | apply keepsO_ite | split | refine keeps_pair (by assumption) ?_
        | refine keeps_same ?_ rfl rfl rfl)
      <;> try conv => arg 2; whnf)

theorem execSessionClose_keeps {b0 : State} (t : Nat) (s : State) (h : Keeps b0 s) :
    KeepsO b0 (execSessionClose t s) := by
  unfold execSessionClose
  refine keepsO_next (takeRequest_keeps _ _ (fun r g e x hx => ?_) (at_keeps _ _ h))
  try dsimp only at e
  split at e <;> cases e
  with_reducible
    all_goals try conv => arg 2; whnf
    iterate 40 all_goals try ((
      first
        | assumption | intro _ | apply closeLegal_keeps | apply refuse_keeps | apply takeRequest_keeps
        | apply at_keeps | apply keepsO_next | apply keeps_ite | apply keepsO_ite | split
        | refine keeps_pair (by assumption) ?_ | refine keeps_same ?_ rfl rfl rfl)
      <;> try conv => arg 2; whnf)

theorem writeParams_keeps {b0 : State} (data : List Nat) (s : State) (h : Keeps b0 s) :
    Keeps b0 (writeParams data s) := by
  unfold writeParams
  with_reducible
    try conv => arg 2; whnf
    iterate 40 all_goals try ((
      first
        | assumption | intro _ | refine memWrite_wf _ _ _ ?_ | refine memWriteBytes_wf _ _ ?_
        | refine Memory.wf_filter _ ?_ | split | refine keeps_pair (by assumption) ?_
        | refine keeps_same ?_ rfl rfl rfl | refine keeps_mem ?_ rfl rfl rfl ?_)
      <;> try conv => arg 2; whnf)

theorem execParamLoad_keeps {b0 : State} (t : Nat) (s : State) (h : Keeps b0 s) :
    KeepsO b0 (execParamLoad t s) := by
  unfold execParamLoad
  refine keepsO_next (takeRequest_keeps _ _ (fun r g e x hx => ?_) (at_keeps _ _ h))
  try dsimp only at e
  split at e <;> cases e
  with_reducible
    all_goals try conv => arg 2; whnf
    iterate 40 all_goals try ((
      first
        | assumption | intro _ | apply finishAccepted_keeps | apply lglEvent_keeps | apply runBoundary_keeps
        | apply takeRequest_keeps | apply writeParams_keeps | apply at_keeps | apply keepsO_next | apply keeps_ite
        | apply keepsO_ite | split | refine keeps_pair (by assumption) ?_ | refine keeps_same ?_ rfl rfl rfl)
      <;> try conv => arg 2; whnf)

theorem execCalCommit_keeps {b0 : State} (t : Nat) (s : State) (h : Keeps b0 s) :
    KeepsO b0 (execCalCommit t s) := by
  unfold execCalCommit
  refine keepsO_next (takeRequest_keeps _ _ (fun r g e x hx => ?_) (at_keeps _ _ h))
  try dsimp only at e
  split at e <;> cases e
  with_reducible
    all_goals try conv => arg 2; whnf
    iterate 40 all_goals try ((
      first
        | assumption | intro _ | apply finishAccepted_keeps | apply refuse_keeps | apply takeRequest_keeps
        | apply at_keeps | apply keepsO_next | split | refine keeps_pair (by assumption) ?_
        | refine keeps_same ?_ rfl rfl rfl)
      <;> try conv => arg 2; whnf)

theorem execRoleRequest_keeps {b0 : State} (t : Nat) (s : State) (h : Keeps b0 s) :
    KeepsO b0 (execRoleRequest t s) := by
  unfold execRoleRequest
  refine keepsO_next (takeRequest_keeps _ _ (fun r g e x hx => ?_) (at_keeps _ _ h))
  try dsimp only at e
  split at e <;> cases e
  with_reducible
    all_goals try conv => arg 2; whnf
    iterate 40 all_goals try ((
      first
        | assumption | intro _ | apply lglEvent_keeps | apply takeRequest_keeps | apply at_keeps | apply keepsO_next
        | apply keeps_ite | apply keepsO_ite | split | refine keeps_pair (by assumption) ?_
        | refine keeps_same ?_ rfl rfl rfl)
      <;> try conv => arg 2; whnf)

theorem timeCheck_keeps {b0 : State} (s0 : State) (h : Keeps b0 s0) :
    Keeps b0 (timeCheck s0) := by
  unfold timeCheck
  with_reducible
    try conv => arg 2; whnf
    iterate 40 all_goals try ((
      first
        | assumption | intro _ | apply rebase_keeps | apply keeps_ite | refine keeps_same ?_ rfl rfl rfl)
      <;> try conv => arg 2; whnf)

theorem execTimeInfo_keeps {b0 : State} (t : Nat) (ofs : Int) (synced : Bool) (s : State) (h : Keeps b0 s) :
    KeepsO b0 (execTimeInfo t ofs synced s) := by
  unfold execTimeInfo
  with_reducible
    try conv => arg 2; whnf
    iterate 40 all_goals try ((
      first
        | assumption | intro _ | apply lglEvent_keeps | apply rebase_keeps | apply runBoundary_keeps
        | apply settleLgl_keeps | apply timeCheck_keeps | apply at_keeps | apply keepsO_next | apply keeps_ite
        | apply keepsO_ite | refine keeps_same ?_ rfl rfl rfl)
      <;> try conv => arg 2; whnf)

theorem execLegalTimeCheck_keeps {b0 : State} (t : Nat) (s : State) (h : Keeps b0 s) :
    KeepsO b0 (execLegalTimeCheck t s) := by
  unfold execLegalTimeCheck
  with_reducible
    try conv => arg 2; whnf
    iterate 40 all_goals try ((
      first
        | assumption | apply timeCheck_keeps | apply at_keeps | apply keepsO_next | apply keeps_ite | apply keepsO_ite)
      <;> try conv => arg 2; whnf)

theorem execLegalBoundary_keeps {b0 : State} (t : Nat) (s : State) (h : Keeps b0 s) :
    KeepsO b0 (execLegalBoundary t s) := by
  unfold execLegalBoundary
  with_reducible
    try conv => arg 2; whnf
    iterate 40 all_goals try ((
      first
        | assumption | apply runBoundary_keeps | apply settleLgl_keeps | apply at_keeps | apply keepsO_next
        | apply keeps_ite | apply keepsO_ite)
      <;> try conv => arg 2; whnf)

theorem legalFound_keeps {b0 : State} (s : State) (h : Keeps b0 s) :
    Keeps b0 (legalFound s) := by
  unfold legalFound
  with_reducible
    try conv => arg 2; whnf
    iterate 40 all_goals try ((
      first
        | assumption | intro _ | apply clearCause_keeps | apply errCleared_keeps | apply keeps_ite
        | refine keeps_same ?_ rfl rfl rfl)
      <;> try conv => arg 2; whnf)

theorem execLegalHeartbeat_keeps {b0 : State} (t : Nat) (s : State) (h : Keeps b0 s) :
    KeepsO b0 (execLegalHeartbeat t s) := by
  unfold execLegalHeartbeat
  with_reducible
    try conv => arg 2; whnf
    iterate 40 all_goals try ((
      first
        | assumption | intro _ | apply legalFound_keeps | apply settleLgl_keeps | apply at_keeps | apply keepsO_next
        | apply keeps_ite | apply keepsO_ite | refine keeps_same ?_ rfl rfl rfl)
      <;> try conv => arg 2; whnf)

theorem execLegalHeartbeatStall_keeps {b0 : State} (t : Nat) (s : State) (h : Keeps b0 s) :
    KeepsO b0 (execLegalHeartbeatStall t s) := by
  unfold execLegalHeartbeatStall
  with_reducible
    try conv => arg 2; whnf
    iterate 40 all_goals try ((
      first
        | assumption | intro _ | apply settleLgl_keeps | apply at_keeps | apply keepsO_next | apply keeps_ite
        | apply keepsO_ite | refine keeps_same ?_ rfl rfl rfl)
      <;> try conv => arg 2; whnf)

theorem execLglLost_keeps {b0 : State} (t : Nat) (s : State) (h : Keeps b0 s) :
    KeepsO b0 (execLglLost t s) := by
  unfold execLglLost
  with_reducible
    try conv => arg 2; whnf
    iterate 40 all_goals try ((
      first
        | assumption | intro _ | apply flushLgl_keeps | apply loseLegal_keeps | apply at_keeps | apply keepsO_next
        | apply keeps_ite | apply keepsO_ite | refine keeps_same ?_ rfl rfl rfl)
      <;> try conv => arg 2; whnf)

theorem execLegalRestartDone_keeps {b0 : State} (t : Nat) (s : State) (h : Keeps b0 s) :
    KeepsO b0 (execLegalRestartDone t s) := by
  unfold execLegalRestartDone
  with_reducible
    try conv => arg 2; whnf
    iterate 40 all_goals try ((
      first
        | assumption | intro _ | apply lglEvent_keeps | apply publish_keeps | apply runBoundary_keeps
        | apply settleLgl_keeps | apply at_keeps | apply keepsO_next | apply keeps_ite | apply keepsO_ite
        | refine keeps_same ?_ rfl rfl rfl)
      <;> try conv => arg 2; whnf)

theorem chooseCopy_keeps {b0 : State} (s : State) (h : Keeps b0 s) :
    Keeps b0 (chooseCopy s) := by
  unfold chooseCopy
  with_reducible
    try conv => arg 2; whnf
    iterate 40 all_goals try ((
      first
        | assumption | intro _ | apply keeps_foldl | apply keeps_ite | refine memWrite_wf _ _ _ ?_
        | refine memWriteBytes_wf _ _ ?_ | refine Memory.wf_filter _ ?_ | split | refine keeps_pair (by assumption) ?_
        | refine keeps_same ?_ rfl rfl rfl)
      <;> try conv => arg 2; whnf)

theorem takeTail_keeps {b0 : State} (found : Option (Nat × Nat)) (s : State) (h : Keeps b0 s) :
    Keeps b0 (takeTail found s) := by
  unfold takeTail
  with_reducible
    try conv => arg 2; whnf
    iterate 40 all_goals try ((
      first
        | assumption | intro _ | apply keeps_ite | refine memWrite_wf _ _ _ ?_ | refine memWriteBytes_wf _ _ ?_
        | refine Memory.wf_filter _ ?_ | split | refine keeps_pair (by assumption) ?_
        | refine keeps_same ?_ rfl rfl rfl)
      <;> try conv => arg 2; whnf)

theorem tailScan_keeps {b0 : State} (s : State) (h : Keeps b0 s) :
    Keeps b0 (tailScan s) := by
  unfold tailScan
  exact takeTail_keeps _ _ h

theorem startClock_keeps {b0 : State} (s : State) (h : Keeps b0 s) :
    Keeps b0 (startClock s) := by
  unfold startClock
  with_reducible
    try conv => arg 2; whnf
    iterate 40 all_goals try ((
      first
        | assumption | intro _ | apply keeps_ite | refine memWrite_wf _ _ _ ?_ | refine memWriteBytes_wf _ _ ?_
        | refine Memory.wf_filter _ ?_ | split | refine keeps_pair (by assumption) ?_
        | refine keeps_same ?_ rfl rfl rfl)
      <;> try conv => arg 2; whnf)

theorem restartRecord_keeps {b0 : State} (save : Nat) (fallback : Bool) (recovered : Bool) (s : State) (h : Keeps b0 s) :
    Keeps b0 (restartRecord save fallback recovered s) := by
  unfold restartRecord
  with_reducible
    try conv => arg 2; whnf
    iterate 40 all_goals try ((
      first
        | assumption | intro _ | apply lglEvent_keeps | apply ringAppend_keeps | refine memWrite_wf _ _ _ ?_
        | refine memWriteBytes_wf _ _ ?_ | refine Memory.wf_filter _ ?_)
      <;> try conv => arg 2; whnf)

theorem recoverBoundaries_keeps {b0 : State} (save : Nat) (s : State) (h : Keeps b0 s) :
    Keeps b0 (recoverBoundaries save s) := by
  unfold recoverBoundaries
  with_reducible
    try conv => arg 2; whnf
    iterate 40 all_goals try ((
      first
        | assumption | intro _ | apply recoverUpTo_keeps | apply keeps_ite | refine memWrite_wf _ _ _ ?_
        | refine memWriteBytes_wf _ _ ?_ | refine Memory.wf_filter _ ?_ | split | refine keeps_pair (by assumption) ?_
        | refine keeps_same ?_ rfl rfl rfl)
      <;> try conv => arg 2; whnf)

theorem reconstruct_keeps {b0 : State} (save : Nat) (s : State) (h : Keeps b0 s) :
    Keeps b0 (reconstruct save s) := by
  unfold reconstruct
  with_reducible
    try conv => arg 2; whnf
    iterate 40 all_goals try ((
      first
        | assumption | intro _ | apply closeInterval_keeps | apply openInterval_keeps | apply recoverBoundaries_keeps
        | apply keeps_ite | refine keeps_same ?_ rfl rfl rfl)
      <;> try conv => arg 2; whnf)

theorem closeOld_keeps {b0 : State} (code : Nat) (save : Nat) (fallback : Bool) (s : State) (h : Keeps b0 s) :
    Keeps b0 (closeOld code save fallback s) := by
  unfold closeOld
  with_reducible
    try conv => arg 2; whnf
    iterate 40 all_goals try ((
      first
        | assumption | intro _ | apply closeLegal_keeps | apply keeps_foldl | apply keeps_ite)
      <;> try conv => arg 2; whnf)

theorem startRecords_keeps {b0 : State} (s : State) (h : Keeps b0 s) :
    Keeps b0 (startRecords s) := by
  unfold startRecords
  with_reducible
    try conv => arg 2; whnf
    iterate 40 all_goals try ((
      first
        | assumption | intro _ | apply closeOld_keeps | apply lglEvent_keeps | apply openInterval_keeps
        | apply publish_keeps | apply reconstruct_keeps | apply recoverBoundaries_keeps | apply restartRecord_keeps
        | apply keeps_ite | split | refine keeps_pair (by assumption) ?_ | refine keeps_same ?_ rfl rfl rfl)
      <;> try conv => arg 2; whnf)

theorem execLegalStartupDone_keeps {b0 : State} (t : Nat) (s : State) (h : Keeps b0 s) :
    KeepsO b0 (execLegalStartupDone t s) := by
  unfold execLegalStartupDone
  with_reducible
    try conv => arg 2; whnf
    iterate 40 all_goals try ((
      first
        | assumption | intro _ | apply chooseCopy_keeps | apply settleLgl_keeps | apply startClock_keeps
        | apply startRecords_keeps | apply tailScan_keeps | apply at_keeps | apply keepsO_next | apply keeps_ite
        | apply keepsO_ite | refine keeps_same ?_ rfl rfl rfl)
      <;> try conv => arg 2; whnf)

theorem execSealChange_keeps {b0 : State} (t : Nat) (isOpen : Bool) (s : State) (h : Keeps b0 s) :
    KeepsO b0 (execSealChange t isOpen s) := by
  unfold execSealChange
  with_reducible
    try conv => arg 2; whnf
    iterate 40 all_goals try ((
      first
        | assumption | intro _ | apply lglEvent_keeps | apply publish_keeps | apply settleLgl_keeps | apply toM3_keeps
        | apply at_keeps | apply keepsO_next | apply keeps_ite | apply keepsO_ite | refine keeps_same ?_ rfl rfl rfl)
      <;> try conv => arg 2; whnf)

theorem logRetried_keeps {b0 : State} (s : State) (h : Keeps b0 s) :
    Keeps b0 (logRetried s) := by
  unfold logRetried
  with_reducible
    try conv => arg 2; whnf
    iterate 40 all_goals try ((
      first
        | assumption | apply errCleared_keeps | apply writeKept_keeps | apply keeps_ite)
      <;> try conv => arg 2; whnf)

theorem execLogRetry_keeps {b0 : State} (t : Nat) (ok : Bool) (s : State) (h : Keeps b0 s) :
    KeepsO b0 (execLogRetry t ok s) := by
  unfold execLogRetry
  with_reducible
    try conv => arg 2; whnf
    iterate 40 all_goals try ((
      first
        | assumption | apply logRetried_keeps | apply settleLgl_keeps | apply xsp1Err_keeps | apply at_keeps
        | apply keepsO_next | apply keeps_ite | apply keepsO_ite)
      <;> try conv => arg 2; whnf)

theorem execPeriodicSave_keeps {b0 : State} (t : Nat) (ok : Bool) (s : State) (h : Keeps b0 s) :
    KeepsO b0 (execPeriodicSave t ok s) := by
  unfold execPeriodicSave
  with_reducible
    try conv => arg 2; whnf
    iterate 40 all_goals try ((
      first
        | assumption | apply logFails_keeps | apply logRetried_keeps | apply periodicSave_keeps
        | apply settleLgl_keeps | apply xsp1Err_keeps | apply at_keeps | apply keepsO_next | apply keeps_ite
        | apply keepsO_ite)
      <;> try conv => arg 2; whnf)

theorem execLegalDisplayFrame_keeps {b0 : State} (t : Nat) (s : State) (h : Keeps b0 s) :
    KeepsO b0 (execLegalDisplayFrame t s) := by
  unfold execLegalDisplayFrame
  with_reducible
    try conv => arg 2; whnf
    iterate 40 all_goals try ((
      first
        | assumption | apply emit_keeps | apply at_keeps | apply keepsO_next | apply keeps_ite | apply keepsO_ite)
      <;> try conv => arg 2; whnf)

theorem execDisplayScreenAdvance_keeps {b0 : State} (t : Nat) (s : State) (h : Keeps b0 s) :
    KeepsO b0 (execDisplayScreenAdvance t s) := by
  unfold execDisplayScreenAdvance
  with_reducible
    try conv => arg 2; whnf
    iterate 40 all_goals try ((
      first
        | assumption | intro _ | apply at_keeps | apply keepsO_next | apply keeps_ite | apply keepsO_ite
        | refine keeps_same ?_ rfl rfl rfl)
      <;> try conv => arg 2; whnf)

theorem execOpticalSignOn_keeps {b0 : State} (t : Nat) (addr : List Nat) (s : State) (h : Keeps b0 s) :
    KeepsO b0 (execOpticalSignOn t addr s) := by
  unfold execOpticalSignOn
  with_reducible
    try conv => arg 2; whnf
    iterate 40 all_goals try ((
      first
        | assumption | intro _ | apply emit_keeps | apply at_keeps | apply keepsO_next | apply keeps_ite
        | apply keepsO_ite | refine keeps_same ?_ rfl rfl rfl)
      <;> try conv => arg 2; whnf)

theorem execOpticalAck_keeps {b0 : State} (t : Nat) (option : Nat) (rate : Nat) (s : State) (h : Keeps b0 s) :
    KeepsO b0 (execOpticalAck t option rate s) := by
  unfold execOpticalAck
  with_reducible
    try conv => arg 2; whnf
    iterate 40 all_goals try ((
      first
        | assumption | intro _ | apply emit_keeps | apply at_keeps | apply keepsO_next | apply keeps_ite
        | apply keepsO_ite | refine keeps_same ?_ rfl rfl rfl)
      <;> try conv => arg 2; whnf)

theorem execOpticalTimeout_keeps {b0 : State} (t : Nat) (s : State) (h : Keeps b0 s) :
    KeepsO b0 (execOpticalTimeout t s) := by
  unfold execOpticalTimeout
  with_reducible
    try conv => arg 2; whnf
    iterate 40 all_goals try ((
      first
        | assumption | intro _ | apply at_keeps | apply keepsO_next | refine keeps_same ?_ rfl rfl rfl)
      <;> try conv => arg 2; whnf)

theorem execLglStatus_keeps {b0 : State} (t : Nat) (line : Nat) (seq : Nat) (s : State) (h : Keeps b0 s) :
    KeepsO b0 (execLglStatus t line seq s) := by
  unfold execLglStatus
  with_reducible
    try conv => arg 2; whnf
    iterate 40 all_goals try ((
      first
        | assumption | intro _ | apply doneOut_keeps | apply runCmd_keeps | apply at_keeps | apply keepsO_next
        | apply keeps_foldl | apply keeps_ite | apply keeps_ite2 | apply keepsO_ite | refine memWrite_wf _ _ _ ?_
        | refine memWriteBytes_wf _ _ ?_ | refine Memory.wf_filter _ ?_ | split | exact ⟨rfl, rfl⟩ | rfl
        | refine keeps_pair (by assumption) ?_ | refine keeps_same ?_ rfl rfl rfl | refine keeps_out ?_ rfl rfl rfl
        | refine keeps_new ?_ rfl rfl rfl | refine keeps_mem ?_ rfl rfl rfl ?_)
      <;> try conv => arg 2; whnf)

theorem execLglLogRead_keeps {b0 : State} (t : Nat) (line : Nat) (seq : Nat) (s : State) (h : Keeps b0 s) :
    KeepsO b0 (execLglLogRead t line seq s) := by
  unfold execLglLogRead
  with_reducible
    try conv => arg 2; whnf
    iterate 40 all_goals try ((
      first
        | assumption | intro _ | apply doneOut_keeps | apply runCmd_keeps | apply at_keeps | apply keepsO_next
        | apply keeps_ite | apply keepsO_ite | refine memWrite_wf _ _ _ ?_ | refine memWriteBytes_wf _ _ ?_
        | refine Memory.wf_filter _ ?_)
      <;> try conv => arg 2; whnf)

theorem execLglParamLoad_keeps {b0 : State} (t : Nat) (line : Nat) (seq : Nat) (sigOk : Bool) (s : State) (h : Keeps b0 s) :
    KeepsO b0 (execLglParamLoad t line seq sigOk s) := by
  unfold execLglParamLoad
  with_reducible
    try conv => arg 2; whnf
    iterate 40 all_goals try ((
      first
        | assumption | intro _ | apply accept_keeps | apply finish_keeps | apply lglRequest_keeps
        | apply rejectAuth_keeps | apply rejectFormat_keeps | apply rejectRange_keeps | apply runCmd_keeps
        | apply at_keeps | apply keepsO_next | apply keeps_foldl | apply keeps_ite | apply keeps_ite2
        | apply keepsO_ite | refine memWrite_wf _ _ _ ?_ | refine memWriteBytes_wf _ _ ?_
        | refine Memory.wf_filter _ ?_ | split | exact ⟨rfl, rfl⟩ | rfl | refine keeps_pair (by assumption) ?_
        | refine keeps_same ?_ rfl rfl rfl | refine keeps_out ?_ rfl rfl rfl | refine keeps_new ?_ rfl rfl rfl
        | refine keeps_mem ?_ rfl rfl rfl ?_)
      <;> try conv => arg 2; whnf)

theorem creditSet_keeps {b0 : State} (c : Cmd) (s : State) (h : Keeps b0 s) :
    Keeps b0 (creditSet c s) := by
  unfold creditSet
  with_reducible
    try conv => arg 2; whnf
    iterate 40 all_goals try ((
      first
        | assumption | intro _ | apply keeps_ite | refine keeps_same ?_ rfl rfl rfl)
      <;> try conv => arg 2; whnf)

theorem execLglCreditSet_keeps {b0 : State} (t : Nat) (line : Nat) (seq : Nat) (s : State) (h : Keeps b0 s) :
    KeepsO b0 (execLglCreditSet t line seq s) := by
  unfold execLglCreditSet
  with_reducible
    try conv => arg 2; whnf
    iterate 40 all_goals try ((
      first
        | assumption | intro _ | apply creditSet_keeps | apply done_keeps | apply rejectRange_keeps
        | apply runCmd_keeps | apply at_keeps | apply keepsO_next | apply keeps_foldl | apply keeps_ite
        | apply keeps_ite2 | apply keepsO_ite | refine memWrite_wf _ _ _ ?_ | refine memWriteBytes_wf _ _ ?_
        | refine Memory.wf_filter _ ?_ | split | exact ⟨rfl, rfl⟩ | rfl | refine keeps_pair (by assumption) ?_
        | refine keeps_same ?_ rfl rfl rfl | refine keeps_out ?_ rfl rfl rfl | refine keeps_new ?_ rfl rfl rfl
        | refine keeps_mem ?_ rfl rfl rfl ?_)
      <;> try conv => arg 2; whnf)

theorem execLglWindowSet_keeps {b0 : State} (t : Nat) (line : Nat) (seq : Nat) (s : State) (h : Keeps b0 s) :
    KeepsO b0 (execLglWindowSet t line seq s) := by
  unfold execLglWindowSet
  with_reducible
    try conv => arg 2; whnf
    iterate 40 all_goals try ((
      first
        | assumption | intro _ | apply done_keeps | apply rejectRange_keeps | apply runCmd_keeps | apply at_keeps
        | apply keepsO_next | apply keeps_ite | apply keepsO_ite | split | refine keeps_pair (by assumption) ?_
        | refine keeps_same ?_ rfl rfl rfl)
      <;> try conv => arg 2; whnf)

/-! ### Own.lean -/

theorem useNonce_keeps {b0 : State} (value : Nat) (s : State) (h : Keeps b0 s) :
    Keeps b0 (useNonce value s) := by
  unfold useNonce
  with_reducible
    try conv => arg 2; whnf
    iterate 40 all_goals try ((
      first
        | assumption | intro _ | refine keeps_same ?_ rfl rfl rfl)
      <;> try conv => arg 2; whnf)

theorem execOwnChallenge_keeps {b0 : State} (t : Nat) (line : Nat) (seq : Nat) (s : State) (h : Keeps b0 s) :
    KeepsO b0 (execOwnChallenge t line seq s) := by
  unfold execOwnChallenge
  with_reducible
    try conv => arg 2; whnf
    iterate 40 all_goals try ((
      first
        | assumption | intro _ | apply done_keeps | apply drawTrng_keeps | apply runCmd_keeps | apply at_keeps
        | apply keepsO_next | split | refine keeps_pair (by assumption) ?_ | refine keeps_same ?_ rfl rfl rfl)
      <;> try conv => arg 2; whnf)

theorem recordClaim_keeps {b0 : State} (port : Nat) (special : Bool) (s : State) (h : Keeps b0 s) :
    Keeps b0 (recordClaim port special s) := by
  unfold recordClaim
  with_reducible
    try conv => arg 2; whnf
    iterate 40 all_goals try ((
      first
        | assumption | apply fireEvent_keeps | apply openElection_keeps | apply setClaim_keeps | apply keeps_ite)
      <;> try conv => arg 2; whnf)

theorem claimBadAuth_keeps {b0 : State} (c : Cmd) (ofs : Nat) (s : State) (h : Keeps b0 s) :
    Keeps b0 (claimBadAuth c ofs s) := by
  unfold claimBadAuth
  with_reducible
    try conv => arg 2; whnf
    iterate 40 all_goals try ((
      first
        | assumption | apply fireEvent_keeps | apply rejectAuth_keeps)
      <;> try conv => arg 2; whnf)

theorem execOwnClaim_keeps {b0 : State} (t : Nat) (line : Nat) (seq : Nat) (sigOk : Bool) (s : State) (h : Keeps b0 s) :
    KeepsO b0 (execOwnClaim t line seq sigOk s) := by
  unfold execOwnClaim
  with_reducible
    try conv => arg 2; whnf
    iterate 40 all_goals try ((
      first
        | assumption | intro _ | apply claimBadAuth_keeps | apply done_keeps | apply recordClaim_keeps
        | apply runCmd_keeps | apply useNonce_keeps | apply at_keeps | apply keepsO_next | apply keeps_foldl
        | apply keeps_ite | apply keeps_ite2 | apply keepsO_ite | refine memWrite_wf _ _ _ ?_
        | refine memWriteBytes_wf _ _ ?_ | refine Memory.wf_filter _ ?_ | split | exact ⟨rfl, rfl⟩ | rfl
        | refine keeps_pair (by assumption) ?_ | refine keeps_same ?_ rfl rfl rfl | refine keeps_out ?_ rfl rfl rfl
        | refine keeps_new ?_ rfl rfl rfl | refine keeps_mem ?_ rfl rfl rfl ?_)
      <;> try conv => arg 2; whnf)

theorem heartbeat_keeps {b0 : State} (port : Nat) (s : State) (h : Keeps b0 s) :
    Keeps b0 (heartbeat port s) := by
  unfold heartbeat
  with_reducible
    try conv => arg 2; whnf
    iterate 40 all_goals try ((
      first
        | assumption | intro _ | apply setClaim_keeps | apply keeps_ite | refine keeps_same ?_ rfl rfl rfl)
      <;> try conv => arg 2; whnf)

theorem execOwnHeartbeat_keeps {b0 : State} (t : Nat) (line : Nat) (seq : Nat) (s : State) (h : Keeps b0 s) :
    KeepsO b0 (execOwnHeartbeat t line seq s) := by
  unfold execOwnHeartbeat
  with_reducible
    try conv => arg 2; whnf
    iterate 40 all_goals try ((
      first
        | assumption | intro _ | apply done_keeps | apply heartbeat_keeps | apply runCmd_keeps | apply at_keeps
        | apply keepsO_next | apply keeps_foldl | apply keeps_ite | apply keeps_ite2 | apply keepsO_ite
        | refine memWrite_wf _ _ _ ?_ | refine memWriteBytes_wf _ _ ?_ | refine Memory.wf_filter _ ?_ | split
        | exact ⟨rfl, rfl⟩ | rfl | refine keeps_pair (by assumption) ?_ | refine keeps_same ?_ rfl rfl rfl
        | refine keeps_out ?_ rfl rfl rfl | refine keeps_new ?_ rfl rfl rfl | refine keeps_mem ?_ rfl rfl rfl ?_)
      <;> try conv => arg 2; whnf)

theorem execOwnHbWrite_keeps {b0 : State} (t : Nat) (s : State) (h : Keeps b0 s) :
    KeepsO b0 (execOwnHbWrite t s) := by
  unfold execOwnHbWrite
  with_reducible
    try conv => arg 2; whnf
    iterate 40 all_goals try ((
      first
        | assumption | apply heartbeat_keeps | apply at_keeps | apply keepsO_next)
      <;> try conv => arg 2; whnf)

theorem execOwnHandover_keeps {b0 : State} (t : Nat) (line : Nat) (seq : Nat) (s : State) (h : Keeps b0 s) :
    KeepsO b0 (execOwnHandover t line seq s) := by
  unfold execOwnHandover
  with_reducible
    try conv => arg 2; whnf
    iterate 40 all_goals try ((
      first
        | assumption | intro _ | apply bumpEpoch_keeps | apply done_keeps | apply runCmd_keeps | apply at_keeps
        | apply keepsO_next | apply keeps_ite | apply keepsO_ite | refine keeps_same ?_ rfl rfl rfl)
      <;> try conv => arg 2; whnf)

theorem execOwnRelease_keeps {b0 : State} (t : Nat) (line : Nat) (seq : Nat) (s : State) (h : Keeps b0 s) :
    KeepsO b0 (execOwnRelease t line seq s) := by
  unfold execOwnRelease
  with_reducible
    try conv => arg 2; whnf
    iterate 40 all_goals try ((
      first
        | assumption | intro _ | apply done_keeps | apply runCmd_keeps | apply setClaim_keeps
        | apply vacateOwner_keeps | apply at_keeps | apply keepsO_next | apply keeps_foldl | apply keeps_ite
        | apply keeps_ite2 | apply keepsO_ite | refine memWrite_wf _ _ _ ?_ | refine memWriteBytes_wf _ _ ?_
        | refine Memory.wf_filter _ ?_ | split | exact ⟨rfl, rfl⟩ | rfl | refine keeps_pair (by assumption) ?_
        | refine keeps_same ?_ rfl rfl rfl | refine keeps_out ?_ rfl rfl rfl | refine keeps_new ?_ rfl rfl rfl
        | refine keeps_mem ?_ rfl rfl rfl ?_)
      <;> try conv => arg 2; whnf)

theorem execOwnStatus_keeps {b0 : State} (t : Nat) (line : Nat) (seq : Nat) (s : State) (h : Keeps b0 s) :
    KeepsO b0 (execOwnStatus t line seq s) := by
  unfold execOwnStatus
  with_reducible
    try conv => arg 2; whnf
    iterate 40 all_goals try ((
      first
        | assumption | intro _ | apply done_keeps | apply runCmd_keeps | apply at_keeps | apply keepsO_next
        | apply keeps_foldl | apply keeps_ite | apply keeps_ite2 | apply keepsO_ite | refine memWrite_wf _ _ _ ?_
        | refine memWriteBytes_wf _ _ ?_ | refine Memory.wf_filter _ ?_ | split | exact ⟨rfl, rfl⟩ | rfl
        | refine keeps_pair (by assumption) ?_ | refine keeps_same ?_ rfl rfl rfl | refine keeps_out ?_ rfl rfl rfl
        | refine keeps_new ?_ rfl rfl rfl | refine keeps_mem ?_ rfl rfl rfl ?_)
      <;> try conv => arg 2; whnf)

theorem execElectionWindowClose_keeps {b0 : State} (t : Nat) (s : State) (h : Keeps b0 s) :
    KeepsO b0 (execElectionWindowClose t s) := by
  unfold execElectionWindowClose
  with_reducible
    try conv => arg 2; whnf
    iterate 40 all_goals try ((
      first
        | assumption | intro _ | apply bumpEpoch_keeps | apply at_keeps | apply keepsO_next | apply keeps_ite
        | apply keepsO_ite | split | refine keeps_pair (by assumption) ?_ | refine keeps_same ?_ rfl rfl rfl)
      <;> try conv => arg 2; whnf)

theorem execOwnHbLate_keeps {b0 : State} (t : Nat) (s : State) (h : Keeps b0 s) :
    KeepsO b0 (execOwnHbLate t s) := by
  unfold execOwnHbLate
  with_reducible
    try conv => arg 2; whnf
    iterate 40 all_goals try ((
      first
        | assumption | intro _ | apply fireEvent_keeps | apply setClaim_keeps | apply at_keeps | apply keepsO_next
        | apply keeps_ite | apply keepsO_ite | refine keeps_same ?_ rfl rfl rfl)
      <;> try conv => arg 2; whnf)

theorem execOwnHbLapse_keeps {b0 : State} (t : Nat) (s : State) (h : Keeps b0 s) :
    KeepsO b0 (execOwnHbLapse t s) := by
  unfold execOwnHbLapse
  with_reducible
    try conv => arg 2; whnf
    iterate 40 all_goals try ((
      first
        | assumption | intro _ | apply lapseOwner_keeps | apply at_keeps | apply keepsO_next | apply keeps_ite
        | apply keepsO_ite | refine keeps_same ?_ rfl rfl rfl)
      <;> try conv => arg 2; whnf)

theorem execClaimLapse_keeps {b0 : State} (t : Nat) (port : Nat) (s : State) (h : Keeps b0 s) :
    KeepsO b0 (execClaimLapse t port s) := by
  unfold execClaimLapse
  with_reducible
    try conv => arg 2; whnf
    iterate 40 all_goals try ((
      first
        | assumption | apply setClaim_keeps | apply at_keeps | apply keepsO_next | apply keeps_ite | apply keepsO_ite)
      <;> try conv => arg 2; whnf)

theorem execEthLinkChange_keeps {b0 : State} (t : Nat) (mac : Nat) (up : Bool) (s : State) (h : Keeps b0 s) :
    KeepsO b0 (execEthLinkChange t mac up s) := by
  unfold execEthLinkChange
  with_reducible
    try conv => arg 2; whnf
    iterate 40 all_goals try ((
      first
        | assumption | intro _ | apply fireEvent_keeps | apply at_keeps | apply keepsO_next
        | refine keeps_same ?_ rfl rfl rfl)
      <;> try conv => arg 2; whnf)

theorem execEthFrameRx_keeps {b0 : State} (t : Nat) (mac : Nat) (fcsOk : Bool) (bufferFree : Bool) (s : State) (h : Keeps b0 s) :
    KeepsO b0 (execEthFrameRx t mac fcsOk bufferFree s) := by
  unfold execEthFrameRx
  with_reducible
    try conv => arg 2; whnf
    iterate 40 all_goals try ((
      first
        | assumption | intro _ | apply fireEvent_keeps | apply at_keeps | apply keepsO_next | apply keeps_ite
        | apply keepsO_ite | refine memWrite_wf _ _ _ ?_ | refine memWriteBytes_wf _ _ ?_
        | refine Memory.wf_filter _ ?_ | refine keeps_same ?_ rfl rfl rfl)
      <;> try conv => arg 2; whnf)

theorem execT1sLinkChange_keeps {b0 : State} (t : Nat) (port : Nat) (up : Bool) (s : State) (h : Keeps b0 s) :
    KeepsO b0 (execT1sLinkChange t port up s) := by
  unfold execT1sLinkChange
  with_reducible
    try conv => arg 2; whnf
    iterate 40 all_goals try ((
      first
        | assumption | intro _ | apply fireEvent_keeps | apply at_keeps | apply keepsO_next
        | refine keeps_same ?_ rfl rfl rfl)
      <;> try conv => arg 2; whnf)

/-! ### Key.lean -/

theorem commitImage_keeps {b0 : State} (s : State) (h : Keeps b0 s) :
    Keeps b0 (commitImage s) := by
  unfold commitImage
  with_reducible
    try conv => arg 2; whnf
    iterate 40 all_goals try ((
      first
        | assumption | intro _ | apply fireEvent_keeps | refine keeps_same ?_ rfl rfl rfl)
      <;> try conv => arg 2; whnf)

theorem setKeySlot_keeps {b0 : State} (n : Nat) (f : KeySlot → KeySlot) (s : State) (h : Keeps b0 s) :
    Keeps b0 (setKeySlot n f s) := by
  unfold setKeySlot
  with_reducible
    try conv => arg 2; whnf
    iterate 40 all_goals try ((
      first
        | assumption | intro _ | refine keeps_same ?_ rfl rfl rfl)
      <;> try conv => arg 2; whnf)

theorem keyWriteDone_keeps {b0 : State} (line : Nat) (seq : Nat) (s : State) (h : Keeps b0 s) :
    Keeps b0 (keyWriteDone line seq s) := by
  unfold keyWriteDone
  with_reducible
    try conv => arg 2; whnf
    iterate 40 all_goals try ((
      first
        | assumption | intro _ | apply commitImage_keeps | apply done_keeps | apply legalUpdate_keeps
        | apply setKeySlot_keeps | split | refine keeps_pair (by assumption) ?_ | refine keeps_same ?_ rfl rfl rfl)
      <;> try conv => arg 2; whnf)

theorem maskSlot_keeps {b0 : State} (typ : Nat) (users : Nat) (k : Nat) (pub : List Nat) (s : State) (h : Keeps b0 s) :
    Keeps b0 (maskSlot typ users k pub s).2 := by
  unfold maskSlot
  with_reducible
    try conv => arg 2; whnf
    iterate 40 all_goals try ((
      first
        | assumption | intro _ | apply drawTrng_keeps | split | refine keeps_pair (by assumption) ?_)
      <;> try conv => arg 2; whnf)

theorem generateKey_keeps {b0 : State} (n : Nat) (users : Nat) (s : State) (h : Keeps b0 s) :
    Keeps b0 (generateKey n users s) := by
  unfold generateKey
  with_reducible
    try conv => arg 2; whnf
    iterate 40 all_goals try ((
      first
        | assumption | intro _ | apply drawFree_keeps | apply drawTrng_keeps | apply maskSlot_keeps
        | apply setKeySlot_keeps | split | refine keeps_pair (by assumption) ?_)
      <;> try conv => arg 2; whnf)

theorem genKeys_keeps {b0 : State} (s : State) (h : Keeps b0 s) :
    Keeps b0 (genKeys s) := by
  unfold genKeys
  with_reducible
    try conv => arg 2; whnf
    iterate 40 all_goals try ((
      first
        | assumption | apply generateKey_keeps | apply keeps_ite)
      <;> try conv => arg 2; whnf)

theorem genMissing_keeps {b0 : State} (s : State) (h : Keeps b0 s) :
    Keeps b0 (genMissing s) := by
  unfold genMissing
  with_reducible
    try conv => arg 2; whnf
    iterate 40 all_goals try ((
      first
        | assumption | apply commitImage_keeps | apply genKeys_keeps | apply keeps_ite)
      <;> try conv => arg 2; whnf)

theorem loadKeys_keeps {b0 : State} (s : State) (h : Keeps b0 s) :
    Keeps b0 (loadKeys s) := by
  unfold loadKeys
  with_reducible
    try conv => arg 2; whnf
    iterate 40 all_goals try ((
      first
        | assumption | intro _ | apply fireEvent_keeps | apply legalUpdate_keeps | apply raiseError_keeps
        | apply keeps_foldl | apply keeps_ite | refine keeps_same ?_ rfl rfl rfl)
      <;> try conv => arg 2; whnf)

theorem remaskSlot_keeps {b0 : State} (n : Nat) (s : State) (h : Keeps b0 s) :
    Keeps b0 (remaskSlot n s) := by
  unfold remaskSlot
  with_reducible
    try conv => arg 2; whnf
    iterate 40 all_goals try ((
      first
        | assumption | intro _ | apply drawTrng_keeps | apply setKeySlot_keeps | apply keeps_ite | split
        | refine keeps_pair (by assumption) ?_ | refine keeps_same ?_ rfl rfl rfl)
      <;> try conv => arg 2; whnf)

theorem execKeyRemask_keeps {b0 : State} (t : Nat) (s : State) (h : Keeps b0 s) :
    KeepsO b0 (execKeyRemask t s) := by
  unfold execKeyRemask
  with_reducible
    try conv => arg 2; whnf
    iterate 40 all_goals try ((
      first
        | assumption | intro _ | apply remaskSlot_keeps | apply at_keeps | apply keepsO_next | apply keeps_foldl
        | apply keeps_ite | apply keepsO_ite | refine keeps_same ?_ rfl rfl rfl)
      <;> try conv => arg 2; whnf)

theorem burnFuse_keeps {b0 : State} (frm target : Nat) (s : State) (h : Keeps b0 s) : Keeps b0 (burnFuse frm target s) := by
  have mk : ∀ k : Key, FusesOnlyBurn s { s with key := k } → Keeps b0 { s with key := k } := fun k e =>
    ⟨h.pending, h.mem, h.v1p, h.v1s, h.now, h.ctr, h.out, h.gates, h.errs, h.fuses.trans e, h.low⟩
  unfold burnFuse
  split
  · exact mk _ ⟨fun _ => rfl, id, id, id, le_rfl⟩
  · split
    · exact mk _ ⟨id, fun _ => rfl, id, id, le_rfl⟩
    · exact mk _ ⟨id, id, id, id, Nat.le_succ _⟩
  · exact mk _ ⟨id, id, id, id, Nat.le_succ _⟩
  · exact mk _ ⟨id, id, fun _ => rfl, id, le_rfl⟩
  · exact mk _ ⟨id, id, id, fun _ => rfl, le_rfl⟩

theorem finishLc_keeps {b0 : State} (target : Nat) (s : State) (h : Keeps b0 s) :
    Keeps b0 (finishLc target s) := by
  unfold finishLc
  with_reducible
    try conv => arg 2; whnf
    iterate 40 all_goals try ((
      first
        | assumption | intro _ | apply burnFuse_keeps | apply commitImage_keeps | apply fireEvent_keeps
        | apply genKeys_keeps | apply resetControl_keeps | apply keeps_ite | refine keeps_same ?_ rfl rfl rfl)
      <;> try conv => arg 2; whnf)

theorem execKeyLcSet_keeps {b0 : State} (t : Nat) (line : Nat) (seq : Nat) (sigOk : Bool) (s : State) (h : Keeps b0 s) :
    KeepsO b0 (execKeyLcSet t line seq sigOk s) := by
  unfold execKeyLcSet
  with_reducible
    try conv => arg 2; whnf
    iterate 40 all_goals try ((
      first
        | assumption | intro _ | apply accept_keeps | apply discardLines_keeps | apply finishLc_keeps
        | apply rejectAuth_keeps | apply rejectFormat_keeps | apply rejectRange_keeps | apply runCmd_keeps
        | apply useNonce_keeps | apply at_keeps | apply keepsO_next | apply keeps_ite | apply keepsO_ite
        | refine keeps_same ?_ rfl rfl rfl)
      <;> try conv => arg 2; whnf)

theorem execCryptoRequest_keeps {b0 : State} (t : Nat) (user : Nat) (slot : Option Nat) (op : CryptoKind) (s : State) (h : Keeps b0 s) :
    KeepsO b0 (execCryptoRequest t user slot op s) := by
  unfold execCryptoRequest
  with_reducible
    try conv => arg 2; whnf
    iterate 40 all_goals try ((
      first
        | assumption | intro _ | apply fireEvent_keeps | apply raiseError_keeps | apply at_keeps | apply keepsO_next
        | apply keeps_ite | apply keepsO_ite | split | refine keeps_pair (by assumption) ?_
        | refine keeps_same ?_ rfl rfl rfl)
      <;> try conv => arg 2; whnf)

theorem execCryptoDone_keeps {b0 : State} (t : Nat) (s : State) (h : Keeps b0 s) :
    KeepsO b0 (execCryptoDone t s) := by
  unfold execCryptoDone
  with_reducible
    try conv => arg 2; whnf
    iterate 40 all_goals try ((
      first
        | assumption | intro _ | apply finishLc_keeps | apply remaskSlot_keeps | apply at_keeps | apply keepsO_next
        | apply keeps_ite | apply keepsO_ite | split | refine keeps_pair (by assumption) ?_
        | refine keeps_same ?_ rfl rfl rfl)
      <;> try conv => arg 2; whnf)

theorem execKeyTrngFail_keeps {b0 : State} (t : Nat) (s : State) (h : Keeps b0 s) :
    KeepsO b0 (execKeyTrngFail t s) := by
  unfold execKeyTrngFail
  with_reducible
    try conv => arg 2; whnf
    iterate 40 all_goals try ((
      first
        | assumption | intro _ | apply finishAccepted_keeps | apply fireEvent_keeps | apply raiseError_keeps
        | apply at_keeps | apply keepsO_next | apply keeps_ite | apply keepsO_ite | split
        | refine keeps_pair (by assumption) ?_ | refine keeps_same ?_ rfl rfl rfl)
      <;> try conv => arg 2; whnf)

theorem execTrngStartupTest_keeps {b0 : State} (t : Nat) (s : State) (h : Keeps b0 s) :
    KeepsO b0 (execTrngStartupTest t s) := by
  unfold execTrngStartupTest
  with_reducible
    try conv => arg 2; whnf
    iterate 40 all_goals try ((
      first
        | assumption | intro _ | apply errCleared_keeps | apply genMissing_keeps | apply at_keeps | apply keepsO_next
        | apply keeps_ite | apply keepsO_ite | refine keeps_same ?_ rfl rfl rfl)
      <;> try conv => arg 2; whnf)

theorem execSvcRightsExpiry_keeps {b0 : State} (t : Nat) (port : Nat) (s : State) (h : Keeps b0 s) :
    KeepsO b0 (execSvcRightsExpiry t port s) := by
  unfold execSvcRightsExpiry
  with_reducible
    try conv => arg 2; whnf
    iterate 40 all_goals try ((
      first
        | assumption | intro _ | apply fireEvent_keeps | apply at_keeps | apply keepsO_next | apply keeps_ite
        | apply keepsO_ite | refine keeps_same ?_ rfl rfl rfl)
      <;> try conv => arg 2; whnf)

theorem execKeySvcAuth_keeps {b0 : State} (t : Nat) (line : Nat) (seq : Nat) (sigOk : Bool) (s : State) (h : Keeps b0 s) :
    KeepsO b0 (execKeySvcAuth t line seq sigOk s) := by
  unfold execKeySvcAuth
  with_reducible
    try conv => arg 2; whnf
    iterate 40 all_goals try ((
      first
        | assumption | intro _ | apply done_keeps | apply fireEvent_keeps | apply rejectAuth_keeps
        | apply rejectFormat_keeps | apply runCmd_keeps | apply useNonce_keeps | apply at_keeps | apply keepsO_next
        | apply keeps_ite | apply keepsO_ite | refine keeps_same ?_ rfl rfl rfl)
      <;> try conv => arg 2; whnf)

theorem execKeyStatus_keeps {b0 : State} (t : Nat) (line : Nat) (seq : Nat) (s : State) (h : Keeps b0 s) :
    KeepsO b0 (execKeyStatus t line seq s) := by
  unfold execKeyStatus
  with_reducible
    try conv => arg 2; whnf
    iterate 40 all_goals try ((
      first
        | assumption | intro _ | apply doneOut_keeps | apply runCmd_keeps | apply at_keeps | apply keepsO_next
        | apply keeps_foldl | apply keeps_ite | apply keeps_ite2 | apply keepsO_ite | refine memWrite_wf _ _ _ ?_
        | refine memWriteBytes_wf _ _ ?_ | refine Memory.wf_filter _ ?_ | split | exact ⟨rfl, rfl⟩ | rfl
        | refine keeps_pair (by assumption) ?_ | refine keeps_same ?_ rfl rfl rfl | refine keeps_out ?_ rfl rfl rfl
        | refine keeps_new ?_ rfl rfl rfl | refine keeps_mem ?_ rfl rfl rfl ?_)
      <;> try conv => arg 2; whnf)

theorem execKeyPubRead_keeps {b0 : State} (t : Nat) (line : Nat) (seq : Nat) (s : State) (h : Keeps b0 s) :
    KeepsO b0 (execKeyPubRead t line seq s) := by
  unfold execKeyPubRead
  with_reducible
    try conv => arg 2; whnf
    iterate 40 all_goals try ((
      first
        | assumption | intro _ | apply doneOut_keeps | apply rejectRange_keeps | apply runCmd_keeps | apply at_keeps
        | apply keepsO_next | apply keeps_foldl | apply keeps_ite | apply keeps_ite2 | apply keepsO_ite
        | refine memWrite_wf _ _ _ ?_ | refine memWriteBytes_wf _ _ ?_ | refine Memory.wf_filter _ ?_ | split
        | exact ⟨rfl, rfl⟩ | rfl | refine keeps_pair (by assumption) ?_ | refine keeps_same ?_ rfl rfl rfl
        | refine keeps_out ?_ rfl rfl rfl | refine keeps_new ?_ rfl rfl rfl | refine keeps_mem ?_ rfl rfl rfl ?_)
      <;> try conv => arg 2; whnf)

theorem execKeyWrite_keeps {b0 : State} (t : Nat) (line : Nat) (seq : Nat) (keyOk : Bool) (s : State) (h : Keeps b0 s) :
    KeepsO b0 (execKeyWrite t line seq keyOk s) := by
  unfold execKeyWrite
  with_reducible
    try conv => arg 2; whnf
    iterate 40 all_goals try ((
      first
        | assumption | intro _ | apply maskSlot_keeps | apply rejectFormat_keeps | apply rejectRange_keeps
        | apply runCmd_keeps | apply at_keeps | apply keepsO_next | apply keeps_ite | apply keepsO_ite | split
        | refine keeps_pair (by assumption) ?_ | refine keeps_same ?_ rfl rfl rfl)
      <;> try conv => arg 2; whnf)

theorem execKeyDestroy_keeps {b0 : State} (t : Nat) (line : Nat) (seq : Nat) (s : State) (h : Keeps b0 s) :
    KeepsO b0 (execKeyDestroy t line seq s) := by
  unfold execKeyDestroy
  with_reducible
    try conv => arg 2; whnf
    iterate 40 all_goals try ((
      first
        | assumption | intro _ | apply commitImage_keeps | apply done_keeps | apply rejectRange_keeps
        | apply runCmd_keeps | apply setKeySlot_keeps | apply at_keeps | apply keepsO_next | apply keeps_foldl
        | apply keeps_ite | apply keeps_ite2 | apply keepsO_ite | refine memWrite_wf _ _ _ ?_
        | refine memWriteBytes_wf _ _ ?_ | refine Memory.wf_filter _ ?_ | split | exact ⟨rfl, rfl⟩ | rfl
        | refine keeps_pair (by assumption) ?_ | refine keeps_same ?_ rfl rfl rfl | refine keeps_out ?_ rfl rfl rfl
        | refine keeps_new ?_ rfl rfl rfl | refine keeps_mem ?_ rfl rfl rfl ?_)
      <;> try conv => arg 2; whnf)

theorem execKeyAttest_keeps {b0 : State} (t : Nat) (line : Nat) (seq : Nat) (s : State) (h : Keeps b0 s) :
    KeepsO b0 (execKeyAttest t line seq s) := by
  unfold execKeyAttest
  with_reducible
    try conv => arg 2; whnf
    iterate 40 all_goals try ((
      first
        | assumption | intro _ | apply doneOut_keeps | apply drawFree_keeps | apply runCmd_keeps | apply at_keeps
        | apply keepsO_next | split | refine keeps_pair (by assumption) ?_)
      <;> try conv => arg 2; whnf)

/-! ### Topo.lean -/

theorem checkParent_keeps {b0 : State} (s : State) (h : Keeps b0 s) :
    Keeps b0 (checkParent s) := by
  unfold checkParent
  with_reducible
    try conv => arg 2; whnf
    iterate 40 all_goals try ((
      first
        | assumption | intro _ | apply errCleared_keeps | apply fireEvent_keeps | apply raiseError_keeps
        | apply updLink_keeps | apply keeps_ite | refine keeps_same ?_ rfl rfl rfl)
      <;> try conv => arg 2; whnf)

theorem pathsChanged_keeps {b0 : State} (s : State) (h : Keeps b0 s) :
    Keeps b0 (pathsChanged s) := by
  unfold pathsChanged
  with_reducible
    try conv => arg 2; whnf
    iterate 40 all_goals try ((
      first
        | assumption | intro _ | apply recheckFen_keeps | apply refreshBounds_keeps | apply keeps_foldl)
      <;> try conv => arg 2; whnf)

theorem raiseLoops_keeps {b0 : State} (old : List LinkKey) (new : List LinkKey) (s : State) (h : Keeps b0 s) :
    Keeps b0 (raiseLoops old new s) := by
  unfold raiseLoops
  with_reducible
    try conv => arg 2; whnf
    iterate 40 all_goals try ((
      first
        | assumption | intro _ | apply raiseError_keeps | apply keeps_foldl)
      <;> try conv => arg 2; whnf)

theorem recomputeTopo_keeps {b0 : State} (s : State) (h : Keeps b0 s) :
    Keeps b0 (recomputeTopo s) := by
  unfold recomputeTopo
  with_reducible
    try conv => arg 2; whnf
    iterate 40 all_goals try ((
      first
        | assumption | intro _ | apply checkParent_keeps | apply pathsChanged_keeps | apply raiseLoops_keeps
        | apply keeps_ite | split | refine keeps_pair (by assumption) ?_ | refine keeps_same ?_ rfl rfl rfl)
      <;> try conv => arg 2; whnf)

theorem topoChanged_keeps {b0 : State} (s : State) (h : Keeps b0 s) :
    Keeps b0 (topoChanged s) := by
  unfold topoChanged
  with_reducible
    try conv => arg 2; whnf
    iterate 40 all_goals try ((
      first
        | assumption | apply fireEvent_keeps | apply recomputeTopo_keeps)
      <;> try conv => arg 2; whnf)

end Sys2Proof.Machine
end

