-- ==== Sys2Proof/Laws/KeepsFamilies5.lean ====
section
/-! SUPPORT. Every operation of Ozl.lean, Tsu.lean, Sys.lean, CfgCmd.lean, Fen.lean keeps what `Keeps` says. -/

set_option linter.unusedTactic false
set_option linter.unreachableTactic false

namespace Sys2Proof.Machine

/-! ### Ozl.lean -/

theorem bridge_keeps {b0 : State} (k : LinkKey) (s : State) (h : Keeps b0 s) :
    Keeps b0 (bridge k s) := by
  unfold bridge
  with_reducible
    try conv => arg 2; whnf
    iterate 40 all_goals try ((
      first
        | assumption | intro _ | apply fireEvent_keeps | apply raiseError_keeps | apply recomputeTopo_keeps
        | apply keeps_ite | refine keeps_same ?_ rfl rfl rfl)
      <;> try conv => arg 2; whnf)

theorem floodTopo_keeps {b0 : State} (s : State) (h : Keeps b0 s) :
    Keeps b0 (floodTopo s) := by
  unfold floodTopo
  with_reducible
    try conv => arg 2; whnf
    iterate 40 all_goals try ((
      first
        | assumption | intro _ | apply queueCast_keeps | refine keeps_same ?_ rfl rfl rfl)
      <;> try conv => arg 2; whnf)

theorem sendRingBreak_keeps {b0 : State} (k : LinkKey) (s : State) (h : Keeps b0 s) :
    Keeps b0 (sendRingBreak k s) := by
  unfold sendRingBreak
  with_reducible
    try conv => arg 2; whnf
    iterate 40 all_goals try ((
      first
        | assumption | intro _ | apply sendTc0_keeps | refine keeps_same ?_ rfl rfl rfl)
      <;> try conv => arg 2; whnf)

theorem portDown_keeps {b0 : State} (p : Nat) (s : State) (h : Keeps b0 s) :
    Keeps b0 (portDown p s) := by
  unfold portDown
  with_reducible
    try conv => arg 2; whnf
    iterate 40 all_goals try ((
      first
        | assumption | apply bridge_keeps | apply dropWaiting_keeps | apply fireEvent_keeps | apply floodTopo_keeps
        | apply raiseError_keeps | apply sendRingBreak_keeps | apply setOz_keeps | apply topoChanged_keeps
        | apply keeps_ite)
      <;> try conv => arg 2; whnf)

theorem forwardOn_keeps {b0 : State} (f : OzFrame) (inp : Nat) (q : Nat) (hold : Bool) (abort : Bool) (s : State) (h : Keeps b0 s) :
    Keeps b0 (forwardOn f inp q hold abort s) := by
  unfold forwardOn
  with_reducible
    try conv => arg 2; whnf
    iterate 40 all_goals try ((
      first
        | assumption | apply queueFrame_keeps | apply keeps_ite)
      <;> try conv => arg 2; whnf)

theorem resendFrom_keeps {b0 : State} (dst : Nat) (cls : Nat) (msg : Nat) (s : State) (h : Keeps b0 s) :
    Keeps b0 (resendFrom dst cls msg s) := by
  unfold resendFrom
  with_reducible
    try conv => arg 2; whnf
    iterate 40 all_goals try ((
      first
        | assumption | intro _ | apply fenAll_keeps | apply queueAll_keeps | apply keeps_ite | split
        | refine keeps_pair (by assumption) ?_ | refine keeps_same ?_ rfl rfl rfl)
      <;> try conv => arg 2; whnf)

theorem deliverMsg_keeps {b0 : State} (f : OzFrame) (bytes : List Nat) (s : State) (h : Keeps b0 s) :
    Keeps b0 (deliverMsg f bytes s) := by
  unfold deliverMsg
  with_reducible
    try conv => arg 2; whnf
    iterate 40 all_goals try ((
      first
        | assumption | intro _ | apply emit_keeps | apply resendFrom_keeps | apply keeps_ite | split
        | refine keeps_pair (by assumption) ?_ | refine keeps_same ?_ rfl rfl rfl)
      <;> try conv => arg 2; whnf)

theorem sendNak_keeps {b0 : State} (src : Nat) (cls : Nat) (msg : Nat) (s : State) (h : Keeps b0 s) :
    Keeps b0 (sendNak src cls msg s) := by
  unfold sendNak
  with_reducible
    try conv => arg 2; whnf
    iterate 40 all_goals try ((
      first
        | assumption | apply tcSend_keeps)
      <;> try conv => arg 2; whnf)

theorem setExpected_keeps {b0 : State} (e : ExpectMsg) (s : State) (h : Keeps b0 s) :
    Keeps b0 (setExpected e s) := by
  unfold setExpected
  with_reducible
    try conv => arg 2; whnf
    iterate 40 all_goals try ((
      first
        | assumption | intro _ | refine keeps_same ?_ rfl rfl rfl)
      <;> try conv => arg 2; whnf)

theorem inOrder_keeps {b0 : State} (src : Nat) (cls : Nat) (msg : Nat) (s : State) (h : Keeps b0 s) :
    Keeps b0 (inOrder src cls msg s).2 := by
  unfold inOrder
  with_reducible
    try conv => arg 2; whnf
    iterate 40 all_goals try ((
      first
        | assumption | intro _ | apply fireEvent_keeps | apply raiseError_keeps | apply sendNak_keeps
        | apply setExpected_keeps | apply keeps_ite | split | refine keeps_pair (by assumption) ?_
        | refine keeps_same ?_ rfl rfl rfl)
      <;> try conv => arg 2; whnf)

theorem segmentLost_keeps {b0 : State} (src : Nat) (cls : Nat) (msg : Nat) (s : State) (h : Keeps b0 s) :
    Keeps b0 (segmentLost src cls msg s) := by
  unfold segmentLost
  with_reducible
    try conv => arg 2; whnf
    iterate 40 all_goals try ((
      first
        | assumption | intro _ | apply sendNak_keeps | apply setExpected_keeps | apply keeps_ite | split
        | refine keeps_pair (by assumption) ?_ | refine keeps_same ?_ rfl rfl rfl)
      <;> try conv => arg 2; whnf)

theorem receiveFrame_keeps {b0 : State} (f : OzFrame) (s : State) (h : Keeps b0 s) :
    Keeps b0 (receiveFrame f s) := by
  unfold receiveFrame
  with_reducible
    try conv => arg 2; whnf
    iterate 40 all_goals try ((
      first
        | assumption | intro _ | apply deliverMsg_keeps | apply inOrder_keeps | apply segmentLost_keeps
        | apply setExpected_keeps | apply keeps_ite | split | refine keeps_pair (by assumption) ?_
        | refine keeps_same ?_ rfl rfl rfl)
      <;> try conv => arg 2; whnf)

theorem execTrainSend_keeps {b0 : State} (t : Nat) (p : Nat) (s : State) (h : Keeps b0 s) :
    KeepsO b0 (execTrainSend t p s) := by
  unfold execTrainSend
  with_reducible
    try conv => arg 2; whnf
    iterate 40 all_goals try ((
      first
        | assumption | intro _ | apply emit_keeps | apply setOz_keeps | apply at_keeps | apply keepsO_next
        | apply keeps_ite | apply keepsO_ite | refine keeps_same ?_ rfl rfl rfl)
      <;> try conv => arg 2; whnf)

theorem raiseRefusal_keeps {b0 : State} (p : Nat) (k : Nat) (s : State) (h : Keeps b0 s) :
    Keeps b0 (raiseRefusal p k s) := by
  unfold raiseRefusal
  with_reducible
    try conv => arg 2; whnf
    iterate 40 all_goals try ((
      first
        | assumption | apply fireEvent_keeps | apply raiseError_keeps | apply keeps_ite)
      <;> try conv => arg 2; whnf)

theorem portUp_keeps {b0 : State} (p : Nat) (r : TrainRec) (s : State) (h : Keeps b0 s) :
    Keeps b0 (portUp p r s) := by
  unfold portUp
  with_reducible
    try conv => arg 2; whnf
    iterate 40 all_goals try ((
      first
        | assumption | apply fireEvent_keeps | apply floodTopo_keeps | apply setOz_keeps | apply topoChanged_keeps)
      <;> try conv => arg 2; whnf)

theorem execTrainRecordRx_keeps {b0 : State} (t : Nat) (p : Nat) (r : TrainRec) (delay : Nat) (s : State) (h : Keeps b0 s) :
    KeepsO b0 (execTrainRecordRx t p r delay s) := by
  unfold execTrainRecordRx
  with_reducible
    try conv => arg 2; whnf
    iterate 40 all_goals try ((
      first
        | assumption | intro _ | apply portUp_keeps | apply raiseRefusal_keeps | apply setOz_keeps | apply at_keeps
        | apply keepsO_next | apply keeps_ite | apply keepsO_ite | refine keeps_same ?_ rfl rfl rfl)
      <;> try conv => arg 2; whnf)

theorem execOzlLinkDown_keeps {b0 : State} (t : Nat) (p : Nat) (s : State) (h : Keeps b0 s) :
    KeepsO b0 (execOzlLinkDown t p s) := by
  unfold execOzlLinkDown
  with_reducible
    try conv => arg 2; whnf
    iterate 40 all_goals try ((
      first
        | assumption | apply portDown_keeps | apply at_keeps | apply keepsO_next | apply keeps_ite | apply keepsO_ite)
      <;> try conv => arg 2; whnf)

theorem execCreditBlockRx_keeps {b0 : State} (t : Nat) (p : Nat) (counts : List Nat) (crcOk : Bool) (s : State) (h : Keeps b0 s) :
    KeepsO b0 (execCreditBlockRx t p counts crcOk s) := by
  unfold execCreditBlockRx
  with_reducible
    try conv => arg 2; whnf
    iterate 40 all_goals try ((
      first
        | assumption | intro _ | apply flushPort_keeps | apply setOz_keeps | apply at_keeps | apply keepsO_next
        | apply keeps_ite | apply keepsO_ite | refine keeps_same ?_ rfl rfl rfl)
      <;> try conv => arg 2; whnf)

theorem execCreditBlockSend_keeps {b0 : State} (t : Nat) (p : Nat) (s : State) (h : Keeps b0 s) :
    KeepsO b0 (execCreditBlockSend t p s) := by
  unfold execCreditBlockSend
  with_reducible
    try conv => arg 2; whnf
    iterate 40 all_goals try ((
      first
        | assumption | apply sendCreditBlock_keeps | apply at_keeps | apply keepsO_next | apply keeps_ite
        | apply keepsO_ite)
      <;> try conv => arg 2; whnf)

theorem execNak_keeps {b0 : State} (t : Nat) (src : Nat) (cls : Nat) (msg : Nat) (s : State) (h : Keeps b0 s) :
    KeepsO b0 (execNak t src cls msg s) := by
  unfold execNak
  with_reducible
    try conv => arg 2; whnf
    iterate 40 all_goals try ((
      first
        | assumption | apply resendFrom_keeps | apply at_keeps | apply keepsO_next)
      <;> try conv => arg 2; whnf)

theorem countFcs_keeps {b0 : State} (p : Nat) (s : State) (h : Keeps b0 s) :
    Keeps b0 (countFcs p s) := by
  unfold countFcs
  with_reducible
    try conv => arg 2; whnf
    iterate 40 all_goals try ((
      first
        | assumption | intro _ | apply fireEvent_keeps | apply setOz_keeps | apply keeps_ite
        | refine keeps_same ?_ rfl rfl rfl)
      <;> try conv => arg 2; whnf)

theorem acceptOz_keeps {b0 : State} (p : Nat) (f : OzFrame) (s : State) (h : Keeps b0 s) :
    Keeps b0 (acceptOz p f s) := by
  unfold acceptOz
  with_reducible
    try conv => arg 2; whnf
    iterate 40 all_goals try ((
      first
        | assumption | intro _ | apply countFcs_keeps | apply fenSend_keeps | apply forwardOn_keeps
        | apply freeBuffer_keeps | apply raiseError_keeps | apply receiveFrame_keeps | apply keeps_foldl
        | apply keeps_ite | split | refine keeps_pair (by assumption) ?_ | refine keeps_same ?_ rfl rfl rfl)
      <;> try conv => arg 2; whnf)

theorem execOzlFrameRx_keeps {b0 : State} (t : Nat) (p : Nat) (f : OzFrame) (s : State) (h : Keeps b0 s) :
    KeepsO b0 (execOzlFrameRx t p f s) := by
  unfold execOzlFrameRx
  with_reducible
    try conv => arg 2; whnf
    iterate 40 all_goals try ((
      first
        | assumption | intro _ | apply acceptOz_keeps | apply freeBuffer_keeps | apply setOz_keeps | apply at_keeps
        | apply keepsO_next | apply keeps_ite | apply keepsO_ite | refine keeps_same ?_ rfl rfl rfl)
      <;> try conv => arg 2; whnf)

theorem execTopoFlood_keeps {b0 : State} (t : Nat) (s : State) (h : Keeps b0 s) :
    KeepsO b0 (execTopoFlood t s) := by
  unfold execTopoFlood
  with_reducible
    try conv => arg 2; whnf
    iterate 40 all_goals try ((
      first
        | assumption | apply floodTopo_keeps | apply at_keeps | apply keepsO_next)
      <;> try conv => arg 2; whnf)

theorem execTopo_keeps {b0 : State} (t : Nat) (node : Nat) (member : Nat) (ports : List TopoPort) (s : State) (h : Keeps b0 s) :
    KeepsO b0 (execTopo t node member ports s) := by
  unfold execTopo
  with_reducible
    try conv => arg 2; whnf
    iterate 40 all_goals try ((
      first
        | assumption | intro _ | apply topoChanged_keeps | apply at_keeps | apply keepsO_next | apply keeps_ite
        | apply keepsO_ite | refine keeps_same ?_ rfl rfl rfl)
      <;> try conv => arg 2; whnf)

theorem execTopoEntryExpiry_keeps {b0 : State} (t : Nat) (node : Nat) (member : Nat) (s : State) (h : Keeps b0 s) :
    KeepsO b0 (execTopoEntryExpiry t node member s) := by
  unfold execTopoEntryExpiry
  with_reducible
    try conv => arg 2; whnf
    iterate 40 all_goals try ((
      first
        | assumption | intro _ | apply topoChanged_keeps | apply at_keeps | apply keepsO_next | apply keeps_ite
        | apply keepsO_ite | refine keeps_same ?_ rfl rfl rfl)
      <;> try conv => arg 2; whnf)

theorem execRingBreak_keeps {b0 : State} (t : Nat) (a : Nat) (b : Nat) (s : State) (h : Keeps b0 s) :
    KeepsO b0 (execRingBreak t a b s) := by
  unfold execRingBreak
  with_reducible
    try conv => arg 2; whnf
    iterate 40 all_goals try ((
      first
        | assumption | intro _ | apply bridge_keeps | apply at_keeps | apply keepsO_next | split
        | refine keeps_pair (by assumption) ?_ | refine keeps_same ?_ rfl rfl rfl)
      <;> try conv => arg 2; whnf)

theorem execGatewayDatagram_keeps {b0 : State} (t : Nat) (mac : Nat) (addr : Nat) (magic : Nat) (target : Nat) (frame : List Nat) (s : State) (h : Keeps b0 s) :
    KeepsO b0 (execGatewayDatagram t mac addr magic target frame s) := by
  unfold execGatewayDatagram
  with_reducible
    try conv => arg 2; whnf
    iterate 40 all_goals try ((
      first
        | assumption | intro _ | apply tcSend_keeps | apply at_keeps | apply keepsO_next | apply keeps_ite
        | apply keepsO_ite | refine keeps_same ?_ rfl rfl rfl)
      <;> try conv => arg 2; whnf)

theorem execOzlStatus_keeps {b0 : State} (t : Nat) (line : Nat) (seq : Nat) (s : State) (h : Keeps b0 s) :
    KeepsO b0 (execOzlStatus t line seq s) := by
  unfold execOzlStatus
  with_reducible
    try conv => arg 2; whnf
    iterate 40 all_goals try ((
      first
        | assumption | intro _ | apply doneOut_keeps | apply runCmd_keeps | apply at_keeps | apply keepsO_next
        | apply keeps_foldl | apply keeps_ite | apply keeps_ite2 | apply keepsO_ite | refine memWrite_wf _ _ _ ?_
        | refine memWriteBytes_wf _ _ ?_ | refine Memory.wf_filter _ ?_ | split | exact ⟨rfl, rfl⟩ | rfl
        | refine keeps_pair (by assumption) ?_ | refine keeps_same ?_ rfl rfl rfl | refine keeps_out ?_ rfl rfl rfl
        | refine keeps_new ?_ rfl rfl rfl | refine keeps_mem ?_ rfl rfl rfl ?_)
      <;> try conv => arg 2; whnf)

theorem execOzlTopoRead_keeps {b0 : State} (t : Nat) (line : Nat) (seq : Nat) (s : State) (h : Keeps b0 s) :
    KeepsO b0 (execOzlTopoRead t line seq s) := by
  unfold execOzlTopoRead
  with_reducible
    try conv => arg 2; whnf
    iterate 40 all_goals try ((
      first
        | assumption | intro _ | apply doneOut_keeps | apply rejectRange_keeps | apply runCmd_keeps | apply at_keeps
        | apply keepsO_next | apply keeps_foldl | apply keeps_ite | apply keepsO_ite)
      <;> try conv => arg 2; whnf)

theorem execOzlPathRead_keeps {b0 : State} (t : Nat) (line : Nat) (seq : Nat) (s : State) (h : Keeps b0 s) :
    KeepsO b0 (execOzlPathRead t line seq s) := by
  unfold execOzlPathRead
  with_reducible
    try conv => arg 2; whnf
    iterate 40 all_goals try ((
      first
        | assumption | intro _ | apply done_keeps | apply rejectRange_keeps | apply runCmd_keeps | apply at_keeps
        | apply keepsO_next | apply keeps_ite | apply keepsO_ite | split | refine keeps_pair (by assumption) ?_
        | refine keeps_same ?_ rfl rfl rfl)
      <;> try conv => arg 2; whnf)

theorem execOzlPortRetrain_keeps {b0 : State} (t : Nat) (line : Nat) (seq : Nat) (s : State) (h : Keeps b0 s) :
    KeepsO b0 (execOzlPortRetrain t line seq s) := by
  unfold execOzlPortRetrain
  with_reducible
    try conv => arg 2; whnf
    iterate 40 all_goals try ((
      first
        | assumption | intro _ | apply done_keeps | apply fireEvent_keeps | apply portDown_keeps
        | apply rejectRange_keeps | apply runCmd_keeps | apply setOz_keeps | apply at_keeps | apply keepsO_next
        | apply keeps_ite | apply keepsO_ite | refine keeps_same ?_ rfl rfl rfl)
      <;> try conv => arg 2; whnf)

/-! ### Tsu.lean -/

theorem setCc_keeps {b0 : State} (k : Nat) (f : CcUnit → CcUnit) (s : State) (h : Keeps b0 s) :
    Keeps b0 (setCc k f s) := by
  unfold setCc
  with_reducible
    try conv => arg 2; whnf
    iterate 40 all_goals try ((
      first
        | assumption | intro _ | refine keeps_same ?_ rfl rfl rfl)
      <;> try conv => arg 2; whnf)

theorem fireCompare_keeps {b0 : State} (k : Nat) (s : State) (h : Keeps b0 s) :
    Keeps b0 (fireCompare k s) := by
  unfold fireCompare
  with_reducible
    try conv => arg 2; whnf
    iterate 40 all_goals try ((
      first
        | assumption | intro _ | apply emit_keeps | apply fireEvent_keeps | apply setCc_keeps | apply keeps_ite
        | refine keeps_same ?_ rfl rfl rfl)
      <;> try conv => arg 2; whnf)

theorem armCompare_keeps {b0 : State} (k : Nat) (target : Nat) (s : State) (h : Keeps b0 s) :
    Keeps b0 (armCompare k target s) := by
  unfold armCompare
  with_reducible
    try conv => arg 2; whnf
    iterate 40 all_goals try ((
      first
        | assumption | intro _ | apply fireCompare_keeps | apply setCc_keeps | apply keeps_ite
        | refine keeps_same ?_ rfl rfl rfl)
      <;> try conv => arg 2; whnf)

theorem rebaseDev_keeps {b0 : State} (s : State) (h : Keeps b0 s) :
    Keeps b0 (rebaseDev s) := by
  unfold rebaseDev
  with_reducible
    try conv => arg 2; whnf
    iterate 40 all_goals try ((
      first
        | assumption | intro _ | refine keeps_same ?_ rfl rfl rfl)
      <;> try conv => arg 2; whnf)

theorem readCapHi_keeps {b0 : State} (k : Nat) (s : State) (h : Keeps b0 s) :
    Keeps b0 (readCapHi k s) := by
  unfold readCapHi
  with_reducible
    try conv => arg 2; whnf
    iterate 40 all_goals try ((
      first
        | assumption | intro _ | apply emit_keeps | apply setCc_keeps | refine keeps_same ?_ rfl rfl rfl)
      <;> try conv => arg 2; whnf)

theorem armWrite_keeps {b0 : State} (m : Master) (k : Nat) (target : Nat) (s : State) (h : Keeps b0 s) :
    Keeps b0 (armWrite m k target s) := by
  unfold armWrite
  with_reducible
    try conv => arg 2; whnf
    iterate 40 all_goals try ((
      first
        | assumption | apply armCompare_keeps | apply keeps_ite)
      <;> try conv => arg 2; whnf)

theorem stepDev_keeps {b0 : State} (v : Nat) (s : State) (h : Keeps b0 s) :
    Keeps b0 (stepDev v s) := by
  unfold stepDev
  with_reducible
    try conv => arg 2; whnf
    iterate 40 all_goals try ((
      first
        | assumption | intro _ | apply rebase_keeps | refine keeps_same ?_ rfl rfl rfl)
      <;> try conv => arg 2; whnf)

theorem setDom_keeps {b0 : State} (d : Nat) (f : Dom → Dom) (s : State) (h : Keeps b0 s) :
    Keeps b0 (setDom d f s) := by
  unfold setDom
  with_reducible
    try conv => arg 2; whnf
    iterate 40 all_goals try ((
      first
        | assumption | intro _ | refine keeps_same ?_ rfl rfl rfl)
      <;> try conv => arg 2; whnf)

theorem rebaseDom_keeps {b0 : State} (d : Nat) (s : State) (h : Keeps b0 s) :
    Keeps b0 (rebaseDom d s) := by
  unfold rebaseDom
  with_reducible
    try conv => arg 2; whnf
    iterate 40 all_goals try ((
      first
        | assumption | intro _ | apply setDom_keeps | refine keeps_same ?_ rfl rfl rfl)
      <;> try conv => arg 2; whnf)

theorem followDev_keeps {b0 : State} (s0 : State) (h : Keeps b0 s0) :
    Keeps b0 (followDev s0) := by
  unfold followDev
  with_reducible
    try conv => arg 2; whnf
    iterate 40 all_goals try ((
      first
        | assumption | intro _ | apply rebaseDev_keeps | apply stepDev_keeps | apply keeps_ite
        | refine keeps_same ?_ rfl rfl rfl)
      <;> try conv => arg 2; whnf)

theorem setDomState_keeps {b0 : State} (d : Nat) (st : Nat) (s : State) (h : Keeps b0 s) :
    Keeps b0 (setDomState d st s) := by
  unfold setDomState
  with_reducible
    try conv => arg 2; whnf
    iterate 40 all_goals try ((
      first
        | assumption | intro _ | apply fireEvent_keeps | apply setDom_keeps | apply keeps_ite
        | refine keeps_same ?_ rfl rfl rfl)
      <;> try conv => arg 2; whnf)

theorem servo_keeps {b0 : State} (d : Nat) (o : Int) (ts : Nat) (s : State) (h : Keeps b0 s) :
    Keeps b0 (servo d o ts s) := by
  unfold servo
  with_reducible
    try conv => arg 2; whnf
    iterate 40 all_goals try ((
      first
        | assumption | intro _ | apply raiseError_keeps | apply setDom_keeps | apply keeps_ite
        | refine keeps_same ?_ rfl rfl rfl)
      <;> try conv => arg 2; whnf)

theorem judgeLock_keeps {b0 : State} (d : Nat) (o : Int) (s : State) (h : Keeps b0 s) :
    Keeps b0 (judgeLock d o s) := by
  unfold judgeLock
  with_reducible
    try conv => arg 2; whnf
    iterate 40 all_goals try ((
      first
        | assumption | intro _ | apply setDom_keeps | apply setDomState_keeps | apply keeps_ite
        | refine keeps_same ?_ rfl rfl rfl)
      <;> try conv => arg 2; whnf)

theorem domainSample_keeps {b0 : State} (d : Nat) (source : Int) (ts : Nat) (s0 : State) (h : Keeps b0 s0) :
    Keeps b0 (domainSample d source ts s0) := by
  unfold domainSample
  with_reducible
    try conv => arg 2; whnf
    iterate 40 all_goals try ((
      first
        | assumption | intro _ | apply followDev_keeps | apply judgeLock_keeps | apply rebaseDom_keeps
        | apply servo_keeps | apply setDom_keeps | apply setDomState_keeps | apply takeNeutral_keeps | apply keeps_ite
        | refine keeps_same ?_ rfl rfl rfl)
      <;> try conv => arg 2; whnf)

theorem execDomainSample_keeps {b0 : State} (t : Nat) (d : Nat) (source : Int) (utc : Nat) (interval : Nat) (s : State) (h : Keeps b0 s) :
    KeepsO b0 (execDomainSample t d source utc interval s) := by
  unfold execDomainSample
  with_reducible
    try conv => arg 2; whnf
    iterate 40 all_goals try ((
      first
        | assumption | intro _ | apply domainSample_keeps | apply setDom_keeps | apply at_keeps | apply keepsO_next
        | apply keeps_ite | apply keepsO_ite | refine keeps_same ?_ rfl rfl rfl)
      <;> try conv => arg 2; whnf)

theorem execDomainHoldover_keeps {b0 : State} (t : Nat) (d : Nat) (s : State) (h : Keeps b0 s) :
    KeepsO b0 (execDomainHoldover t d s) := by
  unfold execDomainHoldover
  with_reducible
    try conv => arg 2; whnf
    iterate 40 all_goals try ((
      first
        | assumption | apply raiseError_keeps | apply setDomState_keeps | apply at_keeps | apply keepsO_next
        | apply keeps_ite | apply keepsO_ite)
      <;> try conv => arg 2; whnf)

theorem execDomainFree_keeps {b0 : State} (t : Nat) (d : Nat) (s : State) (h : Keeps b0 s) :
    KeepsO b0 (execDomainFree t d s) := by
  unfold execDomainFree
  with_reducible
    try conv => arg 2; whnf
    iterate 40 all_goals try ((
      first
        | assumption | apply followDev_keeps | apply raiseError_keeps | apply setDomState_keeps | apply at_keeps
        | apply keepsO_next | apply keeps_ite | apply keepsO_ite)
      <;> try conv => arg 2; whnf)

theorem switchTo_keeps {b0 : State} (d : Nat) (s : State) (h : Keeps b0 s) :
    Keeps b0 (switchTo d s) := by
  unfold switchTo
  with_reducible
    try conv => arg 2; whnf
    iterate 40 all_goals try ((
      first
        | assumption | intro _ | apply fireEvent_keeps | apply followDev_keeps | apply raiseError_keeps
        | apply keeps_ite | refine keeps_same ?_ rfl rfl rfl)
      <;> try conv => arg 2; whnf)

theorem execFollowSwitch_keeps {b0 : State} (t : Nat) (s : State) (h : Keeps b0 s) :
    KeepsO b0 (execFollowSwitch t s) := by
  unfold execFollowSwitch
  with_reducible
    try conv => arg 2; whnf
    iterate 40 all_goals try ((
      first
        | assumption | intro _ | apply switchTo_keeps | apply at_keeps | apply keepsO_next | apply keeps_ite
        | apply keepsO_ite | split | refine keeps_pair (by assumption) ?_ | refine keeps_same ?_ rfl rfl rfl)
      <;> try conv => arg 2; whnf)

theorem execAonClockRefresh_keeps {b0 : State} (t : Nat) (s : State) (h : Keeps b0 s) :
    KeepsO b0 (execAonClockRefresh t s) := by
  unfold execAonClockRefresh
  with_reducible
    try conv => arg 2; whnf
    iterate 40 all_goals try ((
      first
        | assumption | intro _ | apply followDev_keeps | apply at_keeps | apply keepsO_next | apply keeps_ite
        | apply keepsO_ite | refine keeps_same ?_ rfl rfl rfl)
      <;> try conv => arg 2; whnf)

theorem execPeerDelayRequest_keeps {b0 : State} (t : Nat) (p : Nat) (t1 : Nat) (s : State) (h : Keeps b0 s) :
    KeepsO b0 (execPeerDelayRequest t p t1 s) := by
  unfold execPeerDelayRequest
  with_reducible
    try conv => arg 2; whnf
    iterate 40 all_goals try ((
      first
        | assumption | intro _ | apply sendTc0_keeps | apply setOz_keeps | apply at_keeps | apply keepsO_next
        | apply keeps_ite | apply keepsO_ite | refine keeps_same ?_ rfl rfl rfl)
      <;> try conv => arg 2; whnf)

theorem execPdreq_keeps {b0 : State} (t : Nat) (p : Nat) (seq : Nat) (t2 : Nat) (t3 : Nat) (s : State) (h : Keeps b0 s) :
    KeepsO b0 (execPdreq t p seq t2 t3 s) := by
  unfold execPdreq
  with_reducible
    try conv => arg 2; whnf
    iterate 40 all_goals try ((
      first
        | assumption | apply freeBuffer_keeps | apply sendTc0_keeps | apply at_keeps | apply keepsO_next
        | apply keeps_ite | apply keepsO_ite)
      <;> try conv => arg 2; whnf)

theorem execPdresp_keeps {b0 : State} (t : Nat) (p : Nat) (seq : Nat) (t2 : Int) (turn : Int) (t4 : Int) (s : State) (h : Keeps b0 s) :
    KeepsO b0 (execPdresp t p seq t2 turn t4 s) := by
  unfold execPdresp
  with_reducible
    try conv => arg 2; whnf
    iterate 40 all_goals try ((
      first
        | assumption | intro _ | apply freeBuffer_keeps | apply setOz_keeps | apply at_keeps | apply keepsO_next
        | apply keeps_ite | apply keepsO_ite | split | refine keeps_pair (by assumption) ?_
        | refine keeps_same ?_ rfl rfl rfl)
      <;> try conv => arg 2; whnf)

theorem execSyncSend_keeps {b0 : State} (t : Nat) (tnum : Nat) (s : State) (h : Keeps b0 s) :
    KeepsO b0 (execSyncSend t tnum s) := by
  unfold execSyncSend
  with_reducible
    try conv => arg 2; whnf
    iterate 40 all_goals try ((
      first
        | assumption | intro _ | apply sendTc0_keeps | apply at_keeps | apply keepsO_next | apply keeps_ite
        | apply keepsO_ite | refine keeps_same ?_ rfl rfl rfl)
      <;> try conv => arg 2; whnf)

theorem forwardSync_keeps {b0 : State} (p : Nat) (tnum : Nat) (seq : Nat) (rootState : Nat) (utc : Nat) (origin : Int) (corr : Int) (cum : Rat) (residence : List Nat) (src : Nat) (hops : Nat) (msg : Nat) (s : State) (h : Keeps b0 s) :
    Keeps b0 (forwardSync p tnum seq rootState utc origin corr cum residence src hops msg s) := by
  unfold forwardSync
  with_reducible
    try conv => arg 2; whnf
    iterate 40 all_goals try ((
      first
        | assumption | apply freeBuffer_keeps | apply queueCast_keeps | apply raiseError_keeps | apply keeps_ite)
      <;> try conv => arg 2; whnf)

theorem execSync_keeps {b0 : State} (t : Nat) (p : Nat) (tnum : Nat) (seq : Nat) (rootState : Nat) (utc : Nat) (origin : Int) (corr : Int) (ratio : Int) (rx : Int) (residence : List Nat) (src : Nat) (hops : Nat) (msg : Nat) (s : State) (h : Keeps b0 s) :
    KeepsO b0 (execSync t p tnum seq rootState utc origin corr ratio rx residence src hops msg s) := by
  unfold execSync
  with_reducible
    try conv => arg 2; whnf
    iterate 40 all_goals try ((
      first
        | assumption | intro _ | apply domainSample_keeps | apply forwardSync_keeps | apply freeBuffer_keeps
        | apply setDom_keeps | apply at_keeps | apply keepsO_next | apply keeps_foldl | apply keeps_ite
        | apply keepsO_ite | refine keeps_same ?_ rfl rfl rfl)
      <;> try conv => arg 2; whnf)

theorem setPtp_keeps {b0 : State} (m : Nat) (f : Ptp → Ptp) (s : State) (h : Keeps b0 s) :
    Keeps b0 (setPtp m f s) := by
  unfold setPtp
  with_reducible
    try conv => arg 2; whnf
    iterate 40 all_goals try ((
      first
        | assumption | intro _ | refine keeps_same ?_ rfl rfl rfl)
      <;> try conv => arg 2; whnf)

theorem ptpSample_keeps {b0 : State} (m : Nat) (t1 : Int) (t2 : Int) (s : State) (h : Keeps b0 s) :
    Keeps b0 (ptpSample m t1 t2 s) := by
  unfold ptpSample
  with_reducible
    try conv => arg 2; whnf
    iterate 40 all_goals try ((
      first
        | assumption | intro _ | apply domainSample_keeps | apply setPtp_keeps | apply keeps_foldl | apply keeps_ite
        | refine keeps_same ?_ rfl rfl rfl)
      <;> try conv => arg 2; whnf)

theorem ptpSend_keeps {b0 : State} (m : Nat) (data : List Int) (s : State) (h : Keeps b0 s) :
    Keeps b0 (ptpSend m data s) := by
  unfold ptpSend
  with_reducible
    try conv => arg 2; whnf
    iterate 40 all_goals try ((
      first
        | assumption | apply emit_keeps)
      <;> try conv => arg 2; whnf)

theorem execPtpMessageRx_keeps {b0 : State} (t : Nat) (mac : Nat) (number : Nat) (msg : PtpMsg) (s : State) (h : Keeps b0 s) :
    KeepsO b0 (execPtpMessageRx t mac number msg s) := by
  unfold execPtpMessageRx
  with_reducible
    try conv => arg 2; whnf
    iterate 40 all_goals try ((
      first
        | assumption | intro _ | apply ptpSample_keeps | apply ptpSend_keeps | apply setDom_keeps | apply setPtp_keeps
        | apply at_keeps | apply keepsO_next | apply keeps_foldl | apply keeps_ite | apply keepsO_ite | split
        | refine keeps_pair (by assumption) ?_ | refine keeps_same ?_ rfl rfl rfl)
      <;> try conv => arg 2; whnf)

theorem execPtpSyncSend_keeps {b0 : State} (t : Nat) (mac : Nat) (s : State) (h : Keeps b0 s) :
    KeepsO b0 (execPtpSyncSend t mac s) := by
  unfold execPtpSyncSend
  with_reducible
    try conv => arg 2; whnf
    iterate 40 all_goals try ((
      first
        | assumption | intro _ | apply ptpSend_keeps | apply setPtp_keeps | apply at_keeps | apply keepsO_next
        | apply keeps_ite | apply keepsO_ite | refine keeps_same ?_ rfl rfl rfl)
      <;> try conv => arg 2; whnf)

theorem execPtpDelayReqSend_keeps {b0 : State} (t : Nat) (mac : Nat) (t3 : Nat) (s : State) (h : Keeps b0 s) :
    KeepsO b0 (execPtpDelayReqSend t mac t3 s) := by
  unfold execPtpDelayReqSend
  with_reducible
    try conv => arg 2; whnf
    iterate 40 all_goals try ((
      first
        | assumption | intro _ | apply ptpSend_keeps | apply setPtp_keeps | apply at_keeps | apply keepsO_next
        | apply keeps_ite | apply keepsO_ite | refine keeps_same ?_ rfl rfl rfl)
      <;> try conv => arg 2; whnf)

theorem execTsuCompareArm_keeps {b0 : State} (t : Nat) (m : Master) (k : Nat) (target : Nat) (s : State) (h : Keeps b0 s) :
    KeepsO b0 (execTsuCompareArm t m k target s) := by
  unfold execTsuCompareArm
  with_reducible
    try conv => arg 2; whnf
    iterate 40 all_goals try ((
      first
        | assumption | apply armWrite_keeps | apply at_keeps | apply keepsO_next)
      <;> try conv => arg 2; whnf)

theorem execTsuCompareFire_keeps {b0 : State} (t : Nat) (k : Nat) (s : State) (h : Keeps b0 s) :
    KeepsO b0 (execTsuCompareFire t k s) := by
  unfold execTsuCompareFire
  with_reducible
    try conv => arg 2; whnf
    iterate 40 all_goals try ((
      first
        | assumption | apply fireCompare_keeps | apply at_keeps | apply keepsO_next | apply keeps_ite
        | apply keepsO_ite)
      <;> try conv => arg 2; whnf)

theorem execTsuCaptureEdge_keeps {b0 : State} (t : Nat) (k : Nat) (rising : Bool) (time : Nat) (s : State) (h : Keeps b0 s) :
    KeepsO b0 (execTsuCaptureEdge t k rising time s) := by
  unfold execTsuCaptureEdge
  with_reducible
    try conv => arg 2; whnf
    iterate 40 all_goals try ((
      first
        | assumption | intro _ | apply fireEvent_keeps | apply setCc_keeps | apply at_keeps | apply keepsO_next
        | apply keeps_ite | apply keepsO_ite | refine keeps_same ?_ rfl rfl rfl)
      <;> try conv => arg 2; whnf)

theorem execTsuCaphiRead_keeps {b0 : State} (t : Nat) (_m : Master) (k : Nat) (s : State) (h : Keeps b0 s) :
    KeepsO b0 (execTsuCaphiRead t _m k s) := by
  unfold execTsuCaphiRead
  with_reducible
    try conv => arg 2; whnf
    iterate 40 all_goals try ((
      first
        | assumption | apply readCapHi_keeps | apply at_keeps | apply keepsO_next)
      <;> try conv => arg 2; whnf)

theorem execTimStatus_keeps {b0 : State} (t : Nat) (line : Nat) (seq : Nat) (s : State) (h : Keeps b0 s) :
    KeepsO b0 (execTimStatus t line seq s) := by
  unfold execTimStatus
  with_reducible
    try conv => arg 2; whnf
    iterate 40 all_goals try ((
      first
        | assumption | intro _ | apply doneOut_keeps | apply runCmd_keeps | apply at_keeps | apply keepsO_next
        | apply keeps_foldl | apply keeps_ite | apply keeps_ite2 | apply keepsO_ite | refine memWrite_wf _ _ _ ?_
        | refine memWriteBytes_wf _ _ ?_ | refine Memory.wf_filter _ ?_ | split | exact ⟨rfl, rfl⟩ | rfl
        | refine keeps_pair (by assumption) ?_ | refine keeps_same ?_ rfl rfl rfl | refine keeps_out ?_ rfl rfl rfl
        | refine keeps_new ?_ rfl rfl rfl | refine keeps_mem ?_ rfl rfl rfl ?_)
      <;> try conv => arg 2; whnf)

theorem execTimFollowSet_keeps {b0 : State} (t : Nat) (line : Nat) (seq : Nat) (s : State) (h : Keeps b0 s) :
    KeepsO b0 (execTimFollowSet t line seq s) := by
  unfold execTimFollowSet
  with_reducible
    try conv => arg 2; whnf
    iterate 40 all_goals try ((
      first
        | assumption | intro _ | apply done_keeps | apply rejectRange_keeps | apply runCmd_keeps
        | apply switchTo_keeps | apply at_keeps | apply keepsO_next | apply keeps_ite | apply keepsO_ite
        | refine keeps_same ?_ rfl rfl rfl)
      <;> try conv => arg 2; whnf)

theorem execTimCompareSet_keeps {b0 : State} (t : Nat) (line : Nat) (seq : Nat) (s : State) (h : Keeps b0 s) :
    KeepsO b0 (execTimCompareSet t line seq s) := by
  unfold execTimCompareSet
  with_reducible
    try conv => arg 2; whnf
    iterate 40 all_goals try ((
      first
        | assumption | intro _ | apply armCompare_keeps | apply done_keeps | apply rejectRange_keeps
        | apply runCmd_keeps | apply at_keeps | apply keepsO_next | apply keeps_foldl | apply keeps_ite
        | apply keeps_ite2 | apply keepsO_ite | refine memWrite_wf _ _ _ ?_ | refine memWriteBytes_wf _ _ ?_
        | refine Memory.wf_filter _ ?_ | split | exact ⟨rfl, rfl⟩ | rfl | refine keeps_pair (by assumption) ?_
        | refine keeps_same ?_ rfl rfl rfl | refine keeps_out ?_ rfl rfl rfl | refine keeps_new ?_ rfl rfl rfl
        | refine keeps_mem ?_ rfl rfl rfl ?_)
      <;> try conv => arg 2; whnf)

theorem execTimCaptureRead_keeps {b0 : State} (t : Nat) (line : Nat) (seq : Nat) (s : State) (h : Keeps b0 s) :
    KeepsO b0 (execTimCaptureRead t line seq s) := by
  unfold execTimCaptureRead
  with_reducible
    try conv => arg 2; whnf
    iterate 40 all_goals try ((
      first
        | assumption | intro _ | apply done_keeps | apply rejectRange_keeps | apply runCmd_keeps | apply setCc_keeps
        | apply at_keeps | apply keepsO_next | apply keeps_ite | apply keepsO_ite | refine keeps_same ?_ rfl rfl rfl)
      <;> try conv => arg 2; whnf)

/-! ### Sys.lean -/

theorem setFw_keeps {b0 : State} (k : Nat) (f : FwSlot → FwSlot) (s : State) (h : Keeps b0 s) :
    Keeps b0 (setFw k f s) := by
  unfold setFw
  with_reducible
    try conv => arg 2; whnf
    iterate 40 all_goals try ((
      first
        | assumption | intro _ | apply keeps_ite | refine keeps_same ?_ rfl rfl rfl)
      <;> try conv => arg 2; whnf)

theorem doFreeze_keeps {b0 : State} (cause : Nat) (s : State) (h : Keeps b0 s) :
    Keeps b0 (doFreeze cause s) := by
  unfold doFreeze
  with_reducible
    try conv => arg 2; whnf
    iterate 40 all_goals try ((
      first
        | assumption | intro _ | apply gateLow_keeps | apply setMode_keeps | apply stopClaim_keeps
        | apply turnOff_keeps | apply keeps_foldl | apply keeps_ite | refine keeps_same ?_ rfl rfl rfl)
      <;> try conv => arg 2; whnf)

theorem requestFreeze_keeps {b0 : State} (cause : Nat) (s : State) (h : Keeps b0 s) :
    Keeps b0 (requestFreeze cause s) := by
  unfold requestFreeze
  with_reducible
    try conv => arg 2; whnf
    iterate 40 all_goals try ((
      first
        | assumption | intro _ | apply doFreeze_keeps | apply dropTrigger_keeps | apply keeps_ite
        | refine keeps_same ?_ rfl rfl rfl)
      <;> try conv => arg 2; whnf)

theorem gateUp_reaches {b u y x : State} (h0 : Keeps b u) (e : y = { u with keeper.gateEn := true }) (g : GatesOk y)
    (h1 : Keeps y x) : Reaches b x := by
  have em : y.mbx = u.mbx := by rw [e]
  have ee : ErrsOk u → ErrsOk y := by subst e; exact id
  have ef : FusesOnlyBurn b y := by subst e; exact h0.fuses
  have e1 : y.pending = u.pending := by rw [e]
  have e2 : y.mem = u.mem := by rw [e]
  have e3 : y.now = u.now := by rw [e]
  have e4 : y.freeCtr = u.freeCtr := by rw [e]
  have e5 : y.out = u.out := by rw [e]
  exact ⟨h1.pending.trans (e1.trans h0.pending), fun z => h1.mem (e2 ▸ h0.mem z), fun z => h1.v1p (em ▸ h0.v1p z),
    fun z => h1.v1s (em ▸ h0.v1s z), h0.now.trans (e3 ▸ h1.now), h0.ctr.trans (e4 ▸ h1.ctr), h0.out.trans (e5 ▸ h1.out),
    fun _ => h1.gates g, fun z => h1.errs (ee (h0.errs z)), ef.trans h1.fuses⟩

theorem execKeeperGateEnRequest_keeps {b0 : State} (t : Nat) (s : State) (h : Keeps b0 s) :
    KeepsO b0 (execKeeperGateEnRequest t s) := by
  have h0 := at_keeps s t h
  unfold execKeeperGateEnRequest
  generalize s.at t = u at h0 ⊢
  dsimp only
  split
  · rename_i hc
    refine ⟨fun x e => ?_⟩
    injection e with e
    subst e
    simp only [Bool.and_eq_true, Bool.or_eq_true, beq_iff_eq] at hc
    exact gateUp_reaches h0 rfl (.inl hc.1.1.1.1.1.1.1.1) (gateRise_keeps _ (Keeps.refl _))
  · exact keepsO_next h0

theorem keeperFrame_keeps {b0 : State} (s : State) (h : Keeps b0 s) :
    Keeps b0 (keeperFrame s) := by
  unfold keeperFrame
  with_reducible
    try conv => arg 2; whnf
    iterate 40 all_goals try ((
      first
        | assumption | apply emit_keeps)
      <;> try conv => arg 2; whnf)

theorem execKeeperMxpRepeat_keeps {b0 : State} (t : Nat) (s : State) (h : Keeps b0 s) :
    KeepsO b0 (execKeeperMxpRepeat t s) := by
  unfold execKeeperMxpRepeat
  with_reducible
    try conv => arg 2; whnf
    iterate 40 all_goals try ((
      first
        | assumption | apply keeperFrame_keeps | apply at_keeps | apply keepsO_next | apply keeps_ite
        | apply keepsO_ite)
      <;> try conv => arg 2; whnf)

theorem heldOff_keeps {b0 : State} (l : List Nat) (s : State) (h : Keeps b0 s) :
    Keeps b0 (heldOff l s) := by
  unfold heldOff
  with_reducible
    try conv => arg 2; whnf
    iterate 40 all_goals try ((
      first
        | assumption | intro _ | apply setCh_keeps | apply turnOff_keeps | apply keeps_foldl
        | refine keeps_same ?_ rfl rfl rfl)
      <;> try conv => arg 2; whnf)

theorem execContactorHoldExpiry_keeps {b0 : State} (t : Nat) (s : State) (h : Keeps b0 s) :
    KeepsO b0 (execContactorHoldExpiry t s) := by
  unfold execContactorHoldExpiry
  with_reducible
    try conv => arg 2; whnf
    iterate 40 all_goals try ((
      first
        | assumption | intro _ | apply heldOff_keeps | apply keeperFrame_keeps | apply at_keeps | apply keepsO_next
        | apply keeps_ite | apply keepsO_ite | refine keeps_same ?_ rfl rfl rfl)
      <;> try conv => arg 2; whnf)

theorem execHtrLimitExpiry_keeps {b0 : State} (t : Nat) (s : State) (h : Keeps b0 s) :
    KeepsO b0 (execHtrLimitExpiry t s) := by
  unfold execHtrLimitExpiry
  with_reducible
    try conv => arg 2; whnf
    iterate 40 all_goals try ((
      first
        | assumption | intro _ | apply heldOff_keeps | apply at_keeps | apply keepsO_next | apply keeps_ite
        | apply keepsO_ite | refine keeps_same ?_ rfl rfl rfl)
      <;> try conv => arg 2; whnf)

theorem keeperHold_keeps {b0 : State} (s : State) (h : Keeps b0 s) :
    Keeps b0 (keeperHold s) := by
  unfold keeperHold
  with_reducible
    try conv => arg 2; whnf
    iterate 40 all_goals try ((
      first
        | assumption | intro _ | apply gateLow_keeps | apply keeps_ite | refine keeps_same ?_ rfl rfl rfl)
      <;> try conv => arg 2; whnf)

theorem execResetPin_keeps {b0 : State} (t : Nat) (low : Bool) (s : State) (h : Keeps b0 s) :
    KeepsO b0 (execResetPin t low s) := by
  unfold execResetPin
  with_reducible
    try conv => arg 2; whnf
    iterate 40 all_goals try ((
      first
        | assumption | intro _ | apply resetControl_keeps | apply at_keeps | apply keepsO_next | apply keeps_ite
        | apply keepsO_ite | refine keeps_same ?_ rfl rfl rfl)
      <;> try conv => arg 2; whnf)

theorem execRootLoss_keeps {b0 : State} (t : Nat) (s : State) (h : Keeps b0 s) :
    KeepsO b0 (execRootLoss t s) := by
  unfold execRootLoss
  with_reducible
    try conv => arg 2; whnf
    iterate 40 all_goals try ((
      first
        | assumption | intro _ | apply resetControl_keeps | apply at_keeps | apply keepsO_next | apply keeps_ite
        | apply keepsO_ite | refine keeps_same ?_ rfl rfl rfl)
      <;> try conv => arg 2; whnf)

theorem execHeartbeatLoss_keeps {b0 : State} (t : Nat) (s : State) (h : Keeps b0 s) :
    KeepsO b0 (execHeartbeatLoss t s) := by
  unfold execHeartbeatLoss
  with_reducible
    try conv => arg 2; whnf
    iterate 40 all_goals try ((
      first
        | assumption | apply heartbeat_keeps | apply resetControl_keeps | apply at_keeps | apply keepsO_next
        | apply keeps_ite | apply keepsO_ite)
      <;> try conv => arg 2; whnf)

theorem execWatchdogExpiry_keeps {b0 : State} (t : Nat) (s : State) (h : Keeps b0 s) :
    KeepsO b0 (execWatchdogExpiry t s) := by
  unfold execWatchdogExpiry
  with_reducible
    try conv => arg 2; whnf
    iterate 40 all_goals try ((
      first
        | assumption | apply resetControl_keeps | apply at_keeps | apply keepsO_next | apply keeps_ite
        | apply keepsO_ite)
      <;> try conv => arg 2; whnf)

theorem legalRestart_keeps {b0 : State} (cause : Nat) (s : State) (h : Keeps b0 s) :
    Keeps b0 (legalRestart cause s) := by
  unfold legalRestart
  with_reducible
    try conv => arg 2; whnf
    iterate 40 all_goals try ((
      first
        | assumption | intro _ | apply loseLegal_keeps | apply settleLgl_keeps | apply keeps_ite
        | refine memWrite_wf _ _ _ ?_ | refine memWriteBytes_wf _ _ ?_ | refine Memory.wf_filter _ ?_
        | refine keeps_same ?_ rfl rfl rfl | refine keeps_mem ?_ rfl rfl rfl ?_)
      <;> try conv => arg 2; whnf)

theorem execLockstepMismatch_keeps {b0 : State} (t : Nat) (s : State) (h : Keeps b0 s) :
    KeepsO b0 (execLockstepMismatch t s) := by
  unfold execLockstepMismatch
  with_reducible
    try conv => arg 2; whnf
    iterate 40 all_goals try ((
      first
        | assumption | intro _ | apply legalRestart_keeps | apply at_keeps | apply keepsO_next | apply keeps_ite
        | apply keepsO_ite | refine keeps_same ?_ rfl rfl rfl)
      <;> try conv => arg 2; whnf)

theorem loseAlwaysOn_keeps {b0 : State} (s : State) (h : Keeps b0 s) : Keeps b0 (loseAlwaysOn s) :=
  ⟨h.pending, fun z => Memory.wf_filter _ (h.mem z), h.v1p, h.v1s, h.now, h.ctr, h.out, h.gates,
    fun z => ⟨(h.errs z).1, (by decide : ([] : List ErrRec).length ≤ 32)⟩, h.fuses, h.low⟩

theorem execRailOutOfRange_keeps {b0 : State} (t : Nat) (vbat : Bool) (s : State) (h : Keeps b0 s) :
    KeepsO b0 (execRailOutOfRange t vbat s) := by
  have h0 := at_keeps s t h
  unfold execRailOutOfRange
  generalize s.at t = u at h0 ⊢
  extract_lets s' prior s1 sp sr sy sm sl sq s2
  refine keepsO_next (keeps_ite h0 ?_)
  have h1 : Keeps b0 s1 := keeperReset_keeps _ (stopClaim_keeps _ h0)
  have hl : s1.keeper.gateEn = false := keeperReset_low _
  have h2 : Keeps b0 s2 := ⟨h1.pending, h1.mem, h1.v1p, h1.v1s, h1.now, h1.ctr, h1.out, fun _ => .inr hl, fun z => ⟨(h1.errs z).1, (h0.errs z).1⟩, h1.fuses, fun _ => hl⟩
  exact keeps_ite h2 (loseAlwaysOn_keeps _ h2)

theorem execVbatLost_keeps {b0 : State} (t : Nat) (mainRails : Bool) (s : State) (h : Keeps b0 s) :
    KeepsO b0 (execVbatLost t mainRails s) := by
  unfold execVbatLost
  with_reducible
    try conv => arg 2; whnf
    iterate 40 all_goals try ((
      first
        | assumption | apply loseAlwaysOn_keeps | apply at_keeps | apply keepsO_next | apply keeps_ite
        | apply keepsO_ite)
      <;> try conv => arg 2; whnf)

theorem execRailsGood_keeps {b0 : State} (t : Nat) (s : State) (h : Keeps b0 s) :
    KeepsO b0 (execRailsGood t s) := by
  unfold execRailsGood
  with_reducible
    try conv => arg 2; whnf
    iterate 40 all_goals try ((
      first
        | assumption | intro _ | apply resetControl_keeps | apply at_keeps | apply keepsO_next | apply keeps_ite
        | apply keepsO_ite | refine keeps_same ?_ rfl rfl rfl)
      <;> try conv => arg 2; whnf)

theorem recheckSlots_keeps {b0 : State} (readA : Nat) (readB : Nat) (s : State) (h : Keeps b0 s) :
    Keeps b0 (recheckSlots readA readB s) := by
  unfold recheckSlots
  with_reducible
    try conv => arg 2; whnf
    iterate 40 all_goals try ((
      first
        | assumption | intro _ | apply keeps_ite | refine keeps_same ?_ rfl rfl rfl)
      <;> try conv => arg 2; whnf)

theorem startSlot_keeps {b0 : State} (k : Nat) (s0 : State) (h : Keeps b0 s0) :
    Keeps b0 (startSlot k s0) := by
  unfold startSlot
  with_reducible
    try conv => arg 2; whnf
    iterate 40 all_goals try ((
      first
        | assumption | intro _ | apply drawFree_keeps | split | refine keeps_pair (by assumption) ?_
        | refine keeps_same ?_ rfl rfl rfl)
      <;> try conv => arg 2; whnf)

theorem bootFails_keeps {b0 : State} (reason : Nat) (s : State) (h : Keeps b0 s) :
    Keeps b0 (bootFails reason s) := by
  unfold bootFails
  with_reducible
    try conv => arg 2; whnf
    iterate 40 all_goals try ((
      first
        | assumption | intro _ | refine keeps_same ?_ rfl rfl rfl)
      <;> try conv => arg 2; whnf)

theorem chooseSlot_keeps {b0 : State} (s : State) (h : Keeps b0 s) :
    Keeps b0 (chooseSlot s) := by
  unfold chooseSlot
  with_reducible
    try conv => arg 2; whnf
    iterate 40 all_goals try ((
      first
        | assumption | intro _ | apply bootFails_keeps | apply slotReadErr_keeps | apply startSlot_keeps
        | apply keeps_ite | refine keeps_same ?_ rfl rfl rfl)
      <;> try conv => arg 2; whnf)

theorem startTime_keeps {b0 : State} (s : State) (h : Keeps b0 s) :
    Keeps b0 (startTime s) := by
  unfold startTime
  with_reducible
    try conv => arg 2; whnf
    iterate 40 all_goals try ((
      first
        | assumption | intro _ | apply stepDev_keeps | refine keeps_same ?_ rfl rfl rfl)
      <;> try conv => arg 2; whnf)

theorem psOffChannels_keeps {b0 : State} (s : State) (h : Keeps b0 s) :
    Keeps b0 (psOffChannels s) := by
  unfold psOffChannels
  with_reducible
    try conv => arg 2; whnf
    iterate 40 all_goals try ((
      first
        | assumption | intro _ | apply setCh_keeps | apply turnOff_keeps | apply keeps_foldl | apply keeps_ite
        | refine keeps_same ?_ rfl rfl rfl)
      <;> try conv => arg 2; whnf)

theorem takeStraps_keeps {b0 : State} (testEn : Bool) (psOff : Bool) (s : State) (h : Keeps b0 s) :
    Keeps b0 (takeStraps testEn psOff s) := by
  unfold takeStraps
  with_reducible
    try conv => arg 2; whnf
    iterate 40 all_goals try ((
      first
        | assumption | intro _ | refine keeps_same ?_ rfl rfl rfl)
      <;> try conv => arg 2; whnf)

theorem drawEpochs_keeps {b0 : State} (s : State) (h : Keeps b0 s) : Keeps b0 (drawEpochs s) :=
  ⟨h.pending, h.mem, h.v1p, h.v1s, h.now, h.ctr.trans (Nat.le_add_right _ _), h.out, h.gates, h.errs, h.fuses, h.low⟩

theorem supplyLim_keeps {b0 : State} (s : State) (h : Keeps b0 s) :
    Keeps b0 (supplyLim s) := by
  unfold supplyLim
  with_reducible
    try conv => arg 2; whnf
    iterate 40 all_goals try ((
      first
        | assumption | apply setLim_keeps)
      <;> try conv => arg 2; whnf)

theorem execM1Release_keeps {b0 : State} (t : Nat) (testEn : Bool) (psOff : Bool) (readA : Nat) (readB : Nat) (s : State) (h : Keeps b0 s) :
    KeepsO b0 (execM1Release t testEn psOff readA readB s) := by
  unfold execM1Release
  with_reducible
    try conv => arg 2; whnf
    iterate 40 all_goals try ((
      first
        | assumption | intro _ | apply chooseSlot_keeps | apply drawEpochs_keeps | apply psOffChannels_keeps
        | apply recheckSlots_keeps | apply setMode_keeps | apply startTime_keeps | apply supplyLim_keeps
        | apply takeStraps_keeps | apply at_keeps | apply keepsO_next | apply keeps_ite | apply keepsO_ite
        | refine keeps_same ?_ rfl rfl rfl)
      <;> try conv => arg 2; whnf)

theorem takeLatches_keeps {b0 : State} (s : State) (h : Keeps b0 s) :
    Keeps b0 (takeLatches s) := by
  unfold takeLatches
  with_reducible
    try conv => arg 2; whnf
    iterate 40 all_goals try ((
      first
        | assumption | intro _ | apply fireEvent_keeps | apply keeps_foldl | apply keeps_ite)
      <;> try conv => arg 2; whnf)

theorem enterFromBoot_keeps {b0 : State} (cfgActiveOk : Bool) (cfgPreviousOk : Bool) (s : State) (h : Keeps b0 s) :
    Keeps b0 (enterFromBoot cfgActiveOk cfgPreviousOk s) := by
  unfold enterFromBoot
  with_reducible
    try conv => arg 2; whnf
    iterate 40 all_goals try ((
      first
        | assumption | intro _ | apply enterConfig_keeps | apply loadDefaults_keeps | apply loadKeys_keeps
        | apply setMode_keeps | apply startDeciding_keeps | apply keeps_ite | refine keeps_same ?_ rfl rfl rfl)
      <;> try conv => arg 2; whnf)

theorem bootDone_keeps {b0 : State} (s3 : State) (h : Keeps b0 s3) :
    Keeps b0 (bootDone s3) := by
  unfold bootDone
  with_reducible
    try conv => arg 2; whnf
    iterate 40 all_goals try ((
      first
        | assumption | intro _ | apply keeps_ite | refine keeps_same ?_ rfl rfl rfl)
      <;> try conv => arg 2; whnf)

theorem execBootComplete_keeps {b0 : State} (t : Nat) (cfgActiveOk : Bool) (cfgPreviousOk : Bool) (s : State) (h : Keeps b0 s) :
    KeepsO b0 (execBootComplete t cfgActiveOk cfgPreviousOk s) := by
  unfold execBootComplete
  with_reducible
    try conv => arg 2; whnf
    iterate 40 all_goals try ((
      first
        | assumption | apply bootDone_keeps | apply enterFromBoot_keeps | apply genMissing_keeps
        | apply restoreMtr_keeps | apply takeLatches_keeps | apply at_keeps | apply keepsO_next | apply keeps_ite
        | apply keepsO_ite)
      <;> try conv => arg 2; whnf)

theorem cutAll_keeps {b0 : State} (s : State) (h : Keeps b0 s) :
    Keeps b0 (cutAll s) := by
  unfold cutAll
  with_reducible
    try conv => arg 2; whnf
    iterate 40 all_goals try ((
      first
        | assumption | intro _ | refine keeps_same ?_ rfl rfl rfl)
      <;> try conv => arg 2; whnf)

theorem warnDown_keeps {b0 : State} (s : State) (h : Keeps b0 s) :
    Keeps b0 (warnDown s) := by
  unfold warnDown
  with_reducible
    try conv => arg 2; whnf
    iterate 40 all_goals try ((
      first
        | assumption | intro _ | apply discardAll_keeps | apply dropGate_keeps | apply fireEvent_keeps
        | apply keeperHold_keeps | apply stopClaim_keeps | refine keeps_same ?_ rfl rfl rfl)
      <;> try conv => arg 2; whnf)

theorem warnSave_keeps {b0 : State} (s2 : State) (h : Keeps b0 s2) :
    Keeps b0 (warnSave s2) := by
  unfold warnSave
  with_reducible
    try conv => arg 2; whnf
    iterate 40 all_goals try ((
      first
        | assumption | intro _ | apply cutAll_keeps | apply keepPending_keeps | apply runBoundary_keeps
        | apply saveRetention_keeps | apply settleLgl_keeps | apply keeps_ite | refine keeps_same ?_ rfl rfl rfl)
      <;> try conv => arg 2; whnf)

theorem execPowerWarning_keeps {b0 : State} (t : Nat) (s : State) (h : Keeps b0 s) :
    KeepsO b0 (execPowerWarning t s) := by
  unfold execPowerWarning
  with_reducible
    try conv => arg 2; whnf
    iterate 40 all_goals try ((
      first
        | assumption | intro _ | apply keeperHold_keeps | apply warnDown_keeps | apply warnSave_keeps | apply at_keeps
        | apply keepsO_next | apply keeps_ite | apply keepsO_ite | refine keeps_same ?_ rfl rfl rfl)
      <;> try conv => arg 2; whnf)

theorem execEmergencySave_keeps {b0 : State} (t : Nat) (s : State) (h : Keeps b0 s) :
    KeepsO b0 (execEmergencySave t s) := by
  unfold execEmergencySave
  with_reducible
    try conv => arg 2; whnf
    iterate 40 all_goals try ((
      first
        | assumption | intro _ | apply doFreeze_keeps | apply emergencySave_keeps | apply lglEvent_keeps
        | apply settleLgl_keeps | apply at_keeps | apply keepsO_next | apply keeps_ite | apply keepsO_ite | split
        | refine keeps_pair (by assumption) ?_ | refine keeps_same ?_ rfl rfl rfl)
      <;> try conv => arg 2; whnf)

theorem execPowerWarningCleared_keeps {b0 : State} (t : Nat) (s : State) (h : Keeps b0 s) :
    KeepsO b0 (execPowerWarningCleared t s) := by
  unfold execPowerWarningCleared
  with_reducible
    try conv => arg 2; whnf
    iterate 40 all_goals try ((
      first
        | assumption | intro _ | apply closeAllLegal_keeps | apply setCause_keeps | apply settleLgl_keeps
        | apply at_keeps | apply keepsO_next | apply keeps_ite | apply keepsO_ite | refine keeps_same ?_ rfl rfl rfl)
      <;> try conv => arg 2; whnf)

theorem execPowerWarnClearTimer_keeps {b0 : State} (t : Nat) (s : State) (h : Keeps b0 s) :
    KeepsO b0 (execPowerWarnClearTimer t s) := by
  unfold execPowerWarnClearTimer
  with_reducible
    try conv => arg 2; whnf
    iterate 40 all_goals try ((
      first
        | assumption | intro _ | apply clearCause_keeps | apply at_keeps | apply keepsO_next | apply keeps_ite
        | apply keepsO_ite | refine keeps_same ?_ rfl rfl rfl)
      <;> try conv => arg 2; whnf)

theorem clearBlockItem_keeps {b0 : State} (addr : Nat) (item : Nat) (s : State) (h : Keeps b0 s) :
    Keeps b0 (clearBlockItem addr item s) := by
  unfold clearBlockItem
  with_reducible
    try conv => arg 2; whnf
    iterate 40 all_goals try ((
      first
        | assumption | intro _ | apply legalUpdate_keeps | apply setSrc_keeps | apply keeps_ite
        | refine memWrite_wf _ _ _ ?_ | refine memWriteBytes_wf _ _ ?_ | refine Memory.wf_filter _ ?_
        | refine keeps_same ?_ rfl rfl rfl | refine keeps_mem ?_ rfl rfl rfl ?_)
      <;> try conv => arg 2; whnf)

theorem loseFrame_keeps {b0 : State} (item : Nat) (s : State) (h : Keeps b0 s) :
    Keeps b0 (loseFrame item s) := by
  unfold loseFrame
  with_reducible
    try conv => arg 2; whnf
    iterate 40 all_goals try ((
      first
        | assumption | intro _ | apply freeBuffer_keeps | apply setOz_keeps | split
        | refine keeps_pair (by assumption) ?_ | refine keeps_same ?_ rfl rfl rfl)
      <;> try conv => arg 2; whnf)

theorem doubleError_keeps {b0 : State} (addr : Nat) (item : Nat) (s : State) (h : Keeps b0 s) :
    Keeps b0 (doubleError addr item s) := by
  unfold doubleError
  with_reducible
    try conv => arg 2; whnf
    iterate 40 all_goals try ((
      first
        | assumption | intro _ | apply clearBlockItem_keeps | apply holdChild_keeps | apply legalRestart_keeps
        | apply loseFrame_keeps | apply raiseError_keeps | apply tripSlot_keeps | apply keeps_foldl | apply keeps_ite
        | split | refine keeps_pair (by assumption) ?_ | refine keeps_same ?_ rfl rfl rfl)
      <;> try conv => arg 2; whnf)

theorem execScrubPass_keeps {b0 : State} (t : Nat) (finds : List EccFind) (s : State) (h : Keeps b0 s) :
    KeepsO b0 (execScrubPass t finds s) := by
  unfold execScrubPass
  with_reducible
    try conv => arg 2; whnf
    iterate 40 all_goals try ((
      first
        | assumption | intro _ | apply doubleError_keeps | apply eccCorrected_keeps | apply at_keeps
        | apply keepsO_next | apply keeps_foldl | apply keeps_ite | apply keepsO_ite)
      <;> try conv => arg 2; whnf)

theorem execErrorRaised_keeps {b0 : State} (t : Nat) (subsys : Nat) (code : Nat) (cls : Nat) (arg : Nat) (s : State) (h : Keeps b0 s) :
    KeepsO b0 (execErrorRaised t subsys code cls arg s) := by
  unfold execErrorRaised
  with_reducible
    try conv => arg 2; whnf
    iterate 40 all_goals try ((
      first
        | assumption | apply raiseError_keeps | apply at_keeps | apply keepsO_next | apply keeps_ite
        | apply keepsO_ite)
      <;> try conv => arg 2; whnf)

theorem execHandlingWindowClose_keeps {b0 : State} (t : Nat) (id : Nat) (s : State) (h : Keeps b0 s) :
    KeepsO b0 (execHandlingWindowClose t id s) := by
  unfold execHandlingWindowClose
  with_reducible
    try conv => arg 2; whnf
    iterate 40 all_goals try ((
      first
        | assumption | apply closeWindow_keeps | apply sweepLsw_keeps | apply at_keeps | apply keepsO_next
        | apply keeps_ite | apply keepsO_ite)
      <;> try conv => arg 2; whnf)

/-! ### CfgCmd.lean -/

theorem toPartner_keeps {b0 : State} (op : Nat) (args : List Nat) (data : List Nat) (s : State) (h : Keeps b0 s) :
    Keeps b0 (toPartner op args data s) := by
  unfold toPartner
  with_reducible
    try conv => arg 2; whnf
    iterate 40 all_goals try ((
      first
        | assumption | apply tcSend_keeps)
      <;> try conv => arg 2; whnf)

theorem answerPartner_keeps {b0 : State} (st : Nat) (s : State) (h : Keeps b0 s) :
    Keeps b0 (answerPartner st s) := by
  unfold answerPartner
  with_reducible
    try conv => arg 2; whnf
    iterate 40 all_goals try ((
      first
        | assumption | apply toPartner_keeps)
      <;> try conv => arg 2; whnf)

theorem partnerRefused_keeps {b0 : State} (c : Cmd) (st : Nat) (result : List Nat) (s : State) (h : Keeps b0 s) :
    Keeps b0 (partnerRefused c st result s) := by
  unfold partnerRefused
  with_reducible
    try conv => arg 2; whnf
    iterate 40 all_goals try ((
      first
        | assumption | apply finish_keeps | apply raiseError_keeps)
      <;> try conv => arg 2; whnf)

theorem writeChunk_keeps {b0 : State} (ofs : Nat) (total : Nat) (data : List Nat) (s : State) (h : Keeps b0 s) :
    Keeps b0 (writeChunk ofs total data s) := by
  unfold writeChunk
  with_reducible
    try conv => arg 2; whnf
    iterate 40 all_goals try ((
      first
        | assumption | intro _ | apply putMap_keeps | apply keeps_ite | refine memWrite_wf _ _ _ ?_
        | refine memWriteBytes_wf _ _ ?_ | refine Memory.wf_filter _ ?_ | refine keeps_same ?_ rfl rfl rfl
        | refine keeps_mem ?_ rfl rfl rfl ?_)
      <;> try conv => arg 2; whnf)

theorem execCfgStage_keeps {b0 : State} (t : Nat) (line : Nat) (seq : Nat) (partnerStatus : Nat) (ok : Bool) (s : State) (h : Keeps b0 s) :
    KeepsO b0 (execCfgStage t line seq partnerStatus ok s) := by
  unfold execCfgStage
  with_reducible
    try conv => arg 2; whnf
    iterate 40 all_goals try ((
      first
        | assumption | intro _ | apply accept_keeps | apply done_keeps | apply finish_keeps
        | apply partnerRefused_keeps | apply rejectFormat_keeps | apply rejectRange_keeps | apply runCmd_keeps
        | apply toPartner_keeps | apply writeChunk_keeps | apply xsp0WriteFail_keeps | apply at_keeps
        | apply keepsO_next | apply keeps_ite | apply keepsO_ite | split | refine keeps_pair (by assumption) ?_
        | refine keeps_same ?_ rfl rfl rfl)
      <;> try conv => arg 2; whnf)

theorem judgeStaged_keeps {b0 : State} (sigOk : Bool) (s : State) (h : Keeps b0 s) :
    Keeps b0 (judgeStaged sigOk s).2 := by
  unfold judgeStaged
  with_reducible
    try conv => arg 2; whnf
    iterate 40 all_goals try ((
      first
        | assumption | intro _ | apply putMap_keeps | apply keeps_ite | refine keeps_same ?_ rfl rfl rfl)
      <;> try conv => arg 2; whnf)

theorem execCfgValidationDone_keeps {b0 : State} (t : Nat) (sigOk : Bool) (s : State) (h : Keeps b0 s) :
    KeepsO b0 (execCfgValidationDone t sigOk s) := by
  unfold execCfgValidationDone
  with_reducible
    try conv => arg 2; whnf
    iterate 40 all_goals try ((
      first
        | assumption | intro _ | apply finish_keeps | apply judgeStaged_keeps | apply at_keeps | apply keepsO_next
        | apply keeps_ite | apply keepsO_ite | refine memWrite_wf _ _ _ ?_ | refine memWriteBytes_wf _ _ ?_
        | refine Memory.wf_filter _ ?_ | split | refine keeps_pair (by assumption) ?_
        | refine keeps_same ?_ rfl rfl rfl)
      <;> try conv => arg 2; whnf)

theorem discardStaged_keeps {b0 : State} (s : State) (h : Keeps b0 s) :
    Keeps b0 (discardStaged s) := by
  unfold discardStaged
  with_reducible
    try conv => arg 2; whnf
    iterate 40 all_goals try ((
      first
        | assumption | intro _ | apply putMap_keeps | refine keeps_same ?_ rfl rfl rfl)
      <;> try conv => arg 2; whnf)

theorem execCfgDiscard_keeps {b0 : State} (t : Nat) (line : Nat) (seq : Nat) (partnerStatus : Nat) (s : State) (h : Keeps b0 s) :
    KeepsO b0 (execCfgDiscard t line seq partnerStatus s) := by
  unfold execCfgDiscard
  with_reducible
    try conv => arg 2; whnf
    iterate 40 all_goals try ((
      first
        | assumption | intro _ | apply discardStaged_keeps | apply done_keeps | apply partnerRefused_keeps
        | apply runCmd_keeps | apply toPartner_keeps | apply at_keeps | apply keepsO_next | apply keeps_foldl
        | apply keeps_ite | apply keeps_ite2 | apply keepsO_ite | refine memWrite_wf _ _ _ ?_
        | refine memWriteBytes_wf _ _ ?_ | refine Memory.wf_filter _ ?_ | split | exact ⟨rfl, rfl⟩ | rfl
        | refine keeps_pair (by assumption) ?_ | refine keeps_same ?_ rfl rfl rfl | refine keeps_out ?_ rfl rfl rfl
        | refine keeps_new ?_ rfl rfl rfl | refine keeps_mem ?_ rfl rfl rfl ?_)
      <;> try conv => arg 2; whnf)

theorem execCfgStatus_keeps {b0 : State} (t : Nat) (line : Nat) (seq : Nat) (s : State) (h : Keeps b0 s) :
    KeepsO b0 (execCfgStatus t line seq s) := by
  unfold execCfgStatus
  with_reducible
    try conv => arg 2; whnf
    iterate 40 all_goals try ((
      first
        | assumption | intro _ | apply done_keeps | apply runCmd_keeps | apply at_keeps | apply keepsO_next
        | apply keeps_foldl | apply keeps_ite | apply keeps_ite2 | apply keepsO_ite | refine memWrite_wf _ _ _ ?_
        | refine memWriteBytes_wf _ _ ?_ | refine Memory.wf_filter _ ?_ | split | exact ⟨rfl, rfl⟩ | rfl
        | refine keeps_pair (by assumption) ?_ | refine keeps_same ?_ rfl rfl rfl | refine keeps_out ?_ rfl rfl rfl
        | refine keeps_new ?_ rfl rfl rfl | refine keeps_mem ?_ rfl rfl rfl ?_)
      <;> try conv => arg 2; whnf)

theorem execCfgRead_keeps {b0 : State} (t : Nat) (line : Nat) (seq : Nat) (s : State) (h : Keeps b0 s) :
    KeepsO b0 (execCfgRead t line seq s) := by
  unfold execCfgRead
  with_reducible
    try conv => arg 2; whnf
    iterate 40 all_goals try ((
      first
        | assumption | intro _ | apply doneOut_keeps | apply rejectRange_keeps | apply runCmd_keeps | apply at_keeps
        | apply keepsO_next | apply keeps_ite | apply keepsO_ite | refine memWrite_wf _ _ _ ?_
        | refine memWriteBytes_wf _ _ ?_ | refine Memory.wf_filter _ ?_ | split | refine keeps_pair (by assumption) ?_
        | refine keeps_same ?_ rfl rfl rfl)
      <;> try conv => arg 2; whnf)

theorem beginCommit_keeps {b0 : State} (line : Nat) (seq : Nat) (partnerRes : Nat) (m : SlotMap) (changed : List Nat) (rollback : Bool) (s : State) (h : Keeps b0 s) :
    Keeps b0 (beginCommit line seq partnerRes m changed rollback s) := by
  unfold beginCommit
  with_reducible
    try conv => arg 2; whnf
    iterate 40 all_goals try ((
      first
        | assumption | intro _ | refine keeps_same ?_ rfl rfl rfl)
      <;> try conv => arg 2; whnf)

theorem commitBody_keeps {b0 : State} (op : Nat) (partnerStatus : Nat) (rollback : Bool) (c : Cmd) (s : State) (h : Keeps b0 s) :
    Keeps b0 (commitBody op partnerStatus rollback c s) := by
  unfold commitBody
  with_reducible
    try conv => arg 2; whnf
    iterate 40 all_goals try ((
      first
        | assumption | intro _ | apply accept_keeps | apply beginCommit_keeps | apply finish_keeps
        | apply finishAccepted_keeps | apply raiseError_keeps | apply rejectIllegal_keeps | apply toPartner_keeps
        | apply keeps_ite | split | refine keeps_pair (by assumption) ?_ | refine keeps_same ?_ rfl rfl rfl)
      <;> try conv => arg 2; whnf)

theorem execCfgCommit_keeps {b0 : State} (t : Nat) (line : Nat) (seq : Nat) (partnerStatus : Nat) (s : State) (h : Keeps b0 s) :
    KeepsO b0 (execCfgCommit t line seq partnerStatus s) := by
  unfold execCfgCommit
  with_reducible
    try conv => arg 2; whnf
    iterate 40 all_goals try ((
      first
        | assumption | apply commitBody_keeps | apply runCmd_keeps | apply at_keeps | apply keepsO_next)
      <;> try conv => arg 2; whnf)

theorem execCfgRollback_keeps {b0 : State} (t : Nat) (line : Nat) (seq : Nat) (partnerStatus : Nat) (s : State) (h : Keeps b0 s) :
    KeepsO b0 (execCfgRollback t line seq partnerStatus s) := by
  unfold execCfgRollback
  with_reducible
    try conv => arg 2; whnf
    iterate 40 all_goals try ((
      first
        | assumption | apply commitBody_keeps | apply runCmd_keeps | apply at_keeps | apply keepsO_next)
      <;> try conv => arg 2; whnf)

theorem execCfgPartnerRequest_keeps {b0 : State} (t : Nat) (req : PartnerReq) (sigOk : Bool) (s : State) (h : Keeps b0 s) :
    KeepsO b0 (execCfgPartnerRequest t req sigOk s) := by
  unfold execCfgPartnerRequest
  with_reducible
    try conv => arg 2; whnf
    iterate 40 all_goals try ((
      first
        | assumption | intro _ | apply answerPartner_keeps | apply beginCommit_keeps | apply discardStaged_keeps
        | apply judgeStaged_keeps | apply writeChunk_keeps | apply at_keeps | apply keepsO_next | apply keeps_ite
        | apply keepsO_ite | split | refine keeps_pair (by assumption) ?_ | refine keeps_same ?_ rfl rfl rfl)
      <;> try conv => arg 2; whnf)

theorem finishCmd_keeps {b0 : State} (line : Nat) (seq : Nat) (a : Answer) (s : State) (h : Keeps b0 s) :
    Keeps b0 (finishCmd line seq a s) := by
  unfold finishCmd
  with_reducible
    try conv => arg 2; whnf
    iterate 40 all_goals try ((
      first
        | assumption | intro _ | apply answerPartner_keeps | apply finish_keeps | apply keeps_ite | split
        | refine keeps_pair (by assumption) ?_ | refine keeps_same ?_ rfl rfl rfl)
      <;> try conv => arg 2; whnf)

theorem commitPoint_keeps {b0 : State} (m : SlotMap) (s : State) (h : Keeps b0 s) :
    Keeps b0 (commitPoint m s) := by
  unfold commitPoint
  with_reducible
    try conv => arg 2; whnf
    iterate 40 all_goals try ((
      first
        | assumption | intro _ | apply answerPartner_keeps | apply endNeutral_keeps | apply fireEvent_keeps
        | apply putMap_keeps | apply resetControl_keeps | apply takeIdle_keeps | apply keeps_ite | split
        | refine keeps_pair (by assumption) ?_ | refine keeps_same ?_ rfl rfl rfl)
      <;> try conv => arg 2; whnf)

theorem execXsp0WriteDone_keeps {b0 : State} (t : Nat) (ok : Bool) (s : State) (h : Keeps b0 s) :
    KeepsO b0 (execXsp0WriteDone t ok s) := by
  unfold execXsp0WriteDone
  with_reducible
    try conv => arg 2; whnf
    iterate 40 all_goals try ((
      first
        | assumption | intro _ | apply commitPoint_keeps | apply finishCmd_keeps | apply fireEvent_keeps
        | apply keyWriteDone_keeps | apply setFw_keeps | apply xsp0WriteFail_keeps | apply at_keeps
        | apply keepsO_next | apply keeps_ite | apply keepsO_ite | split | refine keeps_pair (by assumption) ?_
        | refine keeps_same ?_ rfl rfl rfl)
      <;> try conv => arg 2; whnf)

/-! ### Fen.lean -/

theorem execFenZeroCrossing_keeps {b0 : State} (t : Nat) (valid : Bool) (period : Nat) (s : State) (h : Keeps b0 s) :
    KeepsO b0 (execFenZeroCrossing t valid period s) := by
  unfold execFenZeroCrossing
  with_reducible
    try conv => arg 2; whnf
    iterate 40 all_goals try ((
      first
        | assumption | intro _ | apply at_keeps | apply keepsO_next | apply keeps_ite | apply keepsO_ite
        | refine keeps_same ?_ rfl rfl rfl)
      <;> try conv => arg 2; whnf)

theorem execFenZcLost_keeps {b0 : State} (t : Nat) (s : State) (h : Keeps b0 s) :
    KeepsO b0 (execFenZcLost t s) := by
  unfold execFenZcLost
  with_reducible
    try conv => arg 2; whnf
    iterate 40 all_goals try ((
      first
        | assumption | intro _ | apply fireEvent_keeps | apply raiseError_keeps | apply at_keeps | apply keepsO_next
        | apply keeps_ite | apply keepsO_ite | refine keeps_same ?_ rfl rfl rfl)
      <;> try conv => arg 2; whnf)

theorem execBeaconSend_keeps {b0 : State} (t : Nat) (s : State) (h : Keeps b0 s) :
    KeepsO b0 (execBeaconSend t s) := by
  unfold execBeaconSend
  with_reducible
    try conv => arg 2; whnf
    iterate 40 all_goals try ((
      first
        | assumption | intro _ | apply emit_keeps | apply at_keeps | apply keepsO_next | apply keeps_ite
        | apply keepsO_ite | refine keeps_same ?_ rfl rfl rfl)
      <;> try conv => arg 2; whnf)

theorem execBeaconRx_keeps {b0 : State} (t : Nat) (netId : Nat) (gatewayTime : Nat) (zcAgo : Nat) (s : State) (h : Keeps b0 s) :
    KeepsO b0 (execBeaconRx t netId gatewayTime zcAgo s) := by
  unfold execBeaconRx
  with_reducible
    try conv => arg 2; whnf
    iterate 40 all_goals try ((
      first
        | assumption | intro _ | apply at_keeps | apply keepsO_next | apply keeps_ite | apply keepsO_ite
        | refine keeps_same ?_ rfl rfl rfl)
      <;> try conv => arg 2; whnf)

theorem execBeaconLost_keeps {b0 : State} (t : Nat) (s : State) (h : Keeps b0 s) :
    KeepsO b0 (execBeaconLost t s) := by
  unfold execBeaconLost
  with_reducible
    try conv => arg 2; whnf
    iterate 40 all_goals try ((
      first
        | assumption | intro _ | apply fireEvent_keeps | apply at_keeps | apply keepsO_next | apply keeps_ite
        | apply keepsO_ite | refine keeps_same ?_ rfl rfl rfl)
      <;> try conv => arg 2; whnf)

theorem setNeigh_keeps {b0 : State} (node : Nat) (f : Neigh → Neigh) (s : State) (h : Keeps b0 s) :
    Keeps b0 (setNeigh node f s) := by
  unfold setNeigh
  with_reducible
    try conv => arg 2; whnf
    iterate 40 all_goals try ((
      first
        | assumption | intro _ | apply keeps_ite | refine keeps_same ?_ rfl rfl rfl)
      <;> try conv => arg 2; whnf)

theorem updRates_keeps {b0 : State} (node : Nat) (s : State) (h : Keeps b0 s) :
    Keeps b0 (updRates node s) := by
  unfold updRates
  with_reducible
    try conv => arg 2; whnf
    iterate 40 all_goals try ((
      first
        | assumption | intro _ | apply setNeigh_keeps | refine keeps_same ?_ rfl rfl rfl)
      <;> try conv => arg 2; whnf)

theorem fenOwn_keeps {b0 : State} (node : Nat) (typ : Nat) (m : Out) (s : State) (h : Keeps b0 s) :
    Keeps b0 (fenOwn node typ m s) := by
  unfold fenOwn
  with_reducible
    try conv => arg 2; whnf
    iterate 40 all_goals try ((
      first
        | assumption | apply fenQueue_keeps)
      <;> try conv => arg 2; whnf)

theorem askSounding_keeps {b0 : State} (node : Nat) (slot : Nat) (s : State) (h : Keeps b0 s) :
    Keeps b0 (askSounding node slot s) := by
  unfold askSounding
  with_reducible
    try conv => arg 2; whnf
    iterate 40 all_goals try ((
      first
        | assumption | intro _ | apply fenOwn_keeps | apply setNeigh_keeps | refine keeps_same ?_ rfl rfl rfl)
      <;> try conv => arg 2; whnf)

theorem execSoundingRx_keeps {b0 : State} (t : Nat) (tx : Nat) (slot : Nat) (map : ToneMap) (s : State) (h : Keeps b0 s) :
    KeepsO b0 (execSoundingRx t tx slot map s) := by
  unfold execSoundingRx
  with_reducible
    try conv => arg 2; whnf
    iterate 40 all_goals try ((
      first
        | assumption | intro _ | apply fenOwn_keeps | apply fireEvent_keeps | apply setNeigh_keeps
        | apply updRates_keeps | apply at_keeps | apply keepsO_next | apply keeps_ite | apply keepsO_ite
        | refine keeps_same ?_ rfl rfl rfl)
      <;> try conv => arg 2; whnf)

theorem execToneMapRx_keeps {b0 : State} (t : Nat) (tx : Nat) (slot : Nat) (map : ToneMap) (s : State) (h : Keeps b0 s) :
    KeepsO b0 (execToneMapRx t tx slot map s) := by
  unfold execToneMapRx
  with_reducible
    try conv => arg 2; whnf
    iterate 40 all_goals try ((
      first
        | assumption | intro _ | apply setNeigh_keeps | apply updRates_keeps | apply at_keeps | apply keepsO_next
        | apply keeps_ite | apply keepsO_ite | refine keeps_same ?_ rfl rfl rfl)
      <;> try conv => arg 2; whnf)

theorem execToneMapExpiry_keeps {b0 : State} (t : Nat) (node : Nat) (slot : Nat) (s : State) (h : Keeps b0 s) :
    KeepsO b0 (execToneMapExpiry t node slot s) := by
  unfold execToneMapExpiry
  with_reducible
    try conv => arg 2; whnf
    iterate 40 all_goals try ((
      first
        | assumption | intro _ | apply askSounding_keeps | apply setNeigh_keeps | apply updRates_keeps
        | apply at_keeps | apply keepsO_next | apply keeps_foldl | apply keeps_ite | apply keepsO_ite | split
        | refine keeps_pair (by assumption) ?_ | refine keeps_same ?_ rfl rfl rfl)
      <;> try conv => arg 2; whnf)

theorem setRoute_keeps {b0 : State} (m : Option Neigh) (s : State) (h : Keeps b0 s) :
    Keeps b0 (setRoute m s) := by
  unfold setRoute
  with_reducible
    try conv => arg 2; whnf
    iterate 40 all_goals try ((
      first
        | assumption | intro _ | apply fireEvent_keeps | apply raiseError_keeps | apply setNeigh_keeps
        | apply updLink_keeps | apply keeps_ite | split | refine keeps_pair (by assumption) ?_
        | refine keeps_same ?_ rfl rfl rfl)
      <;> try conv => arg 2; whnf)

theorem chooseRoute_keeps {b0 : State} (s : State) (h : Keeps b0 s) :
    Keeps b0 (chooseRoute s) := by
  unfold chooseRoute
  with_reducible
    try conv => arg 2; whnf
    iterate 40 all_goals try ((
      first
        | assumption | intro _ | apply setRoute_keeps | apply keeps_ite | split | refine keeps_pair (by assumption) ?_
        | refine keeps_same ?_ rfl rfl rfl)
      <;> try conv => arg 2; whnf)

theorem execRouteChange_keeps {b0 : State} (t : Nat) (s : State) (h : Keeps b0 s) :
    KeepsO b0 (execRouteChange t s) := by
  unfold execRouteChange
  with_reducible
    try conv => arg 2; whnf
    iterate 40 all_goals try ((
      first
        | assumption | intro _ | apply setRoute_keeps | apply at_keeps | apply keepsO_next | apply keeps_ite
        | apply keepsO_ite | split | refine keeps_pair (by assumption) ?_ | refine keeps_same ?_ rfl rfl rfl)
      <;> try conv => arg 2; whnf)

theorem execLinkMetricSend_keeps {b0 : State} (t : Nat) (s : State) (h : Keeps b0 s) :
    KeepsO b0 (execLinkMetricSend t s) := by
  unfold execLinkMetricSend
  with_reducible
    try conv => arg 2; whnf
    iterate 40 all_goals try ((
      first
        | assumption | apply fenQueue_keeps | apply at_keeps | apply keepsO_next | apply keeps_ite | apply keepsO_ite)
      <;> try conv => arg 2; whnf)

theorem addNeigh_keeps {b0 : State} (x : Neigh) (s : State) (h : Keeps b0 s) :
    Keeps b0 (addNeigh x s) := by
  unfold addNeigh
  with_reducible
    try conv => arg 2; whnf
    iterate 40 all_goals try ((
      first
        | assumption | intro _ | apply fireEvent_keeps | apply raiseError_keeps | apply keeps_foldl | apply keeps_ite
        | refine keeps_same ?_ rfl rfl rfl)
      <;> try conv => arg 2; whnf)

theorem execLinkMetricRx_keeps {b0 : State} (t : Nat) (tx : Nat) (own : Nat) (hops : Nat) (routed : Bool) (bler : Nat) (rows : List MetricRow) (s : State) (h : Keeps b0 s) :
    KeepsO b0 (execLinkMetricRx t tx own hops routed bler rows s) := by
  unfold execLinkMetricRx
  with_reducible
    try conv => arg 2; whnf
    iterate 40 all_goals try ((
      first
        | assumption | intro _ | apply addNeigh_keeps | apply chooseRoute_keeps | apply setNeigh_keeps
        | apply at_keeps | apply keepsO_next | apply keeps_ite | apply keepsO_ite | refine keeps_same ?_ rfl rfl rfl)
      <;> try conv => arg 2; whnf)

theorem execNeighbourExpiry_keeps {b0 : State} (t : Nat) (node : Nat) (s : State) (h : Keeps b0 s) :
    KeepsO b0 (execNeighbourExpiry t node s) := by
  unfold execNeighbourExpiry
  with_reducible
    try conv => arg 2; whnf
    iterate 40 all_goals try ((
      first
        | assumption | intro _ | apply chooseRoute_keeps | apply fireEvent_keeps | apply at_keeps | apply keepsO_next
        | apply keeps_ite | apply keepsO_ite | split | refine keeps_pair (by assumption) ?_
        | refine keeps_same ?_ rfl rfl rfl)
      <;> try conv => arg 2; whnf)

theorem countBlank_keeps {b0 : State} (f : FenFrame) (s : State) (h : Keeps b0 s) :
    Keeps b0 (countBlank f s) := by
  unfold countBlank
  with_reducible
    try conv => arg 2; whnf
    iterate 40 all_goals try ((
      first
        | assumption | intro _ | refine keeps_same ?_ rfl rfl rfl)
      <;> try conv => arg 2; whnf)

theorem countBlocks_keeps {b0 : State} (f : FenFrame) (s : State) (h : Keeps b0 s) :
    Keeps b0 (countBlocks f s) := by
  unfold countBlocks
  with_reducible
    try conv => arg 2; whnf
    iterate 40 all_goals try ((
      first
        | assumption | intro _ | apply askSounding_keeps | apply setNeigh_keeps | apply keeps_foldl | apply keeps_ite
        | split | refine keeps_pair (by assumption) ?_ | refine keeps_same ?_ rfl rfl rfl)
      <;> try conv => arg 2; whnf)

theorem dropAuth_keeps {b0 : State} (byTag : Bool) (s : State) (h : Keeps b0 s) :
    Keeps b0 (dropAuth byTag s) := by
  unfold dropAuth
  with_reducible
    try conv => arg 2; whnf
    iterate 40 all_goals try ((
      first
        | assumption | intro _ | apply fireEvent_keeps | apply raiseError_keeps | apply keeps_ite
        | refine keeps_same ?_ rfl rfl rfl)
      <;> try conv => arg 2; whnf)

theorem learnBack_keeps {b0 : State} (src : Nat) (tx : Nat) (s : State) (h : Keeps b0 s) :
    Keeps b0 (learnBack src tx s) := by
  unfold learnBack
  with_reducible
    try conv => arg 2; whnf
    iterate 40 all_goals try ((
      first
        | assumption | intro _ | apply floodTopo_keeps | apply topoChanged_keeps | apply keeps_ite
        | refine keeps_same ?_ rfl rfl rfl)
      <;> try conv => arg 2; whnf)

theorem recordTrip_keeps {b0 : State} (f : FenFrame) (s : State) (h : Keeps b0 s) :
    Keeps b0 (recordTrip f s) := by
  unfold recordTrip
  with_reducible
    try conv => arg 2; whnf
    iterate 40 all_goals try ((
      first
        | assumption | intro _ | apply recheckFen_keeps | apply keeps_ite | refine keeps_same ?_ rfl rfl rfl)
      <;> try conv => arg 2; whnf)

theorem repeatFrame_keeps {b0 : State} (f : FenFrame) (s : State) (h : Keeps b0 s) :
    Keeps b0 (repeatFrame f s) := by
  unfold repeatFrame
  with_reducible
    try conv => arg 2; whnf
    iterate 40 all_goals try ((
      first
        | assumption | intro _ | apply fenQueue_keeps | apply keeps_ite | split | refine keeps_pair (by assumption) ?_
        | refine keeps_same ?_ rfl rfl rfl)
      <;> try conv => arg 2; whnf)

theorem takeInner_keeps {b0 : State} (f : FenFrame) (s : State) (h : Keeps b0 s) :
    Keeps b0 (takeInner f s) := by
  unfold takeInner
  with_reducible
    try conv => arg 2; whnf
    iterate 40 all_goals try ((
      first
        | assumption | intro _ | apply fenSend_keeps | apply forwardOn_keeps | apply receiveFrame_keeps
        | apply keeps_ite | split | refine keeps_pair (by assumption) ?_ | refine keeps_same ?_ rfl rfl rfl)
      <;> try conv => arg 2; whnf)

theorem fenAnswer_keeps {b0 : State} (f : FenFrame) (s : State) (h : Keeps b0 s) :
    Keeps b0 (fenAnswer f s) := by
  unfold fenAnswer
  with_reducible
    try conv => arg 2; whnf
    iterate 40 all_goals try ((
      first
        | assumption | apply countBlank_keeps | apply countBlocks_keeps | apply emit_keeps | apply keeps_ite)
      <;> try conv => arg 2; whnf)

theorem fenNote_keeps {b0 : State} (f : FenFrame) (s : State) (h : Keeps b0 s) :
    Keeps b0 (fenNote f s) := by
  unfold fenNote
  with_reducible
    try conv => arg 2; whnf
    iterate 40 all_goals try ((
      first
        | assumption | intro _ | apply learnBack_keeps | apply recordTrip_keeps | refine keeps_same ?_ rfl rfl rfl)
      <;> try conv => arg 2; whnf)

theorem fenAct_keeps {b0 : State} (f : FenFrame) (s : State) (h : Keeps b0 s) :
    Keeps b0 (fenAct f s) := by
  unfold fenAct
  with_reducible
    try conv => arg 2; whnf
    iterate 40 all_goals try ((
      first
        | assumption | intro _ | apply fenOwn_keeps | apply repeatFrame_keeps | apply setNeigh_keeps
        | apply takeInner_keeps | apply keeps_ite | refine keeps_same ?_ rfl rfl rfl)
      <;> try conv => arg 2; whnf)

theorem execFenFrameRx_keeps {b0 : State} (t : Nat) (f : FenFrame) (s : State) (h : Keeps b0 s) :
    KeepsO b0 (execFenFrameRx t f s) := by
  unfold execFenFrameRx
  with_reducible
    try conv => arg 2; whnf
    iterate 40 all_goals try ((
      first
        | assumption | apply countBlank_keeps | apply dropAuth_keeps | apply fenAct_keeps | apply fenAnswer_keeps
        | apply fenNote_keeps | apply at_keeps | apply keepsO_next | apply keeps_ite | apply keepsO_ite)
      <;> try conv => arg 2; whnf)

theorem transmitFen_keeps {b0 : State} (f : FenTx) (s : State) (h : Keeps b0 s) :
    Keeps b0 (transmitFen f s) := by
  unfold transmitFen
  with_reducible
    try conv => arg 2; whnf
    iterate 40 all_goals try ((
      first
        | assumption | intro _ | apply drawFree_keeps | apply emit_keeps | apply setNeigh_keeps | apply keeps_ite
        | split | refine keeps_pair (by assumption) ?_ | refine keeps_same ?_ rfl rfl rfl
        | refine keeps_out ?_ rfl rfl rfl)
      <;> try conv => arg 2; whnf)

theorem askIfNone_keeps {b0 : State} (f : FenTx) (s : State) (h : Keeps b0 s) :
    Keeps b0 (askIfNone f s) := by
  unfold askIfNone
  with_reducible
    try conv => arg 2; whnf
    iterate 40 all_goals try ((
      first
        | assumption | intro _ | apply askSounding_keeps | apply keeps_ite | split
        | refine keeps_pair (by assumption) ?_ | refine keeps_same ?_ rfl rfl rfl)
      <;> try conv => arg 2; whnf)

theorem execFenBackoffExpiry_keeps {b0 : State} (t : Nat) (collision : Bool) (s : State) (h : Keeps b0 s) :
    KeepsO b0 (execFenBackoffExpiry t collision s) := by
  unfold execFenBackoffExpiry
  with_reducible
    try conv => arg 2; whnf
    iterate 40 all_goals try ((
      first
        | assumption | intro _ | apply askIfNone_keeps | apply transmitFen_keeps | apply at_keeps | apply keepsO_next
        | apply keeps_ite | apply keepsO_ite | split | refine keeps_pair (by assumption) ?_
        | refine keeps_same ?_ rfl rfl rfl)
      <;> try conv => arg 2; whnf)

theorem countDrop_keeps {b0 : State} (node : Nat) (s : State) (h : Keeps b0 s) :
    Keeps b0 (countDrop node s) := by
  unfold countDrop
  with_reducible
    try conv => arg 2; whnf
    iterate 40 all_goals try ((
      first
        | assumption | intro _ | apply chooseRoute_keeps | apply setNeigh_keeps | refine keeps_same ?_ rfl rfl rfl)
      <;> try conv => arg 2; whnf)

theorem sendFailed_keeps {b0 : State} (f : FenTx) (blocks : Option (List Nat)) (s : State) (h : Keeps b0 s) :
    Keeps b0 (sendFailed f blocks s) := by
  unfold sendFailed
  with_reducible
    try conv => arg 2; whnf
    iterate 40 all_goals try ((
      first
        | assumption | intro _ | apply countDrop_keeps | apply keeps_ite | refine keeps_same ?_ rfl rfl rfl)
      <;> try conv => arg 2; whnf)

theorem execSackRx_keeps {b0 : State} (t : Nat) (failed : List Nat) (s : State) (h : Keeps b0 s) :
    KeepsO b0 (execSackRx t failed s) := by
  unfold execSackRx
  with_reducible
    try conv => arg 2; whnf
    iterate 40 all_goals try ((
      first
        | assumption | intro _ | apply sendFailed_keeps | apply setNeigh_keeps | apply at_keeps | apply keepsO_next
        | apply keeps_ite | apply keepsO_ite | split | refine keeps_pair (by assumption) ?_
        | refine keeps_same ?_ rfl rfl rfl)
      <;> try conv => arg 2; whnf)

theorem execFenSackTimeout_keeps {b0 : State} (t : Nat) (s : State) (h : Keeps b0 s) :
    KeepsO b0 (execFenSackTimeout t s) := by
  unfold execFenSackTimeout
  with_reducible
    try conv => arg 2; whnf
    iterate 40 all_goals try ((
      first
        | assumption | intro _ | apply sendFailed_keeps | apply at_keeps | apply keepsO_next | split
        | refine keeps_pair (by assumption) ?_ | refine keeps_same ?_ rfl rfl rfl)
      <;> try conv => arg 2; whnf)

theorem execFenStatus_keeps {b0 : State} (t : Nat) (line : Nat) (seq : Nat) (s : State) (h : Keeps b0 s) :
    KeepsO b0 (execFenStatus t line seq s) := by
  unfold execFenStatus
  with_reducible
    try conv => arg 2; whnf
    iterate 40 all_goals try ((
      first
        | assumption | intro _ | apply doneOut_keeps | apply runCmd_keeps | apply at_keeps | apply keepsO_next
        | apply keeps_foldl | apply keeps_ite | apply keeps_ite2 | apply keepsO_ite | refine memWrite_wf _ _ _ ?_
        | refine memWriteBytes_wf _ _ ?_ | refine Memory.wf_filter _ ?_ | split | exact ⟨rfl, rfl⟩ | rfl
        | refine keeps_pair (by assumption) ?_ | refine keeps_same ?_ rfl rfl rfl | refine keeps_out ?_ rfl rfl rfl
        | refine keeps_new ?_ rfl rfl rfl | refine keeps_mem ?_ rfl rfl rfl ?_)
      <;> try conv => arg 2; whnf)

theorem execFenNeighRead_keeps {b0 : State} (t : Nat) (line : Nat) (seq : Nat) (s : State) (h : Keeps b0 s) :
    KeepsO b0 (execFenNeighRead t line seq s) := by
  unfold execFenNeighRead
  with_reducible
    try conv => arg 2; whnf
    iterate 40 all_goals try ((
      first
        | assumption | intro _ | apply doneOut_keeps | apply runCmd_keeps | apply at_keeps | apply keepsO_next
        | apply keeps_foldl | apply keeps_ite | apply keeps_ite2 | apply keepsO_ite | refine memWrite_wf _ _ _ ?_
        | refine memWriteBytes_wf _ _ ?_ | refine Memory.wf_filter _ ?_ | split | exact ⟨rfl, rfl⟩ | rfl
        | refine keeps_pair (by assumption) ?_ | refine keeps_same ?_ rfl rfl rfl | refine keeps_out ?_ rfl rfl rfl
        | refine keeps_new ?_ rfl rfl rfl | refine keeps_mem ?_ rfl rfl rfl ?_)
      <;> try conv => arg 2; whnf)

theorem execFenTonemapRead_keeps {b0 : State} (t : Nat) (line : Nat) (seq : Nat) (s : State) (h : Keeps b0 s) :
    KeepsO b0 (execFenTonemapRead t line seq s) := by
  unfold execFenTonemapRead
  with_reducible
    try conv => arg 2; whnf
    iterate 40 all_goals try ((
      first
        | assumption | intro _ | apply doneOut_keeps | apply rejectRange_keeps | apply runCmd_keeps | apply at_keeps
        | apply keepsO_next | split | refine keeps_pair (by assumption) ?_ | refine keeps_same ?_ rfl rfl rfl)
      <;> try conv => arg 2; whnf)

theorem execFenResound_keeps {b0 : State} (t : Nat) (line : Nat) (seq : Nat) (s : State) (h : Keeps b0 s) :
    KeepsO b0 (execFenResound t line seq s) := by
  unfold execFenResound
  with_reducible
    try conv => arg 2; whnf
    iterate 40 all_goals try ((
      first
        | assumption | intro _ | apply askSounding_keeps | apply done_keeps | apply rejectRange_keeps
        | apply runCmd_keeps | apply at_keeps | apply keepsO_next | apply keeps_foldl | apply keeps_ite
        | apply keepsO_ite)
      <;> try conv => arg 2; whnf)

end Sys2Proof.Machine
end

