-- ==== Sys2Proof/Laws/KeepsFamilies6.lean ====
section
/-! SUPPORT. Every operation of Place.lean, SysCmd.lean, Reg.lean, Jtag.lean, Diag.lean keeps what `Keeps` says. -/

set_option linter.unusedTactic false
set_option linter.unreachableTactic false

namespace Sys2Proof.Machine

/-! ### Place.lean -/

theorem addLegs_keeps {b0 : State} (g : Nat) (k : Nat) (s : State) (h : Keeps b0 s) :
    Keeps b0 (addLegs g k s) := by
  unfold addLegs
  with_reducible
    try conv => arg 2; whnf
    iterate 40 all_goals try ((
      first
        | assumption | intro _ | apply markSet_keeps | apply keeps_ite | refine keeps_same ?_ rfl rfl rfl)
      <;> try conv => arg 2; whnf)

theorem cutLegs_keeps {b0 : State} (g : Nat) (k : Nat) (s : State) (h : Keeps b0 s) :
    Keeps b0 (cutLegs g k s) := by
  unfold cutLegs
  with_reducible
    try conv => arg 2; whnf
    iterate 40 all_goals try ((
      first
        | assumption | intro _ | apply markSet_keeps | apply keeps_ite | refine keeps_same ?_ rfl rfl rfl)
      <;> try conv => arg 2; whnf)

theorem joinGroup_keeps {b0 : State} (g : Nat) (n : Nat) (k : Nat) (s : State) (h : Keeps b0 s) :
    Keeps b0 (joinGroup g n k s) := by
  unfold joinGroup
  with_reducible
    try conv => arg 2; whnf
    iterate 40 all_goals try ((
      first
        | assumption | intro _ | apply beginTracking_keeps | apply startLegs_keeps | apply keeps_ite
        | refine keeps_same ?_ rfl rfl rfl)
      <;> try conv => arg 2; whnf)

theorem applyAdds_keeps {b0 : State} (n : Nat) (c : List Nat) (s : State) (h : Keeps b0 s) :
    Keeps b0 (applyAdds n c s) := by
  unfold applyAdds
  with_reducible
    try conv => arg 2; whnf
    iterate 40 all_goals try ((
      first
        | assumption | intro _ | apply addLegs_keeps | apply joinGroup_keeps | apply keeps_foldl | apply keeps_ite)
      <;> try conv => arg 2; whnf)

theorem showTarget_keeps {b0 : State} (n : Nat) (c : List Nat) (s : State) (h : Keeps b0 s) :
    Keeps b0 (showTarget n c s) := by
  unfold showTarget
  with_reducible
    try conv => arg 2; whnf
    iterate 40 all_goals try ((
      first
        | assumption | intro _ | apply keeps_ite | refine keeps_same ?_ rfl rfl rfl)
      <;> try conv => arg 2; whnf)

theorem setShares_keeps {b0 : State} (n : Nat) (s : State) (h : Keeps b0 s) :
    Keeps b0 (setShares n s) := by
  unfold setShares
  with_reducible
    try conv => arg 2; whnf
    iterate 40 all_goals try ((
      first
        | assumption | intro _ | apply shareStep_keeps | apply keeps_ite | refine keeps_same ?_ rfl rfl rfl)
      <;> try conv => arg 2; whnf)

theorem wantShed_keeps {b0 : State} (n : Nat) (i : Nat) (c : List Nat) (s : State) (h : Keeps b0 s) :
    Keeps b0 (wantShed n i c s) := by
  unfold wantShed
  with_reducible
    try conv => arg 2; whnf
    iterate 40 all_goals try ((
      first
        | assumption | intro _ | apply keeps_ite | split | refine keeps_pair (by assumption) ?_
        | refine keeps_same ?_ rfl rfl rfl)
      <;> try conv => arg 2; whnf)

theorem dropShed_keeps {b0 : State} (n : Nat) (s : State) (h : Keeps b0 s) :
    Keeps b0 (dropShed n s) := by
  unfold dropShed
  with_reducible
    try conv => arg 2; whnf
    iterate 40 all_goals try ((
      first
        | assumption | intro _ | refine keeps_same ?_ rfl rfl rfl)
      <;> try conv => arg 2; whnf)

theorem raiseShort_keeps {b0 : State} (n : Nat) (s : State) (h : Keeps b0 s) :
    Keeps b0 (raiseShort n s) := by
  unfold raiseShort
  with_reducible
    try conv => arg 2; whnf
    iterate 40 all_goals try ((
      first
        | assumption | intro _ | apply fireEvent_keeps | apply raiseError_keeps | apply keeps_ite
        | refine keeps_same ?_ rfl rfl rfl)
      <;> try conv => arg 2; whnf)

theorem endShort_keeps {b0 : State} (n : Nat) (s : State) (h : Keeps b0 s) :
    Keeps b0 (endShort n s) := by
  unfold endShort
  with_reducible
    try conv => arg 2; whnf
    iterate 40 all_goals try ((
      first
        | assumption | intro _ | apply errCleared_keeps | apply keeps_ite | refine keeps_same ?_ rfl rfl rfl)
      <;> try conv => arg 2; whnf)

theorem placeShort_keeps {b0 : State} (n : Nat) (i : Nat) (s : State) (h : Keeps b0 s) :
    Keeps b0 (placeShort n i s) := by
  unfold placeShort
  with_reducible
    try conv => arg 2; whnf
    iterate 40 all_goals try ((
      first
        | assumption | intro _ | apply applyAdds_keeps | apply dropShed_keeps | apply endShort_keeps
        | apply raiseShort_keeps | apply showTarget_keeps | split | refine keeps_pair (by assumption) ?_
        | refine keeps_same ?_ rfl rfl rfl)
      <;> try conv => arg 2; whnf)

theorem placeBetter_keeps {b0 : State} (n : Nat) (i : Nat) (s : State) (h : Keeps b0 s) :
    Keeps b0 (placeBetter n i s) := by
  unfold placeBetter
  with_reducible
    try conv => arg 2; whnf
    iterate 40 all_goals try ((
      first
        | assumption | intro _ | apply applyAdds_keeps | apply dropShed_keeps | apply endShort_keeps
        | apply showTarget_keeps | apply wantShed_keeps | apply keeps_ite | refine memWrite_wf _ _ _ ?_
        | refine memWriteBytes_wf _ _ ?_ | refine Memory.wf_filter _ ?_ | split | refine keeps_pair (by assumption) ?_
        | refine keeps_same ?_ rfl rfl rfl)
      <;> try conv => arg 2; whnf)

theorem placeOut_keeps {b0 : State} (n : Nat) (s : State) (h : Keeps b0 s) :
    Keeps b0 (placeOut n s) := by
  unfold placeOut
  with_reducible
    try conv => arg 2; whnf
    iterate 40 all_goals try ((
      first
        | assumption | intro _ | apply placeBetter_keeps | apply placeShort_keeps | apply setShares_keeps
        | apply keeps_ite | refine keeps_same ?_ rfl rfl rfl)
      <;> try conv => arg 2; whnf)

theorem execTargetTick_keeps {b0 : State} (t : Nat) (s : State) (h : Keeps b0 s) :
    KeepsO b0 (execTargetTick t s) := by
  unfold execTargetTick
  with_reducible
    try conv => arg 2; whnf
    iterate 40 all_goals try ((
      first
        | assumption | intro _ | apply placeOut_keeps | apply recomputeAll_keeps | apply resplit_keeps
        | apply takeNeutral_keeps | apply at_keeps | apply keepsO_next | apply keeps_foldl)
      <;> try conv => arg 2; whnf)

theorem commitShed_keeps {b0 : State} (n : Nat) (c : List Nat) (s : State) (h : Keeps b0 s) :
    Keeps b0 (commitShed n c s) := by
  unfold commitShed
  with_reducible
    try conv => arg 2; whnf
    iterate 40 all_goals try ((
      first
        | assumption | intro _ | apply cutLegs_keeps | apply fireEvent_keeps | apply setShares_keeps
        | apply keeps_foldl | apply keeps_ite | refine keeps_same ?_ rfl rfl rfl)
      <;> try conv => arg 2; whnf)

theorem execShedCommit_keeps {b0 : State} (t : Nat) (op : Nat) (s : State) (h : Keeps b0 s) :
    KeepsO b0 (execShedCommit t op s) := by
  unfold execShedCommit
  with_reducible
    try conv => arg 2; whnf
    iterate 40 all_goals try ((
      first
        | assumption | intro _ | apply commitShed_keeps | apply recompute_keeps | apply at_keeps | apply keepsO_next
        | apply keeps_ite | apply keepsO_ite | split | refine keeps_pair (by assumption) ?_
        | refine keeps_same ?_ rfl rfl rfl)
      <;> try conv => arg 2; whnf)

theorem execShedHoldoffExpiry_keeps {b0 : State} (t : Nat) (op : Nat) (s : State) (h : Keeps b0 s) :
    KeepsO b0 (execShedHoldoffExpiry t op s) := by
  unfold execShedHoldoffExpiry
  with_reducible
    try conv => arg 2; whnf
    iterate 40 all_goals try ((
      first
        | assumption | intro _ | apply at_keeps | apply keepsO_next | refine keeps_same ?_ rfl rfl rfl)
      <;> try conv => arg 2; whnf)

theorem execGroupRelease_keeps {b0 : State} (t : Nat) (pg : Nat) (s : State) (h : Keeps b0 s) :
    KeepsO b0 (execGroupRelease t pg s) := by
  unfold execGroupRelease
  with_reducible
    try conv => arg 2; whnf
    iterate 40 all_goals try ((
      first
        | assumption | intro _ | apply startOpening_keeps | apply at_keeps | apply keepsO_next | apply keeps_ite
        | apply keepsO_ite | split | refine keeps_pair (by assumption) ?_ | refine keeps_same ?_ rfl rfl rfl)
      <;> try conv => arg 2; whnf)

theorem execSlcPlaceRead_keeps {b0 : State} (t : Nat) (line : Nat) (seq : Nat) (s : State) (h : Keeps b0 s) :
    KeepsO b0 (execSlcPlaceRead t line seq s) := by
  unfold execSlcPlaceRead
  with_reducible
    try conv => arg 2; whnf
    iterate 40 all_goals try ((
      first
        | assumption | intro _ | apply doneOut_keeps | apply runCmd_keeps | apply at_keeps | apply keepsO_next
        | apply keeps_foldl | apply keeps_ite | apply keeps_ite2 | apply keepsO_ite | refine memWrite_wf _ _ _ ?_
        | refine memWriteBytes_wf _ _ ?_ | refine Memory.wf_filter _ ?_ | split | exact ⟨rfl, rfl⟩ | rfl
        | refine keeps_pair (by assumption) ?_ | refine keeps_same ?_ rfl rfl rfl | refine keeps_out ?_ rfl rfl rfl
        | refine keeps_new ?_ rfl rfl rfl | refine keeps_mem ?_ rfl rfl rfl ?_)
      <;> try conv => arg 2; whnf)

/-! ### SysCmd.lean -/

theorem execSysIdentify_keeps {b0 : State} (t : Nat) (line : Nat) (seq : Nat) (s : State) (h : Keeps b0 s) :
    KeepsO b0 (execSysIdentify t line seq s) := by
  unfold execSysIdentify
  with_reducible
    try conv => arg 2; whnf
    iterate 40 all_goals try ((
      first
        | assumption | intro _ | apply done_keeps | apply runCmd_keeps | apply at_keeps | apply keepsO_next
        | apply keeps_foldl | apply keeps_ite | apply keeps_ite2 | apply keepsO_ite | refine memWrite_wf _ _ _ ?_
        | refine memWriteBytes_wf _ _ ?_ | refine Memory.wf_filter _ ?_ | split | exact ⟨rfl, rfl⟩ | rfl
        | refine keeps_pair (by assumption) ?_ | refine keeps_same ?_ rfl rfl rfl | refine keeps_out ?_ rfl rfl rfl
        | refine keeps_new ?_ rfl rfl rfl | refine keeps_mem ?_ rfl rfl rfl ?_)
      <;> try conv => arg 2; whnf)

theorem quit_keeps {b0 : State} (m : Mode) (s : State) (h : Keeps b0 s) :
    Keeps b0 (quit m s) := by
  unfold quit
  with_reducible
    try conv => arg 2; whnf
    iterate 40 all_goals try ((
      first
        | assumption | apply leaveSluice_keeps | apply sendLeave_keeps | apply stopClaim_keeps)
      <;> try conv => arg 2; whnf)

theorem sealNoted_keeps {b0 : State} (s : State) (h : Keeps b0 s) :
    Keeps b0 (sealNoted s) := by
  unfold sealNoted
  with_reducible
    try conv => arg 2; whnf
    iterate 40 all_goals try ((
      first
        | assumption | apply lglEvent_keeps | apply settleLgl_keeps | apply keeps_ite)
      <;> try conv => arg 2; whnf)

theorem modeSet_keeps {b0 : State} (c : Cmd) (s : State) (h : Keeps b0 s) :
    Keeps b0 (modeSet c s) := by
  unfold modeSet
  with_reducible
    try conv => arg 2; whnf
    iterate 40 all_goals try ((
      first
        | assumption | intro _ | apply accept_keeps | apply clearCause_keeps | apply done_keeps | apply quit_keeps
        | apply sealNoted_keeps | apply setCause_keeps | apply setMode_keeps | apply toM3_keeps | split
        | refine keeps_pair (by assumption) ?_ | refine keeps_same ?_ rfl rfl rfl)
      <;> try conv => arg 2; whnf)

theorem execSysModeSet_keeps {b0 : State} (t : Nat) (line : Nat) (seq : Nat) (s : State) (h : Keeps b0 s) :
    KeepsO b0 (execSysModeSet t line seq s) := by
  unfold execSysModeSet
  with_reducible
    try conv => arg 2; whnf
    iterate 40 all_goals try ((
      first
        | assumption | intro _ | apply finish_keeps | apply modeSet_keeps | apply runCmd_keeps | apply at_keeps
        | apply keepsO_next | apply keeps_foldl | apply keeps_ite | apply keeps_ite2 | apply keepsO_ite
        | refine memWrite_wf _ _ _ ?_ | refine memWriteBytes_wf _ _ ?_ | refine Memory.wf_filter _ ?_ | split
        | exact ⟨rfl, rfl⟩ | rfl | refine keeps_pair (by assumption) ?_ | refine keeps_same ?_ rfl rfl rfl
        | refine keeps_out ?_ rfl rfl rfl | refine keeps_new ?_ rfl rfl rfl | refine keeps_mem ?_ rfl rfl rfl ?_)
      <;> try conv => arg 2; whnf)

theorem execSysReset_keeps {b0 : State} (t : Nat) (line : Nat) (seq : Nat) (s : State) (h : Keeps b0 s) :
    KeepsO b0 (execSysReset t line seq s) := by
  unfold execSysReset
  with_reducible
    try conv => arg 2; whnf
    iterate 40 all_goals try ((
      first
        | assumption | intro _ | apply accept_keeps | apply resetControl_keeps | apply runCmd_keeps | apply at_keeps
        | apply keepsO_next | apply keeps_foldl | apply keeps_ite | apply keeps_ite2 | apply keepsO_ite
        | refine memWrite_wf _ _ _ ?_ | refine memWriteBytes_wf _ _ ?_ | refine Memory.wf_filter _ ?_ | split
        | exact ⟨rfl, rfl⟩ | rfl | refine keeps_pair (by assumption) ?_ | refine keeps_same ?_ rfl rfl rfl
        | refine keeps_out ?_ rfl rfl rfl | refine keeps_new ?_ rfl rfl rfl | refine keeps_mem ?_ rfl rfl rfl ?_)
      <;> try conv => arg 2; whnf)

theorem freeRecords_keeps {b0 : State} (n : Nat) (s : State) (h : Keeps b0 s) : Keeps b0 (freeRecords n s) := by
  unfold freeRecords
  extract_lets seqs sy s1
  have h1 : Keeps b0 s1 := ⟨h.pending, h.mem, h.v1p, h.v1s, h.now, h.ctr, h.out, h.gates,
    fun z => ⟨le_trans (by rw [List.length_drop]; exact Nat.sub_le _ _) (h.errs z).1, (h.errs z).2⟩, h.fuses, h.low⟩
  refine sweepLsw_keeps _ (evalSafe_keeps _ (keeps_ite (clearCause_keeps _ _ (keeps_same h1 rfl rfl rfl)) h1))

theorem execSysErrqRead_keeps {b0 : State} (t : Nat) (line : Nat) (seq : Nat) (s : State) (h : Keeps b0 s) :
    KeepsO b0 (execSysErrqRead t line seq s) := by
  unfold execSysErrqRead
  with_reducible
    try conv => arg 2; whnf
    iterate 40 all_goals try ((
      first
        | assumption | intro _ | apply doneOut_keeps | apply freeRecords_keeps | apply rejectRange_keeps
        | apply runCmd_keeps | apply at_keeps | apply keepsO_next | apply keeps_ite | apply keepsO_ite
        | refine keeps_same ?_ rfl rfl rfl)
      <;> try conv => arg 2; whnf)

theorem execSysCounters_keeps {b0 : State} (t : Nat) (line : Nat) (seq : Nat) (s : State) (h : Keeps b0 s) :
    KeepsO b0 (execSysCounters t line seq s) := by
  unfold execSysCounters
  with_reducible
    try conv => arg 2; whnf
    iterate 40 all_goals try ((
      first
        | assumption | intro _ | apply doneOut_keeps | apply runCmd_keeps | apply at_keeps | apply keepsO_next
        | apply keeps_foldl | apply keeps_ite | apply keeps_ite2 | apply keepsO_ite | refine memWrite_wf _ _ _ ?_
        | refine memWriteBytes_wf _ _ ?_ | refine Memory.wf_filter _ ?_ | split | exact ⟨rfl, rfl⟩ | rfl
        | refine keeps_pair (by assumption) ?_ | refine keeps_same ?_ rfl rfl rfl | refine keeps_out ?_ rfl rfl rfl
        | refine keeps_new ?_ rfl rfl rfl | refine keeps_mem ?_ rfl rfl rfl ?_)
      <;> try conv => arg 2; whnf)

theorem writeFw_keeps {b0 : State} (k : Nat) (ofs : Nat) (data : List Nat) (s : State) (h : Keeps b0 s) :
    Keeps b0 (writeFw k ofs data s) := by
  unfold writeFw
  with_reducible
    try conv => arg 2; whnf
    iterate 40 all_goals try ((
      first
        | assumption | intro _ | apply setFw_keeps | apply keeps_ite | refine memWrite_wf _ _ _ ?_
        | refine memWriteBytes_wf _ _ ?_ | refine Memory.wf_filter _ ?_ | refine keeps_same ?_ rfl rfl rfl
        | refine keeps_mem ?_ rfl rfl rfl ?_)
      <;> try conv => arg 2; whnf)

theorem fwWriteFails_keeps {b0 : State} (c : Cmd) (s : State) (h : Keeps b0 s) :
    Keeps b0 (fwWriteFails c s) := by
  unfold fwWriteFails
  with_reducible
    try conv => arg 2; whnf
    iterate 40 all_goals try ((
      first
        | assumption | apply finish_keeps | apply xsp0WriteFail_keeps)
      <;> try conv => arg 2; whnf)

theorem execSysFwStage_keeps {b0 : State} (t : Nat) (line : Nat) (seq : Nat) (ok : Bool) (s : State) (h : Keeps b0 s) :
    KeepsO b0 (execSysFwStage t line seq ok s) := by
  unfold execSysFwStage
  with_reducible
    try conv => arg 2; whnf
    iterate 40 all_goals try ((
      first
        | assumption | intro _ | apply accept_keeps | apply done_keeps | apply fwWriteFails_keeps
        | apply rejectFormat_keeps | apply rejectRange_keeps | apply runCmd_keeps | apply writeFw_keeps
        | apply at_keeps | apply keepsO_next | apply keeps_ite | apply keepsO_ite | refine keeps_same ?_ rfl rfl rfl)
      <;> try conv => arg 2; whnf)

theorem execFwVerifyDone_keeps {b0 : State} (t : Nat) (fault : Nat) (version : Nat) (legalSha : Nat) (s : State) (h : Keeps b0 s) :
    KeepsO b0 (execFwVerifyDone t fault version legalSha s) := by
  unfold execFwVerifyDone
  with_reducible
    try conv => arg 2; whnf
    iterate 40 all_goals try ((
      first
        | assumption | intro _ | apply finish_keeps | apply setFw_keeps | apply slotReadErr_keeps | apply at_keeps
        | apply keepsO_next | apply keeps_ite | apply keepsO_ite | split | refine keeps_pair (by assumption) ?_
        | refine keeps_same ?_ rfl rfl rfl)
      <;> try conv => arg 2; whnf)

theorem execSysFwPrefer_keeps {b0 : State} (t : Nat) (line : Nat) (seq : Nat) (s : State) (h : Keeps b0 s) :
    KeepsO b0 (execSysFwPrefer t line seq s) := by
  unfold execSysFwPrefer
  with_reducible
    try conv => arg 2; whnf
    iterate 40 all_goals try ((
      first
        | assumption | intro _ | apply rejectRange_keeps | apply runCmd_keeps | apply at_keeps | apply keepsO_next
        | apply keeps_ite | apply keepsO_ite | refine keeps_same ?_ rfl rfl rfl)
      <;> try conv => arg 2; whnf)

theorem execRomStatus_keeps {b0 : State} (t : Nat) (line : Nat) (seq : Nat) (s : State) (h : Keeps b0 s) :
    KeepsO b0 (execRomStatus t line seq s) := by
  unfold execRomStatus
  with_reducible
    try conv => arg 2; whnf
    iterate 40 all_goals try ((
      first
        | assumption | intro _ | apply done_keeps | apply runCmd_keeps | apply at_keeps | apply keepsO_next
        | apply keeps_foldl | apply keeps_ite | apply keeps_ite2 | apply keepsO_ite | refine memWrite_wf _ _ _ ?_
        | refine memWriteBytes_wf _ _ ?_ | refine Memory.wf_filter _ ?_ | split | exact ⟨rfl, rfl⟩ | rfl
        | refine keeps_pair (by assumption) ?_ | refine keeps_same ?_ rfl rfl rfl | refine keeps_out ?_ rfl rfl rfl
        | refine keeps_new ?_ rfl rfl rfl | refine keeps_mem ?_ rfl rfl rfl ?_)
      <;> try conv => arg 2; whnf)

theorem execRomLoad_keeps {b0 : State} (t : Nat) (line : Nat) (seq : Nat) (ok : Bool) (s : State) (h : Keeps b0 s) :
    KeepsO b0 (execRomLoad t line seq ok s) := by
  unfold execRomLoad
  with_reducible
    try conv => arg 2; whnf
    iterate 40 all_goals try ((
      first
        | assumption | intro _ | apply done_keeps | apply fwWriteFails_keeps | apply rejectFormat_keeps
        | apply rejectRange_keeps | apply runCmd_keeps | apply writeFw_keeps | apply at_keeps | apply keepsO_next
        | apply keeps_ite | apply keepsO_ite | refine memWrite_wf _ _ _ ?_ | refine memWriteBytes_wf _ _ ?_
        | refine Memory.wf_filter _ ?_ | refine keeps_same ?_ rfl rfl rfl | refine keeps_mem ?_ rfl rfl rfl ?_)
      <;> try conv => arg 2; whnf)

theorem execRomBoot_keeps {b0 : State} (t : Nat) (line : Nat) (seq : Nat) (fault : Nat) (version : Nat) (legalSha : Nat) (s : State) (h : Keeps b0 s) :
    KeepsO b0 (execRomBoot t line seq fault version legalSha s) := by
  unfold execRomBoot
  with_reducible
    try conv => arg 2; whnf
    iterate 40 all_goals try ((
      first
        | assumption | intro _ | apply bootFails_keeps | apply done_keeps | apply finish_keeps
        | apply rejectRange_keeps | apply runCmd_keeps | apply setFw_keeps | apply slotReadErr_keeps
        | apply startSlot_keeps | apply at_keeps | apply keepsO_next | apply keeps_foldl | apply keeps_ite
        | apply keeps_ite2 | apply keepsO_ite | refine memWrite_wf _ _ _ ?_ | refine memWriteBytes_wf _ _ ?_
        | refine Memory.wf_filter _ ?_ | split | exact ⟨rfl, rfl⟩ | rfl | refine keeps_pair (by assumption) ?_
        | refine keeps_same ?_ rfl rfl rfl | refine keeps_out ?_ rfl rfl rfl | refine keeps_new ?_ rfl rfl rfl
        | refine keeps_mem ?_ rfl rfl rfl ?_)
      <;> try conv => arg 2; whnf)

/-! ### Reg.lean -/

theorem captureUppers_keeps {b0 : State} (l : List Nat) (s : State) (h : Keeps b0 s) :
    Keeps b0 (captureUppers l s) := by
  unfold captureUppers
  with_reducible
    try conv => arg 2; whnf
    iterate 40 all_goals try ((
      first
        | assumption | intro _ | refine keeps_same ?_ rfl rfl rfl)
      <;> try conv => arg 2; whnf)

theorem readStep_keeps {b0 : State} (m : Master) (a : Nat) (s : State) (h : Keeps b0 s) :
    Keeps b0 (readStep m a s).2 := by
  unfold readStep
  with_reducible
    try conv => arg 2; whnf
    iterate 40 all_goals try ((
      first
        | assumption | intro _ | apply captureUppers_keeps | apply v1Advance_keeps | apply keeps_foldl
        | apply keeps_ite | apply keeps_ite2 | refine memWrite_wf _ _ _ ?_ | refine memWriteBytes_wf _ _ ?_
        | refine Memory.wf_filter _ ?_ | split | exact ⟨rfl, rfl⟩ | rfl | refine keeps_pair (by assumption) ?_
        | refine keeps_same ?_ rfl rfl rfl | refine keeps_out ?_ rfl rfl rfl | refine keeps_new ?_ rfl rfl rfl
        | refine keeps_mem ?_ rfl rfl rfl ?_)
      <;> try conv => arg 2; whnf)

theorem canCtrlWrite_keeps {b0 : State} (c : Nat) (word : Nat) (s : State) (h : Keeps b0 s) :
    Keeps b0 (canCtrlWrite c word s) := by
  unfold canCtrlWrite
  with_reducible
    try conv => arg 2; whnf
    iterate 40 all_goals try ((
      first
        | assumption | apply startRecovery_keeps | apply wrw_keeps | apply keeps_ite)
      <;> try conv => arg 2; whnf)

theorem objectWrite_keeps {b0 : State} (c : Nat) (m : Nat) (ofs : Nat) (word : Nat) (s : State) (h : Keeps b0 s) :
    Keeps b0 (objectWrite c m ofs word s) := by
  unfold objectWrite
  with_reducible
    try conv => arg 2; whnf
    iterate 40 all_goals try ((
      first
        | assumption | intro _ | apply setCan_keeps | apply wrw_keeps | apply keeps_ite
        | refine keeps_same ?_ rfl rfl rfl)
      <;> try conv => arg 2; whnf)

theorem canWrite_keeps {b0 : State} (m : Master) (c : Nat) (o : Nat) (word : Nat) (s : State) (h : Keeps b0 s) :
    Keeps b0 (canWrite m c o word s) := by
  unfold canWrite
  with_reducible
    try conv => arg 2; whnf
    iterate 40 all_goals try ((
      first
        | assumption | intro _ | apply canCtrlWrite_keeps | apply firewallBlock_keeps | apply objectWrite_keeps
        | apply setCan_keeps | apply txcancelWrite_keeps | apply txreqWrite_keeps | apply wrw_keeps | apply keeps_ite
        | refine keeps_same ?_ rfl rfl rfl)
      <;> try conv => arg 2; whnf)

theorem dinCfgWrite_keeps {b0 : State} (n : Nat) (word : Nat) (s : State) (h : Keeps b0 s) :
    Keeps b0 (dinCfgWrite n word s) := by
  unfold dinCfgWrite
  with_reducible
    try conv => arg 2; whnf
    iterate 40 all_goals try ((
      first
        | assumption | intro _ | apply dinDrive_keeps | apply evgError_keeps | apply wrw_keeps | apply keeps_ite
        | refine keeps_same ?_ rfl rfl rfl)
      <;> try conv => arg 2; whnf)

theorem evgStatWrite_keeps {b0 : State} (word : Nat) (s : State) (h : Keeps b0 s) :
    Keeps b0 (evgStatWrite word s) := by
  unfold evgStatWrite
  with_reducible
    try conv => arg 2; whnf
    iterate 40 all_goals try ((
      first
        | assumption | intro _ | refine keeps_same ?_ rfl rfl rfl)
      <;> try conv => arg 2; whnf)

theorem hostDenied_keeps {b0 : State} (o : Nat) (s : State) (h : Keeps b0 s) :
    Keeps b0 (hostDenied o s) := by
  unfold hostDenied
  with_reducible
    try conv => arg 2; whnf
    iterate 40 all_goals try ((
      first
        | assumption | intro _ | apply countAccess_keeps | apply evgError_keeps | apply keeps_ite
        | refine keeps_same ?_ rfl rfl rfl)
      <;> try conv => arg 2; whnf)

theorem latchWrite_keeps {b0 : State} (word : Nat) (f : Nat → Option Nat) (s : State) (h : Keeps b0 s) :
    Keeps b0 (latchWrite word f s) := by
  unfold latchWrite
  with_reducible
    try conv => arg 2; whnf
    iterate 40 all_goals try ((
      first
        | assumption | intro _ | apply setSrc_keeps | apply keeps_foldl | split | refine keeps_pair (by assumption) ?_
        | refine keeps_same ?_ rfl rfl rfl)
      <;> try conv => arg 2; whnf)

theorem msixWrite_keeps {b0 : State} (o : Nat) (word : Nat) (s : State) (h : Keeps b0 s) :
    Keeps b0 (msixWrite o word s) := by
  unfold msixWrite
  with_reducible
    try conv => arg 2; whnf
    iterate 40 all_goals try ((
      first
        | assumption | intro _ | apply sendVector_keeps | apply wrw_keeps | apply keeps_ite
        | refine keeps_same ?_ rfl rfl rfl)
      <;> try conv => arg 2; whnf)

theorem evgWrite_keeps {b0 : State} (m : Master) (o : Nat) (word : Nat) (s : State) (h : Keeps b0 s) :
    Keeps b0 (evgWrite m o word s) := by
  unfold evgWrite
  with_reducible
    try conv => arg 2; whnf
    iterate 40 all_goals try ((
      first
        | assumption | apply claimWrite_keeps | apply clrpendWrite_keeps | apply dinCfgWrite_keeps
        | apply eoiWrite_keeps | apply evgStatWrite_keeps | apply hostDenied_keeps | apply latchWrite_keeps
        | apply masterCfgWrite_keeps | apply msixWrite_keeps | apply setpendWrite_keeps | apply stormedWrite_keeps
        | apply keeps_ite)
      <;> try conv => arg 2; whnf)

theorem mtrWrite_keeps {b0 : State} (o : Nat) (word : Nat) (s : State) (h : Keeps b0 s) :
    Keeps b0 (mtrWrite o word s) := by
  unfold mtrWrite
  with_reducible
    try conv => arg 2; whnf
    iterate 40 all_goals try ((
      first
        | assumption | intro _ | apply captureWide_keeps | apply setTp_keeps | apply keeps_ite
        | refine keeps_same ?_ rfl rfl rfl)
      <;> try conv => arg 2; whnf)

theorem answerRead_keeps {b0 : State} (m : Master) (a : Nat) (s : State) (h : Keeps b0 s) :
    Keeps b0 (answerRead m a s) := by
  unfold answerRead
  with_reducible
    try conv => arg 2; whnf
    iterate 40 all_goals try ((
      first
        | assumption | apply emit_keeps | apply readStep_keeps)
      <;> try conv => arg 2; whnf)

theorem hostRead_keeps {b0 : State} (a : Nat) (s : State) (h : Keeps b0 s) :
    Keeps b0 (hostRead a s) := by
  unfold hostRead
  with_reducible
    try conv => arg 2; whnf
    iterate 40 all_goals try ((
      first
        | assumption | intro _ | apply drawFree_keeps | apply emit_keeps | apply readStep_keeps | apply keeps_ite
        | split | refine keeps_pair (by assumption) ?_ | refine keeps_same ?_ rfl rfl rfl)
      <;> try conv => arg 2; whnf)

theorem deviceRead_keeps {b0 : State} (m : Master) (a : Nat) (s : State) (h : Keeps b0 s) :
    Keeps b0 (deviceRead m a s) := by
  unfold deviceRead
  with_reducible
    try conv => arg 2; whnf
    iterate 40 all_goals try ((
      first
        | assumption | intro _ | apply answerRead_keeps | apply lockRead_keeps | apply readCapHi_keeps
        | apply rxinfoRead_keeps | apply keeps_ite | split | refine keeps_pair (by assumption) ?_
        | refine keeps_same ?_ rfl rfl rfl)
      <;> try conv => arg 2; whnf)

theorem execRegRead_keeps {b0 : State} (t : Nat) (m : Master) (addr : Nat) (s : State) (h : Keeps b0 s) :
    KeepsO b0 (execRegRead t m addr s) := by
  unfold execRegRead
  with_reducible
    try conv => arg 2; whnf
    iterate 40 all_goals try ((
      first
        | assumption | apply deviceRead_keeps | apply emit_keeps | apply firewallBlock_keeps | apply hostRead_keeps
        | apply at_keeps | apply keepsO_next | apply keeps_ite | apply keepsO_ite)
      <;> try conv => arg 2; whnf)

theorem mbxErrWrite_keeps {b0 : State} (word : Nat) (s : State) (h : Keeps b0 s) :
    Keeps b0 (mbxErrWrite word s) := by
  unfold mbxErrWrite
  with_reducible
    try conv => arg 2; whnf
    iterate 40 all_goals try ((
      first
        | assumption | intro _ | exact ⟨rfl, rfl⟩ | refine keeps_same ?_ rfl rfl rfl)
      <;> try conv => arg 2; whnf)

theorem mbxWrite_keeps {b0 : State} (o : Nat) (word : Nat) (s : State) (h : Keeps b0 s) :
    Keeps b0 (mbxWrite o word s) := by
  unfold mbxWrite
  with_reducible
    try conv => arg 2; whnf
    iterate 40 all_goals try ((
      first
        | assumption | intro _ | apply countAccess_keeps | apply cqDoorbell_keeps | apply irqWrite_keeps
        | apply mbxErrWrite_keeps | apply queueCfgWrite_keeps | apply setV1_keeps | apply sqDoorbell_keeps
        | apply v1RegWrite_keeps | apply keeps_ite | exact ⟨rfl, rfl⟩ | refine keeps_same ?_ rfl rfl rfl)
      <;> try conv => arg 2; whnf)

theorem hostWrite_keeps {b0 : State} (a : Nat) (word : Nat) (s : State) (h : Keeps b0 s) :
    Keeps b0 (hostWrite a word s) := by
  unfold hostWrite
  with_reducible
    try conv => arg 2; whnf
    iterate 40 all_goals try ((
      first
        | assumption | intro _ | apply countAccess_keeps | apply evgWrite_keeps | apply heartbeat_keeps
        | apply mbxWrite_keeps | apply wrw_keeps | apply keeps_ite | split | refine keeps_pair (by assumption) ?_
        | refine keeps_same ?_ rfl rfl rfl)
      <;> try conv => arg 2; whnf)

theorem tsuWrite_keeps {b0 : State} (m : Master) (o : Nat) (word : Nat) (s : State) (h : Keeps b0 s) :
    Keeps b0 (tsuWrite m o word s) := by
  unfold tsuWrite
  with_reducible
    try conv => arg 2; whnf
    iterate 40 all_goals try ((
      first
        | assumption | intro _ | apply armWrite_keeps | apply setCc_keeps | apply keeps_ite
        | refine keeps_same ?_ rfl rfl rfl)
      <;> try conv => arg 2; whnf)

theorem coreMbxWrite_keeps {b0 : State} (o : Nat) (word : Nat) (s : State) (h : Keeps b0 s) :
    Keeps b0 (coreMbxWrite o word s) := by
  unfold coreMbxWrite
  with_reducible
    try conv => arg 2; whnf
    iterate 40 all_goals try ((
      first
        | assumption | intro _ | apply irqWrite_keeps | apply mbxErrWrite_keeps | apply setV1_keeps | apply keeps_ite
        | exact ⟨rfl, rfl⟩ | refine keeps_same ?_ rfl rfl rfl)
      <;> try conv => arg 2; whnf)

theorem sluiceWrite_keeps {b0 : State} (a : Nat) (word : Nat) (s : State) (h : Keeps b0 s) :
    Keeps b0 (sluiceWrite a word s) := by
  unfold sluiceWrite
  with_reducible
    try conv => arg 2; whnf
    iterate 40 all_goals try ((
      first
        | assumption | apply wrw_keeps | apply keeps_ite)
      <;> try conv => arg 2; whnf)

theorem blockWrite_keeps {b0 : State} (m : Master) (blk : Nat) (o : Nat) (word : Nat) (s : State) (h : Keeps b0 s) :
    Keeps b0 (blockWrite m blk o word s) := by
  unfold blockWrite
  with_reducible
    try conv => arg 2; whnf
    iterate 40 all_goals try ((
      first
        | assumption | intro _ | apply canWrite_keeps | apply coreMbxWrite_keeps | apply evgWrite_keeps
        | apply firewallBlock_keeps | apply kickWrite_keeps | apply mtrWrite_keeps | apply requestSwap_keeps
        | apply tsuWrite_keeps | apply keeps_ite | split | refine keeps_pair (by assumption) ?_
        | refine keeps_same ?_ rfl rfl rfl)
      <;> try conv => arg 2; whnf)

theorem deviceWrite_keeps {b0 : State} (m : Master) (a : Nat) (word : Nat) (s : State) (h : Keeps b0 s) :
    Keeps b0 (deviceWrite m a word s) := by
  unfold deviceWrite
  with_reducible
    try conv => arg 2; whnf
    iterate 40 all_goals try ((
      first
        | assumption | intro _ | apply blockWrite_keeps | apply firewallBlock_keeps | apply reedbedWrite_keeps
        | apply sluiceWrite_keeps | apply wrw_keeps | apply keeps_ite | split | refine keeps_pair (by assumption) ?_
        | refine keeps_same ?_ rfl rfl rfl)
      <;> try conv => arg 2; whnf)

theorem execRegWrite_keeps {b0 : State} (t : Nat) (m : Master) (addr : Nat) (word : Nat) (s : State) (h : Keeps b0 s) :
    KeepsO b0 (execRegWrite t m addr word s) := by
  unfold execRegWrite
  with_reducible
    try conv => arg 2; whnf
    iterate 40 all_goals try ((
      first
        | assumption | apply deviceWrite_keeps | apply hostWrite_keeps | apply at_keeps | apply keepsO_next
        | apply keeps_ite | apply keepsO_ite)
      <;> try conv => arg 2; whnf)

theorem spiWord_keeps {b0 : State} (a : Nat) (s : State) (h : Keeps b0 s) :
    Keeps b0 (spiWord a s).2 := by
  unfold spiWord
  with_reducible
    try conv => arg 2; whnf
    iterate 40 all_goals try ((
      first
        | assumption | intro _ | apply v1Advance_keeps | apply keeps_foldl | apply keeps_ite | apply keeps_ite2
        | refine memWrite_wf _ _ _ ?_ | refine memWriteBytes_wf _ _ ?_ | refine Memory.wf_filter _ ?_ | split
        | exact ⟨rfl, rfl⟩ | rfl | refine keeps_pair (by assumption) ?_ | refine keeps_same ?_ rfl rfl rfl
        | refine keeps_out ?_ rfl rfl rfl | refine keeps_new ?_ rfl rfl rfl | refine keeps_mem ?_ rfl rfl rfl ?_)
      <;> try conv => arg 2; whnf)

theorem spiReadWords_keeps {b0 : State} (x0_ : Nat) (x1_ : Nat) (x2_ : State) (h : Keeps b0 x2_) :
    Keeps b0 (spiReadWords x0_ x1_ x2_).2 := by
  induction x0_ generalizing x2_ x1_ with
  | zero => exact h
  | succ _ ih =>
    unfold spiReadWords
    with_reducible
      try conv => arg 2; whnf
      iterate 40 all_goals try ((
        first
          | assumption | apply ih | apply spiWord_keeps | apply keeps_ite)
        <;> try conv => arg 2; whnf)

theorem execSpiRead_keeps {b0 : State} (t : Nat) (addr : Nat) (n : Nat) (s : State) (h : Keeps b0 s) :
    KeepsO b0 (execSpiRead t addr n s) := by
  unfold execSpiRead
  with_reducible
    try conv => arg 2; whnf
    iterate 40 all_goals try ((
      first
        | assumption | apply emit_keeps | apply spiReadWords_keeps | apply at_keeps | apply keepsO_next)
      <;> try conv => arg 2; whnf)

/-! ### Jtag.lean -/

theorem bndScan_keeps {b0 : State} (cells : List Bool) (tdi : List Bool) (s : State) (h : Keeps b0 s) :
    Keeps b0 (bndScan cells tdi s) := by
  unfold bndScan
  with_reducible
    try conv => arg 2; whnf
    iterate 40 all_goals try ((
      first
        | assumption | intro _ | apply keeps_ite | refine keeps_same ?_ rfl rfl rfl | refine keeps_out ?_ rfl rfl rfl)
      <;> try conv => arg 2; whnf)

/-! ### Diag.lean -/

theorem diagWords_keeps {b0 : State} (x0_ : Nat) (x1_ : Nat) (x2_ : State) (h : Keeps b0 x2_) :
    Keeps b0 (diagWords x0_ x1_ x2_).2 := by
  induction x0_ generalizing x2_ x1_ with
  | zero => exact h
  | succ _ ih =>
    unfold diagWords
    with_reducible
      try conv => arg 2; whnf
      iterate 40 all_goals try ((
        first
          | assumption | intro _ | apply ih | apply firewallBlock_keeps | apply readStep_keeps | apply keeps_foldl
          | apply keeps_ite | apply keeps_ite2 | refine memWrite_wf _ _ _ ?_ | refine memWriteBytes_wf _ _ ?_
          | refine Memory.wf_filter _ ?_ | split | exact ⟨rfl, rfl⟩ | rfl | refine keeps_pair (by assumption) ?_
          | refine keeps_same ?_ rfl rfl rfl | refine keeps_out ?_ rfl rfl rfl | refine keeps_new ?_ rfl rfl rfl
          | refine keeps_mem ?_ rfl rfl rfl ?_)
        <;> try conv => arg 2; whnf)

theorem execDiagRegRead_keeps {b0 : State} (t : Nat) (line : Nat) (seq : Nat) (s : State) (h : Keeps b0 s) :
    KeepsO b0 (execDiagRegRead t line seq s) := by
  unfold execDiagRegRead
  with_reducible
    try conv => arg 2; whnf
    iterate 40 all_goals try ((
      first
        | assumption | intro _ | apply diagWords_keeps | apply done_keeps | apply doneOut_keeps
        | apply rejectRange_keeps | apply runCmd_keeps | apply at_keeps | apply keepsO_next | apply keeps_foldl
        | apply keeps_ite | apply keeps_ite2 | apply keepsO_ite | refine memWrite_wf _ _ _ ?_
        | refine memWriteBytes_wf _ _ ?_ | refine Memory.wf_filter _ ?_ | split | exact ⟨rfl, rfl⟩ | rfl
        | refine keeps_pair (by assumption) ?_ | refine keeps_same ?_ rfl rfl rfl | refine keeps_out ?_ rfl rfl rfl
        | refine keeps_new ?_ rfl rfl rfl | refine keeps_mem ?_ rfl rfl rfl ?_)
      <;> try conv => arg 2; whnf)

theorem cfgWordWrite_keeps {b0 : State} (blk : Nat) (o : Nat) (word : Nat) (s : State) (h : Keeps b0 s) :
    Keeps b0 (cfgWordWrite blk o word s) := by
  unfold cfgWordWrite
  with_reducible
    try conv => arg 2; whnf
    iterate 40 all_goals try ((
      first
        | assumption | intro _ | apply wrw_keeps | apply keeps_foldl)
      <;> try conv => arg 2; whnf)

theorem diagWrite_keeps {b0 : State} (blk : Nat) (o : Nat) (word : Nat) (s : State) (h : Keeps b0 s) :
    Keeps b0 (diagWrite blk o word s) := by
  unfold diagWrite
  with_reducible
    try conv => arg 2; whnf
    iterate 40 all_goals try ((
      first
        | assumption | intro _ | apply armCompare_keeps | apply canWrite_keeps | apply cfgWordWrite_keeps
        | apply evgWrite_keeps | apply mtrWrite_keeps | apply requestSwap_keeps | apply setCc_keeps
        | apply tpFollow_keeps | apply keeps_ite | split | refine keeps_pair (by assumption) ?_
        | refine keeps_same ?_ rfl rfl rfl)
      <;> try conv => arg 2; whnf)

theorem execDiagRegWrite_keeps {b0 : State} (t : Nat) (line : Nat) (seq : Nat) (s : State) (h : Keeps b0 s) :
    KeepsO b0 (execDiagRegWrite t line seq s) := by
  unfold execDiagRegWrite
  with_reducible
    try conv => arg 2; whnf
    iterate 40 all_goals try ((
      first
        | assumption | intro _ | apply diagWrite_keeps | apply done_keeps | apply rejectRange_keeps
        | apply runCmd_keeps | apply at_keeps | apply keepsO_next | apply keeps_foldl | apply keeps_ite
        | apply keeps_ite2 | apply keepsO_ite | refine memWrite_wf _ _ _ ?_ | refine memWriteBytes_wf _ _ ?_
        | refine Memory.wf_filter _ ?_ | split | exact ⟨rfl, rfl⟩ | rfl | refine keeps_pair (by assumption) ?_
        | refine keeps_same ?_ rfl rfl rfl | refine keeps_out ?_ rfl rfl rfl | refine keeps_new ?_ rfl rfl rfl
        | refine keeps_mem ?_ rfl rfl rfl ?_)
      <;> try conv => arg 2; whnf)

theorem execDiagFreeze_keeps {b0 : State} (t : Nat) (line : Nat) (seq : Nat) (s : State) (h : Keeps b0 s) :
    KeepsO b0 (execDiagFreeze t line seq s) := by
  unfold execDiagFreeze
  with_reducible
    try conv => arg 2; whnf
    iterate 40 all_goals try ((
      first
        | assumption | intro _ | apply accept_keeps | apply requestFreeze_keeps | apply runCmd_keeps | apply at_keeps
        | apply keepsO_next | refine keeps_same ?_ rfl rfl rfl)
      <;> try conv => arg 2; whnf)

theorem execFreezeRequest_keeps {b0 : State} (t : Nat) (low : Bool) (s : State) (h : Keeps b0 s) :
    KeepsO b0 (execFreezeRequest t low s) := by
  unfold execFreezeRequest
  with_reducible
    try conv => arg 2; whnf
    iterate 40 all_goals try ((
      first
        | assumption | intro _ | apply requestFreeze_keeps | apply at_keeps | apply keepsO_next | apply keeps_ite
        | apply keepsO_ite | refine keeps_same ?_ rfl rfl rfl)
      <;> try conv => arg 2; whnf)

theorem stepResume_keeps {b0 : State} (s : State) (h : Keeps b0 s) :
    Keeps b0 (stepResume s) := by
  unfold stepResume
  with_reducible
    try conv => arg 2; whnf
    iterate 40 all_goals try ((
      first
        | assumption | intro _ | apply rebaseDev_keeps | refine keeps_same ?_ rfl rfl rfl)
      <;> try conv => arg 2; whnf)

theorem firePassed_keeps {b0 : State} (before : State) (s : State) (h : Keeps b0 s) :
    Keeps b0 (firePassed before s) := by
  unfold firePassed
  with_reducible
    try conv => arg 2; whnf
    iterate 40 all_goals try ((
      first
        | assumption | intro _ | apply fireCompare_keeps | apply setCc_keeps | apply keeps_foldl | apply keeps_ite
        | refine keeps_same ?_ rfl rfl rfl)
      <;> try conv => arg 2; whnf)

theorem recordGap_keeps {b0 : State} (before : State) (s : State) (h : Keeps b0 s) :
    Keeps b0 (recordGap before s) := by
  unfold recordGap
  with_reducible
    try conv => arg 2; whnf
    iterate 40 all_goals try ((
      first
        | assumption | intro _ | apply lglEvent_keeps | apply recoverUpTo_keeps | apply settleLgl_keeps
        | apply keeps_ite | refine keeps_same ?_ rfl rfl rfl)
      <;> try conv => arg 2; whnf)

theorem restartClocks_keeps {b0 : State} (s : State) (h : Keeps b0 s) :
    Keeps b0 (restartClocks s) := by
  unfold restartClocks
  with_reducible
    try conv => arg 2; whnf
    iterate 40 all_goals try ((
      first
        | assumption | intro _ | apply lswReturn_keeps | apply portDown_keeps | apply setMode_keeps
        | apply keeps_foldl | apply keeps_ite | refine keeps_same ?_ rfl rfl rfl)
      <;> try conv => arg 2; whnf)

theorem resumeFreeze_keeps {b0 : State} (s : State) (h : Keeps b0 s) :
    Keeps b0 (resumeFreeze s) := by
  unfold resumeFreeze
  with_reducible
    try conv => arg 2; whnf
    iterate 40 all_goals try ((
      first
        | assumption | intro _ | apply finishAccepted_keeps | apply firePassed_keeps | apply recordGap_keeps
        | apply restartClocks_keeps | apply stepResume_keeps | split | refine keeps_pair (by assumption) ?_
        | refine keeps_same ?_ rfl rfl rfl)
      <;> try conv => arg 2; whnf)

theorem tapRefuse_keeps {b0 : State} (s : State) (h : Keeps b0 s) :
    Keeps b0 (tapRefuse s) := by
  unfold tapRefuse
  with_reducible
    try conv => arg 2; whnf
    iterate 40 all_goals try ((
      first
        | assumption | intro _ | refine keeps_same ?_ rfl rfl rfl)
      <;> try conv => arg 2; whnf)

theorem execDbgResume_keeps {b0 : State} (t : Nat) (s : State) (h : Keeps b0 s) :
    KeepsO b0 (execDbgResume t s) := by
  unfold execDbgResume
  with_reducible
    try conv => arg 2; whnf
    iterate 40 all_goals try ((
      first
        | assumption | apply resumeFreeze_keeps | apply tapRefuse_keeps | apply at_keeps | apply keepsO_next
        | apply keeps_ite | apply keepsO_ite)
      <;> try conv => arg 2; whnf)

theorem execHeartbeatCheckResume_keeps {b0 : State} (t : Nat) (s : State) (h : Keeps b0 s) :
    KeepsO b0 (execHeartbeatCheckResume t s) := by
  unfold execHeartbeatCheckResume
  with_reducible
    try conv => arg 2; whnf
    iterate 40 all_goals try ((
      first
        | assumption | intro _ | apply at_keeps | apply keepsO_next | apply keeps_ite | apply keepsO_ite
        | refine keeps_same ?_ rfl rfl rfl)
      <;> try conv => arg 2; whnf)

theorem execDbgReset_keeps {b0 : State} (t : Nat) (s : State) (h : Keeps b0 s) :
    KeepsO b0 (execDbgReset t s) := by
  unfold execDbgReset
  with_reducible
    try conv => arg 2; whnf
    iterate 40 all_goals try ((
      first
        | assumption | apply resetControl_keeps | apply tapRefuse_keeps | apply at_keeps | apply keepsO_next
        | apply keeps_ite | apply keepsO_ite)
      <;> try conv => arg 2; whnf)

theorem execDbgAddr_keeps {b0 : State} (t : Nat) (addr : Nat) (s : State) (h : Keeps b0 s) :
    KeepsO b0 (execDbgAddr t addr s) := by
  unfold execDbgAddr
  with_reducible
    try conv => arg 2; whnf
    iterate 40 all_goals try ((
      first
        | assumption | intro _ | apply tapRefuse_keeps | apply at_keeps | apply keepsO_next | apply keeps_ite
        | apply keepsO_ite | refine keeps_same ?_ rfl rfl rfl)
      <;> try conv => arg 2; whnf)

theorem execDbgRead_keeps {b0 : State} (t : Nat) (eccDbl : Bool) (s : State) (h : Keeps b0 s) :
    KeepsO b0 (execDbgRead t eccDbl s) := by
  unfold execDbgRead
  with_reducible
    try conv => arg 2; whnf
    iterate 40 all_goals try ((
      first
        | assumption | intro _ | apply emit_keeps | apply firewallCount_keeps | apply tapRefuse_keeps | apply at_keeps
        | apply keepsO_next | apply keeps_ite | apply keepsO_ite | refine keeps_same ?_ rfl rfl rfl)
      <;> try conv => arg 2; whnf)

theorem leavePins_keeps {b0 : State} (code : Nat) (s : State) (h : Keeps b0 s) :
    Keeps b0 (leavePins code s) := by
  unfold leavePins
  with_reducible
    try conv => arg 2; whnf
    iterate 40 all_goals try ((
      first
        | assumption | apply resetControl_keeps | apply keeps_ite)
      <;> try conv => arg 2; whnf)

theorem extestLow_keeps {b0 : State} (s : State) (h : Keeps b0 s) :
    Keeps b0 (extestLow s) := by
  unfold extestLow
  with_reducible
    try conv => arg 2; whnf
    iterate 40 all_goals try ((
      first
        | assumption | intro _ | apply gateLow_keeps | apply stopClaim_keeps | apply turnOff_keeps | apply keeps_foldl
        | apply keeps_ite | refine keeps_same ?_ rfl rfl rfl)
      <;> try conv => arg 2; whnf)

theorem execTapInstructionLoad_keeps {b0 : State} (t : Nat) (code : Nat) (cells : List Bool) (tdi : List Bool) (s : State) (h : Keeps b0 s) :
    KeepsO b0 (execTapInstructionLoad t code cells tdi s) := by
  unfold execTapInstructionLoad
  with_reducible
    try conv => arg 2; whnf
    iterate 40 all_goals try ((
      first
        | assumption | intro _ | apply bndScan_keeps | apply emit_keeps | apply extestLow_keeps
        | apply leavePins_keeps | apply at_keeps | apply keepsO_next | apply keeps_ite | apply keepsO_ite
        | refine keeps_same ?_ rfl rfl rfl)
      <;> try conv => arg 2; whnf)

theorem execTapReset_keeps {b0 : State} (t : Nat) (s : State) (h : Keeps b0 s) :
    KeepsO b0 (execTapReset t s) := by
  unfold execTapReset
  with_reducible
    try conv => arg 2; whnf
    iterate 40 all_goals try ((
      first
        | assumption | intro _ | apply leavePins_keeps | apply at_keeps | apply keepsO_next
        | refine keeps_same ?_ rfl rfl rfl)
      <;> try conv => arg 2; whnf)

end Sys2Proof.Machine
end

