-- ==== Sys2Proof/Laws/Mailbox.lean ====
section
/-! SUPPORT. What `runCmd` does, case by case: the one way every mailbox command starts. -/

namespace Sys2Proof.Machine

/-- A command that starts and that nothing forbids runs its own body. -/
theorem runCmd_starts {line seq op : Nat} {illegal : Cmd → State → Bool} {body : Cmd → State → State} {s : State} {c : Cmd}
    (h : Starts line seq op s c) (hi : illegal c s = false) : runCmd line seq op illegal body s = body c s := by
  obtain ⟨hs, i, hc, ho, hm, hv, hr⟩ := h
  have hw : ¬((i.owner && !ownerOk s c) = true) := by
    cases h : i.owner
    · simp
    · simp [ho h]
  unfold runCmd
  simp only [hs, hc]
  rw [if_neg hw, if_neg (by rw [hm]; simp), if_neg (by rw [hv, hi]; simp), if_neg (Nat.not_lt.mpr hr)]

/-- A command that nothing forbids by state. -/
theorem runCmd_free {line seq op : Nat} {body : Cmd → State → State} {s : State} {c : Cmd}
    (h : Starts line seq op s c) : runCmd line seq op neverIllegal body s = body c s := runCmd_starts h rfl

/-- An owner-only command of a caller that is not the owner is ignored with IGNORED_NOT_OWNER (R84). -/
theorem runCmd_notOwner {line seq op : Nat} {illegal : Cmd → State → Bool} {body : Cmd → State → State} {s : State} {c : Cmd}
    {i : CmdInfo} (hs : startCmd s line seq op = some c) (hc : cmdInfo op = some i) (hi : i.owner = true)
    (ho : ownerOk s c = false) : runCmd line seq op illegal body s = finish c { status := stNotOwner } s := by
  unfold runCmd
  simp only [hs, hc]
  rw [if_pos (by rw [hi, ho]; rfl)]

/-- A command whose mode does not admit it is ignored with IGNORED_MODE and the mode as DETAIL (R78, R84). -/
theorem runCmd_mode {line seq op : Nat} {illegal : Cmd → State → Bool} {body : Cmd → State → State} {s : State} {c : Cmd}
    {i : CmdInfo} (hs : startCmd s line seq op = some c) (hc : cmdInfo op = some i)
    (ho : (i.owner && !ownerOk s c) = false) (hm : i.modes.contains s.sys.mode.num = false) :
    runCmd line seq op illegal body s = finish c { status := stMode, detail := s.sys.mode.num } s := by
  unfold runCmd
  simp only [hs, hc]
  rw [if_neg (by rw [ho]; simp), if_pos (by rw [hm]; simp)]

/-- A command that M2's recovery, the state or the caller's rights forbid is ignored with IGNORED_ILLEGAL (R62, R78, R84). -/
theorem runCmd_illegal {line seq op : Nat} {illegal : Cmd → State → Bool} {body : Cmd → State → State} {s : State} {c : Cmd}
    {i : CmdInfo} (hs : startCmd s line seq op = some c) (hc : cmdInfo op = some i)
    (ho : (i.owner && !ownerOk s c) = false) (hm : i.modes.contains s.sys.mode.num = true)
    (hi : (recoveryBars s op || illegal c s) = true) :
    runCmd line seq op illegal body s = finish c { status := stIllegal } s := by
  unfold runCmd
  simp only [hs, hc]
  rw [if_neg (by rw [ho]; simp), if_neg (by rw [hm]; simp), if_pos hi]

/-- Where no command can start, nothing happens. -/
theorem runCmd_none {line seq op : Nat} {illegal : Cmd → State → Bool} {body : Cmd → State → State} {s : State}
    (hs : startCmd s line seq op = none) : runCmd line seq op illegal body s = s := by
  unfold runCmd
  simp only [hs]

end Sys2Proof.Machine
end

