-- ==== Sys2Proof/Laws/Sources.lean ====
section
/-! SUPPORT. What firing an event does to the sources and the targets: only the fired source, and EVG_STORM where it
storms, changes, and no target does. -/

namespace Sys2Proof.Machine

@[simp] theorem sendVector_src (v : Nat) (s : State) : (sendVector v s).evg.src = s.evg.src := by
  unfold sendVector; split <;> rfl
@[simp] theorem sendVector_tgt (v : Nat) (s : State) : (sendVector v s).evg.tgt = s.evg.tgt := by
  unfold sendVector; split <;> rfl
@[simp] theorem sendVector_eoiBad (v : Nat) (s : State) : (sendVector v s).evg.eoiBad = s.evg.eoiBad := by
  unfold sendVector; split <;> rfl

@[simp] theorem notifySource_src (b s : State) (n : Nat) : (notifySource b s n).evg.src = s.evg.src := by
  unfold notifySource; dsimp only; split <;> simp
@[simp] theorem notifySource_tgt (b s : State) (n : Nat) : (notifySource b s n).evg.tgt = s.evg.tgt := by
  unfold notifySource; dsimp only; split <;> simp
@[simp] theorem notifySource_eoiBad (b s : State) (n : Nat) : (notifySource b s n).evg.eoiBad = s.evg.eoiBad := by
  unfold notifySource; dsimp only; split <;> simp

@[simp] theorem wakeCore_evg (b s : State) (n : Nat) : (wakeCore b n s).evg = s.evg := by
  unfold wakeCore; dsimp only; split <;> rfl

theorem pendRaw_src (s : State) (n : Nat) : (pendRaw s n).evg.src =
    upd s.evg.src n fun x => { markFired (s.now / 5) x with pending := true } := by simp [pendRaw, setSrc]
@[simp] theorem pendRaw_tgt (s : State) (n : Nat) : (pendRaw s n).evg.tgt = s.evg.tgt := by simp [pendRaw, setSrc]
@[simp] theorem pendRaw_eoiBad (s : State) (n : Nat) : (pendRaw s n).evg.eoiBad = s.evg.eoiBad := by simp [pendRaw, setSrc]

@[simp] theorem fireEvent_tgt (n : Nat) (s : State) : (fireEvent n s).evg.tgt = s.evg.tgt := by
  unfold fireEvent; dsimp only; split
  · rfl
  · split <;> simp [setSrc]

/-- A source that is stormed fires nothing. -/
theorem fireEvent_stormed {n : Nat} {s : State} (h : (get s.evg.src n).stormed = true) : fireEvent n s = s := by
  unfold fireEvent; simp [h]

/-- A source without a storm limit that is not stormed is PENDING after it fires, and no other source changes. -/
theorem fireEvent_free {n : Nat} {s : State} (hn : n < 512) (h : (get s.evg.src n).stormed = false) (he : srcStormExp s n = 0) :
    (get (fireEvent n s).evg.src n).pending = true ∧ ∀ k, k ≠ n → get (fireEvent n s).evg.src k = get s.evg.src k := by
  unfold fireEvent
  simp only [h, he, bne_self_eq_false, Bool.false_and, Bool.false_eq_true, if_false, pendRaw_src, setSrc]
  exact ⟨by simp [get_upd_same _ _ _ hn], fun k hk => by
    rw [get_upd_other _ _ (Ne.symm hk), get_upd_other _ _ (Ne.symm hk)]⟩

/-- Firing a source leaves its ACTIVE bit. -/
theorem fireEvent_active {n : Nat} {s : State} (hn : n < 512) :
    (get (fireEvent n s).evg.src n).active = (get s.evg.src n).active := by
  unfold fireEvent
  dsimp only
  split
  · rfl
  · split
    · simp only [pendRaw_src, setSrc]
      by_cases h24 : n = 24
      · subst h24; simp [get_upd_same _ _ _ hn, markFired]
      · rw [get_upd_other _ _ (Ne.symm h24)]; simp [get_upd_same _ _ _ hn, markFired]
    · simp only [pendRaw_src, setSrc]
      simp [get_upd_same _ _ _ hn, markFired]

/-- The host vectors' messages change no source, no target and no memory. -/
theorem notifyVectors_frame (b s : State) : (notifyVectors b s).evg.src = s.evg.src ∧
    (notifyVectors b s).evg.tgt = s.evg.tgt ∧ (notifyVectors b s).mem = s.mem := by
  unfold notifyVectors
  generalize List.range 32 = l
  have : ∀ z : State, (l.foldl (fun a v => if vectorHigh s v && !vectorHigh b v then sendVector v a else a) z).evg.src = z.evg.src ∧
      (l.foldl (fun a v => if vectorHigh s v && !vectorHigh b v then sendVector v a else a) z).evg.tgt = z.evg.tgt ∧
      (l.foldl (fun a v => if vectorHigh s v && !vectorHigh b v then sendVector v a else a) z).mem = z.mem := by
    induction l with
    | nil => intro z; exact ⟨rfl, rfl, rfl⟩
    | cons w l ih =>
      intro z
      rw [List.foldl_cons]
      split
      · rw [(ih _).1, (ih _).2.1, (ih _).2.2]; simp
      · exact ih z
  exact this s

end Sys2Proof.Machine
end

