-- ==== Sys2Proof/WellFormed.lean ====
section
/-! DEFINITION. Which commands are well formed: every operand within the width or the range the spec gives it. -/

namespace Sys2Proof

/-- A device command names a mailbox line (pairs 0 to 15, v1 instances 16 and 17) and a 16-bit SQ counter (R83). -/
def cmdWf (line seq : Nat) : Bool := line < 18 && seq < 65536

/-- The operands of a command fit. -/
def instrWf : Instr → Bool
  | .railOutOfRange _ _ => true
  | .railsGood _ => true
  | .m1Release _ _ _ readA readB => readA < 6 && readB < 6
  | .bootComplete _ _ _ => true
  | .heartbeatLoss _ => true
  | .keeperGateEnRequest _ => true
  | .rootLoss _ => true
  | .pcieRefclkLoss _ => true
  | .resetPin _ _ => true
  | .watchdogExpiry _ => true
  | .lockstepMismatch _ => true
  | .keeperMxpRepeat _ => true
  | .contactorHoldExpiry _ => true
  | .htrLimitExpiry _ => true
  | .powerWarning _ => true
  | .emergencySave _ => true
  | .powerWarningCleared _ => true
  | .powerWarnClearTimer _ => true
  | .scrubPass _ _ => true
  | .errorRaised _ subsys code cls _ => subsys < 16 && 1 ≤ cls && cls ≤ 4 && code < 65536
  | .handlingWindowClose _ _ => true
  | .pcieLinkDown _ => true
  | .pcieHotReset _ => true
  | .queueCreate _ n word => n < 16 && word < 4294967296
  | .queueRundown _ n => n < 16
  | .queueRundownDone _ n => n < 16
  | .sqDoorbell _ n tail => n < 16 && tail < 65536
  | .cqDoorbell _ n head => n < 16 && head < 65536
  | .entryConsume _ ecc host => ecc < 3 && bytesOk host
  | .mbxIrqWrite _ n word => n < 16 && word < 4294967296
  | .cqIrqTimer _ n => n < 16
  | .hostSleepSet _ _ _ => true
  | .mgmtSubmit _ f first entries => f.wf && first < 65536 && 1 ≤ entries.length && entries.length ≤ 16 && entries.all (fun e => e.length == 64 && bytesOk e)
  | .mgmtHostCredit _ f head => f.wf && head < 65536
  | .mgmtData _ f ofs data => f.wf && 1 ≤ data.length && data.length ≤ 1024 && bytesOk data && ofs < 4294967296
  | .mgmtCreditTimer _ n => n < 16
  | .mgmtResendTimer _ n => n < 16
  | .arpRequest _ mac addr => mac < 2 && addr < 4294967296
  | .icmpEcho _ mac addr data => mac < 2 && addr < 4294967296 && bytesOk data
  | .spiWrite _ addr words crc => addr < 65536 && addr % 4 == 0 && 1 ≤ words.length && words.length ≤ 64 && wordsOk words && crc < 256
  | .spiRead _ addr n => addr < 65536 && addr % 4 == 0 && 1 ≤ n && n ≤ 64
  | .v1Go _ _ => true
  | .v1DoneClear _ _ => true
  | .v1DdataAccess _ _ _ word => word < 4294967296
  | .regWrite _ _ addr word => addr % 4 == 0 && addr < 4294967296 && word < 4294967296
  | .ownChallenge _ line seq => cmdWf line seq
  | .ownClaim _ line seq _ => cmdWf line seq
  | .ownHeartbeat _ line seq => cmdWf line seq
  | .ownHbWrite _ => true
  | .ownHandover _ line seq => cmdWf line seq
  | .ownRelease _ line seq => cmdWf line seq
  | .ownStatus _ line seq => cmdWf line seq
  | .electionWindowClose _ => true
  | .ownHbLate _ => true
  | .ownHbLapse _ => true
  | .ethLinkChange _ mac _ => mac < 2
  | .ethFrameRx _ mac _ _ => mac < 2
  | .t1sLinkChange _ port _ => port < 4
  | .eventSourceFire _ src _ => src < 512
  | .stormWindow _ => true
  | .evgClaim _ _ tgt src => tgt < 8 && src < 512
  | .evgEoi _ _ tgt src => tgt < 8 && src < 512
  | .evgSetpend _ _ k word => k < 16 && word < 4294967296
  | .evgClrpend _ _ k word => k < 16 && word < 4294967296
  | .evgSrcCfgWrite _ _ src word => src < 512 && word < 4294967296
  | .evgStormedWrite _ _ k word => k < 16 && word < 4294967296
  | .wakeLatchEdge _ src _ _ => src < 512
  | .dinDebounceExpiry _ din _ => din < 32
  | .evgStatus _ line seq => cmdWf line seq
  | .evgSrcSet _ line seq => cmdWf line seq
  | .evgStormRelease _ line seq => cmdWf line seq
  | .evgWait _ line seq => cmdWf line seq
  | .evgWaitEnd _ line seq _ => cmdWf line seq
  | .targetTick _ => true
  | .shedCommit _ op => op < 4
  | .shedHoldoffExpiry _ op => op < 4
  | .groupRelease _ pg => pg < 6
  | .roundStart _ paux draw intake0 intake1 => paux < 4294967296 && intake0 < 4294967296 && intake1 < 4294967296 && -2147483648 ≤ draw && draw < 2147483648
  | .demand _ m => m.wf
  | .roleWaitExpiry _ role => role < 4096
  | .rootPass _ role => role < 4096
  | .grant _ m => m.wf
  | .joinTimeout _ => true
  | .intake _ m => m.wf
  | .leafRoundStart _ paux draw => paux < 4294967296 && -2147483648 ≤ draw && draw < 2147483648
  | .slcStatus _ line seq => cmdWf line seq
  | .slcTableRead _ line seq => cmdWf line seq
  | .slcMapRead _ line seq => cmdWf line seq
  | .slcPlaceRead _ line seq => cmdWf line seq
  | .slcClassSet _ line seq => cmdWf line seq
  | .groupValley _ g vg => g < 6 && windowOk vg
  | .respreadDone _ g => g < 6
  | .pwmLoadPoint _ leg _ current => leg < 36 && windowOk current
  | .dclinkCheck _ chans => chans.length == 48 && chans.all windowOk
  | .legOcLimit _ leg fast => leg < 36 && windowOk fast
  | .legOcNeg _ leg fast => leg < 36 && windowOk fast
  | .legOcTrip _ leg fast => leg < 36 && windowOk fast
  | .legOcLatch _ leg => leg < 36
  | .gfltFault _ leg _ => leg < 36
  | .matrixCloseRequest _ g n => g < 6 && n < 4
  | .contactorCloseTimeout _ c => c.wf
  | .contactorOpenRequest _ c => c.wf
  | .contactorZeroReached _ c => c.wf
  | .openNotZero _ c => c.wf
  | .contactorWeld _ c => c.wf
  | .busBleedExpiry _ n => n < 4
  | .pwrStatus _ line seq => cmdWf line seq
  | .pwrFaultClear _ line seq => cmdWf line seq
  | .pwrLegExclude _ line seq => cmdWf line seq
  | .pwrMdatRead _ line seq => cmdWf line seq
  | .pwrLoopRead _ line seq => cmdWf line seq
  | .pwrLoopBudget _ line seq => cmdWf line seq
  | .outputLoopSample _ n ts vout => n < 4 && ts < 4294967296 && windowOk vout
  | .trackingRequest _ g n _ => g < 6 && n < 4
  | .trackDwellExpiry _ g => g < 6
  | .trackFail _ g => g < 6
  | .insulationCheckRequest _ n g vrref => n < 4 && g < 6 && vrref < 2048
  | .insulationCheckEnd _ n => n < 4
  | .weldTestEnd _ n => n < 4
  | .outputVoltageRead _ n vout vgs => n < 4 && windowOk vout && vgs.length == 6 && vgs.all windowOk
  | .brakeEnd _ n => n < 4
  | .brakeLong _ n => n < 4
  | .crowbarLegOff _ leg => leg < 36
  | .fbLost _ ch => ch < 48
  | .mclkLost _ k => k < 6
  | .fbFrozen _ ch => ch < 48
  | .fbClear _ ch => ch < 48
  | .slotRelease _ slot ain volts => slot < 64 && ain.length ≤ 256 && ain.all i32 && volts.length ≤ 6 && volts.all windowOk
  | .slotComplete _ slot _ _ => slot < 64
  | .slotDeadline _ slot => slot < 64
  | .lpeOvrClear _ slot => slot < 64
  | .lpeSwapReq _ _ => true
  | .reedbedRamWrite _ addr word => addr % 4 == 0 && 0x58000000 ≤ addr && addr < 0x5800E000 && word < 4294967296
  | .rtdConversion _ ts bad => ts.length == 24 && ts.all i32 && bad.all (fun k => k < 24)
  | .flowLost _ k => k < 8
  | .cblFlow _ n => n < 4
  | .cableModelStep _ flow => flow.length == 8 && flow.all (fun q => q < 4294967296)
  | .cableAuthComplete _ n _ _ _ record ctr => n < 4 && bytesOk record && record.length == 320 && bytesOk ctr && ctr.length == 24
  | .lifeWrite _ n _ acked ctr => n < 4 && acked.length == 4 && bytesOk ctr && ctr.length == 24
  | .lifeHourly _ n => n < 4
  | .lifePendingSave _ => true
  | .coolCanResend _ k => k < 16
  | .cblStatus _ line seq => cmdWf line seq
  | .cblRecordRead _ line seq => cmdWf line seq
  | .cblAuth _ line seq => cmdWf line seq
  | .cblLifeFlush _ line seq => cmdWf line seq
  | .bankUndervoltage _ bank => bank < 4
  | .bankRecovery _ bank => bank < 4
  | .lswCommand _ ch owner _ => ch < 32 && owner < 7
  | .lswThermalShutdown _ ch => ch < 32
  | .lswThermalRelease _ ch => ch < 32
  | .lswRetry _ ch => ch < 32
  | .lswRetryCountReset _ ch => ch < 32
  | .lswOpenLoad _ ch => ch < 32
  | .lswOpenLoadClear _ ch => ch < 32
  | .lswTurnOffClamp _ ch energy => ch < 32 && energy < 4294967296
  | .pgenPeriodStart _ p => p < 8
  | .pickupEnd _ ch => ch < 32
  | .mxpFrame _ words => words.length ≤ 8 && words.all (fun w => w < 16777216)
  | .mxpPickupEnd _ ch => ch < 64
  | .lswStatus _ line seq => cmdWf line seq
  | .lswSet _ line seq => cmdWf line seq
  | .lswClear _ line seq => cmdWf line seq
  | .mxpStatus _ line seq => cmdWf line seq
  | .cpDutySet _ n duty => n < 4 && (duty == 0||duty == 1000||(10 ≤ duty && duty ≤ 969))
  | .cpSample _ n _ mv => n < 4 && -32768 ≤ mv && mv < 32768
  | .ppConversion _ n mv => n < 4 && mv < 8192
  | .ppBandAccept _ n => n < 4
  | .slacMessage _ n _ => n < 4
  | .vclSlacFail _ n => n < 4
  | .slacRetry _ n => n < 4
  | .appProtocolRequest _ n offers => n < 4 && offers.all (fun o => o.1 < 256 && 1 ≤ o.2 && o.2 ≤ 7)
  | .vehicleMessage _ n req _ stack rsp => n < 4 && req.wf && bytesOk stack && stack.length ≤ 1192 && bytesOk rsp && rsp.length ≤ 2004
  | .cableCheckRequest _ n => n < 4
  | .lockFeedback _ n _ => n < 4
  | .lockTimeout _ n => n < 4
  | .waitReadyMet _ n g vrref => n < 4 && g < 6 && vrref < 2048
  | .vclWaitTimeout _ n => n < 4
  | .prechargeRequest _ n g => n < 4 && g < 6
  | .certRelay _ n body => n < 4 && bytesOk body && body.length ≤ 8192
  | .vclTimeout _ n => n < 4
  | .lockRelease _ n => n < 4
  | .capZeroTimeout _ n => n < 4
  | .ckptAckTimeout _ n => n < 4
  | .vehStatus _ line seq => cmdWf line seq
  | .vehSessionRead _ line seq => cmdWf line seq
  | .vehAuthorize _ line seq => cmdWf line seq
  | .vehStop _ line seq => cmdWf line seq
  | .vehExportSet _ line seq => cmdWf line seq
  | .vehCertReply _ line seq => cmdWf line seq
  | .vehPortEnable _ line seq => cmdWf line seq
  | .canFrameRx _ c f => c < 6 && f.wf
  | .canObjLockRead _ _ c obj ofs => c < 6 && obj < 128 && ofs % 4 == 0 && (ofs == 12||(24 ≤ ofs && ofs ≤ 88))
  | .canRxinfoRead _ _ c obj => c < 6 && obj < 128
  | .canLockTo _ c obj => c < 6 && obj < 128
  | .canTxreq _ _ c k word _ => c < 6 && k < 4 && word < 4294967296
  | .canTxDone _ c obj sof _ => c < 6 && obj < 128 && sof < 18446744073709551616
  | .canBusError _ c e _ => c < 6 && e.wf
  | .canTxcancel _ _ c k word _ => c < 6 && k < 4 && word < 4294967296
  | .canCtrlRecover _ _ c => c < 6
  | .canRecoveryDone _ c => c < 6
  | .canProtocolException _ c => c < 6
  | .canModeSwitch _ c => c < 6
  | .canStatus _ line seq => cmdWf line seq
  | .canObjRead _ line seq => cmdWf line seq
  | .canObjWrite _ line seq => cmdWf line seq
  | .canTxCancel _ line seq => cmdWf line seq
  | .canRecover _ line seq => cmdWf line seq
  | .dcMeterSample _ n v vs i1 i16 tdie _ _ _ => n < 4 && i32 v && i32 vs && i32 i1 && i32 i16 && i32 tdie
  | .testPulseEnd _ k => k < 6
  | .senseInvalid _ n => n < 4
  | .senseValid _ n => n < 4
  | .acCycle _ k period _ v vq cur tdie => k < 2 && w32 period && v.length == 3 && vq.length == 3 && cur.length == 4 && i32 tdie
  | .acHalfCycle _ k u => k < 2 && u.length == 3 && u.all w32
  | .harmonicWindow _ k groups => k < 2 && groups.length == 7 && groups.all (fun g => g.length == 63 && g.all w32)
  | .latchTick _ => true
  | .mtrSnapCapture _ => true
  | .wideWindowEnd _ => true
  | .meterSelftest _ dc ac => dc.length == 4 && ac.length == 2
  | .meterCrosscheckFail _ n => n < 4
  | .mtrOverrange _ ch => ch < 6
  | .periodicSave _ _ => true
  | .lossBoundRecord _ => true
  | .mtrStatus _ line seq => cmdWf line seq
  | .mtrRead _ line seq => cmdWf line seq
  | .mtrHarmRead _ line seq => cmdWf line seq
  | .mtrEventRead _ line seq => cmdWf line seq
  | .mtrExtremeReset _ line seq => cmdWf line seq
  | .mtrCalWrite _ line seq => cmdWf line seq
  | .mtrCalCommit _ line seq => cmdWf line seq
  | .mtrTpSet _ line seq => cmdWf line seq
  | .sessionOpen _ => true
  | .sessionClose _ => true
  | .paramLoad _ => true
  | .calCommit _ => true
  | .timeInfo _ ofs _ => -9223372036854775808 ≤ ofs && ofs < 9223372036854775808
  | .roleRequest _ => true
  | .legalHeartbeat _ => true
  | .legalHeartbeatStall _ => true
  | .lglLost _ => true
  | .legalRestartDone _ => true
  | .legalStartupDone _ => true
  | .sealChange _ _ => true
  | .legalBoundary _ => true
  | .logRetry _ _ => true
  | .legalTimeCheck _ => true
  | .legalDisplayFrame _ => true
  | .displayScreenAdvance _ => true
  | .opticalSignOn _ addr => bytesOk addr && addr.length ≤ 32
  | .opticalAck _ option rate => option < 256 && rate < 256
  | .opticalTimeout _ => true
  | .lglStatus _ line seq => cmdWf line seq
  | .lglLogRead _ line seq => cmdWf line seq
  | .lglParamLoad _ line seq _ => cmdWf line seq
  | .lglCreditSet _ line seq => cmdWf line seq
  | .lglWindowSet _ line seq => cmdWf line seq
  | .keyRemask _ => true
  | .cryptoRequest _ user _ _ => user < 6
  | .cryptoDone _ => true
  | .keyTrngFail _ => true
  | .svcRightsExpiry _ port => 1 ≤ port && port ≤ 5
  | .keyStatus _ line seq => cmdWf line seq
  | .keyPubRead _ line seq => cmdWf line seq
  | .keySvcAuth _ line seq _ => cmdWf line seq
  | .keyWrite _ line seq _ => cmdWf line seq
  | .keyDestroy _ line seq => cmdWf line seq
  | .keyLcSet _ line seq _ => cmdWf line seq
  | .keyAttest _ line seq => cmdWf line seq
  | .trainSend _ p => p < 4
  | .trainRecordRx _ p r _ => p < 4 && r.wf
  | .ozlLinkDown _ p => p < 4
  | .ozlFrameRx _ p f => p < 4 && f.wf
  | .creditBlockRx _ p counts _ => p < 4 && counts.length == 5 && bytesOk counts
  | .creditBlockSend _ p => p < 4
  | .nak _ src cls msg => src < 16384 && (cls == 3||cls == 4) && msg < 65536
  | .topoFlood _ => true
  | .topo _ node member ports => node < 4096 && member < 4 && ports.length ≤ 4100 && ports.all TopoPort.wf
  | .topoEntryExpiry _ node member => node < 4096 && member < 4
  | .ringBreak _ a b => a < 4096 && b < 4096
  | .gatewayDatagram _ mac addr magic target frame => mac < 2 && addr < 281474976710656 && magic < 65536 && target < 16384 && bytesOk frame
  | .tsuCompareArm _ _ k target => k < 16 && target < 4294967296
  | .tsuCompareFire _ k => k < 16
  | .tsuCaptureEdge _ k _ time => k < 16 && time < 18446744073709551616
  | .tsuCaphiRead _ _ k => k < 16
  | .domainSample _ d _ utc interval => d < 2 && utc < 65536 && 1 ≤ interval
  | .domainHoldover _ d => d < 2
  | .domainFree _ d => d < 2
  | .followSwitch _ => true
  | .peerDelayRequest _ p _ => p < 4
  | .pdreq _ p seq _ _ => p < 4 && seq < 4294967296
  | .pdresp _ p seq _ _ _ => p < 4 && seq < 4294967296
  | .syncSend _ tnum => tnum < 2
  | .sync _ p tnum seq rootState utc _ _ _ _ residence src hops msg => p < 4 && tnum < 2 && seq < 4294967296 && rootState < 4 && utc < 65536 && residence.length == 4 && src < 16384 && hops < 4096 && msg < 65536
  | .aonClockRefresh _ => true
  | .ptpMessageRx _ mac number msg => mac < 2 && number < 256 && msg.wf
  | .ptpSyncSend _ mac => mac < 2
  | .timStatus _ line seq => cmdWf line seq
  | .timFollowSet _ line seq => cmdWf line seq
  | .timCompareSet _ line seq => cmdWf line seq
  | .timCaptureRead _ line seq => cmdWf line seq
  | .ozlStatus _ line seq => cmdWf line seq
  | .ozlTopoRead _ line seq => cmdWf line seq
  | .ozlPathRead _ line seq => cmdWf line seq
  | .ozlPortRetrain _ line seq => cmdWf line seq
  | .duplexRoleDecide _ => true
  | .claimFrameRx _ hb byte _ => hb < 4 && byte < 256
  | .claimStreamDead _ => true
  | .dpxKick _ => true
  | .claimWdExpiry _ => true
  | .dpxSelLost _ => true
  | .dpxTakeoverFail _ => true
  | .roleSend _ => true
  | .role _ role mode st claim lastClaim cfgVersion deviceId => role < 4 && mode < 16 && st < 4 && w32 claim && w32 lastClaim && w32 cfgVersion && deviceId < 340282366920938463463374607431768211456
  | .dpxPartnerSilent _ => true
  | .dpxMirrorLost _ => true
  | .checkpoint _ n seq state proto msgNo time iReq vTgt vOv flags rest lastRsp => n < 4 && w32 seq && state < 16 && proto < 8 && w32 msgNo && time < 18446744073709551616 && i32 iReq && w32 vTgt && w32 vOv && flags < 16 && bytesOk rest && bytesOk lastRsp && lastRsp.length ≤ 2048
  | .ckptAck _ n seq => n < 4 && w32 seq
  | .vehicleFrameBuffer _ n req len stack rsp => n < 4 && req.wf && len < 65536 && bytesOk stack && stack.length ≤ 1192 && bytesOk rsp && rsp.length ≤ 2004
  | .slcMirror _ round node entries => w32 round && node.length == 20 && bytesOk node && entries.all SlcEntry.wf
  | .lpeSnap _ slot nsec release out states => slot < 64 && nsec < 9 && release < 18446744073709551616 && i32 out && bytesOk states && states.length == 12 * nsec
  | .pwmStateSend _ => true
  | .pwmState _ groups => groups.length == 6 && groups.all PwmGroupRec.wf
  | .loadState _ lswCmd pickupDone mxpOn mxpEco duty => w32 lswCmd && w32 pickupDone && mxpOn < 18446744073709551616 && mxpEco < 18446744073709551616 && duty.length == 4 && duty.all (fun d => d ≤ 1000)
  | .cblState _ n temps iCap pend => n < 4 && temps.length == 6 && temps.all i32 && w32 iCap && pend.length == 4 && pend.all (fun p => p < 18446744073709551616)
  | .prepay _ n _ _ _ flags => n < 4 && w32 flags
  | .leave _ mode => mode < 16
  | .swapReq _ claim => w32 claim
  | .swapConfirm _ => true
  | .swapDue _ => true
  | .resync _ part pct => part.wf && pct ≤ 100
  | .resyncDone _ => true
  | .dpxStatus _ line seq => cmdWf line seq
  | .dpxSwap _ line seq => cmdWf line seq
  | .dpxResync _ line seq => cmdWf line seq
  | .fenZeroCrossing _ _ period => period < 4294967296
  | .fenZcLost _ => true
  | .beaconSend _ => true
  | .beaconRx _ netId gatewayTime zcAgo => netId < 65536 && gatewayTime < 18446744073709551616 && w32 zcAgo
  | .beaconLost _ => true
  | .fenFrameRx _ f => f.wf
  | .soundingRx _ tx slot map => tx < 4096 && slot < 8 && map.wf
  | .toneMapRx _ tx slot map => tx < 4096 && slot < 8 && map.wf
  | .toneMapExpiry _ node slot => node < 4096 && slot < 8
  | .sackRx _ failed => failed.all (fun b => b < 4096)
  | .fenBackoffExpiry _ _ => true
  | .linkMetricSend _ => true
  | .linkMetricRx _ tx own hops _ bler _ => tx < 4096 && w32 own && hops ≤ 6 && bler ≤ 10000
  | .neighbourExpiry _ node => node < 4096
  | .routeChange _ => true
  | .fenStatus _ line seq => cmdWf line seq
  | .fenNeighRead _ line seq => cmdWf line seq
  | .fenTonemapRead _ line seq => cmdWf line seq
  | .fenResound _ line seq => cmdWf line seq
  | .sysIdentify _ line seq => cmdWf line seq
  | .sysModeSet _ line seq => cmdWf line seq
  | .sysReset _ line seq => cmdWf line seq
  | .sysErrqRead _ line seq => cmdWf line seq
  | .sysFwStage _ line seq _ => cmdWf line seq
  | .fwVerifyDone _ fault _ _ => fault < 7
  | .sysFwPrefer _ line seq => cmdWf line seq
  | .sysCounters _ line seq => cmdWf line seq
  | .romStatus _ line seq => cmdWf line seq
  | .romLoad _ line seq _ => cmdWf line seq
  | .romBoot _ line seq fault _ _ => cmdWf line seq && fault < 7
  | .cfgStage _ line seq partnerStatus _ => cmdWf line seq && partnerStatus < 256
  | .cfgValidationDone _ _ => true
  | .cfgCommit _ line seq partnerStatus => cmdWf line seq && partnerStatus < 256
  | .cfgRollback _ line seq partnerStatus => cmdWf line seq && partnerStatus < 256
  | .cfgStatus _ line seq => cmdWf line seq
  | .cfgRead _ line seq => cmdWf line seq
  | .cfgDiscard _ line seq partnerStatus => cmdWf line seq && partnerStatus < 256
  | .cfgPartnerRequest _ req _ => req.wf
  | .diagRegRead _ line seq => cmdWf line seq
  | .diagRegWrite _ line seq => cmdWf line seq
  | .diagFreeze _ line seq => cmdWf line seq
  | .freezeRequest _ _ => true
  | .dbgResume _ => true
  | .dbgReset _ => true
  | .dbgAddr _ addr => addr < 4294967296 && addr % 4 == 0
  | .dbgRead _ _ => true
  | .tapInstructionLoad _ code cells _ => code < 256 && cells.length ≤ 384
  | .tapReset _ => true
  | .heartbeatCheckResume _ => true
  | .vbatLost _ _ => true
  | .claimLapse _ port => 1 ≤ port && port ≤ 5
  | .xsp0WriteDone _ _ => true
  | .trngStartupTest _ => true
  | .dpxSelNChange _ _ => true
  | .dpxSwapFail _ => true
  | .fenSackTimeout _ => true
  | .certReplyTimeout _ n => n < 4
  | .lswCurrentLimit _ ch _ ma => ch < 32 && ma < 16384
  | .canBusIntegration _ c => c < 6
  | .testPulseGapEnd _ k => k < 6
  | .ptpDelayReqSend _ mac _ => mac < 2
  | .regRead _ _ addr => addr % 4 == 0 && addr < 4294967296

end Sys2Proof
end

