-- ==== Sys2Proof/Tests/Slice0.lean ====
section
/-! SUPPORT. Tests: what the well-formedness checks admit and refuse, worked values of the spec, and a witness for every
statement's hypotheses. -/

set_option maxRecDepth 100000
set_option linter.unusedVariables false

open Sys2Proof Sys2Proof.Machine

namespace Sys2Proof.Machine

/-- A command entry: its opcode, no reference, tag 0, then parameter bytes from offset 8. -/
def entryOf (op : Nat) (params : List Nat) : List Nat := [op % 256, op / 256, 0, 0, 0, 0, 0, 0] ++ params

/-- A command of port 1 consumed on line 0. -/
def cmdOf (op : Nat) (params : List Nat) : Cmd := { port := 1, entry := entryOf op params }

/-- The machine after reset, put into a mode, port 1 its owner, with one command consumed on line 0. -/
def cmdState (m : Mode) (c : Cmd) : State := { State.reset with sys.mode := m, mbx.cmds := [c], own.owner := 1 }

/-- `Starts` as a check that runs. -/
def startsB (line seq op : Nat) (s : State) (c : Cmd) : Bool :=
  startCmd s line seq op == some c && match cmdInfo op with
    | some i => (!i.owner || ownerOk s c) && i.modes.contains s.sys.mode.num && !recoveryBars s op && decide (c.refLen ≤ i.refMax)
    | none => false

theorem starts_of {line seq op : Nat} {s : State} {c : Cmd} (h : startsB line seq op s c = true) :
    Starts line seq op s c := by
  unfold startsB at h
  split at h
  · rename_i i hi
    simp only [Bool.and_eq_true, Bool.or_eq_true, decide_eq_true_eq, beq_iff_eq, Bool.not_eq_true'] at h
    exact ⟨h.1, i, hi, fun e => by simpa [e] using h.2.1.1.1, h.2.1.1.2, h.2.1.2, h.2.2⟩
  · simp at h

end Sys2Proof.Machine

namespace Sys2Proof.Tests

/-! ### Well-formedness: one term that each check refuses, and one per checked command that it admits -/

def gFrame : MgmtFrame :=
  { port := 3, src := 0, addr := 0, udp := 0, vlan := none, magic := 0, ver := 0, pair := 0, dir := 0, len := 0, epoch := 0, fseq := 0,
    tagOk := true }

def gDemand : DemandMsg :=
  { node := 0, typ := 1, ver := 1, leave := false, join := false, ack := false, duplex := false, fromLevel := 0, toLevel := 0,
    round := 0, demand := List.replicate 8 0, cmin := 0, draw := 0, floor := 0, limit := 0, upUs := 0, downUs := 0, ackRound := 0 }

def gGrant : GrantMsg :=
  { typ := 2, ver := 1, renewal := false, fallback := false, refused := false, fromLevel := 0, toLevel := 0, round := 0,
    grant := 0, leaseEnd := 0, commit := 0 }

def gIntake : IntakeMsg := { node := 0, typ := 3, ver := 1, set := 0, round := 0, pImport := 0, eImport := 0 }

def gCan : CanFrame :=
  { id := 0, ide := false, fdf := false, brs := false, esi := false, remote := false, dlc := 0, data := [], sof := 0 }

def gTone : ToneMap := { loads := List.replicate 2130 0, rate := 0 }

def gFen : FenFrame :=
  { dst := 0, bcast := false, src := 0, next := 0, typ := 0, prio := 0, hops := 0, fcnt := 0, tx := 0, epoch := 0, tagOk := true,
    body := [], blocks := [], blanked := 0, erased := 0 }

def gTrain : TrainRec := { deviceId := 0, node := 0, member := 0, pair := false, domain := 0, port := 0, ack := false, crcOk := true }

def gOz : OzFrame :=
  { hcrcOk := true, fcsOk := true, aborted := false, tc := 0, ver := 0, bcast := false, seg := false, ctrl := false, dst := 0,
    dstMember := 0, src := 0, srcMember := 0, hops := 0, msg := 0, segIdx := 0, last := true, payload := [] }

/-- Well-formed terms. -/
theorem test_wf_admits_1 : ([
    .m1Release 0 false false 0 0, .errorRaised 0 0 0 1 0, .queueCreate 0 0 0, .queueRundown 0 0,
    .queueRundownDone 0 0, .sqDoorbell 0 0 0, .cqDoorbell 0 0 0, .entryConsume 0 0 [], .mbxIrqWrite 0 0 0,
    .cqIrqTimer 0 0, .mgmtSubmit 0 gFrame 0 [List.replicate 64 0], .mgmtHostCredit 0 gFrame 0,
    .mgmtData 0 gFrame 0 [0], .mgmtCreditTimer 0 0, .mgmtResendTimer 0 0, .arpRequest 0 0 0, .icmpEcho 0 0 0 [],
    .spiWrite 0 0 [0] 0, .spiRead 0 0 1, .v1DdataAccess 0 false false 0, .regWrite 0 .sup 0 0, .ownChallenge 0 0 0,
    .ownClaim 0 0 0 false, .ownHeartbeat 0 0 0, .ownHandover 0 0 0, .ownRelease 0 0 0, .ownStatus 0 0 0,
    .ethLinkChange 0 0 false, .ethFrameRx 0 0 false false, .t1sLinkChange 0 0 false, .eventSourceFire 0 0 false,
    .evgClaim 0 .sup 0 0, .evgEoi 0 .sup 0 0, .evgSetpend 0 .sup 0 0, .evgClrpend 0 .sup 0 0,
    .evgSrcCfgWrite 0 .sup 0 0, .evgStormedWrite 0 .sup 0 0, .wakeLatchEdge 0 0 false false,
    .dinDebounceExpiry 0 0 false, .evgStatus 0 0 0, .evgSrcSet 0 0 0, .evgStormRelease 0 0 0, .evgWait 0 0 0,
    .evgWaitEnd 0 0 0 false, .shedCommit 0 0, .shedHoldoffExpiry 0 0, .groupRelease 0 0, .roundStart 0 0 0 0 0,
    .demand 0 gDemand, .roleWaitExpiry 0 0, .rootPass 0 0, .grant 0 gGrant, .intake 0 gIntake, .leafRoundStart 0 0 0,
    .slcStatus 0 0 0, .slcTableRead 0 0 0, .slcMapRead 0 0 0, .slcPlaceRead 0 0 0, .slcClassSet 0 0 0,
    .groupValley 0 0 [], .respreadDone 0 0, .pwmLoadPoint 0 0 false [], .dclinkCheck 0 (List.replicate 48 []),
    .legOcLimit 0 0 [], .legOcNeg 0 0 [], .legOcTrip 0 0 [], .legOcLatch 0 0, .gfltFault 0 0 false,
    .matrixCloseRequest 0 0 0, .contactorCloseTimeout 0 (.out 0), .contactorOpenRequest 0 (.out 0),
    .contactorZeroReached 0 (.out 0), .openNotZero 0 (.out 0), .contactorWeld 0 (.out 0), .busBleedExpiry 0 0,
    .pwrStatus 0 0 0, .pwrFaultClear 0 0 0, .pwrLegExclude 0 0 0, .pwrMdatRead 0 0 0, .pwrLoopRead 0 0 0,
    .pwrLoopBudget 0 0 0, .outputLoopSample 0 0 0 [], .trackingRequest 0 0 0 .ratio, .trackDwellExpiry 0 0,
    .trackFail 0 0, .insulationCheckRequest 0 0 0 0, .insulationCheckEnd 0 0, .weldTestEnd 0 0,
    .outputVoltageRead 0 0 [] (List.replicate 6 []), .brakeEnd 0 0, .brakeLong 0 0, .crowbarLegOff 0 0, .fbLost 0 0,
    .mclkLost 0 0, .fbFrozen 0 0, .fbClear 0 0, .slotRelease 0 0 [] [], .slotComplete 0 0 0 false, .slotDeadline 0 0,
    .lpeOvrClear 0 0, .reedbedRamWrite 0 0x58000000 0, .rtdConversion 0 (List.replicate 24 0) [], .flowLost 0 0,
    .cblFlow 0 0, .cableModelStep 0 (List.replicate 8 0),
    .cableAuthComplete 0 0 false false false (List.replicate 320 0) (List.replicate 24 0),
    .lifeWrite 0 0 false (List.replicate 4 false) (List.replicate 24 0), .lifeHourly 0 0, .coolCanResend 0 0,
    .cblStatus 0 0 0] : List Instr).all instrWf = true := rfl

/-- Well-formed terms. -/
theorem test_wf_admits_2 : ([
    .cblRecordRead 0 0 0, .cblAuth 0 0 0, .cblLifeFlush 0 0 0, .bankUndervoltage 0 0, .bankRecovery 0 0,
    .lswCommand 0 0 0 false, .lswThermalShutdown 0 0, .lswThermalRelease 0 0, .lswRetry 0 0, .lswRetryCountReset 0 0,
    .lswOpenLoad 0 0, .lswOpenLoadClear 0 0, .lswTurnOffClamp 0 0 0, .pgenPeriodStart 0 0, .pickupEnd 0 0,
    .mxpFrame 0 [], .mxpPickupEnd 0 0, .lswStatus 0 0 0, .lswSet 0 0 0, .lswClear 0 0 0, .mxpStatus 0 0 0,
    .cpDutySet 0 0 0, .cpSample 0 0 false 0, .ppConversion 0 0 0, .ppBandAccept 0 0, .slacMessage 0 0 .start,
    .vclSlacFail 0 0, .slacRetry 0 0, .appProtocolRequest 0 0 [], .vehicleMessage 0 0 .other false [] [],
    .cableCheckRequest 0 0, .lockFeedback 0 0 false, .lockTimeout 0 0, .waitReadyMet 0 0 0 0, .vclWaitTimeout 0 0,
    .prechargeRequest 0 0 0, .certRelay 0 0 [], .vclTimeout 0 0, .lockRelease 0 0, .capZeroTimeout 0 0,
    .ckptAckTimeout 0 0, .vehStatus 0 0 0, .vehSessionRead 0 0 0, .vehAuthorize 0 0 0, .vehStop 0 0 0,
    .vehExportSet 0 0 0, .vehCertReply 0 0 0, .vehPortEnable 0 0 0, .canFrameRx 0 0 gCan,
    .canObjLockRead 0 .sup 0 0 12, .canRxinfoRead 0 .sup 0 0, .canLockTo 0 0 0, .canTxreq 0 .sup 0 0 0 none,
    .canTxDone 0 0 0 0 none, .canBusError 0 0 .ack none, .canTxcancel 0 .sup 0 0 0 none, .canCtrlRecover 0 .sup 0,
    .canRecoveryDone 0 0, .canProtocolException 0 0, .canModeSwitch 0 0, .canStatus 0 0 0, .canObjRead 0 0 0,
    .canObjWrite 0 0 0, .canTxCancel 0 0 0, .canRecover 0 0 0, .dcMeterSample 0 0 0 0 0 0 0 false false false,
    .testPulseEnd 0 0, .senseInvalid 0 0, .senseValid 0 0,
    .acCycle 0 0 0 false (List.replicate 3 default) (List.replicate 3 default) (List.replicate 4 default) 0,
    .acHalfCycle 0 0 (List.replicate 3 0), .harmonicWindow 0 0 (List.replicate 7 (List.replicate 63 0)),
    .meterSelftest 0 (List.replicate 4 false) (List.replicate 2 false), .meterCrosscheckFail 0 0, .mtrOverrange 0 0,
    .mtrStatus 0 0 0, .mtrRead 0 0 0, .mtrHarmRead 0 0 0, .mtrEventRead 0 0 0, .mtrExtremeReset 0 0 0,
    .mtrCalWrite 0 0 0, .mtrCalCommit 0 0 0, .mtrTpSet 0 0 0, .timeInfo 0 0 false, .opticalSignOn 0 [],
    .opticalAck 0 0 0, .lglStatus 0 0 0, .lglLogRead 0 0 0, .lglParamLoad 0 0 0 false, .lglCreditSet 0 0 0,
    .lglWindowSet 0 0 0, .cryptoRequest 0 0 none .hash, .svcRightsExpiry 0 1, .keyStatus 0 0 0, .keyPubRead 0 0 0,
    .keySvcAuth 0 0 0 false, .keyWrite 0 0 0 false, .keyDestroy 0 0 0, .keyLcSet 0 0 0 false, .keyAttest 0 0 0,
    .trainSend 0 0, .trainRecordRx 0 0 gTrain 0, .ozlLinkDown 0 0, .ozlFrameRx 0 0 gOz,
    .creditBlockRx 0 0 (List.replicate 5 0) false, .creditBlockSend 0 0, .nak 0 0 3 0, .topo 0 0 0 [],
    .topoEntryExpiry 0 0 0, .ringBreak 0 0 0] : List Instr).all instrWf = true := rfl

/-- Well-formed terms. -/
theorem test_wf_admits_3 : ([
    .gatewayDatagram 0 0 0 0 0 [], .tsuCompareArm 0 .sup 0 0, .tsuCompareFire 0 0, .tsuCaptureEdge 0 0 false 0,
    .tsuCaphiRead 0 .sup 0, .domainSample 0 0 0 0 1, .domainHoldover 0 0, .domainFree 0 0, .peerDelayRequest 0 0 0,
    .pdreq 0 0 0 0 0, .pdresp 0 0 0 0 0 0, .syncSend 0 0, .sync 0 0 0 0 0 0 0 0 0 0 (List.replicate 4 0) 0 0 0,
    .ptpMessageRx 0 0 0 .management, .ptpSyncSend 0 0, .timStatus 0 0 0, .timFollowSet 0 0 0, .timCompareSet 0 0 0,
    .timCaptureRead 0 0 0, .ozlStatus 0 0 0, .ozlTopoRead 0 0 0, .ozlPathRead 0 0 0, .ozlPortRetrain 0 0 0,
    .claimFrameRx 0 0 0 false, .role 0 0 0 0 0 0 0 0, .checkpoint 0 0 0 0 0 0 0 0 0 0 0 [] [], .ckptAck 0 0 0,
    .vehicleFrameBuffer 0 0 .other 0 [] [], .slcMirror 0 0 (List.replicate 20 0) [], .lpeSnap 0 0 0 0 0 [],
    .pwmState 0 (List.replicate 6 ⟨0, 0, 0, 0, 0, 0⟩), .loadState 0 0 0 0 0 (List.replicate 4 0),
    .cblState 0 0 (List.replicate 6 0) 0 (List.replicate 4 0), .prepay 0 0 0 0 0 0, .leave 0 0, .swapReq 0 0,
    .resync 0 (.slc []) 0, .dpxStatus 0 0 0, .dpxSwap 0 0 0, .dpxResync 0 0 0, .fenZeroCrossing 0 false 0,
    .beaconRx 0 0 0 0, .fenFrameRx 0 gFen, .soundingRx 0 0 0 gTone, .toneMapRx 0 0 0 gTone, .toneMapExpiry 0 0 0,
    .sackRx 0 [], .linkMetricRx 0 0 0 0 false 0 [], .neighbourExpiry 0 0, .fenStatus 0 0 0, .fenNeighRead 0 0 0,
    .fenTonemapRead 0 0 0, .fenResound 0 0 0, .sysIdentify 0 0 0, .sysModeSet 0 0 0, .sysReset 0 0 0,
    .sysErrqRead 0 0 0, .sysFwStage 0 0 0 false, .fwVerifyDone 0 0 0 0, .sysFwPrefer 0 0 0, .sysCounters 0 0 0,
    .romStatus 0 0 0, .romLoad 0 0 0 false, .romBoot 0 0 0 0 0 0, .cfgStage 0 0 0 0 false, .cfgCommit 0 0 0 0,
    .cfgRollback 0 0 0 0, .cfgStatus 0 0 0, .cfgRead 0 0 0, .cfgDiscard 0 0 0 0, .cfgPartnerRequest 0 .discard false,
    .diagRegRead 0 0 0, .diagRegWrite 0 0 0, .diagFreeze 0 0 0, .dbgAddr 0 0, .tapInstructionLoad 0 0 [] [],
    .claimLapse 0 1, .certReplyTimeout 0 0, .lswCurrentLimit 0 0 false 0, .canBusIntegration 0 0,
    .testPulseGapEnd 0 0, .ptpDelayReqSend 0 0 0, .regRead 0 .sup 0] : List Instr).all instrWf = true := rfl

/-- Each term breaks one check. -/
theorem test_wf_refuses_1 : ([
    .m1Release 0 false false 6 0, .m1Release 0 false false 0 6, .errorRaised 0 16 0 1 0, .errorRaised 0 0 0 0 0,
    .errorRaised 0 0 0 5 0, .errorRaised 0 0 65536 1 0, .queueCreate 0 16 0, .queueCreate 0 0 4294967296,
    .queueRundown 0 16, .queueRundownDone 0 16, .sqDoorbell 0 16 0, .sqDoorbell 0 0 65536, .cqDoorbell 0 16 0,
    .cqDoorbell 0 0 65536, .entryConsume 0 3 [], .entryConsume 0 0 (List.replicate 1 256), .mbxIrqWrite 0 16 0,
    .mbxIrqWrite 0 0 4294967296, .cqIrqTimer 0 16, .mgmtSubmit 0 { gFrame with port := 2 } 0 [List.replicate 64 0],
    .mgmtSubmit 0 { gFrame with port := 6 } 0 [List.replicate 64 0],
    .mgmtSubmit 0 { gFrame with src := 4294967296 } 0 [List.replicate 64 0],
    .mgmtSubmit 0 { gFrame with addr := 4294967296 } 0 [List.replicate 64 0],
    .mgmtSubmit 0 { gFrame with udp := 65536 } 0 [List.replicate 64 0],
    .mgmtSubmit 0 { gFrame with vlan := some 4096 } 0 [List.replicate 64 0],
    .mgmtSubmit 0 { gFrame with magic := 65536 } 0 [List.replicate 64 0],
    .mgmtSubmit 0 { gFrame with ver := 256 } 0 [List.replicate 64 0],
    .mgmtSubmit 0 { gFrame with pair := 16 } 0 [List.replicate 64 0],
    .mgmtSubmit 0 { gFrame with dir := 256 } 0 [List.replicate 64 0],
    .mgmtSubmit 0 { gFrame with len := 65536 } 0 [List.replicate 64 0],
    .mgmtSubmit 0 { gFrame with epoch := 4294967296 } 0 [List.replicate 64 0],
    .mgmtSubmit 0 { gFrame with fseq := 281474976710656 } 0 [List.replicate 64 0],
    .mgmtSubmit 0 gFrame 65536 [List.replicate 64 0], .mgmtSubmit 0 gFrame 0 [],
    .mgmtSubmit 0 gFrame 0 (List.replicate 17 (List.replicate 64 0)), .mgmtHostCredit 0 { gFrame with port := 2 } 0,
    .mgmtHostCredit 0 gFrame 65536, .mgmtData 0 { gFrame with port := 2 } 0 [0], .mgmtData 0 gFrame 0 [],
    .mgmtData 0 gFrame 0 (List.replicate 1025 0), .mgmtData 0 gFrame 0 (List.replicate 1 256),
    .mgmtData 0 gFrame 4294967296 [0], .mgmtCreditTimer 0 16, .mgmtResendTimer 0 16, .arpRequest 0 2 0,
    .arpRequest 0 0 4294967296, .icmpEcho 0 2 0 [], .icmpEcho 0 0 4294967296 [],
    .icmpEcho 0 0 0 (List.replicate 1 256), .spiWrite 0 65536 [0] 0, .spiWrite 0 2 [0] 0, .spiWrite 0 0 [] 0,
    .spiWrite 0 0 (List.replicate 65 0) 0, .spiWrite 0 0 (List.replicate 1 4294967296) 0, .spiWrite 0 0 [0] 256,
    .spiRead 0 65536 1, .spiRead 0 2 1, .spiRead 0 0 0, .spiRead 0 0 65, .v1DdataAccess 0 false false 4294967296,
    .regWrite 0 .sup 2 0, .regWrite 0 .sup 4294967296 0, .regWrite 0 .sup 0 4294967296, .ownChallenge 0 18 0,
    .ownChallenge 0 0 65536, .ownClaim 0 18 0 false, .ownClaim 0 0 65536 false, .ownHeartbeat 0 18 0,
    .ownHeartbeat 0 0 65536, .ownHandover 0 18 0] : List Instr).all (fun i => !instrWf i) = true := rfl

/-- Each term breaks one check. -/
theorem test_wf_refuses_2 : ([
    .ownHandover 0 0 65536, .ownRelease 0 18 0, .ownRelease 0 0 65536, .ownStatus 0 18 0, .ownStatus 0 0 65536,
    .ethLinkChange 0 2 false, .ethFrameRx 0 2 false false, .t1sLinkChange 0 4 false, .eventSourceFire 0 512 false,
    .evgClaim 0 .sup 8 0, .evgClaim 0 .sup 0 512, .evgEoi 0 .sup 8 0, .evgEoi 0 .sup 0 512, .evgSetpend 0 .sup 16 0,
    .evgSetpend 0 .sup 0 4294967296, .evgClrpend 0 .sup 16 0, .evgClrpend 0 .sup 0 4294967296,
    .evgSrcCfgWrite 0 .sup 512 0, .evgSrcCfgWrite 0 .sup 0 4294967296, .evgStormedWrite 0 .sup 16 0,
    .evgStormedWrite 0 .sup 0 4294967296, .wakeLatchEdge 0 512 false false, .dinDebounceExpiry 0 32 false,
    .evgStatus 0 18 0, .evgStatus 0 0 65536, .evgSrcSet 0 18 0, .evgSrcSet 0 0 65536, .evgStormRelease 0 18 0,
    .evgStormRelease 0 0 65536, .evgWait 0 18 0, .evgWait 0 0 65536, .evgWaitEnd 0 18 0 false,
    .evgWaitEnd 0 0 65536 false, .shedCommit 0 4, .shedHoldoffExpiry 0 4, .groupRelease 0 6,
    .roundStart 0 4294967296 0 0 0, .roundStart 0 0 0 4294967296 0, .roundStart 0 0 0 0 4294967296,
    .roundStart 0 0 (-2147483649) 0 0, .roundStart 0 0 2147483648 0 0, .demand 0 { gDemand with node := 4096 },
    .demand 0 { gDemand with typ := 256 }, .demand 0 { gDemand with ver := 256 },
    .demand 0 { gDemand with fromLevel := 16 }, .demand 0 { gDemand with toLevel := 16 },
    .demand 0 { gDemand with round := 4294967296 }, .demand 0 { gDemand with demand := [] },
    .demand 0 { gDemand with demand := [4294967296, 0, 0, 0, 0, 0, 0, 0] },
    .demand 0 { gDemand with cmin := 4294967296 }, .demand 0 { gDemand with draw := 2147483648 },
    .demand 0 { gDemand with draw := -2147483649 }, .demand 0 { gDemand with floor := 4294967296 },
    .demand 0 { gDemand with limit := 4294967296 }, .demand 0 { gDemand with upUs := 65536 },
    .demand 0 { gDemand with downUs := 65536 }, .demand 0 { gDemand with ackRound := 4294967296 },
    .roleWaitExpiry 0 4096, .rootPass 0 4096, .grant 0 { gGrant with typ := 256 },
    .grant 0 { gGrant with ver := 256 }, .grant 0 { gGrant with fromLevel := 16 },
    .grant 0 { gGrant with toLevel := 16 }, .grant 0 { gGrant with round := 4294967296 },
    .grant 0 { gGrant with grant := 4294967296 }, .grant 0 { gGrant with leaseEnd := 4294967296 },
    .grant 0 { gGrant with commit := 4294967296 }, .intake 0 { gIntake with node := 4096 },
    .intake 0 { gIntake with typ := 256 }, .intake 0 { gIntake with ver := 256 }] : List Instr).all (fun i => !instrWf i) = true := rfl

/-- Each term breaks one check. -/
theorem test_wf_refuses_3 : ([
    .intake 0 { gIntake with set := 2 }, .intake 0 { gIntake with round := 4294967296 },
    .intake 0 { gIntake with pImport := 4294967296 }, .intake 0 { gIntake with eImport := 281474976710656 },
    .leafRoundStart 0 4294967296 0, .leafRoundStart 0 0 (-2147483649), .leafRoundStart 0 0 2147483648,
    .slcStatus 0 18 0, .slcStatus 0 0 65536, .slcTableRead 0 18 0, .slcTableRead 0 0 65536, .slcMapRead 0 18 0,
    .slcMapRead 0 0 65536, .slcPlaceRead 0 18 0, .slcPlaceRead 0 0 65536, .slcClassSet 0 18 0, .slcClassSet 0 0 65536,
    .groupValley 0 6 [], .respreadDone 0 6, .pwmLoadPoint 0 36 false [], .dclinkCheck 0 [], .legOcLimit 0 36 [],
    .legOcNeg 0 36 [], .legOcTrip 0 36 [], .legOcLatch 0 36, .gfltFault 0 36 false, .matrixCloseRequest 0 6 0,
    .matrixCloseRequest 0 0 4, .contactorCloseTimeout 0 (.mtx 6 0), .contactorCloseTimeout 0 (.mtx 0 4),
    .contactorCloseTimeout 0 (.out 4), .contactorOpenRequest 0 (.mtx 6 0), .contactorZeroReached 0 (.mtx 6 0),
    .openNotZero 0 (.mtx 6 0), .contactorWeld 0 (.mtx 6 0), .busBleedExpiry 0 4, .pwrStatus 0 18 0,
    .pwrStatus 0 0 65536, .pwrFaultClear 0 18 0, .pwrFaultClear 0 0 65536, .pwrLegExclude 0 18 0,
    .pwrLegExclude 0 0 65536, .pwrMdatRead 0 18 0, .pwrMdatRead 0 0 65536, .pwrLoopRead 0 18 0,
    .pwrLoopRead 0 0 65536, .pwrLoopBudget 0 18 0, .pwrLoopBudget 0 0 65536, .outputLoopSample 0 4 0 [],
    .outputLoopSample 0 0 4294967296 [], .trackingRequest 0 6 0 .ratio, .trackingRequest 0 0 4 .ratio,
    .trackDwellExpiry 0 6, .trackFail 0 6, .insulationCheckRequest 0 4 0 0, .insulationCheckRequest 0 0 6 0,
    .insulationCheckRequest 0 0 0 2048, .insulationCheckEnd 0 4, .weldTestEnd 0 4,
    .outputVoltageRead 0 4 [] (List.replicate 6 []), .outputVoltageRead 0 0 [] [], .brakeEnd 0 4, .brakeLong 0 4,
    .crowbarLegOff 0 36, .fbLost 0 48, .mclkLost 0 6, .fbFrozen 0 48, .fbClear 0 48, .slotRelease 0 64 [] [],
    .slotRelease 0 0 (List.replicate 257 0) []] : List Instr).all (fun i => !instrWf i) = true := rfl

/-- Each term breaks one check. -/
theorem test_wf_refuses_4 : ([
    .slotRelease 0 0 (List.replicate 1 2147483648) [], .slotRelease 0 0 (List.replicate 1 (-2147483649)) [],
    .slotRelease 0 0 [] (List.replicate 7 []), .slotComplete 0 64 0 false, .slotDeadline 0 64, .lpeOvrClear 0 64,
    .reedbedRamWrite 0 1476395010 0, .reedbedRamWrite 0 1476395007 0, .reedbedRamWrite 0 0x5800E000 0,
    .reedbedRamWrite 0 0x58000000 4294967296, .rtdConversion 0 [] [],
    .rtdConversion 0 (List.replicate 24 2147483648) [], .rtdConversion 0 (List.replicate 24 (-2147483649)) [],
    .rtdConversion 0 (List.replicate 24 0) (List.replicate 1 24), .flowLost 0 8, .cblFlow 0 4, .cableModelStep 0 [],
    .cableModelStep 0 (List.replicate 8 4294967296),
    .cableAuthComplete 0 4 false false false (List.replicate 320 0) (List.replicate 24 0),
    .cableAuthComplete 0 0 false false false (List.replicate 320 256) (List.replicate 24 0),
    .cableAuthComplete 0 0 false false false [] (List.replicate 24 0),
    .cableAuthComplete 0 0 false false false (List.replicate 320 0) (List.replicate 24 256),
    .cableAuthComplete 0 0 false false false (List.replicate 320 0) [],
    .lifeWrite 0 4 false (List.replicate 4 false) (List.replicate 24 0),
    .lifeWrite 0 0 false [] (List.replicate 24 0),
    .lifeWrite 0 0 false (List.replicate 4 false) (List.replicate 24 256),
    .lifeWrite 0 0 false (List.replicate 4 false) [], .lifeHourly 0 4, .coolCanResend 0 16, .cblStatus 0 18 0,
    .cblStatus 0 0 65536, .cblRecordRead 0 18 0, .cblRecordRead 0 0 65536, .cblAuth 0 18 0, .cblAuth 0 0 65536,
    .cblLifeFlush 0 18 0, .cblLifeFlush 0 0 65536, .bankUndervoltage 0 4, .bankRecovery 0 4, .lswCommand 0 32 0 false,
    .lswCommand 0 0 7 false, .lswThermalShutdown 0 32, .lswThermalRelease 0 32, .lswRetry 0 32,
    .lswRetryCountReset 0 32, .lswOpenLoad 0 32, .lswOpenLoadClear 0 32, .lswTurnOffClamp 0 32 0,
    .lswTurnOffClamp 0 0 4294967296, .pgenPeriodStart 0 8, .pickupEnd 0 32, .mxpFrame 0 (List.replicate 9 0),
    .mxpFrame 0 (List.replicate 1 16777216), .mxpPickupEnd 0 64, .lswStatus 0 18 0, .lswStatus 0 0 65536,
    .lswSet 0 18 0, .lswSet 0 0 65536, .lswClear 0 18 0, .lswClear 0 0 65536, .mxpStatus 0 18 0, .mxpStatus 0 0 65536,
    .cpDutySet 0 4 0, .cpSample 0 4 false 0, .cpSample 0 0 false (-32769), .cpSample 0 0 false 32768,
    .ppConversion 0 4 0, .ppConversion 0 0 8192, .ppBandAccept 0 4, .slacMessage 0 4 .start] : List Instr).all (fun i => !instrWf i) = true := rfl

/-- Each term breaks one check. -/
theorem test_wf_refuses_5 : ([
    .vclSlacFail 0 4, .slacRetry 0 4, .appProtocolRequest 0 4 [], .vehicleMessage 0 4 .other false [] [],
    .vehicleMessage 0 0 (.handshake 0) false [] [], .vehicleMessage 0 0 (.handshake 8) false [] [],
    .vehicleMessage 0 0 (.params 4294967296 0 0 0 0 0 0 0) false [] [],
    .vehicleMessage 0 0 (.params 0 4294967296 0 0 0 0 0 0) false [] [],
    .vehicleMessage 0 0 (.params 0 0 4294967296 0 0 0 0 0) false [] [],
    .vehicleMessage 0 0 (.params 0 0 0 4294967296 0 0 0 0) false [] [],
    .vehicleMessage 0 0 (.params 0 0 0 0 256 0 0 0) false [] [],
    .vehicleMessage 0 0 (.params 0 0 0 0 0 4294967296 0 0) false [] [],
    .vehicleMessage 0 0 (.params 0 0 0 0 0 0 281474976710656 0) false [] [],
    .vehicleMessage 0 0 (.params 0 0 0 0 0 0 0 340282366920938463463374607431768211456) false [] [],
    .vehicleMessage 0 0 (.precharge 4294967296) false [] [], .vehicleMessage 0 0 (.charge 2147483648 0) false [] [],
    .vehicleMessage 0 0 (.charge 0 4294967296) false [] [],
    .vehicleMessage 0 0 .other false (List.replicate 1 256) [],
    .vehicleMessage 0 0 .other false (List.replicate 1193 0) [],
    .vehicleMessage 0 0 .other false [] (List.replicate 1 256),
    .vehicleMessage 0 0 .other false [] (List.replicate 2005 0), .cableCheckRequest 0 4, .lockFeedback 0 4 false,
    .lockTimeout 0 4, .waitReadyMet 0 4 0 0, .waitReadyMet 0 0 6 0, .waitReadyMet 0 0 0 2048, .vclWaitTimeout 0 4,
    .prechargeRequest 0 4 0, .prechargeRequest 0 0 6, .certRelay 0 4 [], .certRelay 0 0 (List.replicate 1 256),
    .certRelay 0 0 (List.replicate 8193 0), .vclTimeout 0 4, .lockRelease 0 4, .capZeroTimeout 0 4,
    .ckptAckTimeout 0 4, .vehStatus 0 18 0, .vehStatus 0 0 65536, .vehSessionRead 0 18 0, .vehSessionRead 0 0 65536,
    .vehAuthorize 0 18 0, .vehAuthorize 0 0 65536, .vehStop 0 18 0, .vehStop 0 0 65536, .vehExportSet 0 18 0,
    .vehExportSet 0 0 65536, .vehCertReply 0 18 0, .vehCertReply 0 0 65536, .vehPortEnable 0 18 0,
    .vehPortEnable 0 0 65536, .canFrameRx 0 6 gCan, .canFrameRx 0 0 { gCan with id := 2048 },
    .canFrameRx 0 0 { gCan with ide := true, id := 536870912 }, .canFrameRx 0 0 { gCan with dlc := 16 },
    .canFrameRx 0 0 { gCan with sof := 18446744073709551616 }, .canFrameRx 0 0 { gCan with data := [0] },
    .canFrameRx 0 0 { gCan with dlc := 1, data := [256] }, .canObjLockRead 0 .sup 6 0 0,
    .canObjLockRead 0 .sup 0 128 0, .canObjLockRead 0 .sup 0 0 2, .canRxinfoRead 0 .sup 6 0,
    .canRxinfoRead 0 .sup 0 128, .canLockTo 0 6 0, .canLockTo 0 0 128, .canTxreq 0 .sup 6 0 0 none,
    .canTxreq 0 .sup 0 4 0 none, .canTxreq 0 .sup 0 0 4294967296 none, .canTxDone 0 6 0 0 none,
    .canTxDone 0 0 128 0 none] : List Instr).all (fun i => !instrWf i) = true := rfl

/-- Each term breaks one check. -/
theorem test_wf_refuses_6 : ([
    .canTxDone 0 0 0 18446744073709551616 none, .canBusError 0 6 .ack none, .canBusError 0 0 (.sending 3) none,
    .canBusError 0 0 (.receiving 0 false) none, .canTxcancel 0 .sup 6 0 0 none, .canTxcancel 0 .sup 0 4 0 none,
    .canTxcancel 0 .sup 0 0 4294967296 none, .canCtrlRecover 0 .sup 6, .canRecoveryDone 0 6,
    .canProtocolException 0 6, .canModeSwitch 0 6, .canStatus 0 18 0, .canStatus 0 0 65536, .canObjRead 0 18 0,
    .canObjRead 0 0 65536, .canObjWrite 0 18 0, .canObjWrite 0 0 65536, .canTxCancel 0 18 0, .canTxCancel 0 0 65536,
    .canRecover 0 18 0, .canRecover 0 0 65536, .dcMeterSample 0 4 0 0 0 0 0 false false false,
    .dcMeterSample 0 0 2147483648 0 0 0 0 false false false,
    .dcMeterSample 0 0 (-2147483649) 0 0 0 0 false false false,
    .dcMeterSample 0 0 0 2147483648 0 0 0 false false false,
    .dcMeterSample 0 0 0 (-2147483649) 0 0 0 false false false,
    .dcMeterSample 0 0 0 0 2147483648 0 0 false false false,
    .dcMeterSample 0 0 0 0 (-2147483649) 0 0 false false false,
    .dcMeterSample 0 0 0 0 0 2147483648 0 false false false,
    .dcMeterSample 0 0 0 0 0 (-2147483649) 0 false false false,
    .dcMeterSample 0 0 0 0 0 0 2147483648 false false false,
    .dcMeterSample 0 0 0 0 0 0 (-2147483649) false false false, .testPulseEnd 0 6, .senseInvalid 0 4, .senseValid 0 4,
    .acCycle 0 2 0 false (List.replicate 3 default) (List.replicate 3 default) (List.replicate 4 default) 0,
    .acCycle 0 0 4294967296 false (List.replicate 3 default) (List.replicate 3 default) (List.replicate 4 default) 0,
    .acCycle 0 0 0 false [] (List.replicate 3 default) (List.replicate 4 default) 0,
    .acCycle 0 0 0 false (List.replicate 3 default) [] (List.replicate 4 default) 0,
    .acCycle 0 0 0 false (List.replicate 3 default) (List.replicate 3 default) [] 0,
    .acCycle 0 0 0 false (List.replicate 3 default) (List.replicate 3 default) (List.replicate 4 default) 2147483648,
    .acCycle 0 0 0 false (List.replicate 3 default) (List.replicate 3 default) (List.replicate 4 default) (-2147483649),
    .acHalfCycle 0 2 (List.replicate 3 0), .acHalfCycle 0 0 [], .acHalfCycle 0 0 (List.replicate 3 4294967296),
    .harmonicWindow 0 2 (List.replicate 7 (List.replicate 63 0)), .harmonicWindow 0 0 [],
    .meterSelftest 0 [] (List.replicate 2 false), .meterSelftest 0 (List.replicate 4 false) [],
    .meterCrosscheckFail 0 4, .mtrOverrange 0 6, .mtrStatus 0 18 0, .mtrStatus 0 0 65536, .mtrRead 0 18 0,
    .mtrRead 0 0 65536, .mtrHarmRead 0 18 0, .mtrHarmRead 0 0 65536, .mtrEventRead 0 18 0, .mtrEventRead 0 0 65536,
    .mtrExtremeReset 0 18 0, .mtrExtremeReset 0 0 65536, .mtrCalWrite 0 18 0, .mtrCalWrite 0 0 65536,
    .mtrCalCommit 0 18 0, .mtrCalCommit 0 0 65536, .mtrTpSet 0 18 0, .mtrTpSet 0 0 65536,
    .timeInfo 0 (-9223372036854775809) false, .timeInfo 0 9223372036854775808 false,
    .opticalSignOn 0 (List.replicate 1 256)] : List Instr).all (fun i => !instrWf i) = true := rfl

/-- Each term breaks one check. -/
theorem test_wf_refuses_7 : ([
    .opticalSignOn 0 (List.replicate 33 0), .opticalAck 0 256 0, .opticalAck 0 0 256, .lglStatus 0 18 0,
    .lglStatus 0 0 65536, .lglLogRead 0 18 0, .lglLogRead 0 0 65536, .lglParamLoad 0 18 0 false,
    .lglParamLoad 0 0 65536 false, .lglCreditSet 0 18 0, .lglCreditSet 0 0 65536, .lglWindowSet 0 18 0,
    .lglWindowSet 0 0 65536, .cryptoRequest 0 6 none .hash, .svcRightsExpiry 0 0, .svcRightsExpiry 0 6,
    .keyStatus 0 18 0, .keyStatus 0 0 65536, .keyPubRead 0 18 0, .keyPubRead 0 0 65536, .keySvcAuth 0 18 0 false,
    .keySvcAuth 0 0 65536 false, .keyWrite 0 18 0 false, .keyWrite 0 0 65536 false, .keyDestroy 0 18 0,
    .keyDestroy 0 0 65536, .keyLcSet 0 18 0 false, .keyLcSet 0 0 65536 false, .keyAttest 0 18 0, .keyAttest 0 0 65536,
    .trainSend 0 4, .trainRecordRx 0 4 gTrain 0,
    .trainRecordRx 0 0 { gTrain with deviceId := 340282366920938463463374607431768211456 } 0,
    .trainRecordRx 0 0 { gTrain with node := 4096 } 0, .trainRecordRx 0 0 { gTrain with member := 4 } 0,
    .trainRecordRx 0 0 { gTrain with domain := 65536 } 0, .trainRecordRx 0 0 { gTrain with port := 4 } 0,
    .ozlLinkDown 0 4, .ozlFrameRx 0 4 gOz, .ozlFrameRx 0 0 { gOz with tc := 5 },
    .ozlFrameRx 0 0 { gOz with ver := 4 }, .ozlFrameRx 0 0 { gOz with dst := 4096 },
    .ozlFrameRx 0 0 { gOz with dstMember := 4 }, .ozlFrameRx 0 0 { gOz with src := 4096 },
    .ozlFrameRx 0 0 { gOz with srcMember := 4 }, .ozlFrameRx 0 0 { gOz with hops := 4096 },
    .ozlFrameRx 0 0 { gOz with msg := 65536 }, .ozlFrameRx 0 0 { gOz with segIdx := 32768 },
    .ozlFrameRx 0 0 { gOz with payload := [256] }, .ozlFrameRx 0 0 { gOz with payload := List.replicate 4097 0 },
    .creditBlockRx 0 4 (List.replicate 5 0) false, .creditBlockRx 0 0 [] false,
    .creditBlockRx 0 0 (List.replicate 5 256) false, .creditBlockSend 0 4, .nak 0 16384 0 0, .nak 0 0 0 65536,
    .topo 0 4096 0 [], .topo 0 0 4 [], .topo 0 0 0 (List.replicate 4101 default),
    .topo 0 0 0 (List.replicate 1 ⟨4, 0, 0, 0, 0, 0⟩), .topo 0 0 0 (List.replicate 1 ⟨0, 4096, 0, 0, 0, 0⟩),
    .topo 0 0 0 (List.replicate 1 ⟨0, 0, 4, 0, 0, 0⟩), .topo 0 0 0 (List.replicate 1 ⟨0, 0, 0, 4294967296, 0, 0⟩),
    .topo 0 0 0 (List.replicate 1 ⟨0, 0, 0, 0, 4294967296, 0⟩),
    .topo 0 0 0 (List.replicate 1 ⟨0, 0, 0, 0, 0, 4294967296⟩), .topoEntryExpiry 0 4096 0, .topoEntryExpiry 0 0 4,
    .ringBreak 0 4096 0, .ringBreak 0 0 4096, .gatewayDatagram 0 2 0 0 0 []] : List Instr).all (fun i => !instrWf i) = true := rfl

/-- Each term breaks one check. -/
theorem test_wf_refuses_8 : ([
    .gatewayDatagram 0 0 281474976710656 0 0 [], .gatewayDatagram 0 0 0 65536 0 [], .gatewayDatagram 0 0 0 0 16384 [],
    .gatewayDatagram 0 0 0 0 0 (List.replicate 1 256), .tsuCompareArm 0 .sup 16 0, .tsuCompareArm 0 .sup 0 4294967296,
    .tsuCompareFire 0 16, .tsuCaptureEdge 0 16 false 0, .tsuCaptureEdge 0 0 false 18446744073709551616,
    .tsuCaphiRead 0 .sup 16, .domainSample 0 2 0 0 1, .domainSample 0 0 0 65536 1, .domainSample 0 0 0 0 0,
    .domainHoldover 0 2, .domainFree 0 2, .peerDelayRequest 0 4 0, .pdreq 0 4 0 0 0, .pdreq 0 0 4294967296 0 0,
    .pdresp 0 4 0 0 0 0, .pdresp 0 0 4294967296 0 0 0, .syncSend 0 2,
    .sync 0 4 0 0 0 0 0 0 0 0 (List.replicate 4 0) 0 0 0, .sync 0 0 2 0 0 0 0 0 0 0 (List.replicate 4 0) 0 0 0,
    .sync 0 0 0 4294967296 0 0 0 0 0 0 (List.replicate 4 0) 0 0 0,
    .sync 0 0 0 0 4 0 0 0 0 0 (List.replicate 4 0) 0 0 0, .sync 0 0 0 0 0 65536 0 0 0 0 (List.replicate 4 0) 0 0 0,
    .sync 0 0 0 0 0 0 0 0 0 0 [] 0 0 0, .sync 0 0 0 0 0 0 0 0 0 0 (List.replicate 4 0) 16384 0 0,
    .sync 0 0 0 0 0 0 0 0 0 0 (List.replicate 4 0) 0 4096 0, .sync 0 0 0 0 0 0 0 0 0 0 (List.replicate 4 0) 0 0 65536,
    .ptpMessageRx 0 2 0 .management, .ptpMessageRx 0 0 256 .management, .ptpMessageRx 0 0 0 (.sync 65536 false 0 0),
    .ptpMessageRx 0 0 0 (.followUp 65536 0), .ptpMessageRx 0 0 0 (.delayResp 65536 0 0 0),
    .ptpMessageRx 0 0 0 (.delayReq 65536 0), .ptpMessageRx 0 0 0 (.announce true 65536), .ptpSyncSend 0 2,
    .timStatus 0 18 0, .timStatus 0 0 65536, .timFollowSet 0 18 0, .timFollowSet 0 0 65536, .timCompareSet 0 18 0,
    .timCompareSet 0 0 65536, .timCaptureRead 0 18 0, .timCaptureRead 0 0 65536, .ozlStatus 0 18 0,
    .ozlStatus 0 0 65536, .ozlTopoRead 0 18 0, .ozlTopoRead 0 0 65536, .ozlPathRead 0 18 0, .ozlPathRead 0 0 65536,
    .ozlPortRetrain 0 18 0, .ozlPortRetrain 0 0 65536, .claimFrameRx 0 4 0 false, .claimFrameRx 0 0 256 false,
    .role 0 4 0 0 0 0 0 0, .role 0 0 16 0 0 0 0 0, .role 0 0 0 4 0 0 0 0, .role 0 0 0 0 4294967296 0 0 0,
    .role 0 0 0 0 0 4294967296 0 0, .role 0 0 0 0 0 0 4294967296 0,
    .role 0 0 0 0 0 0 0 340282366920938463463374607431768211456, .checkpoint 0 4 0 0 0 0 0 0 0 0 0 [] [],
    .checkpoint 0 0 4294967296 0 0 0 0 0 0 0 0 [] [], .checkpoint 0 0 0 16 0 0 0 0 0 0 0 [] [],
    .checkpoint 0 0 0 0 8 0 0 0 0 0 0 [] [], .checkpoint 0 0 0 0 0 4294967296 0 0 0 0 0 [] [],
    .checkpoint 0 0 0 0 0 0 18446744073709551616 0 0 0 0 [] [], .checkpoint 0 0 0 0 0 0 0 2147483648 0 0 0 [] []] : List Instr).all (fun i => !instrWf i) = true := rfl

/-- Each term breaks one check. -/
theorem test_wf_refuses_9 : ([
    .checkpoint 0 0 0 0 0 0 0 (-2147483649) 0 0 0 [] [], .checkpoint 0 0 0 0 0 0 0 0 4294967296 0 0 [] [],
    .checkpoint 0 0 0 0 0 0 0 0 0 4294967296 0 [] [], .checkpoint 0 0 0 0 0 0 0 0 0 0 16 [] [],
    .checkpoint 0 0 0 0 0 0 0 0 0 0 0 (List.replicate 1 256) [],
    .checkpoint 0 0 0 0 0 0 0 0 0 0 0 [] (List.replicate 1 256),
    .checkpoint 0 0 0 0 0 0 0 0 0 0 0 [] (List.replicate 2049 0), .ckptAck 0 4 0, .ckptAck 0 0 4294967296,
    .vehicleFrameBuffer 0 4 .other 0 [] [], .vehicleFrameBuffer 0 0 (.handshake 0) 0 [] [],
    .vehicleFrameBuffer 0 0 .other 65536 [] [], .vehicleFrameBuffer 0 0 .other 0 (List.replicate 1 256) [],
    .vehicleFrameBuffer 0 0 .other 0 (List.replicate 1193 0) [],
    .vehicleFrameBuffer 0 0 .other 0 [] (List.replicate 1 256),
    .vehicleFrameBuffer 0 0 .other 0 [] (List.replicate 2005 0), .slcMirror 0 4294967296 (List.replicate 20 0) [],
    .slcMirror 0 0 [] [], .slcMirror 0 0 (List.replicate 20 256) [],
    .slcMirror 0 0 (List.replicate 20 0) (List.replicate 1 ⟨8192, false, List.replicate 128 0⟩),
    .lpeSnap 0 64 0 0 0 [], .lpeSnap 0 0 9 0 0 [], .lpeSnap 0 0 0 18446744073709551616 0 [],
    .lpeSnap 0 0 0 0 2147483648 [], .lpeSnap 0 0 0 0 (-2147483649) [], .lpeSnap 0 0 0 0 0 (List.replicate 1 256),
    .pwmState 0 [], .pwmState 0 (List.replicate 6 ⟨18446744073709551616, 0, 0, 0, 0, 0⟩),
    .pwmState 0 (List.replicate 6 ⟨0, 65536, 0, 0, 0, 0⟩), .pwmState 0 (List.replicate 6 ⟨0, 0, 64, 0, 0, 0⟩),
    .pwmState 0 (List.replicate 6 ⟨0, 0, 0, 64, 0, 0⟩), .pwmState 0 (List.replicate 6 ⟨0, 0, 0, 0, 2147483648, 0⟩),
    .pwmState 0 (List.replicate 6 ⟨0, 0, 0, 0, 0, 16⟩), .loadState 0 4294967296 0 0 0 (List.replicate 4 0),
    .loadState 0 0 4294967296 0 0 (List.replicate 4 0), .loadState 0 0 0 18446744073709551616 0 (List.replicate 4 0),
    .loadState 0 0 0 0 18446744073709551616 (List.replicate 4 0), .loadState 0 0 0 0 0 [],
    .loadState 0 0 0 0 0 (List.replicate 4 1001), .cblState 0 4 (List.replicate 6 0) 0 (List.replicate 4 0),
    .cblState 0 0 [] 0 (List.replicate 4 0), .cblState 0 0 (List.replicate 6 2147483648) 0 (List.replicate 4 0),
    .cblState 0 0 (List.replicate 6 (-2147483649)) 0 (List.replicate 4 0),
    .cblState 0 0 (List.replicate 6 0) 4294967296 (List.replicate 4 0), .cblState 0 0 (List.replicate 6 0) 0 [],
    .cblState 0 0 (List.replicate 6 0) 0 (List.replicate 4 18446744073709551616), .prepay 0 4 0 0 0 0,
    .prepay 0 0 0 0 0 4294967296, .leave 0 16, .swapReq 0 4294967296,
    .resync 0 (.slc [⟨8192, false, List.replicate 128 0⟩]) 0, .resync 0 (.slc [⟨4096, true, List.replicate 128 0⟩]) 0,
    .resync 0 (.slc [⟨0, false, []⟩]) 0, .resync 0 (.slc [⟨0, false, List.replicate 128 256⟩]) 0,
    .resync 0 (.snap 64 0 0 0 []) 0, .resync 0 (.snap 0 9 0 0 (List.replicate 108 0)) 0,
    .resync 0 (.snap 0 0 18446744073709551616 0 []) 0, .resync 0 (.snap 0 0 0 2147483648 []) 0,
    .resync 0 (.snap 0 1 0 0 (List.replicate 12 256)) 0, .resync 0 (.snap 0 1 0 0 []) 0,
    .resync 0 (.ckpt 4 0 0 0 0 0 0 0 0 0 [] []) 0, .resync 0 (.pwm []) 0, .resync 0 (.load 0 0 0 0 []) 0,
    .resync 0 (.cable 0 [] 0 []) 0, .resync 0 (.prepay 4 0 0 0 0) 0, .resync 0 (.slc []) 101, .dpxStatus 0 18 0,
    .dpxStatus 0 0 65536, .dpxSwap 0 18 0, .dpxSwap 0 0 65536] : List Instr).all (fun i => !instrWf i) = true := rfl

/-- Each term breaks one check. -/
theorem test_wf_refuses_10 : ([
    .dpxResync 0 18 0, .dpxResync 0 0 65536, .fenZeroCrossing 0 false 4294967296, .beaconRx 0 65536 0 0,
    .beaconRx 0 0 18446744073709551616 0, .beaconRx 0 0 0 4294967296, .fenFrameRx 0 { gFen with dst := 4096 },
    .fenFrameRx 0 { gFen with src := 4096 }, .fenFrameRx 0 { gFen with next := 4096 },
    .fenFrameRx 0 { gFen with typ := 16 }, .fenFrameRx 0 { gFen with prio := 4 },
    .fenFrameRx 0 { gFen with hops := 7 }, .fenFrameRx 0 { gFen with fcnt := 4294967296 },
    .fenFrameRx 0 { gFen with tx := 4096 }, .fenFrameRx 0 { gFen with epoch := 4294967296 },
    .fenFrameRx 0 { gFen with body := [256] }, .fenFrameRx 0 { gFen with blocks := [(8, true)] },
    .soundingRx 0 4096 0 gTone, .soundingRx 0 0 8 gTone, .soundingRx 0 0 0 { gTone with loads := [] },
    .soundingRx 0 0 0 { gTone with loads := List.replicate 2130 11 }, .soundingRx 0 0 0 { gTone with rate := 3 },
    .toneMapRx 0 4096 0 gTone, .toneMapRx 0 0 8 gTone, .toneMapRx 0 0 0 { gTone with loads := [] },
    .toneMapExpiry 0 4096 0, .toneMapExpiry 0 0 8, .sackRx 0 (List.replicate 1 4096),
    .linkMetricRx 0 4096 0 0 false 0 [], .linkMetricRx 0 0 4294967296 0 false 0 [], .linkMetricRx 0 0 0 7 false 0 [],
    .linkMetricRx 0 0 0 0 false 10001 [], .neighbourExpiry 0 4096, .fenStatus 0 18 0, .fenStatus 0 0 65536,
    .fenNeighRead 0 18 0, .fenNeighRead 0 0 65536, .fenTonemapRead 0 18 0, .fenTonemapRead 0 0 65536,
    .fenResound 0 18 0, .fenResound 0 0 65536, .sysIdentify 0 18 0, .sysIdentify 0 0 65536, .sysModeSet 0 18 0,
    .sysModeSet 0 0 65536, .sysReset 0 18 0, .sysReset 0 0 65536, .sysErrqRead 0 18 0, .sysErrqRead 0 0 65536,
    .sysFwStage 0 18 0 false, .sysFwStage 0 0 65536 false, .fwVerifyDone 0 7 0 0, .sysFwPrefer 0 18 0,
    .sysFwPrefer 0 0 65536, .sysCounters 0 18 0, .sysCounters 0 0 65536, .romStatus 0 18 0, .romStatus 0 0 65536,
    .romLoad 0 18 0 false, .romLoad 0 0 65536 false, .romBoot 0 18 0 0 0 0, .romBoot 0 0 65536 0 0 0,
    .romBoot 0 0 0 7 0 0, .cfgStage 0 18 0 0 false, .cfgStage 0 0 65536 0 false, .cfgStage 0 0 0 256 false,
    .cfgCommit 0 18 0 0, .cfgCommit 0 0 65536 0, .cfgCommit 0 0 0 256, .cfgRollback 0 18 0 0] : List Instr).all (fun i => !instrWf i) = true := rfl

/-- Each term breaks one check. -/
theorem test_wf_refuses_11 : ([
    .cfgRollback 0 0 65536 0, .cfgRollback 0 0 0 256, .cfgStatus 0 18 0, .cfgStatus 0 0 65536, .cfgRead 0 18 0,
    .cfgRead 0 0 65536, .cfgDiscard 0 18 0 0, .cfgDiscard 0 0 65536 0, .cfgDiscard 0 0 0 256,
    .cfgPartnerRequest 0 (.stage 4294967296 0 false []) false,
    .cfgPartnerRequest 0 (.stage 0 4294967296 false []) false, .cfgPartnerRequest 0 (.stage 0 0 false [256]) false,
    .cfgPartnerRequest 0 (.commit 4294967296 false) false, .cfgPartnerRequest 0 (.rollback 4294967296) false,
    .diagRegRead 0 18 0, .diagRegRead 0 0 65536, .diagRegWrite 0 18 0, .diagRegWrite 0 0 65536, .diagFreeze 0 18 0,
    .diagFreeze 0 0 65536, .dbgAddr 0 4294967296, .dbgAddr 0 2, .tapInstructionLoad 0 256 [] [],
    .tapInstructionLoad 0 0 (List.replicate 385 false) [], .claimLapse 0 0, .claimLapse 0 6, .certReplyTimeout 0 4,
    .lswCurrentLimit 0 32 false 0, .lswCurrentLimit 0 0 false 16384, .canBusIntegration 0 6, .testPulseGapEnd 0 6,
    .ptpDelayReqSend 0 2 0, .regRead 0 .sup 2, .regRead 0 .sup 4294967296, .mgmtSubmit 0 gFrame 0 [[0]],
    .mgmtSubmit 0 gFrame 0 [List.replicate 64 256], .cpDutySet 0 0 9, .cpDutySet 0 0 970,
    .appProtocolRequest 0 0 [(256, 1)], .appProtocolRequest 0 0 [(0, 0)], .appProtocolRequest 0 0 [(0, 8)],
    .canObjLockRead 0 .sup 0 0 16, .harmonicWindow 0 0 (List.replicate 7 []),
    .harmonicWindow 0 0 (List.replicate 7 (List.replicate 63 4294967296)), .nak 0 0 0 0,
    .groupValley 0 0 (List.replicate 769 false), .pwmLoadPoint 0 0 false (List.replicate 769 false),
    .dclinkCheck 0 [List.replicate 769 false], .legOcLimit 0 0 (List.replicate 769 false),
    .legOcNeg 0 0 (List.replicate 769 false), .legOcTrip 0 0 (List.replicate 769 false),
    .outputLoopSample 0 0 0 (List.replicate 769 false), .outputVoltageRead 0 0 (List.replicate 769 false) [],
    .outputVoltageRead 0 0 [] [List.replicate 769 false], .slotRelease 0 0 [] [List.replicate 769 false],
    .lpeSnap 0 0 1 0 0 []] : List Instr).all (fun i => !instrWf i) = true := rfl

/-! ### Worked values of the spec -/

/-- The check value of CRC-32 (R77, IEEE 802.3): the ASCII digits 1 to 9. -/
theorem test_crc32_check : crc32 [49, 50, 51, 52, 53, 54, 55, 56, 57] = 0xCBF43926 := by decide

/-- SEQ steps over the values whose low half is 0 and wraps from 0xFFFF_FFFF to 1 (R559). -/
theorem test_seq_skips : seqAfter 0xFFFE = 0xFFFF ∧ seqAfter 0xFFFF = 0x10001 ∧ seqAfter 0xFFFFFFFF = 1 := by decide

/-- The example after R71: pair 5, depth 4, an SQ counter of 6 lies in slot 2 of 0x2014_0000. -/
theorem test_slot_of_counter : sqSlotAddr 5 4 6 = 0x20140080 ∧ cqSlotAddr 5 4 6 = 0x20540080 := by decide

/-- Rounds compare by their signed 32-bit difference (R150). -/
theorem test_rounds_wrap : notGreater 0xFFFFFFFF 0 = true ∧ notGreater 1 0xFFFFFFFF = false ∧ notGreater 5 5 = true := by decide

/-- The example after R191: D_g of 806 V on a 1,200 V link is 44,018 units. -/
theorem test_feed_forward : feedForward 806 1200 = 44018 := by decide +kernel

/-- Two legs of a 100 kHz group, PER 2,000: ranks at 0 and half of 128,000 units (R186). -/
theorem test_phase_of_rank : phaseOf (wrf State.reset (basePWM + 0x400) 0 16 2000) 0 1 2 = 64000 := by
  decide +kernel

/-- A refused write of the supervisor to legal SRAM is counted and stores nothing (R31). -/
theorem test_firewall_counts :
    (match exec (.regWrite 0 .sup 0x60000000 7) State.reset with | .next s => (s.sys.firewallCnt, s.mem) | _ => (0, [])) =
      (1, []) := by decide

/-- A write of a reserved register address has no effect, and a read of one gives 0 (R8). -/
theorem test_reserved_address :
    exec (.regWrite 0 .sup 0x70000000 7) State.reset = .next (State.reset.at 0) ∧ readWord State.reset 0x70000000 = 0 := ⟨rfl, by decide⟩

/-- The host reads all ones through BAR0 in M11 (R527). -/
theorem test_frozen_reads_ones :
    (match exec (.regRead 0 .pcie 0x10) { State.reset with sys.mode := .m11 } with | .next s => s.out | _ => []) =
      [{ kind := .readData, chan := 0x10, data := [0xFFFFFFFF] }] := by decide

/-- A memory keeps its canonical form: a byte set back to 0 leaves no cell (log entry 5). -/
theorem test_memory_canonical : memSet (memSet [] 5 7) 5 0 = [] ∧ memSet (memSet [] 5 7) 3 1 = [(3, 1), (5, 7)] := by decide

/-- A burned END fuse is the END state whatever else is burned (R416). -/
theorem test_end_fuse : lifeCycle { State.reset with key.fEnd := true, key.fField := true } = 5 := by decide

/-- The 33rd record is not written and is counted (R67). -/
theorem test_queue_overflow :
    let s := writeRecord {} false { State.reset with sys.errq := List.replicate 32 {} }
    s.sys.errq.length = 32 ∧ s.sys.ovf = true ∧ s.sys.ovfCnt = 1 := by decide

/-- RESET_N ends in M1 with PIN as its cause (R45). -/
theorem test_reset_pin :
    (match exec (.resetPin 0 true) { State.reset with sys.mode := .m4 } with | .next s => (s.sys.mode, s.sys.rst.kind) | _ => (.m4, .pin)) =
      (.m1, .pin) := by decide

/-- The IDCODE word is sent when its instruction loads (R529). -/
theorem test_idcode :
    (match exec (.tapInstructionLoad 0 1 [] []) State.reset with | .next s => s.out | _ => []) =
      [{ kind := .tap, chan := 1, data := [0x048763A5] }] := by decide

/-- SYS_MODE_SET(M8) from M4 enters M8 with cause COMMAND (R42, R44). -/
theorem test_mode_set_m8 :
    (match exec (.sysModeSet 0 0 0) (cmdState .m4 (cmdOf 0x0102 [8])) with | .next s => (s.sys.mode, s.sys.m8.command) | _ => (.m4, false)) =
      (.m8, true) := by decide

/-- With nothing waiting the block idles; with a command waiting it is taken off (log entry 1). -/
theorem test_step : step State.reset = .next State.reset ∧
    (match step { State.reset with pending := [.tapReset 3, .tapReset 4] } with | .next s => s.pending | _ => []) = [.tapReset 4] :=
  ⟨rfl, by decide⟩


end Sys2Proof.Tests

namespace Sys2Proof.Machine

theorem witness_step : ({ State.reset with pending := [.tapReset 0] } : State).pending = [.tapReset 0] ∧ State.reset.pending = [] := by decide

theorem witness_mem : MemOk State.reset ∧ ∃ s', step State.reset = .next s' := ⟨⟨rfl, rfl, rfl⟩, _, rfl⟩

theorem witness_gates : GatesOk { State.reset with sys.mode := .m5, keeper.gateEn := true } := .inl (.inl rfl)

theorem witness_errs : ErrsOk { State.reset with sys.errq := List.replicate 32 {} } := ⟨by decide, by decide⟩

theorem witness_fuses : ∃ s', step { State.reset with key.fEnd := true } = .next s' ∧ lifeCycle { State.reset with key.fEnd := true } = 5 := ⟨_, rfl, by decide⟩

theorem witness_advance : ∃ s', step { State.reset with pending := [.tapReset 5, .tapReset 6] } = .next s' := ⟨_, rfl⟩

/-- A state in which port 1 is owner by a standing claim, with its claim key bound to slot 5. -/
def ownWit (op : Nat) (params : List Nat) : State :=
  let s := cmdState .m4 (cmdOf op params)
  { s with own.owner := 1, own.claims := upd s.own.claims 0 fun _ => { standing := true },
           own.nonces := [{ port := 1, value := 7, issued := 0 }], cfg.params := [(pCLAIM_KEY_PCIE, 5)],
           key.fProv := true, key.trngOk := true, key.slots := upd s.key.slots 5 fun k => { k with filled := true } }

/-- A second port with a standing claim of priority 1. -/
def ownWit2 : State :=
  let s := ownWit 0x0204 [2]
  { s with own.claims := upd s.own.claims 1 fun _ => { standing := true }, mem := memWrite s.mem (baseOWN + 4) 4 8 }

/-- The claim of the witness, with a signature as its reference. -/
def claimCmd : Cmd := { cmdOf 0x0202 ([7] ++ List.replicate 15 0 ++ List.replicate 36 0 ++ [64]) with port := 1 }

theorem witness_ownership :
    (Starts 0 0 0x0201 ((ownWit 0x0201 []).at 0) (cmdOf 0x0201 []) ∧ ((ownWit 0x0201 []).at 0).key.trngOk = true) ∧
    (Starts 0 0 0x0202 ({ ownWit 0x0202 [] with mbx.cmds := [claimCmd] }.at 0) claimCmd ∧ lifeCycle (ownWit 0x0202 []) ≠ 0 ∧
      claimKeyFilled ({ ownWit 0x0202 [] with mbx.cmds := [claimCmd] }.at 0) 1 = true ∧ claimCmd.refLen ≠ 0 ∧
      nonceValid ({ ownWit 0x0202 [] with mbx.cmds := [claimCmd] }.at 0) 1 (leValue ((claimCmd.entry.drop 8).take 16)) = true) ∧
    (Starts 0 0 0x0203 ((ownWit 0x0203 []).at 0) (cmdOf 0x0203 []) ∧ (claimOf ((ownWit 0x0203 []).at 0) 1).standing = true) ∧
    (Starts 0 0 0x0204 (ownWit2.at 0) (cmdOf 0x0204 [2]) ∧ (claimOf (ownWit2.at 0) 2).standing = true ∧
      0 < ownPrio (ownWit2.at 0) 2) ∧
    Starts 0 0 0x0204 ((ownWit 0x0204 [1]).at 0) (cmdOf 0x0204 [1]) ∧
    (Starts 0 0 0x0205 ({ cmdState .m4 (cmdOf 0x0205 []) with own.owner := 0 }.at 0) (cmdOf 0x0205 []) ∧
      ({ cmdState .m4 (cmdOf 0x0205 []) with own.owner := 0 }.at 0).own.owner ≠ 1) ∧
    (Starts 0 0 0x0205 ((ownWit 0x0205 []).at 0) (cmdOf 0x0205 []) ∧ ((ownWit 0x0205 []).at 0).own.owner = 1) ∧
    Starts 0 0 0x0206 ((ownWit 0x0206 []).at 0) (cmdOf 0x0206 []) := by
  refine ⟨⟨starts_of (by decide), by decide⟩, ⟨starts_of (by decide), by decide, by decide, by decide, by decide⟩, ⟨starts_of (by decide), by decide⟩,
    ⟨starts_of (by decide), by decide, by decide⟩, starts_of (by decide), ⟨starts_of (by decide), by decide⟩,
    ⟨starts_of (by decide), by decide⟩, starts_of (by decide)⟩

/-- A state whose election window is open with port 1's claim electable. -/
def electWit : State :=
  { State.reset with own.election := true, own.claims := upd State.reset.own.claims 0 fun _ => { standing := true, special := true } }

theorem witness_ownershipTimers :
    (claimOf (electWit.at 0) 1).standing = true ∧ (electWit.at 0).own.election = true ∧
    electionWinner (electWit.at 0) = some 1 ∧ electionWinner ({ State.reset with own.election := true }.at 0) = none ∧
    ((ownWit 0x0201 []).at 0).own.owner = 1 ∧ ({ ownWit 0x0201 [] with mbx.cmds := [] }.at 0).mbx.cmds = [] ∧
    ({ State.reset with own.owner := 1, mbx.cmds := [{ port := 1, ownerOnly := true }] }.at 0).mbx.cmds =
      [{ port := 1, ownerOnly := true }] ∧ (State.reset.at 0).own.owner ≠ 2 := by
  refine ⟨by decide, by decide, by decide, by decide, by decide, by decide, by decide, by decide⟩

theorem witness_resets :
    (State.reset.at 0).sys.mode ≠ .m0 ∧
    (({ State.reset with sys.mode := .m4, keeper.hbCheck := true } : State).at 0).keeper.hbCheck = true ∧
    clocksRun (({ State.reset with sys.mode := .m4, keeper.hbCheck := true } : State).at 0) = true ∧
    (({ State.reset with sys.mode := .m0, sys.railsGood := false } : State).at 0).sys.railsGood = false := by
  refine ⟨by decide, by decide, by decide, by decide⟩

def m2Wit : State := { State.reset with sys.mode := .m2 }

theorem witness_bootRows :
    ((State.reset.at 0).sys.mode = .m1 ∧ (State.reset.at 0).sys.railsGood = true ∧ (State.reset.at 0).sys.pinLow = false) ∧
    ((m2Wit.at 0).sys.mode = .m2 ∧ (m2Wit.at 0).sys.boot.fail = false) ∧
    (clocksRun (({ State.reset with sys.mode := .m3, lgl.lost := true } : State).at 0) = true) ∧
    (({ State.reset with sys.mode := .m11 } : State).at 0).sys.mode = .m11 ∧
    (({ State.reset with sys.mode := .m3, lgl.emgDue := true } : State).at 0).lgl.emgDue = true ∧
    (pairRuns { (({ State.reset with sys.mode := .m3, keeper.pfwLow := true, sys.powerWarn := true } : State).at 0) with
      keeper.pfwLow := false } = false) ∧
    (({ State.reset with sys.mode := .m3, sys.powerWarn := true } : State).at 0).keeper.pfwLow = false := by
  refine ⟨⟨by decide, by decide, by decide⟩, ⟨by decide, by decide⟩, by decide, by decide, by decide, by decide, by decide⟩

/-- M5 with the gate requested and one bank in range. -/
def gateWit : State := { State.reset with sys.mode := .m5, pwm.gateReq := true, lsw.good := upd State.reset.lsw.good 0 fun _ => true }

theorem witness_keeperRows :
    ((gateWit.at 0).sys.mode = .m5 ∧ (gateWit.at 0).pwm.gateReq = true ∧ (gateWit.at 0).keeper.gateEn = false ∧
      (gateWit.at 0).keeper.hbLatch = false ∧ (gateWit.at 0).keeper.freezeReq = false ∧ (gateWit.at 0).keeper.pfwLow = false ∧
      (gateWit.at 0).sys.psOff = false ∧ (gateWit.at 0).sys.rootGood = true ∧ (gateWit.at 0).lsw.good.toList.any id = true) ∧
    ((({ State.reset with keeper.hold := true, keeper.htrHold := true } : State).at 0).keeper.hold = true ∧
      (({ State.reset with keeper.hold := true, keeper.htrHold := true } : State).at 0).keeper.htrHold = true) ∧
    lglPowered (({ State.reset with sys.mode := .m4 } : State).at 0) = true ∧
    (clocksRun (({ State.reset with sys.mode := .m4 } : State).at 0) = true ∧
      (({ State.reset with sys.mode := .m4 } : State).at 0).sys.handling = none ∧
      (({ State.reset with sys.mode := .m4 } : State).at 0).sys.errq.length < 32) := by
  refine ⟨⟨by decide, by decide, by decide, by decide, by decide, by decide, by decide, by decide, by decide⟩, ⟨by decide, by decide⟩,
    by decide, by decide, by decide, by decide⟩

/-- A state in M4 whose pair 0 is active on port 1 with depth 16. -/
def pairWit (f : Pair → Pair) : State :=
  { State.reset with sys.mode := .m4, mbx.pairs := upd State.reset.mbx.pairs 0 fun p => f { p with active := true, port := 1, depth := 16 } }

theorem witness_queueRows :
    ((get (State.reset.at 0).mbx.pairs 0).bound = false ∧ (get (State.reset.at 0).mbx.pairs 0).runDown = false ∧
      (get (State.reset.at 0).mbx.pairs 0).active = false ∧ bit 0x80090010 31 = true ∧
      createCheck 0 (bits 0x80090010 0 13) (bits 0x80090010 16 3) (bits 0x80090010 19 5) (State.reset.at 0) = 0) ∧
    ((get ((pairWit id).at 0).mbx.pairs 0).active = true ∧ (get ((pairWit id).at 0).mbx.pairs 0).runDown = false) ∧
    ((get ((pairWit fun p => { p with runDown := true }).at 0).mbx.pairs 0).runDown = true ∧
      ((pairWit fun p => { p with runDown := true }).at 0).mbx.cmds = []) ∧
    ((16 + 65536 - (get ((pairWit id).at 0).mbx.pairs 0).sqHead) % 65536 ≤ (get ((pairWit id).at 0).mbx.pairs 0).depth) ∧
    ((0 + 65536 - (get ((pairWit id).at 0).mbx.pairs 0).cqHead) % 65536 ≤ cqUsed (get ((pairWit id).at 0).mbx.pairs 0) ∧
      (get ((pairWit id).at 0).mbx.pairs 0).owed = []) ∧
    nextLine ((pairWit fun p => { p with sqTail := 1 }).at 0) = some 0 ∧
    (1 ≤ bits 0x80FA001 0 8 ∧ 1 ≤ bits 0x80FA001 8 12 ∧ bits 0x80FA001 8 12 ≤ 4000) ∧
    (get ((pairWit fun p => { p with timerOn := true }).at 0).mbx.pairs 0).timerOn = true := by
  refine ⟨⟨by decide, by decide, by decide, by decide, by decide⟩, ⟨by decide, by decide⟩, ⟨by decide, by decide⟩, by decide,
    ⟨by decide, by decide⟩, by decide, ⟨by decide, by decide, by decide⟩, by decide⟩

/-- A management frame of port 3 for pair 0, authentic in `pairWit`. -/
def frameWit : MgmtFrame := { port := 3, src := 1, addr := 0, udp := 48760, vlan := none, magic := 0x4B76, ver := 1, pair := 0, dir := 0, len := 5, epoch := 0, fseq := 1, tagOk := true }

/-- Pair 0 active on port 3 with one quantum, port 3's frame key in slot 6. -/
def mgmtWit (f : Pair → Pair) : State :=
  let s := pairWit fun p => f { p with port := 3, quantaHeld := 1 }
  { s with cfg.params := [(pFRAME_KEY_ETH0, 6)], key.slots := upd s.key.slots 6 fun k => { k with filled := true } }

theorem witness_portRows :
    (frameTaken frameWit (4 + [7].length) ((mgmtWit id).at 0) = true ∧ frameBad frameWit ((mgmtWit id).at 0) = false ∧
      (get (acceptFrame frameWit ((mgmtWit id).at 0)).mbx.pairs 0).active = true ∧
      (get (acceptFrame frameWit ((mgmtWit id).at 0)).mbx.pairs 0).port = 3 ∧
      0 + [7].length ≤ ((get (acceptFrame frameWit ((mgmtWit id).at 0)).mbx.pairs 0).firstQuantum
        + (get (acceptFrame frameWit ((mgmtWit id).at 0)).mbx.pairs 0).quantaHeld) * 0x10000) ∧
    (frameTaken { frameWit with len := 68 } (4 + 64 * [List.replicate 64 0].length) ((mgmtWit id).at 0) = true ∧
      frameBad { frameWit with len := 68 } ((mgmtWit id).at 0) = false) ∧
    (frameTaken { frameWit with len := 4 } 4 ((mgmtWit id).at 0) = true ∧ frameBad { frameWit with len := 4 } ((mgmtWit id).at 0) = false) ∧
    (frameTaken { frameWit with len := 4, tagOk := false } 4 ((mgmtWit id).at 0) = true ∧
      frameBad { frameWit with len := 4, tagOk := false } ((mgmtWit id).at 0) = true) ∧
    cqUsed (get ((mgmtWit fun p => { p with cqTail := 1 }).at 0).mbx.pairs 0) = 1 ∧
    macAddr (State.reset.at 0) 0 = macAddr (State.reset.at 0) 0 ∧
    ((getV1 ((mgmtWit id).at 0) 16).go = false ∧ (getV1 ((mgmtWit id).at 0) 16).done = false ∧ ((mgmtWit id).at 0).mbx.prior = [] ∧
      (getV1 ((mgmtWit id).at 0) 16).finalPending = false ∧ lineServed (setV1 ((mgmtWit id).at 0) 16 fun w => { w with go := true }) 16 = true ∧
      (getV1 (State.reset.at 0) 17).held = []) := by
  refine ⟨⟨by decide, by decide, by decide, by decide, by decide⟩, ⟨by decide, by decide⟩, ⟨by decide, by decide⟩,
    ⟨by decide, by decide⟩, by decide, rfl, by decide, by decide, by decide, by decide, by decide, by decide⟩

/-- Source 3 pending, enabled for target 0 at priority 1, with its wake latch armed. -/
def srcWit : State :=
  let s := { State.reset with evg.src := upd State.reset.evg.src 3 fun x => { x with pending := true } }
  wrw s (srcCfgAddr 3) 0x4081

theorem witness_eventRows :
    (reservedSrc 3 = false ∧ srcLevel (srcWit.at 0) 3 = false) ∧ (reservedSrc 480 = false ∧ srcLevel ((wrw State.reset (dinCfgAddr 0) 0x400).at 0) 480 = true) ∧
    (eligible (srcWit.at 0) 0 3 = true ∧ firedNow (srcWit.at 0) 3 = false) ∧
    ((get ({ State.reset with evg.tgt := upd State.reset.evg.tgt 2 fun x => { x with stack := [(3, none)] } }.at 0).evg.tgt 2).stack
      = [(3, none)]) ∧
    (get (srcWit.at 0).evg.src 3).active = false ∧
    (hasLatch 3 = true ∧ rdb ({ srcWit with sys.mode := .m11 }.at 0) (srcCfgAddr 3) 14 = true) := by
  refine ⟨⟨by decide, by decide⟩, ⟨by decide, by decide⟩, ⟨by decide, by decide⟩, by decide, by decide, by decide, by decide⟩

theorem witness_eventCommands :
    Starts 0 0 0x1201 ((cmdState .m4 (cmdOf 0x1201 [])).at 0) (cmdOf 0x1201 []) ∧
    (Starts 0 0 0x1202 ((wrw (cmdState .m4 (cmdOf 0x1202 [3, 0, 1, 1, 0, 0, 0])) (srcCfgAddr 3) 0x80000).at 0) (cmdOf 0x1202 [3, 0, 1, 1, 0, 0, 0]) ∧
      srcSetIllegal (cmdOf 0x1202 [3, 0, 1, 1, 0, 0, 0])
        ((wrw (cmdState .m4 (cmdOf 0x1202 [3, 0, 1, 1, 0, 0, 0])) (srcCfgAddr 3) 0x80000).at 0) = false) ∧
    (Starts 0 0 0x1203 ((wrw (cmdState .m4 (cmdOf 0x1203 [3, 0])) (srcCfgAddr 3) 0x80000).at 0) (cmdOf 0x1203 [3, 0]) ∧
      srcSetIllegal (cmdOf 0x1203 [3, 0]) ((wrw (cmdState .m4 (cmdOf 0x1203 [3, 0])) (srcCfgAddr 3) 0x80000).at 0) = false) ∧
    (Starts 0 0 0x1204 ((cmdState .m4 (cmdOf 0x1204 [3, 0, 1, 0, 1, 0, 0, 0])).at 0) (cmdOf 0x1204 [3, 0, 1, 0, 1, 0, 0, 0]) ∧
      (cmdOf 0x1204 [3, 0, 1, 0, 1, 0, 0, 0]).param 12 4 = 1 ∧ (cmdOf 0x1204 [3, 0, 1, 0, 1, 0, 0, 0]).param 10 1 = 1) ∧
    ({ State.reset with evg.waits := [{ line := 0, seq := 0, port := 1, first := 0, count := 1 }] }.at 0).evg.waits
      = [{ line := 0, seq := 0, port := 1, first := 0, count := 1 }] := by
  refine ⟨starts_of (by decide), ⟨starts_of (by decide), by decide⟩, ⟨starts_of (by decide), by decide⟩,
    ⟨starts_of (by decide), by decide, by decide⟩, by decide⟩

/-- A state with one hosted child of role 0 and one intake set. -/
def demandWit : DemandMsg :=
  { node := 1, typ := 1, ver := 1, leave := true, join := false, ack := false, duplex := false, fromLevel := 2, toLevel := 1,
    round := 0, demand := [], cmin := 0, draw := 0, floor := 0, limit := 0, upUs := 0, downUs := 0, ackRound := 0 }

def grantWit : GrantMsg :=
  { typ := 2, ver := 1, renewal := true, fallback := false, refused := false, fromLevel := 1, toLevel := 3, round := 0,
    grant := 100, leaseEnd := 3, commit := 0 }

/-- A hosted role of level 4 under a role of level 5 of node 2, which has formed its demand in round 1. -/
def roleWit : State :=
  { rlPut 0 rLEASEEND 3 (rlPut 0 rPARENT (4 * 4096 + 2) (rlPut 0 rKEY 0x8003 State.reset)) with
    slc.round := 1, slc.formed := [0] }

theorem witness_sluiceRoles :
    roleValid (roleWit.at 0) 0 = true ∧ roleRoot (roleWit.at 0) 0 = false ∧ passOwed 0 (roleWit.at 0) = true ∧
    nearRound (roleWit.at 0) 1 1 = true ∧ standbyNode (roleWit.at 0) = false ∧
    (hostedRoles (roleWit.at 0)).find? (fun r => roleLevel (roleWit.at 0) r == 4 && !roleRoot (roleWit.at 0) r
      && rl (roleWit.at 0) r rPARENT / 4096 % 8 + 1 == 5) = some 0 := by
  decide +kernel

theorem witness_sluiceRows :
    (nearRound ({ State.reset with slc.joined := true }.at 0) 1 0 = true ∧ standbyNode ({ State.reset with slc.joined := true }.at 0) = false ∧
      grantWit.fromLevel = nd ({ State.reset with slc.joined := true }.at 0) nPARENT / 4096 % 8 + 1) ∧
    ({ State.reset with cfg.modeJob := some (0, 0, 4), sys.mode := .m3, slc.joining := true }.at 0).cfg.modeJob = some (0, 0, 4) ∧
    ({ State.reset with slc.sets := [{ node := 1, set := 0, lastE := some 0 }] }.at 0).slc.sets.length = 1 ∧
    guardOn (State.reset.at 0) 0 = false ∧
    leafNode (State.reset.at 0) = leafNode (State.reset.at 0) := by
  refine ⟨⟨by decide, by decide, by decide⟩, by decide, by decide, by decide, rfl⟩

theorem witness_sluiceCommands :
    Starts 0 0 0x0401 ((cmdState .m4 (cmdOf 0x0401 [])).at 0) (cmdOf 0x0401 []) ∧
    (Starts 0 0 0x0402 ((cmdState .m4 (cmdOf 0x0402 [2, 0, 0, 0, 1, 0])).at 0) (cmdOf 0x0402 [2, 0, 0, 0, 1, 0]) ∧
      (cmdOf 0x0402 [2, 0, 0, 0, 1, 0]).param 8 1 = 2 ∧ (cmdOf 0x0402 [2, 0, 0, 0, 1, 0]).param 12 2 = 1) ∧
    (Starts 0 0 0x0402 ((cmdState .m4 (cmdOf 0x0402 [0, 0, 255, 15, 1, 0])).at 0) (cmdOf 0x0402 [0, 0, 255, 15, 1, 0]) ∧
      ¬4096 < (cmdOf 0x0402 [0, 0, 255, 15, 1, 0]).param 10 2 + (cmdOf 0x0402 [0, 0, 255, 15, 1, 0]).param 12 2) ∧
    Starts 0 0 0x0403 ((cmdState .m4 (cmdOf 0x0403 [])).at 0) (cmdOf 0x0403 []) ∧
    Starts 0 0 0x0404 ((cmdState .m4 (cmdOf 0x0404 [])).at 0) (cmdOf 0x0404 []) ∧
    (Starts 0 0 0x0405 ((cmdState .m4 (cmdOf 0x0405 [3, 7])).at 0) (cmdOf 0x0405 [3, 7]) ∧
      ¬4 ≤ (cmdOf 0x0405 [3, 7]).param 8 1 ∧ ¬7 < (cmdOf 0x0405 [3, 7]).param 9 1) := by
  refine ⟨starts_of (by decide), ⟨starts_of (by decide), by decide, by decide⟩, ⟨starts_of (by decide), by decide⟩,
    starts_of (by decide), starts_of (by decide), starts_of (by decide), by decide, by decide⟩

/-- Role 0 with one joined child whose commitment is 100 W. -/
def passWit : State := alPut 0 aCMIN 100 (alSetBit 0 0 true (rlPut 0 rCOUNT 1 (rlPut 0 rKEY 0x8003 State.reset)))

theorem witness_pass :
    (children passWit 0).length = 1 ∧ (passResult passWit 0 200).2 = false ∧
    sumList (((children passWit 0).map (passChild passWit [])).map fun c => c.fixed.getD c.g) = 100 := by decide +kernel

/-- A state with leg 0 present and switching, its latch count 1 reached, and its current's channel at 1 mA a step. -/
def legWit (st : LegState) : State :=
  let s := { State.reset with sys.mode := .m5, pwm.leg := upd State.reset.pwm.leg 0 fun l => { l with st := st, ocRun := 1 } }
  wrw (wrw (wrw (wrw s (legAddr 0) 5) (pgAddr 0) 0x10000) (mdatAddr 0) 0x80) (mdatAddr 0 + 4) 1000

/-- The fast filter's bits that read the greatest and the least current. -/
def fastWit (v : Bool) : List Bool := List.replicate 9 v

theorem witness_powerRows :
    ((legOf ((legWit .switching).at 0) 0).st = .switching ∧ (legOf ((legWit .switching).at 0) 0).limitedNow = false ∧
      legPresent ((legWit .switching).at 0) 0 = true ∧ rdb ((legWit .switching).at 0) (pgAddr 0) 16 = true ∧
      0 < rdf ((legWit .switching).at 0) (legAddr 0) 2 4 ∧
      rdf ((legWit .switching).at 0) (legAddr 0) 2 4 ≤ (legOf ((legWit .switching).at 0) 0).ocRun) ∧
    (ocLim ((legWit .switching).at 0) 0 < fastValue ((legWit .switching).at 0) 0 (fastWit true) ∧
      fastValue ((legWit .switching).at 0) 0 (fastWit false) < -ocNeg ((legWit .switching).at 0) 0 ∧
      ocTrip ((legWit .switching).at 0) 0 < fastValue ((legWit .switching).at 0) 0 (fastWit true) ∧
      gateFaultDue ((legWit .switching).at 0) 0 = false) ∧
    (atLoadPoint ((legWit .switching).at 0) 0 true = true ∧ atLoadPoint ((legWit .switching).at 0) 0 false = true ∧
      atValley (State.reset.at 0) 0 = true) ∧
    (legOf ((legWit .crowbar).at 0) 0).st = .crowbar ∧
    (pgr ({ State.reset with pwm.pg := upd State.reset.pwm.pg 0 fun p => { p with respread := true } }.at 0) 0).respread = true := by
  refine ⟨⟨by decide, by decide, by decide, by decide, by decide, by decide⟩, ⟨by decide, by decide, by decide, by decide⟩,
    ⟨by decide, by decide, by decide⟩, by decide, by decide⟩

theorem witness_legValley : (legOf (takeLegValley 0 [] ((legWit .switching).at 0)) 0).st = .switching := by decide +kernel

theorem witness_groupValley : (pgr (countTrigger 0 (checkDischarged 0 (trackValley 0 (brakeCheck 0 (sumOutputs
    (takeValley 0 [] (State.reset.at 0))))))) 0).setChanged = false := by decide

/-- Output 0 with its contactor commanded or reading closed. -/
def outWit (cmd fb opening : Bool) : State :=
  { State.reset with pwm.out := upd State.reset.pwm.out 0 fun o => { o with ctrCmd := cmd, ctrFb := fb, opening := opening },
                     pwm.pg := upd State.reset.pwm.pg 0 fun p =>
                       { p with mtxCmd := upd p.mtxCmd 0 fun _ => cmd, mtxFb := upd p.mtxFb 0 fun _ => fb } }

theorem witness_contactorRows :
    (get (pgr ((outWit true false false).at 0) 0).mtxCmd 0 = true ∧ get (pgr ((outWit true false false).at 0) 0).mtxFb 0 = false ∧
      (pout ((outWit true false false).at 0) 0).ctrCmd = true ∧ (pout ((outWit true false false).at 0) 0).ctrFb = false ∧
      ctrHasFb ((outWit true false false).at 0) 0 = false ∧ ctrCommanded ((outWit true false false).at 0) (.out 0) = true ∧
      otherPosition ((outWit true false false).at 0) 0 1 = true) ∧
    (get (pgr ((outWit false true false).at 0) 0).mtxCmd 0 = false ∧ get (pgr ((outWit false true false).at 0) 0).mtxFb 0 = true) ∧
    (openingWaits ((outWit true true true).at 0) (.out 0) = true) ∧
    (carrying (State.reset.at 0) 0 = [] ∧ (pout (State.reset.at 0) 0).ctrFb = false ∧ (pout (State.reset.at 0) 0).ctrCmd = false) := by
  refine ⟨⟨by decide, by decide, by decide, by decide, by decide, by decide, by decide⟩, ⟨by decide, by decide⟩, by decide,
    by decide, by decide, by decide⟩

/-- Group 0 tracking toward output 0 in tolerance, output 0 holding, braking and under its weld test. -/
def trackWit (k : TrkMode) : State :=
  { State.reset with sys.mode := .m5,
                     pwm.pg := upd State.reset.pwm.pg 0 fun p => { p with trk := k, inTol := true },
                     pwm.out := upd State.reset.pwm.out 0 fun o => { o with ins := .holding, braking := true, weldTest := true } }

theorem witness_transitionRows :
    energised (State.reset.at 0) 0 = false ∧
    ((pgr ((trackWit .coinOut).at 0) 0).inTol = true ∧ (pgr ((trackWit .coinOut).at 0) 0).closeCmd = false ∧
      (pgr ((trackWit .coinOut).at 0) 0).trkDone = false ∧ fbFlagged ((trackWit .coinOut).at 0) 36 = false ∧
      fbFlagged ((trackWit .coinOut).at 0) 42 = false ∧ (pgr ((trackWit .coinOut).at 0) 0).trk = .coinOut) ∧
    ((pgr ((trackWit .ratio).at 0) 0).trk = .ratio ∧ (pout ((trackWit .ratio).at 0) 0).ins = .holding ∧
      (pout ((trackWit .ratio).at 0) 0).weldTest = true ∧ (pout ((trackWit .ratio).at 0) 0).braking = true) ∧
    energised (resplit (readVout 0 [] ({ State.reset with pwm.out := upd State.reset.pwm.out 0 fun o => { o with energised := true } }.at 0))) 0 = true ∧
    fbFlagged ({ State.reset with pwm.mdat := upd State.reset.pwm.mdat 0 fun m => { m with lost := true } }.at 0) 0 = true := by
  refine ⟨by decide, ⟨by decide, by decide, by decide, by decide, by decide, by decide⟩, ⟨by decide, by decide, by decide, by decide⟩,
    by decide +kernel, by decide⟩

/-- What an output reading leaves from reset. -/
def readWit : State := setOut 0 (fun o => { o with ovRun := 0 }) (errCleared 2 0x11 0 (takeVout 0 [] [] (State.reset.at 0)))

theorem witness_outputRead :
    beyondOv (takeVout 0 [] [] (State.reset.at 0)) 0 = false ∧ (pout readWit 0).weldTest = false ∧
    brakeRise readWit 0 (pout readWit 0).vHist = false := by decide +kernel

/-- Group 0 connected toward output 0 in M5 with no tracking. -/
def insWit : State :=
  wrw { State.reset with sys.mode := .m5, pwm.pg := upd State.reset.pwm.pg 0 fun p => { p with mtxFb := upd p.mtxFb 0 fun _ => true } }
    (pgAddr 0) 0x80000000

theorem witness_insulation :
    gateModes (insWit.at 0) = true ∧ trackReady (insWit.at 0) 0 = true ∧ outUsable (insWit.at 0) 0 = true ∧
    energised (insWit.at 0) 0 = false ∧ (pout (insWit.at 0) 0).ctrCmd = false ∧ (pout (insWit.at 0) 0).ins = .idle ∧
    deadOut (insWit.at 0) 0 = true ∧ otherPosition (insWit.at 0) 0 0 = false ∧ trackAllowed (insWit.at 0) 0 0 .coinOut = true := by
  decide +kernel

theorem witness_powerCommands :
    Starts 0 0 0x0501 ((cmdState .m4 (cmdOf 0x0501 [])).at 0) (cmdOf 0x0501 []) ∧
    (Starts 0 0 0x0502 ((cmdState .m4 (cmdOf 0x0502 [0, 0])).at 0) (cmdOf 0x0502 [0, 0]) ∧
      clearRefused (cmdOf 0x0502 [0, 0]) ((cmdState .m4 (cmdOf 0x0502 [0, 0])).at 0) = false ∧ clearBad (cmdOf 0x0502 [0, 0]) = none) ∧
    (Starts 0 0 0x0503 ((cmdState .m4 (cmdOf 0x0503 [35, 1])).at 0) (cmdOf 0x0503 [35, 1]) ∧ ¬36 ≤ (cmdOf 0x0503 [35, 1]).param 8 1 ∧
      ¬2 ≤ (cmdOf 0x0503 [35, 1]).param 9 1) ∧
    Starts 0 0 0x0504 ((cmdState .m4 (cmdOf 0x0504 [])).at 0) (cmdOf 0x0504 []) := by
  refine ⟨starts_of (by decide), ⟨starts_of (by decide), by decide, by decide⟩, ⟨starts_of (by decide), by decide, by decide⟩,
    starts_of (by decide)⟩

theorem witness_reedbed :
    ((slotOf ({ State.reset with lpe.slot := upd State.reset.lpe.slot 0 fun x => { x with ovr := true, good := 100 } }.at 0) 0).ovr = true ∧
      slotKind (State.reset.at 0) 0 = 0 ∧ ∃ a, slotKind ((wrw State.reset a 0).at 0) 0 = 0) ∧
    (slotOf ({ State.reset with lpe.slot := upd State.reset.lpe.slot 0 fun x => { x with cap := some {} } }.at 0) 0).cap = some {} ∧
    (slotRuns ((wrw { State.reset with cfg.loaded := true } 0x58000000 1).at 0) 0 = true ∧
      releaseDue ((wrw { State.reset with cfg.loaded := true } 0x58000000 1).at 0) 0 = true) ∧
    (Starts 0 0 0x0505 ((cmdState .m4 (cmdOf 0x0505 [0, 64])).at 0) (cmdOf 0x0505 [0, 64]) ∧
      ¬64 < (cmdOf 0x0505 [0, 64]).param 8 1 + (cmdOf 0x0505 [0, 64]).param 9 1) ∧
    Starts 0 0 0x0506 ((cmdState .m4 (cmdOf 0x0506 [])).at 0) (cmdOf 0x0506 []) := by
  refine ⟨⟨by decide, by decide, 0, by decide⟩, by decide, ⟨by decide, by decide⟩, ⟨starts_of (by decide), by decide⟩, starts_of (by decide)⟩

/-- Cable 0 authenticated, its life write due, with an authentication running. -/
def cableWit : State :=
  { State.reset with sys.mode := .m4, own.owner := 1, cbl.op := upd State.reset.cbl.op 0 fun o =>
      { o with auth := true, lifeDue := true, authRun := true } }

theorem witness_cables :
    ((cbl (cableWit.at 0) 0).auth = true ∧ (cbl (cableWit.at 0) 0).lifeDue = true ∧ (cbl (cableWit.at 0) 0).flushJob = none ∧
      (cbl (cableWit.at 0) 0).authRun = true ∧ (cbl (cableWit.at 0) 0).flowLow = false) ∧
    bits (rdw ((wrw State.reset (baseCBL + 0x400) 3).at 0) (baseCBL + 0x400)) 0 2 = 3 ∧
    Starts 0 0 0x0601 ((cmdState .m4 (cmdOf 0x0601 [])).at 0) (cmdOf 0x0601 []) ∧
    (Starts 0 0 0x0602 ((cmdState .m4 (cmdOf 0x0602 [3])).at 0) (cmdOf 0x0602 [3]) ∧ ¬4 ≤ (cmdOf 0x0602 [3]).param 8 1) ∧
    (Starts 0 0 0x0603 ((cmdState .m4 (cmdOf 0x0603 [0])).at 0) (cmdOf 0x0603 [0])) ∧
    (Starts 0 0 0x0604 ({ cableWit with mbx.cmds := [cmdOf 0x0604 [0]] }.at 0) (cmdOf 0x0604 [0]) ∧
      flushIllegal (cmdOf 0x0604 [0]) ({ cableWit with mbx.cmds := [cmdOf 0x0604 [0]] }.at 0) = false) := by
  refine ⟨⟨by decide, by decide, by decide, by decide, by decide⟩, by decide, starts_of (by decide),
    ⟨starts_of (by decide), by decide⟩, starts_of (by decide), starts_of (by decide), by decide⟩

/-- Channel 0 with a given record and configuration word, in M4. -/
def lswWit (cfg : Nat) (x : LswCh) : State :=
  wrw { State.reset with sys.mode := .m4, lsw.ch := upd State.reset.lsw.ch 0 fun _ => x } (lswCfgAddr 0) cfg

theorem witness_lswRows :
    (3 ≤ ((lswWit 1 { cmd := true, on := true }).at 0).sys.mode.num ∧ lswOwner ((lswWit 1 {}).at 0) 0 = 0 ∧
      (lch ((lswWit 1 { cmd := true, on := true }).at 0) 0).on = true ∧ (lch ((lswWit 1 { cmd := true, on := true }).at 0) 0).limiting = false ∧
      (lch ((lswWit 1 { limiting := true, on := true }).at 0) 0).limiting = true ∧ (lch ((lswWit 1 { thermal := true }).at 0) 0).thermal = true ∧
      (lch ((lswWit 1 { openLoad := true }).at 0) 0).openLoad = true ∧ (lch ((lswWit 1 { pickup := true }).at 0) 0).pickup = true) ∧
    (lswMode ((lswWit 0x803 { cmd := true }).at 0) 0 ≠ 0 ∧ ¬retryN ((lswWit 0x803 { cmd := true }).at 0) 0 ≤ (lch ((lswWit 0x803 { cmd := true }).at 0) 0).retries) ∧
    (retryN ((lswWit 3 { cmd := true }).at 0) 0 ≤ (lch ((lswWit 3 { cmd := true }).at 0) 0).retries ∧ lswMode ((lswWit 3 { cmd := true }).at 0) 0 ≠ 0) ∧
    (∃ w, w = { lswWit 0x803 { cmd := true, retryFrom := some 0 } with lsw.good := upd State.reset.lsw.good 0 fun _ => true } ∧
      retryDue (w.at 1) 0 = true ∧ get (w.at 1).lsw.good 0 = true ∧ get (w.at 1).lsw.uv 0 = false) ∧
    (openLoadOn ((lswWit 0x203 {}).at 0) 0 = true) ∧
    (clampCap ((lswWit 3 {}).at 0) 0 < clampNow ((lswWit 3 {}).at 0) 0 + 1 * 100000000 ∧
      ¬clampCap ((lswWit 3 {}).at 0) 0 < clampNow ((lswWit 3 {}).at 0) 0 + 0 * 100000000) := by
  refine ⟨⟨by decide, by decide, by decide, by decide, by decide, by decide, by decide, by decide⟩, ⟨by decide, by decide⟩,
    ⟨by decide, by decide⟩, ⟨_, rfl, by decide, by decide, by decide⟩, by decide, by decide, by decide⟩

/-- Two stations configured, in a mode. -/
def mxpWit (m : Mode) : State := wrw { State.reset with sys.mode := m } (baseLSW + 0x800) 1

theorem witness_mxp :
    (¬((mxpWit .m4).at 0).sys.mode.num < 3 ∧ nStations ((mxpWit .m4).at 0) ≠ 0 ∧ ((mxpWit .m4).at 0).dbg.ir ≠ 3 ∧ ((mxpWit .m7).at 0).sys.mode = .m7 ∧
      ((frameWords ((mxpWit .m4).at 0) []).all fun y => y.2.isSome) = false ∧
      ((frameWords ((mxpWit .m4).at 0) [crc8 [0, 0]]).all fun y => y.2.isSome) = true) ∧
    get ({ State.reset with lsw.mOn := upd State.reset.lsw.mOn 63 fun _ => true }.at 0).lsw.mOn 63 = true ∧
    Starts 0 0 0x0701 ((cmdState .m4 (cmdOf 0x0701 [])).at 0) (cmdOf 0x0701 []) ∧
    (Starts 0 0 0x0702 ((cmdState .m4 (cmdOf 0x0702 [1, 0, 0, 0, 1])).at 0) (cmdOf 0x0702 [1, 0, 0, 0, 1]) ∧
      lswSetIllegal (cmdOf 0x0702 [1, 0, 0, 0, 1]) ((cmdState .m4 (cmdOf 0x0702 [1, 0, 0, 0, 1])).at 0) = false) ∧
    (∃ x, x = { lswWit 3 { clampLock := true, retrySpent := true } with own.owner := 1, mbx.cmds := [cmdOf 0x0703 [0, 2]] } ∧
      Starts 0 0 0x0703 (x.at 0) (cmdOf 0x0703 [0, 2]) ∧ lswClearIllegal (cmdOf 0x0703 [0, 2]) (x.at 0) = false ∧
      (lch (x.at 0) 0).retrySpent = true) ∧
    (∃ x, x = { wrw (lswWit 3 { clampLock := true }) (lswCfgAddr 0 + 4) 1 with own.owner := 1, mbx.cmds := [cmdOf 0x0703 [0, 1]] } ∧
      Starts 0 0 0x0703 (x.at 0) (cmdOf 0x0703 [0, 1]) ∧ lswClearIllegal (cmdOf 0x0703 [0, 1]) (x.at 0) = false ∧
      (lch (x.at 0) 0).clampLock = true) ∧
    Starts 0 0 0x0704 ((cmdState .m4 (cmdOf 0x0704 [])).at 0) (cmdOf 0x0704 []) := by
  refine ⟨⟨by decide, by decide, by decide, by decide, by decide, by decide⟩, by decide, starts_of (by decide), ⟨starts_of (by decide), by decide⟩,
    ⟨_, rfl, starts_of (by decide), by decide, by decide⟩, ⟨_, rfl, starts_of (by decide), by decide, by decide⟩, starts_of (by decide)⟩

/-- Port 0 with a given record in a mode. -/
def portWit (m : Mode) (p : Port) : State :=
  { State.reset with sys.mode := m, vcl.port := upd State.reset.vcl.port 0 fun _ => p }

theorem witness_ppBand : let x := portWit .m4 { bandNew := 3, band := 0 }
    (¬(x.at 20000000).now < (prt (x.at 20000000) 0).bandSince + 20000000) ∧ (prt (x.at 20000000) 0).bandNew ≠ (prt (x.at 20000000) 0).band ∧
      (prt (x.at 20000000) 0).meaning ≠ 1 ∧ connType (wrw x (baseVCL + 0x100) 1 |>.at 0) 0 = 1 ∧
      ppMeaning ({ x with cfg.params := [(pPP_BAND_3, 1)] }.at 20000000) 3 = 1 ∧ ppMeaning (x.at 20000000) 3 = 0 := by
  refine ⟨by decide, by decide, by decide, by decide, by decide, by decide⟩

theorem witness_vclRows :
    ((prt ((portWit .m4 { slac := 1 }).at 0) 0).slac = 1 ∧ 0 ≤ attenMax (State.reset.at 0) 0) ∧
    ((prt ((portWit .m4 { slac := 3, slacTries := 2 }).at 0) 0).slac = 3 ∧ (prt ((portWit .m4 { slac := 3, slacTries := 2 }).at 0) 0).slacTries < 3) ∧
    (prt ((portWit .m4 { heldRsp := some [] }).at 0) 0).heldRsp.isSome = true ∧
    (∃ x, x = wrw (portWit .m4 { sess := 2 }) (baseVCL + 0x100) 9 ∧ hasPilot (x.at 0) 0 = true ∧ bestProto (x.at 0) 0 [(1, 1)] = some 1 ∧
      bestProto (x.at 0) 0 [] = none) ∧
    ((prt ((portWit .m4 { sess := 5, checked := true }).at 0) 0).sess = 5 ∧ (pout ((portWit .m4 { sess := 5 }).at 0) 0).ins = .idle ∧
      (pout ((portWit .m4 { sess := 5 }).at 0) 0).ctrCmd = false ∧ param ((portWit .m4 { sess := 5 }).at 0) pLEGAL_ENABLE 0 = 0 ∧ legalOk ((portWit .m4 { sess := 5 }).at 0) = true) ∧
    ((prt ((portWit .m4 { sess := 4, authorised := true }).at 0) 0).sess = 4 ∧ (prt ((portWit .m4 { relay := 1 }).at 0) 0).relay ≠ 0) ∧
    ((prt ((portWit .m4 { sess := 10, locked := true }).at 0) 0).sess = 10 ∧ (pout ((portWit .m4 { sess := 10 }).at 0) 0).vout < 60000) ∧
    (∃ t0, (prt ((portWit .m4 { capZero := some 0 }).at 10000000000) 0).capZero = some t0 ∧
      t0 + 10000000000 ≤ ((portWit .m4 { capZero := some 0 }).at 10000000000).now) := by
  refine ⟨⟨by decide, by decide⟩, ⟨by decide, by decide⟩, by decide, ⟨_, rfl, by decide, by decide, by decide⟩,
    ⟨by decide, by decide, by decide, by decide, by decide⟩, ⟨by decide, by decide⟩, ⟨by decide, by decide⟩, 0, by decide, by decide⟩

/-- A state with a command on line 0 and a port record at port 0. -/
def portCmdWit (p : Port) (c : Cmd) : State := { portWit .m4 p with own.owner := 1, mbx.cmds := [c] }

theorem witness_vehCommands :
    (((portWit .m4 { sess := 2 }).at 0).sys.mode ≠ .m7 ∧ (prt ((portWit .m4 { sess := 9 }).at 0) 0).rxOnly = false) ∧
    (((portWit .m7 {}).at 0).sys.mode = .m7 ∧ ¬65536 < ((prt ((portWit .m7 {}).at 0) 0).frames.map (·.len)).foldl (· + ·) 1500) ∧
    64 ≤ (prt ((portWit .m7 { frames := List.replicate 64 { req := .other, len := 0, stack := [], rsp := [] } }).at 0) 0).frames.length ∧
    Starts 0 0 0x0801 ((cmdState .m4 (cmdOf 0x0801 [])).at 0) (cmdOf 0x0801 []) ∧
    Starts 0 0 0x0802 ((cmdState .m4 (cmdOf 0x0802 [3])).at 0) (cmdOf 0x0802 [3]) ∧
    (∃ x, x = portCmdWit { sess := 3 } (cmdOf 0x0803 [0, 1, 0, 0]) ∧ Starts 0 0 0x0803 (x.at 0) (cmdOf 0x0803 [0, 1, 0, 0]) ∧
      authorizeIllegal (cmdOf 0x0803 [0, 1, 0, 0]) (x.at 0) = false) ∧
    Starts 0 0 0x0804 ((cmdState .m4 (cmdOf 0x0804 [3])).at 0) (cmdOf 0x0804 [3]) ∧
    (∃ x, x = wrw (portCmdWit {} (cmdOf 0x0805 [0])) (baseVCL + 0x100) 0x200000 ∧ Starts 0 0 0x0805 (x.at 0) (cmdOf 0x0805 [0]) ∧
      exportIllegal (cmdOf 0x0805 [0]) (x.at 0) = false) ∧
    (∃ x, x = portCmdWit { relay := 1 } (cmdOf 0x0806 [0, 0, 0, 0, 1, 0, 0, 0]) ∧ (prt (x.at 0) 0).relay ≠ 0 ∧
      Starts 0 0 0x0806 (x.at 0) (cmdOf 0x0806 [0, 0, 0, 0, 1, 0, 0, 0]) ∧
      (cmdOf 0x0806 [0, 0, 0, 0, 1, 0, 0, 0]).param 12 4 = (prt (x.at 0) 0).relay) ∧
    (Starts 0 0 0x0807 ((cmdState .m4 (cmdOf 0x0807 [0, 1])).at 0) (cmdOf 0x0807 [0, 1]) ∧
      portEnableIllegal (cmdOf 0x0807 [0, 1]) ((cmdState .m4 (cmdOf 0x0807 [0, 1])).at 0) = false) := by
  refine ⟨⟨by decide, by decide⟩, ⟨by decide, by decide⟩, by decide, starts_of (by decide), starts_of (by decide),
    ⟨_, rfl, starts_of (by decide), by decide⟩, starts_of (by decide), ⟨_, rfl, starts_of (by decide), by decide⟩,
    ⟨_, rfl, by decide, starts_of (by decide), by decide⟩, starts_of (by decide), by decide⟩

/-- Controller 5 in a mode, FD enabled, object 0 enabled to send or receive with its STAT word. -/
def canWit (mode ctl stat : Nat) (x : CanCtl) (cmds : List Cmd) : State :=
  wrw (wrw (wrw { State.reset with sys.mode := .m4, can.ctl := upd State.reset.can.ctl 5 fun _ => x, mbx.cmds := cmds, own.owner := 1 } (canBase 5) (mode + 16))
    (objAddr 5 0) ctl) (objAddr 5 0 + 12) stat

theorem witness_canRows :
    (canMode ((canWit 1 1 0x20 {} []).at 0) 5 = 1 ∧ canMode ((canWit 2 1 0x20 {} []).at 0) 5 = 2 ∧ canFd ((canWit 1 1 0x20 {} []).at 0) 5 = true ∧
      isRecv ((canWit 1 1 0x20 {} []).at 0) 5 0 = true ∧
      rxinfoDue ((canWit 1 1 0x20 {} []).at 0) 5 0 = false ∧ objBit ((canWit 1 1 0x20 {} []).at 0) 5 0 5 = true) ∧
    (canFd (State.reset.at 0) 5 = false ∧ onBus ((canWit 1 1 0 { txing := some 0 } []).at 0) 5 = true ∧
      (canc ((canWit 1 1 0 { txing := some 0 } []).at 0) 5).txing = some 0) ∧
    ((canc ((canWit 1 1 0 { conf := 2, recovering := true, modeDue := true } []).at 0) 5).conf = 2 ∧
      (canc ((canWit 1 1 0 { conf := 2, recovering := true, modeDue := true } []).at 0) 5).recovering = true ∧
      (canc ((canWit 1 1 0 { conf := 2, recovering := true, modeDue := true } []).at 0) 5).modeDue = true) := by
  refine ⟨⟨by decide, by decide, by decide, by decide, by decide, by decide⟩, ⟨by decide, by decide, by decide⟩, by decide, by decide, by decide⟩

theorem witness_canCommands :
    Starts 0 0 0x0901 ((cmdState .m4 (cmdOf 0x0901 [])).at 0) (cmdOf 0x0901 []) ∧
    (Starts 0 0 0x0902 ((cmdState .m4 (cmdOf 0x0902 [5, 127, 1])).at 0) (cmdOf 0x0902 [5, 127, 1]) ∧ ¬128 < 127 + 1) ∧
    (∀ k, k = { cmdOf 0x0903 [5, 0, 1] with data := List.replicate 96 0 } →
      Starts 0 0 0x0903 ((canWit 1 0x203 0 {} [k]).at 0) k ∧ canForeign true k ((canWit 1 0x203 0 {} [k]).at 0) = false ∧ k.data.length = 96) ∧
    (∀ k, k = cmdOf 0x0904 [5, 0] → Starts 0 0 0x0904 ((canWit 1 0x203 0 { txing := some 0 } [k]).at 0) k ∧
      canForeign true k ((canWit 1 0x203 0 {} [k]).at 0) = false ∧ isSend ((canWit 1 0x203 0 {} [k]).at 0) 5 0 = true) ∧
    (∀ k, k = cmdOf 0x0905 [5] → Starts 0 0 0x0905 ((canWit 1 3 0 { conf := 2 } [k]).at 0) k ∧
      canForeign false k ((canWit 1 3 0 { conf := 2 } [k]).at 0) = false ∧ (canc ((canWit 1 3 0 { conf := 2 } [k]).at 0) 5).conf = 2) := by
  refine ⟨starts_of (by decide), ⟨starts_of (by decide), by decide⟩, ?_, ?_, ?_⟩
  · rintro k rfl; exact ⟨starts_of (by decide), by decide, by decide⟩
  · rintro k rfl; exact ⟨starts_of (by decide), by decide, by decide⟩
  · rintro k rfl; exact ⟨starts_of (by decide), by decide, by decide⟩

/-- Every meter channel in use, DC channel 0 and test pulse 0 as given. -/
def mtrWit (c : MtrDc) (p : TestPulse) : State :=
  wrw (wrw { State.reset with sys.mode := .m4, mtr.dc := upd State.reset.mtr.dc 0 fun _ => c, mtr.tp := upd State.reset.mtr.tp 0 fun _ => p,
                              lgl.startup := true, mtr.window60 := true } baseMTR 0x3F000) (dcAddr 0 + 4) 0x10000

theorem witness_mtrRows :
    (dcOn ((mtrWit {} {}).at 0) 0 = true ∧ acOn ((mtrWit {} {}).at 0) 1 = true ∧ mtrRuns ((mtrWit {} {}).at 0) = true ∧
      pairRuns ((mtrWit {} {}).at 0) = true ∧ wideWindow ((mtrWit {} {}).at 0) = true ∧
      tickDue ((mtrWit {} {}).at 1000000000) = true) ∧
    ((get ((mtrWit {} { high := true, gap := true, backlog := [300] }).at 0).mtr.tp 0).high = true ∧
      (get ((mtrWit {} { high := true, gap := true, backlog := [300] }).at 0).mtr.tp 0).backlog = [300] ∧
      (get ((mtrWit {} { gap := true }).at 0).mtr.tp 0).backlog = []) ∧
    (rdb ((mtrWit {} {}).at 0) (dcAddr 0 + 4) 16 = true ∧ (mdc ((mtrWit {} {}).at 0) 0).senseBad = false ∧
      (mdc ((mtrWit { senseOut := some 0, senseIn := some 0 } {}).at 10000000000) 0).senseOut = some 0 ∧
      (mdc ((mtrWit { senseOut := some 0, senseIn := some 0 } {}).at 10000000000) 0).senseIn = some 0) ∧
    ((mdc ((mtrWit { ovrSince := some 0, crossSince := some 0 } {}).at 10000000) 0).ovrSince = some 0 ∧
      0 + 10000000 ≤ ((mtrWit { ovrSince := some 0, crossSince := some 0 } {}).at 10000000).now ∧
      0 + 1000000000 ≤ ((mtrWit { crossSince := some 0 } {}).at 1000000000).now ∧
      (mdc ((mtrWit { crossSince := some 0 } {}).at 1000000000) 0).crossSince = some 0) := by
  refine ⟨⟨by decide, by decide, by decide, by decide, by decide, by decide⟩, ⟨by decide, by decide, by decide⟩, ⟨by decide, by decide, by decide, by decide⟩,
    by decide, by decide, by decide, by decide⟩

theorem witness_dcSample : fadeStep State.reset 3 0 true 0 = 1 := by decide

/-- A command on line 0 with the seal open and a calibration set pending. -/
def sealWit (c : Cmd) : State :=
  { cmdState .m9 c with lgl.sealOpen := true, mtr.calNew := some State.reset.mtr.cal }

theorem witness_mtrCommands :
    (Starts 0 0 0x0A01 ((cmdState .m4 (cmdOf 0x0A01 [])).at 0) (cmdOf 0x0A01 [])) ∧
    (Starts 0 0 0x0A02 ((cmdState .m4 (cmdOf 0x0A02 [39, 1, 0])).at 0) (cmdOf 0x0A02 [39, 1, 0]) ∧
      mtrReadIllegal (cmdOf 0x0A02 [39, 1, 0]) ((cmdState .m4 (cmdOf 0x0A02 [39, 1, 0])).at 0) = false) ∧
    (Starts 0 0 0x0A03 ((cmdState .m4 (cmdOf 0x0A03 [1])).at 0) (cmdOf 0x0A03 [1])) ∧
    (Starts 0 0 0x0A04 ((cmdState .m4 (cmdOf 0x0A04 [1, 16])).at 0) (cmdOf 0x0A04 [1, 16])) ∧
    (Starts 0 0 0x0A05 ((cmdState .m4 (cmdOf 0x0A05 [3])).at 0) (cmdOf 0x0A05 [3])) ∧
    (∀ c, c = cmdOf 0x0A06 [0, 0, 1, 0, 0, 0, 0, 64] → Starts 0 0 0x0A06 ((sealWit c).at 0) c ∧ Starts 0 0 0x0A06 ((cmdState .m9 c).at 0) c ∧
      calBad c = none ∧ ((sealWit c).at 0).lgl.sealOpen = true ∧ ((cmdState .m9 c).at 0).lgl.sealOpen = false) ∧
    (∀ c, c = cmdOf 0x0A07 [] → Starts 0 0 0x0A07 ((sealWit c).at 0) c ∧ noPendingCal c ((sealWit c).at 0) = false) ∧
    (∀ c, c = cmdOf 0x0A08 [5, 7, 0, 0, 1, 0, 0, 0] → Starts 0 0 0x0A08 ((cmdState .m9 c).at 0) c ∧ ¬8 ≤ c.param 9 1 ∧ ¬c.param 12 4 < 1) := by
  refine ⟨starts_of (by decide), ⟨starts_of (by decide), by decide⟩, starts_of (by decide), starts_of (by decide), starts_of (by decide), ?_, ?_, ?_⟩
  · rintro c rfl; exact ⟨starts_of (by decide), starts_of (by decide), by decide, by decide, by decide⟩
  · rintro c rfl; exact ⟨starts_of (by decide), by decide⟩
  · rintro c rfl; exact ⟨starts_of (by decide), by decide, by decide⟩

/-- A running legal pair in a mode with a request at the front of its ring. -/
def lglWit (m : Mode) (ring : List LglReq) : State :=
  { State.reset with sys.mode := m, lgl.startup := true, lgl.ring := ring, lgl.synced := true, lgl.restarting := false }

theorem witness_pairRows :
    (pairRuns ((lglWit .m4 []).at 0) = true ∧ lglPowered ((lglWit .m4 []).at 0) = true ∧ ((lglWit .m4 []).at 0).lgl.emgDue = false) ∧
    (((lglWit .m4 [.sessionOpen 3 1]).at 0).lgl.ring = [.sessionOpen 3 1] ∧ (get ((lglWit .m4 []).at 0).lgl.sess 3).isSome = false) ∧
    (get ({ lglWit .m4 [.sessionClose 0 1] with lgl.sess := upd State.reset.lgl.sess 0 fun _ => some {} }.at 0).lgl.sess 0).isNone = false ∧
    (((lglWit .m4 [.role true]).at 0).lgl.standby ≠ true ∧ (rebase ((lglWit .m4 []).at 0)).lgl.synced = true ∧
      pairRuns (rebase ((lglWit .m4 []).at 0)) = true) ∧
    ({ lglWit .m4 [.calCommit 0 0] with mtr.calNew := some State.reset.mtr.cal }.at 0).mtr.calNew = some State.reset.mtr.cal ∧
    (({ lglWit .m4 [] with lgl.startup := false }.at 0).lgl.startup = false ∧ 0x3FFFFF ≤ ((lglWit .m4 []).at 0).lgl.ringEnd ∧
      ((lglWit .m4 []).at 0).lgl.ringEnd < 0x10000000) ∧
    (((lglWit .m9 []).at 0).lgl.sealOpen = false ∧ pairRuns { (lglWit .m9 []).at 0 with lgl.sealOpen := true } = true) ∧
    (({ lglWit .m4 [] with lgl.restarting := true }.at 0).lgl.restarting = true ∧ ((lglWit .m4 []).at 0).lgl.optical = .waiting) := by
  refine ⟨⟨by decide, by decide, by decide⟩, ⟨by decide, by decide⟩, by decide, ⟨by decide, by decide, by decide⟩, by decide,
    ⟨by decide, by decide, by decide⟩, ⟨by decide, by decide⟩, by decide, by decide⟩

theorem witness_legalCommands :
    Starts 0 0 0x0B01 ((cmdState .m4 (cmdOf 0x0B01 [])).at 0) (cmdOf 0x0B01 []) ∧
    Starts 0 0 0x0B02 ((cmdState .m4 (cmdOf 0x0B02 [])).at 0) (cmdOf 0x0B02 []) ∧
    (Starts 0 0 0x0B03 ((cmdState .m9 (cmdOf 0x0B03 [])).at 0) (cmdOf 0x0B03 []) ∧ Starts 0 0 0x0B03 ((cmdState .m4 (cmdOf 0x0B03 [])).at 0) (cmdOf 0x0B03 [])) ∧
    (Starts 0 0 0x0B04 ((cmdState .m4 (cmdOf 0x0B04 [3, 1])).at 0) (cmdOf 0x0B04 [3, 1]) ∧
      creditIllegal (cmdOf 0x0B04 [3, 1]) ((cmdState .m4 (cmdOf 0x0B04 [3, 1])).at 0) = false) ∧
    (Starts 0 0 0x0B05 ((cmdState .m4 (cmdOf 0x0B05 [0])).at 0) (cmdOf 0x0B05 [0]) ∧
      ((List.range ((cmdOf 0x0B05 [0]).param 8 1)).filterMap (windowFault (cmdOf 0x0B05 [0]))).head? = none) := by
  refine ⟨starts_of (by decide), starts_of (by decide), ⟨starts_of (by decide), starts_of (by decide)⟩, ⟨starts_of (by decide), by decide⟩,
    starts_of (by decide), by decide⟩

/-- The key store with slot 16 filled, a running operation or none, and the fuses blown up to FIELD. -/
def keyWit (run : Option CryptoOp) (c : Cmd) : State :=
  { cmdState .m4 c with key.trngOk := true, key.running := run, key.fProv := true, key.fField := true,
                        key.rights := upd State.reset.key.rights 0 fun _ => true,
                        key.slots := upd State.reset.key.slots 16 fun _ => { filled := true, typ := 1, users := 2 } }

theorem witness_keyRows :
    ((keyWit none default).at 0).key.trngOk = true ∧ ((keyWit none default).at 0).key.running.bind (·.slot) = none ∧
    ((keyWit (some { user := 1, slot := some 63 }) default).at 0).key.running.bind (·.slot) = some 63 ∧
    ((kslot ((keyWit none default).at 0) 16).filled = true ∧ userAllowed ((keyWit none default).at 0) 1 16 = true ∧
      kindFits .aes128 (kslot ((keyWit none default).at 0) 16).typ = true ∧ userAllowed ((keyWit none default).at 0) 2 16 = false) ∧
    ¬((keyWit none default).at 0).sys.mode.num < 2 ∧ get ((keyWit none default).at 0).key.rights (1 - 1) = true ∧
    (∀ c, c = cmdOf 0x0C06 [3] → lcIllegal c ((keyWit none c).at 0) = false ∧ lcIllegal (cmdOf 0x0C06 [4]) ((keyWit none c).at 0) = false) := by
  refine ⟨by decide, by decide, by decide, ⟨by decide, by decide, by decide, by decide⟩, by decide, by decide, ?_⟩
  rintro c rfl; exact ⟨by decide, by decide⟩

/-- A command on line 0 of a device with a nonce for port 1, service rights, and slots 0 and 1 filled. -/
def keyCmdWit (m : Mode) (rights : Bool) (c : Cmd) : State :=
  { cmdState m c with key.trngOk := true, key.rights := upd State.reset.key.rights 0 fun _ => rights,
                      key.slots := upd (upd State.reset.key.slots 0 fun _ => { filled := true, typ := 5 }) 1 fun _ => { filled := true, typ := 6 } }

theorem witness_keyCommands :
    Starts 0 0 0x0C01 ((cmdState .m4 (cmdOf 0x0C01 [])).at 0) (cmdOf 0x0C01 []) ∧
    (∀ c, c = cmdOf 0x0C02 [1] → Starts 0 0 0x0C02 ((keyCmdWit .m4 true c).at 0) c ∧ pubIllegal c ((keyCmdWit .m4 true c).at 0) = false) ∧
    (∀ c, c = cmdOf 0x0C03 [] → Starts 0 0 0x0C03 ((keyCmdWit .m3 false c).at 0) c ∧ (kslot ((keyCmdWit .m3 false c).at 0) 1).filled = true) ∧
    (∀ c, c = { cmdOf 0x0C04 [63, 1, 0] with data := List.replicate 16 0 } → Starts 0 0 0x0C04 ((keyCmdWit .m3 true c).at 0) c ∧
      writeIllegal c ((keyCmdWit .m3 true c).at 0) = false ∧ ¬c.data.length < keyBytes 1) ∧
    (∀ c, c = cmdOf 0x0C05 [63] → Starts 0 0 0x0C05 ((keyCmdWit .m3 true c).at 0) c ∧ destroyIllegal c ((keyCmdWit .m3 true c).at 0) = false) ∧
    (∀ c, c = cmdOf 0x0C07 [] → Starts 0 0 0x0C07 ((keyCmdWit .m4 true c).at 0) c ∧ attestIllegal c ((keyCmdWit .m4 true c).at 0) = false) := by
  refine ⟨starts_of (by decide), ?_, ?_, ?_, ?_, ?_⟩
  · rintro c rfl; exact ⟨starts_of (by decide), by decide⟩
  · rintro c rfl; exact ⟨starts_of (by decide), by decide⟩
  · rintro c rfl; exact ⟨starts_of (by decide), by decide, by decide⟩
  · rintro c rfl; exact ⟨starts_of (by decide), by decide⟩
  · rintro c rfl; exact ⟨starts_of (by decide), by decide⟩

/-- Port 3 of the relay up or down, in M4, with a command on line 0. -/
def ozWit (up : Bool) (c : Cmd) : State :=
  { cmdState .m4 c with ozl.port := upd State.reset.ozl.port 3 fun _ => { up := up } }

theorem witness_relay :
    ((ozp ((ozWit false default).at 0) 3).up = false ∧ ¬((ozWit false default).at 0).sys.mode.num < 3 ∧ (ozp ((ozWit true default).at 0) 3).up = true ∧
      trainRefusal ((ozWit false default).at 0) 3 { deviceId := 1, node := 1, member := 0, pair := false, domain := 0, port := 0, ack := true, crcOk := true } = 0 ∧
      trainRefusal ((ozWit false default).at 0) 3 { deviceId := 1, node := 1, member := 0, pair := false, domain := 1, port := 0, ack := true, crcOk := true } ≠ 0) ∧
    (1 == ownNode ((ozWit true default).at 0) && 0 == ownMember ((ozWit true default).at 0)) = false ∧
    ({ ozWit true default with ozl.topo := [{ node := 1 }] }.at 3000000000).ozl.topo.any (fun e =>
      e.node == 1 && e.member == 0 && decide (e.seen + 3000000000 ≤ ({ ozWit true default with ozl.topo := [{ node := 1 }] }.at 3000000000).now)) = true ∧
    param ({ ozWit true default with cfg.params := [(pOZL_GATEWAY, 2)] }.at 0) pOZL_GATEWAY 0 = 1 + 1 ∧
    Starts 0 0 0x0F01 ((cmdState .m4 (cmdOf 0x0F01 [])).at 0) (cmdOf 0x0F01 []) ∧
    Starts 0 0 0x0F02 ((cmdState .m4 (cmdOf 0x0F02 [255, 15, 1, 0])).at 0) (cmdOf 0x0F02 [255, 15, 1, 0]) ∧
    (Starts 0 0 0x0F03 ((cmdState .m4 (cmdOf 0x0F03 [1, 0])).at 0) (cmdOf 0x0F03 [1, 0]) ∧ 1 ≠ ownNode ((cmdState .m4 (cmdOf 0x0F03 [1, 0])).at 0) ∧
      routeTo ((cmdState .m4 (cmdOf 0x0F03 [1, 0])).at 0) 1 = none) ∧
    (∀ c, c = cmdOf 0x0F04 [3] → Starts 0 0 0x0F04 ((ozWit true c).at 0) c ∧ (ozp ((ozWit true c).at 0) 3).up = true) := by
  refine ⟨⟨by decide, by decide, by decide, by decide, by decide⟩, by decide, by decide, by decide, starts_of (by decide), starts_of (by decide),
    ⟨starts_of (by decide), by decide, by decide⟩, ?_⟩
  rintro c rfl; exact ⟨starts_of (by decide), by decide⟩

/-- Two time domains in given states, followed domain 0. -/
def timeWit (a b : Dom) : State :=
  { State.reset with sys.mode := .m4, tsu.auto := true, tsu.dom := upd (upd State.reset.tsu.dom 0 fun _ => a) 1 fun _ => b,
                     ozl.port := upd State.reset.ozl.port 0 fun _ => { up := true, pdReq := some (7, 0) },
                     tsu.ptp := upd State.reset.tsu.ptp 0 fun _ => { master := true, sync := some (3, 0, 0), req := some (4, 0), msDelay := some 5 } }

theorem witness_timeRows :
    (dom ((timeWit { st := 2 } { st := 3 }).at 0) 0).st = 2 ∧ (dom ((timeWit { st := 2 } { st := 3 }).at 0) 1).st = 3 ∧
    (∀ x, x = (timeWit { st := 1 } { st := 2, lockedAt := some 0 }).at 1000000000 → x.tsu.followed = rdf x baseTSU 0 1 ∧
      (dom x 1).lockedAt = some 0 ∧ 0 + 1000000000 ≤ x.now ∧ (dom x 0).st ≠ 2 ∧ x.tsu.lostAt + 1000000000 ≤ x.now) ∧
    (∀ x, x = { timeWit { st := 2, lockedAt := some 0 } {} with tsu.followed := 1 }.at 0 → x.tsu.followed ≠ rdf x baseTSU 0 1 ∧
      (dom x 0).lockedAt = some 0 ∧ 0 + rdf x baseTSU 12 8 * 1000000000 ≤ x.now) ∧
    (∀ x, x = (timeWit {} {}).at 30000000000 → (dom x 0).sampled.1 + 3 * (dom x 0).sampled.2 ≤ x.now ∧ (dom x 0).heldAt + domCfg x 0 23 8 * 10000000000 ≤ x.now) ∧
    domCfg ((wrw (timeWit {} {}) (baseTSU + 0x100) 1).at 0) 0 0 3 ≠ 0 ∧
    (∀ x, x = (timeWit {} {}).at 0 → (ozp x 0).up = true ∧ (ozp x 0).pdReq = some (7, 0) ∧ portBlocked x 0 = false ∧ (ptp x 0).master = true ∧
      (ptp x 1).master = false ∧ (ptp x 0).sync = some (3, 0, 0) ∧ (ptp x 0).req = some (4, 0) ∧ peerProfile x 0 = false ∧ x.dpx.role ≠ 2) := by
  refine ⟨by decide, by decide, ?_, ?_, ?_, by decide, ?_⟩
  · rintro x rfl; exact ⟨by decide, by decide, by decide, by decide, by decide⟩
  · rintro x rfl; exact ⟨by decide, by decide, by decide⟩
  · rintro x rfl; exact ⟨by decide, by decide⟩
  · rintro x rfl; exact ⟨by decide, by decide, by decide, by decide, by decide, by decide, by decide, by decide, by decide⟩

/-- Unit 15 with a configuration word and a record, and a command on line 0. -/
def ccWit (cfg : Nat) (x : CcUnit) (c : Cmd) : State :=
  wrw { cmdState .m4 c with tsu.cc := upd State.reset.tsu.cc 15 fun _ => x } (baseTSU + 0x400 + 0x10 * 15) cfg

theorem witness_timeCommands :
    (ccOwner ((ccWit 0 {} default).at 0) 15 .sup = true ∧ ccCfg ((ccWit 0 {} default).at 0) 15 0 1 = 0) ∧
    ((ccu ((ccWit 0 { armed := true } default).at 0) 15).armed = true ∧ 0 ≤ shortDiff ((ccWit 0 { armed := true } default).at 0) 0) ∧
    (ccCfg ((ccWit 0x1001 {} default).at 0) 15 0 1 ≠ 0 ∧ ccCfg ((ccWit 0x1001 {} default).at 0) 15 12 2 = 1 ∧ ccCfg ((ccWit 0x2001 {} default).at 0) 15 12 2 = 2 ∧
      (ccu ((ccWit 0x1001 { cap := some 1 } default).at 0) 15).cap.isSome = true) ∧
    Starts 0 0 0x0E01 ((cmdState .m4 (cmdOf 0x0E01 [])).at 0) (cmdOf 0x0E01 []) ∧
    Starts 0 0 0x0E02 ((cmdState .m4 (cmdOf 0x0E02 [1, 1])).at 0) (cmdOf 0x0E02 [1, 1]) ∧
    (∀ c, c = cmdOf 0x0E03 [15] → Starts 0 0 0x0E03 ((ccWit 10 {} c).at 0) c ∧ ccIllegal 0 c ((ccWit 10 {} c).at 0) = false) ∧
    (∀ c, c = cmdOf 0x0E04 [15] → Starts 0 0 0x0E04 ((ccWit 11 {} c).at 0) c ∧ ccIllegal 1 c ((ccWit 11 {} c).at 0) = false) := by
  refine ⟨⟨by decide, by decide⟩, ⟨by decide, by decide⟩, ⟨by decide, by decide, by decide, by decide⟩, starts_of (by decide), starts_of (by decide), ?_, ?_⟩
  · rintro c rfl; exact ⟨starts_of (by decide), by decide⟩
  · rintro c rfl; exact ⟨starts_of (by decide), by decide⟩

/-- A pair member with given duplex state, in a mode, OZ3 up, and a command on line 0. -/
def dpxWit (m : Mode) (d : Dpx) (c : Cmd) : State :=
  wrw { cmdState m c with dpx := d, ozl.port := upd State.reset.ozl.port 3 fun _ => { up := true } } baseDPX 0x1002

theorem witness_duplex :
    (∀ x, x = (dpxWit .m3 { role := 3, pValid := true } default).at 200000000 → ¬x.now < x.dpx.decideAt + listenTime x ∧ x.sys.mode = .m3 ∧ x.dpx.role = 3 ∧ m8Holds x = false ∧
      versionsDiffer x = false ∧ (oz3Up x && dpxMember x == 3) = false) ∧
    (∀ x, x = (dpxWit .m7 { role := 2, pValid := true, st := 2 } default).at 1000000 → x.dpx.role = 2 ∧ x.sys.powerWarn = false ∧ x.dpx.pValid = true ∧
      ¬x.now < x.dpx.frameAt + 6200 ∧ x.dpx.roleAt + 1000000 ≤ x.now) ∧
    (∀ x, x = (dpxWit .m4 { role := 1, selSeen := true, claiming := true, takenAt := some 0, selLowAt := some 0, roleUp := true } default).at 1000000 →
      x.dpx.selLowAt = some 0 ∧ x.dpx.takenAt = some 0 ∧ 0 + 20000 ≤ x.now ∧ x.dpx.roleAt + 1000000 ≤ x.now ∧
      x.dpx.kickAt + rdf x baseDPX 2 10 * 10000 ≤ x.now ∧ x.dpx.selOk = false ∧ canDepose x = true ∧ dpxMember x ≠ 0 ∧ oz3Up x = true ∧
      rdf x baseDPX 12 12 ≠ 0) ∧
    (∀ x, x = (dpxWit .m4 { role := 1, swap := some (some (0, 0)), pValid := true, known := true, pClaim := 1 } default).at 1000000 →
      partnerSelected x = true ∧ x.dpx.swapFrom + 1000000 ≤ x.now ∧ x.dpx.claimAt + 20000 ≤ x.now ∧ x.dpx.swap = some (some (0, 0))) ∧
    Starts 0 0 0x0D01 ((cmdState .m4 (cmdOf 0x0D01 [])).at 0) (cmdOf 0x0D01 []) ∧
    (∀ x, x = (dpxWit .m4 { role := 1, roleUp := true, partner := some { role := 1, st := 2 } } (cmdOf 0x0D02 [])).at 0 →
      Starts 0 0 0x0D02 x (cmdOf 0x0D02 []) ∧ swapIllegal (cmdOf 0x0D02 []) x = false) ∧
    (∀ x, x = (dpxWit .m4 { role := 1, roleUp := true, partner := some { role := 1, st := 2 } } (cmdOf 0x0D03 [])).at 0 →
      Starts 0 0 0x0D03 x (cmdOf 0x0D03 []) ∧ resyncIllegal (cmdOf 0x0D03 []) x = false) := by
  refine ⟨?_, ?_, ?_, ?_, starts_of (by decide), ?_, ?_⟩
  · rintro x rfl; exact ⟨by decide, by decide, by decide, by decide, by decide, by decide⟩
  · rintro x rfl; exact ⟨by decide, by decide, by decide, by decide, by decide⟩
  · rintro x rfl; exact ⟨by decide, by decide, by decide, by decide, by decide, by decide, by decide, by decide, by decide, by decide⟩
  · rintro x rfl; exact ⟨by decide, by decide, by decide, by decide⟩
  · rintro x rfl; exact ⟨starts_of (by decide), by decide⟩
  · rintro x rfl; exact ⟨starts_of (by decide), by decide⟩

theorem witness_mirror :
    (∀ x, x = (dpxWit .m7 { role := 2 } default).at 0 → x.dpx.role = 2 ∧ x.sys.mode = .m7 ∧ oz3Up x = true ∧ 0 = (slotSecs x 63).length ∧
      (prt x 3).ckptSeq = 0) ∧
    (∀ x, x = (dpxWit .m4 { role := 1, resyncJob := some (0, 0) } default).at 0 → x.dpx.role ≠ 2 ∧ x.dpx.resyncJob = some (0, 0)) := by
  refine ⟨?_, ?_⟩
  · rintro x rfl; exact ⟨by decide, by decide, by decide, by decide, by decide⟩
  · rintro x rfl; exact ⟨by decide, by decide⟩

/-- A Fenline node of a role in M4 with node 5 as its neighbour, and a command on line 0. -/
def fenWit (role : Nat) (f : Fen) (c : Cmd) : State :=
  wrw { cmdState .m4 c with fen := { f with neigh := [{ node := 5 }] } } baseFEN role

theorem witness_fenline :
    (∀ x, x = (fenWit 1 { synced := true, zcGood := 8 } default).at 40000000 → fenRole x = 1 ∧ fenTalks x = true ∧ fenOn x = true ∧ x.fen.synced = true ∧
      ¬x.now < x.fen.zcAt + 3 * (if x.fen.half = 0 then halfNominal x else x.fen.half) ∧
      x.fen.flight.isSome = false ∧ (neighOf x 5).isSome = true ∧ x.fen.zcGood < 9) ∧
    (∀ x, x = (fenWit 2 { better := some (5, 0), flight := some { next := 5 } } default).at 10000000000 → fenRole x = 2 ∧ x.fen.beaconLost = false ∧ x.fen.beaconAt + 32 * x.fen.half ≤ x.now ∧
      x.fen.better = some (5, 0) ∧ 0 + 10000000000 ≤ x.now ∧ x.fen.flight = some { next := 5 } ∧ (0 : Nat) + 5000000000 ≤ x.now) ∧
    ((fenWit 1 { zcTimer := true } default).at 0).fen.zcTimer = true ∧ ((fenWit 1 { zcTimer := false } default).at 0).fen.zcTimer = false ∧
    nextFen ({ fenWit 1 {} default with fen.queue := [{ prio := 3 }] }.at 0).fen.queue = some { prio := 3 } ∧
    (neighOf ((fenWit 1 {} default).at 30000000000) 5 = some { node := 5 } ∧
      ¬((fenWit 1 {} default).at 30000000000).now < get ({ node := 5 } : Neigh).used 0 + 30000000000) ∧
    Starts 0 0 0x1001 ((cmdState .m4 (cmdOf 0x1001 [])).at 0) (cmdOf 0x1001 []) ∧
    Starts 0 0 0x1002 ((cmdState .m4 (cmdOf 0x1002 [])).at 0) (cmdOf 0x1002 []) ∧
    Starts 0 0 0x1003 ((fenWit 1 {} (cmdOf 0x1003 [5, 0])).at 0) (cmdOf 0x1003 [5, 0]) ∧
    Starts 0 0 0x1004 ((fenWit 1 {} (cmdOf 0x1004 [5, 0])).at 0) (cmdOf 0x1004 [5, 0]) := by
  refine ⟨?_, ?_, by decide, by decide, by decide, ⟨by decide, by decide⟩, starts_of (by decide), starts_of (by decide), starts_of (by decide), starts_of (by decide)⟩
  · rintro x rfl; exact ⟨by decide, by decide, by decide, by decide, by decide, by decide, by decide, by decide⟩
  · rintro x rfl; exact ⟨by decide, by decide, by decide, by decide, by decide, by decide, by decide⟩

/-- A failed boot in M2 with a command on line 17 of the management link. -/
def romWit (c : Cmd) : State := { cmdState .m2 { c with line := 17 } with sys.boot := { State.reset.sys.boot with fail := true } }

theorem witness_system :
    Starts 0 0 0x0101 ((cmdState .m4 (cmdOf 0x0101 [])).at 0) (cmdOf 0x0101 []) ∧
    (Starts 0 0 0x0102 ((cmdState .m4 (cmdOf 0x0102 [3])).at 0) (cmdOf 0x0102 [3]) ∧
      modeSetIllegal (cmdOf 0x0102 [3]) ((cmdState .m4 (cmdOf 0x0102 [3])).at 0) = false ∧ modeEdge 4 3 = true) ∧
    Starts 0 0 0x0103 ((cmdState .m4 (cmdOf 0x0103 [])).at 0) (cmdOf 0x0103 []) ∧
    (Starts 0 0 0x0104 ((cmdState .m4 (cmdOf 0x0104 [32])).at 0) (cmdOf 0x0104 [32]) ∧ ¬32 < (cmdOf 0x0104 [32]).param 8 1) ∧
    Starts 0 0 0x0107 ((cmdState .m4 (cmdOf 0x0107 [])).at 0) (cmdOf 0x0107 []) ∧
    (∀ c, c = { cmdOf 0x0105 [0, 0, 0, 0, 0, 0, 0, 2, 1] with data := [1] } → Starts 0 0 0x0105 ((cmdState .m3 c).at 0) c ∧
      0 = ((cmdState .m3 c).at 0).sys.fwStaged ∧ c.param 12 4 = 33554432) ∧
    (∀ c, c = cmdOf 0x0106 [2] → Starts 0 0 0x0106 ((cmdState .m3 c).at 0) c ∧ preferIllegal c ((cmdState .m3 c).at 0) = false) ∧
    (∀ c, c = { cmdOf 0x01F0 [] with line := 17 } → Starts 17 0 0x01F0 ((romWit c).at 0) c ∧ romIllegal c ((romWit c).at 0) = false) ∧
    (∀ c, c = { cmdOf 0x01F1 [1, 0, 0, 0, 1] with line := 17, data := [1] } → Starts 17 0 0x01F1 ((romWit c).at 0) c ∧
      romIllegal c ((romWit c).at 0) = false ∧ c.param 12 4 ≠ 0) ∧
    (∀ c, c = { cmdOf 0x01F2 [1] with line := 17 } → Starts 17 0 0x01F2 ((romWit c).at 0) c ∧ romIllegal c ((romWit c).at 0) = false ∧
      ¬0 < ((romWit c).at 0).sys.ident.fwMinVer) ∧
    (∀ c d, c = { cmdOf 0x0105 [] with accepted := true } → d = { cmdState .m3 c with sys.fwVerify := some 1 } →
      (d.at 0).sys.fwVerify = some 1 ∧ runningCmd (d.at 0) 0x0105 = some c ∧
      (0 % 2 ^ 64 != (d.at 0).lgl.check && (d.at 0).sys.mode != .m9) = false) := by
  refine ⟨starts_of (by decide), ⟨starts_of (by decide), by decide, by decide⟩, starts_of (by decide), ⟨starts_of (by decide), by decide⟩,
    starts_of (by decide), ?_, ?_, ?_, ?_, ?_, ?_⟩
  · rintro c rfl; exact ⟨starts_of (by decide), by decide, by decide⟩
  · rintro c rfl; exact ⟨starts_of (by decide), by decide⟩
  · rintro c rfl; exact ⟨starts_of (by decide), by decide⟩
  · rintro c rfl; exact ⟨starts_of (by decide), by decide, by decide⟩
  · rintro c rfl; exact ⟨starts_of (by decide), by decide, by decide⟩
  · rintro c d rfl rfl; exact ⟨by decide, by decide, by decide⟩

theorem witness_configuration :
    (∀ c, c = { cmdOf 0x0301 [0, 0, 0, 0, 64, 0, 0, 0, 1] with data := [1] } → Starts 0 0 0x0301 ((cmdState .m3 c).at 0) c ∧
      standbyIllegal c ((cmdState .m3 c).at 0) = false ∧ mirrorUp ((cmdState .m3 c).at 0) = false ∧
      chunkFault ((cmdState .m3 c).at 0) 0 64 true [1] = none ∧ chunkFault ((cmdState .m3 c).at 0) 0 64 false [1] = none) ∧
    (∀ c x, c = { cmdOf 0x0301 [] with accepted := true } → x = { cmdState .m3 c with cfg.validating := some (0, 0) } →
      (x.at 0).cfg.validating = some (0, 0) ∧ findCmd (x.at 0) 0 0 = some c) ∧
    Starts 0 0 0x0306 ((cmdState .m3 (cmdOf 0x0306 [])).at 0) (cmdOf 0x0306 []) ∧
    Starts 0 0 0x0304 ((cmdState .m3 (cmdOf 0x0304 [])).at 0) (cmdOf 0x0304 []) ∧
    (∀ x, x = { cmdState .m3 (cmdOf 0x0305 [0]) with cfg.map := { State.reset.cfg.map with active := some 0 } } →
      Starts 0 0 0x0305 (x.at 0) (cmdOf 0x0305 [0]) ∧ (x.at 0).cfg.map.active = some 0) ∧
    (Starts 0 0 0x0302 ((cmdState .m3 (cmdOf 0x0302 [])).at 0) (cmdOf 0x0302 []) ∧ Starts 0 0 0x0303 ((cmdState .m3 (cmdOf 0x0303 [])).at 0) (cmdOf 0x0303 []) ∧
      planCommit 0 false false ((cmdState .m3 (cmdOf 0x0302 [])).at 0) = .answer stIllegal 0) ∧
    (∃ mp ch, planCommit 0 false false ({ State.reset with sys.mode := .m3, cfg.map := { State.reset.cfg.map with staged := some 0, stagedState := 2 } }.at 0) =
      .go mp ch) ∧
    (∀ c x, c = { cmdOf 0x0C04 [] with accepted := true } → x = { cmdState .m3 c with cfg.write := some (.keyImage 0 0) } →
      writeAlive (x.at 0) 0 0 = true ∧ (x.at 0).cfg.write = some (.keyImage 0 0)) := by
  refine ⟨?_, ?_, starts_of (by decide), starts_of (by decide), ?_, ⟨starts_of (by decide), starts_of (by decide), by decide⟩, ⟨_, _, rfl⟩, ?_⟩
  · rintro c rfl; exact ⟨starts_of (by decide), by decide, by decide, by decide, by decide⟩
  · rintro c x rfl rfl; exact ⟨by decide, by decide⟩
  · rintro x rfl; exact ⟨starts_of (by decide), by decide⟩
  · rintro c x rfl rfl; exact ⟨by decide, by decide⟩

/-- The machine frozen, with a debug instruction loaded. -/
def dbgWit (ir addr : Nat) : State := { State.reset with sys.mode := .m11, dbg := { State.reset.dbg with ir := ir, addr := addr, resumable := true } }

theorem witness_debug :
    (∀ c, c = cmdOf 0x1101 [0, 0, 0, 0, 1] → Starts 0 0 0x1101 ((cmdState .m4 c).at 0) c ∧ c.param 8 4 % 4 = 0 ∧ c.param 12 2 = 1 ∧ c.refLen = 0) ∧
    (∀ c, c = cmdOf 0x1102 [8, 0, 0x15, 0x40] → Starts 0 0 0x1102 ((cmdState .m10 c).at 0) c) ∧
    (∀ c, c = cmdOf 0x1103 [] → Starts 0 0 0x1103 ((cmdState .m10 c).at 0) c) ∧
    ((State.reset.at 0).dbg.freezeNLow = false ∧ (State.reset.at 0).keeper.freezeReq = false ∧ drivesPins (State.reset.at 0).dbg.ir = false) ∧
    (((dbgWit 0x13 0).at 0).dbg.resumable = true ∧ ((dbgWit 0x13 0).at 0).dbg.freezeNLow = false ∧ ((dbgWit 0x13 0).at 0).sys.mode = .m11) ∧
    (((dbgWit 0x14 0).at 0).dbg.ir = 0x14 ∧ ((dbgWit 0x11 0).at 0).dbg.ir = 0x11) ∧
    (dbgReadable ((dbgWit 0x12 0x40000000).at 0) 0x40000000 = true ∧ dbgReadable ((dbgWit 0x12 0x0F020000).at 0) 0x0F020000 = false) ∧
    (({ State.reset with sys.psOff := true }.at 0).sys.psOff = true ∧ lifeCycle ({ State.reset with sys.psOff := true }.at 0) ≠ 2) ∧
    drivesPins ({ State.reset with sys.mode := .m3, dbg := { State.reset.dbg with ir := 0x03 } }.at 0).dbg.ir = true := by
  refine ⟨?_, ?_, ?_, by decide, by decide, by decide, by decide, by decide, by decide⟩
  · rintro c rfl; exact ⟨starts_of (by decide), by decide, by decide, by decide⟩
  · rintro c rfl; exact starts_of (by decide)
  · rintro c rfl; exact starts_of (by decide)

theorem witness_register_ports :
    (mayRead .sup 0x40000000 = true ∧ mayRead (.ses 0) 0x40150100 = false) ∧ (State.reset.at 0).sys.mode ≠ .m11 ∧ ((dbgWit 0 0).at 0).sys.mode = .m11 ∧
    barReal 0x100000 ≠ none := by decide

theorem witness_mode : ∃ i, cmdInfo 0x0301 = some i ∧ (i.owner && !ownerOk ((cmdState .m2 (cmdOf 0x0301 [])).at 0) (cmdOf 0x0301 [])) = false ∧
    (i.owner && !ownerOk (State.reset.at 0) (cmdOf 0x0301 [])) = true ∧ i.modes.contains ((cmdState .m2 (cmdOf 0x0301 [])).at 0).sys.mode.num = false ∧
    startCmd ((cmdState .m2 (cmdOf 0x0301 [])).at 0) 0 0 0x0301 = some (cmdOf 0x0301 []) := ⟨_, rfl, by decide, by decide, by decide, by decide⟩

theorem witness_illegal : ∃ i, cmdInfo 0x01F0 = some i ∧ i.modes.contains ((cmdState .m2 (cmdOf 0x01F0 [])).at 0).sys.mode.num = true ∧
    (i.owner && !ownerOk ((cmdState .m2 (cmdOf 0x01F0 [])).at 0) (cmdOf 0x01F0 [])) = false ∧
    startCmd ((cmdState .m2 (cmdOf 0x01F0 [])).at 0) 0 0 0x01F0 = some (cmdOf 0x01F0 []) ∧
    romIllegal (cmdOf 0x01F0 []) ((cmdState .m2 (cmdOf 0x01F0 [])).at 0) = true := ⟨_, rfl, by decide, by decide, by decide, by decide⟩

theorem witness_status : firstOpen ((cmdState .m4 (cmdOf 0x0101 [])).at 0) 0 = some (cmdOf 0x0101 []) ∧
    ∃ v, exec (.sysIdentify 0 0 0) (cmdState .m4 (cmdOf 0x0101 [])) = .next v := ⟨by decide, _, rfl⟩

theorem witness_eoi : claimAllowed .sup 2 = true ∧
    (get (({ State.reset with evg.tgt := upd State.reset.evg.tgt 2 fun x => { x with stack := [(7, none)] } } : State).at 0).evg.tgt 2).stack = [(7, none)] ∧
    (get (State.reset.at 0).evg.tgt 2).stack = [] := by decide

theorem witness_edges : reservedSrc 26 = false ∧ srcLevel (State.reset.at 0) 26 = false ∧ (get (State.reset.at 0).evg.src 26).stormed = false ∧
    srcStormExp (State.reset.at 0) 26 = 0 ∧ reservedSrc 480 = false ∧ srcLevel ((wrw State.reset (dinCfgAddr 0) 0x400).at 0) 480 = true := by decide

theorem witness_frame : ∃ f : MgmtFrame, f.tagOk = false ∧ frameTaken f 4 (State.reset.at 0) = true :=
  ⟨{ port := 5, src := 0, addr := 0, udp := 0, vlan := none, magic := 0x4B76, ver := 1, pair := 0, dir := 0, len := 4, epoch := 0, fseq := 0,
     tagOk := false }, rfl, by decide⟩

theorem witness_peat : (0x90000000 : Nat) ≤ 0x9FFFFFFC ∧ (0x9FFFFFFC : Nat) < 0xA0000000 := by decide

theorem witness_stores : mayWrite .sup 0x20000000 (State.reset.at 0) = true ∧ regionOf 0x20000000 = .queue ∧ barReal 0x100000 = some 0x20000000 ∧
    (State.reset.at 0).sys.mode ≠ .m11 ∧ Memory.wf (State.reset.at 0).mem = true := by decide

theorem witness_full_reset : memGet (resetControl .pin false { State.reset with mem := [(0x0F000000, 1), (0x20000000, 1)] }).mem 0x0F000000 = 1 ∧
    memGet (resetControl .pin false { State.reset with mem := [(0x0F000000, 1), (0x20000000, 1)] }).mem 0x20000000 = 0 := by decide

end Sys2Proof.Machine
end

section
/-! Settles O8 (NoCommandStopsTheBlock): every command answers a next state, and every next state is
reached by the operations whose frame the Keeps laws state. -/

namespace Sys2Proof.Machine

/-! ### Every command answers a next state -/

/-- The outcome is a next state: the command neither faults nor is refused. -/
def AnswersNext (o : Host.Outcome State Fault Refusal) : Prop := ∃ s, o = .next s

theorem answersNext_next (s : State) : AnswersNext (.next s) := ⟨s, rfl⟩

theorem answersNext_ite {c : Prop} [Decidable c] {x y : Host.Outcome State Fault Refusal} (h : AnswersNext x)
    (k : AnswersNext y) : AnswersNext (if c then x else y) := by split <;> assumption

/-- A guarded command: it acts, or is ignored. -/
theorem answersNext_guard {c : Prop} [Decidable c] (x y : State) : AnswersNext (if c then .next x else .next y) :=
  answersNext_ite (answersNext_next x) (answersNext_next y)

/-- A command of two guards. -/
theorem answersNext_guard2 {c d : Prop} [Decidable c] [Decidable d] (x y z : State) :
    AnswersNext (if c then .next x else if d then .next y else .next z) :=
  answersNext_ite (answersNext_next x) (answersNext_guard y z)

/-! ### The commands that look an item up before they answer: an entry, a wait, a child, a hosted role, a set -/

theorem execEntryConsume_answersNext (t ecc : Nat) (host : List Nat) (s : State) :
    AnswersNext (execEntryConsume t ecc host s) := by
  unfold execEntryConsume
  extract_lets
  split
  · exact answersNext_next _
  · exact answersNext_guard2 _ _ _

theorem execElectionWindowClose_answersNext (t : Nat) (s : State) : AnswersNext (execElectionWindowClose t s) := by
  refine answersNext_ite (answersNext_next _) ?_
  split <;> exact answersNext_next _

theorem execEvgWaitEnd_answersNext (t line seq : Nat) (timeout : Bool) (s : State) :
    AnswersNext (execEvgWaitEnd t line seq timeout s) := by
  unfold execEvgWaitEnd
  extract_lets
  split
  · exact answersNext_next _
  · exact answersNext_guard _ _

theorem execDemand_answersNext (t : Nat) (m : DemandMsg) (s : State) : AnswersNext (execDemand t m s) := by
  refine answersNext_ite (answersNext_next _) (answersNext_ite (answersNext_next _) ?_)
  split
  · exact answersNext_next _
  · exact answersNext_ite (answersNext_next _) (answersNext_guard2 _ _ _)

theorem execGrant_answersNext (t : Nat) (m : GrantMsg) (s : State) : AnswersNext (execGrant t m s) := by
  refine answersNext_ite (answersNext_next _) (answersNext_ite (answersNext_next _) (answersNext_ite ?_ ?_))
  · exact answersNext_guard2 _ _ _
  · split
    · exact answersNext_next _
    · exact answersNext_guard _ _

theorem execJoinTimeout_answersNext (t : Nat) (s : State) : AnswersNext (execJoinTimeout t s) := by
  unfold execJoinTimeout
  extract_lets
  split
  · exact answersNext_guard _ _
  · exact answersNext_next _

theorem execIntake_answersNext (t : Nat) (m : IntakeMsg) (s : State) : AnswersNext (execIntake t m s) := by
  refine answersNext_ite (answersNext_next _) (answersNext_ite (answersNext_next _) ?_)
  split <;> exact answersNext_next _

/-- No arm of `exec` ends in a fault or a refusal: most answer at once, the others behind the guards that ignore them. -/
theorem exec_answersNext (c : Instr) (s : State) : AnswersNext (exec c s) := by
  cases c with
  | entryConsume t ecc host => exact execEntryConsume_answersNext t ecc host s
  | electionWindowClose t => exact execElectionWindowClose_answersNext t s
  | evgWaitEnd t line seq timeout => exact execEvgWaitEnd_answersNext t line seq timeout s
  | demand t m => exact execDemand_answersNext t m s
  | grant t m => exact execGrant_answersNext t m s
  | joinTimeout t => exact execJoinTimeout_answersNext t s
  | intake t m => exact execIntake_answersNext t m s
  | rootPass | ppBandAccept | wakeLatchEdge | mxpFrame =>
    exact answersNext_ite (answersNext_next _) (answersNext_guard2 _ _ _)
  | ownHbLapse | eventSourceFire => exact answersNext_guard2 _ _ _
  | queueRundownDone | cqIrqTimer | mgmtCreditTimer | mgmtResendTimer | arpRequest | icmpEcho | spiWrite | v1DdataAccess
  | ownHbLate | ethFrameRx | roleWaitExpiry | leafRoundStart | pwmLoadPoint | rtdConversion | lswCommand
  | lswThermalShutdown | lswThermalRelease | lswOpenLoad | lswOpenLoadClear | lswTurnOffClamp | pickupEnd | mxpPickupEnd
  | dcMeterSample | acCycle | acHalfCycle | harmonicWindow | latchTick | claimLapse =>
    exact answersNext_guard _ _
  | _ => exact answersNext_next _

/-! ### What a next state keeps -/

/-- Every command, whatever its operands, reaches its next state by the block's own operations. -/
theorem exec_keepsO : ∀ (c : Instr) (s : State), KeepsO s (exec c s)
  | .railOutOfRange t vbat, s => execRailOutOfRange_keeps t vbat s (.refl s)
  | .railsGood t, s => execRailsGood_keeps t s (.refl s)
  | .m1Release t testEn psOff readA readB, s => execM1Release_keeps t testEn psOff readA readB s (.refl s)
  | .bootComplete t cfgActiveOk cfgPreviousOk, s => execBootComplete_keeps t cfgActiveOk cfgPreviousOk s (.refl s)
  | .heartbeatLoss t, s => execHeartbeatLoss_keeps t s (.refl s)
  | .keeperGateEnRequest t, s => execKeeperGateEnRequest_keeps t s (.refl s)
  | .rootLoss t, s => execRootLoss_keeps t s (.refl s)
  | .pcieRefclkLoss t, s => execPcieRefclkLoss_keeps t s (.refl s)
  | .resetPin t low, s => execResetPin_keeps t low s (.refl s)
  | .watchdogExpiry t, s => execWatchdogExpiry_keeps t s (.refl s)
  | .lockstepMismatch t, s => execLockstepMismatch_keeps t s (.refl s)
  | .keeperMxpRepeat t, s => execKeeperMxpRepeat_keeps t s (.refl s)
  | .contactorHoldExpiry t, s => execContactorHoldExpiry_keeps t s (.refl s)
  | .htrLimitExpiry t, s => execHtrLimitExpiry_keeps t s (.refl s)
  | .powerWarning t, s => execPowerWarning_keeps t s (.refl s)
  | .emergencySave t, s => execEmergencySave_keeps t s (.refl s)
  | .powerWarningCleared t, s => execPowerWarningCleared_keeps t s (.refl s)
  | .powerWarnClearTimer t, s => execPowerWarnClearTimer_keeps t s (.refl s)
  | .scrubPass t finds, s => execScrubPass_keeps t finds s (.refl s)
  | .errorRaised t subsys code cls arg, s => execErrorRaised_keeps t subsys code cls arg s (.refl s)
  | .handlingWindowClose t id, s => execHandlingWindowClose_keeps t id s (.refl s)
  | .pcieLinkDown t, s => execPcieLinkDown_keeps t s (.refl s)
  | .pcieHotReset t, s => execPcieHotReset_keeps t s (.refl s)
  | .queueCreate t n word, s => execQueueCreate_keeps t n word s (.refl s)
  | .queueRundown t n, s => execQueueRundown_keeps t n s (.refl s)
  | .queueRundownDone t n, s => execQueueRundownDone_keeps t n s (.refl s)
  | .sqDoorbell t n tail, s => execSqDoorbell_keeps t n tail s (.refl s)
  | .cqDoorbell t n head, s => execCqDoorbell_keeps t n head s (.refl s)
  | .entryConsume t ecc host, s => execEntryConsume_keeps t ecc host s (.refl s)
  | .mbxIrqWrite t n word, s => execMbxIrqWrite_keeps t n word s (.refl s)
  | .cqIrqTimer t n, s => execCqIrqTimer_keeps t n s (.refl s)
  | .hostSleepSet t spi asleep, s => execHostSleepSet_keeps t spi asleep s (.refl s)
  | .mgmtSubmit t f first entries, s => execMgmtSubmit_keeps t f first entries s (.refl s)
  | .mgmtHostCredit t f head, s => execMgmtHostCredit_keeps t f head s (.refl s)
  | .mgmtData t f ofs data, s => execMgmtData_keeps t f ofs data s (.refl s)
  | .mgmtCreditTimer t n, s => execMgmtCreditTimer_keeps t n s (.refl s)
  | .mgmtResendTimer t n, s => execMgmtResendTimer_keeps t n s (.refl s)
  | .arpRequest t mac addr, s => execArpRequest_keeps t mac addr s (.refl s)
  | .icmpEcho t mac addr data, s => execIcmpEcho_keeps t mac addr data s (.refl s)
  | .spiWrite t addr words crc, s => execSpiWrite_keeps t addr words crc s (.refl s)
  | .spiRead t addr n, s => execSpiRead_keeps t addr n s (.refl s)
  | .v1Go t spi, s => execV1Go_keeps t spi s (.refl s)
  | .v1DoneClear t spi, s => execV1DoneClear_keeps t spi s (.refl s)
  | .v1DdataAccess t spi write word, s => execV1DdataAccess_keeps t spi write word s (.refl s)
  | .regWrite t m addr word, s => execRegWrite_keeps t m addr word s (.refl s)
  | .ownChallenge t line seq, s => execOwnChallenge_keeps t line seq s (.refl s)
  | .ownClaim t line seq sigOk, s => execOwnClaim_keeps t line seq sigOk s (.refl s)
  | .ownHeartbeat t line seq, s => execOwnHeartbeat_keeps t line seq s (.refl s)
  | .ownHbWrite t, s => execOwnHbWrite_keeps t s (.refl s)
  | .ownHandover t line seq, s => execOwnHandover_keeps t line seq s (.refl s)
  | .ownRelease t line seq, s => execOwnRelease_keeps t line seq s (.refl s)
  | .ownStatus t line seq, s => execOwnStatus_keeps t line seq s (.refl s)
  | .electionWindowClose t, s => execElectionWindowClose_keeps t s (.refl s)
  | .ownHbLate t, s => execOwnHbLate_keeps t s (.refl s)
  | .ownHbLapse t, s => execOwnHbLapse_keeps t s (.refl s)
  | .ethLinkChange t mac up, s => execEthLinkChange_keeps t mac up s (.refl s)
  | .ethFrameRx t mac fcsOk bufferFree, s => execEthFrameRx_keeps t mac fcsOk bufferFree s (.refl s)
  | .t1sLinkChange t port up, s => execT1sLinkChange_keeps t port up s (.refl s)
  | .eventSourceFire t src level, s => execEventSourceFire_keeps t src level s (.refl s)
  | .stormWindow t, s => execStormWindow_keeps t s (.refl s)
  | .evgClaim t m tgt src, s => execEvgClaim_keeps t m tgt src s (.refl s)
  | .evgEoi t m tgt src, s => execEvgEoi_keeps t m tgt src s (.refl s)
  | .evgSetpend t m k word, s => execEvgSetpend_keeps t m k word s (.refl s)
  | .evgClrpend t m k word, s => execEvgClrpend_keeps t m k word s (.refl s)
  | .evgSrcCfgWrite t m src word, s => execEvgSrcCfgWrite_keeps t m src word s (.refl s)
  | .evgStormedWrite t m k word, s => execEvgStormedWrite_keeps t m k word s (.refl s)
  | .wakeLatchEdge t src stopped masked, s => execWakeLatchEdge_keeps t src stopped masked s (.refl s)
  | .dinDebounceExpiry t din level, s => execDinDebounceExpiry_keeps t din level s (.refl s)
  | .evgStatus t line seq, s => execEvgStatus_keeps t line seq s (.refl s)
  | .evgSrcSet t line seq, s => execEvgSrcSet_keeps t line seq s (.refl s)
  | .evgStormRelease t line seq, s => execEvgStormRelease_keeps t line seq s (.refl s)
  | .evgWait t line seq, s => execEvgWait_keeps t line seq s (.refl s)
  | .evgWaitEnd t line seq timeout, s => execEvgWaitEnd_keeps t line seq timeout s (.refl s)
  | .targetTick t, s => execTargetTick_keeps t s (.refl s)
  | .shedCommit t op, s => execShedCommit_keeps t op s (.refl s)
  | .shedHoldoffExpiry t op, s => execShedHoldoffExpiry_keeps t op s (.refl s)
  | .groupRelease t pg, s => execGroupRelease_keeps t pg s (.refl s)
  | .roundStart t paux draw intake0 intake1, s => execRoundStart_keeps t paux draw intake0 intake1 s (.refl s)
  | .demand t m, s => execDemand_keeps t m s (.refl s)
  | .roleWaitExpiry t role, s => execRoleWaitExpiry_keeps t role s (.refl s)
  | .rootPass t role, s => execRootPass_keeps t role s (.refl s)
  | .grant t m, s => execGrant_keeps t m s (.refl s)
  | .joinTimeout t, s => execJoinTimeout_keeps t s (.refl s)
  | .intake t m, s => execIntake_keeps t m s (.refl s)
  | .leafRoundStart t paux draw, s => execLeafRoundStart_keeps t paux draw s (.refl s)
  | .slcStatus t line seq, s => execSlcStatus_keeps t line seq s (.refl s)
  | .slcTableRead t line seq, s => execSlcTableRead_keeps t line seq s (.refl s)
  | .slcMapRead t line seq, s => execSlcMapRead_keeps t line seq s (.refl s)
  | .slcPlaceRead t line seq, s => execSlcPlaceRead_keeps t line seq s (.refl s)
  | .slcClassSet t line seq, s => execSlcClassSet_keeps t line seq s (.refl s)
  | .groupValley t g vg, s => execGroupValley_keeps t g vg s (.refl s)
  | .respreadDone t g, s => execRespreadDone_keeps t g s (.refl s)
  | .pwmLoadPoint t leg peak current, s => execPwmLoadPoint_keeps t leg peak current s (.refl s)
  | .dclinkCheck t chans, s => execDclinkCheck_keeps t chans s (.refl s)
  | .legOcLimit t leg fast, s => execLegOcLimit_keeps t leg fast s (.refl s)
  | .legOcNeg t leg fast, s => execLegOcNeg_keeps t leg fast s (.refl s)
  | .legOcTrip t leg fast, s => execLegOcTrip_keeps t leg fast s (.refl s)
  | .legOcLatch t leg, s => execLegOcLatch_keeps t leg s (.refl s)
  | .gfltFault t leg low, s => execGfltFault_keeps t leg low s (.refl s)
  | .matrixCloseRequest t g n, s => execMatrixCloseRequest_keeps t g n s (.refl s)
  | .contactorCloseTimeout t c, s => execContactorCloseTimeout_keeps t c s (.refl s)
  | .contactorOpenRequest t c, s => execContactorOpenRequest_keeps t c s (.refl s)
  | .contactorZeroReached t c, s => execContactorZeroReached_keeps t c s (.refl s)
  | .openNotZero t c, s => execOpenNotZero_keeps t c s (.refl s)
  | .contactorWeld t c, s => execContactorWeld_keeps t c s (.refl s)
  | .busBleedExpiry t n, s => execBusBleedExpiry_keeps t n s (.refl s)
  | .pwrStatus t line seq, s => execPwrStatus_keeps t line seq s (.refl s)
  | .pwrFaultClear t line seq, s => execPwrFaultClear_keeps t line seq s (.refl s)
  | .pwrLegExclude t line seq, s => execPwrLegExclude_keeps t line seq s (.refl s)
  | .pwrMdatRead t line seq, s => execPwrMdatRead_keeps t line seq s (.refl s)
  | .pwrLoopRead t line seq, s => execPwrLoopRead_keeps t line seq s (.refl s)
  | .pwrLoopBudget t line seq, s => execPwrLoopBudget_keeps t line seq s (.refl s)
  | .outputLoopSample t n ts vout, s => execOutputLoopSample_keeps t n ts vout s (.refl s)
  | .trackingRequest t g n mode, s => execTrackingRequest_keeps t g n mode s (.refl s)
  | .trackDwellExpiry t g, s => execTrackDwellExpiry_keeps t g s (.refl s)
  | .trackFail t g, s => execTrackFail_keeps t g s (.refl s)
  | .insulationCheckRequest t n g vrref, s => execInsulationCheckRequest_keeps t n g vrref s (.refl s)
  | .insulationCheckEnd t n, s => execInsulationCheckEnd_keeps t n s (.refl s)
  | .weldTestEnd t n, s => execWeldTestEnd_keeps t n s (.refl s)
  | .outputVoltageRead t n vout vgs, s => execOutputVoltageRead_keeps t n vout vgs s (.refl s)
  | .brakeEnd t n, s => execBrakeEnd_keeps t n s (.refl s)
  | .brakeLong t n, s => execBrakeLong_keeps t n s (.refl s)
  | .crowbarLegOff t leg, s => execCrowbarLegOff_keeps t leg s (.refl s)
  | .fbLost t ch, s => execFbLost_keeps t ch s (.refl s)
  | .mclkLost t k, s => execMclkLost_keeps t k s (.refl s)
  | .fbFrozen t ch, s => execFbFrozen_keeps t ch s (.refl s)
  | .fbClear t ch, s => execFbClear_keeps t ch s (.refl s)
  | .slotRelease t slot ain volts, s => execSlotRelease_keeps t slot ain volts s (.refl s)
  | .slotComplete t slot lat eccDbl, s => execSlotComplete_keeps t slot lat eccDbl s (.refl s)
  | .slotDeadline t slot, s => execSlotDeadline_keeps t slot s (.refl s)
  | .lpeOvrClear t slot, s => execLpeOvrClear_keeps t slot s (.refl s)
  | .lpeSwapReq t m, s => execLpeSwapReq_keeps t m s (.refl s)
  | .reedbedRamWrite t addr word, s => execReedbedRamWrite_keeps t addr word s (.refl s)
  | .rtdConversion t ts bad, s => execRtdConversion_keeps t ts bad s (.refl s)
  | .flowLost t k, s => execFlowLost_keeps t k s (.refl s)
  | .cblFlow t n, s => execCblFlow_keeps t n s (.refl s)
  | .cableModelStep t flow, s => execCableModelStep_keeps t flow s (.refl s)
  | .cableAuthComplete t n present sigOk chalOk record ctr, s =>
    execCableAuthComplete_keeps t n present sigOk chalOk record ctr s (.refl s)
  | .lifeWrite t n present acked ctr, s => execLifeWrite_keeps t n present acked ctr s (.refl s)
  | .lifeHourly t n, s => execLifeHourly_keeps t n s (.refl s)
  | .lifePendingSave t, s => execLifePendingSave_keeps t s (.refl s)
  | .coolCanResend t k, s => execCoolCanResend_keeps t k s (.refl s)
  | .cblStatus t line seq, s => execCblStatus_keeps t line seq s (.refl s)
  | .cblRecordRead t line seq, s => execCblRecordRead_keeps t line seq s (.refl s)
  | .cblAuth t line seq, s => execCblAuth_keeps t line seq s (.refl s)
  | .cblLifeFlush t line seq, s => execCblLifeFlush_keeps t line seq s (.refl s)
  | .bankUndervoltage t bank, s => execBankUndervoltage_keeps t bank s (.refl s)
  | .bankRecovery t bank, s => execBankRecovery_keeps t bank s (.refl s)
  | .lswCommand t ch owner on, s => execLswCommand_keeps t ch owner on s (.refl s)
  | .lswThermalShutdown t ch, s => execLswThermalShutdown_keeps t ch s (.refl s)
  | .lswThermalRelease t ch, s => execLswThermalRelease_keeps t ch s (.refl s)
  | .lswRetry t ch, s => execLswRetry_keeps t ch s (.refl s)
  | .lswRetryCountReset t ch, s => execLswRetryCountReset_keeps t ch s (.refl s)
  | .lswOpenLoad t ch, s => execLswOpenLoad_keeps t ch s (.refl s)
  | .lswOpenLoadClear t ch, s => execLswOpenLoadClear_keeps t ch s (.refl s)
  | .lswTurnOffClamp t ch energy, s => execLswTurnOffClamp_keeps t ch energy s (.refl s)
  | .pgenPeriodStart t p, s => execPgenPeriodStart_keeps t p s (.refl s)
  | .pickupEnd t ch, s => execPickupEnd_keeps t ch s (.refl s)
  | .mxpFrame t words, s => execMxpFrame_keeps t words s (.refl s)
  | .mxpPickupEnd t ch, s => execMxpPickupEnd_keeps t ch s (.refl s)
  | .lswStatus t line seq, s => execLswStatus_keeps t line seq s (.refl s)
  | .lswSet t line seq, s => execLswSet_keeps t line seq s (.refl s)
  | .lswClear t line seq, s => execLswClear_keeps t line seq s (.refl s)
  | .mxpStatus t line seq, s => execMxpStatus_keeps t line seq s (.refl s)
  | .cpDutySet t n duty, s => execCpDutySet_keeps t n duty s (.refl s)
  | .cpSample t n high mv, s => execCpSample_keeps t n high mv s (.refl s)
  | .ppConversion t n mv, s => execPpConversion_keeps t n mv s (.refl s)
  | .ppBandAccept t n, s => execPpBandAccept_keeps t n s (.refl s)
  | .slacMessage t n msg, s => execSlacMessage_keeps t n msg s (.refl s)
  | .vclSlacFail t n, s => execVclSlacFail_keeps t n s (.refl s)
  | .slacRetry t n, s => execSlacRetry_keeps t n s (.refl s)
  | .appProtocolRequest t n offers, s => execAppProtocolRequest_keeps t n offers s (.refl s)
  | .vehicleMessage t n req again stack rsp, s => execVehicleMessage_keeps t n req again stack rsp s (.refl s)
  | .cableCheckRequest t n, s => execCableCheckRequest_keeps t n s (.refl s)
  | .lockFeedback t n closed, s => execLockFeedback_keeps t n closed s (.refl s)
  | .lockTimeout t n, s => execLockTimeout_keeps t n s (.refl s)
  | .waitReadyMet t n g vrref, s => execWaitReadyMet_keeps t n g vrref s (.refl s)
  | .vclWaitTimeout t n, s => execVclWaitTimeout_keeps t n s (.refl s)
  | .prechargeRequest t n g, s => execPrechargeRequest_keeps t n g s (.refl s)
  | .certRelay t n body, s => execCertRelay_keeps t n body s (.refl s)
  | .vclTimeout t n, s => execVclTimeout_keeps t n s (.refl s)
  | .lockRelease t n, s => execLockRelease_keeps t n s (.refl s)
  | .capZeroTimeout t n, s => execCapZeroTimeout_keeps t n s (.refl s)
  | .ckptAckTimeout t n, s => execCkptAckTimeout_keeps t n s (.refl s)
  | .vehStatus t line seq, s => execVehStatus_keeps t line seq s (.refl s)
  | .vehSessionRead t line seq, s => execVehSessionRead_keeps t line seq s (.refl s)
  | .vehAuthorize t line seq, s => execVehAuthorize_keeps t line seq s (.refl s)
  | .vehStop t line seq, s => execVehStop_keeps t line seq s (.refl s)
  | .vehExportSet t line seq, s => execVehExportSet_keeps t line seq s (.refl s)
  | .vehCertReply t line seq, s => execVehCertReply_keeps t line seq s (.refl s)
  | .vehPortEnable t line seq, s => execVehPortEnable_keeps t line seq s (.refl s)
  | .canFrameRx t c f, s => execCanFrameRx_keeps t c f s (.refl s)
  | .canObjLockRead t m c obj ofs, s => execCanObjLockRead_keeps t m c obj ofs s (.refl s)
  | .canRxinfoRead t m c obj, s => execCanRxinfoRead_keeps t m c obj s (.refl s)
  | .canLockTo t c obj, s => execCanLockTo_keeps t c obj s (.refl s)
  | .canTxreq t m c k word sof, s => execCanTxreq_keeps t m c k word sof s (.refl s)
  | .canTxDone t c obj sof next, s => execCanTxDone_keeps t c obj sof next s (.refl s)
  | .canBusError t c e sof, s => execCanBusError_keeps t c e sof s (.refl s)
  | .canTxcancel t m c k word sof, s => execCanTxcancel_keeps t m c k word sof s (.refl s)
  | .canCtrlRecover t m c, s => execCanCtrlRecover_keeps t m c s (.refl s)
  | .canRecoveryDone t c, s => execCanRecoveryDone_keeps t c s (.refl s)
  | .canProtocolException t c, s => execCanProtocolException_keeps t c s (.refl s)
  | .canModeSwitch t c, s => execCanModeSwitch_keeps t c s (.refl s)
  | .canStatus t line seq, s => execCanStatus_keeps t line seq s (.refl s)
  | .canObjRead t line seq, s => execCanObjRead_keeps t line seq s (.refl s)
  | .canObjWrite t line seq, s => execCanObjWrite_keeps t line seq s (.refl s)
  | .canTxCancel t line seq, s => execCanTxCancel_keeps t line seq s (.refl s)
  | .canRecover t line seq, s => execCanRecover_keeps t line seq s (.refl s)
  | .dcMeterSample t n v vs i1 i16 tdie ovV ov1 ov16, s =>
    execDcMeterSample_keeps t n v vs i1 i16 tdie ovV ov1 ov16 s (.refl s)
  | .testPulseEnd t k, s => execTestPulseEnd_keeps t k s (.refl s)
  | .senseInvalid t n, s => execSenseInvalid_keeps t n s (.refl s)
  | .senseValid t n, s => execSenseValid_keeps t n s (.refl s)
  | .acCycle t k period valid v vq cur tdie, s => execAcCycle_keeps t k period valid v vq cur tdie s (.refl s)
  | .acHalfCycle t k u, s => execAcHalfCycle_keeps t k u s (.refl s)
  | .harmonicWindow t k groups, s => execHarmonicWindow_keeps t k groups s (.refl s)
  | .latchTick t, s => execLatchTick_keeps t s (.refl s)
  | .mtrSnapCapture t, s => execMtrSnapCapture_keeps t s (.refl s)
  | .wideWindowEnd t, s => execWideWindowEnd_keeps t s (.refl s)
  | .meterSelftest t dc ac, s => execMeterSelftest_keeps t dc ac s (.refl s)
  | .meterCrosscheckFail t n, s => execMeterCrosscheckFail_keeps t n s (.refl s)
  | .mtrOverrange t ch, s => execMtrOverrange_keeps t ch s (.refl s)
  | .periodicSave t ok, s => execPeriodicSave_keeps t ok s (.refl s)
  | .lossBoundRecord t, s => execLossBoundRecord_keeps t s (.refl s)
  | .mtrStatus t line seq, s => execMtrStatus_keeps t line seq s (.refl s)
  | .mtrRead t line seq, s => execMtrRead_keeps t line seq s (.refl s)
  | .mtrHarmRead t line seq, s => execMtrHarmRead_keeps t line seq s (.refl s)
  | .mtrEventRead t line seq, s => execMtrEventRead_keeps t line seq s (.refl s)
  | .mtrExtremeReset t line seq, s => execMtrExtremeReset_keeps t line seq s (.refl s)
  | .mtrCalWrite t line seq, s => execMtrCalWrite_keeps t line seq s (.refl s)
  | .mtrCalCommit t line seq, s => execMtrCalCommit_keeps t line seq s (.refl s)
  | .mtrTpSet t line seq, s => execMtrTpSet_keeps t line seq s (.refl s)
  | .sessionOpen t, s => execSessionOpen_keeps t s (.refl s)
  | .sessionClose t, s => execSessionClose_keeps t s (.refl s)
  | .paramLoad t, s => execParamLoad_keeps t s (.refl s)
  | .calCommit t, s => execCalCommit_keeps t s (.refl s)
  | .timeInfo t ofs synced, s => execTimeInfo_keeps t ofs synced s (.refl s)
  | .roleRequest t, s => execRoleRequest_keeps t s (.refl s)
  | .legalHeartbeat t, s => execLegalHeartbeat_keeps t s (.refl s)
  | .legalHeartbeatStall t, s => execLegalHeartbeatStall_keeps t s (.refl s)
  | .lglLost t, s => execLglLost_keeps t s (.refl s)
  | .legalRestartDone t, s => execLegalRestartDone_keeps t s (.refl s)
  | .legalStartupDone t, s => execLegalStartupDone_keeps t s (.refl s)
  | .sealChange t isOpen, s => execSealChange_keeps t isOpen s (.refl s)
  | .legalBoundary t, s => execLegalBoundary_keeps t s (.refl s)
  | .logRetry t ok, s => execLogRetry_keeps t ok s (.refl s)
  | .legalTimeCheck t, s => execLegalTimeCheck_keeps t s (.refl s)
  | .legalDisplayFrame t, s => execLegalDisplayFrame_keeps t s (.refl s)
  | .displayScreenAdvance t, s => execDisplayScreenAdvance_keeps t s (.refl s)
  | .opticalSignOn t addr, s => execOpticalSignOn_keeps t addr s (.refl s)
  | .opticalAck t option rate, s => execOpticalAck_keeps t option rate s (.refl s)
  | .opticalTimeout t, s => execOpticalTimeout_keeps t s (.refl s)
  | .lglStatus t line seq, s => execLglStatus_keeps t line seq s (.refl s)
  | .lglLogRead t line seq, s => execLglLogRead_keeps t line seq s (.refl s)
  | .lglParamLoad t line seq sigOk, s => execLglParamLoad_keeps t line seq sigOk s (.refl s)
  | .lglCreditSet t line seq, s => execLglCreditSet_keeps t line seq s (.refl s)
  | .lglWindowSet t line seq, s => execLglWindowSet_keeps t line seq s (.refl s)
  | .keyRemask t, s => execKeyRemask_keeps t s (.refl s)
  | .cryptoRequest t user slot op, s => execCryptoRequest_keeps t user slot op s (.refl s)
  | .cryptoDone t, s => execCryptoDone_keeps t s (.refl s)
  | .keyTrngFail t, s => execKeyTrngFail_keeps t s (.refl s)
  | .svcRightsExpiry t port, s => execSvcRightsExpiry_keeps t port s (.refl s)
  | .keyStatus t line seq, s => execKeyStatus_keeps t line seq s (.refl s)
  | .keyPubRead t line seq, s => execKeyPubRead_keeps t line seq s (.refl s)
  | .keySvcAuth t line seq sigOk, s => execKeySvcAuth_keeps t line seq sigOk s (.refl s)
  | .keyWrite t line seq keyOk, s => execKeyWrite_keeps t line seq keyOk s (.refl s)
  | .keyDestroy t line seq, s => execKeyDestroy_keeps t line seq s (.refl s)
  | .keyLcSet t line seq sigOk, s => execKeyLcSet_keeps t line seq sigOk s (.refl s)
  | .keyAttest t line seq, s => execKeyAttest_keeps t line seq s (.refl s)
  | .trainSend t p, s => execTrainSend_keeps t p s (.refl s)
  | .trainRecordRx t p r delay, s => execTrainRecordRx_keeps t p r delay s (.refl s)
  | .ozlLinkDown t p, s => execOzlLinkDown_keeps t p s (.refl s)
  | .ozlFrameRx t p f, s => execOzlFrameRx_keeps t p f s (.refl s)
  | .creditBlockRx t p counts crcOk, s => execCreditBlockRx_keeps t p counts crcOk s (.refl s)
  | .creditBlockSend t p, s => execCreditBlockSend_keeps t p s (.refl s)
  | .nak t src cls msg, s => execNak_keeps t src cls msg s (.refl s)
  | .topoFlood t, s => execTopoFlood_keeps t s (.refl s)
  | .topo t node member ports, s => execTopo_keeps t node member ports s (.refl s)
  | .topoEntryExpiry t node member, s => execTopoEntryExpiry_keeps t node member s (.refl s)
  | .ringBreak t a b, s => execRingBreak_keeps t a b s (.refl s)
  | .gatewayDatagram t mac addr magic target frame, s =>
    execGatewayDatagram_keeps t mac addr magic target frame s (.refl s)
  | .tsuCompareArm t m k target, s => execTsuCompareArm_keeps t m k target s (.refl s)
  | .tsuCompareFire t k, s => execTsuCompareFire_keeps t k s (.refl s)
  | .tsuCaptureEdge t k rising time, s => execTsuCaptureEdge_keeps t k rising time s (.refl s)
  | .tsuCaphiRead t m k, s => execTsuCaphiRead_keeps t m k s (.refl s)
  | .domainSample t d source utc interval, s => execDomainSample_keeps t d source utc interval s (.refl s)
  | .domainHoldover t d, s => execDomainHoldover_keeps t d s (.refl s)
  | .domainFree t d, s => execDomainFree_keeps t d s (.refl s)
  | .followSwitch t, s => execFollowSwitch_keeps t s (.refl s)
  | .peerDelayRequest t p t1, s => execPeerDelayRequest_keeps t p t1 s (.refl s)
  | .pdreq t p seq t2 t3, s => execPdreq_keeps t p seq t2 t3 s (.refl s)
  | .pdresp t p seq t2 turn t4, s => execPdresp_keeps t p seq t2 turn t4 s (.refl s)
  | .syncSend t tnum, s => execSyncSend_keeps t tnum s (.refl s)
  | .sync t p tnum seq rootState utc origin corr ratio rx residence src hops msg, s =>
    execSync_keeps t p tnum seq rootState utc origin corr ratio rx residence src hops msg s (.refl s)
  | .aonClockRefresh t, s => execAonClockRefresh_keeps t s (.refl s)
  | .ptpMessageRx t mac number msg, s => execPtpMessageRx_keeps t mac number msg s (.refl s)
  | .ptpSyncSend t mac, s => execPtpSyncSend_keeps t mac s (.refl s)
  | .timStatus t line seq, s => execTimStatus_keeps t line seq s (.refl s)
  | .timFollowSet t line seq, s => execTimFollowSet_keeps t line seq s (.refl s)
  | .timCompareSet t line seq, s => execTimCompareSet_keeps t line seq s (.refl s)
  | .timCaptureRead t line seq, s => execTimCaptureRead_keeps t line seq s (.refl s)
  | .ozlStatus t line seq, s => execOzlStatus_keeps t line seq s (.refl s)
  | .ozlTopoRead t line seq, s => execOzlTopoRead_keeps t line seq s (.refl s)
  | .ozlPathRead t line seq, s => execOzlPathRead_keeps t line seq s (.refl s)
  | .ozlPortRetrain t line seq, s => execOzlPortRetrain_keeps t line seq s (.refl s)
  | .duplexRoleDecide t, s => execDuplexRoleDecide_keeps t s (.refl s)
  | .claimFrameRx t hb byte crcOk, s => execClaimFrameRx_keeps t hb byte crcOk s (.refl s)
  | .claimStreamDead t, s => execClaimStreamDead_keeps t s (.refl s)
  | .dpxKick t, s => execDpxKick_keeps t s (.refl s)
  | .claimWdExpiry t, s => execClaimWdExpiry_keeps t s (.refl s)
  | .dpxSelLost t, s => execDpxSelLost_keeps t s (.refl s)
  | .dpxTakeoverFail t, s => execDpxTakeoverFail_keeps t s (.refl s)
  | .roleSend t, s => execRoleSend_keeps t s (.refl s)
  | .role t role mode st claim lastClaim cfgVersion deviceId, s =>
    execRole_keeps t role mode st claim lastClaim cfgVersion deviceId s (.refl s)
  | .dpxPartnerSilent t, s => execDpxPartnerSilent_keeps t s (.refl s)
  | .dpxMirrorLost t, s => execDpxMirrorLost_keeps t s (.refl s)
  | .checkpoint t n seq state proto msgNo time iReq vTgt vOv flags rest lastRsp, s =>
    execCheckpoint_keeps t n seq state proto msgNo time iReq vTgt vOv flags rest lastRsp s (.refl s)
  | .ckptAck t n seq, s => execCkptAck_keeps t n seq s (.refl s)
  | .vehicleFrameBuffer t n req len stack rsp, s => execVehicleFrameBuffer_keeps t n req len stack rsp s (.refl s)
  | .slcMirror t round node entries, s => execSlcMirror_keeps t round node entries s (.refl s)
  | .lpeSnap t slot nsec release out states, s => execLpeSnap_keeps t slot nsec release out states s (.refl s)
  | .pwmStateSend t, s => execPwmStateSend_keeps t s (.refl s)
  | .pwmState t groups, s => execPwmState_keeps t groups s (.refl s)
  | .loadState t lswCmd pickupDone mxpOn mxpEco duty, s =>
    execLoadState_keeps t lswCmd pickupDone mxpOn mxpEco duty s (.refl s)
  | .cblState t n temps iCap pend, s => execCblState_keeps t n temps iCap pend s (.refl s)
  | .prepay t n account emerg shortfall flags, s => execPrepay_keeps t n account emerg shortfall flags s (.refl s)
  | .leave t mode, s => execLeave_keeps t mode s (.refl s)
  | .swapReq t claim, s => execSwapReq_keeps t claim s (.refl s)
  | .swapConfirm t, s => execSwapConfirm_keeps t s (.refl s)
  | .swapDue t, s => execSwapDue_keeps t s (.refl s)
  | .resync t part pct, s => execResync_keeps t part pct s (.refl s)
  | .resyncDone t, s => execResyncDone_keeps t s (.refl s)
  | .dpxStatus t line seq, s => execDpxStatus_keeps t line seq s (.refl s)
  | .dpxSwap t line seq, s => execDpxSwap_keeps t line seq s (.refl s)
  | .dpxResync t line seq, s => execDpxResync_keeps t line seq s (.refl s)
  | .fenZeroCrossing t valid period, s => execFenZeroCrossing_keeps t valid period s (.refl s)
  | .fenZcLost t, s => execFenZcLost_keeps t s (.refl s)
  | .beaconSend t, s => execBeaconSend_keeps t s (.refl s)
  | .beaconRx t netId gatewayTime zcAgo, s => execBeaconRx_keeps t netId gatewayTime zcAgo s (.refl s)
  | .beaconLost t, s => execBeaconLost_keeps t s (.refl s)
  | .fenFrameRx t f, s => execFenFrameRx_keeps t f s (.refl s)
  | .soundingRx t tx slot map, s => execSoundingRx_keeps t tx slot map s (.refl s)
  | .toneMapRx t tx slot map, s => execToneMapRx_keeps t tx slot map s (.refl s)
  | .toneMapExpiry t node slot, s => execToneMapExpiry_keeps t node slot s (.refl s)
  | .sackRx t failed, s => execSackRx_keeps t failed s (.refl s)
  | .fenBackoffExpiry t collision, s => execFenBackoffExpiry_keeps t collision s (.refl s)
  | .linkMetricSend t, s => execLinkMetricSend_keeps t s (.refl s)
  | .linkMetricRx t tx own hops routed bler rows, s =>
    execLinkMetricRx_keeps t tx own hops routed bler rows s (.refl s)
  | .neighbourExpiry t node, s => execNeighbourExpiry_keeps t node s (.refl s)
  | .routeChange t, s => execRouteChange_keeps t s (.refl s)
  | .fenStatus t line seq, s => execFenStatus_keeps t line seq s (.refl s)
  | .fenNeighRead t line seq, s => execFenNeighRead_keeps t line seq s (.refl s)
  | .fenTonemapRead t line seq, s => execFenTonemapRead_keeps t line seq s (.refl s)
  | .fenResound t line seq, s => execFenResound_keeps t line seq s (.refl s)
  | .sysIdentify t line seq, s => execSysIdentify_keeps t line seq s (.refl s)
  | .sysModeSet t line seq, s => execSysModeSet_keeps t line seq s (.refl s)
  | .sysReset t line seq, s => execSysReset_keeps t line seq s (.refl s)
  | .sysErrqRead t line seq, s => execSysErrqRead_keeps t line seq s (.refl s)
  | .sysFwStage t line seq ok, s => execSysFwStage_keeps t line seq ok s (.refl s)
  | .fwVerifyDone t fault version legalSha, s => execFwVerifyDone_keeps t fault version legalSha s (.refl s)
  | .sysFwPrefer t line seq, s => execSysFwPrefer_keeps t line seq s (.refl s)
  | .sysCounters t line seq, s => execSysCounters_keeps t line seq s (.refl s)
  | .romStatus t line seq, s => execRomStatus_keeps t line seq s (.refl s)
  | .romLoad t line seq ok, s => execRomLoad_keeps t line seq ok s (.refl s)
  | .romBoot t line seq fault version legalSha, s => execRomBoot_keeps t line seq fault version legalSha s (.refl s)
  | .cfgStage t line seq partnerStatus ok, s => execCfgStage_keeps t line seq partnerStatus ok s (.refl s)
  | .cfgValidationDone t sigOk, s => execCfgValidationDone_keeps t sigOk s (.refl s)
  | .cfgCommit t line seq partnerStatus, s => execCfgCommit_keeps t line seq partnerStatus s (.refl s)
  | .cfgRollback t line seq partnerStatus, s => execCfgRollback_keeps t line seq partnerStatus s (.refl s)
  | .cfgStatus t line seq, s => execCfgStatus_keeps t line seq s (.refl s)
  | .cfgRead t line seq, s => execCfgRead_keeps t line seq s (.refl s)
  | .cfgDiscard t line seq partnerStatus, s => execCfgDiscard_keeps t line seq partnerStatus s (.refl s)
  | .cfgPartnerRequest t req sigOk, s => execCfgPartnerRequest_keeps t req sigOk s (.refl s)
  | .diagRegRead t line seq, s => execDiagRegRead_keeps t line seq s (.refl s)
  | .diagRegWrite t line seq, s => execDiagRegWrite_keeps t line seq s (.refl s)
  | .diagFreeze t line seq, s => execDiagFreeze_keeps t line seq s (.refl s)
  | .freezeRequest t low, s => execFreezeRequest_keeps t low s (.refl s)
  | .dbgResume t, s => execDbgResume_keeps t s (.refl s)
  | .dbgReset t, s => execDbgReset_keeps t s (.refl s)
  | .dbgAddr t addr, s => execDbgAddr_keeps t addr s (.refl s)
  | .dbgRead t eccDbl, s => execDbgRead_keeps t eccDbl s (.refl s)
  | .tapInstructionLoad t code cells tdi, s => execTapInstructionLoad_keeps t code cells tdi s (.refl s)
  | .tapReset t, s => execTapReset_keeps t s (.refl s)
  | .heartbeatCheckResume t, s => execHeartbeatCheckResume_keeps t s (.refl s)
  | .vbatLost t mainRails, s => execVbatLost_keeps t mainRails s (.refl s)
  | .claimLapse t port, s => execClaimLapse_keeps t port s (.refl s)
  | .xsp0WriteDone t ok, s => execXsp0WriteDone_keeps t ok s (.refl s)
  | .trngStartupTest t, s => execTrngStartupTest_keeps t s (.refl s)
  | .dpxSelNChange t high, s => execDpxSelNChange_keeps t high s (.refl s)
  | .dpxSwapFail t, s => execDpxSwapFail_keeps t s (.refl s)
  | .fenSackTimeout t, s => execFenSackTimeout_keeps t s (.refl s)
  | .certReplyTimeout t n, s => execCertReplyTimeout_keeps t n s (.refl s)
  | .lswCurrentLimit t ch limiting ma, s => execLswCurrentLimit_keeps t ch limiting ma s (.refl s)
  | .canBusIntegration t c, s => execCanBusIntegration_keeps t c s (.refl s)
  | .testPulseGapEnd t k, s => execTestPulseGapEnd_keeps t k s (.refl s)
  | .ptpDelayReqSend t mac t3, s => execPtpDelayReqSend_keeps t mac t3 s (.refl s)
  | .regRead t m addr, s => execRegRead_keeps t m addr s (.refl s)

/-- Settles O8: the next state exists by the case split over the commands, and what it keeps is `Reaches`. -/
theorem noCommandStopsTheBlock : Obligations.NoCommandStopsTheBlock := by
  intro c s
  obtain ⟨s', hs'⟩ := exec_answersNext c s
  have reached : Reaches s s' := (exec_keepsO c s).next s' hs'
  exact ⟨s', hs', reached.now, reached.out, reached.pending⟩

end Sys2Proof.Machine
end

section
/-! Settles O3, O4 and O7 from what one step reaches, O2 for the state after reset, and O12 from what the commands of the boot
and the power warning answer, case by case. -/

namespace Sys2Proof.Machine

/-! ### What one step keeps -/

theorem Reaches.refl (b : State) : Reaches b b := (Keeps.refl b).reaches

theorem popPending_self {s : State} (h : s.pending = []) : s.popPending s.pending.tail = s := by
  cases s
  cases h
  rfl

/-- A step goes by the block's own operations from the state whose queue has lost its first command. -/
theorem step_reaches {s s' : State} (h : step s = .next s') : Reaches (s.popPending s.pending.tail) s' := by
  unfold step at h
  split at h
  next idle =>
    cases h
    rw [popPending_self idle]
    exact .refl s
  next c rest waiting =>
    rw [waiting]
    exact (exec_keepsO c _).next s' h

/-- Settles O3: `Reaches` carries the form of the three memories along what the step runs. -/
theorem memoriesStayCanonical : Obligations.MemoriesStayCanonical := by
  intro s s' ⟨mem, v1p, v1s⟩ h
  have reached := step_reaches h
  exact ⟨reached.mem mem, reached.v1p v1p, reached.v1s v1s⟩

/-- Settles O4: the keeper raises GATE_EN in a run mode alone, and the operations that leave one drop it; `Reaches` carries both. -/
theorem gatesOnlyInRunModes : Obligations.GatesOnlyInRunModes :=
  fun _ _ gates h => (step_reaches h).gates gates

/-- Settles O7: taking the command shortens the queue by its first, and what it then runs keeps the rest. -/
theorem stepsOnlyAdvance : Obligations.StepsOnlyAdvance := by
  intro s s' h
  have reached := step_reaches h
  exact ⟨reached.pending, reached.now, reached.ctr, reached.out⟩

/-- Settles O2: no memory is listed, the keeper holds GATE_EN low and both error queues are empty. -/
theorem resetIsSafe : Obligations.ResetIsSafe :=
  ⟨⟨Memory.wf_nil, Memory.wf_nil, Memory.wf_nil⟩, .inr rfl, ⟨Nat.zero_le 32, Nat.zero_le 32⟩, rfl⟩

/-! ### Release from M1 and the boot -/

section
variable {t ra rb : Nat} {a b : Bool} {s : State}

theorem execM1Release_released (mode : (s.at t).sys.mode = .m1) (rails : (s.at t).sys.railsGood = true)
    (pin : (s.at t).sys.pinLow = false) : execM1Release t a b ra rb s = .next (chooseSlot (recheckSlots ra rb (supplyLim
      { setMode .m2 (drawEpochs (startTime (psOffChannels (takeStraps a b (s.at t))))) with pwm.mclkRun := true }))) := by
  unfold execM1Release
  exact congrArg _ (if_neg (by rw [mode, rails, pin]; decide))

theorem execBootComplete_booted (mode : (s.at t).sys.mode = .m2) (boot : (s.at t).sys.boot.fail = false) :
    execBootComplete t a b s = .next (bootDone (restoreMtr (genMissing (takeLatches (enterFromBoot a b (s.at t)))))) := by
  unfold execBootComplete
  exact congrArg _ (if_neg (by rw [mode, boot]; decide))

/-- In RETURN no configuration is loaded at the entry to M3 (R419). -/
theorem enterFromBoot_return (cycle : lifeCycle (loadKeys (setMode .m3 { s with keeper.mxpIdle := false })) = 4) :
    enterFromBoot a b s = startDeciding (loadDefaults (loadKeys (setMode .m3 { s with keeper.mxpIdle := false }))) := by
  unfold enterFromBoot
  exact if_pos (by rw [cycle]; rfl)

/-! ### The power warning -/

theorem execPowerWarning_clocked (clocks : clocksRun (s.at t) = true) :
    execPowerWarning t s = .next (warnSave (warnDown (s.at t))) := by
  unfold execPowerWarning
  exact congrArg _ (if_pos clocks)

theorem clocksRun_frozen (mode : s.sys.mode = .m11) : clocksRun s = false := by
  rw [clocksRun, mode]
  exact Bool.and_false _

theorem execPowerWarning_frozen (mode : (s.at t).sys.mode = .m11) :
    execPowerWarning t s = .next (keeperHold { s.at t with keeper.pfwLow := true }) := by
  unfold execPowerWarning
  exact congrArg _ ((if_neg (by rw [clocksRun_frozen mode]; decide)).trans (if_pos (by rw [mode]; rfl)))

/-- The emergency save where a boundary took the warning's event up and no freeze waits. -/
theorem execEmergencySave_due (due : (s.at t).lgl.emgDue = true) (clocks : clocksRun (s.at t) = true)
    (event : (emergencySave (s.at t)).lgl.pfEvent = false) (freeze : (emergencySave (s.at t)).dbg.waitingFreeze = none) :
    execEmergencySave t s = .next (emergencySave (s.at t)) := by
  unfold execEmergencySave
  simp only [due, clocks, event, freeze, Bool.and_true, Bool.false_eq_true, if_true, if_false]

theorem execPowerWarningCleared_warned (low : (s.at t).keeper.pfwLow = true) (clocks : clocksRun (s.at t) = true)
    (warn : (s.at t).sys.powerWarn = true) (pair : pairRuns { s.at t with keeper.pfwLow := false } = false) :
    execPowerWarningCleared t s = .next (setCause .powerWarn { s.at t with keeper.pfwLow := false, lgl.pfwAt := none }) := by
  unfold execPowerWarningCleared
  simp only [low, clocks, warn, pair, Bool.not_true, Bool.or_self, Bool.false_eq_true, if_false]

theorem execPowerWarnClearTimer_high (warn : (s.at t).sys.powerWarn = true) (low : (s.at t).keeper.pfwLow = false)
    (clocks : clocksRun (s.at t) = true) :
    execPowerWarnClearTimer t s = .next (clearCause .powerWarn { s.at t with sys.powerWarn := false }) := by
  unfold execPowerWarnClearTimer
  exact congrArg _ (if_pos (by rw [warn, low, clocks]; rfl))

end

/-- Settles O12: each clause is the case of its command that the guards leave. -/
theorem bootAndPowerRowsComplete : Obligations.BootAndPowerRowsComplete := by
  intro t ra rb a b s u
  refine ⟨?release, ?boot, ?inReturn, ?warning, ?frozen, ?save, ?cleared, ?timer⟩
  case release => rintro v mode rails pin rfl; exact execM1Release_released mode rails pin
  case boot => exact execBootComplete_booted
  case inReturn => rintro v cycle rfl; exact enterFromBoot_return cycle
  case warning => exact execPowerWarning_clocked
  case frozen => exact execPowerWarning_frozen
  case save => rintro v due clocks rfl event freeze; exact execEmergencySave_due due clocks event freeze
  case cleared => exact execPowerWarningCleared_warned
  case timer => exact execPowerWarnClearTimer_high

end Sys2Proof.Machine
end

section
/-! Settles O49 and O56: what the register ports answer, by master, mode, window and region. -/

namespace Sys2Proof.Machine

/-! ### The register ports -/

section
variable {t addr word n : Nat} {m : Master} {s : State}

/-- A read of another master than the host goes by the firewall (R31). -/
theorem execRegRead_device (dev : m ≠ .pcie) : execRegRead t m addr s =
    .next (if mayRead m addr then deviceRead m addr (s.at t) else emit (firewallBlock (s.at t)) .readData addr [0]) := by
  unfold execRegRead
  exact congrArg _ (if_neg (by simpa using dev))

theorem execRegRead_host : execRegRead t .pcie addr s = .next (hostRead addr (s.at t)) := rfl

theorem hostRead_frozen (mode : s.sys.mode = .m11) : hostRead addr s = emit s .readData addr [0xFFFFFFFF] := by
  unfold hostRead
  exact if_pos (by rw [mode]; rfl)

theorem hostRead_window {x : Nat} (mode : s.sys.mode ≠ .m11) (window : barReal addr = some x) :
    hostRead addr s = emit (readStep .pcie x s).2 .readData addr [(((readStep .pcie x s).1 : Nat) : Int)] := by
  unfold hostRead
  rw [if_neg (by simpa using mode), window]

theorem hostRead_outside (mode : s.sys.mode ≠ .m11) (window : barReal addr = none) (closed : openWindow addr = false) :
    hostRead addr s = emit s .readData addr [0] := by
  unfold hostRead
  rw [if_neg (by simpa using mode), window]
  exact if_neg (by rw [closed]; decide)

/-- A write of another master than the host goes by the firewall and the region (R31). -/
theorem execRegWrite_device (dev : m ≠ .pcie) : execRegWrite t m addr word s = .next (deviceWrite m addr word (s.at t)) := by
  unfold execRegWrite
  exact congrArg _ (if_neg (by simpa using dev))

theorem execRegWrite_host : execRegWrite t .pcie addr word s = .next (hostWrite addr word (s.at t)) := rfl

theorem deviceWrite_blocked (may : mayWrite m addr s = false) : deviceWrite m addr word s = firewallBlock s := by
  unfold deviceWrite
  exact if_pos (by rw [may]; rfl)

/-- The regions whose words a write that the firewall lets through stores as they are. -/
def storesWords (r : Region) : Bool := r ∉ [.reserved, .periph, .reedbed, .sluice]

theorem deviceWrite_stores (may : mayWrite m addr s = true) (region : storesWords (regionOf addr) = true) :
    deviceWrite m addr word s = wrw s addr word := by
  unfold deviceWrite
  rw [if_neg (by rw [may]; decide)]
  generalize regionOf addr = r at region
  cases r with
  | reserved | periph | reedbed | sluice => exact absurd region (by decide)
  | _ => rfl

theorem deviceWrite_register (may : mayWrite m addr s = true) (region : regionOf addr = .periph) :
    deviceWrite m addr word s = blockWrite m ((addr - 0x40000000) / 0x10000) (addr % 0x10000) word s := by
  unfold deviceWrite
  rw [if_neg (by rw [may]; decide), region]

theorem hostWrite_frozen (mode : s.sys.mode = .m11) : hostWrite addr word s = s := by
  unfold hostWrite
  exact if_pos (by rw [mode]; rfl)

/-- Below the peripheral blocks the host's windows show memory, which it writes (R37). -/
theorem hostWrite_memory {x : Nat} (mode : s.sys.mode ≠ .m11) (window : barReal addr = some x) (memory : x < 0x40000000) :
    hostWrite addr word s = wrw s x word := by
  unfold hostWrite
  rw [if_neg (by simpa using mode), window]
  exact if_pos memory

end

/-- Settles O49: each clause is the case of its port that the master, the mode, the window and the region leave. -/
theorem registerPortsComplete : Obligations.RegisterPortsComplete := by
  intro t addr word n m s u
  refine ⟨?read, ?readBlocked, ?readFrozen, ?readWindow, ?readOutside, ?writeBlocked, ?store, ?register, ?writeFrozen,
    ?writeWindow, ?spi⟩
  case read => exact fun dev may => (execRegRead_device dev).trans (congrArg _ (if_pos may))
  case readBlocked => exact fun dev may => (execRegRead_device dev).trans (congrArg _ (if_neg (by rw [may]; decide)))
  case readFrozen => exact fun mode => execRegRead_host.trans (congrArg _ (hostRead_frozen mode))
  case readWindow =>
    intro x w v mode window r
    have answer := hostRead_window mode window
    rw [r] at answer
    exact execRegRead_host.trans (congrArg _ answer)
  case readOutside => exact fun mode window closed => execRegRead_host.trans (congrArg _ (hostRead_outside mode window closed))
  case writeBlocked => exact fun dev may => (execRegWrite_device dev).trans (congrArg _ (deviceWrite_blocked may))
  case store =>
    intro dev may region
    have stores : storesWords (regionOf addr) = true := by
      revert region
      generalize regionOf addr = r
      cases r <;> decide
    exact (execRegWrite_device dev).trans (congrArg _ (deviceWrite_stores may stores))
  case register => exact fun dev may region => (execRegWrite_device dev).trans (congrArg _ (deviceWrite_register may region))
  case writeFrozen => exact fun mode => execRegWrite_host.trans (congrArg _ (hostWrite_frozen mode))
  case writeWindow => exact fun x mode window memory => execRegWrite_host.trans (congrArg _ (hostWrite_memory mode window memory))
  case spi =>
    rintro l v b r rfl
    have answer : exec (.spiRead t addr n) s = execSpiRead t addr n s := rfl
    rw [answer, execSpiRead, r]

/-! ### The Peat log window (R32) -/

section
variable {a : Nat} (low : 0x90000000 ≤ a) (high : a < 0xA0000000)
include low high

theorem regionOf_peat : regionOf a = .peat := by
  unfold regionOf
  simp only [Bool.and_eq_true, decide_eq_true_eq]
  repeat rw [if_neg (by omega)]
  exact if_pos ⟨low, high⟩

theorem mayWrite_peat (m : Master) (s : State) : mayWrite m a s = (m == .legal) := by
  unfold mayWrite
  rw [regionOf_peat low high]
  cases m <;> rfl

theorem mayRead_sup_peat : mayRead .sup a = true := by
  have store : keyStore a = false := by
    simp only [keyStore, Bool.and_eq_false_imp, decide_eq_true_eq, decide_eq_false_iff_not]
    omega
  unfold mayRead
  rw [regionOf_peat low high, store]
  rfl

theorem readWord_peat (s : State) : readWord s a = rdw s a := by
  unfold readWord
  rw [regionOf_peat low high]

end

theorem barAddr_below {a x : Nat} (window : barAddr a = some x) : x < 0x401B0000 := by
  simp only [barAddr, baseOWN, baseEVG, baseMBX, Bool.and_eq_true, decide_eq_true_eq] at window
  split_ifs at window <;> simp only [Option.some.injEq] at window <;> omega

/-- No BAR shows an address above the peripheral blocks (R37). -/
theorem barReal_below {a x : Nat} (window : barReal a = some x) : x < 0x401B0000 := by
  obtain ⟨y, shown, rfl⟩ := Option.map_eq_some_iff.1 window
  have below := barAddr_below shown
  split <;> omega

/-! ### Reads above the peripheral blocks: no register of its own behaviour stands there -/

theorem inMtr_above {a : Nat} (above : 0x40110000 ≤ a) : inMtr a = false := by
  simp only [inMtr, Bool.and_eq_false_imp, decide_eq_true_eq, decide_eq_false_iff_not]
  omega

/-- The widest register has two upper words, so the low word of an upper one stands at most 8 bytes below it (R7). -/
theorem upperWords_above {a : Nat} (above : 0x401B0000 ≤ a + 8) : upperWords a = [] := by
  unfold upperWords
  simp only [inMtr_above (show 0x40110000 ≤ a by omega), Bool.false_and, Bool.or_eq_true, beq_iff_eq, Bool.false_eq_true, if_false]
  exact if_neg (by unfold baseMTR; omega)

section
variable {a : Nat} (above : 0x401B0000 ≤ a)
include above

theorem objectAt_above : objectAt a = none := by
  unfold objectAt
  exact if_neg (by simp only [Bool.and_eq_true, decide_eq_true_eq]; omega)

theorem readStep_above (m : Master) (s : State) : readStep m a s = (readWord s a, s) := by
  have data : (a == baseMBX + 0x2088) = false := beq_false_of_ne (by unfold baseMBX; omega)
  have words : upperWords a = [] := upperWords_above (by omega)
  have upper : isUpper a = false := by
    rw [isUpper, upperWords_above (by omega), upperWords_above (by omega)]
    rfl
  simp only [readStep, inMtr_above (show 0x40110000 ≤ a by omega), data, upper, words, Bool.false_and, Bool.and_false,
    List.isEmpty_nil, Bool.false_eq_true, if_false, if_true]

theorem deviceRead_above (m : Master) (s : State) :
    deviceRead m a s = emit s .readData a [((readWord s a : Nat) : Int)] := by
  have capture : ¬(decide (baseTSU + 0x400 ≤ a) && decide (a < baseTSU + 0x500) && a % 16 == 8) = true := by
    simp only [baseTSU, Bool.and_eq_true, decide_eq_true_eq]
    omega
  unfold deviceRead
  rw [objectAt_above above]
  refine (if_neg capture).trans ?_
  rw [answerRead, readStep_above above]

end

/-- Settles O56: the access table gives the window's writes to the legal pair and its reads to the supervisor, and the BARs end
below it. -/
theorem onlyTheLegalPairWritesThePeatLog : Obligations.OnlyTheLegalPairWritesThePeatLog := by
  intro t a w s u low high
  refine ⟨?write, ?read, ?blocked, ?host⟩
  case write =>
    refine (execRegWrite_device (by decide)).trans (congrArg _ (deviceWrite_stores ?_ ?_))
    · exact mayWrite_peat low high .legal _
    · rw [regionOf_peat low high]; rfl
  case read =>
    refine (execRegRead_device (by decide)).trans (congrArg _ ((if_pos (mayRead_sup_peat low high)).trans ?_))
    rw [deviceRead_above (by omega), readWord_peat low high]
  case blocked =>
    intro m other dev
    refine (execRegWrite_device dev).trans (congrArg _ (deviceWrite_blocked ?_))
    rw [mayWrite_peat low high]
    exact beq_false_of_ne other
  case host =>
    intro b window
    have below := barReal_below window
    omega

end Sys2Proof.Machine
end

section
/-! Settles O5 from what one step reaches, O50 from the one way every mailbox command starts, and O11 from the state that a reset
of the control die leaves. -/

namespace Sys2Proof.Machine

/-- Settles O5: a record is written only while fewer than 32 stand, and the copy in retention is taken from the queue; `Reaches`
carries the bound of both along what the step runs, resets and restores among it. -/
theorem errorQueueKeepsItsBound : Obligations.ErrorQueueKeepsItsBound :=
  fun _ _ bounds h => (step_reaches h).errs bounds

/-! ### Commands out of their modes (R84) -/

/-- The outcome is that of the mailbox command with opcode `op` in state `u`, whatever forbids it and whatever it does. -/
def RunsCommand (line seq op : Nat) (u : State) (o : Host.Outcome State Fault Refusal) : Prop :=
  ∃ illegal body, o = .next (runCmd line seq op illegal body u)

section
variable {line seq op : Nat} {u : State} {o : Host.Outcome State Fault Refusal} {c : Cmd} {i : CmdInfo}
variable (run : RunsCommand line seq op u o) (starts : startCmd u line seq op = some c) (info : cmdInfo op = some i)
include run starts info

/-- Check 2 of R84: another than the owner sent a command that is the owner's. -/
theorem RunsCommand.notOwner (other : (i.owner && !ownerOk u c) = true) : o = .next (finish c { status := stNotOwner } u) := by
  obtain ⟨illegal, body, rfl⟩ := run
  obtain ⟨owners, foreign⟩ := Bool.and_eq_true_iff.1 other
  exact congrArg _ (runCmd_notOwner starts info owners (by simpa using foreign))

/-- Check 3 of R84: the mode does not allow the command. -/
theorem RunsCommand.mode (owner : (i.owner && !ownerOk u c) = false) (mode : i.modes.contains u.sys.mode.num = false) :
    o = .next (finish c { status := stMode, detail := u.sys.mode.num } u) := by
  obtain ⟨illegal, body, rfl⟩ := run
  exact congrArg _ (runCmd_mode starts info owner mode)

end

/-- Settles O50: each row's command runs by `runCmd` with its opcode, which makes both checks before all others. -/
theorem commandsOutOfTheirModesAreIgnored : Obligations.CommandsOutOfTheirModesAreIgnored := by
  intro t line seq ps x y z ok s c i p u row info starts
  have run : RunsCommand line seq p.1 u (exec p.2 s) := by
    clear info starts
    revert p
    repeat refine List.forall_mem_cons.2 ⟨⟨_, _, rfl⟩, ?_⟩
    exact List.forall_mem_nil _
  exact ⟨run.notOwner starts info, run.mode starts info⟩

/-! ### Resets (R45) -/

section
variable (k : RstKind) (cold : Bool) (s : State)

/-- Whatever its kind, a reset of the control die ends in M1 with its cause shown and no command uncompleted (R45, R48). -/
theorem resetControl_entersM1 : (resetControl k cold s).sys.mode = .m1 ∧ (resetControl k cold s).sys.rst.kind = k ∧
    (resetControl k cold s).mbx.cmds = [] := ⟨rfl, rfl, rfl⟩

theorem resetControl_hbLatch : (resetControl .heartbeat cold s).keeper.hbLatch = true := Bool.or_true _

end

section
variable {t : Nat} {vbat : Bool} {s : State}

theorem execResetPin_low (supplied : (s.at t).sys.mode ≠ .m0) : execResetPin t true s =
    .next (resetControl .pin (coldNow (s.at t)) { s.at t with sys.pinLow := true }) := by
  unfold execResetPin
  exact congrArg _ (if_pos (by simpa using supplied))

theorem execRootLoss_supplied (supplied : (s.at t).sys.mode ≠ .m0) : execRootLoss t s =
    .next (resetControl .clockLoss (coldNow (s.at t)) { s.at t with sys.rootGood := false }) := by
  unfold execRootLoss
  exact congrArg _ (if_neg (by simpa using supplied))

theorem execHeartbeatLoss_checked (check : (s.at t).keeper.hbCheck = true) (clocks : clocksRun (s.at t) = true) :
    execHeartbeatLoss t s = .next (resetControl .heartbeat (coldNow (s.at t)) (s.at t)) := by
  unfold execHeartbeatLoss
  exact congrArg _ (if_pos (by rw [check, clocks]; rfl))

theorem execWatchdogExpiry_clocked (clocks : clocksRun (s.at t) = true) :
    execWatchdogExpiry t s = .next (resetControl .watchdog (coldNow (s.at t)) (s.at t)) := by
  unfold execWatchdogExpiry
  exact congrArg _ (if_pos clocks)

/-- What is unlisted reads 0, so that a region whose cells are dropped does. -/
theorem memGet_filter_dropped {keep : Host.Cell → Bool} {a : Nat} (dropped : ∀ v, keep (a, v) = false) (m : Memory) :
    memGet (m.filter keep) a = 0 := by
  induction m with
  | nil => rfl
  | cons c m ih =>
    obtain ⟨b, v⟩ := c
    rw [List.filter_cons]
    split
    next kept =>
      have other : b ≠ a := by
        rintro rfl
        rw [dropped v] at kept
        exact absurd kept (by decide)
      exact (if_neg other).trans ih
    next => exact ih

/-- Retention SRAM reads 0 once the always-on domain is lost (R48). -/
theorem memGet_loseAlwaysOn {a : Nat} (low : 0x0F000000 ≤ a) (high : a < 0x0F040000) : memGet (loseAlwaysOn s).mem a = 0 :=
  memGet_filter_dropped (fun _ => by simp [low, high]) s.mem

theorem execRailsGood_returned (low : (s.at t).sys.railsGood = false) : execRailsGood t s =
    .next { resetControl .powerOn (s.at t).sys.retLost (s.at t) with
      sys.railsGood := true, sys.retLost := false, sys.rootGood := true, sys.prevMode := .m0,
      sys.rst.outputsOn := (s.at t).sys.rst.outputsOn } := by
  unfold execRailsGood
  exact congrArg _ (if_neg (by rw [low]; decide))

theorem execVbatLost_unsupplied (low : (s.at t).sys.railsGood = false) :
    execVbatLost t false s = .next (loseAlwaysOn (s.at t)) := by
  unfold execVbatLost
  exact congrArg _ (if_neg (by rw [low]; decide))

/-- A lost rail leads to M0 whether VBAT stands or not (R42). -/
theorem execRailOutOfRange_off (supplied : (s.at t).sys.mode ≠ .m0) : ∃ s', execRailOutOfRange t vbat s = .next s' ∧
    s'.sys.mode = .m0 ∧ s'.sys.prevMode = (s.at t).sys.mode ∧ s'.sys.railsGood = false := by
  unfold execRailOutOfRange
  cases vbat with
  | true => exact ⟨_, congrArg _ (if_neg (by simpa using supplied)), rfl, rfl, rfl⟩
  | false => exact ⟨_, congrArg _ (if_neg (by simpa using supplied)), rfl, rfl, rfl⟩

end

/-- Settles O11: each reset is `resetControl` with its kind; a lost rail and a lost VBAT leave what their own rows say. -/
theorem resetsEnterM1WithTheirCause : Obligations.ResetsEnterM1WithTheirCause := by
  intro t vbat s u
  refine ⟨?pin, ?pinHigh, ?root, ?heartbeat, ?watchdog, ?rails, ?railLost, ?vbatLost⟩
  case pin => exact fun supplied => ⟨_, execResetPin_low supplied, resetControl_entersM1 ..⟩
  case pinHigh => rfl
  case root => exact fun supplied => ⟨_, execRootLoss_supplied supplied, resetControl_entersM1 ..⟩
  case heartbeat =>
    intro check clocks
    obtain ⟨mode, kind, cmds⟩ := resetControl_entersM1 .heartbeat (coldNow u) u
    exact ⟨_, execHeartbeatLoss_checked check clocks, mode, kind, resetControl_hbLatch .., cmds⟩
  case watchdog => exact fun clocks => ⟨_, execWatchdogExpiry_clocked clocks, resetControl_entersM1 ..⟩
  case rails =>
    intro low
    obtain ⟨mode, kind, cmds⟩ := resetControl_entersM1 .powerOn u.sys.retLost u
    exact ⟨_, execRailsGood_returned low, mode, kind, rfl, rfl, cmds⟩
  case railLost => exact execRailOutOfRange_off
  case vbatLost =>
    exact fun low => ⟨_, execVbatLost_unsupplied low, rfl, rfl, rfl, fun a => memGet_loseAlwaysOn⟩

end Sys2Proof.Machine
end

section
/-! Settles O43: what each row of the duplex pair does in the case its guards leave, by the order of section 18. -/

namespace Sys2Proof.Machine

section
variable {t hb byte claim line seq : Nat} {s : State}

/-! ### Deciding and the claim stream (R453, R461, R462) -/

section
variable (mode : (s.at t).sys.mode = .m3) (role : (s.at t).dpx.role = 3) (causes : m8Holds (s.at t) = false)
  (listened : ¬(s.at t).now < (s.at t).dpx.decideAt + listenTime (s.at t))
include mode role causes listened

/-- A member in M3 that has listened decides by the partner's stream. -/
theorem execDuplexRoleDecide_listened : execDuplexRoleDecide t s = .next
    (if (s.at t).dpx.pValid then (if versionsDiffer (s.at t) then s.at t else enterStandby 1 (s.at t))
    else if oz3Up (s.at t) && dpxMember (s.at t) == 3 then s.at t else claimRole (s.at t)) := by
  unfold execDuplexRoleDecide
  exact congrArg _ (if_neg (by rw [mode, role, causes, decide_eq_false listened]; decide))

theorem execDuplexRoleDecide_standsBy (valid : (s.at t).dpx.pValid = true) (versions : versionsDiffer (s.at t) = false) :
    execDuplexRoleDecide t s = .next (enterStandby 1 (s.at t)) := by
  rw [execDuplexRoleDecide_listened mode role causes listened, valid, versions]
  rfl

theorem execDuplexRoleDecide_claims (invalid : (s.at t).dpx.pValid = false)
    (alone : (oz3Up (s.at t) && dpxMember (s.at t) == 3) = false) :
    execDuplexRoleDecide t s = .next (claimRole (s.at t)) := by
  rw [execDuplexRoleDecide_listened mode role causes listened, invalid, alone]
  rfl

end

/-- The partner's stream is lost: nothing decoded of it stands (R462). -/
def streamLost (s : State) : State :=
  { s with dpx.pValid := false, dpx.known := false, dpx.run := 0, dpx.have4 := Vector.replicate 4 false }

theorem execClaimStreamDead_takesOver (dead : ¬(s.at t).now < (s.at t).dpx.frameAt + 6200) (valid : (s.at t).dpx.pValid = true)
    (role : (s.at t).dpx.role = 2) (mode : (s.at t).sys.mode = .m7) (power : (s.at t).sys.powerWarn = false) :
    execClaimStreamDead t s = .next (takeover (streamLost (s.at t))) := by
  unfold execClaimStreamDead
  refine congrArg _ ((if_neg dead).trans ((if_pos ?_).trans (if_pos ?_)))
  · rw [valid, role, power]; rfl
  · rw [mode]; rfl

theorem execClaimStreamDead_notStandby (dead : ¬(s.at t).now < (s.at t).dpx.frameAt + 6200) (role : (s.at t).dpx.role ≠ 2) :
    execClaimStreamDead t s = .next (streamLost (s.at t)) := by
  unfold execClaimStreamDead
  exact congrArg _ ((if_neg dead).trans (if_neg (by rw [beq_false_of_ne role, Bool.and_false]; exact Bool.false_ne_true)))

theorem execClaimWdExpiry_late (claiming : (s.at t).dpx.claiming = true)
    (late : (s.at t).dpx.kickAt + rdf (s.at t) baseDPX 2 10 * 10000 ≤ (s.at t).now) :
    execClaimWdExpiry t s = .next (dropGate (stopClaim (s.at t))) := by
  unfold execClaimWdExpiry
  exact congrArg _ (if_pos (by rw [claiming, decide_eq_true late]; rfl))

/-! ### The selection line (R461, R468, R472) -/

/-- The active sees itself selected: the check is armed, and what its loss or a failed takeover raised is cleared. -/
def selectionSeen (s : State) : State :=
  errCleared 12 5 0 (errCleared 12 6 0 { s with
    dpx.selOk := true, dpx.selLowAt := none, dpx.selSeen := true, dpx.takenAt := none })

/-- The active is selected: a planned swap that it waited on ends, and it drives the loads. -/
theorem execDpxSelNChange_active (role : (s.at t).dpx.role = 1) : execDpxSelNChange t true s =
    .next (if (selectionSeen (s.at t)).dpx.swap == some none then
      fireEvent 453 (driveMirrored { selectionSeen (s.at t) with
        dpx.swap := none, dpx.swaps := ((selectionSeen (s.at t)).dpx.swaps + 1) % 65536,
        dpx.swapAt := devTime (selectionSeen (s.at t)) })
     else selectionSeen (s.at t)) := by
  unfold execDpxSelNChange
  exact congrArg _ (if_pos (by rw [role]; rfl))

theorem execDpxSelLost_low {a : Nat} (role : (s.at t).dpx.role = 1) (seen : (s.at t).dpx.selSeen = true)
    (low : (s.at t).dpx.selOk = false) (swap : (s.at t).dpx.swap.isNone = true) (depose : canDepose (s.at t) = true)
    (since : (s.at t).dpx.selLowAt = some a) (long : a + 10000 ≤ (s.at t).now) :
    execDpxSelLost t s = .next (raiseError errSelLost 0 (fireEvent 455 (giveUp 3 (s.at t)))) := by
  unfold execDpxSelLost
  refine congrArg _ (if_pos ?_)
  rw [role, seen, low, swap, depose, since]
  exact decide_eq_true long

theorem execDpxTakeoverFail_unselected {a : Nat} (role : (s.at t).dpx.role = 1) (low : (s.at t).dpx.selOk = false)
    (taken : (s.at t).dpx.takenAt = some a) (long : a + 20000 ≤ (s.at t).now) : execDpxTakeoverFail t s =
    .next (raiseError errTakeoverFail 0 (fireEvent 455 { s.at t with dpx.takenAt := none })) := by
  unfold execDpxTakeoverFail
  refine congrArg _ (if_pos ?_)
  rw [role, low, taken]
  simpa using long

/-! ### ROLE records (R464, R465) -/

theorem execRoleSend_paired (member : dpxMember (s.at t) ≠ 0) (link : oz3Up (s.at t) = true) (mode : 3 ≤ (s.at t).sys.mode.num) :
    execRoleSend t s = .next (mirrorSend 0x40 (roleRec (s.at t)) (s.at t)) := by
  unfold execRoleSend
  exact congrArg _ (if_pos (by rw [bne_iff_ne.2 member, link, decide_eq_true mode]; rfl))

/-- What a ROLE record of the partner leaves (R452, R460, R465). -/
def partnerHeard (role mode st claim last ver dev : Nat) (s : State) : State :=
  { s with
    dpx.partner := some { role := role, mode := mode, st := st, claim := claim, lastClaim := last, cfgVersion := ver, deviceId := dev },
    dpx.roleUp := true, dpx.roleAt := s.now, dpx.lastClaim := max s.dpx.lastClaim (max claim last),
    dpx.mismatch := s.dpx.mismatch && s.dpx.partner.map (·.cfgVersion) == some ver && ver != s.cfg.version }

/-- Outside M3 a ROLE record is recorded, and a transfer starts where the partner's state asks for one. -/
theorem execRole_decided {role mode st last ver dev : Nat} (member : dpxMember (s.at t) ≠ 0) (decided : (s.at t).sys.mode ≠ .m3) :
    execRole t role mode st claim last ver dev s =
      .next (startResync (s.at t) st (partnerHeard role mode st claim last ver dev (s.at t))) := by
  unfold execRole
  refine congrArg _ ((if_neg (by simpa using member)).trans (if_neg ?_))
  rw [show ((s.at t).sys.mode == Mode.m3) = false by simpa using decided]
  exact Bool.false_ne_true

theorem execDpxPartnerSilent_late (up : (s.at t).dpx.roleUp = true) (late : (s.at t).dpx.roleAt + 1000000 ≤ (s.at t).now) :
    execDpxPartnerSilent t s =
      .next (raiseError errPartnerSilent 0 (fireEvent 452 { s.at t with dpx.roleUp := false })) := by
  unfold execDpxPartnerSilent
  exact congrArg _ (if_pos (by rw [up, decide_eq_true late]; rfl))

theorem execDpxMirrorLost_late (role : (s.at t).dpx.role = 2) (fresh : (s.at t).dpx.st ≠ 3)
    (late : (s.at t).dpx.roleAt + 1000000 ≤ (s.at t).now) :
    execDpxMirrorLost t s = .next (raiseError errMirrorLost 0 (fireEvent 451 (setDpxSt 3 (s.at t)))) := by
  unfold execDpxMirrorLost
  exact congrArg _ (if_pos (by rw [role, bne_iff_ne.2 fresh, decide_eq_true late, Bool.or_true]; rfl))

/-! ### The planned swap (R472, R473) -/

theorem onStandby_standby (f : State → State) (role : s.dpx.role = 2) : onStandby f s = f s := by
  unfold onStandby
  exact if_pos (by rw [role]; rfl)

theorem execSwapReq_ready (role : (s.at t).dpx.role = 2) (mode : (s.at t).sys.mode = .m7) (ready : (s.at t).dpx.st = 2)
    (room : claim + 1 < 2 ^ 32) : execSwapReq t claim s = .next (setMode .m4 (startClaim (claim + 1)
      { s.at t with dpx.swap := some none, lpe.standby := false,
                    vcl.port := updAll (s.at t).vcl.port fun _ p => { p with rxOnly := false } })) := by
  unfold execSwapReq
  refine congrArg _ ((onStandby_standby _ role).trans ((if_neg ?_).trans (if_pos ?_)))
  · rw [mode]; decide
  · rw [ready, decide_eq_true room]; rfl

section
variable (asked : (s.at t).dpx.swap = some (some (line, seq)))
include asked

/-- What the old active does of its own swap. -/
theorem execSwapConfirm_asked : execSwapConfirm t s = .next
    (if partnerSelected (s.at t) then
      finishAccepted line seq { result := [0] } (fireEvent 453 (relinquish 1 { s.at t with
        dpx.swap := none, dpx.swaps := ((s.at t).dpx.swaps + 1) % 65536, dpx.swapAt := devTime (s.at t) }))
    else if (s.at t).dpx.swapFrom + 1000000 ≤ (s.at t).now then
      finishAccepted line seq { result := [1] } { s.at t with dpx.swap := none }
    else s.at t) := by
  unfold execSwapConfirm
  simp only [asked]

theorem execSwapConfirm_selected (selected : partnerSelected (s.at t) = true) : execSwapConfirm t s =
    .next (finishAccepted line seq { result := [0] } (fireEvent 453 (relinquish 1 { s.at t with
      dpx.swap := none, dpx.swaps := ((s.at t).dpx.swaps + 1) % 65536, dpx.swapAt := devTime (s.at t) }))) :=
  (execSwapConfirm_asked asked).trans (congrArg _ (if_pos selected))

theorem execSwapConfirm_late (unselected : partnerSelected (s.at t) = false)
    (late : (s.at t).dpx.swapFrom + 1000000 ≤ (s.at t).now) : execSwapConfirm t s =
    .next (finishAccepted line seq { result := [1] } { s.at t with dpx.swap := none }) :=
  (execSwapConfirm_asked asked).trans (congrArg _ ((if_neg (by rw [unselected]; decide)).trans (if_pos late)))

end

theorem execDpxSwapFail_unselected (swap : (s.at t).dpx.swap = some none) (low : (s.at t).dpx.selOk = false)
    (late : (s.at t).dpx.claimAt + 20000 ≤ (s.at t).now) : execDpxSwapFail t s =
    .next (raiseError errSwapFail 0 (enterStandby 3 { s.at t with dpx.swap := none })) := by
  unfold execDpxSwapFail
  exact congrArg _ (if_pos (by rw [swap, low, decide_eq_true late]; rfl))

theorem execSwapDue_set (role : (s.at t).dpx.role = 1) (due : rdf (s.at t) baseDPX 12 12 ≠ 0) :
    execSwapDue t s = .next (fireEvent 454 (s.at t)) := by
  unfold execSwapDue
  exact congrArg _ (if_pos (by rw [role, bne_iff_ne.2 due]; rfl))

end

/-- Settles O43: each clause is the case of its row that the guards leave, and the three commands run once they start. -/
theorem duplexRolesComplete : Obligations.DuplexRolesComplete := by
  intro t hb byte role mode st claim last ver dev line seq s c u d
  refine ⟨?standsBy, ?claims, ?goodFrame, ?badFrame, ?streamDead, ?kick, ?watchdog, ?selLow, ?selected, ?swapped, ?selLost,
    ?takeoverFail, ?roleSend, ?roleRecord, ?silent, ?mirrorLost, ?swapReq, ?confirmed, ?refused, ?swapFail, ?swapDue, ?status,
    ?swap, ?resync⟩
  case standsBy => exact execDuplexRoleDecide_standsBy
  case claims => exact execDuplexRoleDecide_claims
  case goodFrame => rfl
  case badFrame => rfl
  case streamDead =>
    rintro w rfl
    exact ⟨fun valid dead role mode power => execClaimStreamDead_takesOver dead valid role mode power,
      fun role dead => execClaimStreamDead_notStandby dead role⟩
  case kick => rfl
  case watchdog => exact execClaimWdExpiry_late
  case selLow => rfl
  case selected =>
    rintro w active rfl idle
    exact (execDpxSelNChange_active active).trans (congrArg _ (if_neg (by rw [selectionSeen, idle]; decide)))
  case swapped =>
    rintro w active rfl waits
    exact (execDpxSelNChange_active active).trans (congrArg _ (if_pos (by rw [selectionSeen, waits]; rfl)))
  case selLost => exact fun _ => execDpxSelLost_low
  case takeoverFail => exact fun _ => execDpxTakeoverFail_unselected
  case roleSend => exact execRoleSend_paired
  case roleRecord => exact execRole_decided
  case silent => exact execDpxPartnerSilent_late
  case mirrorLost => exact execDpxMirrorLost_late
  case swapReq => exact execSwapReq_ready
  case confirmed => exact execSwapConfirm_selected
  case refused => exact execSwapConfirm_late
  case swapFail => exact execDpxSwapFail_unselected
  case swapDue => exact execSwapDue_set
  case status => exact fun starts => congrArg _ (runCmd_free starts)
  case swap => exact fun starts legal => congrArg _ (runCmd_starts starts legal)
  case resync => exact fun starts legal => congrArg _ (runCmd_starts starts legal)

end Sys2Proof.Machine
end

section
/-! Settles O46: what each of the SYS and ROM commands does once it starts, and what the end of a check does. -/

namespace Sys2Proof.Machine

section
variable {t line seq fault version sha : Nat} {s : State} {c : Cmd}

/-! ### Modes and errors (R42, R67, R502) -/

theorem execSysModeSet_edge (starts : Starts line seq 0x0102 (s.at t) c) (legal : modeSetIllegal c (s.at t) = false)
    (edge : modeEdge (s.at t).sys.mode.num (c.param 8 1) = true) :
    execSysModeSet t line seq s = .next (modeSet c (s.at t)) :=
  congrArg _ ((runCmd_starts starts legal).trans (if_pos edge))

theorem modeSet_m9 (mode : s.sys.mode = .m3) (target : c.param 8 1 = 9) :
    modeSet c s = done c [0] (sealNoted (setMode .m9 (quit .m9 s))) := by
  unfold modeSet
  rw [mode, target]
  rfl

theorem modeSet_m10 (mode : s.sys.mode = .m3) (target : c.param 8 1 = 10) :
    modeSet c s = done c [0] (setMode .m10 (quit .m10 s)) := by
  unfold modeSet
  rw [mode, target]
  rfl

theorem modeSet_leaveReady (mode : s.sys.mode = .m4) (target : c.param 8 1 = 3) :
    modeSet c s = accept c [] { s with cfg.modeJob := some (c.line, c.seq, 3) } := by
  unfold modeSet
  rw [mode, target]
  rfl

theorem modeSet_safeHold (mode : s.sys.mode = .m5) (target : c.param 8 1 = 8) :
    modeSet c s = done c [0] (setCause .command s) := by
  unfold modeSet
  rw [mode, target]
  rfl

/-- The command is accepted, and the reset then takes the device (R45, R501). -/
theorem execSysReset_accepted (starts : Starts line seq 0x0103 (s.at t) c) : execSysReset t line seq s =
    .next (resetControl .software (coldNow (accept c [] (s.at t))) (accept c [] (s.at t))) := by
  unfold execSysReset
  rw [runCmd_free starts]

theorem execSysErrqRead_inRange {l : List ErrRec} {bytes : List Nat} (records : l = (s.at t).sys.errq.take (c.param 8 1))
    (encoded : bytes = (l.map fun r => errRecBytes (some r)).flatten) (starts : Starts line seq 0x0104 (s.at t) c)
    (one : ¬c.param 8 1 < 1) (few : ¬32 < c.param 8 1) :
    execSysErrqRead t line seq s = .next (doneOut c [l.length, (s.at t).sys.ovfCnt] bytes
      { freeRecords (min l.length ((respPart c (some bytes)).length / 16)) (s.at t) with sys.ovfCnt := 0 }) := by
  subst records encoded
  refine congrArg _ ((runCmd_free starts).trans (if_neg ?_))
  rw [decide_eq_false one, decide_eq_false few]
  decide

/-! ### Firmware (R503) -/

section
variable (starts : Starts line seq 0x0105 (s.at t) c) (data : c.data.length ≠ 0)
  (size : ¬(c.param 12 4 = 0 || 33554432 < c.param 12 4 || c.param 12 4 < c.param 8 4 + c.data.length) = true)
  (next : c.param 8 4 = (s.at t).sys.fwStaged)
include starts data size next

/-- A chunk at the offset written so far is written into the slot not booted; the last one starts the check. -/
theorem execSysFwStage_written : execSysFwStage t line seq true s = .next
    (if c.param 16 1 == 1 then
      accept c [1 - (s.at t).sys.boot.slot] { writeFw (1 - (s.at t).sys.boot.slot) (c.param 8 4) c.data (s.at t) with
        sys.fwStaged := c.param 8 4 + c.data.length, sys.fwVerify := some (1 - (s.at t).sys.boot.slot) }
    else done c [0, 0, 0, 0, 1 - (s.at t).sys.boot.slot]
      { writeFw (1 - (s.at t).sys.boot.slot) (c.param 8 4) c.data (s.at t) with
        sys.fwStaged := c.param 8 4 + c.data.length }) := by
  refine congrArg _ ((runCmd_free starts).trans ((if_neg data).trans ((if_neg size).trans ((if_neg ?_).trans (if_neg ?_)))))
  · rw [← next, bne_self_eq_false]
    exact Bool.false_ne_true
  · decide

theorem execSysFwStage_chunk (more : c.param 16 1 = 0) : execSysFwStage t line seq true s =
    .next (done c [0, 0, 0, 0, 1 - (s.at t).sys.boot.slot]
      { writeFw (1 - (s.at t).sys.boot.slot) (c.param 8 4) c.data (s.at t) with
        sys.fwStaged := c.param 8 4 + c.data.length }) :=
  (execSysFwStage_written starts data size next).trans (congrArg _ (if_neg (by rw [more]; decide)))

theorem execSysFwStage_last (last : c.param 16 1 = 1) : execSysFwStage t line seq true s =
    .next (accept c [1 - (s.at t).sys.boot.slot] { writeFw (1 - (s.at t).sys.boot.slot) (c.param 8 4) c.data (s.at t) with
      sys.fwStaged := c.param 8 4 + c.data.length, sys.fwVerify := some (1 - (s.at t).sys.boot.slot) }) :=
  (execSysFwStage_written starts data size next).trans (congrArg _ (if_pos (by rw [last]; rfl)))

end

/-- What the check of a staged slot finds, besides the fault its reading gives: a version below the least allowed. -/
def slotVerdict (fault version : Nat) (s : State) : Nat :=
  if fault == 0 && version < s.sys.ident.fwMinVer then 2 else fault

theorem slotVerdict_fault (bad : fault ≠ 0) : slotVerdict fault version s = fault :=
  if_neg (by rw [beq_false_of_ne bad]; exact Bool.false_ne_true)

theorem slotVerdict_good (recent : ¬version < s.sys.ident.fwMinVer) : slotVerdict 0 version s = 0 :=
  if_neg (by rw [decide_eq_false recent]; decide)

/-- The slot `i` checked, with what its check found. -/
def slotChecked (i fault version sha : Nat) (s : State) : State :=
  slotReadErr fault { setFw i (fun _ => { version := version, fault := fault, legalSha := sha }) s with sys.fwVerify := none }

section
variable {i : Nat} {d : Cmd} (slot : (s.at t).sys.fwVerify = some i) (running : runningCmd (s.at t) 0x0105 = some d)
include slot running

/-- The end of the check of a slot whose command still runs. -/
theorem execFwVerifyDone_checked : execFwVerifyDone t fault version sha s = .next
    (if slotVerdict fault version (s.at t) != 0 then
      finish d { status := fwStatus (slotVerdict fault version (s.at t)), detail := 52, result := [0, 0, 0, 0, i] }
        { slotChecked i (slotVerdict fault version (s.at t)) version sha (s.at t) with sys.fwStaged := 0 }
    else if sha % 2 ^ 64 != (s.at t).lgl.check && (s.at t).sys.mode != .m9 then
      finish d { status := stLocked, result := [0, 0, 0, 0, i] }
        { setFw i (fun x => { x with fault := 1 }) (slotChecked i (slotVerdict fault version (s.at t)) version sha (s.at t)) with
          sys.fwStaged := 0 }
    else { slotChecked i (slotVerdict fault version (s.at t)) version sha (s.at t) with
      cfg.write := some (.fwHeader i .fallback d.line d.seq), sys.fwStaged := 0 }) := by
  unfold execFwVerifyDone
  simp only [slot, running]
  rfl

theorem execFwVerifyDone_bad (bad : fault ≠ 0) : execFwVerifyDone t fault version sha s =
    .next (finish d { status := fwStatus fault, detail := 52, result := [0, 0, 0, 0, i] }
      { slotChecked i fault version sha (s.at t) with sys.fwStaged := 0 }) := by
  rw [execFwVerifyDone_checked slot running, slotVerdict_fault bad, if_pos (bne_iff_ne.2 bad)]

theorem execFwVerifyDone_good (recent : ¬version < (s.at t).sys.ident.fwMinVer)
    (legal : (sha % 2 ^ 64 != (s.at t).lgl.check && (s.at t).sys.mode != .m9) = false) :
    execFwVerifyDone t 0 version sha s = .next { slotChecked i 0 version sha (s.at t) with
      cfg.write := some (.fwHeader i .fallback d.line d.seq), sys.fwStaged := 0 } := by
  rw [execFwVerifyDone_checked slot running, slotVerdict_good recent, legal]
  rfl

end

theorem execSysFwPrefer_written (starts : Starts line seq 0x0106 (s.at t) c) (valid : preferIllegal c (s.at t) = false)
    (slot : ¬2 ≤ c.param 8 1) (idle : (s.at t).cfg.write.isSome = false) : execSysFwPrefer t line seq s =
    .next { s.at t with cfg.write := some (.fwHeader (c.param 8 1) .preferred c.line c.seq) } :=
  congrArg _ ((runCmd_starts starts valid).trans ((if_neg slot).trans (if_neg (by rw [idle]; decide))))

/-! ### ROM recovery (R504) -/

theorem execRomLoad_later (starts : Starts line seq 0x01F1 (s.at t) c) (allowed : romIllegal c (s.at t) = false)
    (slot : ¬2 ≤ c.param 8 1) (data : c.data.isEmpty = false) (size : ¬33554432 < c.param 12 4 + c.data.length)
    (later : c.param 12 4 ≠ 0) : execRomLoad t line seq true s =
    .next (done c [] (writeFw (c.param 8 1) (c.param 12 4) c.data (s.at t))) := by
  refine congrArg _ ((runCmd_starts starts allowed).trans ((if_neg slot).trans ((if_neg ?_).trans ((if_neg size).trans
    ((if_neg ?_).trans (congrArg (fun v => done c [] (writeFw _ _ _ v)) (if_neg later)))))))
  · rw [data]; decide
  · decide

/-- A slot that ROM_BOOT has checked: with no fault found one that was INVALID counts as FALLBACK. -/
def romChecked (k fault version sha : Nat) (s : State) : State :=
  slotReadErr fault (setFw k (fun x =>
    { st := if fault == 0 && x.st == .invalid then .fallback else x.st, version := version, fault := fault, legalSha := sha }) s)

theorem romChecked_bad {k : Nat} (bad : fault ≠ 0) : romChecked k fault version sha s =
    slotReadErr fault (setFw k (fun x => { st := x.st, version := version, fault := fault, legalSha := sha }) s) := by
  unfold romChecked
  rw [beq_false_of_ne bad]
  rfl

section
variable (starts : Starts line seq 0x01F2 (s.at t) c) (allowed : romIllegal c (s.at t) = false) (slot : ¬2 ≤ c.param 8 1)
include starts allowed slot

theorem execRomBoot_checked : execRomBoot t line seq fault version sha s = .next
    (if slotVerdict fault version (s.at t) == 0 then startSlot (c.param 8 1) (done c [0]
      (romChecked (c.param 8 1) (slotVerdict fault version (s.at t)) version sha (s.at t)))
    else finish c { status := fwStatus (slotVerdict fault version (s.at t)), detail := 8, result := [slotVerdict fault version (s.at t)] }
      (bootFails (slotVerdict fault version (s.at t))
        (romChecked (c.param 8 1) (slotVerdict fault version (s.at t)) version sha (s.at t)))) :=
  congrArg _ ((runCmd_starts starts allowed).trans (if_neg slot))

theorem execRomBoot_good (recent : ¬version < (s.at t).sys.ident.fwMinVer) : execRomBoot t line seq 0 version sha s =
    .next (startSlot (c.param 8 1) (done c [0] (romChecked (c.param 8 1) 0 version sha (s.at t)))) := by
  rw [execRomBoot_checked starts allowed slot, slotVerdict_good recent]
  rfl

theorem execRomBoot_bad (bad : fault ≠ 0) : execRomBoot t line seq fault version sha s =
    .next (finish c { status := fwStatus fault, detail := 8, result := [fault] }
      (bootFails fault (romChecked (c.param 8 1) fault version sha (s.at t)))) := by
  rw [execRomBoot_checked starts allowed slot, slotVerdict_fault bad, if_neg (by simpa using bad)]

end

end

/-- Settles O46: each clause is the case of its command that the checks before its effect leave. -/
theorem systemCommandsComplete : Obligations.SystemCommandsComplete := by
  intro t fault version sha line seq s c u k ofs total n j
  refine ⟨?identify, ?modeSet, ?m9, ?m10, ?leaveReady, ?safeHold, ?reset, ?errqRead, ?counters, ?stage, ?bad, ?good, ?prefer,
    ?status, ?load, ?bootGood, ?bootBad⟩
  case identify => exact fun starts => congrArg _ (runCmd_free starts)
  case modeSet => exact execSysModeSet_edge
  case m9 => exact modeSet_m9
  case m10 => exact modeSet_m10
  case leaveReady => exact modeSet_leaveReady
  case safeHold => exact modeSet_safeHold
  case reset => exact execSysReset_accepted
  case errqRead => exact fun _ _ => execSysErrqRead_inRange
  case counters => exact fun starts => congrArg _ (runCmd_free starts)
  case stage =>
    exact fun starts data size next =>
      ⟨execSysFwStage_chunk starts data size next, execSysFwStage_last starts data size next⟩
  case bad => exact fun _ _ => execFwVerifyDone_bad
  case good => exact fun _ _ => execFwVerifyDone_good
  case prefer => exact execSysFwPrefer_written
  case status => exact fun starts allowed => congrArg _ (runCmd_starts starts allowed)
  case load => exact execRomLoad_later
  case bootGood => exact execRomBoot_good
  case bootBad =>
    intro starts allowed slot bad
    rw [← romChecked_bad bad]
    exact execRomBoot_bad starts allowed slot bad

end Sys2Proof.Machine
end

section
/-! Settles O9 and O10: what each ownership command does once it starts, and what the office's timers and the link changes do. -/

namespace Sys2Proof.Machine

section
variable {t line seq port mac : Nat} {up fcsOk free : Bool} {s : State} {c : Cmd}

/-! ### The ownership commands (R97, R99, R100, R505) -/

theorem execOwnChallenge_starts (starts : Starts line seq 0x0201 (s.at t) c) (random : (s.at t).key.trngOk = true) :
    execOwnChallenge t line seq s = .next (done c (leBytes 16 (Config.trng (s.at t).freeCtr % 2 ^ 128))
      { s.at t with
        freeCtr := (s.at t).freeCtr + 1,
        own.nonces := { port := c.port, value := Config.trng (s.at t).freeCtr % 2 ^ 128, issued := (s.at t).now } ::
          (s.at t).own.nonces }) :=
  congrArg _ (runCmd_starts starts (by rw [noRandom, random]; rfl))

/-- A claim signed under the port's claim key stands as a plain one outside BLANK (R97, R98). -/
theorem execOwnClaim_keyed (starts : Starts line seq 0x0202 (s.at t) c) (cycle : lifeCycle (s.at t) ≠ 0)
    (keyed : claimKeyFilled (s.at t) c.port = true) (signed : c.refLen ≠ 0)
    (nonce : nonceValid (s.at t) c.port (leValue ((c.entry.drop 8).take 16)) = true) :
    execOwnClaim t line seq true s = .next
      (done c [1, (recordClaim c.port false (useNonce (leValue ((c.entry.drop 8).take 16)) (s.at t))).own.owner]
        (recordClaim c.port false (useNonce (leValue ((c.entry.drop 8).take 16)) (s.at t)))) := by
  have blank : (lifeCycle (s.at t) == 0) = false := beq_false_of_ne cycle
  have payload : (c.refLen != 0) = true := bne_iff_ne.2 signed
  refine congrArg _ ((runCmd_starts starts ?_).trans ?_)
  · rw [keyed]; exact Bool.and_false _
  · simp [nonce, payload, keyed, blank]

theorem execOwnHeartbeat_standing (starts : Starts line seq 0x0203 (s.at t) c)
    (standing : (claimOf (s.at t) c.port).standing = true) :
    execOwnHeartbeat t line seq s = .next (done c [(s.at t).own.owner] (heartbeat c.port (s.at t))) :=
  congrArg _ (runCmd_starts starts (by rw [standing]; rfl))

theorem handoverIllegal_own (own : c.param 8 1 = c.port) : handoverIllegal c s = false := by
  rw [handoverIllegal, own, bne_self_eq_false]
  rfl

/-- A standing claim of nonzero priority may be handed the office (R100). -/
theorem handoverIllegal_standing (low : 1 ≤ c.param 8 1) (high : c.param 8 1 ≤ 5)
    (standing : (claimOf s (c.param 8 1)).standing = true) (prio : 0 < ownPrio s (c.param 8 1)) :
    handoverIllegal c s = false := by
  rw [handoverIllegal, standing, decide_eq_true low, decide_eq_true high, decide_eq_true prio]
  exact Bool.and_false _

theorem execOwnHandover_other (starts : Starts line seq 0x0204 (s.at t) c) (other : c.param 8 1 ≠ c.port)
    (allowed : handoverIllegal c (s.at t) = false) : execOwnHandover t line seq s =
    .next (bumpEpoch (done c [] { s.at t with own.owner := c.param 8 1, own.lapsePending := false })) := by
  unfold execOwnHandover
  rw [runCmd_starts starts allowed]
  exact congrArg _ (if_neg (mt beq_iff_eq.1 other))

theorem execOwnHandover_own (starts : Starts line seq 0x0204 (s.at t) c) (own : c.param 8 1 = c.port) :
    execOwnHandover t line seq s = .next (done c [] { s.at t with own.lapsePending := false }) :=
  congrArg _ ((runCmd_starts starts (handoverIllegal_own own)).trans (if_pos (beq_iff_eq.2 own)))

theorem execOwnRelease_other (starts : Starts line seq 0x0205 (s.at t) c) (other : (s.at t).own.owner ≠ c.port) :
    execOwnRelease t line seq s = .next (done c [] (setClaim (s.at t) c.port fun _ => {})) :=
  congrArg _ ((runCmd_free starts).trans (congrArg (done c []) (if_neg (mt beq_iff_eq.1 other))))

theorem execOwnRelease_owner (starts : Starts line seq 0x0205 (s.at t) c) (owner : (s.at t).own.owner = c.port) :
    execOwnRelease t line seq s = .next (done c [] (vacateOwner (setClaim (s.at t) c.port fun _ => {}))) :=
  congrArg _ ((runCmd_free starts).trans (congrArg (done c []) (if_pos (beq_iff_eq.2 owner))))

/-! ### The office's timers (R97, R98, R99) -/

theorem execElectionWindowClose_won {p : Nat} (window : (s.at t).own.election = true)
    (winner : electionWinner (s.at t) = some p) :
    execElectionWindowClose t s = .next (bumpEpoch { s.at t with own.owner := p, own.election := false }) := by
  simp only [execElectionWindowClose, window, winner, Bool.not_true, Bool.false_eq_true, if_false]

theorem execElectionWindowClose_none (window : (s.at t).own.election = true) (nobody : electionWinner (s.at t) = none) :
    execElectionWindowClose t s = .next { s.at t with own.election := false } := by
  simp only [execElectionWindowClose, window, nobody, Bool.not_true, Bool.false_eq_true, if_false]

section
variable (owned : (s.at t).own.owner ≠ 0)
include owned

theorem execOwnHbLate_owned : execOwnHbLate t s =
    .next (fireEvent 21 (setClaim (s.at t) (s.at t).own.owner fun x => { x with late := true })) := by
  unfold execOwnHbLate
  exact if_neg (mt beq_iff_eq.1 owned)

/-- Without an owner-only command that executes, the lapse takes effect at once (R99). -/
theorem execOwnHbLapse_idle (idle : (s.at t).mbx.cmds = []) : execOwnHbLapse t s = .next (lapseOwner (s.at t)) := by
  unfold execOwnHbLapse
  refine (if_neg (mt beq_iff_eq.1 owned)).trans (if_neg ?_)
  rw [idle]
  exact Bool.false_ne_true

/-- While an owner-only command of the owner executes, the lapse waits for its end (R99). -/
theorem execOwnHbLapse_busy (one : (s.at t).mbx.cmds = [c]) (ownerOnly : c.ownerOnly = true) (port : c.port = (s.at t).own.owner)
    (sound : c.fail = 0) : execOwnHbLapse t s = .next { s.at t with own.lapsePending := true } := by
  unfold execOwnHbLapse
  refine (if_neg (mt beq_iff_eq.1 owned)).trans (if_pos ?_)
  rw [one, List.find?_cons_of_pos (by rw [ownerOnly, sound]; rfl)]
  exact beq_iff_eq.2 port

end

theorem execClaimLapse_other (other : (s.at t).own.owner ≠ port) :
    execClaimLapse t port s = .next (setClaim (s.at t) port fun _ => {}) := by
  unfold execClaimLapse
  exact if_neg (mt beq_iff_eq.1 other)

/-- A frame with a bad FCS, or without a receive buffer, is dropped (R102). -/
theorem execEthFrameRx_dropped (bad : fcsOk = false ∨ free = false) : execEthFrameRx t mac fcsOk free s =
    .next (fireEvent (474 + mac) { s.at t with own.ethDrop := upd (s.at t).own.ethDrop mac fun n => n + 1 }) := by
  unfold execEthFrameRx
  exact if_neg (by rcases bad with rfl | rfl <;> simp)

end

/-- Settles O9: each clause is the case of its command that the checks before its effect leave. -/
theorem ownershipCommandsComplete : Obligations.OwnershipCommandsComplete := by
  intro t line seq s c u
  refine ⟨?challenge, ?claim, ?heartbeat, ?handover, ?handoverOwn, ?release, ?releaseOwner, ?status⟩
  case challenge =>
    exact fun starts random => ⟨_, Nat.mod_lt _ (Nat.two_pow_pos 128), execOwnChallenge_starts starts random⟩
  case claim => exact fun starts cycle keyed signed nonce => ⟨_, rfl, execOwnClaim_keyed starts cycle keyed signed nonce⟩
  case heartbeat => exact execOwnHeartbeat_standing
  case handover =>
    exact fun starts other low high standing prio =>
      execOwnHandover_other starts other (handoverIllegal_standing low high standing prio)
  case handoverOwn => exact execOwnHandover_own
  case release => exact execOwnRelease_other
  case releaseOwner => exact execOwnRelease_owner
  case status => exact fun starts => congrArg _ (runCmd_free starts)

/-- Settles O10: each clause is the case of its row that the guards leave. -/
theorem ownershipTimersAndLinksComplete : Obligations.OwnershipTimersAndLinksComplete := by
  intro t port mac up fcsOk free s u
  refine ⟨?refresh, ?won, ?nobody, ?late, ?lapse, ?lapseWaits, ?claimLapse, ?ethLink, ?ethFrame, ?t1sLink⟩
  case refresh => exact fun _ => rfl
  case won => exact fun _ => execElectionWindowClose_won
  case nobody => exact execElectionWindowClose_none
  case late => exact execOwnHbLate_owned
  case lapse => exact execOwnHbLapse_idle
  case lapseWaits => exact fun _ => execOwnHbLapse_busy
  case claimLapse => exact execClaimLapse_other
  case ethLink => rfl
  case ethFrame => exact execEthFrameRx_dropped
  case t1sLink => rfl

end Sys2Proof.Machine
end

section
/-! Settles O51 and O52: the mailbox commands that their table forbids, and those that only answer. -/

namespace Sys2Proof.Machine

/-! ### Forbidden commands (R84) -/

/-- The outcome is that of the mailbox command with opcode `op` and the test `illegal` in state `u`, whatever its effect. -/
def RunsUnless (line seq op : Nat) (illegal : Cmd → State → Bool) (u : State) (o : Host.Outcome State Fault Refusal) : Prop :=
  ∃ body, o = .next (runCmd line seq op illegal body u)

/-- Check 4 of R84: M2's recovery, the state or the caller's rights forbid the command. -/
theorem RunsUnless.forbidden {line seq op : Nat} {illegal : Cmd → State → Bool} {u : State}
    {o : Host.Outcome State Fault Refusal} {c : Cmd} {i : CmdInfo} (run : RunsUnless line seq op illegal u o)
    (starts : startCmd u line seq op = some c) (info : cmdInfo op = some i) (owner : (i.owner && !ownerOk u c) = false)
    (mode : i.modes.contains u.sys.mode.num = true) (forbidden : (recoveryBars u op || illegal c u) = true) :
    o = .next (finish c { status := stIllegal } u) := by
  obtain ⟨body, rfl⟩ := run
  exact congrArg _ (runCmd_illegal starts info owner mode forbidden)

/-- Settles O51: each row's command runs by `runCmd` with its opcode and its test, which is made before its effect. -/
theorem forbiddenCommandsAreIgnored : Obligations.ForbiddenCommandsAreIgnored := by
  intro t line seq ps x y z ok s c i p u row info starts owner mode forbidden
  have run : RunsUnless line seq p.1 p.2.2 u (exec p.2.1 s) := by
    clear info starts owner mode forbidden
    revert p
    repeat refine List.forall_mem_cons.2 ⟨⟨_, rfl⟩, ?_⟩
    exact List.forall_mem_nil _
  exact run.forbidden starts info owner mode forbidden

/-! ### Commands that only answer (R498, R499) -/

/-- The outcome is that of a mailbox command on `line` in state `u` whose own effect is an answer and nothing else. -/
def RunsAnswer (line : Nat) (u : State) (o : Host.Outcome State Fault Refusal) : Prop :=
  ∃ seq op illegal body, o = .next (runCmd line seq op illegal body u) ∧ ∀ c, ∃ a, body c u = finish c a u

/-- A command whose body answers in every case runs so. -/
theorem runsAnswer_of {line seq op : Nat} {illegal : Cmd → State → Bool} {body : Cmd → State → State} {u : State}
    (answers : ∀ c, ∃ a, body c u = finish c a u) : RunsAnswer line u (.next (runCmd line seq op illegal body u)) :=
  ⟨_, _, _, _, rfl, answers⟩

/-- So does one that has the same kind of answer in every case. -/
theorem runsAnswer_always {line seq op : Nat} {illegal : Cmd → State → Bool} {answer : Cmd → State → Answer} {u : State} :
    RunsAnswer line u (.next (runCmd line seq op illegal (fun c x => finish c (answer c x) x) u)) :=
  runsAnswer_of fun _ => ⟨_, rfl⟩

/-- Such a command changes nothing where none waits on its line, and else only what answering it changes. -/
theorem RunsAnswer.onlyAnswers {line : Nat} {u v : State} (run : RunsAnswer line u (.next v)) :
    (firstOpen u line = none → v = u) ∧ ∀ c, firstOpen u line = some c → OnlyAnswers c u v := by
  obtain ⟨seq, op, illegal, body, ran, answers⟩ := run
  cases ran
  exact ⟨runCmd_idle, fun c waits => runCmd_onlyAnswers waits (answers c)⟩

section
variable (t line seq : Nat) (s : State)

theorem execCanObjRead_answers : RunsAnswer line (s.at t) (execCanObjRead t line seq s) :=
  runsAnswer_of fun _ => answers_ite (answers_rejectRange ..) <| answers_ite (answers_rejectRange ..) <|
    answers_ite (answers_rejectRange ..) (answers_doneOut ..)

theorem execCblRecordRead_answers : RunsAnswer line (s.at t) (execCblRecordRead t line seq s) :=
  runsAnswer_of fun _ => answers_ite (answers_rejectRange ..) (answers_doneOut ..)

theorem execKeyPubRead_answers : RunsAnswer line (s.at t) (execKeyPubRead t line seq s) :=
  runsAnswer_of fun _ => answers_ite (answers_rejectRange ..) (answers_doneOut ..)

theorem execMtrHarmRead_answers : RunsAnswer line (s.at t) (execMtrHarmRead t line seq s) :=
  runsAnswer_of fun _ => answers_ite (answers_rejectRange ..) (answers_doneOut ..)

theorem execMtrRead_answers : RunsAnswer line (s.at t) (execMtrRead t line seq s) :=
  runsAnswer_of fun _ => answers_ite (answers_rejectRange ..) <| answers_ite (answers_rejectRange ..) <|
    answers_ite (answers_rejectRange ..) (answers_doneOut ..)

theorem execOzlTopoRead_answers : RunsAnswer line (s.at t) (execOzlTopoRead t line seq s) :=
  runsAnswer_of fun _ => answers_ite (answers_rejectRange ..) <| answers_ite (answers_rejectRange ..) (answers_doneOut ..)

theorem execPwrLoopRead_answers : RunsAnswer line (s.at t) (execPwrLoopRead t line seq s) :=
  runsAnswer_of fun _ => answers_ite (answers_rejectRange ..) <| answers_ite (answers_rejectRange ..) (answers_doneOut ..)

theorem execSlcTableRead_answers : RunsAnswer line (s.at t) (execSlcTableRead t line seq s) :=
  runsAnswer_of fun _ => answers_ite (answers_rejectRange ..) <| answers_ite (answers_rejectRange ..) <|
    answers_ite (answers_rejectRange ..) <| answers_ite (answers_doneOut ..) (answers_doneOut ..)

theorem execVehSessionRead_answers : RunsAnswer line (s.at t) (execVehSessionRead t line seq s) :=
  runsAnswer_of fun _ => answers_ite (answers_rejectRange ..) (answers_doneOut ..)

end

/-- Settles O52: each row's command runs by `runCmd`, and its body ends in an answer whatever its range checks find. -/
theorem statusCommandsOnlyAnswer : Obligations.StatusCommandsOnlyAnswer := by
  intro t line seq s v i u row ran
  have run : RunsAnswer line u (exec i s) := by
    clear ran
    revert i
    simp only [List.forall_mem_cons]
    exact ⟨execCanObjRead_answers .., runsAnswer_always, execCblRecordRead_answers .., runsAnswer_always, runsAnswer_always,
      runsAnswer_always, runsAnswer_always, runsAnswer_always, runsAnswer_always, execKeyPubRead_answers .., runsAnswer_always,
      runsAnswer_always, runsAnswer_always, runsAnswer_always, execMtrHarmRead_answers .., execMtrRead_answers ..,
      runsAnswer_always, runsAnswer_always, runsAnswer_always, runsAnswer_always, execOzlTopoRead_answers .., runsAnswer_always,
      execPwrLoopRead_answers .., runsAnswer_always, runsAnswer_always, runsAnswer_always, runsAnswer_always, runsAnswer_always,
      execSlcTableRead_answers .., runsAnswer_always, runsAnswer_always, runsAnswer_always, execVehSessionRead_answers ..,
      runsAnswer_always, List.forall_mem_nil _⟩
  rw [ran] at run
  exact run.onlyAnswers

end Sys2Proof.Machine
end

section
/-! Settles O14: what the rows of the queue pairs do in the case their guards leave. -/

namespace Sys2Proof.Machine

section
variable {t n l word tail head : Nat} {host : List Nat} {s : State}

/-! ### Creation and run-down (R72, R76) -/

section
variable (free : (get s.mbx.pairs n).bound = false) (up : (get s.mbx.pairs n).runDown = false)
include free up

theorem queueCfgWrite_create (idle : (get s.mbx.pairs n).active = false) (enable : bit word 31 = true)
    (passes : createCheck n (bits word 0 13) (bits word 16 3) (bits word 19 5) s = 0) :
    queueCfgWrite n word s = replayPrior n
      (makePair n 1 (bits word 0 13) (bits word 19 5) ((findQuanta s (bits word 19 5)).getD 0) false
        { s with mbx.pairs := upd s.mbx.pairs n fun x =>
          { x with depth := bits word 0 13, port := bits word 16 3, quanta := bits word 19 5, enable := true } }) := by
  simp [queueCfgWrite, free, up, idle, enable, passes]

theorem queueCfgWrite_disable (active : (get s.mbx.pairs n).active = true) (enable : bit word 31 = false) :
    queueCfgWrite n word s =
      { s with mbx.pairs := upd s.mbx.pairs n fun q => { q with runDown := true, enable := false } } := by
  simp [queueCfgWrite, free, up, active, enable]

end

theorem execQueueRundownDone_done (down : (get (s.at t).mbx.pairs n).runDown = true)
    (ended : ∀ c ∈ (s.at t).mbx.cmds, c.line ≠ n) : execQueueRundownDone t n s = .next (rundownDone n (s.at t)) := by
  unfold execQueueRundownDone
  refine if_pos ?_
  rw [down, Bool.true_and, List.all_eq_true]
  exact fun c waits => bne_iff_ne.2 (ended c waits)

/-! ### Doorbells (R74, R75) -/

section
variable {port : Nat} (active : (get s.mbx.pairs n).active = true) (own : (get s.mbx.pairs n).port = port)
include active own

theorem sqDoorbell_credited (credit : ¬(get s.mbx.pairs n).depth < (tail + 65536 - (get s.mbx.pairs n).sqHead) % 65536) :
    sqDoorbell n port tail s = { s with mbx.pairs := upd s.mbx.pairs n fun q => { q with sqTail := tail % 65536 } } := by
  unfold sqDoorbell
  exact (if_neg (by simp [active, own])).trans (if_neg credit)

/-- With no completion waiting for a slot, a head within the tail moves the head and writes no memory. -/
theorem cqDoorbell_moved (pair : n < 16)
    (within : ¬cqUsed (get s.mbx.pairs n) < (head + 65536 - (get s.mbx.pairs n).cqHead) % 65536)
    (unowed : (get s.mbx.pairs n).owed = []) :
    (get (cqDoorbell n port head s).mbx.pairs n).cqHead = head % 65536 ∧ (cqDoorbell n port head s).mem = s.mem := by
  simp [cqDoorbell, active, own, within, unowed, flushOwed, get_upd_same, pair]

end

/-! ### Consumption (R33, R83) -/

section
variable (next : nextLine (s.at t) = some l)
include next

theorem execEntryConsume_clean : execEntryConsume t 0 host s = .next (takeEntry l host false (s.at t)) := by
  simp only [execEntryConsume, next]
  rfl

theorem execEntryConsume_corrected :
    execEntryConsume t 1 host s = .next (eccCorrected (takeEntry l host false (s.at t))) := by
  simp only [execEntryConsume, next]
  rfl

theorem execEntryConsume_poisoned :
    execEntryConsume t 2 host s = .next (raiseError errDoubleQ l (takeEntry l host true (s.at t))) := by
  simp only [execEntryConsume, next]
  rfl

end

/-! ### Moderation (R88) -/

theorem execMbxIrqWrite_inRange (count : ¬bits word 0 8 < 1) (low : ¬bits word 8 12 < 1) (high : ¬4000 < bits word 8 12) :
    execMbxIrqWrite t n word s = .next (notifyVectors (s.at t) (cqModerate n { s.at t with
      mbx.pairs := upd (s.at t).mbx.pairs n fun q =>
        { q with irqCount := bits word 0 8, irqTimer := bits word 8 12, irqVector := bits word 20 5,
                 irqTarget := bit word 25, irqEnable := bit word 31 } })) := by
  unfold execMbxIrqWrite irqWrite
  refine congrArg _ (if_neg ?_)
  rw [decide_eq_false count, decide_eq_false low, decide_eq_false high]
  decide

theorem execCqIrqTimer_on (on : (get (s.at t).mbx.pairs n).timerOn = true) :
    execCqIrqTimer t n s = .next (cqSignal n (s.at t)) := by
  unfold execCqIrqTimer
  exact if_pos on

end

/-- Settles O14: each clause is the case of its row that the guards leave. -/
theorem queueRowsComplete : Obligations.QueueRowsComplete := by
  intro t n word v spi b host s u p
  refine ⟨?create, ?disable, ?rundownDone, ?submit, ?complete, ?consume, ?corrected, ?poisoned, ?moderation, ?timer, ?sleep⟩
  case create => exact fun free up idle enable passes => congrArg _ (queueCfgWrite_create free up idle enable passes)
  case disable => exact fun free up active => congrArg _ (queueCfgWrite_disable free up active rfl)
  case rundownDone => exact execQueueRundownDone_done
  case submit => exact fun active own credit => congrArg _ (sqDoorbell_credited active own credit)
  case complete => exact fun pair active own within unowed => ⟨_, rfl, cqDoorbell_moved active own pair within unowed⟩
  case consume => exact fun _ => execEntryConsume_clean
  case corrected => exact fun _ => execEntryConsume_corrected
  case poisoned => exact fun _ => execEntryConsume_poisoned
  case moderation => exact execMbxIrqWrite_inRange
  case timer => exact execCqIrqTimer_on
  case sleep => rfl

end Sys2Proof.Machine
end

section
/-! Settles O55 and O15: management frames by the checks of R92, the PCIe link, the v1 mailbox and the SPI port. -/

namespace Sys2Proof.Machine

/-! ### Management frames (R91, R92) -/

section
variable {f : MgmtFrame} {len : Nat} {body : State → State} {s : State}

theorem onFrame_foreign (foreign : frameTaken f len s = false) : onFrame f len body s = s := by
  unfold onFrame
  exact if_pos (by rw [foreign]; rfl)

theorem onFrame_bad (taken : frameTaken f len s = true) (bad : frameBad f s = true) : onFrame f len body s = dropFrame f s := by
  unfold onFrame
  exact (if_neg (by rw [taken]; decide)).trans (if_pos bad)

theorem onFrame_good (taken : frameTaken f len s = true) (good : frameBad f s = false) :
    onFrame f len body s = body (acceptFrame f s) := by
  unfold onFrame
  exact (if_neg (by rw [taken]; decide)).trans (if_neg (by rw [good]; decide))

/-- The cases of R92. -/
theorem frameBad_of (bad : f.tagOk = false ∨ f.epoch ≠ s.mbx.epoch ∨ f.fseq ≤ get s.mbx.fseqIn (f.port - 3)) :
    frameBad f s = true := by
  unfold frameBad
  rcases bad with tag | epoch | stale
  · simp [tag]
  · simp [epoch]
  · simp [stale]

theorem dropFrame_mbx : (dropFrame f s).mbx =
    { s.mbx with frameAuth := true, dropCnt := (s.mbx.dropCnt + 1) % 65536, errPair := f.pair % 16 } :=
  fireEvent_mbx ..

/-- A dropped frame changes the mailboxes and the events alone. -/
theorem dropFrame_frame : { dropFrame f s with mbx := s.mbx, evg := s.evg, out := s.out } = s := by
  simp [dropFrame, mbxErr]

end

/-- The outcome is that of a management frame with `len` body bytes in state `u`, whatever a good one does. -/
def ReceivesFrame (f : MgmtFrame) (len : Nat) (u : State) (o : Host.Outcome State Fault Refusal) : Prop :=
  ∃ body, o = .next (onFrame f len body u)

/-- Settles O55: each row receives its frame by `onFrame`, which drops what R92 names before the row acts. -/
theorem badFramesAreDropped : Obligations.BadFramesAreDropped := by
  intro t first head ofs len f entries data s i u row bad
  have received : ReceivesFrame f len u (exec i s) := by
    simp only [List.mem_cons, Prod.mk.injEq, List.not_mem_nil, or_false] at row
    rcases row with ⟨rfl, rfl⟩ | ⟨rfl, rfl⟩ | ⟨rfl, rfl⟩
    all_goals exact ⟨_, rfl⟩
  obtain ⟨body, received⟩ := received
  rw [received]
  exact ⟨fun foreign => congrArg _ (onFrame_foreign foreign),
    fun taken => ⟨_, congrArg _ (onFrame_bad taken (frameBad_of bad)), dropFrame_frame, dropFrame_mbx⟩⟩

section
variable {t n mac addr word head ofs first : Nat} {f : MgmtFrame} {entries : List (List Nat)} {data words : List Nat} {s : State}

theorem foreignPair_own (active : (get s.mbx.pairs f.pair).active = true) (port : (get s.mbx.pairs f.pair).port = f.port) :
    foreignPair f s = false := by
  rw [foreignPair, active, port, bne_self_eq_false]
  rfl

section
variable (good : frameBad f (s.at t) = false)
include good

theorem execMgmtHostCredit_good (taken : frameTaken f 4 (s.at t) = true) : execMgmtHostCredit t f head s =
    .next (cqDoorbell f.pair f.port head (acceptFrame f (s.at t))) :=
  congrArg _ (onFrame_good taken good)

variable (active : (get (acceptFrame f (s.at t)).mbx.pairs f.pair).active = true)
  (port : (get (acceptFrame f (s.at t)).mbx.pairs f.pair).port = f.port)
include active port

theorem execMgmtSubmit_good (taken : frameTaken f (4 + 64 * entries.length) (s.at t) = true)
    (window : ¬32768 ≤ ((get (acceptFrame f (s.at t)).mbx.pairs f.pair).sqTail + 65536 - first) % 65536) :
    execMgmtSubmit t f first entries s =
      .next (sendCredit f.pair (submitEntries f.pair entries first (acceptFrame f (s.at t)))) := by
  unfold execMgmtSubmit
  rw [onFrame_good taken good, foreignPair_own active port]
  exact congrArg _ ((if_neg Bool.false_ne_true).trans (if_neg window))

theorem execMgmtData_good (taken : frameTaken f (4 + data.length) (s.at t) = true)
    (low : (get (acceptFrame f (s.at t)).mbx.pairs f.pair).firstQuantum * 0x10000 ≤ ofs)
    (high : ofs + data.length ≤ ((get (acceptFrame f (s.at t)).mbx.pairs f.pair).firstQuantum +
      (get (acceptFrame f (s.at t)).mbx.pairs f.pair).quantaHeld) * 0x10000) :
    execMgmtData t f ofs data s =
      .next { acceptFrame f (s.at t) with mem := memWriteBytes (s.at t).mem (0x20800000 + ofs) data } := by
  unfold execMgmtData
  rw [onFrame_good taken good, foreignPair_own active port]
  exact congrArg _ ((if_neg Bool.false_ne_true).trans (if_pos ⟨low, high⟩))

end

section
variable (active : (get (s.at t).mbx.pairs n).active = true) (port : 3 ≤ (get (s.at t).mbx.pairs n).port)
include active port

theorem execMgmtCreditTimer_managed : execMgmtCreditTimer t n s = .next (sendCredit n (s.at t)) := by
  unfold execMgmtCreditTimer
  exact if_pos (by rw [active, decide_eq_true port]; rfl)

theorem execMgmtResendTimer_managed : execMgmtResendTimer t n s =
    .next ((List.range (cqUsed (get (s.at t).mbx.pairs n))).foldl
      (fun a k => sendComplete n (((get (s.at t).mbx.pairs n).cqHead + k) % 65536) a) (s.at t)) := by
  unfold execMgmtResendTimer
  exact if_pos (by rw [active, decide_eq_true port]; rfl)

end

/-! ### ARP and echo (R90) -/

theorem execArpRequest_own (own : addr = macAddr (s.at t) mac) :
    execArpRequest t mac addr s = .next (emit (s.at t) .arpReply mac [addr]) := by
  unfold execArpRequest
  exact if_pos (beq_iff_eq.2 own)

theorem execIcmpEcho_own (own : addr = macAddr (s.at t) mac) :
    execIcmpEcho t mac addr data s = .next (emit (s.at t) .icmpReply mac (data.map Int.ofNat)) := by
  unfold execIcmpEcho
  exact if_pos (beq_iff_eq.2 own)

/-! ### The v1 mailbox and the SPI port (R87, R95, R96) -/

theorem replayPriorV1_none {line : Nat} (empty : s.mbx.prior = []) : replayPriorV1 line s = s := by
  have same : { s with mbx.prior := [] } = s := by rw [← empty]
  unfold replayPriorV1
  rw [empty]
  exact same

/-- With nothing recorded from before a reset, an idle v1 mailbox takes its entry at once, outside the round robin (R87, R96). -/
theorem v1Go_taken (go : (getV1 s 16).go = false) (done : (getV1 s 16).done = false)
    (final : (getV1 s 16).finalPending = false) (prior : s.mbx.prior = []) (room : s.mbx.cmds.length < 256)
    (served : lineServed (setV1 s 16 fun w => { w with go := true }) 16 = true) :
    v1Go 16 s = { takeEntry 16 [] false (setV1 s 16 fun w => { w with go := true }) with mbx.lastLine := s.mbx.lastLine } := by
  have replayed : replayPriorV1 16 (setV1 s 16 fun w => { w with go := true }) = setV1 s 16 fun w => { w with go := true } :=
    replayPriorV1_none prior
  unfold v1Go
  refine (if_neg (by rw [go, done, final]; decide)).trans ?_
  rw [replayed]
  refine if_pos ?_
  rw [served, Bool.and_true]
  exact decide_eq_true room

theorem v1DoneClear_unheld (unheld : (getV1 s 17).held = []) :
    v1DoneClear 17 s = setV1 s 17 fun w => { w with done := false } := by
  unfold v1DoneClear
  rw [unheld]

theorem execSpiWrite_sound : execSpiWrite t addr words
    (crc8 ([0x02, addr / 256 % 256, addr % 256, words.length] ++ (words.map (leBytes 4)).flatten)) s =
    .next (spiWords words addr { s.at t with mbx.spiCrcBad := false }) := by
  unfold execSpiWrite
  exact if_pos rfl

end

/-- Settles O15: each clause is the case of its row that the frame's checks and the row's guards leave. -/
theorem portRowsComplete : Obligations.PortRowsComplete := by
  intro t n mac addr word head ofs first f entries data words s u p q
  refine ⟨?linkDown, ?refclk, ?hotReset, ?submit, ?hostCredit, ?data, ?badCredit, ?creditTimer, ?resendTimer, ?arp, ?echo, ?go,
    ?doneClear, ?write, ?read, ?spi⟩
  case linkDown => rfl
  case refclk => rfl
  case hotReset => rfl
  case submit => exact fun taken good active port window => execMgmtSubmit_good good active port taken window
  case hostCredit => exact fun taken good => execMgmtHostCredit_good good taken
  case data => exact fun taken good active port low high => execMgmtData_good good active port taken low high
  case badCredit => exact fun taken bad => congrArg _ (onFrame_bad taken bad)
  case creditTimer => exact execMgmtCreditTimer_managed
  case resendTimer => exact execMgmtResendTimer_managed
  case arp => exact execArpRequest_own
  case echo => exact execIcmpEcho_own
  case go => exact fun go done final prior room served => congrArg _ (v1Go_taken go done final prior room served)
  case doneClear => exact fun unheld => congrArg _ (v1DoneClear_unheld unheld)
  case write => rfl
  case read => rfl
  case spi => exact execSpiWrite_sound

end Sys2Proof.Machine
end

section
/-! Settles O53, O16 and O17: claims and ends of interrupt by the stack of their target, and what the other rows and the commands
of the event gatherer do in the case their guards leave. -/

namespace Sys2Proof.Machine

theorem get_updAll {α : Type} [Inhabited α] {k : Nat} (v : Vector α k) (n : Nat) (f : Nat → α → α) (h : n < k) :
    get (updAll v f) n = f n (get v n) := by
  simp [get, updAll, h]

section
variable {t tgt n k line seq : Nat} {m : Master} {prev : Option Nat} {rest : List (Nat × Option Nat)} {s : State} {c : Cmd}

/-! ### Errors of the gatherer and what a source's configuration rests on -/

@[simp] theorem evgError_tgt : (evgError s).evg.tgt = s.evg.tgt := pendRaw_tgt s 25
@[simp] theorem evgError_eoiBad : (evgError s).evg.eoiBad = s.evg.eoiBad := pendRaw_eoiBad s 25

/-- An error bit of EVG_STAT touches no source but EVG_ERR, which it fires. -/
theorem evgError_src_other (other : k ≠ 25) : get (evgError s).evg.src k = get s.evg.src k := by
  rw [evgError, pendRaw_src, get_upd_other _ _ other.symm]

/-- STORM_EXP stands in memory alone. -/
theorem srcStormExp_of_mem {b : State} (mem : b.mem = s.mem) : srcStormExp b n = srcStormExp s n := by
  rw [srcStormExp, srcStormExp, rdf, rdf, rdw, rdw, mem]

/-- A master that may write the claim registers of a target is no host beyond the host targets (R113). -/
theorem notHostDenied_of_claimAllowed (allowed : claimAllowed m tgt = true) : ¬(m == .pcie && decide (2 ≤ tgt)) = true := by
  intro denied
  obtain ⟨host, beyond⟩ := Bool.and_eq_true_iff.1 denied
  obtain rfl := beq_iff_eq.1 host
  exact absurd (of_decide_eq_true beyond) (Nat.not_le.2 (of_decide_eq_true allowed))

/-! ### Ends of interrupt (R108, R110) -/

/-- The state in which an accepted EOI finds a level source's input: ACTIVE cleared, the stack popped, the messages sent. -/
def eoiPopped (tgt n : Nat) (prev : Option Nat) (rest : List (Nat × Option Nat)) (s : State) : State :=
  let popped := setTgt (setSrc s n fun x => { x with active := false }) tgt fun x =>
    { x with stack := rest, run := prev, eoiBad := false }
  if tgt < 2 then notifyVectors s popped else popped

/-- A level source whose input is asserted fires as the EOI is accepted. -/
theorem acceptEoi_eq : acceptEoi tgt n prev rest s = if (srcLevel s n && (get s.evg.src n).input) = true then
    fireEvent n (eoiPopped tgt n prev rest s) else eoiPopped tgt n prev rest s := rfl

theorem notifyVectors_src (b s : State) : (notifyVectors b s).evg.src = s.evg.src := (notifyVectors_frame b s).1
theorem notifyVectors_tgt (b s : State) : (notifyVectors b s).evg.tgt = s.evg.tgt := (notifyVectors_frame b s).2.1
theorem notifyVectors_mem (b s : State) : (notifyVectors b s).mem = s.mem := (notifyVectors_frame b s).2.2

theorem eoiPopped_src :
    (eoiPopped tgt n prev rest s).evg.src = upd s.evg.src n fun x => { x with active := false } := by
  unfold eoiPopped
  split
  · rw [notifyVectors_src]
    rfl
  · rfl

theorem eoiPopped_tgt : (eoiPopped tgt n prev rest s).evg.tgt =
    upd s.evg.tgt tgt fun x => { x with stack := rest, run := prev, eoiBad := false } := by
  unfold eoiPopped
  split
  · rw [notifyVectors_tgt]
    rfl
  · rfl

theorem eoiPopped_mem : (eoiPopped tgt n prev rest s).mem = s.mem := by
  unfold eoiPopped
  split
  · rw [notifyVectors_mem]
    rfl
  · rfl

theorem acceptEoi_tgt : (acceptEoi tgt n prev rest s).evg.tgt =
    upd s.evg.tgt tgt fun x => { x with stack := rest, run := prev, eoiBad := false } := by
  rw [acceptEoi_eq]
  split
  · rw [fireEvent_tgt, eoiPopped_tgt]
  · exact eoiPopped_tgt

theorem acceptEoi_inactive (source : n < 512) : (get (acceptEoi tgt n prev rest s).evg.src n).active = false := by
  have popped : (get (eoiPopped tgt n prev rest s).evg.src n).active = false := by rw [eoiPopped_src, get_upd_same _ _ _ source]
  rw [acceptEoi_eq]
  split
  · rw [fireEvent_active source, popped]
  · exact popped

/-- A level source without a storm limit whose input its EOI finds asserted is PENDING again (R108). -/
theorem acceptEoi_pending (source : n < 512) (level : srcLevel s n = true) (input : (get s.evg.src n).input = true)
    (calm : (get s.evg.src n).stormed = false) (unlimited : srcStormExp s n = 0) :
    (get (acceptEoi tgt n prev rest s).evg.src n).pending = true := by
  rw [acceptEoi_eq, if_pos (by rw [level, input]; rfl)]
  refine (fireEvent_free source ?_ ?_).1
  · rw [eoiPopped_src, get_upd_same _ _ _ source]
    exact calm
  · rw [srcStormExp_of_mem eoiPopped_mem, unlimited]

/-- At a core's target the EOI of an edge source pops the stack and does no more. -/
theorem acceptEoi_edge (core : ¬tgt < 2) (edge : srcLevel s n = false) : acceptEoi tgt n prev rest s =
    setTgt (setSrc s n fun x => { x with active := false }) tgt fun x =>
      { x with stack := rest, run := prev, eoiBad := false } := by
  rw [acceptEoi_eq, if_neg (by rw [edge]; exact Bool.false_ne_true)]
  exact if_neg core

section
variable (allowed : claimAllowed m tgt = true)
include allowed

theorem eoiWrite_latest (latest : (get s.evg.tgt tgt).stack = (n, prev) :: rest) :
    eoiWrite m tgt n s = acceptEoi tgt n prev rest s := by
  unfold eoiWrite
  refine (if_neg (notHostDenied_of_claimAllowed allowed)).trans ?_
  rw [latest]
  exact if_pos (by rw [allowed, beq_self_eq_true]; rfl)

theorem eoiWrite_other (other : ∀ prev rest, (get s.evg.tgt tgt).stack ≠ (n, prev) :: rest) :
    eoiWrite m tgt n s = refuseEoi tgt s := by
  unfold eoiWrite
  refine (if_neg (notHostDenied_of_claimAllowed allowed)).trans ?_
  split
  next a prev rest latest =>
    have differs : a ≠ n := by rintro rfl; exact other prev rest latest
    exact if_neg (by rw [beq_false_of_ne differs]; exact Bool.false_ne_true)
  next => rfl

end

/-- A refused EOI sets EOI_BAD of the target and touches no stack and no running priority (R108). -/
theorem refuseEoi_tgt : (refuseEoi tgt s).evg.tgt = upd s.evg.tgt tgt fun x => { x with eoiBad := true } := by
  rw [refuseEoi, evgError_tgt]
  rfl

theorem refuseEoi_eoiBad : (refuseEoi tgt s).evg.eoiBad = true := by
  rw [refuseEoi, evgError_eoiBad]

theorem refuseEoi_stack (k : Nat) : (get (refuseEoi tgt s).evg.tgt k).stack = (get s.evg.tgt k).stack ∧
    (get (refuseEoi tgt s).evg.tgt k).run = (get s.evg.tgt k).run := by
  rw [refuseEoi_tgt, get_upd]
  split <;> exact ⟨rfl, rfl⟩

theorem refuseEoi_src_other (other : k ≠ 25) : get (refuseEoi tgt s).evg.src k = get s.evg.src k :=
  evgError_src_other other

/-! ### Claims (R106, R107, R112) -/

/-- A source that is eligible and has not fired in the cycle of the claim is claimed. -/
theorem claimable_of_eligible (fits : eligible s tgt n = true) (quiet : firedNow s n = false) :
    claimable s tgt n = true := by
  simpa [claimable, pendingAtClaim, quiet, eligible] using fits

theorem claimWrite_eligible (allowed : claimAllowed m tgt = true) (fits : eligible s tgt n = true)
    (quiet : firedNow s n = false) : claimWrite m tgt n s = acceptClaim tgt n s := by
  unfold claimWrite
  rw [if_neg (notHostDenied_of_claimAllowed allowed), if_neg (by rw [allowed]; decide),
    if_pos (claimable_of_eligible fits quiet)]

theorem acceptClaim_src (source : n < 512) (quiet : firedNow s n = false) :
    get (acceptClaim tgt n s).evg.src n = { get s.evg.src n with pending := false, was := false, active := true } := by
  simp [acceptClaim, setTgt, setSrc, quiet, get_upd_same _ _ _ source]

theorem acceptClaim_tgt (target : tgt < 8) : get (acceptClaim tgt n s).evg.tgt tgt = { get s.evg.tgt tgt with
    stack := (n, (get s.evg.tgt tgt).run) :: (get s.evg.tgt tgt).stack, run := some (srcPrio s n), claimRes := 0 } := by
  simp [acceptClaim, setTgt, setSrc, get_upd_same _ _ _ target]

/-! ### Fires, the storm window, configuration and wake latches (R105, R113, R115, R117) -/

section
variable {v : Bool} (named : reservedSrc n = false)
include named

theorem execEventSourceFire_level (level : srcLevel (s.at t) n = true) :
    execEventSourceFire t n v s = .next (setLevel n v (s.at t)) := by
  unfold execEventSourceFire
  exact (if_neg (by rw [named]; exact Bool.false_ne_true)).trans (if_pos level)

theorem execEventSourceFire_edge (edge : srcLevel (s.at t) n = false) :
    execEventSourceFire t n v s = .next (fireEvent n (s.at t)) := by
  unfold execEventSourceFire
  exact (if_neg (by rw [named]; exact Bool.false_ne_true)).trans (if_neg (by rw [edge]; exact Bool.false_ne_true))

theorem masterCfgWrite_inactive {word : Nat} (inactive : (get s.evg.src n).active = false) : masterCfgWrite .sup n word s =
    wakeCore s n (notifySource s (wrw s (srcCfgAddr n) (srcCfgValue (rdw s (srcCfgAddr n)) n word)) n) := by
  unfold masterCfgWrite
  exact (if_neg (by rw [named]; exact Bool.false_ne_true)).trans (if_neg (by rw [inactive]; exact Bool.false_ne_true))

end

/-- In M11 the latch of a source whose WAKE is set catches the edge, for the next entry to M3. -/
theorem execWakeLatchEdge_frozen {stopped masked : Bool} (latch : hasLatch n = true)
    (wake : rdb (s.at t) (srcCfgAddr n) 14 = true) (frozen : (s.at t).sys.mode = .m11) :
    execWakeLatchEdge t n stopped masked s = .next (setSrc (s.at t) n fun y => { y with latch := true }) := by
  unfold execWakeLatchEdge
  refine (if_neg (by rw [latch, wake]; decide)).trans (if_pos ?_)
  rw [frozen]
  rfl

/-! ### Commands (R509) -/

theorem execEvgSrcSet_inRange (starts : Starts line seq 0x1202 (s.at t) c) (allowed : srcSetIllegal c (s.at t) = false)
    (source : ¬512 ≤ c.param 8 2) (prio : ¬16 ≤ c.param 10 1) (enable : ¬2 ≤ c.param 11 1) (target : ¬2 ≤ c.param 12 1)
    (deliv : ¬2 ≤ c.param 13 1) (vec : ¬16 ≤ c.param 14 1) : execEvgSrcSet t line seq s =
    .next (done c [] (srcCfgWrite (c.param 8 2) (packBits [(0, c.param 10 1), (4, c.param 12 1), (7, c.param 11 1),
      (9, c.param 13 1), (10, c.param 14 1), (14, bits (rdw (s.at t) (srcCfgAddr (c.param 8 2))) 14 5)]) (s.at t))) := by
  unfold execEvgSrcSet
  rw [runCmd_starts starts allowed]
  simp only [source, prio, enable, target, deliv, vec, if_false]

theorem execEvgStormRelease_inRange (starts : Starts line seq 0x1203 (s.at t) c) (allowed : srcSetIllegal c (s.at t) = false)
    (source : ¬512 ≤ c.param 8 2) :
    execEvgStormRelease t line seq s = .next (done c [] (releaseStorm (c.param 8 2) (s.at t))) :=
  congrArg _ ((runCmd_starts starts allowed).trans (if_neg source))

/-- The first EVG_WAIT, with its range and its time within bounds, is accepted and waits. -/
theorem execEvgWait_first (starts : Starts line seq 0x1204 (s.at t) c) (idle : (s.at t).evg.waits = [])
    (first : ¬512 ≤ c.param 8 2) (nonempty : ¬c.param 10 1 < 1) (few : ¬64 < c.param 10 1)
    (within : ¬512 < c.param 8 2 + c.param 10 1) (time : ¬c.param 12 4 < 1) (hour : ¬3600000 < c.param 12 4) :
    execEvgWait t line seq s = .next (accept c [] { s.at t with evg.waits :=
      [{ line := c.line, seq := c.seq, port := c.port, first := c.param 8 2, count := c.param 10 1 }] }) := by
  unfold execEvgWait
  rw [runCmd_starts starts (by rw [idle]; rfl)]
  simp only [idle, first, nonempty, few, within, time, hour, decide_false, Bool.or_self, Bool.false_eq_true, if_false, List.nil_append]

/-- The one EVG_WAIT under way ends with its mask once a source of its range is pending or its time has passed. -/
theorem execEvgWaitEnd_only {w : EvWait} {timeout : Bool} (only : (s.at t).evg.waits = [w]) (line_eq : w.line = line)
    (seq_eq : w.seq = seq) (due : pendMask (s.at t) w.first w.count ≠ 0 ∨ timeout = true) :
    execEvgWaitEnd t line seq timeout s = .next (finishAccepted line seq
      { result := leBytes 8 (pendMask (s.at t) w.first w.count) } { s.at t with evg.waits := [] }) := by
  have own : (w.line == line && w.seq == seq) = true := by rw [line_eq, seq_eq, beq_self_eq_true, beq_self_eq_true]; rfl
  have ends : (pendMask (s.at t) w.first w.count != 0 || timeout) = true :=
    Bool.or_eq_true_iff.2 (due.imp_left bne_iff_ne.2)
  simp only [execEvgWaitEnd, only, List.find?_cons_of_pos (p := fun x : EvWait => x.line == line && x.seq == seq) own, ends,
    List.filter_cons, own, Bool.not_true, Bool.false_eq_true, if_true, if_false, List.filter_nil]

end

/-- Settles O53: the handler's write is the accepted EOI of the latest claim, or refused whatever else stands on the stack. -/
theorem endOfInterruptFollowsTheStack : Obligations.EndOfInterruptFollowsTheStack := by
  intro t tgt n m s u T x allowed target source
  refine ⟨fun prev rest latest => ⟨_, congrArg Host.Outcome.next (eoiWrite_latest allowed latest), ?_⟩,
    fun other => ⟨_, congrArg Host.Outcome.next (eoiWrite_other allowed other), ?_⟩⟩
  · refine ⟨acceptEoi_inactive source, ?stack, ?run, acceptEoi_pending source⟩
    all_goals rw [acceptEoi_tgt, get_upd_same _ _ _ target]
  · refine ⟨?_, refuseEoi_eoiBad, refuseEoi_stack, fun k => refuseEoi_src_other⟩
    rw [refuseEoi_tgt, get_upd_same _ _ _ target]

/-- Settles O16: each clause is the case of its row that the guards leave. -/
theorem eventRowsComplete : Obligations.EventRowsComplete := by
  intro t src tgt k v s u x
  refine ⟨?level, ?edge, ?window, ?claim, ?eoi, ?setpend, ?clrpend, ?stormed, ?config, ?latch⟩
  case level => exact execEventSourceFire_level
  case edge => exact execEventSourceFire_edge
  case window => exact ⟨_, rfl, fun n source => by
    rw [get_updAll _ _ _ source]
    exact ⟨rfl, rfl⟩⟩
  case claim =>
    intro source target fits quiet
    refine ⟨_, congrArg Host.Outcome.next (claimWrite_eligible (m := .pcie) (decide_eq_true target) fits quiet), ?_⟩
    rw [acceptClaim_src source quiet, acceptClaim_tgt (by omega)]
    exact ⟨rfl, rfl, rfl, rfl⟩
  case eoi =>
    intro prev rest target latest edge
    have allowed : claimAllowed .sup tgt = true := by rcases target with rfl | rfl <;> rfl
    exact congrArg _ ((eoiWrite_latest allowed latest).trans (acceptEoi_edge (by omega) edge))
  case setpend => exact fun _ => rfl
  case clrpend => exact fun _ => rfl
  case stormed => exact fun _ => rfl
  case config => exact fun _ named inactive => congrArg _ (masterCfgWrite_inactive named inactive)
  case latch => exact execWakeLatchEdge_frozen

/-- Settles O17: each clause is the case of its command that the checks before its effect leave. -/
theorem eventCommandsComplete : Obligations.EventCommandsComplete := by
  intro t line seq v s c u n
  refine ⟨?status, ?srcSet, ?release, ?wait, ?waitEnd⟩
  case status => exact fun starts => congrArg _ (runCmd_free starts)
  case srcSet => exact execEvgSrcSet_inRange
  case release => exact execEvgStormRelease_inRange
  case wait => exact execEvgWait_first
  case waitEnd => exact fun _ => execEvgWaitEnd_only

end Sys2Proof.Machine
end

section
/-! Settles O20: filling keeps within its budget, and so does every step of a pass that starts from commitments which fit. -/

namespace Sys2Proof.Machine

theorem sumList_eq_sum (l : List Nat) : sumList l = l.sum := List.sum_eq_foldl.symm

theorem sum_map_filter_add {α : Type} (p : α → Bool) (f : α → Nat) (l : List α) :
    ((l.filter p).map f).sum + ((l.filter fun x => !p x).map f).sum = (l.map f).sum := by
  rw [← List.sum_append, ← List.map_append]
  exact ((List.filter_append_perm p l).map f).sum_eq

/-! ### The water level (R156): pairs are a request and its weight -/

/-- What a child gets at the level B/W: its request, or its weight's part where that is less. -/
def levelShare (lv p : Nat × Nat) : Nat := min p.1 (p.2 * lv.1 / lv.2)

/-- A child whose request fits under the level B/W. -/
def saturated (b w : Nat) (p : Nat × Nat) : Bool := decide (p.1 * w ≤ b * p.2)

theorem levelShare_le (lv p : Nat × Nat) : levelShare lv p ≤ p.1 := Nat.min_le_left ..

theorem levelShare_weightless {p : Nat × Nat} (lv : Nat × Nat) (weight : p.2 = 0) : levelShare lv p = 0 := by
  rw [levelShare, weight, Nat.zero_mul, Nat.zero_div, Nat.min_zero]

section
variable {items : List (Nat × Nat)} {b w : Nat}

/-- Amounts no higher than their weights' parts of the budget stay within it. -/
theorem sum_le_of_proportional {f : Nat × Nat → Nat} (pos : 0 < w) (part : ∀ p ∈ items, f p * w ≤ b * p.2)
    (weights : (items.map (·.2)).sum ≤ w) : (items.map f).sum ≤ b := by
  refine Nat.le_of_mul_le_mul_right ?_ pos
  calc (items.map f).sum * w = (items.map fun p => f p * w).sum := (List.sum_map_mul_right ..).symm
    _ ≤ (items.map fun p => b * p.2).sum := List.sum_le_sum part
    _ = b * (items.map (·.2)).sum := List.sum_map_mul_left ..
    _ ≤ b * w := Nat.mul_le_mul_left b weights

theorem levelShare_mul_le (p : Nat × Nat) : levelShare (b, w) p * w ≤ b * p.2 :=
  calc levelShare (b, w) p * w ≤ p.2 * b / w * w := Nat.mul_le_mul_right w (Nat.min_le_right ..)
    _ ≤ p.2 * b := Nat.div_mul_le_self ..
    _ = b * p.2 := Nat.mul_comm ..

theorem sum_saturated_le (pos : 0 < w) (weights : (items.map (·.2)).sum ≤ w) :
    ((items.filter (saturated b w)).map (·.1)).sum ≤ b :=
  sum_le_of_proportional pos (fun _ h => of_decide_eq_true (List.mem_filter.1 h).2)
    ((Nat.le.intro (sum_map_filter_add (saturated b w) _ items)).trans weights)

variable {n : Nat} (weights : (items.map (·.2)).sum = w)
include weights

theorem waterLevel_succ_none (pos : w ≠ 0) (unsaturated : items.filter (saturated b w) = []) :
    waterLevel (n + 1) items b = (b, w) := by
  subst weights
  rw [waterLevel, sumList_eq_sum]
  exact (if_neg pos).trans (if_pos (List.isEmpty_iff.2 unsaturated))

theorem waterLevel_succ_some (pos : w ≠ 0) (sated : items.filter (saturated b w) ≠ []) :
    waterLevel (n + 1) items b = waterLevel n (items.filter fun p => !saturated b w p)
      (b - ((items.filter (saturated b w)).map (·.1)).sum) := by
  subst weights
  rw [waterLevel, sumList_eq_sum, ← sumList_eq_sum (List.map _ (List.filter _ _))]
  exact (if_neg pos).trans (if_neg (mt List.isEmpty_iff.1 sated))

end

/-- Shares at the water level stay within the budget: the saturated children take no more than their requests, which come off it,
and where none is saturated the rest divide it by weight. -/
theorem sum_levelShare_waterLevel_le (n : Nat) (items : List (Nat × Nat)) (b : Nat) (pos : ∀ p ∈ items, 0 < p.2)
    (fuel : items.length ≤ n) : (items.map (levelShare (waterLevel n items b))).sum ≤ b := by
  induction n generalizing items b with
  | zero =>
    rw [List.length_eq_zero_iff.1 (Nat.le_zero.1 fuel)]
    exact Nat.zero_le b
  | succ n ih =>
    by_cases empty : items = []
    · rw [empty]
      exact Nat.zero_le b
    obtain ⟨w, weights⟩ : ∃ w, (items.map (·.2)).sum = w := ⟨_, rfl⟩
    have wpos : 0 < w := weights ▸ List.sum_pos _ (List.forall_mem_map.2 pos) (List.map_eq_nil_iff.not.2 empty)
    by_cases unsaturated : items.filter (saturated b w) = []
    · rw [waterLevel_succ_none weights wpos.ne' unsaturated]
      exact sum_le_of_proportional wpos (fun p _ => levelShare_mul_le p) weights.le
    · rw [waterLevel_succ_some weights wpos.ne' unsaturated, ← sum_map_filter_add (saturated b w)]
      have whole := (List.filter_append_perm (saturated b w) items).length_eq
      rw [List.length_append] at whole
      have gone := List.length_pos_iff.2 unsaturated
      have left := ih (items.filter fun p => !saturated b w p) (b - ((items.filter (saturated b w)).map (·.1)).sum)
        (fun p h => pos p (List.mem_of_mem_filter h)) (by omega)
      have requests := sum_saturated_le (b := b) wpos weights.le
      exact (Nat.add_le_add (List.sum_le_sum fun p _ => levelShare_le _ p) left).trans (Nat.add_sub_cancel' requests).le

/-! ### Filling (R156) -/

theorem sum_spread_le (rest : Nat) (t : List (Nat × Nat × Nat)) : (spread rest t).sum ≤ (t.map (·.2.2)).sum + rest := by
  induction t generalizing rest with
  | nil => exact Nat.zero_le _
  | cons q t ih =>
    obtain ⟨r, w, x⟩ := q
    rw [spread]
    split
    next gets =>
      have := ih (rest - 1)
      simp only [List.map_cons, List.sum_cons]
      omega
    next =>
      have := ih rest
      simp only [List.map_cons, List.sum_cons]
      omega

/-- Spreading brings no child above its request. -/
theorem spread_within (rest : Nat) {t : List (Nat × Nat × Nat)} (within : ∀ q ∈ t, q.2.2 ≤ q.1) :
    List.Forall₂ (fun g q => g ≤ q.1) (spread rest t) t := by
  induction t generalizing rest with
  | nil => exact .nil
  | cons q t ih =>
    obtain ⟨head, tail⟩ := List.forall_mem_cons.1 within
    rw [spread]
    split
    next gets => exact .cons gets.2.1 (ih _ tail)
    next => exact .cons head (ih _ tail)

/-- Filling where the requests exceed the budget: shares at a level that keeps within it, and the watts that rounding left. -/
theorem fill_short {asks : List (Nat × Nat)} {b : Nat} (short : b < sumList (asks.map (·.1)))
    (weighted : b < sumList (asks.map fun p => if 0 < p.2 then p.1 else 0)) :
    ∃ lv, (asks.map (levelShare lv)).sum ≤ b ∧
      fill asks b = spread (b - (asks.map (levelShare lv)).sum) (asks.map fun p => (p.1, p.2, levelShare lv p)) := by
  refine ⟨waterLevel asks.length (asks.filter (fun p => 0 < p.2)) b, ?_, ?_⟩
  · have shares := sum_levelShare_waterLevel_le asks.length (asks.filter (fun p => 0 < p.2)) b
      (fun p h => of_decide_eq_true (List.mem_filter.1 h).2) (List.length_filter_le ..)
    have weightless : ((asks.filter fun p => !decide (0 < p.2)).map
        (levelShare (waterLevel asks.length (asks.filter (fun p => 0 < p.2)) b))).sum = 0 := by
      refine List.sum_eq_zero (List.forall_mem_map.2 fun p h => levelShare_weightless _ ?_)
      simpa using (List.mem_filter.1 h).2
    rw [← sum_map_filter_add fun p => decide (0 < p.2), weightless]
    exact shares
  · rw [fill, if_neg (Nat.not_le.2 short), if_neg (Nat.not_le.2 weighted), ← sumList_eq_sum]
    change spread _ ((asks.zip (asks.map (levelShare _))).map _) = _
    rw [← List.map_prod_left_eq_zip, List.map_map]
    rfl

theorem sum_fill_le (asks : List (Nat × Nat)) (b : Nat) : (fill asks b).sum ≤ b := by
  by_cases fits : sumList (asks.map (·.1)) ≤ b
  · rw [fill, if_pos fits, ← sumList_eq_sum]
    exact fits
  by_cases weighted : sumList (asks.map fun p => if 0 < p.2 then p.1 else 0) ≤ b
  · rw [fill, if_neg fits, if_pos weighted, ← sumList_eq_sum]
    exact weighted
  obtain ⟨lv, within, filled⟩ := fill_short (Nat.not_le.1 fits) (Nat.not_le.1 weighted)
  have given := sum_spread_le (b - (asks.map (levelShare lv)).sum) (asks.map fun p => (p.1, p.2, levelShare lv p))
  rw [List.map_map] at given
  rw [filled]
  exact given.trans (Nat.add_sub_cancel' within).le

/-- No child is given more than it asks. -/
theorem fill_within (asks : List (Nat × Nat)) (b : Nat) : List.Forall₂ (fun g p => g ≤ p.1) (fill asks b) asks := by
  by_cases fits : sumList (asks.map (·.1)) ≤ b
  · rw [fill, if_pos fits, List.forall₂_map_left_iff, List.forall₂_same]
    exact fun _ _ => le_rfl
  by_cases weighted : sumList (asks.map fun p => if 0 < p.2 then p.1 else 0) ≤ b
  · rw [fill, if_neg fits, if_pos weighted, List.forall₂_map_left_iff, List.forall₂_same]
    intro p _
    split
    · exact le_rfl
    · exact Nat.zero_le _
  obtain ⟨lv, -, filled⟩ := fill_short (Nat.not_le.1 fits) (Nat.not_le.1 weighted)
  have spreads := spread_within (b - (asks.map (levelShare lv)).sum) (t := asks.map fun p => (p.1, p.2, levelShare lv p))
    (List.forall_mem_map.2 fun p _ => levelShare_le lv p)
  rw [filled]
  exact (List.forall₂_map_right_iff (f := fun p : Nat × Nat => (p.1, p.2, levelShare lv p))).1 spreads

theorem length_fill (asks : List (Nat × Nat)) (b : Nat) : (fill asks b).length = asks.length := (fill_within asks b).length_eq

theorem getD_le_of_within {x : List Nat} {asks : List (Nat × Nat)} (within : List.Forall₂ (fun g p => g ≤ p.1) x asks) (k : Nat) :
    x.getD k 0 ≤ (asks.getD k (0, 0)).1 := by
  induction within generalizing k with
  | nil => exact Nat.zero_le _
  | cons head _ ih =>
    cases k with
    | zero => exact head
    | succ k => exact ih k

/-! ### The pass (R128, R129, R131, R155) -/

/-- What a pass commits: the reservations of the fixed children and the grants of the others. -/
def committed (cs : List PassChild) : Nat := sumList (cs.map fun c => c.fixed.getD c.g)

/-- The children at a later step of the pass: the same entries with the same reservations, none with a lower grant. -/
def GrantsGrow (cs ds : List PassChild) : Prop :=
  ∀ (k : Nat) (c : PassChild), cs[k]? = some c → ∃ d, ds[k]? = some d ∧ d.entry = c.entry ∧ d.fixed = c.fixed ∧ c.g ≤ d.g

theorem GrantsGrow.refl (cs : List PassChild) : GrantsGrow cs cs := fun _ c h => ⟨c, h, rfl, rfl, le_rfl⟩

theorem GrantsGrow.trans {cs ds es : List PassChild} (first : GrantsGrow cs ds) (second : GrantsGrow ds es) : GrantsGrow cs es := by
  intro k c h
  obtain ⟨d, hd, entry, fixed, grant⟩ := first k c h
  obtain ⟨e, he, entry', fixed', grant'⟩ := second k d hd
  exact ⟨e, he, entry'.trans entry, fixed'.trans fixed, grant.trans grant'⟩

/-- A child given `x` W in a filling step. -/
def giveChild (step : Nat) (c : PassChild) (x : Nat) : PassChild :=
  { c with g := c.g + x, d := takeFrom c.d x, steps := c.steps.modify step (· + x) }

/-- A filling step gives the children, in order, amounts within what is left, and what is left loses them. -/
theorem passStep_gives (step : Nat) (ask : PassChild → Nat × Nat) (cs : List PassChild) (left : Nat) :
    ∃ x : List Nat, x.length = cs.length ∧ x.sum ≤ left ∧
      passStep step ask (cs, left) = (List.zipWith (giveChild step) cs x, left - x.sum) := by
  refine ⟨fill (cs.map fun c => if c.fixed.isSome then (0, 0) else ask c) left, ?_, sum_fill_le .., ?_⟩
  · rw [length_fill, List.length_map]
  · rw [passStep, sumList_eq_sum, List.map_zip_eq_zipWith]
    rfl

theorem committed_giveChild_le (step : Nat) (cs : List PassChild) (x : List Nat) :
    committed (List.zipWith (giveChild step) cs x) ≤ committed cs + x.sum := by
  simp only [committed, sumList_eq_sum]
  induction cs generalizing x with
  | nil => simp
  | cons c cs ih =>
    cases x with
    | nil => simp
    | cons y x =>
      have one : (giveChild step c y).fixed.getD (giveChild step c y).g ≤ c.fixed.getD c.g + y := by
        unfold giveChild
        cases c.fixed with
        | none => exact le_rfl
        | some _ => exact Nat.le_add_right ..
      have := ih x
      simp only [List.zipWith_cons_cons, List.map_cons, List.sum_cons]
      omega

theorem grantsGrow_giveChild (step : Nat) {cs : List PassChild} {x : List Nat} (length : x.length = cs.length) :
    GrantsGrow cs (List.zipWith (giveChild step) cs x) := by
  intro k c h
  have within : k < x.length := length ▸ (List.getElem?_eq_some_iff.1 h).1
  exact ⟨giveChild step c x[k], List.getElem?_zipWith_eq_some.2 ⟨c, x[k], h, List.getElem?_eq_getElem within, rfl⟩, rfl, rfl,
    Nat.le_add_right ..⟩

/-- What every filling step keeps of the children `cs` and the credit `a`. -/
def WithinCredit (cs : List PassChild) (a : Nat) (p : List PassChild × Nat) : Prop :=
  GrantsGrow cs p.1 ∧ committed p.1 + p.2 ≤ a

theorem WithinCredit.passStep {cs : List PassChild} {a : Nat} {p : List PassChild × Nat} (h : WithinCredit cs a p) (step : Nat)
    (ask : PassChild → Nat × Nat) : WithinCredit cs a (passStep step ask p) := by
  obtain ⟨ds, left⟩ := p
  obtain ⟨grow, credit⟩ := h
  obtain ⟨x, length, within, eq⟩ := passStep_gives step ask ds left
  have given := committed_giveChild_le step ds x
  rw [eq]
  refine ⟨grow.trans (grantsGrow_giveChild step length), ?_⟩
  dsimp only at credit ⊢
  omega

theorem WithinCredit.passClasses {cs : List PassChild} {a : Nat} {p : List PassChild × Nat} (h : WithinCredit cs a p) (step : Nat)
    (ask : Nat → PassChild → Nat × Nat) (classes : List Nat) :
    WithinCredit cs a (classes.foldl (fun p k => Machine.passStep step (ask k) p) p) :=
  List.foldlRecOn (motive := WithinCredit cs a) classes _ h fun _ h k _ => h.passStep step (ask k)

theorem passSteps_withinCredit {cs : List PassChild} {a : Nat} (fits : committed cs ≤ a) :
    GrantsGrow cs (passSteps cs (a - committed cs)) ∧ committed (passSteps cs (a - committed cs)) ≤ a := by
  have start : WithinCredit cs a (cs, a - committed cs) := ⟨.refl cs, (Nat.add_sub_cancel' fits).le⟩
  have steps : ∃ p, passSteps cs (a - committed cs) = p.1 ∧ WithinCredit cs a p := by
    unfold passSteps
    exact ⟨_, rfl, ((start.passStep 1 _).passStep 2 _).passClasses 3 _ _⟩
  obtain ⟨p, eq, grow, within⟩ := steps
  rw [eq]
  exact ⟨grow, (Nat.le_add_right ..).trans within⟩

section
variable {s : State} {r a : Nat} {pins cs : List PassChild}

section
variable (start : (children s r).map (passChild s pins) = cs)
include start

/-- A run falls back where the commitments do not fit, or where what its steps gave does not (R129). -/
theorem passOnce_eq : passOnce s r a pins = if a < committed cs then (cs, true)
    else if a < committed (passSteps cs (a - committed cs)) then (cs, true)
    else (passSteps cs (a - committed cs), false) := by
  subst start
  rfl

/-- Where the commitments fit, a run does not fall back, and what its steps give stands. -/
theorem passOnce_fits (fits : committed cs ≤ a) : (passOnce s r a pins).2 = false ∧ committed (passOnce s r a pins).1 ≤ a ∧
    GrantsGrow cs (passOnce s r a pins).1 := by
  obtain ⟨grow, within⟩ := passSteps_withinCredit fits
  rw [passOnce_eq start, if_neg (Nat.not_lt.2 fits), if_neg (Nat.not_lt.2 within)]
  generalize passSteps cs (a - committed cs) = out at grow within ⊢
  exact ⟨rfl, within, grow⟩

theorem passOnce_falls (short : a < committed cs) : (passOnce s r a pins).2 = true := by
  rw [passOnce_eq start, if_pos short]

end

theorem passOnce_within (ran : (passOnce s r a pins).2 = false) : committed (passOnce s r a pins).1 ≤ a := by
  by_cases fits : committed ((children s r).map (passChild s pins)) ≤ a
  · exact (passOnce_fits rfl fits).2.1
  · rw [passOnce_falls rfl (Nat.not_le.1 fits)] at ran
    cases ran

/-- Whatever is pinned, the result is that of one run. -/
theorem passPinned_eq_passOnce (n : Nat) : ∃ pins', passPinned s r a n pins = passOnce s r a pins' := by
  induction n generalizing pins with
  | zero => exact ⟨pins, rfl⟩
  | succ n ih =>
    rw [passPinned]
    split
    · exact ⟨pins, rfl⟩
    · exact ih

end

/-- Settles O20: a step of the pass gives what filling divides, so that what is committed and what is left never exceed the credit;
the result of a pass is that of one of its runs. -/
theorem passStaysWithinCredit : Obligations.PassStaysWithinCredit := by
  refine ⟨fun w b => ⟨?_, length_fill w b, getD_le_of_within (fill_within w b)⟩, fun r a pins s => ⟨fun fits => ?_, fun ran => ?_⟩⟩
  · rw [sumList_eq_sum]
    exact sum_fill_le w b
  · exact passOnce_fits rfl fits
  · obtain ⟨pins', eq⟩ : ∃ pins', passResult s r a = passOnce s r a pins' := passPinned_eq_passOnce _
    rw [eq] at ran ⊢
    exact passOnce_within ran

end Sys2Proof.Machine
end

section
/-! Settles O18: what the rows of rounds, demands, grants, intake and placement do in the case their guards leave. -/

namespace Sys2Proof.Machine

section
variable {t paux role i0 i1 op pg n : Nat} {draw : Int} {m : DemandMsg} {g : GrantMsg} {k : IntakeMsg} {s : State}

/-! ### Round starts (R124, R133, R144, R158) -/

/-- What a round start leaves before the device reports: the round and the guard taken, the grant split again. -/
def roundStarted (paux : Nat) (s : State) : State :=
  splitGrant (takeGuard (guardRoot (fireEvent 78 (nodeRoundStart (rolesRoundStart
    (takeNeutral [0x0011, 0x0012] (reloadSluice (roundBegin paux s))))))))

/-- No Fenline leaf sends its demand at the round start; a leaf sends it in its own round. -/
theorem execRoundStart_sends {w : State} (started : w = roundStarted paux (s.at t)) (node : leafNode w = false) :
    execRoundStart t paux draw i0 i1 s = .next (sendIntake [i0, i1] (sendDemand draw w)) := by
  rw [started] at node ⊢
  exact congrArg (fun v => Host.Outcome.next (sendIntake [i0, i1] v)) (if_neg (Bool.eq_false_iff.1 node))

theorem execLeafRoundStart_leaf (leaf : leafNode (s.at t) = true) (beacon : (s.at t).fen.beaconLost = false) :
    execLeafRoundStart t paux draw s = .next (sendDemand draw (splitGrant (nodeRoundStart
      { autoJoin (s.at t) with slc.paux := paux, slc.round := devTime (s.at t) / tRndNs (s.at t) % 2 ^ 32 }))) := by
  unfold execLeafRoundStart
  exact if_neg (by rw [leaf, beacon]; decide)

/-! ### Demands (R122, R138, R154, R165) -/

section
variable {r i : Nat} (active : standbyNode (s.at t) = false) (typ : m.typ = 1) (ver : m.ver = 1)
  (child : findChild (s.at t) m = some (r, i))
include active typ ver child

theorem execDemand_leaves (near : nearRound (s.at t) (childUnit (s.at t) i) m.round = true) (leave : m.leave = true) :
    execDemand t m s = .next (formIfIn r (childLeaves i m (s.at t))) := by
  unfold execDemand
  simp only [active, typ, ver, child, near, leave, Bool.false_eq_true, Bool.true_eq_false, ne_eq, not_true_eq_false, or_self,
    if_false, if_true]

/-- A demand of the round under way that its role has not formed yet is taken, not late. -/
theorem execDemand_inRound (unit : childUnit (s.at t) i = 1) (near : nearRound (s.at t) 1 m.round = true) (stays : m.leave = false)
    (round : m.round = (s.at t).slc.round) (unformed : (s.at t).slc.formed = []) :
    execDemand t m s = .next (takeDemand r i m false (s.at t)) := by
  unfold execDemand
  generalize s.at t = u at active child near unit round unformed ⊢
  rw [round] at near
  simp [active, typ, ver, child, near, stays, unit, round, unformed, Nat.mod_one]

end

/-- The demand that completes a role's round has it form its own (R154). -/
theorem takeDemand_forms {r i : Nat} {v : State}
    (admitted : v = refreshBounds r (admitChild r i m { s with slc.lateLeaf := s.slc.lateLeaf.filter (· != i) }))
    (unformed : v.slc.formed.contains r = false) (all : (children v r).all (reported v) = true) :
    takeDemand r i m false s = formRole r v := by
  subst admitted
  exact if_pos (by rw [unformed, all]; rfl)

/-! ### Passes (R124, R135, R154, R155) -/

theorem execRoleWaitExpiry_unformed (valid : roleValid (s.at t) role = true) (active : standbyNode (s.at t) = false)
    (unformed : (s.at t).slc.formed = []) : execRoleWaitExpiry t role s = .next (formRole role (s.at t)) := by
  unfold execRoleWaitExpiry
  exact if_pos (by rw [valid, active, unformed]; rfl)

section
variable (active : standbyNode (s.at t) = false) (valid : roleValid (s.at t) role = true)
include active valid

theorem execRootPass_root (root : roleRoot (s.at t) role = true) (guard : guardOn (s.at t) role = false) :
    execRootPass t role s = .next (runPass role (rl (s.at t) role rLIMIT)
      (rlPut role rGRANTIN (rl (s.at t) role rLIMIT) (s.at t))) := by
  unfold execRootPass
  simp only [active, valid, root, guard, Bool.false_eq_true, Bool.and_self, if_false, if_true]

theorem execRootPass_owed (other : roleRoot (s.at t) role = false) (owed : passOwed role (s.at t) = true) :
    execRootPass t role s = .next (runPass role (rl (s.at t) role rGRANTIN) (s.at t)) := by
  unfold execRootPass
  simp only [active, valid, other, owed, Bool.false_eq_true, Bool.and_false, Bool.and_self, if_false, if_true]

end

/-! ### Grants and the join (R125, R130, R138, R155) -/

section
variable (active : standbyNode (s.at t) = false) (typ : g.typ = 2) (ver : g.ver = 1) (taken : g.refused = false)
include active typ ver taken

theorem execGrant_node (near : nearRound (s.at t) (nodeUnit (s.at t)) g.round = true) (level : g.toLevel = 3)
    (parent : g.fromLevel = nd (s.at t) nPARENT / 4096 % 8 + 1) (joined : (s.at t).slc.joined = true) :
    execGrant t g s = .next (nodeGrant g (fireEvent 79 (s.at t))) := by
  unfold execGrant
  simp only [active, typ, ver, taken, near, level, parent, joined, Bool.false_eq_true, Bool.true_eq_false, Bool.true_or,
    Bool.not_true, ne_eq, not_true_eq_false, or_self, if_false, if_true]

theorem execGrant_role {r : Nat} (near : nearRound (s.at t) 1 g.round = true) (level : ¬g.toLevel = 3)
    (hosted : (hostedRoles (s.at t)).find? (fun r => roleLevel (s.at t) r == g.toLevel && !roleRoot (s.at t) r
      && rl (s.at t) r rPARENT / 4096 % 8 + 1 == g.fromLevel) = some r) :
    execGrant t g s = .next (roleGrant r g (fireEvent 79 (s.at t))) := by
  unfold execGrant
  simp only [active, typ, ver, taken, near, level, hosted, Bool.false_eq_true, Bool.true_eq_false, ne_eq, not_true_eq_false, or_self,
    if_false]

end

theorem execJoinTimeout_unjoined {line seq : Nat} (job : (s.at t).cfg.modeJob = some (line, seq, 4)) (mode : (s.at t).sys.mode = .m3)
    (joining : (s.at t).slc.joining = true) (unjoined : (s.at t).slc.joined = false) : execJoinTimeout t s =
    .next (finishAccepted line seq { result := [1] } { leaveSluice (s.at t) with cfg.modeJob := none }) := by
  unfold execJoinTimeout
  simp only [job]
  exact if_pos (by rw [mode, joining, unjoined]; rfl)

/-! ### Intake (R143) -/

/-- A report of the one metered set adds the energy since its last report to E_used. -/
theorem execIntake_only {x : IntakeSet} {e : Nat} (active : standbyNode (s.at t) = false) (typ : k.typ = 3) (ver : k.ver = 1)
    (near : nearRound (s.at t) 1 k.round = true) (only : (s.at t).slc.sets = [x]) (node : x.node = k.node) (set : x.set = k.set)
    (last : x.lastE = some e) : execIntake t k s = .next { s.at t with
      slc.eUsed := ((s.at t).slc.eUsed + (k.eImport + 2 ^ 48 - e) % 2 ^ 48) % 2 ^ 48,
      slc.sets := [{ x with lastP := k.pImport, lastE := some k.eImport, fresh := true }] } := by
  have found : [x].zipIdx.find? (fun p => p.1.node == k.node && p.1.set == k.set) = some (x, 0) :=
    List.find?_cons_of_pos (by rw [node, set, beq_self_eq_true, beq_self_eq_true]; rfl)
  unfold execIntake
  simp only [active, typ, ver, near, only, found, last, Bool.false_eq_true, Bool.true_eq_false, ne_eq, not_true_eq_false, or_self,
    if_false, List.modify_zero_cons]

/-! ### Placement (R171, R172) -/

theorem execShedCommit_due {a b : Nat} {c : List Nat} {v : State} (recomputed : v = recompute op (s.at t))
    (shed : (sop v op).shed = some (a, b, c)) (due : a + 2000000 ≤ v.now) : execShedCommit t op s = .next (commitShed op c v) := by
  subst recomputed
  unfold execShedCommit
  simp only [shed]
  exact congrArg _ (if_pos due)

theorem execGroupRelease_idle (connected : (get (s.at t).slc.pg pg).output = some n) (legs : legCount (s.at t) pg = 0)
    (off : groupLegsOffNow (s.at t) pg = true) (closed : (pgr (s.at t) pg).opening = none) :
    execGroupRelease t pg s = .next (startOpening (.mtx pg n) (s.at t)) := by
  unfold execGroupRelease
  simp only [connected]
  exact congrArg _ (if_pos (by rw [legs, off, closed]; rfl))

end

/-- Settles O18: each clause is the case of its row that the guards leave. -/
theorem sluiceRowsComplete : Obligations.SluiceRowsComplete := by
  intro t paux role i0 i1 op pg n draw m g k s u
  refine ⟨?roundStart, ?leafRoundStart, ?leaves, ?demand, ?waitExpiry, ?rootPass, ?nodeGrant, ?owedPass, ?roleGrant, ?joinTimeout,
    ?intake, ?targetTick, ?shedCommit, ?shedHoldoff, ?groupRelease⟩
  case roundStart => exact fun w => execRoundStart_sends
  case leafRoundStart => exact execLeafRoundStart_leaf
  case leaves => exact fun r i => execDemand_leaves
  case demand =>
    intro r i v active typ ver child unit near stays round unformed admitted fresh all
    have taken := execDemand_inRound active typ ver child unit near stays round unformed
    rw [takeDemand_forms admitted fresh all] at taken
    exact taken
  case waitExpiry => exact execRoleWaitExpiry_unformed
  case rootPass => exact execRootPass_root
  case nodeGrant =>
    exact fun active typ ver near level parent joined taken => execGrant_node active typ ver taken near level parent joined
  case owedPass => exact execRootPass_owed
  case roleGrant => exact fun r active typ ver near level taken hosted => execGrant_role active typ ver taken near level hosted
  case joinTimeout => exact fun line seq => execJoinTimeout_unjoined
  case intake => exact fun x e => execIntake_only
  case targetTick => rfl
  case shedCommit => exact fun v a b c => execShedCommit_due
  case shedHoldoff =>
    intro output
    exact ⟨_, rfl, congrArg SlcOp.holdoff (get_upd_same _ op _ output), rfl⟩
  case groupRelease => exact execGroupRelease_idle

end Sys2Proof.Machine
end

section
/-! Settles O44: what the standby stores of each mirror record, and what ends a resynchronisation, by the order of section 18. -/

namespace Sys2Proof.Machine

section
variable {t n seq slot nsec release mode line pct : Nat} {out : Int} {states : List Nat} {entries : List SlcEntry}
  {part : ResyncPart} {s : State}

/-! ### Records that act beyond their own store (R138, R241, R314, R454) -/

/-- A checkpoint is stored, then acknowledged. -/
theorem execCheckpoint_standby {c : Ckpt} (role : (s.at t).dpx.role = 2) : execCheckpoint t n c.seq c.state c.proto c.msgNo c.time
    c.iReq c.vTgt c.vOv c.flags c.rest c.lastRsp s = .next (ackCkpt n c.seq (storeCkpt n c (s.at t))) :=
  congrArg _ (onStandby_standby _ role)

theorem execCkptAck_active (role : (s.at t).dpx.role = 1) (own : (prt (s.at t) n).ckptSeq = seq) : execCkptAck t n seq s =
    .next (releaseRsp n (setPrt n (fun p => { p with desync := false }) (s.at t))) := by
  unfold execCkptAck
  exact congrArg _ (if_pos (by rw [role, own]; exact beq_self_eq_true seq))

theorem execLpeSnap_standby (role : (s.at t).dpx.role = 2) (sections : nsec = (slotSecs (s.at t) slot).length) :
    execLpeSnap t slot nsec release out states s = .next (putSnapshot slot release out states (s.at t)) :=
  congrArg _ ((onStandby_standby _ role).trans (if_pos (beq_iff_eq.2 sections)))

theorem execPwmStateSend_active (role : (s.at t).dpx.role = 1) :
    execPwmStateSend t s = .next (mirrorSend 0x32 (pwmState (s.at t)) (s.at t)) := by
  unfold execPwmStateSend
  exact congrArg _ (if_pos (by rw [role]; rfl))

/-- The active's LEAVE sends its standby to M3, out of Sluice, and it does not take over. -/
theorem execLeave_standby (role : (s.at t).dpx.role = 2) (now : (s.at t).sys.mode = .m7) (target : mode = 3 ∨ mode = 9 ∨ mode = 10) :
    execLeave t mode s = .next (fireEvent 450 (toM3 { s.at t with
      dpx.left := true, lpe.standby := false, slc.joined := false, slc.joining := false, slc.leaseValid := false,
      slc.ramping := false })) := by
  have known : (!(mode == 3 || mode == 9 || mode == 10)) = false := by rcases target with rfl | rfl | rfl <;> rfl
  unfold execLeave
  refine congrArg _ ((onStandby_standby _ role).trans ((if_neg ?_).trans (if_pos ?_)))
  · rw [known]; exact Bool.false_ne_true
  · rw [now]; rfl

/-! ### Resynchronisation (R470, R501) -/

theorem execResync_standby (role : (s.at t).dpx.role = 2) :
    execResync t part pct s = .next (storePart part { s.at t with dpx.resyncPct := pct }) :=
  congrArg _ (onStandby_standby _ role)

theorem execResyncDone_standby (role : (s.at t).dpx.role = 2) (link : oz3Up (s.at t) = true) :
    execResyncDone t s = .next (setDpxSt 2 { s.at t with dpx.resyncPct := 100 }) := by
  unfold execResyncDone
  exact congrArg _ ((if_pos (by rw [role]; rfl)).trans (if_pos link))

theorem execResyncDone_active (role : (s.at t).dpx.role ≠ 2) (asked : (s.at t).dpx.resyncJob = some (line, seq)) :
    execResyncDone t s = .next (finishAccepted line seq {} { s.at t with dpx.resyncJob := none }) := by
  unfold execResyncDone
  refine congrArg _ ((if_neg (by simpa using role)).trans ?_)
  rw [asked]

end

/-- Settles O44: each clause is the case of its record on the member it is for; a record with no further condition is stored as it
is. -/
theorem mirrorRecordsComplete : Obligations.MirrorRecordsComplete := by
  intro t n seq state proto msgNo time vTgt vOv flags round slot nsec release lswCmd pick mxpOn mxpEco cap pct mode line iReq out
    account emerg short rest lastRsp node states duty pend temps entries groups part s u p
  refine ⟨?checkpoint, ?ckptAck, ?sluice, ?snapshot, ?pwmSend, ?pwm, ?load, ?cable, ?prepay, ?leave, ?resyncSluice, ?resync, ?ready,
    ?completed⟩
  case checkpoint =>
    rintro c rfl
    exact execCheckpoint_standby (c := ⟨seq, state, proto, msgNo, time, iReq, vTgt, vOv, flags, rest, lastRsp⟩)
  case ckptAck => exact execCkptAck_active
  case sluice => exact fun role => congrArg _ (onStandby_standby _ role)
  case snapshot => exact execLpeSnap_standby
  case pwmSend => exact execPwmStateSend_active
  case pwm => exact fun role => congrArg _ (onStandby_standby _ role)
  case load => exact fun role => congrArg _ (onStandby_standby _ role)
  case cable => exact fun role => congrArg _ (onStandby_standby _ role)
  case prepay =>
    rintro wh old rfl rfl role
    exact congrArg _ (onStandby_standby _ role)
  case leave => exact execLeave_standby
  case resyncSluice => exact execResync_standby
  case resync => exact execResync_standby
  case ready => exact execResyncDone_standby
  case completed => exact execResyncDone_active

end Sys2Proof.Machine
end

section
/-! Settles O21: what valleys, load points, comparators and the link check do in the case their guards leave. -/

namespace Sys2Proof.Machine

section
variable {t g leg : Nat} {bits : List Bool} {s : State}

/-! ### What a reading and an update leave in their own item (R180) -/

@[simp] theorem mval_readMain_same {c : Nat} (channel : c < 48) : mval (readMain c bits s) c = mainValue s c bits :=
  congrArg Mdat.val (get_upd_same _ c _ channel)

@[simp] theorem pgr_setPg_same {f : PwmPg → PwmPg} (group : g < 6) : pgr (setPg g f s) g = f (pgr s g) :=
  get_upd_same _ g f group

/-! ### The group valley (R181, R182, R187) -/

/-- The state in which a valley of group `g` finds whether the set of its legs has changed: its readings taken, its legs summed,
checked and counted. -/
def valleyJudged (g : Nat) (bits : List Bool) (s : State) : State :=
  countTrigger g (checkDischarged g (trackValley g (brakeCheck g (sumOutputs (takeValley g bits s)))))

section
variable {w : State} (valley : atValley (s.at t) g = true) (judged : w = valleyJudged g bits (s.at t))
include valley judged

/-- The legs are spread anew where their set has changed and no re-spread is under way. -/
theorem execGroupValley_judged : execGroupValley t g bits s =
    .next (settle (if (pgr w g).setChanged && !(pgr w g).respread then reSpread g w else w)) := by
  subst judged
  exact congrArg Host.Outcome.next (if_pos valley)

theorem execGroupValley_sameLegs (same : (pgr w g).setChanged = false) : execGroupValley t g bits s = .next (settle w) := by
  rw [execGroupValley_judged valley judged, same]
  rfl

theorem execGroupValley_changedLegs (changed : (pgr w g).setChanged = true) (idle : (pgr w g).respread = false) :
    execGroupValley t g bits s = .next (settle (reSpread g w)) := by
  rw [execGroupValley_judged valley judged, changed, idle]
  rfl

end

theorem pgr_takeValley (group : g < 6) : (pgr (takeValley g bits s) g).vg = mainValue s (36 + g) bits ∧
    (pgr (takeValley g bits s) g).valleyAt = some s.now := by
  have taken := pgr_setPg_same (s := readMain (36 + g) bits s) (f := fun p =>
    { p with vg := mval (readMain (36 + g) bits s) (36 + g), ig := sumCurrents (readMain (36 + g) bits s) g,
             valleyAt := some s.now, pinsHeld := !s.keeper.gateEn }) group
  exact ⟨(congrArg PwmPg.vg taken).trans (mval_readMain_same (by omega)), congrArg PwmPg.valleyAt taken⟩

/-! ### The load point (R184, R185) -/

/-- At a load point a switching leg is loaded, after its reading where the load point is its valley. -/
theorem execPwmLoadPoint_loads {peak : Bool} {v : State} (point : atLoadPoint (s.at t) leg peak = true)
    (read : v = if peak then s.at t else takeLegValley leg bits (s.at t)) (switching : (legOf v leg).st = .switching)
    (update : (!peak || rdb (s.at t) (pgAddr (leg / 6)) 16) = true) :
    execPwmLoadPoint t leg peak bits s = .next (loadLeg leg v) := by
  subst read
  unfold execPwmLoadPoint
  refine (if_neg (by rw [point]; exact Bool.false_ne_true)).trans (congrArg _ (if_pos ?_))
  rw [switching, update]
  rfl

/-! ### Comparators (R192, R193, R218) -/

/-- The first crossing of a switching leg's period limits it. -/
theorem limitPeriod_first {high : Bool} (switching : (legOf s leg).st = .switching) (first : (legOf s leg).limitedNow = false) :
    limitPeriod leg high s = setLeg leg (fun x =>
      { x with limitedNow := true, limHigh := high, limAt := s.now, ocRun := min 15 (x.ocRun + 1),
               st := if x.st == .switching then .limited else x.st }) s :=
  if_pos (by rw [switching, first]; rfl)

theorem latchOc_switching {trip : Bool} (present : legPresent s leg = true) (switching : (legOf s leg).st = .switching) :
    latchOc leg trip s = latchLeg leg .ocLatched trip errLegOc (setLeg leg (fun l => { l with ocSeen := false }) s) := by
  unfold latchOc
  simp only [present, switching, Bool.not_true, Bool.false_eq_true, if_false]

theorem execLegOcLimit_beyond (beyond : ocLim (s.at t) leg < fastValue (s.at t) leg bits) :
    execLegOcLimit t leg bits s = .next (limitPeriod leg true (s.at t)) :=
  congrArg Host.Outcome.next (if_pos beyond)

section
variable (beyond : fastValue (s.at t) leg bits < -ocNeg (s.at t) leg)
include beyond

theorem execLegOcNeg_crowbar (crowbar : (legOf (s.at t) leg).st = .crowbar) :
    execLegOcNeg t leg bits s = .next (crowbarLegEnd leg (s.at t)) :=
  congrArg Host.Outcome.next ((if_neg (Int.not_le.2 beyond)).trans (if_pos (beq_iff_eq.2 crowbar)))

theorem execLegOcNeg_limits (other : (legOf (s.at t) leg).st ≠ .crowbar) :
    execLegOcNeg t leg bits s = .next (limitPeriod leg false (s.at t)) :=
  congrArg Host.Outcome.next ((if_neg (Int.not_le.2 beyond)).trans (if_neg (mt beq_iff_eq.1 other)))

end

theorem execLegOcTrip_latches (beyond : ocTrip (s.at t) leg < fastValue (s.at t) leg bits)
    (alone : gateFaultDue (s.at t) leg = false) : execLegOcTrip t leg bits s = .next (latchOc leg true (s.at t)) :=
  congrArg Host.Outcome.next ((if_neg (Int.not_le.2 beyond)).trans (if_neg (Bool.eq_false_iff.1 alone)))

theorem execLegOcLatch_latches (counted : 0 < rdf (s.at t) (legAddr leg) 2 4)
    (reached : rdf (s.at t) (legAddr leg) 2 4 ≤ (legOf (s.at t) leg).ocRun) :
    execLegOcLatch t leg s = .next (latchOc leg false (s.at t)) :=
  congrArg Host.Outcome.next (if_pos (by rw [decide_eq_true counted, decide_eq_true reached]; rfl))

theorem crowbarLegEnd_crowbar (crowbar : (legOf s leg).st = .crowbar) : crowbarLegEnd leg s = legOff leg s :=
  if_pos (beq_iff_eq.2 crowbar)

end

/-- Settles O21: each clause is the case of its row that the guards leave. -/
theorem powerStageRowsComplete : Obligations.PowerStageRowsComplete := by
  intro t g leg bits chans s u l
  refine ⟨?sameLegs, ?changedLegs, ?valley, ?respread, ?peak, ?legValley, ?link, ?limit, ?negCrowbar, ?negLimit, ?trip, ?latch,
    ?gateLow, ?gateHigh, ?crowbarOff⟩
  case sameLegs => exact fun w => execGroupValley_sameLegs
  case changedLegs => exact fun w => execGroupValley_changedLegs
  case valley => exact pgr_takeValley
  case respread => exact fun spreading => congrArg Host.Outcome.next (if_pos spreading)
  case peak => exact fun switching update point => ⟨_, _, rfl, rfl, execPwmLoadPoint_loads point rfl switching update⟩
  case legValley => exact fun point switching => execPwmLoadPoint_loads point rfl switching rfl
  case link =>
    rintro w rfl
    rfl
  case limit =>
    exact fun beyond switching first => (execLegOcLimit_beyond beyond).trans (congrArg _ (limitPeriod_first switching first))
  case negCrowbar => exact execLegOcNeg_crowbar
  case negLimit =>
    intro beyond switching first
    have other : l.st ≠ .crowbar := by rw [switching]; decide
    exact (execLegOcNeg_limits beyond other).trans (congrArg _ (limitPeriod_first switching first))
  case trip =>
    exact fun beyond alone present switching =>
      (execLegOcTrip_latches beyond alone).trans (congrArg _ (latchOc_switching present switching))
  case latch =>
    exact fun present switching counted reached =>
      (execLegOcLatch_latches counted reached).trans (congrArg _ (latchOc_switching present switching))
  case gateLow => rfl
  case gateHigh => rfl
  case crowbarOff => exact fun crowbar => congrArg Host.Outcome.next (crowbarLegEnd_crowbar crowbar)

end Sys2Proof.Machine
end

section
/-! Settles O24 and O22: what the power commands do once they start, and what the contactors' rows do in the case their guards
leave. -/

namespace Sys2Proof.Machine

section
variable {t line seq : Nat} {s : State} {c : Cmd}

/-! ### The power commands (R206, R506) -/

theorem execPwrFaultClear_cleared (starts : Starts line seq 0x0502 (s.at t) c) (gone : clearRefused c (s.at t) = false)
    (inRange : clearBad c = none) :
    execPwrFaultClear t line seq s = .next (done c [] (updStage (clearItem c (s.at t)))) := by
  unfold execPwrFaultClear
  rw [runCmd_starts starts gone, inRange]

theorem execPwrLegExclude_inRange (starts : Starts line seq 0x0503 (s.at t) c) (leg : ¬36 ≤ c.param 8 1)
    (flag : ¬2 ≤ c.param 9 1) : execPwrLegExclude t line seq s =
    .next (done c [] (excludeLeg (c.param 8 1) (c.param 9 1 == 1) (s.at t))) :=
  congrArg _ ((runCmd_free starts).trans ((if_neg leg).trans (if_neg flag)))

end

/-- Settles O24: each command runs its own body once it starts and nothing refuses it. -/
theorem powerCommandsComplete : Obligations.PowerCommandsComplete := by
  intro t line seq s c u
  refine ⟨?status, ?faultClear, ?legExclude, ?mdatRead⟩
  case status => exact fun starts => congrArg _ (runCmd_free starts)
  case faultClear => exact execPwrFaultClear_cleared
  case legExclude => exact execPwrLegExclude_inRange
  case mdatRead => exact fun starts => congrArg _ (runCmd_free starts)

section
variable {t g n : Nat} {c : CtrRef} {s : State}

/-! ### Closing (R199, R200, R202) -/

theorem execMatrixCloseRequest_interlocked (other : otherPosition (s.at t) g n = true) :
    execMatrixCloseRequest t g n s = .next (interlock g n (s.at t)) :=
  congrArg Host.Outcome.next (if_pos other)

theorem execMatrixCloseRequest_closes (alone : otherPosition (s.at t) g n = false) (usable : posUsable (s.at t) g n = true)
    (idle : get (pgr (s.at t) g).mtxCmd n = false) (dead : deadClose (s.at t) g n = true) :
    execMatrixCloseRequest t g n s = .next (mtxDrive g n true (s.at t)) :=
  congrArg Host.Outcome.next ((if_neg (Bool.eq_false_iff.1 alone)).trans (if_pos (by rw [usable, idle, dead]; rfl)))

theorem execContactorCloseTimeout_mtx (commanded : get (pgr (s.at t) g).mtxCmd n = true)
    (readsOpen : get (pgr (s.at t) g).mtxFb n = false) :
    execContactorCloseTimeout t (.mtx g n) s = .next (ctrFail (.mtx g n) (s.at t)) :=
  congrArg Host.Outcome.next (if_pos (by rw [commanded, readsOpen]; rfl))

/-- An output contactor that still reads open after T_CLOSE fails where it has a readback, and counts as closed without one. -/
theorem execContactorCloseTimeout_out (commanded : (pout (s.at t) n).ctrCmd = true)
    (readsOpen : (pout (s.at t) n).ctrFb = false) : execContactorCloseTimeout t (.out n) s =
    .next (if ctrHasFb (s.at t) n then ctrFail (.out n) (s.at t) else ctrClosed n (s.at t)) :=
  congrArg Host.Outcome.next (if_pos (by rw [commanded, readsOpen]; rfl))

/-! ### Opening and welds (R203) -/

theorem execContactorZeroReached_opens (waits : openingWaits (s.at t) c = true) (zero : sumBehind (s.at t) c < iZero (s.at t)) :
    execContactorZeroReached t c s = .next (openAtZero c (errCleared 2 9 (ctrItem c) (s.at t))) :=
  congrArg Host.Outcome.next (if_pos (by rw [waits, decide_eq_true zero]; rfl))

/-- The error of an opening that finds no zero current stands where the contactor has a readback to end it. -/
theorem execOpenNotZero_readback (waits : openingWaits (s.at t) c = true) (readback : ctrBlind (s.at t) c = false) :
    execOpenNotZero t c s = .next (raiseError errNotZero (ctrItem c) (fireEvent 144 (s.at t))) :=
  congrArg Host.Outcome.next ((if_pos waits).trans (if_neg (by rw [readback]; exact Bool.false_ne_true)))

theorem ctrBlind_out (readback : ctrHasFb s n = true) : ctrBlind s (.out n) = false :=
  congrArg not readback

theorem execContactorWeld_mtx (opened : get (pgr (s.at t) g).mtxCmd n = false) (closed : get (pgr (s.at t) g).mtxFb n = true) :
    execContactorWeld t (.mtx g n) s = .next (weldFound (.mtx g n) (s.at t)) :=
  congrArg Host.Outcome.next (if_pos (by rw [opened, closed]; rfl))

theorem execContactorWeld_out (readback : ctrHasFb (s.at t) n = true) (opened : (pout (s.at t) n).ctrCmd = false)
    (closed : (pout (s.at t) n).ctrFb = true) :
    execContactorWeld t (.out n) s = .next (weldFound (.out n) (s.at t)) :=
  congrArg Host.Outcome.next ((if_pos readback).trans (if_pos (by rw [opened, closed]; rfl)))

/-! ### The bleed (R212) -/

theorem execBusBleedExpiry_bled (unfed : carrying (s.at t) n = []) (readsOpen : (pout (s.at t) n).ctrFb = false)
    (idle : (pout (s.at t) n).ctrCmd = false) :
    execBusBleedExpiry t n s = .next (setOut n (fun o => { o with bled := true }) (s.at t)) :=
  congrArg Host.Outcome.next (if_pos (by rw [unfed, readsOpen, idle]; rfl))

end

/-- Settles O22: each clause is the case of its row that the guards leave. -/
theorem contactorRowsComplete : Obligations.ContactorRowsComplete := by
  intro t din g n lvl c s u
  refine ⟨?debounce, ?interlock, ?close, ?mtxFail, ?outFail, ?outBlind, ?opening, ?zero, ?mtxNotZero, ?outNotZero, ?mtxWeld,
    ?outWeld, ?bleed⟩
  case debounce => rfl
  case interlock => exact execMatrixCloseRequest_interlocked
  case close => exact execMatrixCloseRequest_closes
  case mtxFail => exact execContactorCloseTimeout_mtx
  case outFail =>
    exact fun commanded readsOpen readback =>
      (execContactorCloseTimeout_out commanded readsOpen).trans (congrArg _ (if_pos readback))
  case outBlind =>
    exact fun commanded readsOpen blind =>
      (execContactorCloseTimeout_out commanded readsOpen).trans (congrArg _ (if_neg (Bool.eq_false_iff.1 blind)))
  case opening => exact fun commanded => congrArg Host.Outcome.next (if_pos commanded)
  case zero => exact execContactorZeroReached_opens
  case mtxNotZero => exact fun waits => execOpenNotZero_readback waits rfl
  case outNotZero => exact fun waits readback => execOpenNotZero_readback waits (ctrBlind_out readback)
  case mtxWeld => exact execContactorWeld_mtx
  case outWeld => exact execContactorWeld_out
  case bleed => exact execBusBleedExpiry_bled

end Sys2Proof.Machine
end

section
/-! Settles O25: what the loop engine's slots, its bank swap and its commands do in the case their guards leave. -/

namespace Sys2Proof.Machine

section
variable {t k lat line seq : Nat} {ain : List Int} {volts : List (List Bool)} {s : State} {c : Cmd}

/-! ### Releases, deadlines and completions (R234 to R236) -/

/-- The state in which the release of slot `k` finds whether its last run stands: its voltages read, its trigger taken. -/
def releaseTaken (k : Nat) (volts : List (List Bool)) (s : State) : State :=
  setSlot k (fun x => { x with trigDue := false }) (readVolts volts s)

section
variable {w : State} {cp : Capture} (runs : slotRuns (s.at t) k = true) (due : releaseDue (s.at t) k = true)
  (active : (s.at t).lpe.standby = false) (taken : w = releaseTaken k volts (s.at t))
include runs due active taken

/-- A slot that runs and is due is released, after an overrun where its last run stands. -/
theorem execSlotRelease_due : execSlotRelease t k ain volts s =
    .next (releaseSlot k ain (if (slotOf w k).cap.isSome then overrunSlot k w else w)) := by
  subst taken
  exact congrArg Host.Outcome.next (if_pos (by rw [runs, due, active]; rfl))

theorem execSlotRelease_finished (finished : (slotOf w k).cap = none) :
    execSlotRelease t k ain volts s = .next (releaseSlot k ain w) := by
  rw [execSlotRelease_due runs due active taken, finished]
  rfl

theorem execSlotRelease_unfinished (stands : (slotOf w k).cap = some cp) :
    execSlotRelease t k ain volts s = .next (releaseSlot k ain (overrunSlot k w)) := by
  rw [execSlotRelease_due runs due active taken, stands]
  rfl

end

theorem execSlotDeadline_unfinished {cp : Capture} (stands : (slotOf (s.at t) k).cap = some cp) :
    execSlotDeadline t k s = .next (overrunSlot k (s.at t)) :=
  congrArg Host.Outcome.next (if_pos (by rw [stands]; rfl))

/-- A run that stands completes, or trips the slot where the RAM it read had an uncorrectable error. -/
theorem execSlotComplete_stands {cp : Capture} {eccDbl : Bool} (stands : (slotOf (s.at t) k).cap = some cp) :
    execSlotComplete t k lat eccDbl s = .next (if eccDbl then
      tripSlot k errLpeRam (putOvrRun k 3 (setSlot k (fun x => { x with cap := none }) (s.at t)))
      else completeSlot k lat cp (s.at t)) := by
  simp only [execSlotComplete, stands]

/-! ### The end of an overrun (R237) -/

/-- The overrun of slot `k` stands no longer. -/
def overrunEnded (k : Nat) (s : State) : State :=
  updStage (setSlot k (fun x => { x with ovr := false, safe := false, good := 0 }) s)

section
variable (overrun : (slotOf (s.at t) k).ovr = true) (kept : 100 ≤ (slotOf (s.at t) k).good)
include overrun kept

/-- The errors of a slot end with its overrun, but for a group's slot: those end with the group's trip. -/
theorem execLpeOvrClear_kept : execLpeOvrClear t k s =
    .next (if slotKind (s.at t) k == 0 || slotKind (s.at t) k == 2 then
      errCleared 3 1 (tripArg (s.at t) k) (errCleared 3 4 (tripArg (s.at t) k) (overrunEnded k (s.at t)))
      else overrunEnded k (s.at t)) :=
  congrArg Host.Outcome.next (if_pos (by rw [overrun, decide_eq_true kept]; rfl))

theorem execLpeOvrClear_group (group : slotKind (s.at t) k = 1) :
    execLpeOvrClear t k s = .next (overrunEnded k (s.at t)) := by
  rw [execLpeOvrClear_kept overrun kept, group]
  rfl

theorem execLpeOvrClear_unowned (unowned : slotKind (s.at t) k = 0) : execLpeOvrClear t k s =
    .next (errCleared 3 1 (tripArg (s.at t) k) (errCleared 3 4 (tripArg (s.at t) k) (overrunEnded k (s.at t)))) := by
  rw [execLpeOvrClear_kept overrun kept, unowned]
  rfl

end

/-! ### The loop commands (R250, R506) -/

theorem execPwrLoopRead_inRange (starts : Starts line seq 0x0505 (s.at t) c) (first : ¬64 ≤ c.param 8 1)
    (counted : c.param 9 1 ≠ 0) (last : ¬64 < c.param 8 1 + c.param 9 1) : execPwrLoopRead t line seq s =
    .next (doneOut c [] (((List.range (c.param 9 1)).map fun i => slotReport (s.at t) (c.param 8 1 + i)).flatten) (s.at t)) :=
  congrArg _ ((runCmd_free starts).trans ((if_neg first).trans (if_neg (by simp [counted, last]))))

end

/-- Settles O25: each clause is the case of its row that the guards leave. -/
theorem reedbedComplete : Obligations.ReedbedComplete := by
  intro t k lat addr word line seq ain volts s c u x
  refine ⟨?release, ?overrun, ?deadline, ?complete, ?eccTrip, ?groupClear, ?unownedClear, ?swap, ?ramWrite, ?loopRead,
    ?budget⟩
  case release => exact fun w => execSlotRelease_finished
  case overrun => exact fun w cp => execSlotRelease_unfinished
  case deadline => exact fun cp => execSlotDeadline_unfinished
  case complete => exact fun cp => execSlotComplete_stands
  case eccTrip => exact fun cp => execSlotComplete_stands
  case groupClear => exact execLpeOvrClear_group
  case unownedClear => exact execLpeOvrClear_unowned
  case swap => rfl
  case ramWrite => rfl
  case loopRead => exact execPwrLoopRead_inRange
  case budget => exact fun starts => congrArg _ (runCmd_free starts)

end Sys2Proof.Machine
end

section
/-! Settles O23: what the samples, tracking, the checks of an output, braking and the feedback checks do in the case their guards
leave. -/

namespace Sys2Proof.Machine

section
variable {t g n ts vr ch k : Nat} {bits : List Bool} {vgs : List (List Bool)} {mode : TrkReq} {s w : State}

/-! ### Samples of an output (R207, R208) -/

/-- A sample goes on with an opening, after the references of an energised output have moved. -/
theorem execOutputLoopSample_resplit (sampled : w = resplit (readVout n bits (s.at t))) :
    execOutputLoopSample t n ts bits s = .next (if energised w n then openingRamp n (slewRefs n ts
      (shareStep n (rdf w (opAddr n) 0 10 * ts / 1000) (rdf w (opAddr n) 10 10 * ts / 1000) w)) else openingRamp n w) := by
  subst sampled
  rfl

/-! ### Tracking (R209 to R211) -/

theorem trackRequest_allowed (modes : gateModes s = true) (ready : trackReady s g = true) (usable : outUsable s n = true)
    (alone : otherPosition s g n = false) (allowed : trackAllowed s g n mode = true) :
    trackRequest g n mode s = beginTracking g n 6 (trkMode mode) s :=
  calc trackRequest g n mode s
    _ = if mode == .coinBus && otherPosition s g n then interlock g n s
        else if trackAllowed s g n mode then beginTracking g n 6 (trkMode mode) s else s :=
      if_pos (by rw [modes, ready, usable]; rfl)
    _ = if trackAllowed s g n mode then beginTracking g n 6 (trkMode mode) s else s :=
      if_neg (by rw [alone, Bool.and_false]; exact Bool.false_ne_true)
    _ = beginTracking g n 6 (trkMode mode) s := if_pos allowed

/-- Coincidence that has held for its dwell closes the contactor of the output tracked. -/
theorem execTrackDwellExpiry_coinOut (within : (pgr (s.at t) g).inTol = true) (uncommanded : (pgr (s.at t) g).closeCmd = false)
    (undone : (pgr (s.at t) g).trkDone = false) (groupRead : fbFlagged (s.at t) (36 + g) = false)
    (outRead : fbFlagged (s.at t) (42 + (pgr (s.at t) g).trkOut) = false) (tracked : (pgr (s.at t) g).trk = .coinOut)
    (usable : outUsable (s.at t) (pgr (s.at t) g).trkOut = true) : execTrackDwellExpiry t g s =
      .next (ctrDrive (pgr (s.at t) g).trkOut true (setPg g (fun q => { q with closeCmd := true }) (s.at t))) := by
  have closes : closeUsable (s.at t) g (pgr (s.at t) g).trkOut (pgr (s.at t) g).trk = true := by
    rw [tracked]
    exact usable
  unfold execTrackDwellExpiry
  refine congrArg _ ((if_pos ?_).trans (by rw [tracked]))
  rw [within, uncommanded, undone, closes, groupRead, outRead]
  rfl

/-- A tracking that holds a voltage ends with its check, and the output's contactor is opened. -/
theorem execTrackFail_ratio (tracked : (pgr (s.at t) g).trk = .ratio) (undone : (pgr (s.at t) g).trkDone = false)
    (left : w = { s.at t with slc.pg := upd (s.at t).slc.pg g fun q => { q with joinTo := none } }) :
    execTrackFail t g s = .next (raiseError errTrackFail g
      (setOut (pgr (s.at t) g).trkOut (fun o => { o with ins := .idle, opening := o.ctrCmd }) (groupLegsStop g (setPg g (fun q =>
        { q with trk := .none, trkFail := true, closeCmd := false, inTol := false }) w)))) := by
  subst left
  unfold execTrackFail
  refine congrArg _ ((if_pos (by rw [tracked, undone]; rfl)).trans ?_)
  rw [tracked]

/-! ### Insulation check and weld test (R214, R215) -/

theorem insRequest_allowed (modes : gateModes s = true) (ready : trackReady s g = true) (usable : outUsable s n = true)
    (off : energised s n = false) (connected : get (pgr s g).mtxFb n = true) (opened : (pout s n).ctrCmd = false)
    (idle : (pout s n).ins = .idle) (dead : deadOut s n = true)
    (fits : rdf s (opAddr n + 0x18) 16 12 * vr ≤ rdf s (opAddr n + 12) 0 11 * 2048) :
    insRequest n g vr s = ctrDrive n true (setOut n (fun o => { o with vrref := vr, ins := .closing, insGroup := g })
      ((carrying s n).foldl (fun a h => emptyGroup h (groupLegsOff h a)) s)) :=
  if_pos (by rw [modes, ready, usable, off, connected, opened, idle, dead, decide_eq_true fits]; rfl)

theorem execInsulationCheckEnd_holding (holding : (pout (s.at t) n).ins = .holding) : execInsulationCheckEnd t n s =
    .next { setOut n (fun o => { o with vrref := 0, ins := .discharging }) (s.at t) with
              vcl.port := upd (s.at t).vcl.port n fun p => { p with checked := true } } :=
  congrArg Host.Outcome.next (if_pos (by rw [holding]; rfl))

/-! ### The voltages read each microsecond (R215, R216, R218) -/

theorem pout_setOut_same {f : PwmOut → PwmOut} (output : n < 4) : pout (setOut n f s) n = f (pout s n) :=
  get_upd_same _ n f output

@[simp] theorem mval_setOut {f : PwmOut → PwmOut} : mval (setOut n f s) ch = mval s ch := rfl

theorem readVout_vout (output : n < 4) : (pout (readVout n bits s) n).vout = mval (readVout n bits s) (42 + n) :=
  congrArg PwmOut.vout (pout_setOut_same output)

theorem takeVout_vout (output : n < 4) :
    (pout (takeVout n bits vgs s) n).vout = mval (takeVout n bits vgs s) (42 + n) := by
  unfold takeVout
  rw [mval_setOut, pout_setOut_same output]
  exact readVout_vout output

/-- A reading within its limits that shows no load release and tests no weld ends what over-voltage stood, and a session past its
weld check goes on. -/
theorem judgeVout_quiet {v : State} (within : beyondOv w n = false)
    (cleared : v = setOut n (fun o => { o with ovRun := 0 }) (errCleared 2 0x11 n w)) (untested : (pout v n).weldTest = false)
    (steady : brakeRise v n (pout v n).vHist = false) : judgeVout n w = weldCheckDone n v := by
  subst cleared
  simp [judgeVout, within, untested, steady]

/-! ### Lost and frozen feedback (R221 to R224) -/

section
variable (used : mdatOn (s.at t) ch = true)
include used

theorem execFbLost_found (unflagged : (get (s.at t).pwm.mdat ch).lost = false) :
    execFbLost t ch s = .next (raiseError errFbLost ch (updStage (fbFlag ch false (s.at t)))) :=
  congrArg Host.Outcome.next ((if_neg (by rw [used]; decide)).trans (if_neg (Bool.eq_false_iff.1 unflagged)))

theorem execFbFrozen_found (unflagged : (get (s.at t).pwm.mdat ch).frozen = false) :
    execFbFrozen t ch s = .next (raiseError errFbFrozen ch (updStage (fbFlag ch true (s.at t)))) :=
  congrArg Host.Outcome.next ((if_neg (by rw [used]; decide)).trans (if_neg (Bool.eq_false_iff.1 unflagged)))

end

/-- A clock that was not flagged flags every channel in use that it samples and that is not lost yet. -/
theorem execMclkLost_found {on cs : List Nat} (sampled : on = (List.range 48).filter fun c => mclkOf c == k && mdatOn (s.at t) c)
    (new : cs = on.filter fun c => !(get (s.at t).pwm.mdat c).lost) (unflagged : get (s.at t).pwm.mclkLost k = false)
    (shown : w = on.foldl (fun a c => notGood c a) (s.at t)) : execMclkLost t k s =
      .next (raiseError errMclkLost k (updStage (cs.foldl (fun a c => fbFlag c false a)
        { w with pwm.mclkLost := upd w.pwm.mclkLost k fun _ => true }))) := by
  subst sampled new shown
  exact congrArg Host.Outcome.next (if_neg (by rw [unflagged]; exact Bool.false_ne_true))

/-- A flagged channel that reads clear ends its errors, and its clock's with the last of the clock's channels. -/
theorem execFbClear_flagged (flagged : fbFlagged (s.at t) ch = true) (cleared : w = errCleared 2 0x13 ch (errCleared 2 0x14 ch
      { s.at t with pwm.mdat := upd (s.at t).pwm.mdat ch fun m => { m with good := true } })) :
    execFbClear t ch s = .next (if mclkGood w (mclkOf ch) then errCleared 2 0x15 (mclkOf ch) w else w) := by
  subst cleared
  exact congrArg Host.Outcome.next (if_pos flagged)

end

/-- Settles O23: each clause is the case of its row that the guards leave. -/
theorem transitionRowsComplete : Obligations.TransitionRowsComplete := by
  intro t g n ts vr ch k bits vgs mode s u p
  refine ⟨?idleSample, ?sample, ?track, ?dwell, ?trackFail, ?check, ?checkEnd, ?weldEnd, ?read, ?vout, ?brakeEnd, ?brakeLong,
    ?lost, ?clock, ?frozen, ?clear, ?clockClear⟩
  case idleSample =>
    exact fun w sampled off => (execOutputLoopSample_resplit sampled).trans (congrArg _ (if_neg (Bool.eq_false_iff.1 off)))
  case sample => exact fun w sampled on => (execOutputLoopSample_resplit sampled).trans (congrArg _ (if_pos on))
  case track =>
    exact fun modes ready usable alone allowed => congrArg _ (trackRequest_allowed modes ready usable alone allowed)
  case dwell => exact execTrackDwellExpiry_coinOut
  case trackFail => exact fun w => execTrackFail_ratio
  case check =>
    exact fun modes ready usable off connected opened idle dead fits =>
      congrArg _ (insRequest_allowed modes ready usable off connected opened idle dead fits)
  case checkEnd => exact execInsulationCheckEnd_holding
  case weldEnd => exact fun testing => congrArg Host.Outcome.next (if_pos testing)
  case read =>
    rintro w v rfl within cleared untested steady
    exact congrArg Host.Outcome.next (judgeVout_quiet within cleared untested steady)
  case vout => exact takeVout_vout
  case brakeEnd => exact fun braking => congrArg Host.Outcome.next (if_pos braking)
  case brakeLong => exact fun braking => congrArg Host.Outcome.next (if_pos braking)
  case lost => exact execFbLost_found
  case clock => exact fun on cs w => execMclkLost_found
  case frozen => exact execFbFrozen_found
  case clear =>
    exact fun w flagged cleared standing =>
      (execFbClear_flagged flagged cleared).trans (congrArg _ (if_neg (Bool.eq_false_iff.1 standing)))
  case clockClear =>
    exact fun w flagged cleared recovered => (execFbClear_flagged flagged cleared).trans (congrArg _ (if_pos recovered))

end Sys2Proof.Machine
end

section
/-! Settles O26: what the sensors, the cable model, the life counters, the authentication and the CBL commands do in the case
their guards leave. -/

namespace Sys2Proof.Machine

section
variable {t n k line seq : Nat} {ts : List Int} {bad flow rec ctr : List Nat} {ack : List Bool} {present : Bool}
  {s w : State} {c : Cmd} {o : CblOp}

/-! ### Sensors and flow (R251, R260, R261) -/

/-- The readings of a conversion and the inputs it finds open or short. -/
def readingsTaken (ts : List Int) (bad : List Nat) (s : State) : State :=
  { s with cbl.ts := updAll s.cbl.ts fun k _ => ts.getD k 0,
           cbl.tsBad := updAll s.cbl.tsBad fun k _ =>
             bad.contains k || decide (ts.getD k 0 < -50000) || decide (250000 < ts.getD k 0) }

theorem execRtdConversion_active (active : (s.at t).dpx.role ≠ 2) : execRtdConversion t ts bad s =
    .next ((List.range 4).foldl (fun a n => checkTrip n (checkSensors n a)) (readingsTaken ts bad (s.at t))) :=
  if_neg (by simpa using active)

/-- A flow input is asked for where some output that uses it runs its pump. -/
theorem flowAsked_iff : flowAsked s k = true ↔ ∃ n < 4, flowOf s n = k ∧ 0 < pumpCmd s n := by
  simp [flowAsked]

theorem execFlowLost_asked (asked : flowAsked (s.at t) k = true) : execFlowLost t k s =
    .next ((List.range 4).foldl (fun a n => checkSensors n a)
      { s.at t with cbl.flowBad := upd (s.at t).cbl.flowBad k fun _ => true }) :=
  congrArg Host.Outcome.next (if_pos asked)

theorem execCblFlow_low (low : get (s.at t).cbl.flow (flowOf (s.at t) n) < flowMin (s.at t)) (pumped : 0 < pumpCmd (s.at t) n)
    (unflagged : (cbl (s.at t) n).flowLow = false) : execCblFlow t n s =
      .next (raiseError errCblFlow n (updThermal (setCbl n (fun o => { o with flowLow := true }) (s.at t)))) :=
  congrArg Host.Outcome.next (if_pos (by rw [decide_eq_true low, decide_eq_true pumped, unflagged]; rfl))

/-! ### Life counters (R264, R265) -/

/-- The chip has not answered a life write: its cable is to be authenticated again. -/
def lifeUnanswered (n : Nat) (s : State) : State :=
  raiseError errCblChip n (cblEvent n 7 (setCbl n (fun q => { q with chip := false, lifeDue := false, authRun := true }) s))

/-- A life write that is due stores what the chip answers, or finds no chip; a flush that waits for it then ends. -/
theorem execLifeWrite_due (auth : (cbl (s.at t) n).auth = true) (due : (cbl (s.at t) n).lifeDue = true) :
    execLifeWrite t n present ack ctr s = .next (if !present then lifeFinish n (lifeUnanswered n (s.at t))
      else lifeFinish n (lifeStore n ack ctr (s.at t))) :=
  congrArg Host.Outcome.next (if_neg (by rw [auth, due]; exact Bool.false_ne_true))

/-! ### Authentication (R252 to R255) -/

section
variable (asked : (cbl (s.at t) n).authRun = true) (read : o = { cbl (s.at t) n with record := rec, ctr := ctr, chip := true })
  (valid : recordOk o = true) (keyed : (get (s.at t).key.slots (issuerSlot (s.at t) (o.fld 3 1))).filled = true)
include asked read valid keyed

/-- A chip that answers with a signed record and meets its challenge is authenticated, at the level of its serial number. -/
theorem execCableAuthComplete_met : execCableAuthComplete t n true true true rec ctr s =
    .next (authDone n (setCbl n (fun x =>
      { x with record := rec, ctr := ctr, chip := true,
               level := if (cbl (s.at t) n).serial == (rec.drop 8).take 16 then (cbl (s.at t) n).level else 0, auth := true })
      (challengeChip n (readRecord n (s.at t))))) := by
  subst read
  refine congrArg Host.Outcome.next
    ((if_neg (by rw [asked]; decide)).trans ((if_neg (by decide)).trans ((if_neg ?accepted).trans (if_neg (by decide)))))
  rw [valid, keyed]
  decide

/-- The chip of another cable starts at level 0. -/
theorem execCableAuthComplete_other (other : (cbl (s.at t) n).serial ≠ (rec.drop 8).take 16) :
    execCableAuthComplete t n true true true rec ctr s =
      .next (authDone n (setCbl n (fun x => { x with record := rec, ctr := ctr, chip := true, level := 0, auth := true })
        (challengeChip n (readRecord n (s.at t))))) := by
  rw [execCableAuthComplete_met asked read valid keyed, if_neg (by simpa using other)]

end

/-! ### The coolant message (R263) -/

theorem execCoolCanResend_routed (routed : bits (rdw (s.at t) (baseCBL + 0x400 + 8 * k)) 0 2 = 3) : execCoolCanResend t k s =
    .next (coolSend (4 + b2n (bit (rdw (s.at t) (baseCBL + 0x400 + 8 * k)) 2))
      (bits (rdw (s.at t) (baseCBL + 0x400 + 8 * k)) 3 7) (get (s.at t).cbl.cool k) (s.at t)) :=
  congrArg Host.Outcome.next (if_pos (by rw [routed]; rfl))

/-! ### The cable commands (R271, R507) -/

theorem execCblRecordRead_inRange (starts : Starts line seq 0x0602 (s.at t) c) (output : ¬4 ≤ c.param 8 1) :
    execCblRecordRead t line seq s = .next (doneOut c []
      (((cbl (s.at t) (c.param 8 1)).record ++ List.replicate 320 0).take 320
        ++ ((cbl (s.at t) (c.param 8 1)).ctr ++ List.replicate 24 0).take 24
        ++ ((cbl (s.at t) (c.param 8 1)).pend.toList.map fun x => leBytes 8 (x * 2 ^ 32).floor.toNat).flatten) (s.at t)) :=
  congrArg _ ((runCmd_free starts).trans (if_neg output))

theorem execCblAuth_inRange (starts : Starts line seq 0x0603 (s.at t) c) (output : ¬4 ≤ c.param 8 1) :
    execCblAuth t line seq s =
      .next (setCbl (c.param 8 1) (fun o => { o with authRun := true, authJob := some (line, seq) }) (s.at t)) :=
  congrArg _ ((runCmd_free starts).trans (if_neg output))

theorem execCblLifeFlush_inRange (starts : Starts line seq 0x0604 (s.at t) c) (allowed : flushIllegal c (s.at t) = false)
    (output : ¬4 ≤ c.param 8 1) : execCblLifeFlush t line seq s = .next (accept c []
      (lifeBegin (c.param 8 1) (setCbl (c.param 8 1) (fun o => { o with flushJob := some (line, seq) }) (s.at t)))) :=
  congrArg _ ((runCmd_starts starts allowed).trans (if_neg output))

/-! ### The model step (R251, R257) -/

/-- A model step has taken the flows; an input that reads again, or that no pump asks for, has failed no longer. -/
def flowsTaken (flow : List Nat) (s : State) : State :=
  (List.range 4).foldl (fun a n => flowBack n (checkSensors n a))
    { s with cbl.flow := updAll s.cbl.flow fun k _ => flow.getD k 0,
             cbl.flowBad := updAll s.cbl.flowBad fun k b => b && flow.getD k 0 == 0 && flowAsked s k }

theorem execCableModelStep_active (taken : w = flowsTaken flow (takeNeutral [0x40] (s.at t))) (active : w.dpx.role ≠ 2) :
    execCableModelStep t flow s = .next ((List.range 4).foldl (fun a n => modelStep n a) w) := by
  unfold flowsTaken at taken
  simp only [execCableModelStep, ← taken]
  rw [if_neg (by simpa using active)]

end

/-- Settles O26: each clause is the case of its row that the guards leave. -/
theorem cablesComplete : Obligations.CablesComplete := by
  intro t n k line seq ts bad flow rec ctr ack s c u
  refine ⟨?conversion, ?flowLost, ?flowLow, ?lifeNoChip, ?lifeStored, ?hourly, ?pendingSave, ?authenticated, ?resend, ?status,
    ?recordRead, ?auth, ?flush, ?model⟩
  case conversion => exact execRtdConversion_active
  case flowLost => exact fun uses pumped => execFlowLost_asked (flowAsked_iff.2 ⟨0, by decide, uses, pumped⟩)
  case flowLow => exact execCblFlow_low
  case lifeNoChip => exact fun auth due => (execLifeWrite_due auth due).trans (congrArg _ (if_pos rfl))
  case lifeStored => exact fun auth due => (execLifeWrite_due auth due).trans (congrArg _ (if_neg Bool.false_ne_true))
  case hourly => exact fun auth => congrArg Host.Outcome.next (if_pos auth)
  case pendingSave => rfl
  case authenticated =>
    rintro w rfl asked keyed valid other
    exact execCableAuthComplete_other asked rfl valid keyed other
  case resend => exact execCoolCanResend_routed
  case status => exact fun starts => congrArg _ (runCmd_free starts)
  case recordRead => exact execCblRecordRead_inRange
  case auth => exact execCblAuth_inRange
  case flush => exact execCblLifeFlush_inRange
  case model =>
    rintro w v rfl taken active
    exact execCableModelStep_active taken active

end Sys2Proof.Machine
end

section
/-! Settles O28 and O27: what the rows of the MXP chain, the supply banks and the load-switch channels do in the case their
guards leave, and what the LSW commands do once they start. -/

namespace Sys2Proof.Machine

section
variable {t ch line seq : Nat} {words : List Nat} {s : State} {c : Cmd}

/-! ### The MXP chain (R288 to R291) -/

/-- No reason to leave a frame out: the control die runs, the chain has stations and no boundary test holds the pins. -/
theorem mxpShifts (runs : ¬s.sys.mode.num < 3) (stations : nStations s ≠ 0) (free : s.dbg.ir ≠ 3) :
    (decide (s.sys.mode.num < 3) || nStations s == 0 || s.dbg.ir == 3) = false := by
  rw [decide_eq_false runs, beq_false_of_ne stations, beq_false_of_ne free]
  rfl

/-- An active device sends its frame and judges every station; one bad word makes the frame bad. -/
theorem execMxpFrame_active (runs : ¬(s.at t).sys.mode.num < 3) (stations : nStations (s.at t) ≠ 0)
    (free : (s.at t).dbg.ir ≠ 3) (active : (s.at t).sys.mode ≠ .m7) : execMxpFrame t words s =
      if (frameWords (s.at t) words).all fun y => y.2.isSome then
        .next (sweepLsw { judgeFrame true words (sendMxp (s.at t)) with lsw.badRun := 0 })
      else .next (sweepLsw (countBadFrame (judgeFrame true words (sendMxp (s.at t))))) :=
  (if_neg (by rw [mxpShifts runs stations free]; exact Bool.false_ne_true)).trans (if_neg (by simpa using active))

/-- A standby sends no frame and only listens. -/
theorem execMxpFrame_standby (stations : nStations (s.at t) ≠ 0) (free : (s.at t).dbg.ir ≠ 3)
    (standby : (s.at t).sys.mode = .m7) : execMxpFrame t words s = .next (judgeFrame false words (s.at t)) :=
  (if_neg (by rw [mxpShifts (by rw [standby]; decide) stations free]; exact Bool.false_ne_true)).trans
    (if_pos (by rw [standby]; rfl))

/-- A bad frame that is not the third in a row is only counted. -/
theorem countBadFrame_counts (notThird : s.lsw.badRun ≠ 2) :
    countBadFrame s = { s with lsw.badRun := min 3 (s.lsw.badRun + 1) } :=
  if_neg (by simpa using notThird)

/-- The third bad frame in a row raises the chain error. -/
theorem countBadFrame_third (third : s.lsw.badRun = 2) :
    countBadFrame s = raiseRun errMxpChain 0 (fireEvent 272 { s with lsw.badRun := 3 }) := by
  simp [countBadFrame, third]

/-! ### The LSW commands (R295, R507) -/

section
variable (starts : Starts line seq 0x0703 (s.at t) c) (allowed : lswClearIllegal c (s.at t) = false)
  (inRange : ¬32 ≤ c.param 8 1)
include starts allowed inRange

/-- LSW_CLEAR with WHAT 1 ends a clamp lock that stands. -/
theorem execLswClear_clampLock (what : c.param 9 1 = 1) (locked : (lch (s.at t) (c.param 8 1)).clampLock = true) :
    execLswClear t line seq s = .next (done c [] (sweepLsw (lswReturn (c.param 8 1) (lswEvent (c.param 8 1)
      (setCh (c.param 8 1) (fun x => { x with clampLock := false }) (s.at t)))))) :=
  congrArg _ ((runCmd_starts starts allowed).trans ((if_neg inRange).trans ((if_pos what).trans
    (congrArg (fun v => done c [] (sweepLsw v)) (if_pos locked)))))

/-- LSW_CLEAR with WHAT 2 gives a channel that has spent its attempts all of them again. -/
theorem execLswClear_retrySpent (what : c.param 9 1 = 2) (spent : (lch (s.at t) (c.param 8 1)).retrySpent = true) :
    execLswClear t line seq s = .next (done c [] (sweepLsw (lswReturn (c.param 8 1) (lswEvent (c.param 8 1)
      (setCh (c.param 8 1) (fun x =>
        { x with retrySpent := false, retries := 0, retryFrom := if x.thermal then x.retryFrom else none }) (s.at t)))))) :=
  congrArg _ ((runCmd_starts starts allowed).trans ((if_neg inRange).trans ((if_neg (by rw [what]; decide)).trans
    ((if_pos what).trans (congrArg (fun v => done c [] (sweepLsw v)) (if_pos spent))))))

end

end

/-- Settles O28: each clause is the case of its row or command that the guards leave. -/
theorem mxpChainAndLoadCommandsComplete : Obligations.MxpChainAndLoadCommandsComplete := by
  intro t ch line seq words s c u
  refine ⟨?goodFrame, ?badFrame, ?counted, ?third, ?standby, ?pickup, ?status, ?set, ?clampLock, ?retrySpent, ?chain⟩
  case goodFrame =>
    exact fun runs stations free active good => (execMxpFrame_active runs stations free active).trans (if_pos good)
  case badFrame =>
    exact fun runs stations free active bad =>
      (execMxpFrame_active runs stations free active).trans (if_neg (ne_true_of_eq_false bad))
  case counted => exact countBadFrame_counts
  case third => exact countBadFrame_third
  case standby => exact execMxpFrame_standby
  case pickup => exact fun driven => if_pos driven
  case status => exact fun starts => congrArg _ (runCmd_free starts)
  case set =>
    rintro w rfl starts allowed
    exact congrArg _ (runCmd_starts starts allowed)
  case clampLock =>
    rintro n rfl starts allowed inRange what locked
    exact execLswClear_clampLock starts allowed inRange what locked
  case retrySpent =>
    rintro n rfl starts allowed inRange what spent
    exact execLswClear_retrySpent starts allowed inRange what spent
  case chain => exact fun starts => congrArg _ (runCmd_free starts)

section
variable {t bank ch owner ma energy acc : Nat} {on limiting : Bool} {s w : State}

/-! ### Banks (R273) -/

/-- The channels of a bank that are on turn off as it leaves its range; the last bank takes the keeper's supply with it. -/
theorem execBankUndervoltage_next
    (fallen : w = ((bankChannels bank).filter fun n => (lch (s.at t) n).on).foldl (fun a n => turnOff n a)
      { s.at t with lsw.good := upd (s.at t).lsw.good bank fun _ => false,
                    lsw.uv := upd (s.at t).lsw.uv bank fun _ => true }) :
    execBankUndervoltage t bank s = .next (sweepLsw
      (((bankChannels bank).filter fun n => (lch (s.at t) n).on).foldl (fun a n => ctrLost n true a)
        (raiseLim .supply (raiseRun errBankUv bank (if w.lsw.good.toList.any id then w else keeperLost w))))) := by
  subst fallen
  rfl

/-! ### Commands and current limiting (R274, R276) -/

theorem execLswCommand_owner (runs : 3 ≤ (s.at t).sys.mode.num) (owns : owner = lswOwner (s.at t) ch) :
    execLswCommand t ch owner on s = .next (sweepLsw (lswDrive ch on (s.at t))) :=
  if_pos (by rw [decide_eq_true runs, beq_iff_eq.2 owns]; rfl)

/-- A channel that starts or ends limiting has its fault bits changed. -/
theorem execLswCurrentLimit_changes (conducts : (lch (s.at t) ch).on = true) (changed : (lch (s.at t) ch).limiting = !limiting) :
    execLswCurrentLimit t ch limiting ma s =
      .next (lswEvent ch (setCh ch (fun x => { x with limiting := limiting, current := ma }) (s.at t))) := by
  simp [execLswCurrentLimit, conducts, changed]

theorem execLswCurrentLimit_stays (unlimited : (lch (s.at t) ch).limiting = false) :
    execLswCurrentLimit t ch false ma s =
      .next (setCh ch (fun x => { x with limiting := false, current := ma }) (s.at t)) := by
  simp [execLswCurrentLimit, unlimited]

/-! ### Thermal shutdown and restart (R276 to R278) -/

/-- A channel that its temperature turned off: latched, with a restart pending where it is commanded on. -/
def thermalOff (ch : Nat) (spent : Bool) (s : State) : State :=
  turnOff ch (setCh ch (fun x =>
    { x with thermal := true, retrySpent := x.retrySpent || spent,
             retryFrom := if x.cmd then some (realNow s) else x.retryFrom }) s)

section
variable (used : lswMode (s.at t) ch ≠ 0) (commanded : (lch (s.at t) ch).cmd = true)
include used commanded

/-- The shutdown of a commanded channel, by whether its attempts are spent. -/
theorem execLswThermalShutdown_commanded {spent : Bool}
    (attempts : decide (retryN (s.at t) ch ≤ (lch (s.at t) ch).retries) = spent) :
    execLswThermalShutdown t ch s = .next (sweepLsw (ctrLost ch (lch (s.at t) ch).on
      (if spent && !(lch (s.at t) ch).retrySpent then
        raiseRun errRetrySpent ch (raiseRun errLswThermal ch (lswEvent ch (thermalOff ch spent (s.at t))))
       else raiseRun errLswThermal ch (lswEvent ch (thermalOff ch spent (s.at t)))))) := by
  have decided : (decide (retryN (s.at t) ch ≤ (lch (s.at t) ch).retries) && (lch (s.at t) ch).cmd) = spent := by
    rw [attempts, commanded, Bool.and_true]
  refine (if_neg (by simpa using used)).trans ?_
  simp only [decided]
  rfl

theorem execLswThermalShutdown_retries (left : ¬retryN (s.at t) ch ≤ (lch (s.at t) ch).retries) :
    execLswThermalShutdown t ch s = .next (sweepLsw (ctrLost ch (lch (s.at t) ch).on
      (raiseRun errLswThermal ch (lswEvent ch (thermalOff ch false (s.at t)))))) := by
  rw [execLswThermalShutdown_commanded used commanded (decide_eq_false left), if_neg (by simp)]

theorem execLswThermalShutdown_spent (spent : retryN (s.at t) ch ≤ (lch (s.at t) ch).retries)
    (fresh : (lch (s.at t) ch).retrySpent = false) :
    execLswThermalShutdown t ch s = .next (sweepLsw (ctrLost ch (lch (s.at t) ch).on
      (raiseRun errRetrySpent ch (raiseRun errLswThermal ch (lswEvent ch (thermalOff ch true (s.at t))))))) := by
  rw [execLswThermalShutdown_commanded used commanded (decide_eq_true spent), if_pos (by rw [fresh]; rfl)]

end

/-- A restart that is due while its bank is good is one attempt. -/
theorem lswRestart_due (due : retryDue s ch = true) (good : get s.lsw.good (lswBank ch) = true)
    (up : get s.lsw.uv (lswBank ch) = false) :
    lswRestart ch s = lswReturn ch (setCh ch (fun x => { x with retryFrom := none, retries := x.retries + 1 }) s) :=
  if_pos (by rw [due, good, up]; rfl)

/-! ### Open load (R279) -/

theorem execLswOpenLoad_found (detects : openLoadOn (s.at t) ch = true) (fresh : (lch (s.at t) ch).openLoad = false) :
    execLswOpenLoad t ch s =
      .next (raiseRun errOpenLoad ch (lswEvent ch (setCh ch (fun x => { x with openLoad := true }) (s.at t)))) :=
  if_pos (by rw [detects, fresh]; rfl)

/-! ### The clamp account (R280) -/

section
variable (account : acc = clampNow (s.at t) ch + energy * 100000000)
  (joined : w = setCh ch (fun x => { x with clampAcc := acc, clampAt := realNow (s.at t) }) (s.at t))
include account joined

theorem execLswTurnOffClamp_within (within : ¬clampCap (s.at t) ch < acc) : execLswTurnOffClamp t ch energy s = .next w := by
  subst account joined
  exact if_neg (by rw [decide_eq_false within]; exact Bool.false_ne_true)

/-- Above CLAMP_CAP a channel in use that is not locked locks off. -/
theorem execLswTurnOffClamp_locks (above : clampCap (s.at t) ch < acc) (used : lswMode (s.at t) ch ≠ 0)
    (unlocked : (lch (s.at t) ch).clampLock = false) : execLswTurnOffClamp t ch energy s =
      .next (sweepLsw (ctrLost ch (lch (s.at t) ch).on (raiseRun errClampLock ch (lswEvent ch (turnOff ch
        (setCh ch (fun x => { x with clampLock := true, retryFrom := none }) w)))))) := by
  subst account joined
  exact if_pos (by rw [decide_eq_true above, bne_iff_ne.2 used, unlocked]; rfl)

end

end

/-- Settles O27: each clause is the case of its row that the guards leave. -/
theorem loadSwitchRowsComplete : Obligations.LoadSwitchRowsComplete := by
  intro t bank ch owner ma energy p on s u c
  refine ⟨?undervoltage, ?recovery, ?command, ?limits, ?limitsEnd, ?unlimited, ?shutdown, ?lastShutdown, ?release, ?retry,
    ?countReset, ?openLoad, ?openLoadClear, ?clamp, ?period, ?pickup⟩
  case undervoltage =>
    rintro up w rfl fallen
    refine ⟨fun supplied => ?_, fun lost => ?_⟩
    · exact (execBankUndervoltage_next fallen).trans (by rw [if_pos supplied])
    · exact (execBankUndervoltage_next fallen).trans (by rw [if_neg (ne_true_of_eq_false lost)])
  case recovery => rintro w rfl; rfl
  case command => exact execLswCommand_owner
  case limits => exact fun conducts unlimited => execLswCurrentLimit_changes conducts unlimited
  case limitsEnd => exact fun conducts limited => execLswCurrentLimit_changes conducts limited
  case unlimited => exact execLswCurrentLimit_stays
  case shutdown => exact execLswThermalShutdown_retries
  case lastShutdown => exact execLswThermalShutdown_spent
  case release => exact fun latched => if_pos latched
  case retry => exact fun due good up => congrArg (fun v => Host.Outcome.next (sweepLsw v)) (lswRestart_due due good up)
  case countReset => exact fun runs => congrArg Host.Outcome.next (if_pos runs)
  case openLoad => exact execLswOpenLoad_found
  case openLoadClear => exact fun found => if_pos found
  case clamp =>
    exact fun acc w account joined =>
      ⟨execLswTurnOffClamp_within account joined, execLswTurnOffClamp_locks account joined⟩
  case period => rfl
  case pickup => exact fun picking => if_pos picking

end Sys2Proof.Machine
end

section
/-! Settles O6 from what one step reaches, O1 by the definition of a step, and O58 by reading the state after reset. -/

namespace Sys2Proof.Machine

/-! ### The life cycle (R416, R417) -/

/-- A device is in END where the fuse of END is burned, whatever the others hold. -/
theorem lifeCycle_end_iff {s : State} : lifeCycle s = 5 ↔ s.key.fEnd = true := by
  unfold lifeCycle
  split_ifs with ended <;> simp [ended]

/-- Settles O6: `Reaches` carries the burned fuses along what a step runs, and END is one of them. -/
theorem fusesStayBurned : Obligations.FusesStayBurned := by
  intro s s' h
  obtain ⟨prov, field, ret, endBurned, count⟩ := (step_reaches h).fuses
  exact ⟨⟨prov, field, ret, endBurned, count⟩, fun ended => lifeCycle_end_iff.2 (endBurned (lifeCycle_end_iff.1 ended))⟩

/-- Settles O1: the step looks at the queue of waiting commands alone. -/
theorem stepRunsTheFrontCommand : Obligations.StepRunsTheFrontCommand := by
  refine ⟨fun c rest s waiting => ?_, fun s idle => ?_⟩
  · rw [step, waiting]
    rfl
  · rw [step, idle]

/-! ### Registers after reset (R7, R103) -/

/-- Every item of a fresh collection is the fresh item, and so is what stands beyond its end. -/
theorem get_replicate {α : Type} [Inhabited α] {k : Nat} {x : α} (fresh : x = default) (n : Nat) :
    get (Vector.replicate k x) n = x := by
  unfold get
  split
  · exact Vector.getElem_replicate ..
  · exact fresh.symm

/-- After reset no source is pending, so none is eligible at any target. -/
theorem eligibleList_reset (t : Nat) : eligibleList State.reset t = [] := by
  refine List.filter_eq_nil_iff.2 fun n _ => ?_
  have quiet : get State.reset.evg.src n = {} := get_replicate rfl n
  simp only [eligible, quiet]
  exact Bool.false_ne_true

/-- EVG_T0_STAT gives a target that runs nothing. -/
theorem tgtStatWord_reset : tgtStatWord State.reset 0 = 0x200 := by
  unfold tgtStatWord
  rw [eligibleList_reset]
  decide

theorem readWord_evgT0Stat (s : State) : readWord s 0x40011008 = tgtStatWord s 0 := by
  simp [readWord, show regionOf 0x40011008 = .periph by decide, blockRead, evgRead]

/-- Settles O58: EVG_T0_STAT by the sources that are not pending, the other registers by the fields they show. -/
theorem resetRegisterValues : Obligations.ResetRegisterValues := by
  unfold Obligations.ResetRegisterValues
  simp only [List.map_cons, List.map_nil, readWord_evgT0Stat, tgtStatWord_reset]
  decide

end Sys2Proof.Machine
end

section
/-! Settles O31 and O32: what the rows of the CAN controllers do in the case their guards leave, and what the CAN commands do
once they start. -/

namespace Sys2Proof.Machine

section
variable {t c obj lec line seq : Nat} {f : CanFrame} {sof : Option Nat} {s : State} {k : Cmd}

/-! ### Receiving (R323, R326) -/

section
variable (conf : (canc (s.at t) c).conf ≠ 2) (joined : (canc (s.at t) c).excepted = false)
include conf joined

/-- A controller in normal or monitoring mode that takes part on its bus receives. -/
theorem execCanFrameRx_receives (mode : canMode (s.at t) c = 1 ∨ canMode (s.at t) c = 2) : execCanFrameRx t c f s =
    .next (if f.fdf && !canFd (s.at t) c then rxError c 2 false (s.at t)
    else if f.remote then
      if canMode (s.at t) c == 1 then goodRx c (setCan c (fun x => { x with frames := (x.frames + 1) % 65536 }) (s.at t))
      else setCan c (fun x => { x with frames := (x.frames + 1) % 65536 }) (s.at t)
    else placeFrame c f
      (if canMode (s.at t) c == 1 then goodRx c (setCan c (fun x => { x with frames := (x.frames + 1) % 65536 }) (s.at t))
      else setCan c (fun x => { x with frames := (x.frames + 1) % 65536 }) (s.at t))) :=
  congrArg Host.Outcome.next (if_pos (by simp [mode, conf, joined]))

/-- A data frame of a format the controller knows is counted and placed; only normal mode lowers its counters. -/
theorem execCanFrameRx_placed (mode : canMode (s.at t) c = 1 ∨ canMode (s.at t) c = 2)
    (known : (f.fdf && !canFd (s.at t) c) = false) (data : f.remote = false) : execCanFrameRx t c f s =
    .next (placeFrame c f
      (if canMode (s.at t) c == 1 then goodRx c (setCan c (fun x => { x with frames := (x.frames + 1) % 65536 }) (s.at t))
      else setCan c (fun x => { x with frames := (x.frames + 1) % 65536 }) (s.at t))) := by
  rw [execCanFrameRx_receives conf joined mode, known, data]
  rfl

end

/-! ### Sending and errors (R328, R330, R332) -/

/-- A controller on its bus that is sending. -/
theorem sendingOnBus (sending : (canc s c).txing = some obj) (bus : onBus s c = true) :
    ((canc s c).txing.isSome && onBus s c) = true := by
  rw [sending, bus]
  rfl

/-- A frame sent outside loopback goes to no receive object of its own controller. -/
theorem execCanTxDone_sent {at' : Nat} {next : Option Nat} (sending : (canc (s.at t) c).txing = some obj)
    (external : canMode (s.at t) c ≠ 3) : execCanTxDone t c obj at' next s =
    .next (beginSof c next (answerCancel c obj 1 (canEvent c 1 (confine c (endLone c
      (setCan c (fun y => { y with txing := none, tec := y.tec - 1, cancels := y.cancels.filter (· != obj) })
        { objPut c obj 2 true (objPut c obj 1 false (objPut c obj 0 false (s.at t))) with
          mem := memWrite (objPut c obj 2 true (objPut c obj 1 false (objPut c obj 0 false (s.at t)))).mem
            (objAddr c obj + 16) 8 at' })))))) :=
  congrArg Host.Outcome.next ((if_pos (by simp [sending])).trans
    (congrArg (beginSof c next) (if_neg (by simpa using external))))

/-! ### Recovery (R331) -/

theorem startRecovery_busoff (busoff : (canc s c).conf = 2) :
    startRecovery c s = setCan c (fun x => { x with recovering := true }) s :=
  if_pos (beq_iff_eq.2 busoff)

/-! ### The CAN commands (R337, R507) -/

theorem execCanObjRead_inRange (starts : Starts line seq 0x0902 (s.at t) k) (ctl : ¬6 ≤ k.param 8 1) (first : ¬128 ≤ k.param 9 1)
    (some : k.param 10 1 ≠ 0) (last : ¬128 < k.param 9 1 + k.param 10 1) : execCanObjRead t line seq s =
    .next (doneOut k [] (memBytes (s.at t).mem (objAddr (k.param 8 1) (k.param 9 1)) (96 * k.param 10 1)) (s.at t)) :=
  congrArg _ ((runCmd_free starts).trans ((if_neg ctl).trans ((if_neg first).trans (if_neg (by simpa using ⟨some, Nat.le_of_not_lt last⟩)))))

section
variable (allowed : canForeign true k (s.at t) = false) (ctl : ¬6 ≤ k.param 8 1) (first : ¬128 ≤ k.param 9 1)
include allowed ctl first

theorem execCanObjWrite_inRange (starts : Starts line seq 0x0903 (s.at t) k) (size : k.data.length = 96)
    (send : ¬2 ≤ k.param 10 1) : execCanObjWrite t line seq s =
    .next (done k [] (if k.param 10 1 == 1 then
      requestSend (k.param 8 1) (k.param 9 1) (writeObject (k.param 8 1) (k.param 9 1) k.data (s.at t))
    else writeObject (k.param 8 1) (k.param 9 1) k.data (s.at t))) :=
  congrArg _ ((runCmd_starts starts allowed).trans ((if_neg ctl).trans ((if_neg first).trans ((if_neg send).trans
    (if_neg (by simpa using size))))))

theorem execCanTxCancel_inRange (starts : Starts line seq 0x0904 (s.at t) k)
    (send : isSend (s.at t) (k.param 8 1) (k.param 9 1) = true) : execCanTxCancel t line seq s =
    .next (if (canc (s.at t) (k.param 8 1)).txing == some (k.param 9 1) then
      setCan (k.param 8 1) (fun x => { x with job := some (k.param 9 1, line, seq) })
        (cancelObj (k.param 8 1) (k.param 9 1) (s.at t))
    else done k [b2n (!objBit (s.at t) (k.param 8 1) (k.param 9 1) 0 && objBit (s.at t) (k.param 8 1) (k.param 9 1) 2)]
      (cancelObj (k.param 8 1) (k.param 9 1) (s.at t))) :=
  congrArg _ ((runCmd_starts starts allowed).trans ((if_neg ctl).trans ((if_neg first).trans (if_neg (by rw [send]; decide)))))

end

end

/-- Settles O31: each clause is the case of its row that the guards leave. -/
theorem canRowsComplete : Obligations.CanRowsComplete := by
  intro t c obj ofs k word lec m f sof next at' by8 s u x
  refine ⟨?normal, ?monitoring, ?badFormat, ?lockRead, ?rxinfoRead, ?lockExpired, ?request, ?cancel, ?sent, ?arbitration, ?ack,
    ?sendError, ?receiveError, ?recover, ?recovered, ?exception, ?integration, ?modeSwitch⟩
  case normal =>
    intro mode conf joined known data
    refine (execCanFrameRx_placed conf joined (.inl mode) known data).trans ?_
    rw [mode]
    rfl
  case monitoring =>
    intro mode conf joined known data
    refine (execCanFrameRx_placed conf joined (.inr mode) known data).trans ?_
    rw [mode]
    rfl
  case badFormat =>
    exact fun mode conf joined bad =>
      (execCanFrameRx_receives conf joined (.inl mode)).trans (congrArg Host.Outcome.next (if_pos bad))
  case lockRead => rfl
  case rxinfoRead => rfl
  case lockExpired => exact fun recv locked held => congrArg Host.Outcome.next (if_pos (by rw [recv, locked, held]; rfl))
  case request =>
    exact fun owner => congrArg (fun v => Host.Outcome.next (beginSof c sof v)) (if_pos (beq_iff_eq.2 owner))
  case cancel => rfl
  case sent => rintro w rfl sending external; exact execCanTxDone_sent sending external
  case arbitration | ack | sendError =>
    exact fun sending bus =>
      congrArg (fun v => Host.Outcome.next (beginSof c sof v)) (if_pos (sendingOnBus sending bus))
  case receiveError =>
    exact fun on => congrArg (fun v => Host.Outcome.next (beginSof c sof v)) (if_neg (by simpa using on))
  case recover =>
    exact fun owner busoff =>
      congrArg Host.Outcome.next ((if_pos (beq_iff_eq.2 owner)).trans (startRecovery_busoff busoff))
  case recovered =>
    rintro w rfl busoff counting
    exact congrArg Host.Outcome.next (if_pos (by rw [counting, Bool.and_true]; exact beq_iff_eq.2 busoff))
  case exception => exact fun on fd => congrArg Host.Outcome.next (if_pos (by rw [fd, Bool.and_true]; exact bne_iff_ne.2 on))
  case integration => rfl
  case modeSwitch => exact fun due => congrArg Host.Outcome.next (if_pos due)

/-- Settles O32: each clause is the case of its command that the checks before its effect leave. -/
theorem canCommandsComplete : Obligations.CanCommandsComplete := by
  intro t line seq s k u c m n
  refine ⟨?status, ?read, ?write, ?cancelSending, ?cancelWaiting, ?recover⟩
  case status => exact fun starts => congrArg _ (runCmd_free starts)
  case read => exact execCanObjRead_inRange
  case write =>
    intro starts allowed ctl first size
    refine ⟨fun none => ?_, fun one => ?_⟩
    · refine (execCanObjWrite_inRange allowed ctl first starts size (by omega)).trans ?_
      exact congrArg (fun v => Host.Outcome.next (done k [] v)) (if_neg (by simp [show k.param 10 1 = 0 from none]))
    · refine (execCanObjWrite_inRange allowed ctl first starts size (by omega)).trans ?_
      exact congrArg (fun v => Host.Outcome.next (done k [] v)) (if_pos (beq_iff_eq.2 one))
  case cancelSending =>
    exact fun starts allowed ctl first send sending =>
      (execCanTxCancel_inRange allowed ctl first starts send).trans (congrArg _ (if_pos (beq_iff_eq.2 sending)))
  case cancelWaiting =>
    exact fun starts allowed ctl first send waiting =>
      (execCanTxCancel_inRange allowed ctl first starts send).trans (congrArg _ (if_neg (by simpa using waiting)))
  case recover =>
    exact fun starts allowed ctl busoff => congrArg _ ((runCmd_starts starts allowed).trans ((if_neg ctl).trans
      (congrArg (done k []) (startRecovery_busoff busoff))))

end Sys2Proof.Machine
end

section
/-! Settles O29 and O30: what the rows of the vehicle ports do in the case their guards leave, and what the VEH commands do once
they start. -/

namespace Sys2Proof.Machine

section
variable {t n line seq : Nat} {s : State} {c : Cmd}

/-! ### Proximity and SLAC (R303, R304) -/

/-- The band last read is accepted with the meaning `m`. -/
def bandAccepted (n m : Nat) (s : State) : State :=
  vclEvent n 1 (setPrt n (fun q => { q with band := q.bandNew, meaning := m }) s)

section
variable (settled : ¬(s.at t).now < (prt (s.at t) n).bandSince + 20000000)
  (changed : (prt (s.at t) n).bandNew ≠ (prt (s.at t) n).band)
include settled changed

/-- Another band that has stood for 20 ms is accepted, and its meaning decides what follows. -/
theorem execPpBandAccept_changed : execPpBandAccept t n s =
      (let m := ppMeaning (s.at t) (prt (s.at t) n).bandNew
       let w := bandAccepted n m (s.at t)
       if m == 0 then .next (if (prt (s.at t) n).sess != 0 then ppNone n w else w)
       else if m == 1 then .next (if (prt (s.at t) n).meaning != 1 then ppConnected n w else w)
       else .next (proximityGuard n w)) := by
  have due : ¬(decide ((s.at t).now < (prt (s.at t) n).bandSince + 20000000) || ((prt (s.at t) n).bandNew == (prt (s.at t) n).band
      && ppMeaning (s.at t) (prt (s.at t) n).bandNew == (prt (s.at t) n).meaning)) = true := by
    rw [decide_eq_false settled, beq_false_of_ne changed]
    exact Bool.false_ne_true
  simp only [execPpBandAccept, bandAccepted]
  rw [if_neg due, if_pos (bne_iff_ne.2 changed)]

theorem execPpBandAccept_connected (connects : ppMeaning (s.at t) (prt (s.at t) n).bandNew = 1)
    (other : (prt (s.at t) n).meaning ≠ 1) : execPpBandAccept t n s = .next (ppConnected n (bandAccepted n 1 (s.at t))) := by
  rw [execPpBandAccept_changed settled changed, connects]
  exact congrArg Host.Outcome.next (if_pos (bne_iff_ne.2 other))

theorem execPpBandAccept_none (none : ppMeaning (s.at t) (prt (s.at t) n).bandNew = 0) (session : (prt (s.at t) n).sess ≠ 0) :
    execPpBandAccept t n s = .next (ppNone n (bandAccepted n 0 (s.at t))) := by
  rw [execPpBandAccept_changed settled changed, none]
  exact congrArg Host.Outcome.next (if_pos (bne_iff_ne.2 session))

end

theorem execSlacMessage_start (basic : connType (s.at t) n = 1) (duty : (prt (s.at t) n).duty = 50) (pilot : (prt (s.at t) n).pilot = 1)
    (idle : (prt (s.at t) n).slac = 0) (tries : (prt (s.at t) n).slacTries < 3) : execSlacMessage t n .start s =
      .next (setPrt n (fun q => { q with slac := 1, slacTries := q.slacTries + 1 }) (s.at t)) :=
  congrArg Host.Outcome.next (if_pos (by simp [basic, duty, pilot, idle, tries]))

/-! ### Protocols, precharge and the wait for readiness (R298, R306, R307) -/

section
variable {k : Nat} {offers : List (Nat × Nat)} (handshake : (prt (s.at t) n).sess = 2) (pilot : hasPilot (s.at t) n = true)
include handshake pilot

theorem execAppProtocolRequest_handshake : execAppProtocolRequest t n offers s = .next (match bestProto (s.at t) n offers with
    | some p => respond n [p] (chooseProto n p (s.at t))
    | none => noProtocol n (respond n [0] (s.at t))) :=
  congrArg Host.Outcome.next (if_pos (by simp [handshake, pilot]))

theorem execAppProtocolRequest_common (best : bestProto (s.at t) n offers = some k) :
    execAppProtocolRequest t n offers s = .next (respond n [k] (chooseProto n k (s.at t))) := by
  rw [execAppProtocolRequest_handshake handshake pilot, best]

theorem execAppProtocolRequest_none (best : bestProto (s.at t) n offers = none) :
    execAppProtocolRequest t n offers s = .next (noProtocol n (respond n [0] (s.at t))) := by
  rw [execAppProtocolRequest_handshake handshake pilot, best]

end

/-- Precharge starts once the check is over, where no legal partition is enabled. -/
theorem askPrecharge_checked {g : Nat} (check : (prt s n).sess = 5) (checked : (prt s n).checked = true) (idle : (pout s n).ins = .idle)
    (opened : (pout s n).ctrCmd = false) (legal : legalOk s = true) (noLegal : param s pLEGAL_ENABLE 0 = 0) :
    askPrecharge n g s = trackRequest g n .coinOut (sessEnter n 6 s) :=
  if_pos (by simp [check, checked, idle, opened, legal, noLegal])

section
variable {g vr : Nat} (waits : (prt (s.at t) n).sess = 4)
include waits

theorem execWaitReadyMet_ready (met : waitMet (s.at t) n = true) : execWaitReadyMet t n g vr s =
    .next (insRequest n g vr (lglRequest (.sessionOpen n (prt (s.at t) n).proto) (sessEnter n 5 (s.at t)))) :=
  congrArg Host.Outcome.next (if_pos (by rw [met, waits]; rfl))

theorem execVclWaitTimeout_waiting : execVclWaitTimeout t n s =
    .next (stopSession n (if (prt (s.at t) n).authorised then 7 else 6) false (vclError errWaitTimeout n (s.at t))) :=
  congrArg Host.Outcome.next (if_pos (beq_iff_eq.2 waits))

end

/-- The lock is released in UNLOCK once the output is without voltage and its contactor is open. -/
theorem execLockRelease_locked (unlock : (prt (s.at t) n).sess = 10) (discharged : (pout (s.at t) n).vout < 60000)
    (opened : (pout (s.at t) n).ctrFb = false) (locked : (prt (s.at t) n).locked = true) :
    execLockRelease t n s = .next (lswDrive (bits (vclCfg (s.at t) n) 10 5) false (s.at t)) :=
  congrArg Host.Outcome.next ((if_pos (by simp [unlock, discharged, opened])).trans (if_pos locked))

theorem execCapZeroTimeout_due {t0 : Nat} (since : (prt (s.at t) n).capZero = some t0) (due : t0 + 10000000000 ≤ (s.at t).now) :
    execCapZeroTimeout t n s = .next (stopSession n 5 false (s.at t)) := by
  simp only [execCapZeroTimeout, since, if_pos due]

/-! ### Vehicle messages (R308, R309, R315) -/

section
variable {req : VehReq} {len : Nat} {stack rsp : List Nat}

/-- A message is taken from a vehicle in session, on a port of a member that is no standby. -/
theorem execVehicleMessage_inSession {again : Bool} (active : (s.at t).sys.mode ≠ .m7) (sends : (prt (s.at t) n).rxOnly = false)
    (begun : 2 ≤ (prt (s.at t) n).sess) (notOver : (prt (s.at t) n).sess ≤ 9) : execVehicleMessage t n req again stack rsp s =
      .next (if again then emit (s.at t) .vehicle n ((prt (s.at t) n).lastRsp.map Int.ofNat) else vehicleMsg n req stack rsp (s.at t)) :=
  congrArg Host.Outcome.next (if_neg (by
    rw [beq_false_of_ne active, sends, decide_eq_true begun, decide_eq_true notOver]
    decide))

/-- A request for charge sets the request, the target and V_OV. -/
theorem vehicleAct_charge {v : Nat} {i : Int} (charges : ¬i < 0) (loop : (prt s n).sess = 7) :
    vehicleAct n (.charge i v) s = postRequest n i.toNat (setOut n (fun o => { o with
      vTarget := v, vov := min (ovMax s n * 1000) ((prt s n).vEvMax + param s pOV_MARGIN 0 * 1000) })
        (setPrt n (fun q => { q with iReq := i, vTgt := v, discharging := false }) s)) := by
  refine (if_pos (beq_iff_eq.2 loop)).trans ?_
  simp only [chargeLoop, decide_eq_false charges, Bool.false_and, Bool.false_eq_true, if_false]

section
variable (standby : (s.at t).sys.mode = .m7)
include standby

/-- A standby has room for 64 frames of 64 KB in all. -/
theorem execVehicleFrameBuffer_standby : execVehicleFrameBuffer t n req len stack rsp s = .next
    (if 64 ≤ (prt (s.at t) n).frames.length || 65536 < ((prt (s.at t) n).frames.map (·.len)).foldl (· + ·) len then
      setPrt n (fun q => { q with frameOvf := true }) (s.at t)
    else setPrt n (fun q => { q with
      frames := q.frames ++ [{ req := req, len := len, stack := stack, rsp := rsp }], desync := q.desync || !(s.at t).dpx.roleUp }) (s.at t)) :=
  congrArg Host.Outcome.next (if_neg (by rw [standby]; decide))

theorem execVehicleFrameBuffer_room (frames : ¬64 ≤ (prt (s.at t) n).frames.length)
    (bytes : ¬65536 < ((prt (s.at t) n).frames.map (·.len)).foldl (· + ·) len) : execVehicleFrameBuffer t n req len stack rsp s =
      .next (setPrt n (fun q => { q with
        frames := q.frames ++ [{ req := req, len := len, stack := stack, rsp := rsp }], desync := q.desync || !(s.at t).dpx.roleUp }) (s.at t)) := by
  rw [execVehicleFrameBuffer_standby standby, decide_eq_false frames, decide_eq_false bytes]
  rfl

theorem execVehicleFrameBuffer_full (frames : 64 ≤ (prt (s.at t) n).frames.length) : execVehicleFrameBuffer t n req len stack rsp s =
    .next (setPrt n (fun q => { q with frameOvf := true }) (s.at t)) := by
  rw [execVehicleFrameBuffer_standby standby, decide_eq_true frames]
  rfl

end

end

/-! ### The VEH commands (R320, R507) -/

theorem execVehAuthorize_inRange (starts : Starts line seq 0x0803 (s.at t) c) (allowed : authorizeIllegal c (s.at t) = false)
    (port : ¬4 ≤ c.param 8 1) (decision : ¬1 < c.param 9 1) (ident : (c.data == [] && decide (32 < c.param 11 1)) = false) :
    execVehAuthorize t line seq s =
      (let w := setPrt (c.param 8 1) (fun q => { q with
         idType := c.param 10 1, ident := if c.data != [] then c.data else (c.entry.drop 12).take (c.param 11 1) }) (s.at t)
       .next (done c [] (if c.param 9 1 == 1 then setPrt (c.param 8 1) (fun q => { q with authorised := true }) w
         else stopSession (c.param 8 1) 6 false w))) :=
  congrArg _ ((runCmd_starts starts allowed).trans ((if_neg port).trans ((if_neg decision).trans (if_neg (ne_true_of_eq_false ident)))))

theorem execVehCertReply_waiting (starts : Starts line seq 0x0806 (s.at t) c) (port : ¬4 ≤ c.param 8 1)
    (waits : (prt (s.at t) (c.param 8 1)).relay ≠ 0) (number : c.param 12 4 = (prt (s.at t) (c.param 8 1)).relay) :
    execVehCertReply t line seq s = .next (done c [] (answerRelay (c.param 8 1) (c.refLen != 0) c.data (s.at t))) :=
  congrArg _ ((runCmd_free starts).trans ((if_neg port).trans (if_neg (by simp [waits, number]))))

end

/-- Settles O29: each clause is the case of its row that the guards leave. -/
theorem vehiclePortRowsComplete : Obligations.VehiclePortRowsComplete := by
  intro t n g duty mv atten vr hmv offers body s u p
  refine ⟨?duty, ?high, ?low, ?proximity, ?connected, ?none, ?slacStart, ?slacMatched, ?secondVehicle, ?slacFail, ?slacRetry,
    ?ackTimeout, ?common, ?noProtocol, ?cableCheck, ?precharge, ?lockCloses, ?lockOpens, ?lockTimeout, ?ready, ?waitTimeout,
    ?notAuthorised, ?relay, ?relayTimeout, ?timeout, ?unlock, ?capZero⟩
  case duty | high | low | proximity | secondVehicle | lockCloses => rfl
  case connected => exact execPpBandAccept_connected
  case none => exact execPpBandAccept_none
  case slacStart => exact execSlacMessage_start
  case slacMatched =>
    exact fun runs near => congrArg Host.Outcome.next (if_pos (by rw [decide_eq_true near, Bool.and_true]; exact beq_iff_eq.2 runs))
  case slacFail => rintro w rfl runs; exact congrArg Host.Outcome.next (if_pos (beq_iff_eq.2 runs))
  case slacRetry =>
    exact fun paused tries =>
      congrArg Host.Outcome.next (if_pos (by rw [decide_eq_true tries, Bool.and_true]; exact beq_iff_eq.2 paused))
  case ackTimeout => exact fun held => congrArg Host.Outcome.next (if_pos held)
  case common => exact fun k => execAppProtocolRequest_common
  case noProtocol => exact execAppProtocolRequest_none
  case cableCheck => exact fun negotiated => congrArg Host.Outcome.next (if_pos (beq_iff_eq.2 negotiated))
  case precharge =>
    exact fun check checked idle opened legal noLegal =>
      congrArg Host.Outcome.next (askPrecharge_checked check checked idle opened legal noLegal)
  case lockOpens => rintro w rfl live; exact congrArg Host.Outcome.next (if_pos live)
  case lockTimeout =>
    exact fun waits opened =>
      congrArg Host.Outcome.next (if_pos (by rw [opened, Bool.not_false, Bool.and_true]; exact beq_iff_eq.2 waits))
  case ready => exact execWaitReadyMet_ready
  case waitTimeout =>
    exact fun waits authorised => (execVclWaitTimeout_waiting waits).trans (by rw [authorised]; rfl)
  case notAuthorised =>
    exact fun waits refused => (execVclWaitTimeout_waiting waits).trans (by rw [refused]; rfl)
  case relay =>
    exact fun begun notOver => congrArg Host.Outcome.next (if_pos (by simpa using ⟨begun, notOver⟩))
  case relayTimeout => exact fun waits => congrArg Host.Outcome.next (if_pos (bne_iff_ne.2 waits))
  case timeout => exact fun begun notOver => congrArg Host.Outcome.next (if_pos (by simpa using ⟨begun, notOver⟩))
  case unlock => exact execLockRelease_locked
  case capZero => exact fun t0 => execCapZeroTimeout_due

/-- Settles O30: each clause is the case of its row or command that the guards leave. -/
theorem vehicleMessagesAndCommandsComplete : Obligations.VehicleMessagesAndCommandsComplete := by
  intro t n len line seq v req stack rsp i s c u p m d
  refine ⟨?message, ?charge, ?buffer, ?overflow, ?status, ?sessionRead, ?authorize, ?stop, ?exportLimit, ?certReply, ?portEnable⟩
  case message =>
    exact fun active sends begun notOver =>
      ⟨execVehicleMessage_inSession active sends begun notOver, execVehicleMessage_inSession active sends begun notOver⟩
  case charge => rintro w ov charges loop rfl rfl; exact vehicleAct_charge charges loop
  case buffer => exact execVehicleFrameBuffer_room
  case overflow => exact execVehicleFrameBuffer_full
  case status => exact fun starts => congrArg _ (runCmd_free starts)
  case sessionRead => rintro q rfl starts port; exact congrArg _ ((runCmd_free starts).trans (if_neg port))
  case authorize =>
    rintro w rfl starts allowed port ident
    refine ⟨fun yes => ?_, fun no => ?_⟩
    · refine (execVehAuthorize_inRange starts allowed port (by omega) ident).trans ?_
      exact congrArg (fun v => Host.Outcome.next (done c [] v)) (if_pos (beq_iff_eq.2 yes))
    · refine (execVehAuthorize_inRange starts allowed port (by omega) ident).trans ?_
      exact congrArg (fun v => Host.Outcome.next (done c [] v)) (if_neg (by rw [show c.param 9 1 = 0 from no]; decide))
  case stop => exact fun starts port => congrArg _ ((runCmd_free starts).trans (if_neg port))
  case exportLimit =>
    exact fun starts allowed port power => congrArg _ ((runCmd_starts starts allowed).trans ((if_neg port).trans (if_neg power)))
  case certReply => exact execVehCertReply_waiting
  case portEnable =>
    rintro w rfl starts allowed port state
    exact congrArg _ ((runCmd_starts starts allowed).trans ((if_neg port).trans (if_neg state)))

end Sys2Proof.Machine
end

section
/-! Settles O33, O34 and O35: what the rows of the metering do in the case their guards leave, what a DC sample adds to its
channel, and what the MTR commands do once they start. -/

namespace Sys2Proof.Machine

/-- The time since which something stands is over. -/
theorem any_due_since {o : Option Nat} {x y d : Nat} (since : o = some x) (due : x + d ≤ y) :
    (o.any fun x => decide (x + d ≤ y)) = true :=
  since ▸ any_due due

/-- A chain in use that runs is not left out. -/
theorem usedAndRuns {used runs : Bool} (on : used = true) (running : runs = true) : ¬(!used || !runs) = true := by
  rw [on, running]
  decide

section
variable {t n k line seq : Nat} {s u : State} {c : Cmd}

/-! ### A DC sample (R338 to R342) -/

theorem mdc_setMdc_same (f : MtrDc → MtrDc) (channel : n < 4) : mdc (setMdc n f u) n = f (mdc u n) :=
  get_upd_same _ n f channel

section
variable {cv cvs c1 c16 : Rat} {ovV ov1 ov16 : Bool}

/-- The weight of a channel after a sample (R339). -/
def fadedWeight (n : Nat) (c1 c16 : Rat) (ov16 : Bool) (u : State) : Nat :=
  fadeStep u n c1 (ov16 || atScale c16 ((fs1Of u n : Rat) / 16)) (mdc u n).w

variable (channel : n < 4)
include channel

theorem dcSum_w : (mdc (dcSum n cv cvs c1 c16 ovV ov1 ov16 u) n).w = fadedWeight n c1 c16 ov16 u :=
  congrArg MtrDc.w (mdc_setMdc_same _ channel)

theorem dcSum_sumV : (mdc (dcSum n cv cvs c1 c16 ovV ov1 ov16 u) n).sumV = (mdc u n).sumV + cv :=
  congrArg MtrDc.sumV (mdc_setMdc_same _ channel)

theorem dcSum_sumI : (mdc (dcSum n cv cvs c1 c16 ovV ov1 ov16 u) n).sumI =
    (mdc u n).sumI + dcAmps u n (fadedWeight n c1 c16 ov16 u) c1 c16 :=
  congrArg MtrDc.sumI (mdc_setMdc_same _ channel)

theorem dcSum_sumP : (mdc (dcSum n cv cvs c1 c16 ovV ov1 ov16 u) n).sumP =
    (mdc u n).sumP + cv * dcAmps u n (fadedWeight n c1 c16 ov16 u) c1 c16 :=
  congrArg MtrDc.sumP (mdc_setMdc_same _ channel)

/-- The energy of a sample that does not creep is taken at the weight after it. -/
theorem dcTake_weighted : dcTake n cv cvs c1 c16 ovV ov1 ov16 u =
    tpFollow n (if (mdc (dcSum n cv cvs c1 c16 ovV ov1 ov16 u) n).creep then dcSum n cv cvs c1 c16 ovV ov1 ov16 u
      else addSample n (cv * dcAmps u n (fadedWeight n c1 c16 ov16 u) c1 c16) (dcAmps u n (fadedWeight n c1 c16 ov16 u) c1 c16)
        (inletOf u n cv cvs (dcAmps u n (fadedWeight n c1 c16 ov16 u) c1 c16)) (dcSum n cv cvs c1 c16 ovV ov1 ov16 u)) := by
  rw [dcTake, dcSum_w channel]

end

/-! ### The MTR commands (R363, R508) -/

theorem execMtrRead_inRange (starts : Starts line seq 0x0A02 (s.at t) c) (allowed : mtrReadIllegal c (s.at t) = false)
    (first : ¬40 ≤ c.param 8 1) (some : ¬c.param 9 1 < 1) (last : ¬40 < c.param 8 1 + c.param 9 1) (wide : ¬1 < c.param 10 1) :
    execMtrRead t line seq s = .next (doneOut c [] (leBytes 4 (s.at t).mtr.latchSeq ++ [0, 0, 0, 0] ++
      leBytes 8 (s.at t).mtr.latchTime ++ ((List.range (c.param 9 1)).map fun j =>
        if c.param 10 1 = 1 then leBytes 16 (get (s.at t).mtr.snap (c.param 8 1 + j))
        else leBytes 8 (get (s.at t).mtr.latched (c.param 8 1 + j))).flatten) (s.at t)) :=
  congrArg _ ((runCmd_starts starts allowed).trans ((if_neg first).trans ((if_neg (by
    rw [decide_eq_false some, decide_eq_false last]; decide)).trans (if_neg wide))))

theorem execMtrEventRead_inRange (starts : Starts line seq 0x0A04 (s.at t) c) (set : ¬2 ≤ c.param 8 1) (some : ¬c.param 9 1 < 1)
    (few : ¬16 < c.param 9 1) : execMtrEventRead t line seq s =
      (let l := (mac (s.at t) (c.param 8 1)).evq.take (c.param 9 1)
       .next (doneOut c [l.length] (l.map acEventBytes).flatten (setMac (c.param 8 1) (fun m => { m with
         evq := m.evq.drop (min l.length ((respPart c (Option.some (l.map acEventBytes).flatten)).length / 24)) }) (s.at t)))) :=
  congrArg _ ((runCmd_free starts).trans ((if_neg set).trans (if_neg (by
    rw [decide_eq_false some, decide_eq_false few]; decide))))

/-- MTR_CAL_WRITE of parameters in range stages them with the seal open, and is LOCKED with it closed. -/
theorem execMtrCalWrite_inRange (starts : Starts line seq 0x0A06 (s.at t) c) (good : calBad c = none) :
    execMtrCalWrite t line seq s =
      .next (if !(s.at t).lgl.sealOpen then finish c { status := stLocked } (s.at t)
      else done c [] { s.at t with mtr.calNew := some (upd ((s.at t).mtr.calNew.getD (s.at t).mtr.cal)
        (if c.param 8 1 < 4 then 4 * c.param 8 1 + c.param 9 1 else 16 + 7 * (c.param 8 1 - 4) + c.param 9 1) fun p =>
          { gain := if bit (c.param 10 1) 0 then c.param 12 4 else p.gain,
            ofs := if bit (c.param 10 1) 1 then signed 32 (c.param 16 4) else p.ofs,
            tc1 := if bit (c.param 10 1) 2 then signed 32 (c.param 20 4) else p.tc1,
            tc2 := if bit (c.param 10 1) 3 then signed 32 (c.param 24 4) else p.tc2,
            phase := if bit (c.param 10 1) 4 then signed 16 (c.param 28 2) else p.phase }) }) := by
  refine congrArg _ ((runCmd_free starts).trans ?_)
  rw [good]

theorem execMtrTpSet_inRange (starts : Starts line seq 0x0A08 (s.at t) c) (output : ¬6 ≤ c.param 8 1)
    (source : ¬(if c.param 8 1 < 4 then 6 else 8) ≤ c.param 9 1) (low : ¬c.param 12 4 < 1) (high : ¬100000 < c.param 12 4) :
    execMtrTpSet t line seq s =
      .next (done c [] (setTp (c.param 8 1) (fun p => { p with srcSet := some (c.param 9 1, c.param 12 4) }) (s.at t))) :=
  congrArg _ ((runCmd_free starts).trans ((if_neg output).trans ((if_neg source).trans (if_neg (by
    rw [decide_eq_false low, decide_eq_false high]; decide)))))

/-! ### The rows of the metering (R343, R352, R359) -/

/-- The gap of a pulse is over: the next of its backlog goes out. -/
theorem execTestPulseGapEnd_gap (gap : (get (s.at t).mtr.tp k).gap = true) : execTestPulseGapEnd t k s =
    .next (match (get (s.at t).mtr.tp k).backlog with
      | us :: _ => startPulse k us (setTp k (fun q => { q with gap := false, backlog := q.backlog.drop 1 }) (s.at t))
      | [] => setTp k (fun q => { q with gap := false, backlog := q.backlog.drop 1 }) (s.at t)) :=
  congrArg Host.Outcome.next (if_pos gap)

theorem execTestPulseGapEnd_backlog {us : Nat} {rest : List Nat} (gap : (get (s.at t).mtr.tp k).gap = true)
    (waits : (get (s.at t).mtr.tp k).backlog = us :: rest) : execTestPulseGapEnd t k s =
      .next (startPulse k us (setTp k (fun q => { q with gap := false, backlog := q.backlog.drop 1 }) (s.at t))) := by
  rw [execTestPulseGapEnd_gap gap, waits]

theorem execTestPulseGapEnd_empty (gap : (get (s.at t).mtr.tp k).gap = true) (none : (get (s.at t).mtr.tp k).backlog = []) :
    execTestPulseGapEnd t k s = .next (setTp k (fun q => { q with gap := false, backlog := q.backlog.drop 1 }) (s.at t)) := by
  rw [execTestPulseGapEnd_gap gap, none]

theorem execSenseInvalid_due {x : Nat} (sense : rdb (s.at t) (dcAddr n + 4) 16 = true) (valid : (mdc (s.at t) n).senseBad = false)
    (since : (mdc (s.at t) n).senseOut = some x) (due : x + 1000000000 ≤ (s.at t).now) : execSenseInvalid t n s =
      .next (raiseError errSenseBad n (fireEvent 380 (setMdc n (fun c => { c with senseBad := true }) (s.at t)))) :=
  congrArg Host.Outcome.next (if_pos (by rw [sense, valid, any_due_since since due]; rfl))

end

/-- Settles O33: each clause is the case of its row that the guards leave. -/
theorem meteringRowsComplete : Obligations.MeteringRowsComplete := by
  intro t n k ch period v vs i1 i16 tdie ovV ov1 ov16 valid av aq ai ur groups dcs acs s u c p
  refine ⟨?sample, ?cycle, ?halfCycle, ?harmonics, ?latchTick, ?pulseEnd, ?gapBacklog, ?gapEmpty, ?senseInvalid, ?senseValid,
    ?overrange, ?acOverrange, ?crosscheck, ?selftest, ?capture, ?windowEnd, ?lossBound⟩
  case sample => rintro cv cvs c1 c16 on runs rfl rfl rfl rfl; exact if_neg (usedAndRuns on runs)
  case cycle => rintro x f on runs rfl rfl; exact if_neg (usedAndRuns on runs)
  case halfCycle => exact fun on runs => if_neg (usedAndRuns on runs)
  case harmonics => rintro h on runs rfl; exact if_neg (usedAndRuns on runs)
  case latchTick => rintro w runs due rfl; exact if_neg (usedAndRuns runs due)
  case pulseEnd => exact fun high => congrArg Host.Outcome.next (if_pos high)
  case gapBacklog => exact fun us rest => execTestPulseGapEnd_backlog
  case gapEmpty => exact execTestPulseGapEnd_empty
  case senseInvalid => exact fun x => execSenseInvalid_due
  case senseValid => exact fun x since due => congrArg Host.Outcome.next (if_pos (any_due_since since due))
  case overrange =>
    exact fun x since due => congrArg Host.Outcome.next (if_pos ((Bool.or_eq_true ..).mpr (.inr (any_due_since since due))))
  case acOverrange =>
    exact fun ac => congrArg Host.Outcome.next (if_pos ((Bool.or_eq_true ..).mpr (.inl (decide_eq_true ac))))
  case crosscheck => exact fun x since due => congrArg Host.Outcome.next (if_pos (any_due_since since due))
  case selftest => rfl
  case capture => exact fun window => congrArg Host.Outcome.next (if_pos window)
  case windowEnd => rfl
  case lossBound => exact fun runs pair => congrArg Host.Outcome.next (if_pos (Bool.and_eq_true_iff.2 ⟨runs, pair⟩))

/-- Settles O34: the sums by the channel's update, the energy by whether it creeps. -/
theorem dcSampleSums : Obligations.DcSampleSums := by
  rintro n cv cvs c1 c16 ovV ov1 ov16 w u c channel rfl
  refine ⟨dcSum_w channel, dcSum_sumV channel, dcSum_sumI channel, dcSum_sumP channel, fun creeps => ?_, fun counts => ?_⟩
  · exact (dcTake_weighted channel).trans (congrArg (tpFollow n) (if_pos creeps))
  · exact (dcTake_weighted channel).trans (congrArg (tpFollow n) (if_neg (ne_true_of_eq_false counts)))

/-- Settles O35: each clause is the case of its command that the checks before its effect leave. -/
theorem meteringCommandsComplete : Obligations.MeteringCommandsComplete := by
  intro t line seq s c u a n w
  refine ⟨?status, ?read, ?harmonics, ?events, ?extremes, ?sealed, ?staged, ?commit, ?pulses⟩
  case status => exact fun starts => congrArg _ (runCmd_free starts)
  case read => exact execMtrRead_inRange
  case harmonics => exact fun starts set => congrArg _ ((runCmd_free starts).trans (if_neg set))
  case events => rintro l rfl starts set some few; exact execMtrEventRead_inRange starts set some few
  case extremes => exact fun starts channel => congrArg _ ((runCmd_free starts).trans (if_neg channel))
  case sealed =>
    exact fun starts good closed => (execMtrCalWrite_inRange starts good).trans (by rw [show (s.at t).lgl.sealOpen = false from closed]; rfl)
  case staged =>
    rintro k starts good opened rfl
    exact (execMtrCalWrite_inRange starts good).trans (by rw [show (s.at t).lgl.sealOpen = true from opened]; rfl)
  case commit =>
    exact fun starts allowed opened => congrArg _ ((runCmd_starts starts allowed).trans (if_neg (by
      rw [show (s.at t).lgl.sealOpen = true from opened]; decide)))
  case pulses => exact execMtrTpSet_inRange

end Sys2Proof.Machine
end

section
/-! Settles O36 and O37: what the rows of the legal pair do in the case their guards leave, and what the LGL commands do once they
start. -/

namespace Sys2Proof.Machine

section
variable {t n line seq : Nat} {ofs : Int} {rest : List LglReq} {s u : State} {c : Cmd}

/-! ### Requests (R367, R379, R389) -/

/-- The running pair takes the request at the front of its ring where the row is for its kind. -/
theorem takeRequest_front {r : LglReq} {f : LglReq → Option (State → State)} {g : State → State} (runs : pairRuns u = true)
    (front : u.lgl.ring = r :: rest) (own : f r = some g) :
    takeRequest f u = settleLgl (g { u with lgl.ring := rest, lgl.report := some (r, true) }) := by
  unfold takeRequest
  rw [if_pos runs]
  simp only [front, own]

theorem execCalCommit_pending {v : Vector CalPar 30} (runs : pairRuns (s.at t) = true)
    (front : (s.at t).lgl.ring = .calCommit line seq :: rest) (pending : (s.at t).mtr.calNew = some v) : execCalCommit t s =
      .next (settleLgl { s.at t with
        lgl.ring := rest, lgl.report := some (.calCommit line seq, true),
        mtr.calDue := some (v, ((s.at t).lgl.calSeq + 1) % 2 ^ 32, line, seq), mtr.calNew := none }) := by
  refine congrArg Host.Outcome.next ((takeRequest_front runs front rfl).trans ?_)
  simp only [pending]

/-! ### Legal time and the pair's start (R366, R369, R390) -/

/-- A change of the synchronisation state that the running pair learns. -/
theorem syncChanges {a b : Bool} (runs : pairRuns u = true) (was : u.lgl.synced = a) (other : (a != b) = true) :
    (pairRuns u && u.lgl.synced != b) = true := by
  rw [runs, was, other]
  rfl

theorem execTimeInfo_synced (runs : pairRuns (rebase (s.at t)) = true) (was : (rebase (s.at t)).lgl.synced = false) :
    execTimeInfo t ofs true s =
      (let r := { rebase (s.at t) with lgl.utcOfs := ofs, lgl.synced := true }
       .next (settleLgl (runBoundary false false (timeCheck (lglEvent 0x10 (leBytes 8 (unsigned 64 (timeDiff r / 1000000))) r))))) := by
  simp only [execTimeInfo, syncChanges (b := true) runs was rfl, if_true]

theorem execTimeInfo_unsynced (runs : pairRuns (rebase (s.at t)) = true) (was : (rebase (s.at t)).lgl.synced = true) :
    execTimeInfo t ofs false s = .next (settleLgl (runBoundary false false
      (lglEvent 0xF [] { rebase (s.at t) with lgl.utcOfs := ofs, lgl.synced := false, lgl.slew := 0 }))) := by
  simp only [execTimeInfo, syncChanges (b := false) runs was rfl, if_true, Bool.false_eq_true, if_false]

/-- A pair that has power and is not started yet finds its tail and starts, where its flash has a size it knows. -/
theorem execLegalStartupDone_fits (powered : lglPowered (s.at t) = true) (mode : 3 ≤ (s.at t).sys.mode.num)
    (fresh : (s.at t).lgl.startup = false) (least : 0x3FFFFF ≤ (s.at t).lgl.ringEnd) (most : (s.at t).lgl.ringEnd < 0x10000000) :
    execLegalStartupDone t s =
      (let a := startRecords (startClock (chooseCopy (tailScan (s.at t))))
       .next (settleLgl { a with lgl.startup := true, lgl.closeAtRestart := none, lgl.pfwAt := none, lgl.stalled := false,
                                 lgl.hbAt := a.now, lgl.hbSince := a.now })) :=
  congrArg Host.Outcome.next (if_pos (by
    rw [powered, decide_eq_true mode, fresh, decide_eq_true least, decide_eq_true most]
    rfl))

/-! ### The seal (R42, R372) -/

/-- Opened in M9, the seal leaves no record. -/
theorem execSealChange_opens (closed : (s.at t).lgl.sealOpen = false) (runs : pairRuns { s.at t with lgl.sealOpen := true } = true)
    (mode : (s.at t).sys.mode = .m9) : execSealChange t true s = .next (settleLgl { s.at t with lgl.sealOpen := true }) := by
  unfold execSealChange
  generalize s.at t = u at closed runs mode
  simp [closed, runs, mode]

/-- Closed in M9, the seal is recorded and takes the device to M3. -/
theorem execSealChange_closes (opened : (s.at t).lgl.sealOpen = true) (runs : pairRuns { s.at t with lgl.sealOpen := false } = true)
    (mode : (settleLgl (lglEvent 5 [] { s.at t with lgl.sealOpen := false })).sys.mode = .m9) :
    execSealChange t false s = .next (toM3 (settleLgl (lglEvent 5 [] { s.at t with lgl.sealOpen := false }))) := by
  unfold execSealChange
  generalize s.at t = u at opened runs mode
  simp [opened, runs, mode]

/-! ### The optical port (R401) -/

theorem execOpticalSignOn_addressed {addr : List Nat} (runs : pairRuns (s.at t) = true) (waits : (s.at t).lgl.optical = .waiting)
    (addressed : addr = [] ∨ addr = optAddr (s.at t)) : execOpticalSignOn t addr s =
      .next (emit { s.at t with lgl.optical := .identified } .optical 0 ((asc "/SVB6BD4876\r\n").map Int.ofNat)) := by
  have due : (pairRuns (s.at t) && (s.at t).lgl.optical == .waiting && (addr == [] || addr == optAddr (s.at t))) = true := by
    rw [runs, waits, Bool.or_eq_true .. |>.mpr (addressed.imp beq_iff_eq.2 beq_iff_eq.2)]
    rfl
  exact congrArg Host.Outcome.next (if_pos due)

theorem execOpticalAck_identified {option rate : Nat} (runs : pairRuns (s.at t) = true) (identified : (s.at t).lgl.optical = .identified)
    (readout : option = 0) (known : rate ≤ 6) : execOpticalAck t option rate s =
      .next (emit { s.at t with lgl.optical := .waiting } .optical rate ((dataBlock (s.at t)).map Int.ofNat)) := by
  have due : (pairRuns (s.at t) && (s.at t).lgl.optical == .identified && option == 0 && decide (rate ≤ 6)) = true := by
    rw [runs, identified, readout, decide_eq_true known]
    rfl
  exact congrArg Host.Outcome.next (if_pos due)

/-! ### The LGL commands (R405, R508) -/

/-- A parameter set that is well formed, within its ranges, signed where it is judged, and allowed by the seal or by what it
changes, is handed to the pair (R389). -/
theorem execLglParamLoad_valid (starts : Starts line seq 0x0B03 (s.at t) c) (size : ¬c.data.length < 3456)
    (form : ¬(fld c.data 0 2 != 0x7EA8 || fld c.data 2 1 != 1 || fld c.data 3452 4 != crc32 (c.data.take 3452)) = true)
    (ranges : paramRangesOk c.data = true)
    (later : ((!((s.at t).sys.mode == .m9) || fld c.data 1752 8 != 0) && decide (fld c.data 1752 8 < legalMs (s.at t) + 60000)) = false)
    (right : (if (s.at t).sys.mode == .m9 then !(s.at t).lgl.sealOpen else !(onlyPassiveDiffers c.data (s.at t))) = false) :
    execLglParamLoad t line seq true s = .next (accept c [] (lglRequest (.paramLoad c.data line seq) (s.at t))) :=
  congrArg _ ((runCmd_free starts).trans ((if_neg size).trans ((if_neg form).trans ((if_neg (by rw [ranges, later]; decide)).trans
    ((if_neg (by rw [Bool.not_true, Bool.and_false]; decide)).trans (if_neg (ne_true_of_eq_false right)))))))

theorem execLglWindowSet_inRange (starts : Starts line seq 0x0B05 (s.at t) c) (count : ¬8 < c.param 8 1)
    (fields : ((List.range (c.param 8 1)).filterMap (windowFault c)).head? = none) : execLglWindowSet t line seq s =
      .next (done c [] { s.at t with lgl.windows := (List.range (c.param 8 1)).map (windowOf c) }) := by
  refine congrArg _ ((runCmd_free starts).trans ((if_neg count).trans ?_))
  simp only [fields]

end

/-- Settles O36: each clause is the case of its row that the guards leave. -/
theorem legalPairRowsComplete : Obligations.LegalPairRowsComplete := by
  intro t n proto reason line seq option rate data addr sb synced ofs rest s u w r
  refine ⟨?sessionOpen, ?sessionClose, ?paramLoad, ?calCommit, ?role, ?synced, ?unsynced, ?timeCheck, ?boundary, ?heartbeat,
    ?stall, ?lost, ?restart, ?startup, ?sealOpens, ?sealCloses, ?logRetry, ?periodicSave, ?display, ?screen, ?signOn, ?ack,
    ?timeout⟩
  case sessionOpen =>
    exact fun runs front fresh port => congrArg Host.Outcome.next ((takeRequest_front runs front rfl).trans
      (congrArg settleLgl (if_neg (by simpa using ⟨by simpa using fresh, Nat.lt_of_not_le port⟩))))
  case sessionClose =>
    exact fun runs front session => congrArg Host.Outcome.next ((takeRequest_front runs front rfl).trans
      (congrArg settleLgl (if_neg (ne_true_of_eq_false session))))
  case paramLoad =>
    rintro a b runs front rfl rfl
    refine congrArg Host.Outcome.next ((takeRequest_front runs front rfl).trans ?_)
    rfl
  case calCommit => exact fun v => execCalCommit_pending
  case role =>
    exact fun runs front other => congrArg Host.Outcome.next ((takeRequest_front runs front rfl).trans
      (congrArg settleLgl (if_neg (by simpa using other))))
  case synced => exact execTimeInfo_synced
  case unsynced => exact execTimeInfo_unsynced
  case timeCheck =>
    exact fun runs synced => congrArg Host.Outcome.next (if_pos (Bool.and_eq_true_iff.2 ⟨runs, synced⟩))
  case boundary => exact fun runs => congrArg Host.Outcome.next (if_pos runs)
  case heartbeat | stall | lost => exact fun powered => congrArg Host.Outcome.next (if_pos powered)
  case restart =>
    rintro a restarting started rfl
    exact congrArg Host.Outcome.next ((if_pos restarting).trans (congrArg settleLgl (if_pos started)))
  case startup =>
    rintro a powered mode fresh least most rfl
    exact execLegalStartupDone_fits powered mode fresh least most
  case sealOpens => exact execSealChange_opens
  case sealCloses =>
    rintro a opened runs rfl mode
    exact execSealChange_closes opened runs mode
  case logRetry => exact fun runs => ⟨congrArg Host.Outcome.next (if_pos runs), congrArg Host.Outcome.next (if_pos runs)⟩
  case periodicSave =>
    intro runs powered free
    have due : (pairRuns u && lglPowered u && !u.lgl.emgDue) = true := by rw [runs, powered, free]; rfl
    exact ⟨congrArg Host.Outcome.next (if_pos due), congrArg Host.Outcome.next (if_pos due)⟩
  case display => rintro k bs runs rfl rfl; exact congrArg Host.Outcome.next (if_pos runs)
  case screen => exact fun runs => congrArg Host.Outcome.next (if_pos runs)
  case signOn => exact execOpticalSignOn_addressed
  case ack => exact execOpticalAck_identified
  case timeout => rfl

/-- Settles O37: each clause is the case of its command that the checks before its effect leave. -/
theorem legalCommandsComplete : Obligations.LegalCommandsComplete := by
  intro t line seq s c u d act
  refine ⟨?status, ?logRead, ?loadM9, ?loadPassive, ?credit, ?windows⟩
  case status => exact fun starts => congrArg _ (runCmd_free starts)
  case logRead => rintro l rfl starts; exact congrArg _ (runCmd_free starts)
  case loadM9 =>
    intro starts size form ranges activation mode opened
    refine execLglParamLoad_valid starts size form ranges ?_ ?_
    · rw [show (s.at t).sys.mode = .m9 from mode]
      rcases activation with never | later
      · rw [show fld c.data 1752 8 = 0 from never]; rfl
      · rw [decide_eq_false later, Bool.and_false]
    · rw [show (s.at t).sys.mode = .m9 from mode, show (s.at t).lgl.sealOpen = true from opened]
      rfl
  case loadPassive =>
    intro starts size form ranges later mode passive
    refine execLglParamLoad_valid starts size form ranges ?_ ?_
    · rw [decide_eq_false later, Bool.and_false]
    · rw [beq_false_of_ne mode, show onlyPassiveDiffers c.data (s.at t) = true from passive]
      rfl
  case credit =>
    exact fun starts allowed port mode wh soc => congrArg _ ((runCmd_starts starts allowed).trans ((if_neg port).trans
      ((if_neg mode).trans ((if_neg wh).trans (if_neg soc)))))
  case windows => exact execLglWindowSet_inRange

end Sys2Proof.Machine
end

section
/-! Settles O38 and O39: what the rows of the key block do in the case their guards leave, and what the KEY commands do once they
start. -/

namespace Sys2Proof.Machine

section
variable {t n user target line seq : Nat} {op : CryptoKind} {s : State} {c : Cmd}

/-! ### Masks (R409) -/

/-- A re-mask with the TRNG fit reaches every slot but the one in use, which waits. -/
theorem execKeyRemask_fit {busy : Option Nat} (fit : (s.at t).key.trngOk = true) (uses : (s.at t).key.running.bind (·.slot) = busy) :
    execKeyRemask t s =
      (let w := (List.range 64).foldl (fun a k => if busy == some k then a else remaskSlot k a) (s.at t)
       .next (if busy.isSome then { w with key.remaskDue := true } else { w with key.remask := (w.key.remask + 1) % 65536 })) := by
  subst uses
  exact congrArg Host.Outcome.next (if_pos fit)

theorem execKeyRemask_idle {w : State} (fit : (s.at t).key.trngOk = true) (idle : (s.at t).key.running.bind (·.slot) = none)
    (fresh : w = (List.range 64).foldl (fun a k => remaskSlot k a) (s.at t)) :
    execKeyRemask t s = .next { w with key.remask := (w.key.remask + 1) % 65536 } := by
  rw [execKeyRemask_fit fit idle, fresh]
  simp only [Option.none_beq_some, Option.isSome_none, Bool.false_eq_true, if_false]

theorem execKeyRemask_busy {w : State} (fit : (s.at t).key.trngOk = true) (uses : (s.at t).key.running.bind (·.slot) = some n)
    (fresh : w = (List.range 64).foldl (fun a k => if some n == some k then a else remaskSlot k a) (s.at t)) :
    execKeyRemask t s = .next { w with key.remaskDue := true } := by
  rw [execKeyRemask_fit fit uses, fresh]
  exact congrArg Host.Outcome.next (if_pos rfl)

/-! ### The crypto engine (R407, R413) -/

/-- An operation admitted runs where the engine is idle, and else queues, the legal pair's ahead of the others. -/
def cryptoAdmitted (x : CryptoOp) (s : State) : State :=
  if s.key.running.isNone then { s with key.running := some x }
  else if x.user == 5 then
    { s with key.queue := s.key.queue.filter (fun (y : CryptoOp) => y.user == 5) ++ [x]
                            ++ s.key.queue.filter (fun (y : CryptoOp) => y.user != 5) }
  else { s with key.queue := s.key.queue ++ [x] }

section
variable (random : (needsRandom op && !(s.at t).key.trngOk) = false)
include random

/-- An operation without a slot needs no right to one. -/
theorem execCryptoRequest_slotless :
    execCryptoRequest t user none op s = .next (cryptoAdmitted { user := user, slot := none } (s.at t)) :=
  congrArg Host.Outcome.next ((if_neg Bool.false_ne_true).trans (if_neg (ne_true_of_eq_false random)))

theorem execCryptoRequest_allowed (slot : n < 64) (filled : (kslot (s.at t) n).filled = true)
    (allowed : userAllowed (s.at t) user n = true) (fits : kindFits op (kslot (s.at t) n).typ = true) :
    execCryptoRequest t user (some n) op s = .next (cryptoAdmitted { user := user, slot := some n } (s.at t)) :=
  congrArg Host.Outcome.next ((if_neg (by
    dsimp only
    rw [decide_eq_true slot, filled, allowed, fits]
    exact Bool.false_ne_true)).trans (if_neg (ne_true_of_eq_false random)))

end

/-- A user that the slot does not allow is denied, whatever the operation. -/
theorem execCryptoRequest_denied (denied : userAllowed (s.at t) user n = false) : execCryptoRequest t user (some n) op s =
    .next (raiseError errUseDenied n (fireEvent 456 (s.at t))) :=
  congrArg Host.Outcome.next (if_pos (by dsimp only; rw [denied, Bool.and_false, Bool.false_and]; rfl))

/-- The end of an operation with no re-mask waiting starts the next, or the life-cycle change that waited for it. -/
theorem execCryptoDone_next {y : CryptoOp} (runs : (s.at t).key.running = some y)
    (masked : ((s.at t).key.remaskDue && (s.at t).key.trngOk) = false) (job : (s.at t).key.lcJob = none) : execCryptoDone t s =
      .next { s.at t with key.running := (s.at t).key.queue.head?, key.queue := (s.at t).key.queue.drop 1 } := by
  simp only [execCryptoDone, runs, masked, job, Bool.false_eq_true, if_false]

theorem execCryptoDone_lifeCycle {y : CryptoOp} (runs : (s.at t).key.running = some y)
    (masked : ((s.at t).key.remaskDue && (s.at t).key.trngOk) = false) (job : (s.at t).key.lcJob = some (target, line, seq)) :
    execCryptoDone t s = .next (finishLc target { s.at t with key.running := none }) := by
  simp only [execCryptoDone, runs, masked, job, Bool.false_eq_true, if_false]

/-! ### The TRNG (R414, R420) -/

section
variable (booted : ¬(s.at t).sys.mode.num < 2)
include booted

theorem execKeyTrngFail_free (job : (s.at t).key.lcJob = none) : execKeyTrngFail t s =
    .next (raiseError errTrngFail 0 (fireEvent 457 { s.at t with key.trngOk := false, key.lcJob := none })) := by
  simp only [execKeyTrngFail, job, if_neg booted]

/-- A life-cycle change before its burn is abandoned. -/
theorem execKeyTrngFail_abandons (job : (s.at t).key.lcJob = some (target, line, seq)) : execKeyTrngFail t s =
    .next (raiseError errTrngFail 0 (fireEvent 457
      (finishAccepted line seq { status := stIllegal } { s.at t with key.trngOk := false, key.lcJob := none }))) := by
  simp only [execKeyTrngFail, job, if_neg booted]

end

/-! ### The life cycle (R417, R418) -/

section
variable (starts : Starts line seq 0x0C06 (s.at t) c) (allowed : lcIllegal c (s.at t) = false)
include starts allowed

/-- A transition that needs no signature starts once the commands of the other ports are discarded. -/
theorem execKeyLcSet_unsigned (notReturn : c.param 8 1 ≠ 4) (notEnd : c.param 8 1 ≠ 5)
    (graded : c.param 8 1 = 2 → gradeOk (s.at t) = true)
    (idle : (discardLines stFault 0 (fun l => linePort (accept c [] (s.at t)) l != c.port) (accept c [] (s.at t))).key.running.isSome
      = false) : execKeyLcSet t line seq false s = .next (finishLc (c.param 8 1)
        (discardLines stFault 0 (fun l => linePort (accept c [] (s.at t)) l != c.port) (accept c [] (s.at t)))) := by
  have unsigned : (c.param 8 1 == 4 || c.param 8 1 == 5) = false := by
    rw [beq_false_of_ne notReturn, beq_false_of_ne notEnd]; rfl
  have grade : (c.param 8 1 == 2 && !gradeOk (s.at t)) = false := by
    by_cases field : c.param 8 1 = 2
    · rw [graded field, Bool.not_true, Bool.and_false]
    · rw [beq_false_of_ne field, Bool.false_and]
  refine congrArg Host.Outcome.next ((runCmd_starts starts allowed).trans ?_)
  simp only [unsigned, grade, idle, Bool.false_and, Bool.false_eq_true, if_false]

/-- RETURN and END, signed over a nonce that is used up, wait for the operation that runs. -/
theorem execKeyLcSet_waits {v : Nat} (value : v = leValue ((c.entry.drop 12).take 16)) (final : c.param 8 1 = 4 ∨ c.param 8 1 = 5)
    (size : ¬c.data.length < 96) (fresh : nonceValid (s.at t) c.port v = true)
    (anchor : (kslot (s.at t) (c.param 8 1 + 1)).filled = true)
    (busy : (discardLines stFault 0 (fun l => linePort (accept c [] (useNonce v (s.at t))) l != c.port)
      (accept c [] (useNonce v (s.at t)))).key.running.isSome = true) : execKeyLcSet t line seq true s =
        .next { discardLines stFault 0 (fun l => linePort (accept c [] (useNonce v (s.at t))) l != c.port)
          (accept c [] (useNonce v (s.at t))) with key.lcJob := some (c.param 8 1, line, seq) } := by
  subst value
  have signed : (c.param 8 1 == 4 || c.param 8 1 == 5) = true :=
    (Bool.or_eq_true ..).mpr (final.imp beq_iff_eq.2 beq_iff_eq.2)
  have notField : (c.param 8 1 == 2) = false := beq_false_of_ne (by omega)
  refine congrArg Host.Outcome.next ((runCmd_starts starts allowed).trans ?_)
  simp only [signed, decide_eq_false size, notField, fresh, anchor, busy, Bool.and_false, Bool.false_and, Bool.and_self, Bool.not_true,
    Bool.false_eq_true, if_false, if_true]

end

/-! ### The KEY commands (R410, R411, R422) -/

/-- A signature over a nonce of the port grants it service rights. -/
theorem execKeySvcAuth_granted {v : Nat} (value : v = leValue ((c.entry.drop 8).take 16)) (starts : Starts line seq 0x0C03 (s.at t) c)
    (size : ¬c.data.length < 96) (fresh : nonceValid (s.at t) c.port v = true) (anchor : (kslot (s.at t) 1).filled = true) :
    execKeySvcAuth t line seq true s =
      (let w := { useNonce v (s.at t) with key.rights := upd (useNonce v (s.at t)).key.rights (c.port - 1) fun _ => true }
       .next (done c [] (if get (s.at t).key.rights (c.port - 1) then w else fireEvent 461 w))) := by
  subst value
  exact congrArg _ ((runCmd_free starts).trans ((if_neg size).trans (if_neg (by rw [fresh, anchor]; decide))))

/-- A key of a type and size that fit its slot is staged, and its image is written. -/
theorem execKeyWrite_staged (starts : Starts line seq 0x0C04 (s.at t) c) (allowed : writeIllegal c (s.at t) = false)
    (slot : ¬64 ≤ c.param 8 1) (typ : ¬(c.param 9 1 = 0 ∨ 6 < c.param 9 1 ∨
      ((c.param 8 1 == 1 || c.param 8 1 == 2 || (8 ≤ c.param 8 1 && c.param 8 1 < 16)) && c.param 9 1 != 6) = true))
    (users : ¬64 ≤ c.param 10 1) (size : ¬c.data.length < keyBytes (c.param 9 1)) (free : (s.at t).cfg.write.isSome = false) :
    execKeyWrite t line seq true s =
      (let k := maskSlot (c.param 9 1) (c.param 10 1) (leValue (c.data.take (heldBytes (c.param 9 1))))
         ((c.data.drop (heldBytes (c.param 9 1))).take (keyBytes (c.param 9 1) - heldBytes (c.param 9 1))) (s.at t)
       .next { k.2 with key.newSlot := some (c.param 8 1, k.1), cfg.write := some (.keyImage line seq) }) :=
  congrArg _ ((runCmd_starts starts allowed).trans ((if_neg slot).trans ((if_neg typ).trans ((if_neg users).trans
    ((if_neg size).trans ((if_neg (by rw [Bool.not_true, Bool.and_false]; exact Bool.false_ne_true)).trans
      (if_neg (ne_true_of_eq_false free))))))))

end

/-- Settles O38: each clause is the case of its row that the guards leave. -/
theorem keyRowsComplete : Obligations.KeyRowsComplete := by
  intro t line seq user n port target slot op s c u x
  refine ⟨?remask, ?remaskWaits, ?slotless, ?allowed, ?legalQueues, ?queues, ?denied, ?done, ?doneLifeCycle, ?trngFail,
    ?trngFailAbandons, ?trngTest, ?rightsExpire, ?lcSet, ?lcSetWaits⟩
  case remask => exact fun w => execKeyRemask_idle
  case remaskWaits => exact fun w => execKeyRemask_busy
  case slotless =>
    rintro rfl random idle
    exact (execCryptoRequest_slotless random).trans (congrArg Host.Outcome.next (if_pos idle))
  case allowed =>
    rintro rfl inRange filled allowed fits random idle
    exact (execCryptoRequest_allowed random inRange filled allowed fits).trans (congrArg Host.Outcome.next (if_pos idle))
  case legalQueues =>
    rintro rfl random busy rfl
    exact (execCryptoRequest_slotless random).trans (congrArg Host.Outcome.next ((if_neg (ne_true_of_eq_false busy)).trans (if_pos rfl)))
  case queues =>
    rintro rfl random busy other
    exact (execCryptoRequest_slotless random).trans (congrArg Host.Outcome.next ((if_neg (ne_true_of_eq_false busy)).trans
      (if_neg (by simpa using other))))
  case denied => rintro rfl denied; exact execCryptoRequest_denied denied
  case done => exact fun y => execCryptoDone_next
  case doneLifeCycle => exact fun y => execCryptoDone_lifeCycle
  case trngFail => exact execKeyTrngFail_free
  case trngFailAbandons => exact execKeyTrngFail_abandons
  case trngTest =>
    rintro w booted rfl loaded
    exact congrArg Host.Outcome.next ((if_neg booted).trans (if_pos loaded))
  case rightsExpire => exact fun had => congrArg Host.Outcome.next (if_pos had)
  case lcSet =>
    rintro w rfl starts allowed notReturn notEnd graded rfl idle
    exact execKeyLcSet_unsigned starts allowed notReturn notEnd graded idle
  case lcSetWaits =>
    rintro w v rfl value starts allowed final size fresh anchor rfl busy
    exact execKeyLcSet_waits starts allowed value final size fresh anchor busy

/-- Settles O39: each clause is the case of its command that the checks before its effect leave. -/
theorem keyCommandsComplete : Obligations.KeyCommandsComplete := by
  intro t line seq s c u n typ users
  refine ⟨?status, ?pubRead, ?svcAuth, ?write, ?destroy, ?attest⟩
  case status => exact fun starts => congrArg _ (runCmd_free starts)
  case pubRead => exact fun starts allowed slot => congrArg _ ((runCmd_starts starts allowed).trans (if_neg slot))
  case svcAuth =>
    rintro v w value rfl starts size fresh anchor
    refine ⟨fun new => ?_, fun had => ?_⟩
    · exact (execKeySvcAuth_granted value starts size fresh anchor).trans
        (congrArg (fun a => Host.Outcome.next (done c [] a)) (if_neg (ne_true_of_eq_false new)))
    · exact (execKeySvcAuth_granted value starts size fresh anchor).trans
        (congrArg (fun a => Host.Outcome.next (done c [] a)) (if_pos had))
  case write =>
    rintro k starts allowed slot typ users size free rfl
    exact execKeyWrite_staged starts allowed slot typ users size free
  case destroy => exact fun starts allowed slot => congrArg _ ((runCmd_starts starts allowed).trans (if_neg slot))
  case attest => rintro g starts allowed rfl; exact congrArg _ (runCmd_starts starts allowed)

end Sys2Proof.Machine
end

section
/-! Settles O40: what the rows of the Oluzel link do in the case their guards leave, and what the OZL commands do once they start. -/

namespace Sys2Proof.Machine

section
variable {t p n line seq : Nat} {s : State} {c : Cmd}

/-! ### Training (R423, R424) -/

section
variable {delay : Nat} {r : TrainRec} (down : (ozp (s.at t) p).up = false) (intact : r.crcOk = true)
  (runs : ¬(s.at t).sys.mode.num < 3)
include down intact runs

/-- A record received intact on a port that trains is judged; a port neither refused nor too long comes up once both ends
acknowledge. -/
theorem execTrainRecordRx_intact : execTrainRecordRx t p r delay s =
    (let k := trainRefusal (s.at t) p r
     let w := setOz p (fun x => { x with longLink := decide (50000 < delay), refuse := k, ackTx := true }) (s.at t)
     let v := if k != (ozp (s.at t) p).refuse then raiseRefusal p k w else w
     .next (if k != 0 || decide (50000 < delay) || !r.ack then v else portUp p r v)) :=
  congrArg Host.Outcome.next (if_neg (by rw [down, intact, decide_eq_false runs]; decide))

theorem execTrainRecordRx_up (fits : trainRefusal (s.at t) p r = 0) (was : (ozp (s.at t) p).refuse = 0) (near : ¬50000 < delay)
    (acks : r.ack = true) : execTrainRecordRx t p r delay s =
      .next (portUp p r (setOz p (fun x => { x with longLink := false, refuse := 0, ackTx := true }) (s.at t))) := by
  rw [execTrainRecordRx_intact down intact runs, fits, was, decide_eq_false near, acks]
  exact congrArg Host.Outcome.next ((if_neg Bool.false_ne_true).trans (congrArg (portUp p r) (if_neg Bool.false_ne_true)))

theorem execTrainRecordRx_refused (refused : trainRefusal (s.at t) p r ≠ 0) (other : trainRefusal (s.at t) p r ≠ (ozp (s.at t) p).refuse) :
    execTrainRecordRx t p r delay s = .next (raiseRefusal p (trainRefusal (s.at t) p r) (setOz p (fun x =>
      { x with longLink := decide (50000 < delay), refuse := trainRefusal (s.at t) p r, ackTx := true }) (s.at t))) := by
  rw [execTrainRecordRx_intact down intact runs]
  exact congrArg Host.Outcome.next ((if_pos (by rw [bne_iff_ne.2 refused]; rfl)).trans (if_pos (bne_iff_ne.2 other)))

end

/-! ### Frames (R426, R433) -/

section
variable {f : OzFrame} (up : (ozp (s.at t) p).up = true)
include up

theorem execOzlFrameRx_badHeader (header : f.hcrcOk = false) : execOzlFrameRx t p f s =
    .next (setOz p (fun x => { x with hcrc := (x.hcrc + 1) % 65536 }) (s.at t)) :=
  congrArg Host.Outcome.next ((if_neg (by rw [up]; decide)).trans (if_pos (by rw [header]; rfl)))

/-- A frame with a good header on a blocked link only frees its buffer. -/
theorem execOzlFrameRx_goodHeader (header : f.hcrcOk = true) : execOzlFrameRx t p f s =
    .next (if portBlocked (s.at t) p then freeBuffer p f.tc (s.at t) else acceptOz p f (s.at t)) :=
  congrArg Host.Outcome.next ((if_neg (by rw [up]; decide)).trans (if_neg (by rw [header]; decide)))

end

/-! ### Topology (R432, R435) -/

section
variable {node member : Nat} {ports : List TopoPort}
  (foreign : (node == ownNode (s.at t) && member == ownMember (s.at t)) = false)
include foreign

/-- The record of another device is taken; the topology is computed anew where its ports changed. -/
theorem execTopo_foreign : execTopo t node member ports s =
    (let w := { s.at t with ozl.topo := insertEnt { node := node, member := member, ports := ports, seen := (s.at t).now } (s.at t).ozl.topo }
     .next (if (((s.at t).ozl.topo.find? fun e => e.node == node && e.member == member).map TopoEnt.ports) == some ports then w
       else topoChanged w)) :=
  congrArg Host.Outcome.next (if_neg (ne_true_of_eq_false foreign))

end

theorem execRingBreak_found {a b : Nat} {k : LinkKey} (found : ((graphLinks (allEnts (s.at t))).find? fun k =>
    k.lo == min a b && k.hi == max a b && !((s.at t).ozl.blocked.contains k)) = some k) :
    execRingBreak t a b s = .next (bridge k (s.at t)) := by
  simp only [execRingBreak, found]

/-! ### The OZL commands (R437, R451, R509) -/

section
variable (starts : Starts line seq 0x0F03 (s.at t) c) (node : ¬4096 ≤ c.param 8 2) (other : c.param 8 2 ≠ ownNode (s.at t))
include starts node other

theorem execOzlPathRead_other : execOzlPathRead t line seq s = .next (match routeTo (s.at t) (c.param 8 2) with
    | some e => done c (leBytes 4 e.us ++ leBytes 2 e.hops ++ [e.egress, 1]) (s.at t)
    | none => done c (leBytes 4 0 ++ leBytes 2 0 ++ [0, 0]) (s.at t)) :=
  congrArg _ ((runCmd_free starts).trans ((if_neg node).trans (if_neg (by simpa using other))))

theorem execOzlPathRead_none (route : routeTo (s.at t) (c.param 8 2) = none) : execOzlPathRead t line seq s =
    .next (done c (leBytes 4 0 ++ leBytes 2 0 ++ [0, 0]) (s.at t)) := by
  rw [execOzlPathRead_other starts node other, route]

theorem execOzlPathRead_route {e : PathEnt} (route : routeTo (s.at t) (c.param 8 2) = some e) : execOzlPathRead t line seq s =
    .next (done c (leBytes 4 e.us ++ leBytes 2 e.hops ++ [e.egress, 1]) (s.at t)) := by
  rw [execOzlPathRead_other starts node other, route]

end

theorem execOzlPortRetrain_inRange (starts : Starts line seq 0x0F04 (s.at t) c) (port : ¬4 ≤ c.param 8 1) :
    execOzlPortRetrain t line seq s = .next (done c [] (if (ozp (s.at t) (c.param 8 1)).up then portDown (c.param 8 1) (s.at t)
      else fireEvent 398 (setOz (c.param 8 1) (fun o => { o with ackTx := false, refuse := 0 }) (s.at t)))) :=
  congrArg _ ((runCmd_free starts).trans (if_neg port))

end

/-- Settles O40: each clause is the case of its row or command that the guards leave. -/
theorem relayComplete : Obligations.RelayComplete := by
  intro t p src cls msg delay node member a b mac addr target line seq r f counts frame ports s c u o n q
  refine ⟨?trainSend, ?comesUp, ?refused, ?linkDown, ?creditRx, ?creditSend, ?nak, ?badHeader, ?blocked, ?accepted, ?flood, ?topo,
    ?expiry, ?ringBreak, ?gateway, ?status, ?topoRead, ?noPath, ?path, ?retrainUp, ?retrainDown⟩
  case trainSend =>
    exact fun down runs => congrArg Host.Outcome.next (if_neg (by rw [down, decide_eq_false runs]; decide))
  case comesUp => exact execTrainRecordRx_up
  case refused =>
    rintro k down intact runs rfl refused other
    exact execTrainRecordRx_refused down intact runs refused other
  case linkDown => exact fun up => congrArg Host.Outcome.next (if_pos up)
  case creditRx => rintro w up rfl; exact congrArg Host.Outcome.next (if_pos (Bool.and_eq_true_iff.2 ⟨up, rfl⟩))
  case creditSend => exact fun up => congrArg Host.Outcome.next (if_pos up)
  case nak => rfl
  case badHeader => exact execOzlFrameRx_badHeader
  case blocked => exact fun up header blocked => (execOzlFrameRx_goodHeader up header).trans (congrArg _ (if_pos blocked))
  case accepted =>
    exact fun up header opened => (execOzlFrameRx_goodHeader up header).trans (congrArg _ (if_neg (ne_true_of_eq_false opened)))
  case flood => rfl
  case topo =>
    rintro e foreign rfl
    exact ⟨fun changed => (execTopo_foreign foreign).trans (congrArg Host.Outcome.next (if_neg fun same => changed (beq_iff_eq.1 same))),
      fun same => (execTopo_foreign foreign).trans (congrArg Host.Outcome.next (if_pos (beq_iff_eq.2 same)))⟩
  case expiry => exact fun old => congrArg Host.Outcome.next (if_pos old)
  case ringBreak => exact fun k => execRingBreak_found
  case gateway =>
    exact fun gateway => congrArg Host.Outcome.next (if_neg (by simpa using gateway))
  case status => exact fun starts => congrArg _ (runCmd_free starts)
  case topoRead =>
    exact fun starts first count => congrArg _ ((runCmd_free starts).trans ((if_neg first).trans (if_neg count)))
  case noPath => exact execOzlPathRead_none
  case path => exact fun e starts node other route => execOzlPathRead_route starts node other route
  case retrainUp =>
    exact fun starts port up => (execOzlPortRetrain_inRange starts port).trans
      (congrArg (fun v => Host.Outcome.next (done c [] v)) (if_pos up))
  case retrainDown =>
    exact fun starts port down => (execOzlPortRetrain_inRange starts port).trans
      (congrArg (fun v => Host.Outcome.next (done c [] v)) (if_neg (ne_true_of_eq_false down)))

end Sys2Proof.Machine
end

section
/-! Settles O41 and O42: what the rows of the time unit do in the case their guards leave, and what the TIM commands do once they
start. -/

namespace Sys2Proof.Machine

section
variable {t d p k mac seq line : Nat} {s : State} {c : Cmd}

/-! ### Which domain is followed (R443) -/

section
variable {a : Nat} (auto : (s.at t).tsu.auto = true)
include auto

/-- Away from the preferred domain, once the other has been LOCKED for 1 s and the preferred one has not. -/
theorem execFollowSwitch_away (preferred : (s.at t).tsu.followed = rdf (s.at t) baseTSU 0 1)
    (locked : (dom (s.at t) (1 - rdf (s.at t) baseTSU 0 1)).lockedAt = some a) (held : a + 1000000000 ≤ (s.at t).now)
    (unlocked : (dom (s.at t) (rdf (s.at t) baseTSU 0 1)).st ≠ 2) (lost : (s.at t).tsu.lostAt + 1000000000 ≤ (s.at t).now) :
    execFollowSwitch t s = .next (switchTo (1 - rdf (s.at t) baseTSU 0 1) (s.at t)) := by
  simp only [execFollowSwitch, auto, Bool.not_true, Bool.false_eq_true, if_false, beq_iff_eq.2 preferred, if_true, locked,
    decide_eq_true held, bne_iff_ne.2 unlocked, decide_eq_true lost, Bool.and_self]

/-- Back to the preferred domain, once it has been LOCKED for SWITCH_HOLD. -/
theorem execFollowSwitch_back (other : (s.at t).tsu.followed ≠ rdf (s.at t) baseTSU 0 1)
    (locked : (dom (s.at t) (rdf (s.at t) baseTSU 0 1)).lockedAt = some a)
    (held : a + rdf (s.at t) baseTSU 12 8 * 1000000000 ≤ (s.at t).now) :
    execFollowSwitch t s = .next (switchTo (rdf (s.at t) baseTSU 0 1) (s.at t)) := by
  simp only [execFollowSwitch, auto, Bool.not_true, Bool.false_eq_true, if_false, beq_false_of_ne other, locked,
    decide_eq_true held, if_true]

end

/-! ### Peer delay and SYNC (R444, R445) -/

section
variable {t1 : Nat} {t2 turn t4 a b : Int}

/-- A port after a peer-delay response: its link delay, and the neighbour rate ratio `r`. -/
def delayMeasured (p t1 : Nat) (t2 turn t4 : Int) (r : Rat) (s : State) : State :=
  setOz p (fun x => { x with
    delay := (((t4 - (t1 : Int)) - turn) / 512 - ozAsym s p).toNat % 2 ^ 32, pdReq := none, pdLast := some (t2 + turn, t4), ratio := r }) s

variable (asked : (ozp (s.at t) p).pdReq = some (seq, t1))
include asked

/-- The first response leaves the ratio as it is. -/
theorem execPdresp_first (first : (ozp (s.at t) p).pdLast = none) : execPdresp t p seq t2 turn t4 s =
    .next (delayMeasured p t1 t2 turn t4 (ozp (s.at t) p).ratio (if (ozp (s.at t) p).up then freeBuffer p 0 (s.at t) else s.at t)) := by
  simp only [execPdresp, delayMeasured, asked, first, beq_self_eq_true, if_true]

theorem execPdresp_again (last : (ozp (s.at t) p).pdLast = some (a, b)) (later : (t4 == b) = false) :
    execPdresp t p seq t2 turn t4 s = .next (delayMeasured p t1 t2 turn t4 (((t2 + turn - a : Int) : Rat) / ((t4 - b : Int) : Rat))
      (if (ozp (s.at t) p).up then freeBuffer p 0 (s.at t) else s.at t)) := by
  simp only [execPdresp, delayMeasured, asked, last, later, beq_self_eq_true, if_true, Bool.false_eq_true, if_false]

end

/-! ### PTP (R447) -/

section
variable {origin rx : Int}

/-- A message of the port's own domain number is not left out. -/
theorem ownNumber (n : Nat) : ¬(n != n) = true := by
  rw [bne_self_eq_false]
  exact Bool.false_ne_true

theorem execPtpMessageRx_followUp {z : Int} (slave : (ptp (s.at t) mac).master = false)
    (waits : (ptp (s.at t) mac).sync = some (seq, z, rx)) :
    execPtpMessageRx t mac (ptpDomain (s.at t) mac) (.followUp seq origin) s = .next (ptpSample mac origin rx (s.at t)) := by
  refine congrArg Host.Outcome.next ((if_neg (ownNumber _)).trans ?_)
  simp only [waits, slave, beq_self_eq_true, Bool.not_false, Bool.and_self, if_true]

section
variable {t2 turn z ms : Int} (asked : (ptp (s.at t) mac).req = some (seq, z))
include asked

theorem execPtpMessageRx_peerResp (peer : peerProfile (s.at t) mac = true) :
    execPtpMessageRx t mac (ptpDomain (s.at t) mac) (.delayResp seq t2 turn rx) s =
      .next (setPtp mac (fun x => { x with req := none, delay := ((rx - z) - turn) / 2 }) (s.at t)) := by
  refine congrArg Host.Outcome.next ((if_neg (ownNumber _)).trans ?_)
  simp only [asked, peer, bne_self_eq_false, Bool.false_eq_true, if_false, if_true]

theorem execPtpMessageRx_delayResp (delay : peerProfile (s.at t) mac = false)
    (offset : (ptp (s.at t) mac).msDelay = some ms) :
    execPtpMessageRx t mac (ptpDomain (s.at t) mac) (.delayResp seq t2 turn rx) s =
      .next (setPtp mac (fun x => { x with req := none, delay := (ms + (t2 - z)) / 2 }) (s.at t)) := by
  refine congrArg Host.Outcome.next ((if_neg (ownNumber _)).trans ?_)
  simp only [asked, delay, offset, bne_self_eq_false, Bool.false_eq_true, if_false]

end

/-- A port that hears no better master takes the part its configuration allows. -/
theorem execPtpMessageRx_announce {utc : Nat} :
    execPtpMessageRx t mac (ptpDomain (s.at t) mac) (.announce false utc) s =
      .next (setPtp mac (fun x => { x with master := masterOk (s.at t) mac }) (s.at t)) := by
  refine congrArg Host.Outcome.next ((if_neg (ownNumber _)).trans ?_)
  simp only [Bool.not_false, Bool.and_true, Bool.false_eq_true, if_false]

end

/-! ### Compare and capture (R440) -/

/-- An edge that a capture unit selects is captured, or sets OVR while the last one stands. -/
theorem execTsuCaptureEdge_selected {rising : Bool} {time : Nat} (captures : ccCfg (s.at t) k 0 1 ≠ 0)
    (selected : (if rising then ccCfg (s.at t) k 12 2 == 1 || ccCfg (s.at t) k 12 2 == 3
      else ccCfg (s.at t) k 12 2 == 2 || ccCfg (s.at t) k 12 2 == 3) = true) : execTsuCaptureEdge t k rising time s =
    .next (if (ccu (s.at t) k).cap.isSome then setCc k (fun x => { x with ovr := true }) (s.at t)
      else fireEvent (416 + k) (setCc k (fun x => { x with cap := some time, last := time }) (s.at t))) :=
  congrArg Host.Outcome.next (if_neg (by
    rw [beq_false_of_ne captures, selected]
    decide))

theorem execTsuCaptureEdge_rising {time : Nat} (captures : ccCfg (s.at t) k 0 1 ≠ 0) (edge : ccCfg (s.at t) k 12 2 = 1) :
    execTsuCaptureEdge t k true time s = .next (if (ccu (s.at t) k).cap.isSome then setCc k (fun x => { x with ovr := true }) (s.at t)
      else fireEvent (416 + k) (setCc k (fun x => { x with cap := some time, last := time }) (s.at t))) :=
  execTsuCaptureEdge_selected captures (by rw [edge]; rfl)

theorem execTsuCaptureEdge_falling {time : Nat} (captures : ccCfg (s.at t) k 0 1 ≠ 0) (edge : ccCfg (s.at t) k 12 2 = 2) :
    execTsuCaptureEdge t k false time s = .next (if (ccu (s.at t) k).cap.isSome then setCc k (fun x => { x with ovr := true }) (s.at t)
      else fireEvent (416 + k) (setCc k (fun x => { x with cap := some time, last := time }) (s.at t))) :=
  execTsuCaptureEdge_selected captures (by rw [edge]; rfl)

end

/-- Settles O41: each clause is the case of its row that the guards leave. -/
theorem timeRowsComplete : Obligations.TimeRowsComplete := by
  intro t d p seq t1 t2 t3 tnum root utc interval mac src hops msg source i2 turn t4 origin corr ratio rx residence better s u o q
    pref g up setPort
  refine ⟨?sample, ?holdover, ?free, ?away, ?back, ?aonClock, ?delayRequest, ?pdreq, ?first, ?again, ?syncSend, ?sync, ?ptpSync,
    ?ptpTwoStep, ?followUp, ?peerResp, ?delayResp, ?delayReq, ?announce, ?ptpSyncSend, ?ptpDelayReqSend⟩
  case sample => exact fun sourced => congrArg Host.Outcome.next (if_neg (by simpa using sourced))
  case holdover =>
    rintro w state late rfl
    exact congrArg Host.Outcome.next (if_pos (Bool.and_eq_true_iff.2
      ⟨(Bool.or_eq_true ..).mpr (state.imp beq_iff_eq.2 beq_iff_eq.2), decide_eq_true late⟩))
  case free =>
    rintro w held late rfl
    exact congrArg Host.Outcome.next (if_pos (Bool.and_eq_true_iff.2 ⟨beq_iff_eq.2 held, decide_eq_true late⟩))
  case away => exact fun a => execFollowSwitch_away
  case back => exact fun a => execFollowSwitch_back
  case aonClock =>
    rintro w clocked runs rfl
    exact congrArg Host.Outcome.next (if_neg (by rw [decide_eq_false clocked, beq_false_of_ne runs]; decide))
  case delayRequest => exact fun trained => congrArg Host.Outcome.next (if_pos trained)
  case pdreq => exact fun trained => congrArg Host.Outcome.next (if_pos trained)
  case first => exact execPdresp_first
  case again => exact fun a b => execPdresp_again
  case syncSend =>
    rintro v own active mode rfl
    exact congrArg Host.Outcome.next (if_pos (Bool.and_eq_true_iff.2
      ⟨Bool.and_eq_true_iff.2 ⟨beq_iff_eq.2 own, bne_iff_ne.2 active⟩, decide_eq_true mode⟩))
  case sync =>
    rintro cum at' trained opened rfl rfl
    exact congrArg Host.Outcome.next ((if_neg (by simpa using trained)).trans (if_neg (ne_true_of_eq_false opened)))
  case ptpSync =>
    exact fun slave => congrArg Host.Outcome.next ((if_neg (ownNumber _)).trans ((if_neg (ne_true_of_eq_false slave)).trans (if_pos rfl)))
  case ptpTwoStep =>
    exact fun slave => congrArg Host.Outcome.next ((if_neg (ownNumber _)).trans
      ((if_neg (ne_true_of_eq_false slave)).trans (if_neg Bool.false_ne_true)))
  case followUp => exact fun z => execPtpMessageRx_followUp
  case peerResp => exact fun z => execPtpMessageRx_peerResp
  case delayResp => exact fun z ms => execPtpMessageRx_delayResp
  case delayReq =>
    exact fun answers => congrArg Host.Outcome.next ((if_neg (ownNumber _)).trans (if_pos ((Bool.or_eq_true ..).mpr answers)))
  case announce => exact execPtpMessageRx_announce
  case ptpSyncSend => exact fun master => congrArg Host.Outcome.next (if_pos master)
  case ptpDelayReqSend => exact fun asks => congrArg Host.Outcome.next (if_neg (ne_true_of_eq_false asks))

/-- Settles O42: each clause is the case of its row or command that the guards leave. -/
theorem compareCaptureAndTimeCommandsComplete : Obligations.CompareCaptureAndTimeCommandsComplete := by
  intro t k target time line seq m s c u j
  refine ⟨?arm, ?fire, ?rising, ?falling, ?overrun, ?read, ?status, ?follow, ?compareSet, ?captureRead⟩
  case arm =>
    exact fun owner compares => congrArg Host.Outcome.next (if_pos (Bool.and_eq_true_iff.2 ⟨owner, beq_iff_eq.2 compares⟩))
  case fire =>
    exact fun armed due => congrArg Host.Outcome.next (if_pos (Bool.and_eq_true_iff.2 ⟨armed, decide_eq_true due⟩))
  case rising =>
    exact fun captures edge empty => (execTsuCaptureEdge_rising captures edge).trans
      (congrArg Host.Outcome.next (if_neg (ne_true_of_eq_false empty)))
  case falling =>
    exact fun captures edge empty => (execTsuCaptureEdge_falling captures edge).trans
      (congrArg Host.Outcome.next (if_neg (ne_true_of_eq_false empty)))
  case overrun =>
    exact fun captures edge full => (execTsuCaptureEdge_rising captures edge).trans (congrArg Host.Outcome.next (if_pos full))
  case read => rfl
  case status => rintro n rfl starts; exact congrArg _ (runCmd_free starts)
  case follow =>
    exact fun starts domain auto => congrArg _ ((runCmd_free starts).trans ((if_neg domain).trans (if_neg auto)))
  case compareSet => exact fun starts allowed unit => congrArg _ ((runCmd_starts starts allowed).trans (if_neg unit))
  case captureRead => exact fun starts allowed unit => congrArg _ ((runCmd_starts starts allowed).trans (if_neg unit))

end Sys2Proof.Machine
end

section
/-! Settles O45: what the rows of Fenline do in the case their guards leave, and what the FEN commands do once they start. -/

namespace Sys2Proof.Machine

section
variable {t period line seq : Nat} {s : State} {c : Cmd}

/-! ### Mains slots and beacons (R481, R489) -/

section
variable (gateway : fenRole (s.at t) = 1)
include gateway

/-- A valid crossing at a gateway counts towards its ten on the timer, else sets the slots. -/
theorem execFenZeroCrossing_valid : execFenZeroCrossing t true period s = .next (
    if (s.at t).fen.zcTimer && (s.at t).fen.zcGood < 9 then { s.at t with fen.zcGood := (s.at t).fen.zcGood + 1 }
    else { s.at t with
      fen.zcTimer := false, fen.zcGood := 0, fen.zcAt := (s.at t).now, fen.half := period, fen.synced := true }) :=
  congrArg Host.Outcome.next ((if_neg (by rw [gateway]; decide)).trans (if_neg (by decide)))

theorem execFenZcLost_late (crossings : (s.at t).fen.zcTimer = false) (late : ¬(s.at t).now < (s.at t).fen.zcAt + 3 *
      (if (s.at t).fen.half = 0 then halfNominal (s.at t) else (s.at t).fen.half)) :
    execFenZcLost t s = .next (raiseError errZcLost 0 (fireEvent 435
      { s.at t with fen.zcTimer := true, fen.zcGood := 0, fen.half := halfNominal (s.at t), fen.synced := true })) :=
  congrArg Host.Outcome.next (if_neg (by rw [gateway, crossings, decide_eq_false late]; decide))

end

/-! ### Tone maps, routes and neighbours (R483, R490, R491) -/

section
variable {node slot : Nat} {x : Neigh} (found : neighOf (s.at t) node = some x)
include found

theorem execToneMapExpiry_unused (unused : ¬(s.at t).now < get x.used slot + 30000000000) : execToneMapExpiry t node slot s =
    .next ((if x.resound.toList.any id then List.range 8 else []).foldl (fun a k => askSounding node k a) (updRates node
      (setNeigh node (fun x => { x with tx := upd x.tx slot fun _ => none, low := upd x.low slot fun _ => false }) (s.at t)))) := by
  simp only [execToneMapExpiry, found]
  exact congrArg Host.Outcome.next (if_neg unused)

theorem execNeighbourExpiry_old (old : x.seen + 5000000000 ≤ (s.at t).now) : execNeighbourExpiry t node s =
    .next (chooseRoute (fireEvent 436
      { s.at t with fen.neigh := (s.at t).fen.neigh.filter (fun y => y.node != node), fen.fullSaid := false })) := by
  simp only [execNeighbourExpiry, found]
  exact congrArg Host.Outcome.next (if_pos old)

end

theorem execRouteChange_due {m since : Nat} (better : (s.at t).fen.better = some (m, since))
    (due : since + 10000000000 ≤ (s.at t).now) : execRouteChange t s = .next (setRoute (neighOf (s.at t) m) (s.at t)) := by
  simp only [execRouteChange, better]
  exact congrArg Host.Outcome.next (if_pos due)

/-! ### Receiving frames (R484 to R488) -/

section
variable {f : FenFrame} (on : fenOn (s.at t) = true)
include on

/-- A frame for another next hop is only counted; one for this node is answered and judged. -/
theorem execFenFrameRx_on : execFenFrameRx t f s = .next (
    if !(f.bcast || f.next == ownNode (s.at t)) then countBlank f (s.at t)
    else if failedBlocks f != [] then fenAnswer f (s.at t)
    else if !f.tagOk then dropAuth true (fenAnswer f (s.at t))
    else if !freshCount (fenAnswer f (s.at t)) f then dropAuth false (fenAnswer f (s.at t))
    else fenAct f (fenNote f (fenAnswer f (s.at t)))) :=
  congrArg Host.Outcome.next (if_neg (by rw [on]; decide))

theorem execFenFrameRx_foreign (foreign : (f.bcast || f.next == ownNode (s.at t)) = false) :
    execFenFrameRx t f s = .next (countBlank f (s.at t)) :=
  (execFenFrameRx_on on).trans (congrArg Host.Outcome.next (if_pos (by rw [foreign]; rfl)))

variable (mine : (f.bcast || f.next == ownNode (s.at t)) = true)
include mine

theorem execFenFrameRx_failed (failed : failedBlocks f ≠ []) : execFenFrameRx t f s = .next (fenAnswer f (s.at t)) :=
  (execFenFrameRx_on on).trans (congrArg Host.Outcome.next
    ((if_neg (by rw [mine]; decide)).trans (if_pos (bne_iff_ne.2 failed))))

variable (whole : failedBlocks f = [])
include whole

theorem execFenFrameRx_whole : execFenFrameRx t f s = .next (
    if !f.tagOk then dropAuth true (fenAnswer f (s.at t))
    else if !freshCount (fenAnswer f (s.at t)) f then dropAuth false (fenAnswer f (s.at t))
    else fenAct f (fenNote f (fenAnswer f (s.at t)))) :=
  (execFenFrameRx_on on).trans (congrArg Host.Outcome.next
    ((if_neg (by rw [mine]; decide)).trans (if_neg (by rw [whole]; decide))))

theorem execFenFrameRx_badTag (tag : f.tagOk = false) : execFenFrameRx t f s = .next (dropAuth true (fenAnswer f (s.at t))) :=
  (execFenFrameRx_whole on mine whole).trans (congrArg Host.Outcome.next (if_pos (by rw [tag]; rfl)))

theorem execFenFrameRx_fresh (tag : f.tagOk = true) (fresh : freshCount (fenAnswer f (s.at t)) f = true) :
    execFenFrameRx t f s = .next (fenAct f (fenNote f (fenAnswer f (s.at t)))) :=
  (execFenFrameRx_whole on mine whole).trans (congrArg Host.Outcome.next
    ((if_neg (by rw [tag]; decide)).trans (if_neg (by rw [fresh]; decide))))

end

/-! ### Sending frames (R485, R486) -/

section
variable {x : FenTx}

/-- With no frame in flight, a collision doubles the window; else the next frame goes out. -/
theorem execFenBackoffExpiry_next {collision : Bool} (talks : fenTalks (s.at t) = true) (idle : (s.at t).fen.flight.isSome = false)
    (next : nextFen (s.at t).fen.queue = some x) : execFenBackoffExpiry t collision s = .next (
      if collision then { s.at t with fen.window := min 128 (2 * (s.at t).fen.window) }
      else askIfNone x (transmitFen x (s.at t))) := by
  refine congrArg Host.Outcome.next ((if_neg (by rw [talks, idle]; decide)).trans ?_)
  simp only [next]

variable (flight : (s.at t).fen.flight = some x)
include flight

theorem execSackRx_through : execSackRx t [] s = .next (setNeigh x.next (fun y => { y with drops := 0 })
    { s.at t with fen.flight := none, fen.window := 16 }) := by
  simp only [execSackRx, flight, List.isEmpty_nil, if_true]

theorem execSackRx_failed {failed : List Nat} (blocks : failed.isEmpty = false) :
    execSackRx t failed s = .next (sendFailed x (some failed) (s.at t)) := by
  simp only [execSackRx, flight, blocks, Bool.false_eq_true, if_false]

theorem execFenSackTimeout_flight : execFenSackTimeout t s = .next (sendFailed x none (s.at t)) := by
  simp only [execFenSackTimeout, flight]

end

/-! ### The FEN commands (R496, R509) -/

theorem execFenTonemapRead_found {x : Neigh} (found : neighOf (s.at t) (c.param 8 2) = some x)
    (starts : Starts line seq 0x1003 (s.at t) c) :
    execFenTonemapRead t line seq s = .next (doneOut c [] (x.tx.toList.map mapBytes).flatten (s.at t)) := by
  refine congrArg _ ((runCmd_free starts).trans ?_)
  simp only [found]

end

/-- Settles O45: each clause is the case of its row or command that the guards leave. -/
theorem fenlineComplete : Obligations.FenlineComplete := by
  intro t period netId gwTime ago tx slot node own hops bler line seq map f rows failed routed s c u n
  refine ⟨?crossing, ?tenGood, ?zcLost, ?beaconSend, ?beaconRx, ?beaconLost, ?sounding, ?toneMap, ?mapExpiry, ?routeChange,
    ?metricSend, ?metricRx, ?neighbourExpiry, ?foreign, ?failedBlocks, ?badTag, ?fresh, ?backoff, ?through, ?partly, ?timeout,
    ?status, ?neighRead, ?tonemapRead, ?resound⟩
  case crossing =>
    exact fun gateway crossings => (execFenZeroCrossing_valid gateway).trans (congrArg Host.Outcome.next
      (if_neg (by rw [crossings]; exact Bool.false_ne_true)))
  case tenGood =>
    exact fun gateway timer few => (execFenZeroCrossing_valid gateway).trans (congrArg Host.Outcome.next
      (if_pos (Bool.and_eq_true_iff.2 ⟨timer, decide_eq_true few⟩)))
  case zcLost => exact execFenZcLost_late
  case beaconSend =>
    exact fun gateway talks synced => congrArg Host.Outcome.next (if_pos (Bool.and_eq_true_iff.2
      ⟨Bool.and_eq_true_iff.2 ⟨beq_iff_eq.2 gateway, talks⟩, synced⟩))
  case beaconRx =>
    exact fun leaf on network => congrArg Host.Outcome.next (if_pos (Bool.and_eq_true_iff.2
      ⟨Bool.and_eq_true_iff.2 ⟨beq_iff_eq.2 leaf, on⟩, beq_iff_eq.2 network⟩))
  case beaconLost =>
    exact fun leaf heard late => congrArg Host.Outcome.next (if_pos (Bool.and_eq_true_iff.2
      ⟨Bool.and_eq_true_iff.2 ⟨beq_iff_eq.2 leaf, by rw [heard]; rfl⟩, decide_eq_true late⟩))
  case sounding => exact fun on known => congrArg Host.Outcome.next (if_pos (Bool.and_eq_true_iff.2 ⟨on, known⟩))
  case toneMap => exact fun on => congrArg Host.Outcome.next (if_pos on)
  case mapExpiry => exact fun x => execToneMapExpiry_unused
  case routeChange => exact fun m since => execRouteChange_due
  case metricSend => rintro data talks rfl; exact congrArg Host.Outcome.next (if_pos talks)
  case metricRx =>
    rintro up g on other rfl rfl
    exact congrArg Host.Outcome.next (if_neg (by rw [on, beq_false_of_ne other]; decide))
  case neighbourExpiry => exact fun x => execNeighbourExpiry_old
  case foreign => exact execFenFrameRx_foreign
  case failedBlocks => exact execFenFrameRx_failed
  case badTag => exact execFenFrameRx_badTag
  case fresh => exact execFenFrameRx_fresh
  case backoff =>
    exact fun x talks idle next => ⟨(execFenBackoffExpiry_next talks idle next).trans (congrArg _ (if_pos rfl)),
      (execFenBackoffExpiry_next talks idle next).trans (congrArg _ (if_neg Bool.false_ne_true))⟩
  case through => exact fun x => execSackRx_through
  case partly => exact fun x flight => execSackRx_failed flight
  case timeout => exact fun x => execFenSackTimeout_flight
  case status => exact fun starts => congrArg _ (runCmd_free starts)
  case neighRead => rintro b rfl starts; exact congrArg _ (runCmd_free starts)
  case tonemapRead => exact fun x => execFenTonemapRead_found
  case resound =>
    exact fun starts known => congrArg _ ((runCmd_free starts).trans (if_neg (ne_true_of_eq_false known)))

end Sys2Proof.Machine
end

section
/-! Settles O47: what the CFG commands do once they start, what a partner's request does, and how a write of xSPI0 ends. -/

namespace Sys2Proof.Machine

section
variable {t line seq ps : Nat} {s : State} {c : Cmd}

/-! ### Staging (R515) -/

section
variable (starts : Starts line seq 0x0301 (s.at t) c) (allowed : standbyIllegal c (s.at t) = false)
  (alone : mirrorUp (s.at t) = false)
include starts allowed alone

/-- A chunk without a fault is written; the last one is ACCEPTED and validated. -/
theorem execCfgStage_faultless
    (fits : chunkFault (s.at t) (c.param 8 4) (c.param 12 4) (c.param 16 1 == 1) c.data = none) :
    execCfgStage t line seq ps true s = .next (if c.param 16 1 == 1 then
        accept c [] { writeChunk (c.param 8 4) (c.param 12 4) c.data (s.at t) with cfg.validating := some (line, seq) }
      else done c (stageResult 0 {}) (writeChunk (c.param 8 4) (c.param 12 4) c.data (s.at t))) := by
  refine congrArg Host.Outcome.next ((runCmd_starts starts allowed).trans ?_)
  simp only [fits, alone, Bool.false_and, Bool.not_true, Bool.false_eq_true, if_false]

theorem execCfgStage_chunk (more : c.param 16 1 = 0)
    (fits : chunkFault (s.at t) (c.param 8 4) (c.param 12 4) false c.data = none) :
    execCfgStage t line seq ps true s =
      .next (done c (stageResult 0 {}) (writeChunk (c.param 8 4) (c.param 12 4) c.data (s.at t))) :=
  (execCfgStage_faultless starts allowed alone (by rw [more]; exact fits)).trans
    (congrArg Host.Outcome.next (if_neg (by rw [more]; decide)))

theorem execCfgStage_last (last : c.param 16 1 = 1)
    (fits : chunkFault (s.at t) (c.param 8 4) (c.param 12 4) true c.data = none) :
    execCfgStage t line seq ps true s = .next (accept c []
      { writeChunk (c.param 8 4) (c.param 12 4) c.data (s.at t) with cfg.validating := some (line, seq) }) :=
  (execCfgStage_faultless starts allowed alone (by rw [last]; exact fits)).trans
    (congrArg Host.Outcome.next (if_pos (by rw [last]; rfl)))

end

theorem execCfgValidationDone_found {sigOk : Bool} {d : Cmd} (validating : (s.at t).cfg.validating = some (line, seq))
    (found : findCmd (s.at t) line seq = some d) : execCfgValidationDone t sigOk s =
      (let r := judgeStaged sigOk { s.at t with cfg.validating := none }
       .next (finish d { status := r.1.status, detail := if r.1.status = 0 then 0 else 52,
                         result := stageResult (memRead (s.at t).mem (areaAddr (stageArea (s.at t)) + 8) 4) r.1 } r.2)) := by
  simp only [execCfgValidationDone, validating, found]

theorem execCfgDiscard_alone (starts : Starts line seq 0x0306 (s.at t) c) (allowed : standbyIllegal c (s.at t) = false)
    (alone : mirrorUp (s.at t) = false) : execCfgDiscard t line seq ps s = .next (done c [] (discardStaged (s.at t))) := by
  refine congrArg Host.Outcome.next ((runCmd_starts starts allowed).trans ?_)
  simp only [alone, Bool.false_and, Bool.false_eq_true, if_false]

theorem execCfgRead_active {a : Nat} (starts : Starts line seq 0x0305 (s.at t) c) (which : c.param 8 1 = 0)
    (active : (s.at t).cfg.map.active = some a) (inside : ¬areaLength (s.at t) a < c.param 12 4) :
    execCfgRead t line seq s = .next (doneOut c []
      (memBytes (s.at t).mem (areaAddr a + c.param 12 4) (min 65536 (areaLength (s.at t) a - c.param 12 4))) (s.at t)) := by
  refine congrArg Host.Outcome.next ((runCmd_free starts).trans ?_)
  rw [which, active]
  exact if_neg inside

/-! ### Commit and rollback (R517, R518) -/

section
variable {op st d : Nat} {rollback : Bool} {m : SlotMap} {changed : List Nat} {x : State} (active : x.dpx.role ≠ 2)
include active

theorem commitBody_answer (plan : planCommit (c.param 8 4) (c.param 12 1 % 2 == 1) rollback x = .answer st d) (other : st ≠ stDone) :
    commitBody op ps rollback c x = finish c { status := st, detail := d } x := by
  refine (if_neg (by rw [beq_false_of_ne active]; exact Bool.false_ne_true)).trans ?_
  simp only [plan, beq_false_of_ne other, Bool.false_eq_true, if_false]

theorem commitBody_go (plan : planCommit (c.param 8 4) (c.param 12 1 % 2 == 1) rollback x = .go m changed)
    (alone : mirrorUp x = false) (idle : x.cfg.write.isSome = false) :
    commitBody op ps rollback c x = beginCommit c.line c.seq 0 m changed rollback (accept c [] x) := by
  refine (if_neg (by rw [beq_false_of_ne active]; exact Bool.false_ne_true)).trans ?_
  simp only [plan, idle, alone, Bool.false_and, Bool.false_eq_true, if_false, b2n]

end

/-! ### The partner's requests (R519) -/

section
variable {sigOk : Bool}

theorem execCfgPartnerRequest_chunk {ofs total : Nat} {data : List Nat} (fits : chunkFault (s.at t) ofs total false data = none) :
    execCfgPartnerRequest t (.stage ofs total false data) sigOk s =
      .next (answerPartner stDone (writeChunk ofs total data (s.at t))) := by
  simp only [execCfgPartnerRequest, fits, Bool.false_eq_true, if_false]

theorem execCfgPartnerRequest_commit {expect : Nat} {force : Bool} {m : SlotMap} {changed : List Nat}
    (plan : planCommit expect force false (s.at t) = .go m changed) (idle : (s.at t).cfg.write.isSome = false) :
    execCfgPartnerRequest t (.commit expect force) sigOk s = .next (beginCommit partnerLine 0 1 m changed false (s.at t)) := by
  simp only [execCfgPartnerRequest, plan]
  exact congrArg Host.Outcome.next (if_neg (ne_true_of_eq_false idle))

end

/-! ### The end of a write of xSPI0 (R34, R511) -/

section
variable {ok : Bool} (alive : writeAlive (s.at t) line seq = true)
include alive

/-- The write of a slot map whose command stands is the commit point where it passed its read-back, else it fails. -/
theorem execXsp0WriteDone_slotMap {m : SlotMap} {rollback : Bool} (write : (s.at t).cfg.write = some (.slotMap m line seq rollback)) :
    execXsp0WriteDone t ok s = .next (if ok then commitPoint m { s.at t with cfg.write := none }
      else finishCmd line seq { status := stFault } (xsp0WriteFail { s.at t with cfg.write := none, cfg.job := none })) := by
  simp only [execXsp0WriteDone, write, alive, Bool.not_true, Bool.false_eq_true, if_false]

theorem execXsp0WriteDone_keyImage (write : (s.at t).cfg.write = some (.keyImage line seq)) :
    execXsp0WriteDone t true s = .next (keyWriteDone line seq { s.at t with cfg.write := none }) := by
  simp only [execXsp0WriteDone, write, alive, Bool.not_true, Bool.false_eq_true, if_false, if_true]

theorem execXsp0WriteDone_fallback {k : Nat} (write : (s.at t).cfg.write = some (.fwHeader k .fallback line seq)) :
    execXsp0WriteDone t true s = .next (finishCmd line seq { result := [0, 0, 0, 0, k] }
      (fireEvent 466 (setFw k (fun x => { x with st := .fallback }) { s.at t with cfg.write := none }))) := by
  simp only [execXsp0WriteDone, write, alive, Bool.not_true, Bool.false_eq_true, if_false]
  exact congrArg Host.Outcome.next (if_neg (by decide))

end

end

/-- Settles O47: each clause is the case of its row or command that the guards leave. -/
theorem configurationCommandsComplete : Obligations.ConfigurationCommandsComplete := by
  intro t line seq ps ofs total sigOk lst data s c u o tot k m
  refine ⟨?stage, ?validation, ?discard, ?status, ?read, ?answer, ?commit, ?rollback, ?partnerDiscard, ?partnerStage,
    ?partnerCommit, ?slotMap, ?slotMapFails, ?keyImage, ?fwHeader⟩
  case stage =>
    exact fun starts allowed alone => ⟨execCfgStage_chunk starts allowed alone, execCfgStage_last starts allowed alone⟩
  case validation => rintro d r validating found rfl; exact execCfgValidationDone_found validating found
  case discard => exact execCfgDiscard_alone
  case status => exact fun starts => congrArg _ (runCmd_free starts)
  case read => exact fun a => execCfgRead_active
  case answer =>
    exact fun st d starts plan active other =>
      congrArg Host.Outcome.next ((runCmd_free starts).trans (commitBody_answer active plan other))
  case commit =>
    exact fun m changed starts plan active alone idle =>
      congrArg Host.Outcome.next ((runCmd_free starts).trans (commitBody_go active plan alone idle))
  case rollback =>
    exact fun m changed starts plan active alone idle =>
      congrArg Host.Outcome.next ((runCmd_free starts).trans (commitBody_go active plan alone idle))
  case partnerDiscard => rfl
  case partnerStage => exact execCfgPartnerRequest_chunk
  case partnerCommit => exact fun m changed plan idle => execCfgPartnerRequest_commit (sigOk := sigOk) plan idle
  case slotMap =>
    rintro m rollback w write rfl alive
    exact (execXsp0WriteDone_slotMap alive write).trans (congrArg Host.Outcome.next (if_pos rfl))
  case slotMapFails =>
    rintro m rollback w write rfl alive
    exact (execXsp0WriteDone_slotMap alive write).trans (congrArg Host.Outcome.next (if_neg Bool.false_ne_true))
  case keyImage => exact fun write alive => execXsp0WriteDone_keyImage alive write
  case fwHeader => exact fun write alive => execXsp0WriteDone_fallback alive write

end Sys2Proof.Machine
end

section
/-! Settles O48: what the diagnostic commands do once they start, and what the debug port does in its modes. -/

namespace Sys2Proof.Machine

section
variable {t line seq : Nat} {s : State} {c : Cmd}

/-! ### The diagnostic commands (R509, R521) -/

section
variable {l : List Nat} {x : State} (words : diagWords (c.param 12 2) (c.param 8 4) (s.at t) = (l, x))
  (starts : Starts line seq 0x1101 (s.at t) c) (aligned : c.param 8 4 % 4 = 0) (least : ¬c.param 12 2 < 1)
  (fits : ¬16384 < c.param 12 2)
include words starts aligned least fits

/-- The words read stand in the completion where no buffer is referred to and they fit, else in the buffer. -/
theorem execDiagRegRead_words : execDiagRegRead t line seq s = .next (
    if c.refLen = 0 && c.param 12 2 ≤ 8 then done c ((l.map (leBytes 4)).flatten) x
    else doneOut c [] ((l.map (leBytes 4)).flatten) x) := by
  refine congrArg Host.Outcome.next ((runCmd_free starts).trans ((if_neg (by rw [aligned]; decide)).trans
    ((if_neg (by rw [decide_eq_false least, decide_eq_false fits]; decide)).trans ?_)))
  simp only [words]

theorem execDiagRegRead_completion (unreferred : c.refLen = 0) (few : c.param 12 2 ≤ 8) :
    execDiagRegRead t line seq s = .next (done c ((l.map (leBytes 4)).flatten) x) :=
  (execDiagRegRead_words words starts aligned least fits).trans (congrArg Host.Outcome.next
    (if_pos (Bool.and_eq_true_iff.2 ⟨decide_eq_true unreferred, decide_eq_true few⟩)))

theorem execDiagRegRead_buffer (referred : c.refLen ≠ 0) :
    execDiagRegRead t line seq s = .next (doneOut c [] ((l.map (leBytes 4)).flatten) x) :=
  (execDiagRegRead_words words starts aligned least fits).trans (congrArg Host.Outcome.next
    (if_neg (by rw [decide_eq_false referred]; exact Bool.false_ne_true)))

end

theorem execDiagRegWrite_inRange (starts : Starts line seq 0x1102 (s.at t) c) (allowed : diagIllegal c (s.at t) = false)
    (inRange : diagOutOfRange (blockOf (c.param 8 4)).1 (blockOf (c.param 8 4)).2 (c.param 12 4)
      (diagWord (readWord (s.at t) (c.param 8 4)) (c.param 12 4) (c.param 16 4)) = false) :
    execDiagRegWrite t line seq s =
      (let w := diagWrite (blockOf (c.param 8 4)).1 (blockOf (c.param 8 4)).2
         (diagWord (readWord (s.at t) (c.param 8 4)) (c.param 12 4) (c.param 16 4)) (s.at t)
       .next (done c (leBytes 4 (readWord w (c.param 8 4))) w)) :=
  congrArg Host.Outcome.next ((runCmd_starts starts allowed).trans (if_neg (ne_true_of_eq_false inRange)))

/-! ### Freeze and resume (R526, R532, R533) -/

section
variable (loaded : (s.at t).dbg.ir = 0x13)
include loaded

/-- The loaded resume acts in a freeze that may be resumed with FREEZE_N high, and is refused elsewhere. -/
theorem execDbgResume_loaded : execDbgResume t s = .next (
    if (s.at t).sys.mode == .m11 && (s.at t).dbg.resumable && !(s.at t).dbg.freezeNLow then resumeFreeze (s.at t)
    else tapRefuse (s.at t)) :=
  congrArg Host.Outcome.next (if_neg (by rw [loaded]; decide))

theorem execDbgResume_frozen (frozen : (s.at t).sys.mode = .m11) (resumable : (s.at t).dbg.resumable = true)
    (high : (s.at t).dbg.freezeNLow = false) : execDbgResume t s = .next (resumeFreeze (s.at t)) :=
  (execDbgResume_loaded loaded).trans (congrArg Host.Outcome.next (if_pos (by rw [frozen, resumable, high]; rfl)))

theorem execDbgResume_final (final : (s.at t).dbg.resumable = false) : execDbgResume t s = .next (tapRefuse (s.at t)) :=
  (execDbgResume_loaded loaded).trans (congrArg Host.Outcome.next
    (if_neg (by rw [final, Bool.and_false, Bool.false_and]; exact Bool.false_ne_true)))

end

/-! ### Debug reads (R530) -/

section
variable {dbl : Bool} (loaded : (s.at t).dbg.ir = 0x12)
include loaded

/-- In M11 a word that the life cycle lets the port read is captured, another reads 0 and is marked blocked. -/
theorem execDbgRead_frozen (frozen : (s.at t).sys.mode = .m11) {ok : Bool}
    (readable : dbgReadable (s.at t) (s.at t).dbg.addr = ok) : execDbgRead t dbl s =
      (let w := if ok then dbgWord (s.at t) (s.at t).dbg.addr else 0
       let v := if mayRead .sup (s.at t).dbg.addr then s.at t else firewallCount (s.at t)
       .next (emit { v with dbg := { v.dbg with
         word := w, blocked := !ok, eccDbl := ok && dbl, addr := ((s.at t).dbg.addr + 4) % 2 ^ 32 } }
         .tap 0 [((w : Nat) : Int), ((b2n (!ok) : Nat) : Int), ((b2n (ok && dbl) : Nat) : Int)])) := by
  subst readable
  exact congrArg Host.Outcome.next ((if_neg (by rw [loaded]; decide)).trans (if_pos (beq_iff_eq.2 frozen)))

theorem execDbgRead_running (running : (s.at t).sys.mode ≠ .m11) : execDbgRead t dbl s = .next (tapRefuse (s.at t)) :=
  congrArg Host.Outcome.next ((if_neg (by rw [loaded]; decide)).trans (if_neg (mt beq_iff_eq.1 running)))

end

/-! ### Instructions of the port (R529, R531, R554) -/

/-- An instruction is left without a reset where the one before it, or the next one as well, drives the balls or not. -/
theorem leavePins_of_not_leaving {code : Nat} (stays : drivesPins s.dbg.ir = false ∨ drivesPins code = true) :
    leavePins code s = s := by
  refine if_neg ?_
  obtain idle | driving := stays
  · rw [idle, Bool.false_and, Bool.false_and, Bool.false_and]
    exact Bool.false_ne_true
  · rw [driving, Bool.not_true, Bool.and_false, Bool.false_and, Bool.false_and]
    exact Bool.false_ne_true

/-- Leaving the balls in a mode that is neither M11 nor M0 is the debug reset. -/
theorem leavePins_leaving {code : Nat} (driving : drivesPins s.dbg.ir = true) (leaves : drivesPins code = false)
    (running : s.sys.mode ≠ .m11) (started : s.sys.mode ≠ .m0) : leavePins code s = resetControl .debug (coldNow s) s :=
  if_pos (by rw [driving, leaves, bne_iff_ne.2 running, bne_iff_ne.2 started]; rfl)

/-- The instruction register after a load, and REFUSED where the instruction asked for was refused. -/
def irLoaded (ir : Nat) (refused : Bool) (s : State) : State :=
  { s with dbg := { s.dbg with ir := ir, refused := s.dbg.refused || refused } }

section
variable {code ir : Nat} {ok : Bool} {cells tdi : List Bool}

/-- Where no reset is due, the load sets the register, and the instruction then shifts out or scans. -/
theorem execTapInstructionLoad_stays (allowed : tapAllowed (s.at t) code = ok)
    (selects : (if tapCodes.contains code && ok then code else 0xFF) = ir)
    (stays : drivesPins (s.at t).dbg.ir = false ∨ drivesPins ir = true) : execTapInstructionLoad t code cells tdi s =
      (let w := irLoaded ir (!ok) (s.at t)
       .next (if ir = 0x01 then emit w .tap 1 [0x048763A5]
         else if ir = 0x10 then emit w .tap 0x10 [((dbgStatWord w : Nat) : Int)]
         else if (ir = 0x02 || ir = 0x03) && tdi != [] then bndScan cells tdi (if ir = 0x03 then extestLow w else w)
         else if ir = 0x03 then extestLow w else w)) := by
  subst allowed selects
  simp only [execTapInstructionLoad, irLoaded, leavePins_of_not_leaving stays]

/-- An instruction without a word or a scan of its own only sets the register. -/
theorem execTapInstructionLoad_plain (allowed : tapAllowed (s.at t) code = ok)
    (selects : (if tapCodes.contains code && ok then code else 0xFF) = ir) (plain : ir ∈ [0x11, 0x12, 0x13, 0xFF])
    (idle : drivesPins (s.at t).dbg.ir = false) :
    execTapInstructionLoad t code cells tdi s = .next (irLoaded ir (!ok) (s.at t)) := by
  rw [execTapInstructionLoad_stays allowed selects (.inl idle)]
  simp only [List.mem_cons, List.not_mem_nil, or_false] at plain
  obtain rfl | rfl | rfl | rfl := plain <;> rfl

/-- The debug instructions other than the reset are allowed in M11 alone. -/
theorem tapAllowed_debug (debug : code ∈ [0x11, 0x12, 0x13]) : tapAllowed s code = (s.sys.mode == .m11) := by
  simp only [List.mem_cons, List.not_mem_nil, or_false] at debug
  obtain rfl | rfl | rfl := debug <;> rfl

theorem tapCodes_debug (debug : code ∈ [0x11, 0x12, 0x13]) : tapCodes.contains code = true := by
  simp only [List.mem_cons, List.not_mem_nil, or_false] at debug
  obtain rfl | rfl | rfl := debug <;> rfl

section
variable (idle : drivesPins (s.at t).dbg.ir = false) (debug : code ∈ [0x11, 0x12, 0x13])
include idle debug

theorem execTapInstructionLoad_debug (frozen : (s.at t).sys.mode = .m11) :
    execTapInstructionLoad t code cells tdi s = .next (irLoaded code false (s.at t)) :=
  execTapInstructionLoad_plain ((tapAllowed_debug debug).trans (beq_iff_eq.2 frozen))
    (if_pos (by rw [tapCodes_debug debug]; rfl)) (List.mem_append_left [0xFF] debug) idle

theorem execTapInstructionLoad_refused (running : (s.at t).sys.mode ≠ .m11) :
    execTapInstructionLoad t code cells tdi s = .next (irLoaded 0xFF true (s.at t)) :=
  execTapInstructionLoad_plain ((tapAllowed_debug debug).trans (beq_false_of_ne running))
    (if_neg (by rw [Bool.and_false]; exact Bool.false_ne_true)) (by decide) idle

end

theorem execTapInstructionLoad_idcode (idle : drivesPins (s.at t).dbg.ir = false) :
    execTapInstructionLoad t 0x01 cells tdi s = .next (emit (irLoaded 0x01 false (s.at t)) .tap 1 [0x048763A5]) :=
  (execTapInstructionLoad_stays rfl rfl (.inl idle)).trans (congrArg Host.Outcome.next (if_pos rfl))

theorem execTapInstructionLoad_sample (idle : drivesPins (s.at t).dbg.ir = false) (shifts : tdi ≠ []) :
    execTapInstructionLoad t 0x02 cells tdi s = .next (bndScan cells tdi (irLoaded 0x02 false (s.at t))) :=
  (execTapInstructionLoad_stays rfl rfl (.inl idle)).trans
    (congrArg Host.Outcome.next (if_pos (Bool.and_eq_true_iff.2 ⟨rfl, bne_iff_ne.2 shifts⟩)))

theorem execTapInstructionLoad_extest (off : (s.at t).sys.psOff = true) (cycle : lifeCycle (s.at t) ≠ 2) :
    execTapInstructionLoad t 0x03 cells [] s = .next (extestLow (irLoaded 0x03 false (s.at t))) :=
  (execTapInstructionLoad_stays (s := s) (code := 0x03) (ir := 0x03) (ok := true) (t := t)
    (Bool.and_eq_true_iff.2 ⟨off, bne_iff_ne.2 cycle⟩) rfl (.inr rfl)).trans
    (congrArg Host.Outcome.next ((if_neg (by decide)).trans ((if_neg (by decide)).trans
      ((if_neg (by decide)).trans (if_pos rfl)))))

end

theorem execTapReset_idle (idle : drivesPins (s.at t).dbg.ir = false) :
    execTapReset t s = .next { s.at t with dbg := { (s.at t).dbg with ir := 1, refused := false } } := by
  simp only [execTapReset, leavePins_of_not_leaving (.inl idle)]

theorem execTapReset_leaving (driving : drivesPins (s.at t).dbg.ir = true) (running : (s.at t).sys.mode ≠ .m11)
    (started : (s.at t).sys.mode ≠ .m0) : execTapReset t s =
      (let r := resetControl .debug (coldNow (s.at t)) (s.at t)
       .next { r with dbg := { r.dbg with ir := 1, refused := false } }) := by
  simp only [execTapReset, leavePins_leaving driving (code := 1) rfl running started]

end

/-- Settles O48: each clause is the case of its row or command that the guards leave. -/
theorem diagnosticsAndDebugComplete : Obligations.DiagnosticsAndDebugComplete := by
  intro t line seq addr code low dbl cells tdi s c u a n b v new
  refine ⟨?regRead, ?regWrite, ?freeze, ?pinFalls, ?pinStays, ?pinRises, ?resume, ?final, ?notResume, ?heartbeat, ?reset, ?address,
    ?read, ?blocked, ?running, ?idcode, ?debug, ?refused, ?sample, ?extest, ?tapReset, ?leaving⟩
  case regRead =>
    exact fun l x words starts aligned least fits =>
      ⟨execDiagRegRead_completion words starts aligned least fits, execDiagRegRead_buffer words starts aligned least fits⟩
  case regWrite => exact execDiagRegWrite_inRange
  case freeze => exact fun starts => congrArg _ (runCmd_free starts)
  case pinFalls => exact fun high => congrArg Host.Outcome.next (if_pos (by rw [high]; rfl))
  case pinStays => exact fun low => congrArg Host.Outcome.next (if_neg (by rw [low]; exact Bool.false_ne_true))
  case pinRises => rfl
  case resume => exact execDbgResume_frozen
  case final => exact execDbgResume_final
  case notResume => exact fun other => congrArg Host.Outcome.next (if_pos (bne_iff_ne.2 other))
  case heartbeat => exact fun ended => congrArg Host.Outcome.next (if_neg (ne_true_of_eq_false ended))
  case reset =>
    exact fun loaded mode => congrArg Host.Outcome.next ((if_neg (by rw [loaded]; decide)).trans
      (if_pos ((Bool.or_eq_true ..).mpr (mode.imp beq_iff_eq.2 beq_iff_eq.2))))
  case address =>
    exact fun loaded frozen => congrArg Host.Outcome.next ((if_neg (by rw [loaded]; decide)).trans (if_pos (beq_iff_eq.2 frozen)))
  case read => exact fun loaded frozen readable => execDbgRead_frozen loaded frozen readable
  case blocked => exact fun loaded frozen blocked => execDbgRead_frozen loaded frozen blocked
  case running => exact execDbgRead_running
  case idcode => exact execTapInstructionLoad_idcode
  case debug => exact execTapInstructionLoad_debug
  case refused => exact execTapInstructionLoad_refused
  case sample => exact execTapInstructionLoad_sample
  case extest => exact execTapInstructionLoad_extest
  case tapReset => exact execTapReset_idle
  case leaving => rintro driving running started r rfl; exact execTapReset_leaving driving running started

end Sys2Proof.Machine
end
